-- ==== Sys2Proof/Word.lean ====
section
/-! DEFINITION. The word types of the device. -/

namespace Sys2Proof

/-- A register or memory word (R217, R233). -/
abbrev Word := BitVec 32

/-- A byte. -/
abbrev Byte := BitVec 8

end Sys2Proof
end

