-- ==== Sys2Proof/Syntax.lean ====
section
/-! DEFINITION. The commands the device takes, with their operands: one constructor for each row of the opcode table. -/

namespace Sys2Proof

/-- A run of bytes. -/
abbrev Bytes := List Byte

/-- Who makes a register access: a core (in the world its executing context has), the host (in the world HIF_HPOL.HW
gives it, R343) or the Tlaell monitor (Keeper, R396). -/
inductive Who where
  | core (p : Nat)
  | host
  | tlaell
deriving DecidableEq, Repr

/-- What goes wrong inside the device while a descriptor executes (R351, steps 3 and 4). -/
inductive DescErr where
  /-- nothing. -/
  | sound
  /-- the buffered copy fails its CRC before the first register access. -/
  | buffer
  /-- the target of this register access, counted from 0, finds a parity error. -/
  | parity (k : Nat)
deriving DecidableEq, Repr

/-- The blocks with a commit lock. -/
inductive LockBlk where
  | flk | pha | anv | rlc | icu | hif
deriving DecidableEq, Repr

/-- What the pins give a tick (R94 to R101) and what has gone wrong in stored bits since the tick before. A channel not
listed gives code 0; a rail not listed gives window codes 0 and full-range code 0. -/
structure TickIn where
  /-- converter codes of current channel n, oldest first, before the back end negates the inverted ones (R94, R95). -/
  cur : List (Nat × List Int) := []
  /-- window codes of rail r, most recent first, and its full-range code (R98). -/
  vs : List (Nat × List Int × Nat) := []
  /-- most recent completed code of input channel c (R101). -/
  vin : List (Nat × Nat) := []
  /-- bits inverted in the word of tick channel c on its way (R21, R92). -/
  hit : List (Nat × Word) := []
  /-- stored bits of bank words that have flipped: key 128·lane + 64·bank + word, and the 40 stored bits (R126). -/
  upset : List (Nat × BitVec 40) := []
  /-- codeword bits of checked memory words that have flipped: the word's key in the memory map (R277, R285). -/
  seu : List (Nat × BitVec 39) := []
deriving DecidableEq, Repr

/-- The best bellwether and the sender, as one ANNOUNCE frame carries them (R48). -/
structure Announce where
  prio : Nat := 0xFF
  bwId : Nat := 0
  hops : Nat := 0
  sender : Nat := 0
  uniq : Nat := 0
  upstream : Bool := false
deriving DecidableEq, Repr

/-- A protection of R152, with the rail, phase, input or diode it watches. -/
inductive Prot where
  | poc (n : Nat) | sf (r : Nat) | pot (n : Nat) | roc (r : Nat) | ov (r : Nat) | uv (r : Nat)
  | vinUv (c : Nat) | vinOv (c : Nat) | die | dio (j : Nat)
deriving DecidableEq, Repr

/-- An AVSBus frame as the slave takes it: port, select, Cmd, data, and whether its CRC-3 passes (R181, R182). -/
structure AvsOp where
  port : Nat := 0
  sel : Nat := 0
  /-- Cmd: 0 write and commit, 1 write and hold, 3 read. -/
  cmd : Nat := 0
  data : Nat := 0
  crcOk : Bool := true
deriving DecidableEq, Repr

/-- The packet error check of a PMBus transaction. -/
inductive Pec where
  | absent | good | bad
deriving DecidableEq, Repr

/-- A PMBus transaction: port, write or read, data bytes lowest first, packet error check (R184). -/
structure PmbOp where
  q : Nat := 0
  write : Bool := false
  data : Bytes := []
  pec : Pec := .absent
deriving DecidableEq, Repr

/-- The units that run long operations (R255). -/
inductive LUnit where
  | divider | cordic | fpDivider | mac | window
deriving DecidableEq, Repr

/-- An access at a local RAM port through the peer window (R278, R279). -/
structure PortReq where
  /-- core that asks. -/
  asker : Nat := 0
  addr : Nat := 0
  width : Nat := 4
  /-- none for a read. -/
  store : Option Word := none
deriving DecidableEq, Repr

/-- The outcome of a descriptor read (R351): the descriptors' bytes, or an error or timeout. -/
inductive FetchRes where
  | data (ds : List Bytes)
  | error
deriving DecidableEq, Repr

/-- A ring that an out-of-range head doorbell stops (R348). -/
inductive RingId where
  | cq (q : Nat) | tele (t : Nat) | event
deriving DecidableEq, Repr

/-- What the flash's SFDP tables report at discovery (R378). -/
structure FlashId where
  /-- the signature, and a Basic Flash Parameter Table of JESD216 revision B or later. -/
  sfdp : Bool := true
  densLog2 : Nat := 26
  pageLog2 : Nat := 8
  /-- the erase types: log2 of their sizes. -/
  erases : List Nat := [12, 16]
  /-- an xSPI Profile 1.0 table reports 8D-8D-8D read. -/
  read8D : Bool := false
  /-- 1-4-4 fast read. -/
  read144 : Bool := false
  /-- the maximum clock reported. -/
  maxMHz : Nat := 50
  susp : Bool := false
deriving DecidableEq, Repr

/-- What Kindle meets outside the device (R374 to R378): the flash found, if any. -/
structure KindleIn where
  flash : Option FlashId := none
deriving DecidableEq, Repr

/-- How a host's request arrives (R341, R343): sound, poisoned, or with a failing end-to-end CRC. -/
inductive Tlp where
  | sound | poisoned | badEcrc
deriving DecidableEq, Repr

/-- What wakes the device from Ember (R412). -/
inductive WakeSrc where
  | fabric (k : Nat) | perst
deriving DecidableEq, Repr

/-- Instruction prefixes (R260 to R263). -/
structure Pfx where
  win : Bool := false
  sat : Bool := false
  rep : Bool := false
  bitx : Bool := false
  atom : Bool := false
  det : Bool := false
deriving DecidableEq, Repr

/-- The operands of one Pyhorn instruction and the core that issues it (R241). Fields an instruction does not have are 0. -/
structure PyOp where
  /-- the core. -/
  p : Nat := 0
  pfx : Pfx := {}
  /-- the form its opcode selects, 0 for an instruction with one opcode. -/
  form : Nat := 0
  d : Nat := 0
  s : Nat := 0
  t : Nat := 0
  n : Nat := 0
  /-- displacement. -/
  disp : Int := 0
  /-- immediate: signed for the ALU forms, the indirect bit address and STWI, else as its bytes spell it. -/
  imm : Int := 0
  /-- not encoded: for an instruction with elements or repetitions, how many run before an eligible request is taken
  (R259, R262); none where none arrives meanwhile. -/
  stop : Option Nat := none
deriving DecidableEq, Repr


/-- When a filtered edge of the motion feedback unit is recognised: the unit clock, and the cycles since T0 of the tick
(R431, R433). -/
structure MfuTime where
  clock : Nat
  sub : Nat := 0
deriving DecidableEq, Repr

/-- The commands: one constructor for each row of spec/opcode_table.json, in its order. -/
inductive Instr where
  /-- TICK (R17): At each T0 the sense front end samples, Anvil computes every bound lane and the phase array commits duty words on the fixed schedule. -/
  | tick (t : TickIn)
  /-- SWAP_WINDOW (R27): Five ns before each tick boundary, pending coefficient swaps, reference steps and mode requests are captured. -/
  | swapWindow
  /-- MODE_SWITCH (R40): A captured tick-mode change takes effect at the allowed tick boundary. -/
  | modeSwitch
  /-- BASE_GRID_INSTANT (R39): Every 50 ns the base-grid count advances and flock time and T0 eligibility are evaluated. -/
  | baseGridInstant
  /-- CARRIER_PERIOD_START (R69): A phase's carrier period begins, taking its word in force and any new period or offset. -/
  | carrierPeriodStart (n : Nat)
  /-- PLL_LOCK (R36): A PLL locks and its lock bit sets. -/
  | pllLock (k : Nat)
  /-- DLCAL_DONE (R72): The first calibration of the fine-delay lines completes and DLCAL_OK sets. -/
  | dlcalDone
  /-- XIN_LOSS (R37): No XIN edge for 200 ns puts the PLLs in holdover and sets XLOSS. -/
  | xinLoss
  /-- XIN_RETURN (R37): XIN returns in holdover and the PLLs relock within the slew limit. -/
  | xinReturn
  /-- HOLDOVER_LIMIT (R37): LIMIT µs of holdover elapse without XIN and the device decides a device quench. -/
  | holdoverLimit
  /-- ENGINE_PLL_FAULT (R38): The engine clock deviates by more than 2 % and the device enters Quench. -/
  | enginePllFault
  /-- TBU_COMPARE (R43): A compare unit fires TBU_CMP_n when flock time reaches its value, then clears its EN bit. -/
  | tbuCompare (n : Nat)
  /-- TBC_READ (R42): A read of TBU_TBC_LO latches TBC[63:32] and the sub-tick count into their snapshots. -/
  | tbcRead (w : Who) (sub : Nat)
  /-- BGC_READ (R42): A read of TBU_BGC_LO latches the high base-grid count and TBU_FOFS into their snapshots. -/
  | bgcRead (w : Who)
  /-- PORT_SYMBOLS_DETECTED (R47): An enabled DOWN port detects symbols and enters TRAIN. -/
  | portSymbolsDetected (p : Nat)
  /-- PORT_TRAINED (R47): 64 consecutive valid aligned symbols move the port to MEASURE. -/
  | portTrained (p : Nat)
  /-- PORT_MEASURED (R47): 16 DELAYREQ round trips complete; DELAY is written and the port goes UP. -/
  | portMeasured (p : Nat) (trips : Nat) (turn : Nat)
  /-- PORT_DOWN (R47): Missing tick markers, code violations or PORT_EN cleared take a port DOWN.
  `miss`: tick markers missing in a row; `viol`: code violations within 1 µs, or none where a PHY supply has left its range
  (R444). -/
  | portDown (p : Nat) (miss : Nat) (viol : Option Nat)
  /-- TICK_MARKER_RX (R51): A tick marker received on the upstream port drives the grid servo and the lock state.
  `lag`: steps of 62.5 ps from the local base-grid instant before it to the marker's arrival. -/
  | tickMarkerRx (p : Nat) (lag : Nat)
  /-- ANNOUNCE_TIMER (R48): Every 64 base periods an ANNOUNCE frame is sent on each UP port. -/
  | announceTimer
  /-- ANNOUNCE_RX (R48): A received ANNOUNCE updates the bellwether choice, the upstream port and the hop count.
  `frame`: the control frame as it came. -/
  | announceRx (p : Nat) (frame : Bytes)
  /-- ANNOUNCE_TIMEOUT (R49): An upstream port silent for 4 intervals is treated as not announcing and the choice is made again. -/
  | announceTimeout (p : Nat)
  /-- TIME_FRAME_RX (R47): A joining device takes flock time from the first good TIME frame on its upstream port.
  `frame`: the control frame as it came. -/
  | timeFrameRx (p : Nat) (frame : Bytes)
  /-- DUTY_FRAME_RX (R53): A follower receives and checks a duty frame for a span entry. -/
  | dutyFrameRx (p : Nat) (frame : Bytes)
  /-- DUTY_APPLY (R53): 24 ns after the sender's start the follower applies the duty word and forwards the frame. -/
  | dutyApply (n : Nat) (ofs : Nat)
  /-- DUTY_FRAME_TIMEOUT (R54): An expected duty frame is missing or bad; the word in force is kept and DUTY counts. -/
  | dutyFrameTimeout (n : Nat)
  /-- SPANLOSS_RX (R54): A lead that receives SPANLOSS sets LOST and continues the rail lead-only.
  `frame`: the control frame as it came. -/
  | spanlossRx (p : Nat) (frame : Bytes)
  /-- REJOIN (R54): A write of REJOIN ends span loss for the entry. -/
  | rejoin (w : Who) (n : Nat)
  /-- MESSAGE_QUEUE (R56): A write advancing FLK_TX_TAIL queues a message frame for transmission. -/
  | messageQueue (w : Who) (tail : Nat)
  /-- MESSAGE_RX (R57): A received message frame is checked, acknowledged, routed, forwarded or delivered. -/
  | messageRx (p : Nat) (frame : Bytes)
  /-- ACK_RX (R56): An acknowledge ends the retransmission of the acknowledged frame. -/
  | ackRx (p : Nat) (seq : Nat) (src : Nat)
  /-- ACK_TIMEOUT (R56): No acknowledge within 2 µs resends the frame, or drops it after 3 tries. -/
  | ackTimeout (p : Nat)
  /-- FLK_COMMIT_LOCK (R59): A write of 1 to FLK_COMMIT.LOCK runs the span check and sets LOCK if accepted. -/
  | flkCommitLock (w : Who)
  /-- PHA_COMMIT_LOCK (R88): A write of 1 to PHA_COMMIT.LOCK checks rails and member phases and sets LOCK if accepted. -/
  | phaCommitLock (w : Who)
  /-- ANV_COMMIT_LOCK (R135): A write of 1 to ANV_COMMIT.LOCK checks chains and bindings and sets LOCK if accepted. -/
  | anvCommitLock (w : Who)
  /-- RLC_COMMIT_LOCK (R196): A write of 1 to RLC_COMMIT.LOCK checks AVS maps, span arbitration and scale, and sets LOCK if accepted. -/
  | rlcCommitLock (w : Who)
  /-- ICU_COMMIT_LOCK (R316): A write of 1 to ICU_COMMIT.LOCK checks every enabled source target and vector and sets LOCK if accepted. -/
  | icuCommitLock (w : Who)
  /-- HIF_COMMIT_LOCK (R373): A write of 1 to HIF_COMMIT.LOCK checks enabled queues, rings and bandwidth and sets LOCK if accepted. -/
  | hifCommitLock (w : Who)
  /-- COMMIT_UNLOCK (R407): A write of 0 to a commit LOCK clears it in Hold and is ignored otherwise. -/
  | commitUnlock (w : Who) (b : LockBlk)
  /-- SEN_DELAY_END (R61): DLY µs after SENg rises, the group's phases may leave mid level. -/
  | senDelayEnd (g : Nat)
  /-- STAGE_ABSENT (R62): TFLT below 0.1 V for 1 µs marks the stage absent. -/
  | stageAbsent (n : Nat)
  /-- STAGE_PRESENT (R62): TFLT in the middle band for 10 ms declares presence and moves an ABSENT member to PARKED. -/
  | stagePresent (n : Nat)
  /-- STAGE_FAULT (R62): TFLT above 2.5 V for FLT_FILT ns is a stage fault.
  `above`: TFLT came above 2.5 V, else it came back to the middle band. -/
  | stageFault (n : Nat) (above : Bool)
  /-- OC_TRIP (R82): ISNSn crosses its overcurrent threshold; the latch drives the pin low and PHA_OC_g fires.
  `since`: steps of 62.5 ps since the last rising edge of PWMn. -/
  | ocTrip (n : Nat) (since : Nat)
  /-- PHASE_ADD (R79): PHA_PH_CMD ADD moves a PARKED phase to BLEND or ACTIVE at the next T0. -/
  | phaseAdd (w : Who) (n : Nat)
  /-- PHASE_SHED (R79): PHA_PH_CMD SHED moves an ACTIVE or BLEND phase to PARKED at the next T0. -/
  | phaseShed (w : Who) (n : Nat)
  /-- PHASE_REMOVE (R79): PHA_PH_CMD REMOVE fails the phase with cause 4 at the next T0. -/
  | phaseRemove (w : Who) (n : Nat)
  /-- PHASE_RESTORE (R79): PHA_PH_CMD RESTORE returns a FAILED phase to PARKED at the next T0 if its stage is present and sound. -/
  | phaseRestore (w : Who) (n : Nat)
  /-- GOVERNOR_ADD (R76): The add dwell count reaches ADD_DWELL and the governor moves a PARKED member to BLEND. -/
  | governorAdd (r : Nat)
  /-- GOVERNOR_SHED (R76): The shed dwell count reaches SHED_DWELL and the governor sheds an ACTIVE member. -/
  | governorShed (r : Nat)
  /-- READD (R80): An event at PHA_READD_r moves PARKED members to BLEND and starts the shed hold. -/
  | readd (r : Nat) (ch : Nat)
  /-- READD_HOLD_END (R80): READD_HOLD ticks elapse and the governor may shed again. -/
  | readdHoldEnd (r : Nat)
  /-- BLEND_END (R75): The end of the BLEND-th carrier period moves a BLEND phase to ACTIVE. -/
  | blendEnd (n : Nat)
  /-- TEMP_CONVERSION (R102): A TFLT, die or remote-diode temperature conversion completes and writes SNS_TEMP_k. -/
  | tempConversion (k : Nat) (raw : Int) (st : Nat)
  /-- TALLY_INJECT (R93): Arming SNS_TINJ inverts TALLY bit 0 of the next word of the chosen channel. -/
  | tallyInject (w : Who) (c : Nat)
  /-- CAP_STAT_READ (R105): A read of SNS_CAP_STAT latches SNS_CAP_TBC_LO and SNS_CAP_TBC_HI. -/
  | capStatRead (w : Who)
  /-- CAL_UPDATE (R106): At each 100 µs update instant, effective gains and offsets step towards their targets. -/
  | calUpdate
  /-- OFFSET_ESTIMATE (R108): An offset estimate over 65,536 pairs or ticks completes and may set CALFLT. -/
  | offsetEstimate (k : Nat)
  /-- ZOFS_LEARN (R109): 4,096 qualifying ticks complete a zero-current mean, which is written to ZOFS. -/
  | zofsLearn (n : Nat)
  /-- DOMAIN_GAIN_WINDOW (R110): A domain window ends, and est is computed and written or refused. -/
  | domainGainWindow (d : Nat)
  /-- LR_ESTIMATE (R111): 4,096 slope pairs complete and L and R estimates are written. -/
  | lrEstimate (n : Nat)
  /-- PLEAN_EVENT (R123): An event at ANV_PLEAN_l sets PLPEND, or PLOVR if already pending. -/
  | pleanEvent (l : Nat) (ch : Nat)
  /-- PRELEAN_END (R123): The lane's pre-lean counter reaches 0 and the offset stops. -/
  | preleanEnd (l : Nat)
  /-- SLOAD_EVENT (R132): An event at ANV_SLOAD_l sets SLPEND, or SLOVR if already pending. -/
  | sloadEvent (l : Nat) (ch : Nat)
  /-- TRIG_PLEAN (R123): A write of ANV_LN_TRIG_l.PLEAN acts as a pre-lean event. -/
  | trigPlean (w : Who) (l : Nat)
  /-- TRIG_SLOAD (R132): A write of ANV_LN_TRIG_l.SLOAD acts as a state-load event. -/
  | trigSload (w : Who) (l : Nat)
  /-- SWAP_REQUEST (R127): ANV_LN_SWAP with LANE sets SWPEND, and SWPLD with LOADST. -/
  | swapRequest (w : Who) (l : Nat) (ld : Bool)
  /-- SWAP_ALLBOUND (R127): ANV_LN_SWAP with ALLBOUND sets SWPEND for every enabled lane. -/
  | swapAllbound (w : Who) (ld : Bool)
  /-- SWAP_CANCEL (R127): ANV_LN_SWAP with CANCEL clears SWPEND and SWPLD of the named lanes. -/
  | swapCancel (w : Who) (l : Nat) (all : Bool)
  /-- SHADOW_WRITE (R128): A write to a shadow bank word clears SHPAR, or is held to the boundary while a swap is captured. -/
  | shadowWrite (w : Who) (l : Nat) (k : Nat) (v : Word)
  /-- BANK_CHECK (R128): The background checker's 64-tick pass reports shadow parity errors and repairs spare lanes. -/
  | bankCheck
  /-- FAULTED_CLEAR (R140): Writing 1 to FAULTED of a disabled lane clears it and zeroes its banks and states. -/
  | faultedClear (w : Who) (l : Nat)
  /-- SNAPSHOT_REQUEST (R142): ANV_LN_SNAP.REQ copies y_out and the states at the next T0+40 and sets RDY. -/
  | snapshotRequest (w : Who) (l : Nat)
  /-- DROOP_CROSSING (R145): The sense voltage crosses the droop threshold for DGL ns and the armed rail enters FORCE. -/
  | droopCrossing (r : Nat)
  /-- RELEASE_CROSSING (R145): The voltage rises above the release threshold and FORCE ends in LOCKOUT with BLW_REL_r. -/
  | releaseCrossing (r : Nat)
  /-- MAXON_EXPIRY (R146): A forced phase's MAXON elapses and it leaves the forced set. -/
  | maxonExpiry (n : Nat)
  /-- LOCKOUT_END (R145): LOCKOUT × 10 ns elapse and the droop side returns to ARMED. -/
  | lockoutEnd (r : Nat)
  /-- OVERSHOOT_CROSSING (R148): The voltage stays above the overshoot threshold for DGL ns; OVACT sets and BLW_OVS_r fires. -/
  | overshootCrossing (r : Nat)
  /-- OVERSHOOT_RELEASE (R148): The voltage falls below the overshoot-release threshold and OVACT clears. -/
  | overshootRelease (r : Nat)
  /-- OVMAX_EXPIRY (R148): OVMAX × 10 ns elapse and the overshoot action ends until release. -/
  | ovmaxExpiry (r : Nat)
  /-- WARN_ASSERT (R150): A filtered WARNk assertion fires WARN_k. -/
  | warnAssert (k : Nat)
  /-- PLARM (R151): An event at BLW_PLARM_r pre-lean arms the rail. -/
  | plarm (r : Nat)
  /-- PLARM_END (R151): The arming counter reaches 0 and PLARM clears. -/
  | plarmEnd (r : Nat)
  /-- PROTECTION_ACTION (R153): A protection's filter count reaches FILT and its ACTION is executed. -/
  | protectionAction (x : Prot)
  /-- PROTECTION_WARN (R154): A warn threshold held for FILT sets the warn bit and fires the warning producer. -/
  | protectionWarn (x : Prot)
  /-- BLW_QUENCH (R157): An event at BLW_QUENCH_r quenches the rail with QCAUSE 11. -/
  | blwQuench (r : Nat)
  /-- BLW_QUENCH_DEV (R161): An event at BLW_QUENCH_DEV quenches the device with DQCAUSE 11. -/
  | blwQuenchDev
  /-- QUENCH_RAIL_COMMAND (R157): BLW_QCMD OP 1 quenches rail RAIL with QCAUSE 12. -/
  | quenchRailCommand (w : Who) (r : Nat)
  /-- QUENCH_DEVICE_COMMAND (R161): BLW_QCMD OP 2 quenches the device with DQCAUSE 12. -/
  | quenchDeviceCommand (w : Who)
  /-- HICCUP_END (R160): The hiccup time ends, and once the quantity is inside its threshold the rail restarts its soft-start. -/
  | hiccupEnd (r : Nat)
  /-- RETRY_COUNT_CLEAR (R160): RTRY clears after 100 ms of regulation without a protection quench. -/
  | retryCountClear (r : Nat)
  /-- PHASE_HICCUP_END (R160): A dropped phase is restored to PARKED after its own hiccup and RCNT increments. -/
  | phaseHiccupEnd (n : Nat)
  /-- PHASE_RETRY_CLEAR (R160): RCNT clears after 100 ms in ACTIVE. -/
  | phaseRetryClear (n : Nat)
  /-- LATCH_CLEAR (R159): Writing 1 to a BLW_LATCH_SUM bit clears LATCH of that rail. -/
  | latchClear (w : Who) (v : Word)
  /-- TON_DELAY_END (R173): The turn-on delay ends and the rail enters RAMP at its enable instant. -/
  | tonDelayEnd (r : Nat)
  /-- TOFF_DELAY_END (R175): The turn-off delay ends and the rail enters FALL. -/
  | toffDelayEnd (r : Nat)
  /-- GROUP_ON (R177): RLC_GRP_CMD OP 1 sets ON in every rail of the group. -/
  | groupOn (w : Who) (g : Nat)
  /-- GROUP_OFF (R177): RLC_GRP_CMD OP 2 clears ON in every rail of the group. -/
  | groupOff (w : Who) (g : Nat)
  /-- FREF_WRITE (R178): A write to RLC_RAIL_FREF_r requests a FW target, or holds it for AT when ATEN is 1. -/
  | frefWrite (w : Who) (r : Nat) (v : Word)
  /-- FREF_AT_RELEASE (R193): The window before flock time AT releases a held FREF write and ATEN clears. -/
  | frefAtRelease (r : Nat)
  /-- HREF_WRITE (R178): A write to RLC_RAIL_HREF_r sets or invalidates the HOST request slot. -/
  | hrefWrite (w : Who) (r : Nat) (v : Word)
  /-- AVS_TARGET_VOLTAGE_WRITE (R182): An AVSBus write-and-commit of target voltage sets the AVS slot together with the port's held values. -/
  | avsTargetVoltageWrite (o : AvsOp)
  /-- AVS_WRITE_AND_HOLD (R181): An AVSBus write-and-hold stores a value in the port's hold register. -/
  | avsWriteAndHold (o : AvsOp)
  /-- AVS_TARGET_VOLTAGE_READ (R182): An AVSBus read returns the reference in force in mV. -/
  | avsTargetVoltageRead (o : AvsOp)
  /-- AVS_TRANSITION_RATE (R182): An AVSBus transition-rate frame reads or sets SLEW.UP and DN. -/
  | avsTransitionRate (o : AvsOp)
  /-- AVS_RAIL_CURRENT (R182): An AVSBus read returns the mean rail current. -/
  | avsRailCurrent (o : AvsOp)
  /-- AVS_RAIL_TEMPERATURE (R182): An AVSBus read returns the hottest valid member temperature. -/
  | avsRailTemperature (o : AvsOp)
  /-- AVS_RESET_VOLTAGE (R182): An AVSBus reset-to-default sets the AVS slot to the FW slot value. -/
  | avsResetVoltage (o : AvsOp)
  /-- AVS_STATUS (R182): An AVSBus status frame reads, or writes without effect, the status bits. -/
  | avsStatus (o : AvsOp)
  /-- AVS_VERSION (R182): An AVSBus version read returns 0x0001. -/
  | avsVersion (o : AvsOp)
  /-- AVS_UNSUPPORTED (R181): An AVSBus frame with an unsupported command, select or value is answered 0b11. -/
  | avsUnsupported (o : AvsOp)
  /-- PAGE (R184): PMBus PAGE reads or sets the port's page. -/
  | pageCmd (o : PmbOp)
  /-- OPERATION_ON (R186): PMBus OPERATION 0x80 turns the rail on. -/
  | operationOn (o : PmbOp)
  /-- OPERATION_OFF (R186): PMBus OPERATION 0x40 turns the rail off through WAIT_OFF, TOFF_DLY and FALL. -/
  | operationOff (o : PmbOp)
  /-- OPERATION_IMMEDIATE_OFF (R175): PMBus OPERATION 0x00 moves the rail to OFF at the next T0. -/
  | operationImmediateOff (o : PmbOp)
  /-- OPERATION_MARGIN_LOW (R186): PMBus OPERATION 0x98 or 0x94 selects VOUT_MARGIN_LOW as the PMB slot value. -/
  | operationMarginLow (o : PmbOp)
  /-- OPERATION_MARGIN_HIGH (R186): PMBus OPERATION 0xA8 or 0xA4 selects VOUT_MARGIN_HIGH as the PMB slot value. -/
  | operationMarginHigh (o : PmbOp)
  /-- ON_OFF_CONFIG (R186): PMBus ON_OFF_CONFIG reads or sets ONCFG. -/
  | onOffConfig (o : PmbOp)
  /-- CLEAR_FAULTS (R190): PMBus CLEAR_FAULTS clears the page's status and fault bits except LATCH. -/
  | clearFaults (o : PmbOp)
  /-- WRITE_PROTECT (R186): PMBus WRITE_PROTECT reads or sets WPROT. -/
  | writeProtect (o : PmbOp)
  /-- STORE_USER_ALL (R184): PMBus STORE_USER_ALL fires RLC_PMBSTORE. -/
  | storeUserAll (o : PmbOp)
  /-- RESTORE_USER_ALL (R184): PMBus RESTORE_USER_ALL fires RLC_PMBSTORE. -/
  | restoreUserAll (o : PmbOp)
  /-- CAPABILITY (R186): PMBus CAPABILITY returns 0xD4. -/
  | capability (o : PmbOp)
  /-- VOUT_MODE (R185): PMBus VOUT_MODE returns 0x14. -/
  | voutMode (o : PmbOp)
  /-- VOUT_COMMAND (R185): PMBus VOUT_COMMAND reads or sets the PMB slot. -/
  | voutCommand (o : PmbOp)
  /-- VOUT_MAX (R186): PMBus VOUT_MAX reads or sets VMAX. -/
  | voutMax (o : PmbOp)
  /-- VOUT_MIN (R186): PMBus VOUT_MIN reads or sets VMIN. -/
  | voutMin (o : PmbOp)
  /-- VOUT_MARGIN_HIGH (R186): PMBus VOUT_MARGIN_HIGH reads or sets the margin-high VSET. -/
  | voutMarginHigh (o : PmbOp)
  /-- VOUT_MARGIN_LOW (R186): PMBus VOUT_MARGIN_LOW reads or sets the margin-low VSET. -/
  | voutMarginLow (o : PmbOp)
  /-- VOUT_TRANSITION_RATE (R186): PMBus VOUT_TRANSITION_RATE reads or sets the slew rates. -/
  | voutTransitionRate (o : PmbOp)
  /-- VOUT_DROOP (R186): PMBus VOUT_DROOP reads or sets the load line. -/
  | voutDroop (o : PmbOp)
  /-- VOUT_SCALE_LOOP (R186): PMBus VOUT_SCALE_LOOP reads or sets SCALE while RLC is unlocked. -/
  | voutScaleLoop (o : PmbOp)
  /-- VOUT_OV_FAULT_LIMIT (R186): PMBus VOUT_OV_FAULT_LIMIT reads or sets BLW_OV_r.FABS. -/
  | voutOvFaultLimit (o : PmbOp)
  /-- VOUT_UV_FAULT_LIMIT (R186): PMBus VOUT_UV_FAULT_LIMIT reads or sets BLW_UV_r.FABS. -/
  | voutUvFaultLimit (o : PmbOp)
  /-- VOUT_OV_WARN_LIMIT (R186): PMBus VOUT_OV_WARN_LIMIT reads or sets the OV WREL. -/
  | voutOvWarnLimit (o : PmbOp)
  /-- VOUT_UV_WARN_LIMIT (R186): PMBus VOUT_UV_WARN_LIMIT reads or sets the UV WREL. -/
  | voutUvWarnLimit (o : PmbOp)
  /-- VOUT_OV_FAULT_RESPONSE (R188): PMBus VOUT_OV_FAULT_RESPONSE reads or sets the OV ladder. -/
  | voutOvFaultResponse (o : PmbOp)
  /-- VOUT_UV_FAULT_RESPONSE (R188): PMBus VOUT_UV_FAULT_RESPONSE reads or sets the UV ladder. -/
  | voutUvFaultResponse (o : PmbOp)
  /-- IOUT_OC_FAULT_LIMIT (R186): PMBus IOUT_OC_FAULT_LIMIT reads or sets BLW_ROC_r.FTH. -/
  | ioutOcFaultLimit (o : PmbOp)
  /-- IOUT_OC_WARN_LIMIT (R186): PMBus IOUT_OC_WARN_LIMIT reads or sets BLW_ROC_r.WTH. -/
  | ioutOcWarnLimit (o : PmbOp)
  /-- IOUT_OC_FAULT_RESPONSE (R188): PMBus IOUT_OC_FAULT_RESPONSE reads or sets the rail overcurrent ladder. -/
  | ioutOcFaultResponse (o : PmbOp)
  /-- OT_FAULT_LIMIT (R186): PMBus OT_FAULT_LIMIT reads or sets the phase temperature fault threshold. -/
  | otFaultLimit (o : PmbOp)
  /-- OT_WARN_LIMIT (R186): PMBus OT_WARN_LIMIT reads or sets the phase temperature warn threshold. -/
  | otWarnLimit (o : PmbOp)
  /-- OT_FAULT_RESPONSE (R188): PMBus OT_FAULT_RESPONSE reads or sets the phase temperature ladder. -/
  | otFaultResponse (o : PmbOp)
  /-- VIN_OV_FAULT_LIMIT (R186): PMBus VIN_OV_FAULT_LIMIT reads or sets the input OV threshold. -/
  | vinOvFaultLimit (o : PmbOp)
  /-- VIN_UV_FAULT_LIMIT (R186): PMBus VIN_UV_FAULT_LIMIT reads or sets the input UV threshold. -/
  | vinUvFaultLimit (o : PmbOp)
  /-- TON_DELAY (R186): PMBus TON_DELAY reads or sets the turn-on delay. -/
  | tonDelay (o : PmbOp)
  /-- TON_RISE (R186): PMBus TON_RISE reads or sets the ramp time. -/
  | tonRise (o : PmbOp)
  /-- TOFF_DELAY (R186): PMBus TOFF_DELAY reads or sets the turn-off delay. -/
  | toffDelay (o : PmbOp)
  /-- TOFF_FALL (R186): PMBus TOFF_FALL reads or sets the fall time. -/
  | toffFall (o : PmbOp)
  /-- STATUS_BYTE (R187): PMBus STATUS_BYTE returns the status summary byte. -/
  | statusByte (o : PmbOp)
  /-- STATUS_WORD (R187): PMBus STATUS_WORD returns the status summary word. -/
  | statusWord (o : PmbOp)
  /-- STATUS_VOUT (R187): PMBus STATUS_VOUT returns the output voltage status. -/
  | statusVout (o : PmbOp)
  /-- STATUS_IOUT (R187): PMBus STATUS_IOUT returns the output current status. -/
  | statusIout (o : PmbOp)
  /-- STATUS_INPUT (R187): PMBus STATUS_INPUT returns the input status. -/
  | statusInput (o : PmbOp)
  /-- STATUS_TEMPERATURE (R187): PMBus STATUS_TEMPERATURE returns the temperature status. -/
  | statusTemperature (o : PmbOp)
  /-- STATUS_CML (R187): PMBus STATUS_CML returns the communication status. -/
  | statusCml (o : PmbOp)
  /-- STATUS_MFR_SPECIFIC (R187): PMBus STATUS_MFR_SPECIFIC returns PHASE_LOST, LANE_MOVED, LATCHED, SPANLOSS and BELLOWS. -/
  | statusMfrSpecific (o : PmbOp)
  /-- READ_VIN (R186): PMBus READ_VIN returns the input voltage. -/
  | readVin (o : PmbOp)
  /-- READ_VOUT (R186): PMBus READ_VOUT returns the output voltage. -/
  | readVout (o : PmbOp)
  /-- READ_IOUT (R186): PMBus READ_IOUT returns the rail current. -/
  | readIout (o : PmbOp)
  /-- READ_TEMPERATURE_1 (R186): PMBus READ_TEMPERATURE_1 returns the hottest member TFLT temperature. -/
  | readTemperature1 (o : PmbOp)
  /-- READ_TEMPERATURE_2 (R186): PMBus READ_TEMPERATURE_2 returns the hottest die sensor. -/
  | readTemperature2 (o : PmbOp)
  /-- READ_POUT (R186): PMBus READ_POUT returns the output power. -/
  | readPout (o : PmbOp)
  /-- PMBUS_REVISION (R186): PMBus PMBUS_REVISION returns 0x44. -/
  | pmbusRevision (o : PmbOp)
  /-- MFR_ID (R186): PMBus MFR_ID returns "WAIMOND". -/
  | mfrId (o : PmbOp)
  /-- MFR_MODEL (R186): PMBus MFR_MODEL returns "MYN7144". -/
  | mfrModel (o : PmbOp)
  /-- MFR_REVISION (R186): PMBus MFR_REVISION returns "B". -/
  | mfrRevision (o : PmbOp)
  /-- MFR_PHASE_CMD (R189): PMBus MFR_PHASE_CMD issues a phase command for a member of the page's rail. -/
  | mfrPhaseCmd (o : PmbOp)
  /-- MFR_PHASE_COUNT (R189): PMBus MFR_PHASE_COUNT returns NACT and NPARK. -/
  | mfrPhaseCount (o : PmbOp)
  /-- MFR_BELLOWS_COUNT (R189): PMBus MFR_BELLOWS_COUNT returns DCNT without clearing it. -/
  | mfrBellowsCount (o : PmbOp)
  /-- MFR_LATCH_CLEAR (R189): PMBus MFR_LATCH_CLEAR clears LATCH of the page's rail. -/
  | mfrLatchClear (o : PmbOp)
  /-- MFR_REF_IN_FORCE (R189): PMBus MFR_REF_IN_FORCE returns the reference in force. -/
  | mfrRefInForce (o : PmbOp)
  /-- MFR_TBC (R189): PMBus MFR_TBC returns TBC at the start of the transaction. -/
  | mfrTbc (o : PmbOp)
  /-- MFR_FAULT_LOG (R189): PMBus MFR_FAULT_LOG returns the latest MRAM fault record of the rail. -/
  | mfrFaultLog (o : PmbOp)
  /-- ALERT_RESPONSE (R190): A read of the alert response address answers and releases PMB_ALERTq_N. -/
  | alertResponse (q : Nat)
  /-- PMBUS_UNSUPPORTED (R184): An unsupported PMBus command sets STATUS_CML bit 7 and does nothing else. -/
  | pmbusUnsupported (o : PmbOp)
  /-- PMBUS_SCL_TIMEOUT (R455): SCL held low for 25 ms to 35 ms releases SDA and discards the transaction. -/
  | pmbusSclTimeout (q : Nat)
  /-- CHANNEL_FORWARD (R204): A class-B channel group forwards a waiting event in its round-robin turn. -/
  | channelForward (g : Nat)
  /-- DELAY_ELEMENT_FIRE (R201): A delay element fires D ns after its event. -/
  | delayElementFire (n : Nat)
  /-- ONE_SHOT_END (R201): A one-shot's hold-off of H ns ends and the element is idle again. -/
  | oneShotEnd (n : Nat)
  /-- CONSUMER_FIRE (R206): A write to EVF_CON_FIRE acts on the consumer as an event from channel 512. -/
  | consumerFire (w : Who) (k : Nat)
  /-- EVF_COMMIT_GO (R210): A Keeper write of GO starts a route-table commit and sets BUSY. -/
  | evfCommitGo (w : Who)
  /-- EVF_COMMIT_CHECK (R211): The commit check of the staged copy completes with a refusal or an acceptance. -/
  | evfCommitCheck
  /-- EVIO_INPUT_EDGE (R215): A filtered edge of an input EVIO pin fires EVIO_IN_k. -/
  | evioInputEdge (k : Nat) (lvl : Bool)
  /-- EVIO_OUTPUT (R215): An event taken at EVIO_OUT_k starts an output pulse or toggles the pin. -/
  | evioOutput (k : Nat)
  /-- EVIO_PULSE_END (R215): PW ns after its start an output pulse ends. -/
  | evioPulseEnd (k : Nat)
  /-- ICU_SOURCE_EDGE (R315): A rising source input sets its pending bit, or its overrun bit if already pending. -/
  | icuSourceEdge (src : Nat)
  /-- ICU_SOFTWARE_SET (R315): A write of 1 to ICU_SET_i sets the pending bit of a source. -/
  | icuSoftwareSet (w : Who) (i : Nat) (v : Word)
  /-- INTERRUPT_ENTRY (R305): An eligible request enters its handler bank through the entry microsequence. -/
  | interruptEntry (p : Nat)
  /-- TASK_ACTIVATION (R319): A READY Drover slot is entered, its WHY is recorded and its inputs' PEND bits clear. -/
  | taskActivation (p : Nat)
  /-- SLOT_ENABLE (R318): Setting EN of a Drover slot makes it WAITING with its PC at DRV_SLOT_ENTRY_s. -/
  | slotEnable (w : Who) (p : Nat) (sl : Nat)
  /-- CORE_RESET (R333): DRV_RST with KEY 0x7144 resets core p, and Tlaell recopies its FW sections. -/
  | coreReset (w : Who) (p : Nat) (key : Nat)
  /-- DOZE_WAKE (R337): A dozing core begins its wake 1.2 µs before the next known event. -/
  | dozeWake (p : Nat)
  /-- LONG_OP_COMPLETE (R256): A long operation's unit finishes, its result lands and its busy bits clear. -/
  | longOpComplete (p : Nat) (u : LUnit)
  /-- STORE_BUFFER_RETIRE (R281): The oldest store-buffer entry retires to the port, the merge buffer or the interconnect. -/
  | storeBufferRetire (p : Nat)
  /-- MERGE_BUFFER_FLUSH (R284): The merge buffer reads, corrects, merges and writes back its held word. -/
  | mergeBufferFlush (p : Nat)
  /-- REMOTE_ACCESS (R279): An access through the local RAM peer window is granted at the owning core's port. -/
  | remoteAccess (q : Nat) (x : PortReq)
  /-- INTERCONNECT_RESPONSE (R280): Data or an acknowledge returns for an access beyond the local port and the freeze ends. -/
  | interconnectResponse (p : Nat) (ok : Bool)
  /-- UC_FETCH_FAULT (R307): A microword with failing parity, or an ILL word, falls back to another store and restarts the instruction. -/
  | ucFetchFault (p : Nat) (a : Nat) (ill : Bool)
  /-- UC_LOAD (R308): UC_CMD LOAD loads a standby half from system SRAM and checks its digest. -/
  | ucLoad (w : Who) (p : Nat) (half : Nat)
  /-- UC_VERIFY (R308): UC_CMD VERIFY rechecks a half's parity and digest. -/
  | ucVerify (w : Who) (p : Nat) (half : Nat)
  /-- UC_SWITCH (R308): UC_CMD SWITCH sets SWPEND to change the active store. -/
  | ucSwitch (w : Who) (p : Nat) (half : Nat)
  /-- UC_COPY (R308): UC_CMD COPY copies the active half into the standby half and verifies it. -/
  | ucCopy (w : Who) (p : Nat) (half : Nat)
  /-- UC_COMMAND_DONE (R308): A LOAD, VERIFY or COPY completes and sets VALID, SAME and RESULT. -/
  | ucCommandDone (p : Nat)
  /-- UC_SWITCH_TAKE (R308): At the next free instruction boundary ACT takes the requested half. -/
  | ucSwitchTake (p : Nat)
  /-- PATCH_WRITE (R302): A write to UC_PATCH_DATA stores a patch word at IDX and increments IDX. -/
  | patchWrite (w : Who) (p : Nat) (v : Word)
  /-- PATCH_LOCK (R302): Setting UC_CTL.PLOCK locks patch memory and the match registers. -/
  | patchLock (w : Who) (p : Nat)
  /-- MEM_INJECT (R291): Arming MEM_INJ corrupts the codeword of the next word written by this core. -/
  | memInject (w : Who) (p : Nat) (v : Word)
  /-- ADD (R245): Adds b to a. -/
  | addOp (o : PyOp)
  /-- SUB (R245): Subtracts b from a. -/
  | subOp (o : PyOp)
  /-- AND (R245): Bitwise AND. -/
  | andOp (o : PyOp)
  /-- OR (R245): Bitwise OR. -/
  | orOp (o : PyOp)
  /-- XOR (R245): Bitwise exclusive OR. -/
  | xorOp (o : PyOp)
  /-- SHL (R245): Shifts left. -/
  | shl (o : PyOp)
  /-- SHR (R245): Shifts right logically. -/
  | shr (o : PyOp)
  /-- SAR (R245): Shifts right arithmetically. -/
  | sar (o : PyOp)
  /-- ROR (R245): Rotates right. -/
  | ror (o : PyOp)
  /-- CMP (R245): Compares a with b and sets the flags. -/
  | cmp (o : PyOp)
  /-- TST (R245): Tests a AND b and sets the flags. -/
  | tst (o : PyOp)
  /-- MOV (R245): Moves b, or reaches the window bank under WIN. -/
  | mov (o : PyOp)
  /-- ADC (R245): Adds with carry. -/
  | adc (o : PyOp)
  /-- SBC (R245): Subtracts with borrow. -/
  | sbc (o : PyOp)
  /-- MIN (R245): Signed minimum. -/
  | minOp (o : PyOp)
  /-- MAX (R245): Signed maximum. -/
  | maxOp (o : PyOp)
  /-- MUL (R246): Low 32 bits of the product. -/
  | mul (o : PyOp)
  /-- MULH (R246): High 32 bits of the signed product. -/
  | mulh (o : PyOp)
  /-- MULHU (R246): High 32 bits of the unsigned product. -/
  | mulhu (o : PyOp)
  /-- QMUL (R226): Q1.31 product. -/
  | qmul (o : PyOp)
  /-- QMUL15 (R226): Two-lane Q1.15 product. -/
  | qmul15 (o : PyOp)
  /-- ADD15 (R246): Two-lane halfword sum. -/
  | add15 (o : PyOp)
  /-- SUB15 (R246): Two-lane halfword difference. -/
  | sub15 (o : PyOp)
  /-- CLZ (R246): Counts leading zeros. -/
  | clz (o : PyOp)
  /-- POPC (R246): Counts set bits. -/
  | popc (o : PyOp)
  /-- BFX (R246): Extracts a zero-extended bit field. -/
  | bfx (o : PyOp)
  /-- BFXS (R246): Extracts a sign-extended bit field. -/
  | bfxs (o : PyOp)
  /-- BFI (R246): Inserts a bit field. -/
  | bfi (o : PyOp)
  /-- REV (R246): Reverses the byte order. -/
  | rev (o : PyOp)
  /-- LDW (R247): Loads a word. -/
  | ldw (o : PyOp)
  /-- LDH (R247): Loads a sign-extended halfword. -/
  | ldh (o : PyOp)
  /-- LDHU (R247): Loads a zero-extended halfword. -/
  | ldhu (o : PyOp)
  /-- LDB (R247): Loads a sign-extended byte. -/
  | ldb (o : PyOp)
  /-- LDBU (R247): Loads a zero-extended byte. -/
  | ldbu (o : PyOp)
  /-- STW (R247): Stores a word. -/
  | stw (o : PyOp)
  /-- STH (R247): Stores a halfword. -/
  | sth (o : PyOp)
  /-- STB (R247): Stores a byte. -/
  | stb (o : PyOp)
  /-- LEA (R247): Loads the effective address. -/
  | lea (o : PyOp)
  /-- LDWPC (R247): Loads a word relative to the next instruction. -/
  | ldwpc (o : PyOp)
  /-- LEAPC (R247): Forms an address relative to the next instruction. -/
  | leapc (o : PyOp)
  /-- PUSH (R247): Pushes a register under the stack-limit check. -/
  | push (o : PyOp)
  /-- POP (R247): Pops a register under the stack-limit check. -/
  | pop (o : PyOp)
  /-- PUSHM (R247): Pushes the registers of a mask. -/
  | pushm (o : PyOp)
  /-- POPM (R247): Pops the registers of a mask. -/
  | popm (o : PyOp)
  /-- ADDM (R248): Adds to a memory word and returns the old word. -/
  | addm (o : PyOp)
  /-- ANDM (R248): ANDs into a memory word and returns the old word. -/
  | andm (o : PyOp)
  /-- ORM (R248): ORs into a memory word and returns the old word. -/
  | orm (o : PyOp)
  /-- XORM (R248): XORs into a memory word and returns the old word. -/
  | xorm (o : PyOp)
  /-- XCHG (R248): Exchanges a register with a memory word. -/
  | xchg (o : PyOp)
  /-- CASW (R248): Compares a memory word and swaps it if equal. -/
  | casw (o : PyOp)
  /-- STWI (R248): Stores an immediate word. -/
  | stwi (o : PyOp)
  /-- BTST (R249): Tests a bit of the bit space. -/
  | btst (o : PyOp)
  /-- BSET (R249): Sets a bit of the bit space. -/
  | bset (o : PyOp)
  /-- BCLR (R249): Clears a bit of the bit space. -/
  | bclr (o : PyOp)
  /-- BNOT (R249): Inverts a bit of the bit space. -/
  | bnot (o : PyOp)
  /-- BLD (R249): Loads a bit into a register. -/
  | bld (o : PyOp)
  /-- BST (R249): Stores bit 0 of a register into the bit space. -/
  | bst (o : PyOp)
  /-- FADD (R250): Floating-point add. -/
  | fadd (o : PyOp)
  /-- FSUB (R250): Floating-point subtract. -/
  | fsub (o : PyOp)
  /-- FMUL (R250): Floating-point multiply. -/
  | fmul (o : PyOp)
  /-- FMIN (R250): Floating-point minimum. -/
  | fmin (o : PyOp)
  /-- FMAX (R250): Floating-point maximum. -/
  | fmax (o : PyOp)
  /-- FCMP (R250): Floating-point compare to the flags. -/
  | fcmp (o : PyOp)
  /-- FMOV (R250): Floating-point copy. -/
  | fmov (o : PyOp)
  /-- FNEG (R250): Floating-point sign flip. -/
  | fneg (o : PyOp)
  /-- FABS (R250): Floating-point sign clear. -/
  | fabs (o : PyOp)
  /-- FMTG (R250): Moves F bits to a G register. -/
  | fmtg (o : PyOp)
  /-- FMFG (R250): Moves G bits to an F register. -/
  | fmfg (o : PyOp)
  /-- FCVTI (R250): Converts float to signed integer. -/
  | fcvti (o : PyOp)
  /-- FCVTF (R250): Converts signed integer to float. -/
  | fcvtf (o : PyOp)
  /-- FLD (R250): Loads an F register. -/
  | fld (o : PyOp)
  /-- FST (R250): Stores an F register. -/
  | fst (o : PyOp)
  /-- BCC (R251): Conditional branch with two delay slots. -/
  | bcc (o : PyOp)
  /-- CALL (R251): Relative call that writes G14. -/
  | call (o : PyOp)
  /-- JMP (R251): Jumps to a register target. -/
  | jmp (o : PyOp)
  /-- CALLR (R251): Calls a register target. -/
  | callr (o : PyOp)
  /-- RET (R251): Returns to G14. -/
  | ret (o : PyOp)
  /-- DBNZ (R251): Decrements and branches if the result is not zero. -/
  | dbnz (o : PyOp)
  /-- MFSR (R254): Reads a system register. -/
  | mfsr (o : PyOp)
  /-- MTSR (R223): Writes a system register. -/
  | mtsr (o : PyOp)
  /-- SYSCALL (R254): Raises the system-call exception. -/
  | syscall (o : PyOp)
  /-- BRK (R254): Raises the breakpoint exception. -/
  | brk (o : PyOp)
  /-- RETE (R306): Runs the exit sequence, or a direct entry to a waiting request. -/
  | rete (o : PyOp)
  /-- WAIT (R320): Ends a task activation, or parks a non-task context. -/
  | waitOp (o : PyOp)
  /-- YIELD (R321): Gives way to a READY task of equal priority. -/
  | yield (o : PyOp)
  /-- FETCHSYNC (R269): Drains the buffers and refetches. -/
  | fetchsync (o : PyOp)
  /-- SYNC (R254): Waits until every store of the core has reached its target. -/
  | sync (o : PyOp)
  /-- NOP (R254): Has no effect. -/
  | nopOp (o : PyOp)
  /-- DIV (R257): Signed division. -/
  | divOp (o : PyOp)
  /-- DIVU (R257): Unsigned division. -/
  | divu (o : PyOp)
  /-- REM (R257): Signed remainder. -/
  | rem (o : PyOp)
  /-- REMU (R257): Unsigned remainder. -/
  | remu (o : PyOp)
  /-- SQRT (R255): Integer square root. -/
  | sqrt (o : PyOp)
  /-- CORDIC (R257): Sine and cosine, or atan2 and magnitude. -/
  | cordic (o : PyOp)
  /-- FDIV (R255): Floating-point divide. -/
  | fdiv (o : PyOp)
  /-- FSQRT (R255): Floating-point square root. -/
  | fsqrt (o : PyOp)
  /-- BMOV (R258): Resumable block word copy. -/
  | bmov (o : PyOp)
  /-- VMAC (R258): Resumable Q1.31 multiply-accumulate over two vectors. -/
  | vmac (o : PyOp)
  /-- BSCAN (R258): Resumable block read that corrects and counts errors. -/
  | bscan (o : PyOp)
  /-- CRCB (R258): Resumable CRC-32C or CRC-8 over bytes. -/
  | crcb (o : PyOp)
  /-- SQ_DOORBELL (R345): A command queue tail doorbell fires HIF_DB_q and schedules descriptor fetches. -/
  | sqDoorbell (q : Nat) (v : Word)
  /-- DESCRIPTOR_FETCH (R351): A descriptor read completes, or fails and stops the queue. -/
  | descriptorFetch (q : Nat) (f : FetchRes)
  /-- HOST_NOP (R350): Descriptor NOP does nothing and completes. -/
  | hostNop (q : Nat)
  /-- REGW (R350): Descriptor REGW performs up to five register writes in order.
  `e`: what goes wrong inside the device (R351). -/
  | regw (q : Nat) (e : DescErr)
  /-- REGR (R350): Descriptor REGR reads one register into RESULT.
  `e`: what goes wrong inside the device (R351). -/
  | regr (q : Nat) (e : DescErr)
  /-- RAIL_VSET (R350): Descriptor RAIL_VSET writes RLC_RAIL_HREF_r.
  `e`: what goes wrong inside the device (R351). -/
  | railVset (q : Nat) (e : DescErr)
  /-- RAIL_ON (R350): Descriptor RAIL_ON writes RLC_RAIL_CTL_r.ON alone.
  `e`: what goes wrong inside the device (R351). -/
  | railOn (q : Nat) (e : DescErr)
  /-- PHASE_CMD (R350): Descriptor PHASE_CMD writes PHA_PH_CMD.
  `e`: what goes wrong inside the device (R351). -/
  | phaseCmd (q : Nat) (e : DescErr)
  /-- QUENCH (R350): Descriptor QUENCH writes BLW_QCMD.
  `e`: what goes wrong inside the device (R351). -/
  | quench (q : Nat) (e : DescErr)
  /-- CAPTURE (R350): Descriptor CAPTURE triggers HIF_CAPTRIG_k.
  `e`: what goes wrong inside the device (R351). -/
  | capture (q : Nat) (e : DescErr)
  /-- CAP_DUMP (R366): Descriptor CAP_DUMP starts a capture dump.
  `e`: what goes wrong inside the device (R351). -/
  | capDump (q : Nat) (e : DescErr)
  /-- CAP_REARM (R366): Descriptor CAP_REARM re-arms the capture.
  `e`: what goes wrong inside the device (R351). -/
  | capRearm (q : Nat) (e : DescErr)
  /-- FW_DESCRIPTOR (R354): A descriptor with an FW opcode is written to the firmware inbox and HIF_FWDESC fires. -/
  | fwDescriptor (q : Nat)
  /-- FW_COMPLETION (R354): A write to HIF_FWCPL completes the oldest firmware descriptor of the queue. -/
  | fwCompletion (w : Who) (v : Word)
  /-- COMPLETION_POST (R353): A completion entry is written to its completion queue once there is room, and its vector signals. -/
  | completionPost (c : Nat)
  /-- CQ_HEAD_DOORBELL (R348): A completion queue head doorbell frees entries, or stops the queue if out of range. -/
  | cqHeadDoorbell (q : Nat) (v : Word)
  /-- TELEMETRY_HEAD_DOORBELL (R360): A telemetry ring head doorbell returns slabs, or stops the ring if out of range. -/
  | telemetryHeadDoorbell (t : Nat) (v : Word)
  /-- EVENT_HEAD_DOORBELL (R348): An event ring head doorbell frees records, or stops the ring if out of range. -/
  | eventHeadDoorbell (v : Word)
  /-- RING_RESTART (R348): Writing 1 to a ring's ERR bit restarts it from the head the device holds. -/
  | ringRestart (w : Who) (x : RingId)
  /-- QUEUE_RESTART (R351): Writing HIF_SQ_CTL_q.EN 0 then 1 clears ERR and sets the head to 0. -/
  | queueRestart (w : Who) (q : Nat)
  /-- HOST_WORLD_LOCK (R344): Writing 1 to HIF_HPOL.LOCK fixes the host world. -/
  | hostWorldLock (w : Who)
  /-- EVENT_RECORD_WRITE (R358): An event record is written to the event ring, held on chip, or lost. -/
  | eventRecordWrite
  /-- EVENT_POST (R358): Writing POST to HIF_EVPOST_3 posts a firmware event record. -/
  | eventPost (w : Who)
  /-- TELEMETRY_RECORD (R362): A live stream closes a record of selected ticks and writes it to its ring, or drops it. -/
  | telemetryRecord (t : Nat)
  /-- LINK_RATE_CHANGE (R365): A link retrain suspends or resumes live telemetry rings to fit the ceiling. -/
  | linkRateChange (gen : Nat) (width : Nat)
  /-- CAPTURE_TRIGGER (R366): A trigger in ARMED fixes TTRIG and enters POST; otherwise MISSED counts. -/
  | captureTrigger (k : Nat)
  /-- CAPTURE_ARM (R366): HIF_CAP_CTL.ARM arms, or re-arms, the capture controller. -/
  | captureArm (w : Who)
  /-- CAPTURE_DUMP (R366): HIF_CAP_CTL.DUMP starts a dump of the frozen buffer. -/
  | captureDump (w : Who)
  /-- CAPTURE_FREEZE (R366): The frame of tick TTRIG + POST is written and the buffer freezes. -/
  | captureFreeze
  /-- DUMP_RECORD (R366): A dump record of 16 frames is written once its ring has room; the last fires HIF_DUMPDONE. -/
  | dumpRecord
  /-- HOST_INTERFACE_RESET (R369): PERST_N, hot reset, link down or FLR resets the host interface and its rings only. -/
  | hostInterfaceReset (kind : Nat) (bytes : Nat)
  /-- LINK_UP (R370): The link comes up with EN set; HIF_LINKUP fires and held records follow a type 0x08 record. -/
  | linkUp (gen : Nat) (width : Nat)
  /-- COLD_RESET (R418): Power-up or VEMB below 0.70 V starts a reset of kind C. -/
  | coldReset
  /-- BROWN_OUT (R417): A supply below its reset level makes the pins safe and starts a reset of kind B. -/
  | brownOut (sup : Nat) (mv : Nat)
  /-- RESET_PIN (R418): RESET_N low for 100 ns starts a reset of kind P. -/
  | resetPin
  /-- WATCHDOG_EXPIRY (R422): The watchdog count reaches 0 and performs a reset of kind W. -/
  | watchdogExpiry
  /-- KINDLE_RESET (R376): NVC_KCTL KEY 0x4B49 performs a reset of kind K, holding or sequencing rails per KRAIL. -/
  | kindleReset (w : Who) (key : Nat)
  /-- RESET_RELEASE (R418): A reset is released once its condition clears, and Kindle starts. -/
  | resetRelease
  /-- KINDLE (R374): Tlaell discovers flash, verifies and loads an image, replays settings, runs the commits and sets KDONE. -/
  | kindle (x : KindleIn)
  /-- FLASH_READ (R381): NVC_FCMD READ copies flash bytes into system SRAM. -/
  | flashRead (w : Who)
  /-- FLASH_PROGRAM (R381): NVC_FCMD PROGRAM writes bytes to flash. -/
  | flashProgram (w : Who) (rbuf : Bool)
  /-- FLASH_ERASE (R381): NVC_FCMD ERASE erases one erase unit. -/
  | flashErase (w : Who)
  /-- JAPPEND (R392): NVC_FCMD JAPPEND appends a journal record to a half, filling SEQ and CRC. -/
  | jappend (w : Who) (half : Nat)
  /-- FLASH_OP_DONE (R381): A flash operation completes; RESULT is set and NVC_FDONE becomes pending. -/
  | flashOpDone (err : Nat)
  /-- OTP_PROG (R389): OTP_CMD PROG programs bits of an OTP word. -/
  | otpProg (w : Who) (word : Nat)
  /-- OTP_ADVANCE (R389): OTP_CMD ADVANCE sets the next rollback bit. -/
  | otpAdvance (w : Who)
  /-- OTP_OP_DONE (R389): An OTP operation completes and OTP_DONE becomes pending. -/
  | otpOpDone (ok : Bool)
  /-- MRAM_RECORD_WRITE (R399): The NVC writer writes the next queued record at the ring head and makes NVC_MRREC pending. -/
  | mramRecordWrite
  /-- MRAM_POST (R399): Writing POST to NVC_MR_POST_3 posts a firmware MRAM record. -/
  | mramPost (w : Who)
  /-- RUN_SECOND (R400): Another whole second accumulates in Run or Graze and counter word 6 increments. -/
  | runSecond
  /-- HOLD_REQUEST (R406): PMU_CTL.HOLD_REQ written 1 enters Hold at the next T0. -/
  | holdRequest (w : Who)
  /-- HOLD_EXIT_REQUEST (R408): PMU_CTL.HOLD_REQ written 0 is checked and leaves Hold at the next T0. -/
  | holdExitRequest (w : Who)
  /-- HOLD_LIMIT (R407): LIMIT ms in Hold elapse; HOLDLIM sets and PMU_HOLDLIM fires. -/
  | holdLimit
  /-- QEXIT (R409): PMU_CTL.QEXIT leaves Quench at the next T0 if the checks pass. -/
  | qexit (w : Who)
  /-- EMBER_REQ (R411): PMU_CTL.EMBER_REQ, if accepted, saves the counters and power-gates the device into Ember. -/
  | emberReq (w : Who)
  /-- EMBER_WAKE (R412): An enabled wake event or PERST_N ungates the domains and acts as a reset of kind P. -/
  | emberWake (src : WakeSrc)
  /-- ETIMER_MATCH (R412): The Ember timer equals PMU_ETMR_CMP and PMU_ETIMER fires. -/
  | etimerMatch
  /-- SUPPLY_DIP (R414): A supply below its warning level for FILT ns enters Hold-on-dip. -/
  | supplyDip (sup : Nat) (mv : Nat)
  /-- DIP_EXIT (R416): All supplies above exit level for EXITDLY µs end Hold-on-dip and release deferred actions. -/
  | dipExit
  /-- WATCHDOG_ENABLE (R422): Writing 1 to PMU_WDT_CTL.EN starts the watchdog. -/
  | watchdogEnable (w : Who)
  /-- WATCHDOG_KICK (R422): A write of KEY 0x5744 to PMU_WDT_KICK reloads the count. -/
  | watchdogKick (w : Who) (key : Nat)
  /-- WATCHDOG_WARN (R422): The count reaches half of TIMEOUT and PMU_WDTWARN fires. -/
  | watchdogWarn
  /-- MFU_EDGE (R426): A filtered input edge counts POS under the channel's mode.
  An edge of C/IDX that is the latch source is captured with it (R431). -/
  | mfuEdge (m : Nat) (lv : Nat) (time : MfuTime)
  /-- PROBE_EDGE (R431): A latch-source edge captures POS and the time, or sets LATOVR.
  The edge is one of MFm_PRB; `lvl`: its new level. -/
  | probeEdge (m : Nat) (lvl : Bool) (sub : Nat)
  /-- POS_READ (R429): A read of MFU_CH_POS_m latches the wrap tally into NET and restarts it. -/
  | posRead (w : Who) (m : Nat)
  /-- POS_WRITE (R429): A write of MFU_CH_POS_m sets POS. -/
  | posWrite (w : Who) (m : Nat) (v : Word)
  /-- SPEED_UPDATE (R433): Every UPDT ticks the channel computes SPD and fires MFU_SPD_m. -/
  | speedUpdate (m : Nat) (time : Nat)
  /-- PWM_PERIOD_START (R435): An MFU PWM period starts and takes the command in force. -/
  | pwmPeriodStart (m : Nat)
  /-- IDCODE (R457): JTAG IDCODE selects the identification register. -/
  | idcode
  /-- SAMPLE_PRELOAD (R457): JTAG SAMPLE/PRELOAD captures and preloads the boundary register. -/
  | samplePreload (cells : Bytes)
  /-- EXTEST (R458): JTAG EXTEST drives pins from boundary cells while every rail is OFF. -/
  | extest (cells : Bytes)
  /-- HIGHZ (R458): JTAG HIGHZ floats outputs while every rail is OFF. -/
  | highz
  /-- CLAMP (R458): JTAG CLAMP holds outputs from boundary cells while every rail is OFF. -/
  | clamp
  /-- BYPASS (R457): JTAG BYPASS selects the one-bit bypass register. -/
  | bypass
  /-- PRIVATE_INSTRUCTION (R457): A Waimond private JTAG instruction acts only with TESTEN high and JTAGDIS 0. -/
  | waimondInstruction (code : Nat)
  /-- READ_CLEAR (R9): A read of an RC field returns it and then returns it to its reset value. -/
  | readClear (w : Who) (a : Nat)
  /-- REGISTER_WRITE (R8): A core or host write to a register that has no row of its own, under the world, access and reserved-field rules.
  `be`: byte enables of a host's dword, lowest byte in bit 0; `tlp`: how the host's write arrives (R341, R343). -/
  | registerWrite (w : Who) (a : Nat) (v : Word) (be : Nat) (tlp : Tlp)
  /-- DELAYREQ_RX (R47): A DELAYREQ control frame received on a port is answered with the far end's reported turnaround, so that the sender's MEASURE state can compute the one-way delay.
  `frame`: the control frame as it came; `turn`: this device's own turnaround, in steps. -/
  | delayreqRx (p : Nat) (frame : Bytes) (turn : Nat)
  /-- ILLEGAL_INSTRUCTION (R243): An undefined opcode or page byte, or a reserved form, reaches X1 and raises the illegal-instruction exception with no effect. -/
  | illegalInstruction (p : Nat)
  /-- D3HOT (R341): A change of the function's power state to D3hot stops DMA and interrupts only, and a return to D0 resumes them. -/
  | d3hot (on : Bool)
deriving DecidableEq, Repr

end Sys2Proof
end

