-- ==== Sys2Proof/WellFormed.lean ====
section
/-! DEFINITION. Which commands are well formed: every operand in the range the device gives it. -/

namespace Sys2Proof

/-- A core of the device, the host or the monitor. -/
def Who.wf : Who → Bool
  | .core p => decide (p < 6)
  | _ => true

/-- A protection that exists (R152). -/
def Prot.wf : Prot → Bool
  | .poc n => decide (n < 144)
  | .sf r => decide (r < 32)
  | .pot n => decide (n < 144)
  | .roc r => decide (r < 32)
  | .ov r => decide (r < 32)
  | .uv r => decide (r < 32)
  | .vinUv c => decide (c < 8)
  | .vinOv c => decide (c < 8)
  | .die => true
  | .dio j => decide (j < 4)

/-- A frame's fields fit their widths (R181). -/
def AvsOp.wf (o : AvsOp) : Bool := decide (o.port < 16) && decide (o.sel < 16) && decide (o.cmd < 4) && decide (o.data < 65536)

/-- The port exists (R184). -/
def PmbOp.wf (o : PmbOp) : Bool := decide (o.q < 2)

/-- The ring exists (R346). -/
def RingId.wf : RingId → Bool
  | .cq q => decide (q < 16)
  | .tele t => decide (t < 8)
  | .event => true

/-- The wake source exists (R412). -/
def WakeSrc.wf : WakeSrc → Bool
  | .fabric k => decide (k < 8)
  | .perst => true

/-- The register fields fit their 4 bits and the other fields 32 (R241). -/
def PyOp.wf (o : PyOp) : Bool :=
  decide (o.p < 6) && decide (o.form < 4) && decide (o.d < 16) && decide (o.s < 16) && decide (o.t < 16) && decide (o.n < 16)
    && decide (-2147483648 ≤ o.disp) && decide (o.disp < 2147483648)
    && decide (-2147483648 ≤ o.imm) && decide (o.imm < 4294967296)

-- One test for each command, in the order of the opcode table: its operands name things the device has.

def wfTick (_t : TickIn) : Bool := true
def wfSwapWindow : Bool := true
def wfModeSwitch : Bool := true
def wfBaseGridInstant : Bool := true
def wfCarrierPeriodStart (n : Nat) : Bool := decide (n < 144)
def wfPllLock (k : Nat) : Bool := decide (k < 3)
def wfDlcalDone : Bool := true
def wfXinLoss : Bool := true
def wfXinReturn : Bool := true
def wfHoldoverLimit : Bool := true
def wfEnginePllFault : Bool := true
def wfTbuCompare (n : Nat) : Bool := decide (n < 8)
def wfTbcRead (w : Who) (sub : Nat) : Bool := w.wf && decide (sub < 200)
def wfBgcRead (w : Who) : Bool := w.wf
def wfPortSymbolsDetected (p : Nat) : Bool := decide (p < 3)
def wfPortTrained (p : Nat) : Bool := decide (p < 3)
def wfPortMeasured (p : Nat) (trips : Nat) (turn : Nat) : Bool := decide (p < 3) && decide (16 * turn ≤ trips) && decide ((trips - 16 * turn) / 32 < 65536)
def wfPortDown (p : Nat) (_miss : Nat) (_viol : Option Nat) : Bool := decide (p < 3)
def wfTickMarkerRx (p : Nat) (lag : Nat) : Bool := decide (p < 3) && decide (lag < 3200)
def wfAnnounceTimer : Bool := true
def wfAnnounceRx (p : Nat) (_frame : Bytes) : Bool := decide (p < 3)
def wfAnnounceTimeout (p : Nat) : Bool := decide (p < 3)
def wfTimeFrameRx (p : Nat) (_frame : Bytes) : Bool := decide (p < 3)
def wfDutyFrameRx (p : Nat) (_frame : Bytes) : Bool := decide (p < 3)
def wfDutyApply (n : Nat) (_ofs : Nat) : Bool := decide (n < 6)
def wfDutyFrameTimeout (n : Nat) : Bool := decide (n < 6)
def wfSpanlossRx (p : Nat) (_frame : Bytes) : Bool := decide (p < 3)
def wfRejoin (w : Who) (n : Nat) : Bool := w.wf && decide (n < 6)
def wfMessageQueue (w : Who) (tail : Nat) : Bool := w.wf && decide (tail < 4096)
def wfMessageRx (p : Nat) (_frame : Bytes) : Bool := decide (p < 3)
def wfAckRx (p : Nat) (seq : Nat) (src : Nat) : Bool := decide (p < 3) && decide (seq < 256) && decide (src < 1024)
def wfAckTimeout (p : Nat) : Bool := decide (p < 3)
def wfFlkCommitLock (w : Who) : Bool := w.wf
def wfPhaCommitLock (w : Who) : Bool := w.wf
def wfAnvCommitLock (w : Who) : Bool := w.wf
def wfRlcCommitLock (w : Who) : Bool := w.wf
def wfIcuCommitLock (w : Who) : Bool := w.wf
def wfHifCommitLock (w : Who) : Bool := w.wf
def wfCommitUnlock (w : Who) (_b : LockBlk) : Bool := w.wf
def wfSenDelayEnd (g : Nat) : Bool := decide (g < 9)
def wfStageAbsent (n : Nat) : Bool := decide (n < 144)
def wfStagePresent (n : Nat) : Bool := decide (n < 144)
def wfStageFault (n : Nat) (_above : Bool) : Bool := decide (n < 144)
def wfOcTrip (n : Nat) (_since : Nat) : Bool := decide (n < 144)
def wfPhaseAdd (w : Who) (n : Nat) : Bool := w.wf && decide (n < 256)
def wfPhaseShed (w : Who) (n : Nat) : Bool := w.wf && decide (n < 256)
def wfPhaseRemove (w : Who) (n : Nat) : Bool := w.wf && decide (n < 256)
def wfPhaseRestore (w : Who) (n : Nat) : Bool := w.wf && decide (n < 256)
def wfGovernorAdd (r : Nat) : Bool := decide (r < 32)
def wfGovernorShed (r : Nat) : Bool := decide (r < 32)
def wfReadd (r : Nat) (ch : Nat) : Bool := decide (r < 32) && decide (ch < 513)
def wfReaddHoldEnd (r : Nat) : Bool := decide (r < 32)
def wfBlendEnd (n : Nat) : Bool := decide (n < 144)
def wfTempConversion (k : Nat) (_raw : Int) (st : Nat) : Bool := decide (k < 157) && decide (st < 3) && (decide (153 ≤ k) || decide (st = 0))
def wfTallyInject (w : Who) (c : Nat) : Bool := w.wf && decide (c < 512)
def wfCapStatRead (w : Who) : Bool := w.wf
def wfCalUpdate : Bool := true
def wfOffsetEstimate (k : Nat) : Bool := decide (k < 176)
def wfZofsLearn (n : Nat) : Bool := decide (n < 144)
def wfDomainGainWindow (d : Nat) : Bool := decide (d < 8)
def wfLrEstimate (n : Nat) : Bool := decide (n < 144)
def wfPleanEvent (l : Nat) (ch : Nat) : Bool := decide (l < 34) && decide (ch < 513)
def wfPreleanEnd (l : Nat) : Bool := decide (l < 34)
def wfSloadEvent (l : Nat) (ch : Nat) : Bool := decide (l < 34) && decide (ch < 513)
def wfTrigPlean (w : Who) (l : Nat) : Bool := w.wf && decide (l < 34)
def wfTrigSload (w : Who) (l : Nat) : Bool := w.wf && decide (l < 34)
def wfSwapRequest (w : Who) (l : Nat) (_ld : Bool) : Bool := w.wf && decide (l < 64)
def wfSwapAllbound (w : Who) (_ld : Bool) : Bool := w.wf
def wfSwapCancel (w : Who) (l : Nat) (_all : Bool) : Bool := w.wf && decide (l < 64)
def wfShadowWrite (w : Who) (l : Nat) (k : Nat) (_v : Word) : Bool := w.wf && decide (l < 34) && decide (k < 64)
def wfBankCheck : Bool := true
def wfFaultedClear (w : Who) (l : Nat) : Bool := w.wf && decide (l < 34)
def wfSnapshotRequest (w : Who) (l : Nat) : Bool := w.wf && decide (l < 34)
def wfDroopCrossing (r : Nat) : Bool := decide (r < 32)
def wfReleaseCrossing (r : Nat) : Bool := decide (r < 32)
def wfMaxonExpiry (n : Nat) : Bool := decide (n < 144)
def wfLockoutEnd (r : Nat) : Bool := decide (r < 32)
def wfOvershootCrossing (r : Nat) : Bool := decide (r < 32)
def wfOvershootRelease (r : Nat) : Bool := decide (r < 32)
def wfOvmaxExpiry (r : Nat) : Bool := decide (r < 32)
def wfWarnAssert (k : Nat) : Bool := decide (k < 16)
def wfPlarm (r : Nat) : Bool := decide (r < 32)
def wfPlarmEnd (r : Nat) : Bool := decide (r < 32)
def wfProtectionAction (x : Prot) : Bool := x.wf
def wfProtectionWarn (x : Prot) : Bool := x.wf
def wfBlwQuench (r : Nat) : Bool := decide (r < 32)
def wfBlwQuenchDev : Bool := true
def wfQuenchRailCommand (w : Who) (r : Nat) : Bool := w.wf && decide (r < 32)
def wfQuenchDeviceCommand (w : Who) : Bool := w.wf
def wfHiccupEnd (r : Nat) : Bool := decide (r < 32)
def wfRetryCountClear (r : Nat) : Bool := decide (r < 32)
def wfPhaseHiccupEnd (n : Nat) : Bool := decide (n < 144)
def wfPhaseRetryClear (n : Nat) : Bool := decide (n < 144)
def wfLatchClear (w : Who) (_v : Word) : Bool := w.wf
def wfTonDelayEnd (r : Nat) : Bool := decide (r < 32)
def wfToffDelayEnd (r : Nat) : Bool := decide (r < 32)
def wfGroupOn (w : Who) (g : Nat) : Bool := w.wf && decide (g < 8)
def wfGroupOff (w : Who) (g : Nat) : Bool := w.wf && decide (g < 8)
def wfFrefWrite (w : Who) (r : Nat) (_v : Word) : Bool := w.wf && decide (r < 32)
def wfFrefAtRelease (r : Nat) : Bool := decide (r < 32)
def wfHrefWrite (w : Who) (r : Nat) (_v : Word) : Bool := w.wf && decide (r < 32)
def wfAvsTargetVoltageWrite (o : AvsOp) : Bool := o.wf
def wfAvsWriteAndHold (o : AvsOp) : Bool := o.wf
def wfAvsTargetVoltageRead (o : AvsOp) : Bool := o.wf
def wfAvsTransitionRate (o : AvsOp) : Bool := o.wf
def wfAvsRailCurrent (o : AvsOp) : Bool := o.wf
def wfAvsRailTemperature (o : AvsOp) : Bool := o.wf
def wfAvsResetVoltage (o : AvsOp) : Bool := o.wf
def wfAvsStatus (o : AvsOp) : Bool := o.wf
def wfAvsVersion (o : AvsOp) : Bool := o.wf
def wfAvsUnsupported (o : AvsOp) : Bool := o.wf
def wfPageCmd (o : PmbOp) : Bool := o.wf
def wfOperationOn (o : PmbOp) : Bool := o.wf
def wfOperationOff (o : PmbOp) : Bool := o.wf
def wfOperationImmediateOff (o : PmbOp) : Bool := o.wf
def wfOperationMarginLow (o : PmbOp) : Bool := o.wf
def wfOperationMarginHigh (o : PmbOp) : Bool := o.wf
def wfOnOffConfig (o : PmbOp) : Bool := o.wf
def wfClearFaults (o : PmbOp) : Bool := o.wf
def wfWriteProtect (o : PmbOp) : Bool := o.wf
def wfStoreUserAll (o : PmbOp) : Bool := o.wf
def wfRestoreUserAll (o : PmbOp) : Bool := o.wf
def wfCapability (o : PmbOp) : Bool := o.wf
def wfVoutMode (o : PmbOp) : Bool := o.wf
def wfVoutCommand (o : PmbOp) : Bool := o.wf
def wfVoutMax (o : PmbOp) : Bool := o.wf
def wfVoutMin (o : PmbOp) : Bool := o.wf
def wfVoutMarginHigh (o : PmbOp) : Bool := o.wf
def wfVoutMarginLow (o : PmbOp) : Bool := o.wf
def wfVoutTransitionRate (o : PmbOp) : Bool := o.wf
def wfVoutDroop (o : PmbOp) : Bool := o.wf
def wfVoutScaleLoop (o : PmbOp) : Bool := o.wf
def wfVoutOvFaultLimit (o : PmbOp) : Bool := o.wf
def wfVoutUvFaultLimit (o : PmbOp) : Bool := o.wf
def wfVoutOvWarnLimit (o : PmbOp) : Bool := o.wf
def wfVoutUvWarnLimit (o : PmbOp) : Bool := o.wf
def wfVoutOvFaultResponse (o : PmbOp) : Bool := o.wf
def wfVoutUvFaultResponse (o : PmbOp) : Bool := o.wf
def wfIoutOcFaultLimit (o : PmbOp) : Bool := o.wf
def wfIoutOcWarnLimit (o : PmbOp) : Bool := o.wf
def wfIoutOcFaultResponse (o : PmbOp) : Bool := o.wf
def wfOtFaultLimit (o : PmbOp) : Bool := o.wf
def wfOtWarnLimit (o : PmbOp) : Bool := o.wf
def wfOtFaultResponse (o : PmbOp) : Bool := o.wf
def wfVinOvFaultLimit (o : PmbOp) : Bool := o.wf
def wfVinUvFaultLimit (o : PmbOp) : Bool := o.wf
def wfTonDelay (o : PmbOp) : Bool := o.wf
def wfTonRise (o : PmbOp) : Bool := o.wf
def wfToffDelay (o : PmbOp) : Bool := o.wf
def wfToffFall (o : PmbOp) : Bool := o.wf
def wfStatusByte (o : PmbOp) : Bool := o.wf
def wfStatusWord (o : PmbOp) : Bool := o.wf
def wfStatusVout (o : PmbOp) : Bool := o.wf
def wfStatusIout (o : PmbOp) : Bool := o.wf
def wfStatusInput (o : PmbOp) : Bool := o.wf
def wfStatusTemperature (o : PmbOp) : Bool := o.wf
def wfStatusCml (o : PmbOp) : Bool := o.wf
def wfStatusMfrSpecific (o : PmbOp) : Bool := o.wf
def wfReadVin (o : PmbOp) : Bool := o.wf
def wfReadVout (o : PmbOp) : Bool := o.wf
def wfReadIout (o : PmbOp) : Bool := o.wf
def wfReadTemperature1 (o : PmbOp) : Bool := o.wf
def wfReadTemperature2 (o : PmbOp) : Bool := o.wf
def wfReadPout (o : PmbOp) : Bool := o.wf
def wfPmbusRevision (o : PmbOp) : Bool := o.wf
def wfMfrId (o : PmbOp) : Bool := o.wf
def wfMfrModel (o : PmbOp) : Bool := o.wf
def wfMfrRevision (o : PmbOp) : Bool := o.wf
def wfMfrPhaseCmd (o : PmbOp) : Bool := o.wf
def wfMfrPhaseCount (o : PmbOp) : Bool := o.wf
def wfMfrBellowsCount (o : PmbOp) : Bool := o.wf
def wfMfrLatchClear (o : PmbOp) : Bool := o.wf
def wfMfrRefInForce (o : PmbOp) : Bool := o.wf
def wfMfrTbc (o : PmbOp) : Bool := o.wf
def wfMfrFaultLog (o : PmbOp) : Bool := o.wf
def wfAlertResponse (q : Nat) : Bool := decide (q < 2)
def wfPmbusUnsupported (o : PmbOp) : Bool := o.wf
def wfPmbusSclTimeout (q : Nat) : Bool := decide (q < 2)
def wfChannelForward (g : Nat) : Bool := decide (g < 8)
def wfDelayElementFire (n : Nat) : Bool := decide (n < 512)
def wfOneShotEnd (n : Nat) : Bool := decide (n < 512)
def wfConsumerFire (w : Who) (k : Nat) : Bool := w.wf && decide (k < 2048)
def wfEvfCommitGo (w : Who) : Bool := w.wf
def wfEvfCommitCheck : Bool := true
def wfEvioInputEdge (k : Nat) (_lvl : Bool) : Bool := decide (k < 32)
def wfEvioOutput (k : Nat) : Bool := decide (k < 32)
def wfEvioPulseEnd (k : Nat) : Bool := decide (k < 32)
def wfIcuSourceEdge (src : Nat) : Bool := decide (src < 1280)
def wfIcuSoftwareSet (w : Who) (i : Nat) (_v : Word) : Bool := w.wf && decide (i < 40)
def wfInterruptEntry (p : Nat) : Bool := decide (p < 6)
def wfTaskActivation (p : Nat) : Bool := decide (p < 6)
def wfSlotEnable (w : Who) (p : Nat) (sl : Nat) : Bool := w.wf && decide (p < 6) && decide (1 ≤ sl) && decide (sl ≤ 15)
def wfCoreReset (w : Who) (p : Nat) (key : Nat) : Bool := w.wf && decide (p < 6) && decide (key < 65536)
def wfDozeWake (p : Nat) : Bool := decide (p < 6)
def wfLongOpComplete (p : Nat) (_u : LUnit) : Bool := decide (p < 6)
def wfStoreBufferRetire (p : Nat) : Bool := decide (p < 6)
def wfMergeBufferFlush (p : Nat) : Bool := decide (p < 6)
def wfRemoteAccess (q : Nat) (_x : PortReq) : Bool := decide (q < 6)
def wfInterconnectResponse (p : Nat) (_ok : Bool) : Bool := decide (p < 6)
def wfUcFetchFault (p : Nat) (a : Nat) (_ill : Bool) : Bool := decide (p < 6) && decide (a < 32768)
def wfUcLoad (w : Who) (p : Nat) (half : Nat) : Bool := w.wf && decide (p < 6) && decide (half < 4)
def wfUcVerify (w : Who) (p : Nat) (half : Nat) : Bool := w.wf && decide (p < 6) && decide (half < 4)
def wfUcSwitch (w : Who) (p : Nat) (half : Nat) : Bool := w.wf && decide (p < 6) && decide (half < 4)
def wfUcCopy (w : Who) (p : Nat) (half : Nat) : Bool := w.wf && decide (p < 6) && decide (half < 4)
def wfUcCommandDone (p : Nat) : Bool := decide (p < 6)
def wfUcSwitchTake (p : Nat) : Bool := decide (p < 6)
def wfPatchWrite (w : Who) (p : Nat) (_v : Word) : Bool := w.wf && decide (p < 6)
def wfPatchLock (w : Who) (p : Nat) : Bool := w.wf && decide (p < 6)
def wfMemInject (w : Who) (p : Nat) (_v : Word) : Bool := w.wf && decide (p < 6)
def wfAddOp (o : PyOp) : Bool := o.wf
def wfSubOp (o : PyOp) : Bool := o.wf
def wfAndOp (o : PyOp) : Bool := o.wf
def wfOrOp (o : PyOp) : Bool := o.wf
def wfXorOp (o : PyOp) : Bool := o.wf
def wfShl (o : PyOp) : Bool := o.wf
def wfShr (o : PyOp) : Bool := o.wf
def wfSar (o : PyOp) : Bool := o.wf
def wfRor (o : PyOp) : Bool := o.wf
def wfCmp (o : PyOp) : Bool := o.wf
def wfTst (o : PyOp) : Bool := o.wf
def wfMov (o : PyOp) : Bool := o.wf
def wfAdc (o : PyOp) : Bool := o.wf
def wfSbc (o : PyOp) : Bool := o.wf
def wfMinOp (o : PyOp) : Bool := o.wf
def wfMaxOp (o : PyOp) : Bool := o.wf
def wfMul (o : PyOp) : Bool := o.wf
def wfMulh (o : PyOp) : Bool := o.wf
def wfMulhu (o : PyOp) : Bool := o.wf
def wfQmul (o : PyOp) : Bool := o.wf
def wfQmul15 (o : PyOp) : Bool := o.wf
def wfAdd15 (o : PyOp) : Bool := o.wf
def wfSub15 (o : PyOp) : Bool := o.wf
def wfClz (o : PyOp) : Bool := o.wf
def wfPopc (o : PyOp) : Bool := o.wf
def wfBfx (o : PyOp) : Bool := o.wf
def wfBfxs (o : PyOp) : Bool := o.wf
def wfBfi (o : PyOp) : Bool := o.wf
def wfRev (o : PyOp) : Bool := o.wf
def wfLdw (o : PyOp) : Bool := o.wf
def wfLdh (o : PyOp) : Bool := o.wf
def wfLdhu (o : PyOp) : Bool := o.wf
def wfLdb (o : PyOp) : Bool := o.wf
def wfLdbu (o : PyOp) : Bool := o.wf
def wfStw (o : PyOp) : Bool := o.wf
def wfSth (o : PyOp) : Bool := o.wf
def wfStb (o : PyOp) : Bool := o.wf
def wfLea (o : PyOp) : Bool := o.wf
def wfLdwpc (o : PyOp) : Bool := o.wf
def wfLeapc (o : PyOp) : Bool := o.wf
def wfPush (o : PyOp) : Bool := o.wf
def wfPop (o : PyOp) : Bool := o.wf
def wfPushm (o : PyOp) : Bool := o.wf
def wfPopm (o : PyOp) : Bool := o.wf
def wfAddm (o : PyOp) : Bool := o.wf
def wfAndm (o : PyOp) : Bool := o.wf
def wfOrm (o : PyOp) : Bool := o.wf
def wfXorm (o : PyOp) : Bool := o.wf
def wfXchg (o : PyOp) : Bool := o.wf
def wfCasw (o : PyOp) : Bool := o.wf
def wfStwi (o : PyOp) : Bool := o.wf
def wfBtst (o : PyOp) : Bool := o.wf
def wfBset (o : PyOp) : Bool := o.wf
def wfBclr (o : PyOp) : Bool := o.wf
def wfBnot (o : PyOp) : Bool := o.wf
def wfBld (o : PyOp) : Bool := o.wf
def wfBst (o : PyOp) : Bool := o.wf
def wfFadd (o : PyOp) : Bool := o.wf
def wfFsub (o : PyOp) : Bool := o.wf
def wfFmul (o : PyOp) : Bool := o.wf
def wfFmin (o : PyOp) : Bool := o.wf
def wfFmax (o : PyOp) : Bool := o.wf
def wfFcmp (o : PyOp) : Bool := o.wf
def wfFmov (o : PyOp) : Bool := o.wf
def wfFneg (o : PyOp) : Bool := o.wf
def wfFabs (o : PyOp) : Bool := o.wf
def wfFmtg (o : PyOp) : Bool := o.wf
def wfFmfg (o : PyOp) : Bool := o.wf
def wfFcvti (o : PyOp) : Bool := o.wf
def wfFcvtf (o : PyOp) : Bool := o.wf
def wfFld (o : PyOp) : Bool := o.wf
def wfFst (o : PyOp) : Bool := o.wf
def wfBcc (o : PyOp) : Bool := o.wf
def wfCall (o : PyOp) : Bool := o.wf
def wfJmp (o : PyOp) : Bool := o.wf
def wfCallr (o : PyOp) : Bool := o.wf
def wfRet (o : PyOp) : Bool := o.wf
def wfDbnz (o : PyOp) : Bool := o.wf
def wfMfsr (o : PyOp) : Bool := o.wf
def wfMtsr (o : PyOp) : Bool := o.wf
def wfSyscall (o : PyOp) : Bool := o.wf
def wfBrk (o : PyOp) : Bool := o.wf
def wfRete (o : PyOp) : Bool := o.wf
def wfWaitOp (o : PyOp) : Bool := o.wf
def wfYield (o : PyOp) : Bool := o.wf
def wfFetchsync (o : PyOp) : Bool := o.wf
def wfSync (o : PyOp) : Bool := o.wf
def wfNopOp (o : PyOp) : Bool := o.wf
def wfDivOp (o : PyOp) : Bool := o.wf
def wfDivu (o : PyOp) : Bool := o.wf
def wfRem (o : PyOp) : Bool := o.wf
def wfRemu (o : PyOp) : Bool := o.wf
def wfSqrt (o : PyOp) : Bool := o.wf
def wfCordic (o : PyOp) : Bool := o.wf
def wfFdiv (o : PyOp) : Bool := o.wf
def wfFsqrt (o : PyOp) : Bool := o.wf
def wfBmov (o : PyOp) : Bool := o.wf
def wfVmac (o : PyOp) : Bool := o.wf
def wfBscan (o : PyOp) : Bool := o.wf
def wfCrcb (o : PyOp) : Bool := o.wf
def wfSqDoorbell (q : Nat) (_v : Word) : Bool := decide (q < 16)
def wfDescriptorFetch (q : Nat) (_f : FetchRes) : Bool := decide (q < 16)
def wfHostNop (q : Nat) : Bool := decide (q < 16)
def wfRegw (q : Nat) (_e : DescErr) : Bool := decide (q < 16)
def wfRegr (q : Nat) (_e : DescErr) : Bool := decide (q < 16)
def wfRailVset (q : Nat) (_e : DescErr) : Bool := decide (q < 16)
def wfRailOn (q : Nat) (_e : DescErr) : Bool := decide (q < 16)
def wfPhaseCmd (q : Nat) (_e : DescErr) : Bool := decide (q < 16)
def wfQuench (q : Nat) (_e : DescErr) : Bool := decide (q < 16)
def wfCapture (q : Nat) (_e : DescErr) : Bool := decide (q < 16)
def wfCapDump (q : Nat) (_e : DescErr) : Bool := decide (q < 16)
def wfCapRearm (q : Nat) (_e : DescErr) : Bool := decide (q < 16)
def wfFwDescriptor (q : Nat) : Bool := decide (q < 16)
def wfFwCompletion (w : Who) (_v : Word) : Bool := w.wf
def wfCompletionPost (c : Nat) : Bool := decide (c < 16)
def wfCqHeadDoorbell (q : Nat) (_v : Word) : Bool := decide (q < 16)
def wfTelemetryHeadDoorbell (t : Nat) (_v : Word) : Bool := decide (t < 8)
def wfEventHeadDoorbell (_v : Word) : Bool := true
def wfRingRestart (w : Who) (x : RingId) : Bool := w.wf && x.wf
def wfQueueRestart (w : Who) (q : Nat) : Bool := w.wf && decide (q < 16)
def wfHostWorldLock (w : Who) : Bool := w.wf
def wfEventRecordWrite : Bool := true
def wfEventPost (w : Who) : Bool := w.wf
def wfTelemetryRecord (t : Nat) : Bool := decide (t < 8)
def wfLinkRateChange (gen : Nat) (width : Nat) : Bool :=
  decide (1 ≤ gen) && decide (gen ≤ 4) && (width == 1 || width == 2 || width == 4)
def wfCaptureTrigger (k : Nat) : Bool := decide (k < 4)
def wfCaptureArm (w : Who) : Bool := w.wf
def wfCaptureDump (w : Who) : Bool := w.wf
def wfCaptureFreeze : Bool := true
def wfDumpRecord : Bool := true
def wfHostInterfaceReset (kind : Nat) (_bytes : Nat) : Bool := decide (1 ≤ kind) && decide (kind ≤ 4)
def wfLinkUp (gen : Nat) (width : Nat) : Bool :=
  decide (1 ≤ gen) && decide (gen ≤ 4) && (width == 1 || width == 2 || width == 4)
def wfColdReset : Bool := true
def wfBrownOut (sup : Nat) (mv : Nat) : Bool := decide (sup < 6) && decide (mv < 65536)
def wfResetPin : Bool := true
def wfWatchdogExpiry : Bool := true
def wfKindleReset (w : Who) (key : Nat) : Bool := w.wf && decide (key < 65536)
def wfResetRelease : Bool := true
def wfKindle (_x : KindleIn) : Bool := true
def wfFlashRead (w : Who) : Bool := w.wf
def wfFlashProgram (w : Who) (_rbuf : Bool) : Bool := w.wf
def wfFlashErase (w : Who) : Bool := w.wf
def wfJappend (w : Who) (half : Nat) : Bool := w.wf && decide (half < 2)
def wfFlashOpDone (err : Nat) : Bool := decide (err < 16)
def wfOtpProg (w : Who) (word : Nat) : Bool := w.wf && decide (word < 256)
def wfOtpAdvance (w : Who) : Bool := w.wf
def wfOtpOpDone (_ok : Bool) : Bool := true
def wfMramRecordWrite : Bool := true
def wfMramPost (w : Who) : Bool := w.wf
def wfRunSecond : Bool := true
def wfHoldRequest (w : Who) : Bool := w.wf
def wfHoldExitRequest (w : Who) : Bool := w.wf
def wfHoldLimit : Bool := true
def wfQexit (w : Who) : Bool := w.wf
def wfEmberReq (w : Who) : Bool := w.wf
def wfEmberWake (src : WakeSrc) : Bool := src.wf
def wfEtimerMatch : Bool := true
def wfSupplyDip (sup : Nat) (mv : Nat) : Bool := decide (sup < 6) && decide (mv < 65536)
def wfDipExit : Bool := true
def wfWatchdogEnable (w : Who) : Bool := w.wf
def wfWatchdogKick (w : Who) (key : Nat) : Bool := w.wf && decide (key < 65536)
def wfWatchdogWarn : Bool := true
def wfMfuEdge (m : Nat) (lv : Nat) (time : MfuTime) : Bool :=
  decide (m < 8) && decide (lv < 8) && decide (time.sub < 200)
def wfProbeEdge (m : Nat) (_lvl : Bool) (sub : Nat) : Bool := decide (m < 8) && decide (sub < 200)
def wfPosRead (w : Who) (m : Nat) : Bool := w.wf && decide (m < 8)
def wfPosWrite (w : Who) (m : Nat) (_v : Word) : Bool := w.wf && decide (m < 8)
def wfSpeedUpdate (m : Nat) (_time : Nat) : Bool := decide (m < 8)
def wfPwmPeriodStart (m : Nat) : Bool := decide (m < 8)
def wfIdcode : Bool := true
def wfSamplePreload (_cells : Bytes) : Bool := true
def wfExtest (_cells : Bytes) : Bool := true
def wfHighz : Bool := true
def wfClamp : Bool := true
def wfBypass : Bool := true
def wfWaimondInstruction (code : Nat) : Bool := decide (code < 64)
def wfReadClear (w : Who) (_a : Nat) : Bool := w.wf
def wfRegisterWrite (w : Who) (_a : Nat) (_v : Word) (be : Nat) (_tlp : Tlp) : Bool := w.wf && decide (be < 16)
def wfDelayreqRx (p : Nat) (_frame : Bytes) (turn : Nat) : Bool := decide (p < 3) && decide (turn < 65536)
def wfIllegalInstruction (p : Nat) : Bool := decide (p < 6)
def wfD3hot (_on : Bool) : Bool := true

/-- The operands of a command name things the device has (R241 for the fields of an instruction). -/
def Instr.wf : Instr → Bool
  | .tick t => wfTick t
  | .swapWindow => wfSwapWindow
  | .modeSwitch => wfModeSwitch
  | .baseGridInstant => wfBaseGridInstant
  | .carrierPeriodStart n => wfCarrierPeriodStart n
  | .pllLock k => wfPllLock k
  | .dlcalDone => wfDlcalDone
  | .xinLoss => wfXinLoss
  | .xinReturn => wfXinReturn
  | .holdoverLimit => wfHoldoverLimit
  | .enginePllFault => wfEnginePllFault
  | .tbuCompare n => wfTbuCompare n
  | .tbcRead w sub => wfTbcRead w sub
  | .bgcRead w => wfBgcRead w
  | .portSymbolsDetected p => wfPortSymbolsDetected p
  | .portTrained p => wfPortTrained p
  | .portMeasured p trips turn => wfPortMeasured p trips turn
  | .portDown p miss viol => wfPortDown p miss viol
  | .tickMarkerRx p lag => wfTickMarkerRx p lag
  | .announceTimer => wfAnnounceTimer
  | .announceRx p frame => wfAnnounceRx p frame
  | .announceTimeout p => wfAnnounceTimeout p
  | .timeFrameRx p frame => wfTimeFrameRx p frame
  | .dutyFrameRx p frame => wfDutyFrameRx p frame
  | .dutyApply n ofs => wfDutyApply n ofs
  | .dutyFrameTimeout n => wfDutyFrameTimeout n
  | .spanlossRx p frame => wfSpanlossRx p frame
  | .rejoin w n => wfRejoin w n
  | .messageQueue w tail => wfMessageQueue w tail
  | .messageRx p frame => wfMessageRx p frame
  | .ackRx p seq src => wfAckRx p seq src
  | .ackTimeout p => wfAckTimeout p
  | .flkCommitLock w => wfFlkCommitLock w
  | .phaCommitLock w => wfPhaCommitLock w
  | .anvCommitLock w => wfAnvCommitLock w
  | .rlcCommitLock w => wfRlcCommitLock w
  | .icuCommitLock w => wfIcuCommitLock w
  | .hifCommitLock w => wfHifCommitLock w
  | .commitUnlock w b => wfCommitUnlock w b
  | .senDelayEnd g => wfSenDelayEnd g
  | .stageAbsent n => wfStageAbsent n
  | .stagePresent n => wfStagePresent n
  | .stageFault n above => wfStageFault n above
  | .ocTrip n since => wfOcTrip n since
  | .phaseAdd w n => wfPhaseAdd w n
  | .phaseShed w n => wfPhaseShed w n
  | .phaseRemove w n => wfPhaseRemove w n
  | .phaseRestore w n => wfPhaseRestore w n
  | .governorAdd r => wfGovernorAdd r
  | .governorShed r => wfGovernorShed r
  | .readd r ch => wfReadd r ch
  | .readdHoldEnd r => wfReaddHoldEnd r
  | .blendEnd n => wfBlendEnd n
  | .tempConversion k raw st => wfTempConversion k raw st
  | .tallyInject w c => wfTallyInject w c
  | .capStatRead w => wfCapStatRead w
  | .calUpdate => wfCalUpdate
  | .offsetEstimate k => wfOffsetEstimate k
  | .zofsLearn n => wfZofsLearn n
  | .domainGainWindow d => wfDomainGainWindow d
  | .lrEstimate n => wfLrEstimate n
  | .pleanEvent l ch => wfPleanEvent l ch
  | .preleanEnd l => wfPreleanEnd l
  | .sloadEvent l ch => wfSloadEvent l ch
  | .trigPlean w l => wfTrigPlean w l
  | .trigSload w l => wfTrigSload w l
  | .swapRequest w l ld => wfSwapRequest w l ld
  | .swapAllbound w ld => wfSwapAllbound w ld
  | .swapCancel w l all => wfSwapCancel w l all
  | .shadowWrite w l k v => wfShadowWrite w l k v
  | .bankCheck => wfBankCheck
  | .faultedClear w l => wfFaultedClear w l
  | .snapshotRequest w l => wfSnapshotRequest w l
  | .droopCrossing r => wfDroopCrossing r
  | .releaseCrossing r => wfReleaseCrossing r
  | .maxonExpiry n => wfMaxonExpiry n
  | .lockoutEnd r => wfLockoutEnd r
  | .overshootCrossing r => wfOvershootCrossing r
  | .overshootRelease r => wfOvershootRelease r
  | .ovmaxExpiry r => wfOvmaxExpiry r
  | .warnAssert k => wfWarnAssert k
  | .plarm r => wfPlarm r
  | .plarmEnd r => wfPlarmEnd r
  | .protectionAction x => wfProtectionAction x
  | .protectionWarn x => wfProtectionWarn x
  | .blwQuench r => wfBlwQuench r
  | .blwQuenchDev => wfBlwQuenchDev
  | .quenchRailCommand w r => wfQuenchRailCommand w r
  | .quenchDeviceCommand w => wfQuenchDeviceCommand w
  | .hiccupEnd r => wfHiccupEnd r
  | .retryCountClear r => wfRetryCountClear r
  | .phaseHiccupEnd n => wfPhaseHiccupEnd n
  | .phaseRetryClear n => wfPhaseRetryClear n
  | .latchClear w v => wfLatchClear w v
  | .tonDelayEnd r => wfTonDelayEnd r
  | .toffDelayEnd r => wfToffDelayEnd r
  | .groupOn w g => wfGroupOn w g
  | .groupOff w g => wfGroupOff w g
  | .frefWrite w r v => wfFrefWrite w r v
  | .frefAtRelease r => wfFrefAtRelease r
  | .hrefWrite w r v => wfHrefWrite w r v
  | .avsTargetVoltageWrite o => wfAvsTargetVoltageWrite o
  | .avsWriteAndHold o => wfAvsWriteAndHold o
  | .avsTargetVoltageRead o => wfAvsTargetVoltageRead o
  | .avsTransitionRate o => wfAvsTransitionRate o
  | .avsRailCurrent o => wfAvsRailCurrent o
  | .avsRailTemperature o => wfAvsRailTemperature o
  | .avsResetVoltage o => wfAvsResetVoltage o
  | .avsStatus o => wfAvsStatus o
  | .avsVersion o => wfAvsVersion o
  | .avsUnsupported o => wfAvsUnsupported o
  | .pageCmd o => wfPageCmd o
  | .operationOn o => wfOperationOn o
  | .operationOff o => wfOperationOff o
  | .operationImmediateOff o => wfOperationImmediateOff o
  | .operationMarginLow o => wfOperationMarginLow o
  | .operationMarginHigh o => wfOperationMarginHigh o
  | .onOffConfig o => wfOnOffConfig o
  | .clearFaults o => wfClearFaults o
  | .writeProtect o => wfWriteProtect o
  | .storeUserAll o => wfStoreUserAll o
  | .restoreUserAll o => wfRestoreUserAll o
  | .capability o => wfCapability o
  | .voutMode o => wfVoutMode o
  | .voutCommand o => wfVoutCommand o
  | .voutMax o => wfVoutMax o
  | .voutMin o => wfVoutMin o
  | .voutMarginHigh o => wfVoutMarginHigh o
  | .voutMarginLow o => wfVoutMarginLow o
  | .voutTransitionRate o => wfVoutTransitionRate o
  | .voutDroop o => wfVoutDroop o
  | .voutScaleLoop o => wfVoutScaleLoop o
  | .voutOvFaultLimit o => wfVoutOvFaultLimit o
  | .voutUvFaultLimit o => wfVoutUvFaultLimit o
  | .voutOvWarnLimit o => wfVoutOvWarnLimit o
  | .voutUvWarnLimit o => wfVoutUvWarnLimit o
  | .voutOvFaultResponse o => wfVoutOvFaultResponse o
  | .voutUvFaultResponse o => wfVoutUvFaultResponse o
  | .ioutOcFaultLimit o => wfIoutOcFaultLimit o
  | .ioutOcWarnLimit o => wfIoutOcWarnLimit o
  | .ioutOcFaultResponse o => wfIoutOcFaultResponse o
  | .otFaultLimit o => wfOtFaultLimit o
  | .otWarnLimit o => wfOtWarnLimit o
  | .otFaultResponse o => wfOtFaultResponse o
  | .vinOvFaultLimit o => wfVinOvFaultLimit o
  | .vinUvFaultLimit o => wfVinUvFaultLimit o
  | .tonDelay o => wfTonDelay o
  | .tonRise o => wfTonRise o
  | .toffDelay o => wfToffDelay o
  | .toffFall o => wfToffFall o
  | .statusByte o => wfStatusByte o
  | .statusWord o => wfStatusWord o
  | .statusVout o => wfStatusVout o
  | .statusIout o => wfStatusIout o
  | .statusInput o => wfStatusInput o
  | .statusTemperature o => wfStatusTemperature o
  | .statusCml o => wfStatusCml o
  | .statusMfrSpecific o => wfStatusMfrSpecific o
  | .readVin o => wfReadVin o
  | .readVout o => wfReadVout o
  | .readIout o => wfReadIout o
  | .readTemperature1 o => wfReadTemperature1 o
  | .readTemperature2 o => wfReadTemperature2 o
  | .readPout o => wfReadPout o
  | .pmbusRevision o => wfPmbusRevision o
  | .mfrId o => wfMfrId o
  | .mfrModel o => wfMfrModel o
  | .mfrRevision o => wfMfrRevision o
  | .mfrPhaseCmd o => wfMfrPhaseCmd o
  | .mfrPhaseCount o => wfMfrPhaseCount o
  | .mfrBellowsCount o => wfMfrBellowsCount o
  | .mfrLatchClear o => wfMfrLatchClear o
  | .mfrRefInForce o => wfMfrRefInForce o
  | .mfrTbc o => wfMfrTbc o
  | .mfrFaultLog o => wfMfrFaultLog o
  | .alertResponse q => wfAlertResponse q
  | .pmbusUnsupported o => wfPmbusUnsupported o
  | .pmbusSclTimeout q => wfPmbusSclTimeout q
  | .channelForward g => wfChannelForward g
  | .delayElementFire n => wfDelayElementFire n
  | .oneShotEnd n => wfOneShotEnd n
  | .consumerFire w k => wfConsumerFire w k
  | .evfCommitGo w => wfEvfCommitGo w
  | .evfCommitCheck => wfEvfCommitCheck
  | .evioInputEdge k lvl => wfEvioInputEdge k lvl
  | .evioOutput k => wfEvioOutput k
  | .evioPulseEnd k => wfEvioPulseEnd k
  | .icuSourceEdge src => wfIcuSourceEdge src
  | .icuSoftwareSet w i v => wfIcuSoftwareSet w i v
  | .interruptEntry p => wfInterruptEntry p
  | .taskActivation p => wfTaskActivation p
  | .slotEnable w p sl => wfSlotEnable w p sl
  | .coreReset w p key => wfCoreReset w p key
  | .dozeWake p => wfDozeWake p
  | .longOpComplete p u => wfLongOpComplete p u
  | .storeBufferRetire p => wfStoreBufferRetire p
  | .mergeBufferFlush p => wfMergeBufferFlush p
  | .remoteAccess q x => wfRemoteAccess q x
  | .interconnectResponse p ok => wfInterconnectResponse p ok
  | .ucFetchFault p a ill => wfUcFetchFault p a ill
  | .ucLoad w p half => wfUcLoad w p half
  | .ucVerify w p half => wfUcVerify w p half
  | .ucSwitch w p half => wfUcSwitch w p half
  | .ucCopy w p half => wfUcCopy w p half
  | .ucCommandDone p => wfUcCommandDone p
  | .ucSwitchTake p => wfUcSwitchTake p
  | .patchWrite w p v => wfPatchWrite w p v
  | .patchLock w p => wfPatchLock w p
  | .memInject w p v => wfMemInject w p v
  | .addOp o => wfAddOp o
  | .subOp o => wfSubOp o
  | .andOp o => wfAndOp o
  | .orOp o => wfOrOp o
  | .xorOp o => wfXorOp o
  | .shl o => wfShl o
  | .shr o => wfShr o
  | .sar o => wfSar o
  | .ror o => wfRor o
  | .cmp o => wfCmp o
  | .tst o => wfTst o
  | .mov o => wfMov o
  | .adc o => wfAdc o
  | .sbc o => wfSbc o
  | .minOp o => wfMinOp o
  | .maxOp o => wfMaxOp o
  | .mul o => wfMul o
  | .mulh o => wfMulh o
  | .mulhu o => wfMulhu o
  | .qmul o => wfQmul o
  | .qmul15 o => wfQmul15 o
  | .add15 o => wfAdd15 o
  | .sub15 o => wfSub15 o
  | .clz o => wfClz o
  | .popc o => wfPopc o
  | .bfx o => wfBfx o
  | .bfxs o => wfBfxs o
  | .bfi o => wfBfi o
  | .rev o => wfRev o
  | .ldw o => wfLdw o
  | .ldh o => wfLdh o
  | .ldhu o => wfLdhu o
  | .ldb o => wfLdb o
  | .ldbu o => wfLdbu o
  | .stw o => wfStw o
  | .sth o => wfSth o
  | .stb o => wfStb o
  | .lea o => wfLea o
  | .ldwpc o => wfLdwpc o
  | .leapc o => wfLeapc o
  | .push o => wfPush o
  | .pop o => wfPop o
  | .pushm o => wfPushm o
  | .popm o => wfPopm o
  | .addm o => wfAddm o
  | .andm o => wfAndm o
  | .orm o => wfOrm o
  | .xorm o => wfXorm o
  | .xchg o => wfXchg o
  | .casw o => wfCasw o
  | .stwi o => wfStwi o
  | .btst o => wfBtst o
  | .bset o => wfBset o
  | .bclr o => wfBclr o
  | .bnot o => wfBnot o
  | .bld o => wfBld o
  | .bst o => wfBst o
  | .fadd o => wfFadd o
  | .fsub o => wfFsub o
  | .fmul o => wfFmul o
  | .fmin o => wfFmin o
  | .fmax o => wfFmax o
  | .fcmp o => wfFcmp o
  | .fmov o => wfFmov o
  | .fneg o => wfFneg o
  | .fabs o => wfFabs o
  | .fmtg o => wfFmtg o
  | .fmfg o => wfFmfg o
  | .fcvti o => wfFcvti o
  | .fcvtf o => wfFcvtf o
  | .fld o => wfFld o
  | .fst o => wfFst o
  | .bcc o => wfBcc o
  | .call o => wfCall o
  | .jmp o => wfJmp o
  | .callr o => wfCallr o
  | .ret o => wfRet o
  | .dbnz o => wfDbnz o
  | .mfsr o => wfMfsr o
  | .mtsr o => wfMtsr o
  | .syscall o => wfSyscall o
  | .brk o => wfBrk o
  | .rete o => wfRete o
  | .waitOp o => wfWaitOp o
  | .yield o => wfYield o
  | .fetchsync o => wfFetchsync o
  | .sync o => wfSync o
  | .nopOp o => wfNopOp o
  | .divOp o => wfDivOp o
  | .divu o => wfDivu o
  | .rem o => wfRem o
  | .remu o => wfRemu o
  | .sqrt o => wfSqrt o
  | .cordic o => wfCordic o
  | .fdiv o => wfFdiv o
  | .fsqrt o => wfFsqrt o
  | .bmov o => wfBmov o
  | .vmac o => wfVmac o
  | .bscan o => wfBscan o
  | .crcb o => wfCrcb o
  | .sqDoorbell q v => wfSqDoorbell q v
  | .descriptorFetch q f => wfDescriptorFetch q f
  | .hostNop q => wfHostNop q
  | .regw q e => wfRegw q e
  | .regr q e => wfRegr q e
  | .railVset q e => wfRailVset q e
  | .railOn q e => wfRailOn q e
  | .phaseCmd q e => wfPhaseCmd q e
  | .quench q e => wfQuench q e
  | .capture q e => wfCapture q e
  | .capDump q e => wfCapDump q e
  | .capRearm q e => wfCapRearm q e
  | .fwDescriptor q => wfFwDescriptor q
  | .fwCompletion w v => wfFwCompletion w v
  | .completionPost c => wfCompletionPost c
  | .cqHeadDoorbell q v => wfCqHeadDoorbell q v
  | .telemetryHeadDoorbell t v => wfTelemetryHeadDoorbell t v
  | .eventHeadDoorbell v => wfEventHeadDoorbell v
  | .ringRestart w x => wfRingRestart w x
  | .queueRestart w q => wfQueueRestart w q
  | .hostWorldLock w => wfHostWorldLock w
  | .eventRecordWrite => wfEventRecordWrite
  | .eventPost w => wfEventPost w
  | .telemetryRecord t => wfTelemetryRecord t
  | .linkRateChange gen width => wfLinkRateChange gen width
  | .captureTrigger k => wfCaptureTrigger k
  | .captureArm w => wfCaptureArm w
  | .captureDump w => wfCaptureDump w
  | .captureFreeze => wfCaptureFreeze
  | .dumpRecord => wfDumpRecord
  | .hostInterfaceReset kind bytes => wfHostInterfaceReset kind bytes
  | .linkUp gen width => wfLinkUp gen width
  | .coldReset => wfColdReset
  | .brownOut sup mv => wfBrownOut sup mv
  | .resetPin => wfResetPin
  | .watchdogExpiry => wfWatchdogExpiry
  | .kindleReset w key => wfKindleReset w key
  | .resetRelease => wfResetRelease
  | .kindle x => wfKindle x
  | .flashRead w => wfFlashRead w
  | .flashProgram w rbuf => wfFlashProgram w rbuf
  | .flashErase w => wfFlashErase w
  | .jappend w half => wfJappend w half
  | .flashOpDone err => wfFlashOpDone err
  | .otpProg w word => wfOtpProg w word
  | .otpAdvance w => wfOtpAdvance w
  | .otpOpDone ok => wfOtpOpDone ok
  | .mramRecordWrite => wfMramRecordWrite
  | .mramPost w => wfMramPost w
  | .runSecond => wfRunSecond
  | .holdRequest w => wfHoldRequest w
  | .holdExitRequest w => wfHoldExitRequest w
  | .holdLimit => wfHoldLimit
  | .qexit w => wfQexit w
  | .emberReq w => wfEmberReq w
  | .emberWake src => wfEmberWake src
  | .etimerMatch => wfEtimerMatch
  | .supplyDip sup mv => wfSupplyDip sup mv
  | .dipExit => wfDipExit
  | .watchdogEnable w => wfWatchdogEnable w
  | .watchdogKick w key => wfWatchdogKick w key
  | .watchdogWarn => wfWatchdogWarn
  | .mfuEdge m lv time => wfMfuEdge m lv time
  | .probeEdge m lvl sub => wfProbeEdge m lvl sub
  | .posRead w m => wfPosRead w m
  | .posWrite w m v => wfPosWrite w m v
  | .speedUpdate m time => wfSpeedUpdate m time
  | .pwmPeriodStart m => wfPwmPeriodStart m
  | .idcode => wfIdcode
  | .samplePreload cells => wfSamplePreload cells
  | .extest cells => wfExtest cells
  | .highz => wfHighz
  | .clamp => wfClamp
  | .bypass => wfBypass
  | .waimondInstruction code => wfWaimondInstruction code
  | .readClear w a => wfReadClear w a
  | .registerWrite w a v be tlp => wfRegisterWrite w a v be tlp
  | .delayreqRx p frame turn => wfDelayreqRx p frame turn
  | .illegalInstruction p => wfIllegalInstruction p
  | .d3hot on => wfD3hot on

end Sys2Proof
end

