-- ==== Sys2Proof/Config.lean ====
section
/-! DEFINITION. What an implementation fixes and the spec leaves open: free values and uninterpreted functions, none with a value a proof could use. -/

namespace Sys2Proof

/-- A value the spec leaves open, by the number of the draw (log entry 5). -/
opaque Config.freeWord : Nat → BitVec 32

/-- The 6,144 microwords of the ROM control store (R300): the spec gives none (log entry 69). -/
opaque Config.ucRom : Nat → BitVec 24

/-- Whether a digest is that of microcode Waimond signed for silicon revision B, for which the stated meaning of the
instructions holds (R292; log entry 69). -/
opaque Config.ucSigned : List (BitVec 8) → Bool

/-- The boot ROM's bytes (R233, R374): the spec gives none (log entry 7). -/
opaque Config.bootRom : Nat → BitVec 8

/-- SHA-384 of bytes, 48 bytes (R308, R384): the algorithm is named, its arithmetic is another specification's (log entry 8). -/
opaque Config.sha384 : List (BitVec 8) → List (BitVec 8)

/-- ECDSA P-384 verification of a signature over a digest under a public key (R384; log entry 8). -/
opaque Config.ecdsaOk : List (BitVec 8) → List (BitVec 8) → List (BitVec 8) → Bool

/-- AES-256-GCM decryption (R384): key, initial vector, additional data, ciphertext, tag; none where the tag fails (log entry 8). -/
opaque Config.gcmOpen : Nat → List (BitVec 8) → List (BitVec 8) → List (BitVec 8) → List (BitVec 8) → Option (List (BitVec 8))

/-- SHA-384 of the vendor key, which the boot ROM holds (R384; log entry 8). -/
opaque Config.vendorHash : List (BitVec 8)

/-- By how many LSB the two results of a CORDIC function on its operands differ from the exactly rounded values; R257 bounds
the difference by 4 (log entry 9). -/
opaque Config.cordicErr : Nat → BitVec 32 → BitVec 32 → Int × Int

/-- The angle of CORDIC function 1 where R257 states none: of (0, 0), and where it is +1 (log entry 9). -/
opaque Config.cordicOpen : BitVec 32 → BitVec 32 → BitVec 32

/-- Whether a rounded result counts as tiny before (true) or after rounding (R227, IEEE 754 leaves it open; log entry 10). -/
opaque Config.tinyBefore : Bool

/-- The payload and sign of the quiet NaN that an operation on NaN operands returns: IEEE 754 recommends one and requires
none (R227; log entry 15). -/
opaque Config.nanPayload : BitVec 32 → BitVec 32 → BitVec 32

/-- The place in the boundary-scan register of the cell that gives bit `k` of what pin `n` of the model's numbering drives (R457):
the spec names a BSDL file for it (log entry 86). -/
opaque Config.padCell : Nat → Nat → Nat

/-- Whether FCMP signals an invalid operation for quiet NaNs: IEEE 754 has comparisons of both kinds, and R250 does not say
which FCMP is (log entry 16). -/
opaque Config.fcmpSignals : Bool

end Sys2Proof
end

