-- ==== Sys2Proof/Machine/Bits.lean ====
section
/-! DEFINITION. Bit fields, sign extension, byte order and checksums: the helpers every meaning shares. -/

namespace Sys2Proof.Machine

/-- Bits [hi:lo] of a word, as a number. -/
def getBits (w : Word) (hi lo : Nat) : Nat := (w.toNat / 2 ^ lo) % 2 ^ (hi + 1 - lo)

/-- The word with bits [hi:lo] replaced by the low bits of `v`. -/
def putBits (w : Word) (hi lo v : Nat) : Word :=
  BitVec.ofNat 32 (w.toNat - getBits w hi lo * 2 ^ lo + v % 2 ^ (hi + 1 - lo) * 2 ^ lo)

/-- Bit `i` of a number. -/
def nbit (v i : Nat) : Bool := (v / 2 ^ i) % 2 == 1

/-- Bit `i` of a word. -/
def wbit (w : Word) (i : Nat) : Bool := nbit w.toNat i

/-- A flag as a number. -/
def b2n (b : Bool) : Nat := if b then 1 else 0

/-- The mask of `n` low ones. -/
def ones (n : Nat) : Nat := 2 ^ n - 1

/-- The signed value of an `n`-bit pattern. -/
def sext (n v : Nat) : Int :=
  if v % 2 ^ n < 2 ^ (n - 1) then ((v % 2 ^ n : Nat) : Int) else ((v % 2 ^ n : Nat) : Int) - ((2 ^ n : Nat) : Int)

/-- The signed value of a word. -/
def sword (w : Word) : Int := sext 32 w.toNat

/-- The `n`-bit two's-complement pattern of an integer. -/
def wrapN (n : Nat) (i : Int) : Nat := (i % ((2 ^ n : Nat) : Int)).toNat

/-- An integer wrapped into a word. -/
def wordOf (i : Int) : Word := BitVec.ofNat 32 (wrapN 32 i)

/-- An integer held between two bounds. -/
def clampI (lo hi x : Int) : Int := if x < lo then lo else if hi < x then hi else x

/-- A number held between two bounds. -/
def clampN (lo hi x : Nat) : Nat := if x < lo then lo else if hi < x then hi else x

/-- One more, held at `top`. -/
def satInc (top x : Nat) : Nat := if x < top then x + 1 else top

/-- The magnitude of an integer. -/
def absI (x : Int) : Nat := x.natAbs

/-- Quotient rounded to minus infinity. -/
def floorDiv (a b : Int) : Int := Int.fdiv a b

/-- Quotient rounded to the nearest integer, halves upwards. -/
def roundDiv (a b : Int) : Int := Int.fdiv (2 * a + b) (2 * b)

/-- Quotient rounded to the nearest integer, halves away from zero. -/
def roundAway (a : Int) (b : Nat) : Int :=
  if a < 0 then - (((2 * a.natAbs + b) / (2 * b) : Nat) : Int) else (((2 * a.natAbs + b) / (2 * b) : Nat) : Int)

/-- The entry of a list, or a default beyond its end. -/
def nth {α : Type} (l : List α) (i : Nat) (d : α) : α := l.getD i d

/-- The list with entry `i` changed. -/
def modNth {α : Type} (l : List α) (i : Nat) (f : α → α) : List α := l.modify i f

/-- Entries `0` to `n - 1` that meet a test, ascending. -/
def whichN (n : Nat) (p : Nat → Bool) : List Nat := (List.range n).filter p

/-- How many of `0` to `n - 1` meet a test. -/
def countN (n : Nat) (p : Nat → Bool) : Nat := (whichN n p).length

/-- The number whose bit `i` is `p i`, for `i` below `n`. -/
def maskN (n : Nat) (p : Nat → Bool) : Nat :=
  (List.range n).foldl (fun a i => a + b2n (p i) * 2 ^ i) 0

/-- The bytes of a number, `n` of them, lowest first (R233). -/
def leBytes : Nat → Nat → List Byte
  | 0, _ => []
  | n + 1, v => BitVec.ofNat 8 v :: leBytes n (v / 256)

/-- The number that bytes spell, lowest first (R233). -/
def ofLe : List Byte → Nat
  | [] => 0
  | b :: bs => b.toNat + 256 * ofLe bs

/-- The word that bytes spell, lowest first. -/
def wordOfLe (bs : List Byte) : Word := BitVec.ofNat 32 (ofLe bs)

/-- `n` bytes of a list from place `i`, zero beyond its end. -/
def bytesAt (bs : List Byte) (i n : Nat) : List Byte := (List.range n).map (fun k => nth bs (i + k) 0)

/-- The number spelt by `n` bytes of a list from place `i`. -/
def leAt (bs : List Byte) (i n : Nat) : Nat := ofLe (bytesAt bs i n)

/-- One byte folded into a reflected CRC-32C register (14 R349: polynomial 0x82F6_3B78). -/
def crc32Bit (c : Nat) : Nat := if c % 2 == 1 then (c / 2) ^^^ 0x82F63B78 else c / 2

/-- Eight steps of `crc32Bit`. -/
def crc32Byte (c : Nat) (b : Byte) : Nat :=
  crc32Bit (crc32Bit (crc32Bit (crc32Bit (crc32Bit (crc32Bit (crc32Bit (crc32Bit (c ^^^ b.toNat))))))))

/-- CRC-32C over bytes: initial 0xFFFF_FFFF, final complement (14 R349). -/
def crc32c (bs : List Byte) : Nat := (bs.foldl crc32Byte 0xFFFFFFFF) ^^^ 0xFFFFFFFF

/-- One bit, most significant first, through a CRC-8 register with polynomial `poly`. -/
def crc8Step (poly c : Nat) : Nat := if c / 128 % 2 == 1 then (c * 2 % 256) ^^^ poly else c * 2 % 256

/-- One byte through a CRC-8 register. -/
def crc8Byte (poly c : Nat) (b : Byte) : Nat :=
  crc8Step poly (crc8Step poly (crc8Step poly (crc8Step poly (crc8Step poly (crc8Step poly
    (crc8Step poly (crc8Step poly (c ^^^ b.toNat))))))))

/-- CRC-8 over bytes, most significant bit first, with its initial value. -/
def crc8 (poly ini : Nat) (bs : List Byte) : Nat := bs.foldl (crc8Byte poly) ini

end Sys2Proof.Machine
end

