-- ==== Sys2Proof/Machine/Sparse.lean ====
section
/-! DEFINITION. Sparse maps in one canonical form: keys strictly rising, no entry equal to what its key reads as unlisted. -/

namespace Sys2Proof.Machine

/-- What key `k` holds in the map `m`, where an unlisted key reads as `d k`. -/
def spGet {α : Type} (d : Nat → α) : List (Nat × α) → Nat → α
  | [], k => d k
  | (k', v) :: m, k => if k = k' then v else if k < k' then d k else spGet d m k

/-- The map with key `k` removed. -/
def spDel {α : Type} : List (Nat × α) → Nat → List (Nat × α)
  | [], _ => []
  | (k', v) :: m, k => if k = k' then m else if k < k' then (k', v) :: m else (k', v) :: spDel m k

/-- The map with value `v` listed at key `k`. -/
def spIns {α : Type} : List (Nat × α) → Nat → α → List (Nat × α)
  | [], k, v => [(k, v)]
  | (k', v') :: m, k, v =>
    if k = k' then (k, v) :: m else if k < k' then (k, v) :: (k', v') :: m else (k', v') :: spIns m k v

/-- The map after a write: a value equal to what the key reads as unlisted removes the entry. -/
def spSet {α : Type} [DecidableEq α] (d : Nat → α) (m : List (Nat × α)) (k : Nat) (v : α) : List (Nat × α) :=
  if v = d k then spDel m k else spIns m k v

/-- The keys of the map rise strictly, all above `lo`, and no entry equals its unlisted value. -/
def spWfFrom {α : Type} [DecidableEq α] (d : Nat → α) : Nat → List (Nat × α) → Bool
  | _, [] => true
  | lo, (k, v) :: m => decide (lo ≤ k) && decide (v ≠ d k) && spWfFrom d (k + 1) m

/-- The canonical form of a sparse map. -/
def spWf {α : Type} [DecidableEq α] (d : Nat → α) (m : List (Nat × α)) : Bool := spWfFrom d 0 m

end Sys2Proof.Machine
end

