-- ==== Sys2Proof/Machine/RegMap.lean ====
section
/-! DEFINITION. What a register table of the spec says of a register: its place, world, fields, access codes, reset values and domains (R8 to R13). -/

namespace Sys2Proof.Machine

/-- Access codes (R9). -/
inductive Acc where
  | rw | ro | wo | w1c | w1s | rc | rwl
deriving DecidableEq, Repr

/-- Reset domains (R12): the narrowest reset that restores a field. -/
inductive Dom where
  | c | p | k | x | h
deriving DecidableEq, Repr

/-- One field of a register table. -/
structure FieldSpec where
  hi : Nat
  lo : Nat
  acc : Acc
  /-- reset value; with `step`, plus that many times the register's last index. -/
  rst : Nat
  dom : Dom
  step : Nat := 0
  /-- ranges of encodings that are not reserved; none listed: every encoding (R10). -/
  ok : List (Nat × Nat) := []
deriving DecidableEq, Repr

/-- One register of a register table, or a family of them. -/
structure RegSpec where
  /-- core-view address of the first (R234). -/
  base : Nat
  /-- how many along each index, and the stride, widest first. -/
  dims : List (Nat × Nat)
  /-- World column: true for Keeper, false for Any (R8). -/
  keeper : Bool
  fields : List FieldSpec
deriving DecidableEq, Repr

/-- A field of one register: its address and bits. -/
structure FRef where
  addr : Nat
  hi : Nat
  lo : Nat
deriving DecidableEq, Repr

/-- The indices of the register at offset `o` of a family, if there is one there; widest first. -/
def dimsAt : List (Nat × Nat) → Nat → Option (List Nat)
  | [], o => if o = 0 then some [] else none
  | (n, st) :: ds, o => if o / st < n then (dimsAt ds (o % st)).map (o / st :: ·) else none

/-- The last index of a register, 0 where it has none. -/
def RegSpec.lastIdx (r : RegSpec) (a : Nat) : Nat :=
  ((dimsAt r.dims (a - r.base)).getD []).getLastD 0

/-- The register's address is `a`. -/
def RegSpec.covers (r : RegSpec) (a : Nat) : Bool :=
  decide (r.base ≤ a) && (dimsAt r.dims (a - r.base)).isSome

/-- The encoding `v` is not reserved for the field (R10). -/
def FieldSpec.allows (f : FieldSpec) (v : Nat) : Bool :=
  f.ok.isEmpty || f.ok.any (fun r => decide (r.1 ≤ v) && decide (v ≤ r.2))

/-- The reset value of the fields of a register at address `a` (R12). -/
def RegSpec.resetWord (r : RegSpec) (a : Nat) : Word :=
  r.fields.foldl (fun w f => putBits w f.hi f.lo (f.rst + f.step * r.lastIdx a)) 0

end Sys2Proof.Machine
end

