-- ==== Sys2Proof/Machine/Addr.lean ====
section
/-! DEFINITION. The address of every register and the bits of every field, under the spec's own names (the register tables of spec/). -/

namespace Sys2Proof.Machine

/-- TBU_CTL: Tick mode request, step permission. -/
def TBU_CTL : Nat := 0x40E00000
/-- [1:1]. -/ def TBU_CTL.STEP_EN : FRef := ⟨TBU_CTL, 1, 1⟩
/-- [0:0]. -/ def TBU_CTL.MODE_REQ : FRef := ⟨TBU_CTL, 0, 0⟩
/-- TBU_STAT: Mode, lock, clock status. -/
def TBU_STAT : Nat := 0x40E00004
/-- [6:6]. -/ def TBU_STAT.FLOCK_PLL_LOCK : FRef := ⟨TBU_STAT, 6, 6⟩
/-- [5:5]. -/ def TBU_STAT.CORE_PLL_LOCK : FRef := ⟨TBU_STAT, 5, 5⟩
/-- [4:4]. -/ def TBU_STAT.ENG_PLL_LOCK : FRef := ⟨TBU_STAT, 4, 4⟩
/-- [3:3]. -/ def TBU_STAT.XLOSS : FRef := ⟨TBU_STAT, 3, 3⟩
/-- [2:2]. -/ def TBU_STAT.HOLDOVER : FRef := ⟨TBU_STAT, 2, 2⟩
/-- [1:1]. -/ def TBU_STAT.LOCK : FRef := ⟨TBU_STAT, 1, 1⟩
/-- [0:0]. -/ def TBU_STAT.MODE : FRef := ⟨TBU_STAT, 0, 0⟩
/-- TBU_SUB_SNAP: Sub-tick count snapshot. -/
def TBU_SUB_SNAP : Nat := 0x40E00008
/-- [31:31]. -/ def TBU_SUB_SNAP.MODE_PEND : FRef := ⟨TBU_SUB_SNAP, 31, 31⟩
/-- [7:0]. -/ def TBU_SUB_SNAP.SUB : FRef := ⟨TBU_SUB_SNAP, 7, 0⟩
/-- TBU_TBC_LO: TBC[31:0]. -/
def TBU_TBC_LO : Nat := 0x40E00010
/-- [31:0]. -/ def TBU_TBC_LO.COUNT : FRef := ⟨TBU_TBC_LO, 31, 0⟩
/-- TBU_TBC_HI_SNAP: TBC[63:32] snapshot. -/
def TBU_TBC_HI_SNAP : Nat := 0x40E00014
/-- [31:0]. -/ def TBU_TBC_HI_SNAP.COUNT : FRef := ⟨TBU_TBC_HI_SNAP, 31, 0⟩
/-- TBU_BGC_LO: Base-grid count [31:0]. -/
def TBU_BGC_LO : Nat := 0x40E00018
/-- [31:0]. -/ def TBU_BGC_LO.COUNT : FRef := ⟨TBU_BGC_LO, 31, 0⟩
/-- TBU_BGC_HI_SNAP: Base-grid count [63:32] snapshot. -/
def TBU_BGC_HI_SNAP : Nat := 0x40E0001C
/-- [31:0]. -/ def TBU_BGC_HI_SNAP.COUNT : FRef := ⟨TBU_BGC_HI_SNAP, 31, 0⟩
/-- TBU_FOFS_LO_SNAP: Flock offset [31:0] snapshot. -/
def TBU_FOFS_LO_SNAP : Nat := 0x40E00020
/-- [31:0]. -/ def TBU_FOFS_LO_SNAP.COUNT : FRef := ⟨TBU_FOFS_LO_SNAP, 31, 0⟩
/-- TBU_FOFS_HI_SNAP: Flock offset [63:32] snapshot. -/
def TBU_FOFS_HI_SNAP : Nat := 0x40E00024
/-- [31:0]. -/ def TBU_FOFS_HI_SNAP.COUNT : FRef := ⟨TBU_FOFS_HI_SNAP, 31, 0⟩
/-- TBU_PHERR: Servo phase error. -/
def TBU_PHERR : Nat := 0x40E00028
/-- [15:0]. -/ def TBU_PHERR.ERR : FRef := ⟨TBU_PHERR, 15, 0⟩
/-- TBU_HOLD_LIM: XIN holdover limit. -/
def TBU_HOLD_LIM : Nat := 0x40E00030
/-- [19:0]. -/ def TBU_HOLD_LIM.LIMIT : FRef := ⟨TBU_HOLD_LIM, 19, 0⟩
/-- TBU_CMP_LO: Compare value [31:0]. -/
def TBU_CMP_LO (n : Nat) : Nat := 0x40E00040 + 0x8 * n
/-- [31:0]. -/ def TBU_CMP_LO.VALUE (n : Nat) : FRef := ⟨TBU_CMP_LO n, 31, 0⟩
/-- TBU_CMP_HI: Compare value [63:32]. -/
def TBU_CMP_HI (n : Nat) : Nat := 0x40E00044 + 0x8 * n
/-- [31:0]. -/ def TBU_CMP_HI.VALUE (n : Nat) : FRef := ⟨TBU_CMP_HI n, 31, 0⟩
/-- TBU_CMP_CTL: Compare enables. -/
def TBU_CMP_CTL : Nat := 0x40E00080
/-- [7:0]. -/ def TBU_CMP_CTL.EN : FRef := ⟨TBU_CMP_CTL, 7, 0⟩
/-- FLK_CTL: Port enables, bellwether priority. -/
def FLK_CTL : Nat := 0x40D00000
/-- [15:8]. -/ def FLK_CTL.BW_PRIO : FRef := ⟨FLK_CTL, 15, 8⟩
/-- [3:3]. -/ def FLK_CTL.MSG_EN : FRef := ⟨FLK_CTL, 3, 3⟩
/-- [2:0]. -/ def FLK_CTL.PORT_EN : FRef := ⟨FLK_CTL, 2, 0⟩
/-- FLK_DEV_ID: Device ID. -/
def FLK_DEV_ID : Nat := 0x40D00004
/-- [9:0]. -/ def FLK_DEV_ID.ID : FRef := ⟨FLK_DEV_ID, 9, 0⟩
/-- FLK_STAT: Tree and bellwether status. -/
def FLK_STAT : Nat := 0x40D00008
/-- [28:28]. -/ def FLK_STAT.DEPTHX : FRef := ⟨FLK_STAT, 28, 28⟩
/-- [27:27]. -/ def FLK_STAT.IDCONF : FRef := ⟨FLK_STAT, 27, 27⟩
/-- [26:26]. -/ def FLK_STAT.ISBW : FRef := ⟨FLK_STAT, 26, 26⟩
/-- [25:24]. -/ def FLK_STAT.UPPORT : FRef := ⟨FLK_STAT, 25, 24⟩
/-- [20:16]. -/ def FLK_STAT.HOPS : FRef := ⟨FLK_STAT, 20, 16⟩
/-- [9:0]. -/ def FLK_STAT.BW_ID : FRef := ⟨FLK_STAT, 9, 0⟩
/-- FLK_COMMIT: Span commit lock and check status. -/
def FLK_COMMIT : Nat := 0x40D0000C
/-- [3:1]. -/ def FLK_COMMIT.RESULT : FRef := ⟨FLK_COMMIT, 3, 1⟩
/-- [0:0]. -/ def FLK_COMMIT.LOCK : FRef := ⟨FLK_COMMIT, 0, 0⟩
/-- FLK_PORT_STAT: Port state and delay. -/
def FLK_PORT_STAT (p : Nat) : Nat := 0x40D00010 + 0x4 * p
/-- [19:4]. -/ def FLK_PORT_STAT.DELAY (p : Nat) : FRef := ⟨FLK_PORT_STAT p, 19, 4⟩
/-- [2:0]. -/ def FLK_PORT_STAT.LSTATE (p : Nat) : FRef := ⟨FLK_PORT_STAT p, 2, 0⟩
/-- FLK_PORT_ERR: Port error counters. -/
def FLK_PORT_ERR (p : Nat) : Nat := 0x40D00020 + 0x4 * p
/-- [31:16]. -/ def FLK_PORT_ERR.DUTY (p : Nat) : FRef := ⟨FLK_PORT_ERR p, 31, 16⟩
/-- [15:0]. -/ def FLK_PORT_ERR.CODE (p : Nat) : FRef := ⟨FLK_PORT_ERR p, 15, 0⟩
/-- FLK_SPAN: Span forwarding entries. -/
def FLK_SPAN (n : Nat) : Nat := 0x40D00040 + 0x4 * n
/-- [31:31]. -/ def FLK_SPAN.EN (n : Nat) : FRef := ⟨FLK_SPAN n, 31, 31⟩
/-- [30:30]. -/ def FLK_SPAN.ROLE (n : Nat) : FRef := ⟨FLK_SPAN n, 30, 30⟩
/-- [29:28]. -/ def FLK_SPAN.HOP (n : Nat) : FRef := ⟨FLK_SPAN n, 29, 28⟩
/-- [27:26]. -/ def FLK_SPAN.IN_PORT (n : Nat) : FRef := ⟨FLK_SPAN n, 27, 26⟩
/-- [25:23]. -/ def FLK_SPAN.OUT_MASK (n : Nat) : FRef := ⟨FLK_SPAN n, 25, 23⟩
/-- [14:14]. -/ def FLK_SPAN.LOST (n : Nat) : FRef := ⟨FLK_SPAN n, 14, 14⟩
/-- [13:13]. -/ def FLK_SPAN.REJOIN (n : Nat) : FRef := ⟨FLK_SPAN n, 13, 13⟩
/-- [12:8]. -/ def FLK_SPAN.RAIL (n : Nat) : FRef := ⟨FLK_SPAN n, 12, 8⟩
/-- [7:0]. -/ def FLK_SPAN.SPAN_ID (n : Nat) : FRef := ⟨FLK_SPAN n, 7, 0⟩
/-- FLK_TX_BASE: Transmit ring base in system SRAM, 128-byte aligned. -/
def FLK_TX_BASE : Nat := 0x40D00080
/-- [31:7]. -/ def FLK_TX_BASE.ADDR : FRef := ⟨FLK_TX_BASE, 31, 7⟩
/-- FLK_TX_SIZE: Transmit ring size. -/
def FLK_TX_SIZE : Nat := 0x40D00084
/-- [4:0]. -/ def FLK_TX_SIZE.ENTRIES_LOG2 : FRef := ⟨FLK_TX_SIZE, 4, 0⟩
/-- FLK_TX_HEAD: Transmit consumer index. -/
def FLK_TX_HEAD : Nat := 0x40D00088
/-- [11:0]. -/ def FLK_TX_HEAD.IDX : FRef := ⟨FLK_TX_HEAD, 11, 0⟩
/-- FLK_TX_TAIL: Transmit producer index. -/
def FLK_TX_TAIL : Nat := 0x40D0008C
/-- [11:0]. -/ def FLK_TX_TAIL.IDX : FRef := ⟨FLK_TX_TAIL, 11, 0⟩
/-- FLK_RX_BASE: Receive ring base, 128-byte aligned. -/
def FLK_RX_BASE : Nat := 0x40D00090
/-- [31:7]. -/ def FLK_RX_BASE.ADDR : FRef := ⟨FLK_RX_BASE, 31, 7⟩
/-- FLK_RX_SIZE: Receive ring size. -/
def FLK_RX_SIZE : Nat := 0x40D00094
/-- [4:0]. -/ def FLK_RX_SIZE.ENTRIES_LOG2 : FRef := ⟨FLK_RX_SIZE, 4, 0⟩
/-- FLK_RX_HEAD: Receive producer index. -/
def FLK_RX_HEAD : Nat := 0x40D00098
/-- [11:0]. -/ def FLK_RX_HEAD.IDX : FRef := ⟨FLK_RX_HEAD, 11, 0⟩
/-- FLK_RX_TAIL: Receive consumer index. -/
def FLK_RX_TAIL : Nat := 0x40D0009C
/-- [11:0]. -/ def FLK_RX_TAIL.IDX : FRef := ⟨FLK_RX_TAIL, 11, 0⟩
/-- FLK_MSG_DROP: Dropped message count. -/
def FLK_MSG_DROP : Nat := 0x40D000A0
/-- [31:0]. -/ def FLK_MSG_DROP.COUNT : FRef := ⟨FLK_MSG_DROP, 31, 0⟩
/-- PHA_CAP: Phase, group and rail counts. -/
def PHA_CAP : Nat := 0x40100000
/-- [21:16]. -/ def PHA_CAP.NRAIL : FRef := ⟨PHA_CAP, 21, 16⟩
/-- [11:8]. -/ def PHA_CAP.NGRP : FRef := ⟨PHA_CAP, 11, 8⟩
/-- [7:0]. -/ def PHA_CAP.NPH : FRef := ⟨PHA_CAP, 7, 0⟩
/-- PHA_STAT: Calibration and ignored-write status. -/
def PHA_STAT : Nat := 0x40100004
/-- [2:2]. -/ def PHA_STAT.WIGN : FRef := ⟨PHA_STAT, 2, 2⟩
/-- [1:1]. -/ def PHA_STAT.CMDIGN : FRef := ⟨PHA_STAT, 1, 1⟩
/-- [0:0]. -/ def PHA_STAT.DLCAL_OK : FRef := ⟨PHA_STAT, 0, 0⟩
/-- PHA_COMMIT: Commit lock and check result. -/
def PHA_COMMIT : Nat := 0x40100008
/-- [16:16]. -/ def PHA_COMMIT.WHERE_PH : FRef := ⟨PHA_COMMIT, 16, 16⟩
/-- [15:8]. -/ def PHA_COMMIT.WHERE : FRef := ⟨PHA_COMMIT, 15, 8⟩
/-- [3:1]. -/ def PHA_COMMIT.RESULT : FRef := ⟨PHA_COMMIT, 3, 1⟩
/-- [0:0]. -/ def PHA_COMMIT.LOCK : FRef := ⟨PHA_COMMIT, 0, 0⟩
/-- PHA_PH_CMD: Phase commands. -/
def PHA_PH_CMD : Nat := 0x4010000C
/-- [19:16]. -/ def PHA_PH_CMD.OP : FRef := ⟨PHA_PH_CMD, 19, 16⟩
/-- [7:0]. -/ def PHA_PH_CMD.PHASE : FRef := ⟨PHA_PH_CMD, 7, 0⟩
/-- PHA_SEN: Group stage enables and delay. -/
def PHA_SEN : Nat := 0x40100010
/-- [27:16]. -/ def PHA_SEN.DLY : FRef := ⟨PHA_SEN, 27, 16⟩
/-- [8:0]. -/ def PHA_SEN.EN : FRef := ⟨PHA_SEN, 8, 0⟩
/-- PHA_FAIL_SUM: Failed-phase summary. -/
def PHA_FAIL_SUM (i : Nat) : Nat := 0x40100040 + 0x4 * i
/-- [31:0]. -/ def PHA_FAIL_SUM.FAIL (i : Nat) : FRef := ⟨PHA_FAIL_SUM i, 31, 0⟩
/-- PHA_OC_SUM: Overcurrent summary. -/
def PHA_OC_SUM (i : Nat) : Nat := 0x40100060 + 0x4 * i
/-- [31:0]. -/ def PHA_OC_SUM.OC (i : Nat) : FRef := ⟨PHA_OC_SUM i, 31, 0⟩
/-- PHA_RAIL_CFG: Modulation, interleave, source, scaling. -/
def PHA_RAIL_CFG (r : Nat) : Nat := 0x40101000 + 0x40 * r
/-- [11:8]. -/ def PHA_RAIL_CFG.OSHIFT (r : Nat) : FRef := ⟨PHA_RAIL_CFG r, 11, 8⟩
/-- [4:4]. -/ def PHA_RAIL_CFG.SRC (r : Nat) : FRef := ⟨PHA_RAIL_CFG r, 4, 4⟩
/-- [3:3]. -/ def PHA_RAIL_CFG.GRIDSYNC (r : Nat) : FRef := ⟨PHA_RAIL_CFG r, 3, 3⟩
/-- [2:2]. -/ def PHA_RAIL_CFG.INTLV (r : Nat) : FRef := ⟨PHA_RAIL_CFG r, 2, 2⟩
/-- [1:0]. -/ def PHA_RAIL_CFG.MOD (r : Nat) : FRef := ⟨PHA_RAIL_CFG r, 1, 0⟩
/-- PHA_RAIL_PER: Carrier period. -/
def PHA_RAIL_PER (r : Nat) : Nat := 0x40101004 + 0x40 * r
/-- [19:0]. -/ def PHA_RAIL_PER.PERIOD (r : Nat) : FRef := ⟨PHA_RAIL_PER r, 19, 0⟩
/-- PHA_RAIL_STAT: Phase counts by state. -/
def PHA_RAIL_STAT (r : Nat) : Nat := 0x40101008 + 0x40 * r
/-- [31:24]. -/ def PHA_RAIL_STAT.NFAIL (r : Nat) : FRef := ⟨PHA_RAIL_STAT r, 31, 24⟩
/-- [23:16]. -/ def PHA_RAIL_STAT.NPARK (r : Nat) : FRef := ⟨PHA_RAIL_STAT r, 23, 16⟩
/-- [15:8]. -/ def PHA_RAIL_STAT.NBLEND (r : Nat) : FRef := ⟨PHA_RAIL_STAT r, 15, 8⟩
/-- [7:0]. -/ def PHA_RAIL_STAT.NACT (r : Nat) : FRef := ⟨PHA_RAIL_STAT r, 7, 0⟩
/-- PHA_RAIL_DUTY: Last committed D_r. -/
def PHA_RAIL_DUTY (r : Nat) : Nat := 0x4010100C + 0x40 * r
/-- [23:0]. -/ def PHA_RAIL_DUTY.D (r : Nat) : FRef := ⟨PHA_RAIL_DUTY r, 23, 0⟩
/-- PHA_GOV: Governor mode, limits, blend. -/
def PHA_GOV (r : Nat) : Nat := 0x40101010 + 0x40 * r
/-- [29:24]. -/ def PHA_GOV.BLEND (r : Nat) : FRef := ⟨PHA_GOV r, 29, 24⟩
/-- [23:16]. -/ def PHA_GOV.MAX_N (r : Nat) : FRef := ⟨PHA_GOV r, 23, 16⟩
/-- [15:8]. -/ def PHA_GOV.MIN_N (r : Nat) : FRef := ⟨PHA_GOV r, 15, 8⟩
/-- [0:0]. -/ def PHA_GOV.MODE (r : Nat) : FRef := ⟨PHA_GOV r, 0, 0⟩
/-- PHA_GOV_TH: Governor thresholds. -/
def PHA_GOV_TH (r : Nat) : Nat := 0x40101014 + 0x40 * r
/-- [31:16]. -/ def PHA_GOV_TH.SHED_PP (r : Nat) : FRef := ⟨PHA_GOV_TH r, 31, 16⟩
/-- [15:0]. -/ def PHA_GOV_TH.ADD_PP (r : Nat) : FRef := ⟨PHA_GOV_TH r, 15, 0⟩
/-- PHA_GOV_DW: Governor dwell times. -/
def PHA_GOV_DW (r : Nat) : Nat := 0x40101018 + 0x40 * r
/-- [31:16]. -/ def PHA_GOV_DW.SHED_DWELL (r : Nat) : FRef := ⟨PHA_GOV_DW r, 31, 16⟩
/-- [15:0]. -/ def PHA_GOV_DW.ADD_DWELL (r : Nat) : FRef := ⟨PHA_GOV_DW r, 15, 0⟩
/-- PHA_GOV_HOLD: Shed hold after re-add. -/
def PHA_GOV_HOLD (r : Nat) : Nat := 0x4010101C + 0x40 * r
/-- [15:0]. -/ def PHA_GOV_HOLD.READD_HOLD (r : Nat) : FRef := ⟨PHA_GOV_HOLD r, 15, 0⟩
/-- PHA_BAL: Current-balance gain. -/
def PHA_BAL (r : Nat) : Nat := 0x40101020 + 0x40 * r
/-- [15:0]. -/ def PHA_BAL.CB_GAIN (r : Nat) : FRef := ⟨PHA_BAL r, 15, 0⟩
/-- PHA_CH_CFG: Membership, order, skip. -/
def PHA_CH_CFG (n : Nat) : Nat := 0x40104000 + 0x20 * n
/-- [12:12]. -/ def PHA_CH_CFG.SKIP (n : Nat) : FRef := ⟨PHA_CH_CFG n, 12, 12⟩
/-- [11:8]. -/ def PHA_CH_CFG.ORDER (n : Nat) : FRef := ⟨PHA_CH_CFG n, 11, 8⟩
/-- [5:5]. -/ def PHA_CH_CFG.MEMBER (n : Nat) : FRef := ⟨PHA_CH_CFG n, 5, 5⟩
/-- [4:0]. -/ def PHA_CH_CFG.RAIL (n : Nat) : FRef := ⟨PHA_CH_CFG n, 4, 0⟩
/-- PHA_CH_LIM: Minimum on-time and off-time. -/
def PHA_CH_LIM (n : Nat) : Nat := 0x40104004 + 0x20 * n
/-- [31:16]. -/ def PHA_CH_LIM.MIN_OFF (n : Nat) : FRef := ⟨PHA_CH_LIM n, 31, 16⟩
/-- [15:0]. -/ def PHA_CH_LIM.MIN_ON (n : Nat) : FRef := ⟨PHA_CH_LIM n, 15, 0⟩
/-- PHA_CH_MAXON: Maximum on-time. -/
def PHA_CH_MAXON (n : Nat) : Nat := 0x40104008 + 0x20 * n
/-- [19:0]. -/ def PHA_CH_MAXON.MAX_ON (n : Nat) : FRef := ⟨PHA_CH_MAXON n, 19, 0⟩
/-- PHA_CH_TRIM: Trim limit and offset. -/
def PHA_CH_TRIM (n : Nat) : Nat := 0x4010400C + 0x20 * n
/-- [27:16]. -/ def PHA_CH_TRIM.TRIM_OFS (n : Nat) : FRef := ⟨PHA_CH_TRIM n, 27, 16⟩
/-- [11:0]. -/ def PHA_CH_TRIM.TRIM_LIM (n : Nat) : FRef := ⟨PHA_CH_TRIM n, 11, 0⟩
/-- PHA_CH_OC: Overcurrent and fault filters. -/
def PHA_CH_OC (n : Nat) : Nat := 0x40104010 + 0x20 * n
/-- [23:16]. -/ def PHA_CH_OC.FLT_FILT (n : Nat) : FRef := ⟨PHA_CH_OC n, 23, 16⟩
/-- [13:8]. -/ def PHA_CH_OC.OC_BLANK (n : Nat) : FRef := ⟨PHA_CH_OC n, 13, 8⟩
/-- [7:0]. -/ def PHA_CH_OC.OC_TH (n : Nat) : FRef := ⟨PHA_CH_OC n, 7, 0⟩
/-- PHA_CH_PHOFS: Fixed interleave offset. -/
def PHA_CH_PHOFS (n : Nat) : Nat := 0x40104014 + 0x20 * n
/-- [19:0]. -/ def PHA_CH_PHOFS.PHOFS (n : Nat) : FRef := ⟨PHA_CH_PHOFS n, 19, 0⟩
/-- PHA_CH_STAT: State and flags. -/
def PHA_CH_STAT (n : Nat) : Nat := 0x40104018 + 0x20 * n
/-- [31:24]. -/ def PHA_CH_STAT.SLOT (n : Nat) : FRef := ⟨PHA_CH_STAT n, 31, 24⟩
/-- [16:16]. -/ def PHA_CH_STAT.CMDPEND (n : Nat) : FRef := ⟨PHA_CH_STAT n, 16, 16⟩
/-- [15:12]. -/ def PHA_CH_STAT.OCCNT (n : Nat) : FRef := ⟨PHA_CH_STAT n, 15, 12⟩
/-- [11:11]. -/ def PHA_CH_STAT.TFAULT (n : Nat) : FRef := ⟨PHA_CH_STAT n, 11, 11⟩
/-- [10:10]. -/ def PHA_CH_STAT.OC (n : Nat) : FRef := ⟨PHA_CH_STAT n, 10, 10⟩
/-- [9:9]. -/ def PHA_CH_STAT.LIM_LO (n : Nat) : FRef := ⟨PHA_CH_STAT n, 9, 9⟩
/-- [8:8]. -/ def PHA_CH_STAT.LIM_HI (n : Nat) : FRef := ⟨PHA_CH_STAT n, 8, 8⟩
/-- [7:7]. -/ def PHA_CH_STAT.PRESENT (n : Nat) : FRef := ⟨PHA_CH_STAT n, 7, 7⟩
/-- [6:4]. -/ def PHA_CH_STAT.CAUSE (n : Nat) : FRef := ⟨PHA_CH_STAT n, 6, 4⟩
/-- [2:0]. -/ def PHA_CH_STAT.STATE (n : Nat) : FRef := ⟨PHA_CH_STAT n, 2, 0⟩
/-- PHA_CH_TRIMV: Trim in force. -/
def PHA_CH_TRIMV (n : Nat) : Nat := 0x4010401C + 0x20 * n
/-- [12:0]. -/ def PHA_CH_TRIMV.TRIMV (n : Nat) : FRef := ⟨PHA_CH_TRIMV n, 12, 0⟩
/-- SNS_CAP: Channel counts. -/
def SNS_CAP : Nat := 0x40200000
/-- [19:16]. -/ def SNS_CAP.NVIN : FRef := ⟨SNS_CAP, 19, 16⟩
/-- [13:8]. -/ def SNS_CAP.NVS : FRef := ⟨SNS_CAP, 13, 8⟩
/-- [7:0]. -/ def SNS_CAP.NCS : FRef := ⟨SNS_CAP, 7, 0⟩
/-- SNS_STAT: Status. -/
def SNS_STAT : Nat := 0x40200004
/-- [3:3]. -/ def SNS_STAT.WIGN : FRef := ⟨SNS_STAT, 3, 3⟩
/-- [2:2]. -/ def SNS_STAT.CALFLT : FRef := ⟨SNS_STAT, 2, 2⟩
/-- [1:1]. -/ def SNS_STAT.FRANY : FRef := ⟨SNS_STAT, 1, 1⟩
/-- [0:0]. -/ def SNS_STAT.RDY : FRef := ⟨SNS_STAT, 0, 0⟩
/-- SNS_CTL: Calibration control. -/
def SNS_CTL : Nat := 0x40200008
/-- [2:2]. -/ def SNS_CTL.FREEZE : FRef := ⟨SNS_CTL, 2, 2⟩
/-- [1:1]. -/ def SNS_CTL.AUTO : FRef := ⟨SNS_CTL, 1, 1⟩
/-- [0:0]. -/ def SNS_CTL.CAL_EN : FRef := ⟨SNS_CTL, 0, 0⟩
/-- SNS_TERR_CNT: Tally error count. -/
def SNS_TERR_CNT : Nat := 0x4020000C
/-- [31:0]. -/ def SNS_TERR_CNT.COUNT : FRef := ⟨SNS_TERR_CNT, 31, 0⟩
/-- SNS_CAP_STAT: Last capture frame. -/
def SNS_CAP_STAT : Nat := 0x40200010
/-- [16:16]. -/ def SNS_CAP_STAT.FROZEN : FRef := ⟨SNS_CAP_STAT, 16, 16⟩
/-- [13:0]. -/ def SNS_CAP_STAT.LAST : FRef := ⟨SNS_CAP_STAT, 13, 0⟩
/-- SNS_CAP_TBC_LO: TBC of frame LAST [31:0]. -/
def SNS_CAP_TBC_LO : Nat := 0x40200014
/-- [31:0]. -/ def SNS_CAP_TBC_LO.TBC : FRef := ⟨SNS_CAP_TBC_LO, 31, 0⟩
/-- SNS_CAP_TBC_HI: TBC of frame LAST [63:32]. -/
def SNS_CAP_TBC_HI : Nat := 0x40200018
/-- [31:0]. -/ def SNS_CAP_TBC_HI.TBC : FRef := ⟨SNS_CAP_TBC_HI, 31, 0⟩
/-- SNS_TINJ: Tally error injection. -/
def SNS_TINJ : Nat := 0x4020001C
/-- [31:31]. -/ def SNS_TINJ.ARM : FRef := ⟨SNS_TINJ, 31, 31⟩
/-- [8:0]. -/ def SNS_TINJ.CH : FRef := ⟨SNS_TINJ, 8, 0⟩
/-- SNS_TERR_SUM: Tally error flags. -/
def SNS_TERR_SUM (i : Nat) : Nat := 0x40200040 + 0x4 * i
/-- [31:0]. -/ def SNS_TERR_SUM.TERR (i : Nat) : FRef := ⟨SNS_TERR_SUM i, 31, 0⟩
/-- SNS_VFR_SUM: Rails in full-range mode. -/
def SNS_VFR_SUM : Nat := 0x40200060
/-- [31:0]. -/ def SNS_VFR_SUM.FR : FRef := ⟨SNS_VFR_SUM, 31, 0⟩
/-- SNS_CS_GAIN: Nominal gain. -/
def SNS_CS_GAIN (n : Nat) : Nat := 0x40201000 + 0x20 * n
/-- [31:0]. -/ def SNS_CS_GAIN.GAIN (n : Nat) : FRef := ⟨SNS_CS_GAIN n, 31, 0⟩
/-- SNS_CS_ZOFS: Zero-current offset target. -/
def SNS_CS_ZOFS (n : Nat) : Nat := 0x40201004 + 0x20 * n
/-- [31:0]. -/ def SNS_CS_ZOFS.ZOFS (n : Nat) : FRef := ⟨SNS_CS_ZOFS n, 31, 0⟩
/-- SNS_CS_CFG: Temperature coefficient, domain, enables. -/
def SNS_CS_CFG (n : Nat) : Nat := 0x40201008 + 0x20 * n
/-- [31:16]. -/ def SNS_CS_CFG.TC (n : Nat) : FRef := ⟨SNS_CS_CFG n, 31, 16⟩
/-- [10:8]. -/ def SNS_CS_CFG.DOM (n : Nat) : FRef := ⟨SNS_CS_CFG n, 10, 8⟩
/-- [1:1]. -/ def SNS_CS_CFG.LRE (n : Nat) : FRef := ⟨SNS_CS_CFG n, 1, 1⟩
/-- [0:0]. -/ def SNS_CS_CFG.ZLEARN (n : Nat) : FRef := ⟨SNS_CS_CFG n, 0, 0⟩
/-- SNS_CS_GEFF: Effective gain. -/
def SNS_CS_GEFF (n : Nat) : Nat := 0x4020100C + 0x20 * n
/-- [31:0]. -/ def SNS_CS_GEFF.GEFF (n : Nat) : FRef := ⟨SNS_CS_GEFF n, 31, 0⟩
/-- SNS_CS_ZEFF: Effective zero offset. -/
def SNS_CS_ZEFF (n : Nat) : Nat := 0x40201010 + 0x20 * n
/-- [31:0]. -/ def SNS_CS_ZEFF.ZEFF (n : Nat) : FRef := ⟨SNS_CS_ZEFF n, 31, 0⟩
/-- SNS_CS_OFSEST: Converter offset estimate. -/
def SNS_CS_OFSEST (n : Nat) : Nat := 0x40201014 + 0x20 * n
/-- [16:16]. -/ def SNS_CS_OFSEST.CLIP (n : Nat) : FRef := ⟨SNS_CS_OFSEST n, 16, 16⟩
/-- [15:0]. -/ def SNS_CS_OFSEST.OFS (n : Nat) : FRef := ⟨SNS_CS_OFSEST n, 15, 0⟩
/-- SNS_CS_LEST: Inductance and resistance estimates. -/
def SNS_CS_LEST (n : Nat) : Nat := 0x40201018 + 0x20 * n
/-- [31:16]. -/ def SNS_CS_LEST.R_EST (n : Nat) : FRef := ⟨SNS_CS_LEST n, 31, 16⟩
/-- [15:0]. -/ def SNS_CS_LEST.L_EST (n : Nat) : FRef := ⟨SNS_CS_LEST n, 15, 0⟩
/-- SNS_CS_LAST: Last sample word. -/
def SNS_CS_LAST (n : Nat) : Nat := 0x4020101C + 0x20 * n
/-- [31:0]. -/ def SNS_CS_LAST.WORD (n : Nat) : FRef := ⟨SNS_CS_LAST n, 31, 0⟩
/-- SNS_VS_CFG: Window configuration. -/
def SNS_VS_CFG (r : Nat) : Nat := 0x40203000 + 0x10 * r
/-- [11:8]. -/ def SNS_VS_CFG.RET (r : Nat) : FRef := ⟨SNS_VS_CFG r, 11, 8⟩
/-- [4:4]. -/ def SNS_VS_CFG.FORCE_FR (r : Nat) : FRef := ⟨SNS_VS_CFG r, 4, 4⟩
/-- [3:3]. -/ def SNS_VS_CFG.LLTRACK (r : Nat) : FRef := ⟨SNS_VS_CFG r, 3, 3⟩
/-- [2:0]. -/ def SNS_VS_CFG.SUBK (r : Nat) : FRef := ⟨SNS_VS_CFG r, 2, 0⟩
/-- SNS_VS_STAT: Mode and counts. -/
def SNS_VS_STAT (r : Nat) : Nat := 0x40203004 + 0x10 * r
/-- [31:16]. -/ def SNS_VS_STAT.FRCNT (r : Nat) : FRef := ⟨SNS_VS_STAT r, 31, 16⟩
/-- [1:1]. -/ def SNS_VS_STAT.SAT (r : Nat) : FRef := ⟨SNS_VS_STAT r, 1, 1⟩
/-- [0:0]. -/ def SNS_VS_STAT.FR (r : Nat) : FRef := ⟨SNS_VS_STAT r, 0, 0⟩
/-- SNS_VS_OFSEST: Window offset estimate. -/
def SNS_VS_OFSEST (r : Nat) : Nat := 0x40203008 + 0x10 * r
/-- [15:0]. -/ def SNS_VS_OFSEST.OFS (r : Nat) : FRef := ⟨SNS_VS_OFSEST r, 15, 0⟩
/-- SNS_VS_LAST: Last sample word. -/
def SNS_VS_LAST (r : Nat) : Nat := 0x4020300C + 0x10 * r
/-- [31:0]. -/ def SNS_VS_LAST.WORD (r : Nat) : FRef := ⟨SNS_VS_LAST r, 31, 0⟩
/-- SNS_VIN_CFG: Mode and enable. -/
def SNS_VIN_CFG (c : Nat) : Nat := 0x40203400 + 0x10 * c
/-- [1:1]. -/ def SNS_VIN_CFG.MODE (c : Nat) : FRef := ⟨SNS_VIN_CFG c, 1, 1⟩
/-- [0:0]. -/ def SNS_VIN_CFG.EN (c : Nat) : FRef := ⟨SNS_VIN_CFG c, 0, 0⟩
/-- SNS_VIN_RATIO: Scale. -/
def SNS_VIN_RATIO (c : Nat) : Nat := 0x40203404 + 0x10 * c
/-- [31:0]. -/ def SNS_VIN_RATIO.RATIO (c : Nat) : FRef := ⟨SNS_VIN_RATIO c, 31, 0⟩
/-- SNS_VIN_LAST: Last sample word. -/
def SNS_VIN_LAST (c : Nat) : Nat := 0x40203408 + 0x10 * c
/-- [31:0]. -/ def SNS_VIN_LAST.WORD (c : Nat) : FRef := ⟨SNS_VIN_LAST c, 31, 0⟩
/-- SNS_DOM_CFG: Domain channels and averaging. -/
def SNS_DOM_CFG (d : Nat) : Nat := 0x40203500 + 0x20 * d
/-- [31:16]. -/ def SNS_DOM_CFG.IQ (d : Nat) : FRef := ⟨SNS_DOM_CFG d, 31, 16⟩
/-- [12:8]. -/ def SNS_DOM_CFG.AVGLOG2 (d : Nat) : FRef := ⟨SNS_DOM_CFG d, 12, 8⟩
/-- [6:4]. -/ def SNS_DOM_CFG.IIN (d : Nat) : FRef := ⟨SNS_DOM_CFG d, 6, 4⟩
/-- [3:1]. -/ def SNS_DOM_CFG.VINV (d : Nat) : FRef := ⟨SNS_DOM_CFG d, 3, 1⟩
/-- [0:0]. -/ def SNS_DOM_CFG.EN (d : Nat) : FRef := ⟨SNS_DOM_CFG d, 0, 0⟩
/-- SNS_DOM_LOSS: Loss fraction and limit. -/
def SNS_DOM_LOSS (d : Nat) : Nat := 0x40203504 + 0x20 * d
/-- [23:16]. -/ def SNS_DOM_LOSS.GLIM (d : Nat) : FRef := ⟨SNS_DOM_LOSS d, 23, 16⟩
/-- [15:0]. -/ def SNS_DOM_LOSS.LOSS (d : Nat) : FRef := ⟨SNS_DOM_LOSS d, 15, 0⟩
/-- SNS_DOM_GTGT: Domain gain target. -/
def SNS_DOM_GTGT (d : Nat) : Nat := 0x40203508 + 0x20 * d
/-- [31:0]. -/ def SNS_DOM_GTGT.GTGT (d : Nat) : FRef := ⟨SNS_DOM_GTGT d, 31, 0⟩
/-- SNS_DOM_GEFF: Effective domain gain. -/
def SNS_DOM_GEFF (d : Nat) : Nat := 0x4020350C + 0x20 * d
/-- [31:0]. -/ def SNS_DOM_GEFF.GEFF (d : Nat) : FRef := ⟨SNS_DOM_GEFF d, 31, 0⟩
/-- SNS_DOM_EST: Last estimate. -/
def SNS_DOM_EST (d : Nat) : Nat := 0x40203510 + 0x20 * d
/-- [31:0]. -/ def SNS_DOM_EST.EST (d : Nat) : FRef := ⟨SNS_DOM_EST d, 31, 0⟩
/-- SNS_TFLT_CFG: TFLT temperature law. -/
def SNS_TFLT_CFG (g : Nat) : Nat := 0x40203600 + 0x4 * g
/-- [31:16]. -/ def SNS_TFLT_CFG.SLOPE (g : Nat) : FRef := ⟨SNS_TFLT_CFG g, 31, 16⟩
/-- [15:0]. -/ def SNS_TFLT_CFG.V0 (g : Nat) : FRef := ⟨SNS_TFLT_CFG g, 15, 0⟩
/-- SNS_TDIO_CFG: Remote diode. -/
def SNS_TDIO_CFG (j : Nat) : Nat := 0x40203640 + 0x4 * j
/-- [16:16]. -/ def SNS_TDIO_CFG.EN (j : Nat) : FRef := ⟨SNS_TDIO_CFG j, 16, 16⟩
/-- [15:0]. -/ def SNS_TDIO_CFG.IDEAL (j : Nat) : FRef := ⟨SNS_TDIO_CFG j, 15, 0⟩
/-- SNS_TEMP: Temperatures. -/
def SNS_TEMP (k : Nat) : Nat := 0x40204000 + 0x4 * k
/-- [17:16]. -/ def SNS_TEMP.STATUS (k : Nat) : FRef := ⟨SNS_TEMP k, 17, 16⟩
/-- [15:0]. -/ def SNS_TEMP.VALUE (k : Nat) : FRef := ⟨SNS_TEMP k, 15, 0⟩
/-- ANV_CAP: Lane and section counts. -/
def ANV_CAP : Nat := 0x40300000
/-- [23:16]. -/ def ANV_CAP.MAXBOUND : FRef := ⟨ANV_CAP, 23, 16⟩
/-- [11:8]. -/ def ANV_CAP.NSECT : FRef := ⟨ANV_CAP, 11, 8⟩
/-- [5:0]. -/ def ANV_CAP.NLANE : FRef := ⟨ANV_CAP, 5, 0⟩
/-- ANV_STAT: Summary status. -/
def ANV_STAT : Nat := 0x40300004
/-- [4:4]. -/ def ANV_STAT.SHPARANY : FRef := ⟨ANV_STAT, 4, 4⟩
/-- [3:3]. -/ def ANV_STAT.WIGN : FRef := ⟨ANV_STAT, 3, 3⟩
/-- [2:2]. -/ def ANV_STAT.REPAIRANY : FRef := ⟨ANV_STAT, 2, 2⟩
/-- [1:1]. -/ def ANV_STAT.FLTANY : FRef := ⟨ANV_STAT, 1, 1⟩
/-- [0:0]. -/ def ANV_STAT.WRAPANY : FRef := ⟨ANV_STAT, 0, 0⟩
/-- ANV_COMMIT: Commit lock and check result. -/
def ANV_COMMIT : Nat := 0x40300008
/-- [16:16]. -/ def ANV_COMMIT.WHERE_RAIL : FRef := ⟨ANV_COMMIT, 16, 16⟩
/-- [13:8]. -/ def ANV_COMMIT.WHERE : FRef := ⟨ANV_COMMIT, 13, 8⟩
/-- [3:1]. -/ def ANV_COMMIT.RESULT : FRef := ⟨ANV_COMMIT, 3, 1⟩
/-- [0:0]. -/ def ANV_COMMIT.LOCK : FRef := ⟨ANV_COMMIT, 0, 0⟩
/-- ANV_LN_SWAP: Swap requests. -/
def ANV_LN_SWAP : Nat := 0x4030000C
/-- [31:31]. -/ def ANV_LN_SWAP.ALLBOUND : FRef := ⟨ANV_LN_SWAP, 31, 31⟩
/-- [30:30]. -/ def ANV_LN_SWAP.CANCEL : FRef := ⟨ANV_LN_SWAP, 30, 30⟩
/-- [29:29]. -/ def ANV_LN_SWAP.LOADST : FRef := ⟨ANV_LN_SWAP, 29, 29⟩
/-- [5:0]. -/ def ANV_LN_SWAP.LANE : FRef := ⟨ANV_LN_SWAP, 5, 0⟩
/-- ANV_SWAP_PEND_0: SWPEND of lanes 0 to 31. -/
def ANV_SWAP_PEND_0 : Nat := 0x40300010
/-- [31:0]. -/ def ANV_SWAP_PEND_0.BITS : FRef := ⟨ANV_SWAP_PEND_0, 31, 0⟩
/-- ANV_SWAP_PEND_1: SWPEND of lanes 32 and 33. -/
def ANV_SWAP_PEND_1 : Nat := 0x40300014
/-- [1:0]. -/ def ANV_SWAP_PEND_1.BITS : FRef := ⟨ANV_SWAP_PEND_1, 1, 0⟩
/-- ANV_WRAP_SUM_0: WRAP of lanes 0 to 31. -/
def ANV_WRAP_SUM_0 : Nat := 0x40300018
/-- [31:0]. -/ def ANV_WRAP_SUM_0.BITS : FRef := ⟨ANV_WRAP_SUM_0, 31, 0⟩
/-- ANV_WRAP_SUM_1: WRAP of lanes 32 and 33. -/
def ANV_WRAP_SUM_1 : Nat := 0x4030001C
/-- [1:0]. -/ def ANV_WRAP_SUM_1.BITS : FRef := ⟨ANV_WRAP_SUM_1, 1, 0⟩
/-- ANV_FLT_SUM_0: FAULTED of lanes 0 to 31. -/
def ANV_FLT_SUM_0 : Nat := 0x40300020
/-- [31:0]. -/ def ANV_FLT_SUM_0.BITS : FRef := ⟨ANV_FLT_SUM_0, 31, 0⟩
/-- ANV_FLT_SUM_1: FAULTED of lanes 32 and 33. -/
def ANV_FLT_SUM_1 : Nat := 0x40300024
/-- [1:0]. -/ def ANV_FLT_SUM_1.BITS : FRef := ⟨ANV_FLT_SUM_1, 1, 0⟩
/-- ANV_RAIL_LANE: Rail binding. -/
def ANV_RAIL_LANE (r : Nat) : Nat := 0x40300100 + 0x4 * r
/-- [31:31]. -/ def ANV_RAIL_LANE.EN (r : Nat) : FRef := ⟨ANV_RAIL_LANE r, 31, 31⟩
/-- [5:0]. -/ def ANV_RAIL_LANE.LANE (r : Nat) : FRef := ⟨ANV_RAIL_LANE r, 5, 0⟩
/-- ANV_LN_CFG: Lane structure. -/
def ANV_LN_CFG (l : Nat) : Nat := 0x40301000 + 0x40 * l
/-- [31:31]. -/ def ANV_LN_CFG.EN (l : Nat) : FRef := ⟨ANV_LN_CFG l, 31, 31⟩
/-- [30:30]. -/ def ANV_LN_CFG.SPARE (l : Nat) : FRef := ⟨ANV_LN_CFG l, 30, 30⟩
/-- [29:28]. -/ def ANV_LN_CFG.SRC (l : Nat) : FRef := ⟨ANV_LN_CFG l, 29, 28⟩
/-- [26:24]. -/ def ANV_LN_CFG.NSEC_M1 (l : Nat) : FRef := ⟨ANV_LN_CFG l, 26, 24⟩
/-- [22:20]. -/ def ANV_LN_CFG.ESHIFT (l : Nat) : FRef := ⟨ANV_LN_CFG l, 22, 20⟩
/-- [18:16]. -/ def ANV_LN_CFG.MFUCH (l : Nat) : FRef := ⟨ANV_LN_CFG l, 18, 16⟩
/-- [13:8]. -/ def ANV_LN_CFG.UP (l : Nat) : FRef := ⟨ANV_LN_CFG l, 13, 8⟩
/-- [4:0]. -/ def ANV_LN_CFG.RAIL (l : Nat) : FRef := ⟨ANV_LN_CFG l, 4, 0⟩
/-- ANV_LN_FE: Feedforward selection. -/
def ANV_LN_FE (l : Nat) : Nat := 0x40301004 + 0x40 * l
/-- [31:31]. -/ def ANV_LN_FE.FFEN (l : Nat) : FRef := ⟨ANV_LN_FE l, 31, 31⟩
/-- [30:30]. -/ def ANV_LN_FE.FFPOINT (l : Nat) : FRef := ⟨ANV_LN_FE l, 30, 30⟩
/-- [26:24]. -/ def ANV_LN_FE.VINSEL (l : Nat) : FRef := ⟨ANV_LN_FE l, 26, 24⟩
/-- ANV_LN_STAT: Lane status. -/
def ANV_LN_STAT (l : Nat) : Nat := 0x40301008 + 0x40 * l
/-- [31:31]. -/ def ANV_LN_STAT.PARITY (l : Nat) : FRef := ⟨ANV_LN_STAT l, 31, 31⟩
/-- [30:30]. -/ def ANV_LN_STAT.FAULTED (l : Nat) : FRef := ⟨ANV_LN_STAT l, 30, 30⟩
/-- [29:29]. -/ def ANV_LN_STAT.REPAIRED (l : Nat) : FRef := ⟨ANV_LN_STAT l, 29, 29⟩
/-- [28:28]. -/ def ANV_LN_STAT.SHPAR (l : Nat) : FRef := ⟨ANV_LN_STAT l, 28, 28⟩
/-- [27:27]. -/ def ANV_LN_STAT.SWAPERR (l : Nat) : FRef := ⟨ANV_LN_STAT l, 27, 27⟩
/-- [26:26]. -/ def ANV_LN_STAT.WRAP (l : Nat) : FRef := ⟨ANV_LN_STAT l, 26, 26⟩
/-- [25:22]. -/ def ANV_LN_STAT.WRAPLOC (l : Nat) : FRef := ⟨ANV_LN_STAT l, 25, 22⟩
/-- [21:21]. -/ def ANV_LN_STAT.SWPEND (l : Nat) : FRef := ⟨ANV_LN_STAT l, 21, 21⟩
/-- [20:20]. -/ def ANV_LN_STAT.SWPLD (l : Nat) : FRef := ⟨ANV_LN_STAT l, 20, 20⟩
/-- [19:19]. -/ def ANV_LN_STAT.BANK (l : Nat) : FRef := ⟨ANV_LN_STAT l, 19, 19⟩
/-- [18:18]. -/ def ANV_LN_STAT.SLPEND (l : Nat) : FRef := ⟨ANV_LN_STAT l, 18, 18⟩
/-- [17:17]. -/ def ANV_LN_STAT.SLOVR (l : Nat) : FRef := ⟨ANV_LN_STAT l, 17, 17⟩
/-- [16:16]. -/ def ANV_LN_STAT.PLOVR (l : Nat) : FRef := ⟨ANV_LN_STAT l, 16, 16⟩
/-- [15:15]. -/ def ANV_LN_STAT.PLACT (l : Nat) : FRef := ⟨ANV_LN_STAT l, 15, 15⟩
/-- [14:14]. -/ def ANV_LN_STAT.PLPEND (l : Nat) : FRef := ⟨ANV_LN_STAT l, 14, 14⟩
/-- [5:0]. -/ def ANV_LN_STAT.ALIAS (l : Nat) : FRef := ⟨ANV_LN_STAT l, 5, 0⟩
/-- ANV_LN_SETPT: Motion feedback setpoint. -/
def ANV_LN_SETPT (l : Nat) : Nat := 0x4030100C + 0x40 * l
/-- [31:0]. -/ def ANV_LN_SETPT.SETPT (l : Nat) : FRef := ⟨ANV_LN_SETPT l, 31, 0⟩
/-- ANV_LN_PLOFS: Pre-lean offset. -/
def ANV_LN_PLOFS (l : Nat) : Nat := 0x40301010 + 0x40 * l
/-- [31:0]. -/ def ANV_LN_PLOFS.PLOFS (l : Nat) : FRef := ⟨ANV_LN_PLOFS l, 31, 0⟩
/-- ANV_LN_PLDUR: Pre-lean duration. -/
def ANV_LN_PLDUR (l : Nat) : Nat := 0x40301014 + 0x40 * l
/-- [15:0]. -/ def ANV_LN_PLDUR.PLDUR (l : Nat) : FRef := ⟨ANV_LN_PLDUR l, 15, 0⟩
/-- ANV_LN_PBASE: State-load base output. -/
def ANV_LN_PBASE (l : Nat) : Nat := 0x40301018 + 0x40 * l
/-- [31:0]. -/ def ANV_LN_PBASE.PBASE (l : Nat) : FRef := ⟨ANV_LN_PBASE l, 31, 0⟩
/-- ANV_LN_PSLOPE: State-load current slope. -/
def ANV_LN_PSLOPE (l : Nat) : Nat := 0x4030101C + 0x40 * l
/-- [31:0]. -/ def ANV_LN_PSLOPE.PSLOPE (l : Nat) : FRef := ⟨ANV_LN_PSLOPE l, 31, 0⟩
/-- ANV_LN_SLMASK: State-load word mask. -/
def ANV_LN_SLMASK (l : Nat) : Nat := 0x40301020 + 0x40 * l
/-- [15:0]. -/ def ANV_LN_SLMASK.MASK (l : Nat) : FRef := ⟨ANV_LN_SLMASK l, 15, 0⟩
/-- ANV_LN_TRIG: Direct consumer triggers. -/
def ANV_LN_TRIG (l : Nat) : Nat := 0x40301024 + 0x40 * l
/-- [1:1]. -/ def ANV_LN_TRIG.PLEAN (l : Nat) : FRef := ⟨ANV_LN_TRIG l, 1, 1⟩
/-- [0:0]. -/ def ANV_LN_TRIG.SLOAD (l : Nat) : FRef := ⟨ANV_LN_TRIG l, 0, 0⟩
/-- ANV_LN_SNAP: Snapshot request. -/
def ANV_LN_SNAP (l : Nat) : Nat := 0x40301028 + 0x40 * l
/-- [15:8]. -/ def ANV_LN_SNAP.TBC8 (l : Nat) : FRef := ⟨ANV_LN_SNAP l, 15, 8⟩
/-- [1:1]. -/ def ANV_LN_SNAP.RDY (l : Nat) : FRef := ⟨ANV_LN_SNAP l, 1, 1⟩
/-- [0:0]. -/ def ANV_LN_SNAP.REQ (l : Nat) : FRef := ⟨ANV_LN_SNAP l, 0, 0⟩
/-- ANV_LN_OUT: Snapshot of y_out. -/
def ANV_LN_OUT (l : Nat) : Nat := 0x4030102C + 0x40 * l
/-- [31:0]. -/ def ANV_LN_OUT.OUT (l : Nat) : FRef := ⟨ANV_LN_OUT l, 31, 0⟩
/-- ANV_LN_PM: State-load multipliers. -/
def ANV_LN_PM (l : Nat) (k : Nat) : Nat := 0x40303000 + 0x40 * l + 0x4 * k
/-- [31:0]. -/ def ANV_LN_PM.PM (l : Nat) (k : Nat) : FRef := ⟨ANV_LN_PM l k, 31, 0⟩
/-- ANV_LN_ST: Snapshot of states. -/
def ANV_LN_ST (l : Nat) (k : Nat) : Nat := 0x40305000 + 0x40 * l + 0x4 * k
/-- [31:0]. -/ def ANV_LN_ST.STATE (l : Nat) (k : Nat) : FRef := ⟨ANV_LN_ST l k, 31, 0⟩
/-- ANV_SH: Shadow bank words. -/
def ANV_SH (l : Nat) (w : Nat) : Nat := 0x40308000 + 0x100 * l + 0x4 * w
/-- [31:0]. -/ def ANV_SH.WORD (l : Nat) (w : Nat) : FRef := ⟨ANV_SH l w, 31, 0⟩
/-- ANV_ACT: Active bank words. -/
def ANV_ACT (l : Nat) (w : Nat) : Nat := 0x4030C000 + 0x100 * l + 0x4 * w
/-- [31:0]. -/ def ANV_ACT.WORD (l : Nat) (w : Nat) : FRef := ⟨ANV_ACT l w, 31, 0⟩
/-- BLW_CAP: Counts. -/
def BLW_CAP : Nat := 0x40400000
/-- [21:16]. -/ def BLW_CAP.NRAIL : FRef := ⟨BLW_CAP, 21, 16⟩
/-- [12:8]. -/ def BLW_CAP.NWARN : FRef := ⟨BLW_CAP, 12, 8⟩
/-- [7:0]. -/ def BLW_CAP.NPH : FRef := ⟨BLW_CAP, 7, 0⟩
/-- BLW_STAT: Ignored writes, device quench cause. -/
def BLW_STAT : Nat := 0x40400004
/-- [15:12]. -/ def BLW_STAT.DQCAUSE : FRef := ⟨BLW_STAT, 15, 12⟩
/-- [1:1]. -/ def BLW_STAT.DQ : FRef := ⟨BLW_STAT, 1, 1⟩
/-- [0:0]. -/ def BLW_STAT.WIGN : FRef := ⟨BLW_STAT, 0, 0⟩
/-- BLW_QCMD: Quench commands. -/
def BLW_QCMD : Nat := 0x40400008
/-- [31:30]. -/ def BLW_QCMD.OP : FRef := ⟨BLW_QCMD, 31, 30⟩
/-- [4:0]. -/ def BLW_QCMD.RAIL : FRef := ⟨BLW_QCMD, 4, 0⟩
/-- BLW_RQ_SUM: Rails quenched now. -/
def BLW_RQ_SUM : Nat := 0x4040000C
/-- [31:0]. -/ def BLW_RQ_SUM.RQ : FRef := ⟨BLW_RQ_SUM, 31, 0⟩
/-- BLW_LATCH_SUM: Latched rails. -/
def BLW_LATCH_SUM : Nat := 0x40400010
/-- [31:0]. -/ def BLW_LATCH_SUM.LATCH : FRef := ⟨BLW_LATCH_SUM, 31, 0⟩
/-- BLW_DEV_STAT: Device-level warnings and faults. -/
def BLW_DEV_STAT : Nat := 0x40400014
/-- [31:24]. -/ def BLW_DEV_STAT.VINF : FRef := ⟨BLW_DEV_STAT, 31, 24⟩
/-- [23:16]. -/ def BLW_DEV_STAT.VINW : FRef := ⟨BLW_DEV_STAT, 23, 16⟩
/-- [15:12]. -/ def BLW_DEV_STAT.DIOF : FRef := ⟨BLW_DEV_STAT, 15, 12⟩
/-- [11:8]. -/ def BLW_DEV_STAT.DIOW : FRef := ⟨BLW_DEV_STAT, 11, 8⟩
/-- [1:1]. -/ def BLW_DEV_STAT.DIEF : FRef := ⟨BLW_DEV_STAT, 1, 1⟩
/-- [0:0]. -/ def BLW_DEV_STAT.DIEW : FRef := ⟨BLW_DEV_STAT, 0, 0⟩
/-- BLW_WARN: WARN inputs. -/
def BLW_WARN (k : Nat) : Nat := 0x40400100 + 0x4 * k
/-- [31:31]. -/ def BLW_WARN.EN (k : Nat) : FRef := ⟨BLW_WARN k, 31, 31⟩
/-- [30:30]. -/ def BLW_WARN.POL (k : Nat) : FRef := ⟨BLW_WARN k, 30, 30⟩
/-- [3:0]. -/ def BLW_WARN.FILT (k : Nat) : FRef := ⟨BLW_WARN k, 3, 0⟩
/-- BLW_OT_PH: Phase temperature thresholds. -/
def BLW_OT_PH : Nat := 0x40400200
/-- [31:16]. -/ def BLW_OT_PH.FAULT : FRef := ⟨BLW_OT_PH, 31, 16⟩
/-- [15:0]. -/ def BLW_OT_PH.WARN : FRef := ⟨BLW_OT_PH, 15, 0⟩
/-- BLW_OT_DIE: Die temperature thresholds. -/
def BLW_OT_DIE : Nat := 0x40400204
/-- [31:16]. -/ def BLW_OT_DIE.FAULT : FRef := ⟨BLW_OT_DIE, 31, 16⟩
/-- [15:0]. -/ def BLW_OT_DIE.WARN : FRef := ⟨BLW_OT_DIE, 15, 0⟩
/-- BLW_OT_DIO: Diode thresholds. -/
def BLW_OT_DIO (j : Nat) : Nat := 0x40400208 + 0x4 * j
/-- [31:16]. -/ def BLW_OT_DIO.FAULT (j : Nat) : FRef := ⟨BLW_OT_DIO j, 31, 16⟩
/-- [15:0]. -/ def BLW_OT_DIO.WARN (j : Nat) : FRef := ⟨BLW_OT_DIO j, 15, 0⟩
/-- BLW_LAD_DIE: Die ladder. -/
def BLW_LAD_DIE : Nat := 0x40400220
/-- [31:24]. -/ def BLW_LAD_DIE.FILT : FRef := ⟨BLW_LAD_DIE, 31, 24⟩
/-- [15:11]. -/ def BLW_LAD_DIE.HEXP : FRef := ⟨BLW_LAD_DIE, 15, 11⟩
/-- [10:8]. -/ def BLW_LAD_DIE.RETRY : FRef := ⟨BLW_LAD_DIE, 10, 8⟩
/-- [2:0]. -/ def BLW_LAD_DIE.ACTION : FRef := ⟨BLW_LAD_DIE, 2, 0⟩
/-- BLW_LAD_DIO: Diode ladders. -/
def BLW_LAD_DIO (j : Nat) : Nat := 0x40400224 + 0x4 * j
/-- [31:24]. -/ def BLW_LAD_DIO.FILT (j : Nat) : FRef := ⟨BLW_LAD_DIO j, 31, 24⟩
/-- [15:11]. -/ def BLW_LAD_DIO.HEXP (j : Nat) : FRef := ⟨BLW_LAD_DIO j, 15, 11⟩
/-- [10:8]. -/ def BLW_LAD_DIO.RETRY (j : Nat) : FRef := ⟨BLW_LAD_DIO j, 10, 8⟩
/-- [2:0]. -/ def BLW_LAD_DIO.ACTION (j : Nat) : FRef := ⟨BLW_LAD_DIO j, 2, 0⟩
/-- BLW_VIN_TH: Input fault thresholds. -/
def BLW_VIN_TH (c : Nat) : Nat := 0x40400240 + 0x10 * c
/-- [31:16]. -/ def BLW_VIN_TH.OV (c : Nat) : FRef := ⟨BLW_VIN_TH c, 31, 16⟩
/-- [15:0]. -/ def BLW_VIN_TH.UV (c : Nat) : FRef := ⟨BLW_VIN_TH c, 15, 0⟩
/-- BLW_VIN_WTH: Input warn thresholds. -/
def BLW_VIN_WTH (c : Nat) : Nat := 0x40400244 + 0x10 * c
/-- [31:16]. -/ def BLW_VIN_WTH.OV (c : Nat) : FRef := ⟨BLW_VIN_WTH c, 31, 16⟩
/-- [15:0]. -/ def BLW_VIN_WTH.UV (c : Nat) : FRef := ⟨BLW_VIN_WTH c, 15, 0⟩
/-- BLW_VIN_RAILS: Rails fed by input c. -/
def BLW_VIN_RAILS (c : Nat) : Nat := 0x40400248 + 0x10 * c
/-- [31:0]. -/ def BLW_VIN_RAILS.RAILS (c : Nat) : FRef := ⟨BLW_VIN_RAILS c, 31, 0⟩
/-- BLW_LAD_VIN: Input ladder. -/
def BLW_LAD_VIN (c : Nat) : Nat := 0x4040024C + 0x10 * c
/-- [31:24]. -/ def BLW_LAD_VIN.FILT (c : Nat) : FRef := ⟨BLW_LAD_VIN c, 31, 24⟩
/-- [15:11]. -/ def BLW_LAD_VIN.HEXP (c : Nat) : FRef := ⟨BLW_LAD_VIN c, 15, 11⟩
/-- [10:8]. -/ def BLW_LAD_VIN.RETRY (c : Nat) : FRef := ⟨BLW_LAD_VIN c, 10, 8⟩
/-- [2:0]. -/ def BLW_LAD_VIN.ACTION (c : Nat) : FRef := ⟨BLW_LAD_VIN c, 2, 0⟩
/-- BLW_BW_CFG: Bellows enables and thresholds. -/
def BLW_BW_CFG (r : Nat) : Nat := 0x40401000 + 0x40 * r
/-- [31:31]. -/ def BLW_BW_CFG.DEN (r : Nat) : FRef := ⟨BLW_BW_CFG r, 31, 31⟩
/-- [30:30]. -/ def BLW_BW_CFG.OEN (r : Nat) : FRef := ⟨BLW_BW_CFG r, 30, 30⟩
/-- [29:29]. -/ def BLW_BW_CFG.OACT (r : Nat) : FRef := ⟨BLW_BW_CFG r, 29, 29⟩
/-- [28:27]. -/ def BLW_BW_CFG.DGL (r : Nat) : FRef := ⟨BLW_BW_CFG r, 28, 27⟩
/-- [23:18]. -/ def BLW_BW_CFG.DTH (r : Nat) : FRef := ⟨BLW_BW_CFG r, 23, 18⟩
/-- [17:12]. -/ def BLW_BW_CFG.RTH (r : Nat) : FRef := ⟨BLW_BW_CFG r, 17, 12⟩
/-- [11:6]. -/ def BLW_BW_CFG.OTH (r : Nat) : FRef := ⟨BLW_BW_CFG r, 11, 6⟩
/-- [5:0]. -/ def BLW_BW_CFG.ORTH (r : Nat) : FRef := ⟨BLW_BW_CFG r, 5, 0⟩
/-- BLW_BW_TIM: Lockout and overshoot time. -/
def BLW_BW_TIM (r : Nat) : Nat := 0x40401004 + 0x40 * r
/-- [15:8]. -/ def BLW_BW_TIM.OVMAX (r : Nat) : FRef := ⟨BLW_BW_TIM r, 15, 8⟩
/-- [7:0]. -/ def BLW_BW_TIM.LOCKOUT (r : Nat) : FRef := ⟨BLW_BW_TIM r, 7, 0⟩
/-- BLW_PL: Pre-lean arming. -/
def BLW_PL (r : Nat) : Nat := 0x40401008 + 0x40 * r
/-- [21:16]. -/ def BLW_PL.PLDTH (r : Nat) : FRef := ⟨BLW_PL r, 21, 16⟩
/-- [15:0]. -/ def BLW_PL.DUR (r : Nat) : FRef := ⟨BLW_PL r, 15, 0⟩
/-- BLW_BW_STAT: Bellows state. -/
def BLW_BW_STAT (r : Nat) : Nat := 0x4040100C + 0x40 * r
/-- [9:9]. -/ def BLW_BW_STAT.RTIME (r : Nat) : FRef := ⟨BLW_BW_STAT r, 9, 9⟩
/-- [8:8]. -/ def BLW_BW_STAT.PLARM (r : Nat) : FRef := ⟨BLW_BW_STAT r, 8, 8⟩
/-- [7:7]. -/ def BLW_BW_STAT.OVACT (r : Nat) : FRef := ⟨BLW_BW_STAT r, 7, 7⟩
/-- [6:6]. -/ def BLW_BW_STAT.OVS (r : Nat) : FRef := ⟨BLW_BW_STAT r, 6, 6⟩
/-- [5:5]. -/ def BLW_BW_STAT.DROOP (r : Nat) : FRef := ⟨BLW_BW_STAT r, 5, 5⟩
/-- [2:0]. -/ def BLW_BW_STAT.STATE (r : Nat) : FRef := ⟨BLW_BW_STAT r, 2, 0⟩
/-- BLW_ROC: Rail current thresholds. -/
def BLW_ROC (r : Nat) : Nat := 0x40401010 + 0x40 * r
/-- [31:16]. -/ def BLW_ROC.WTH (r : Nat) : FRef := ⟨BLW_ROC r, 31, 16⟩
/-- [15:0]. -/ def BLW_ROC.FTH (r : Nat) : FRef := ⟨BLW_ROC r, 15, 0⟩
/-- BLW_OV: Over-voltage thresholds. -/
def BLW_OV (r : Nat) : Nat := 0x40401014 + 0x40 * r
/-- [31:24]. -/ def BLW_OV.WREL (r : Nat) : FRef := ⟨BLW_OV r, 31, 24⟩
/-- [23:16]. -/ def BLW_OV.FREL (r : Nat) : FRef := ⟨BLW_OV r, 23, 16⟩
/-- [15:0]. -/ def BLW_OV.FABS (r : Nat) : FRef := ⟨BLW_OV r, 15, 0⟩
/-- BLW_UV: Under-voltage thresholds. -/
def BLW_UV (r : Nat) : Nat := 0x40401018 + 0x40 * r
/-- [31:24]. -/ def BLW_UV.WREL (r : Nat) : FRef := ⟨BLW_UV r, 31, 24⟩
/-- [23:16]. -/ def BLW_UV.FREL (r : Nat) : FRef := ⟨BLW_UV r, 23, 16⟩
/-- [15:0]. -/ def BLW_UV.FABS (r : Nat) : FRef := ⟨BLW_UV r, 15, 0⟩
/-- BLW_LAD_POC: Per-phase overcurrent ladder. -/
def BLW_LAD_POC (r : Nat) : Nat := 0x4040101C + 0x40 * r
/-- [31:24]. -/ def BLW_LAD_POC.FILT (r : Nat) : FRef := ⟨BLW_LAD_POC r, 31, 24⟩
/-- [15:11]. -/ def BLW_LAD_POC.HEXP (r : Nat) : FRef := ⟨BLW_LAD_POC r, 15, 11⟩
/-- [10:8]. -/ def BLW_LAD_POC.RETRY (r : Nat) : FRef := ⟨BLW_LAD_POC r, 10, 8⟩
/-- [2:0]. -/ def BLW_LAD_POC.ACTION (r : Nat) : FRef := ⟨BLW_LAD_POC r, 2, 0⟩
/-- BLW_LAD_SF: Stage fault ladder. -/
def BLW_LAD_SF (r : Nat) : Nat := 0x40401020 + 0x40 * r
/-- [31:24]. -/ def BLW_LAD_SF.FILT (r : Nat) : FRef := ⟨BLW_LAD_SF r, 31, 24⟩
/-- [15:11]. -/ def BLW_LAD_SF.HEXP (r : Nat) : FRef := ⟨BLW_LAD_SF r, 15, 11⟩
/-- [10:8]. -/ def BLW_LAD_SF.RETRY (r : Nat) : FRef := ⟨BLW_LAD_SF r, 10, 8⟩
/-- [2:0]. -/ def BLW_LAD_SF.ACTION (r : Nat) : FRef := ⟨BLW_LAD_SF r, 2, 0⟩
/-- BLW_LAD_POT: Phase temperature ladder. -/
def BLW_LAD_POT (r : Nat) : Nat := 0x40401024 + 0x40 * r
/-- [31:24]. -/ def BLW_LAD_POT.FILT (r : Nat) : FRef := ⟨BLW_LAD_POT r, 31, 24⟩
/-- [15:11]. -/ def BLW_LAD_POT.HEXP (r : Nat) : FRef := ⟨BLW_LAD_POT r, 15, 11⟩
/-- [10:8]. -/ def BLW_LAD_POT.RETRY (r : Nat) : FRef := ⟨BLW_LAD_POT r, 10, 8⟩
/-- [2:0]. -/ def BLW_LAD_POT.ACTION (r : Nat) : FRef := ⟨BLW_LAD_POT r, 2, 0⟩
/-- BLW_LAD_ROC: Rail overcurrent ladder. -/
def BLW_LAD_ROC (r : Nat) : Nat := 0x40401028 + 0x40 * r
/-- [31:24]. -/ def BLW_LAD_ROC.FILT (r : Nat) : FRef := ⟨BLW_LAD_ROC r, 31, 24⟩
/-- [15:11]. -/ def BLW_LAD_ROC.HEXP (r : Nat) : FRef := ⟨BLW_LAD_ROC r, 15, 11⟩
/-- [10:8]. -/ def BLW_LAD_ROC.RETRY (r : Nat) : FRef := ⟨BLW_LAD_ROC r, 10, 8⟩
/-- [2:0]. -/ def BLW_LAD_ROC.ACTION (r : Nat) : FRef := ⟨BLW_LAD_ROC r, 2, 0⟩
/-- BLW_LAD_OV: Over-voltage ladder. -/
def BLW_LAD_OV (r : Nat) : Nat := 0x4040102C + 0x40 * r
/-- [31:24]. -/ def BLW_LAD_OV.FILT (r : Nat) : FRef := ⟨BLW_LAD_OV r, 31, 24⟩
/-- [15:11]. -/ def BLW_LAD_OV.HEXP (r : Nat) : FRef := ⟨BLW_LAD_OV r, 15, 11⟩
/-- [10:8]. -/ def BLW_LAD_OV.RETRY (r : Nat) : FRef := ⟨BLW_LAD_OV r, 10, 8⟩
/-- [2:0]. -/ def BLW_LAD_OV.ACTION (r : Nat) : FRef := ⟨BLW_LAD_OV r, 2, 0⟩
/-- BLW_LAD_UV: Under-voltage ladder. -/
def BLW_LAD_UV (r : Nat) : Nat := 0x40401030 + 0x40 * r
/-- [31:24]. -/ def BLW_LAD_UV.FILT (r : Nat) : FRef := ⟨BLW_LAD_UV r, 31, 24⟩
/-- [15:11]. -/ def BLW_LAD_UV.HEXP (r : Nat) : FRef := ⟨BLW_LAD_UV r, 15, 11⟩
/-- [10:8]. -/ def BLW_LAD_UV.RETRY (r : Nat) : FRef := ⟨BLW_LAD_UV r, 10, 8⟩
/-- [2:0]. -/ def BLW_LAD_UV.ACTION (r : Nat) : FRef := ⟨BLW_LAD_UV r, 2, 0⟩
/-- BLW_PROT_STAT: Protection status. -/
def BLW_PROT_STAT (r : Nat) : Nat := 0x40401034 + 0x40 * r
/-- [31:31]. -/ def BLW_PROT_STAT.LATCH (r : Nat) : FRef := ⟨BLW_PROT_STAT r, 31, 31⟩
/-- [30:30]. -/ def BLW_PROT_STAT.HICCUP (r : Nat) : FRef := ⟨BLW_PROT_STAT r, 30, 30⟩
/-- [29:27]. -/ def BLW_PROT_STAT.RTRY (r : Nat) : FRef := ⟨BLW_PROT_STAT r, 29, 27⟩
/-- [26:23]. -/ def BLW_PROT_STAT.QCAUSE (r : Nat) : FRef := ⟨BLW_PROT_STAT r, 26, 23⟩
/-- [11:6]. -/ def BLW_PROT_STAT.FAULT (r : Nat) : FRef := ⟨BLW_PROT_STAT r, 11, 6⟩
/-- [5:0]. -/ def BLW_PROT_STAT.WARN (r : Nat) : FRef := ⟨BLW_PROT_STAT r, 5, 0⟩
/-- BLW_BW_CNT: Event counts. -/
def BLW_BW_CNT (r : Nat) : Nat := 0x40401038 + 0x40 * r
/-- [31:16]. -/ def BLW_BW_CNT.OCNT (r : Nat) : FRef := ⟨BLW_BW_CNT r, 31, 16⟩
/-- [15:0]. -/ def BLW_BW_CNT.DCNT (r : Nat) : FRef := ⟨BLW_BW_CNT r, 15, 0⟩
/-- BLW_PH: Force masks and maximum on-time. -/
def BLW_PH (n : Nat) : Nat := 0x40404000 + 0x4 * n
/-- [31:31]. -/ def BLW_PH.FM (n : Nat) : FRef := ⟨BLW_PH n, 31, 31⟩
/-- [30:30]. -/ def BLW_PH.FMPL (n : Nat) : FRef := ⟨BLW_PH n, 30, 30⟩
/-- [14:12]. -/ def BLW_PH.RCNT (n : Nat) : FRef := ⟨BLW_PH n, 14, 12⟩
/-- [9:0]. -/ def BLW_PH.MAXON (n : Nat) : FRef := ⟨BLW_PH n, 9, 0⟩
/-- RLC_CAP: Counts. -/
def RLC_CAP : Nat := 0x40500000
/-- [21:16]. -/ def RLC_CAP.NRAIL : FRef := ⟨RLC_CAP, 21, 16⟩
/-- [12:8]. -/ def RLC_CAP.NAVS : FRef := ⟨RLC_CAP, 12, 8⟩
/-- [1:0]. -/ def RLC_CAP.NPMB : FRef := ⟨RLC_CAP, 1, 0⟩
/-- RLC_STAT: Status. -/
def RLC_STAT : Nat := 0x40500004
/-- [2:2]. -/ def RLC_STAT.DIPDEF : FRef := ⟨RLC_STAT, 2, 2⟩
/-- [1:1]. -/ def RLC_STAT.CMDIGN : FRef := ⟨RLC_STAT, 1, 1⟩
/-- [0:0]. -/ def RLC_STAT.WIGN : FRef := ⟨RLC_STAT, 0, 0⟩
/-- RLC_COMMIT: Commit lock and result. -/
def RLC_COMMIT : Nat := 0x40500008
/-- [12:8]. -/ def RLC_COMMIT.WHERE : FRef := ⟨RLC_COMMIT, 12, 8⟩
/-- [3:1]. -/ def RLC_COMMIT.RESULT : FRef := ⟨RLC_COMMIT, 3, 1⟩
/-- [0:0]. -/ def RLC_COMMIT.LOCK : FRef := ⟨RLC_COMMIT, 0, 0⟩
/-- RLC_GRP_CMD: Group on and off. -/
def RLC_GRP_CMD : Nat := 0x4050000C
/-- [31:30]. -/ def RLC_GRP_CMD.OP : FRef := ⟨RLC_GRP_CMD, 31, 30⟩
/-- [2:0]. -/ def RLC_GRP_CMD.GRP : FRef := ⟨RLC_GRP_CMD, 2, 0⟩
/-- RLC_PG_SUM: Rails in REG. -/
def RLC_PG_SUM : Nat := 0x40500010
/-- [31:0]. -/ def RLC_PG_SUM.PG : FRef := ⟨RLC_PG_SUM, 31, 0⟩
/-- RLC_AVS_CFG: Rail map. -/
def RLC_AVS_CFG (p : Nat) : Nat := 0x40500100 + 0x8 * p
/-- [31:31]. -/ def RLC_AVS_CFG.EN (p : Nat) : FRef := ⟨RLC_AVS_CFG p, 31, 31⟩
/-- [27:0]. -/ def RLC_AVS_CFG.MAP (p : Nat) : FRef := ⟨RLC_AVS_CFG p, 27, 0⟩
/-- RLC_AVS_STAT: Frame counts. -/
def RLC_AVS_STAT (p : Nat) : Nat := 0x40500104 + 0x8 * p
/-- [31:16]. -/ def RLC_AVS_STAT.CRCERR (p : Nat) : FRef := ⟨RLC_AVS_STAT p, 31, 16⟩
/-- [15:0]. -/ def RLC_AVS_STAT.FRAMES (p : Nat) : FRef := ⟨RLC_AVS_STAT p, 15, 0⟩
/-- RLC_PMB_CFG: Address, PEC, protection. -/
def RLC_PMB_CFG (q : Nat) : Nat := 0x40500200 + 0x8 * q
/-- [31:24]. -/ def RLC_PMB_CFG.WPROT (q : Nat) : FRef := ⟨RLC_PMB_CFG q, 31, 24⟩
/-- [9:9]. -/ def RLC_PMB_CFG.PECREQ (q : Nat) : FRef := ⟨RLC_PMB_CFG q, 9, 9⟩
/-- [8:8]. -/ def RLC_PMB_CFG.EN (q : Nat) : FRef := ⟨RLC_PMB_CFG q, 8, 8⟩
/-- [6:0]. -/ def RLC_PMB_CFG.ADDR (q : Nat) : FRef := ⟨RLC_PMB_CFG q, 6, 0⟩
/-- RLC_PMB_STAT: Page, PEC errors. -/
def RLC_PMB_STAT (q : Nat) : Nat := 0x40500204 + 0x8 * q
/-- [31:24]. -/ def RLC_PMB_STAT.PAGE (q : Nat) : FRef := ⟨RLC_PMB_STAT q, 31, 24⟩
/-- [15:0]. -/ def RLC_PMB_STAT.PECERR (q : Nat) : FRef := ⟨RLC_PMB_STAT q, 15, 0⟩
/-- RLC_RAIL_CTL: On, policy, group. -/
def RLC_RAIL_CTL (r : Nat) : Nat := 0x40501000 + 0x40 * r
/-- [31:31]. -/ def RLC_RAIL_CTL.ON (r : Nat) : FRef := ⟨RLC_RAIL_CTL r, 31, 31⟩
/-- [30:30]. -/ def RLC_RAIL_CTL.PB (r : Nat) : FRef := ⟨RLC_RAIL_CTL r, 30, 30⟩
/-- [29:29]. -/ def RLC_RAIL_CTL.AUTOFR (r : Nat) : FRef := ⟨RLC_RAIL_CTL r, 29, 29⟩
/-- [28:27]. -/ def RLC_RAIL_CTL.ARB (r : Nat) : FRef := ⟨RLC_RAIL_CTL r, 28, 27⟩
/-- [26:24]. -/ def RLC_RAIL_CTL.SRCEN (r : Nat) : FRef := ⟨RLC_RAIL_CTL r, 26, 24⟩
/-- [18:16]. -/ def RLC_RAIL_CTL.GRP (r : Nat) : FRef := ⟨RLC_RAIL_CTL r, 18, 16⟩
/-- [15:12]. -/ def RLC_RAIL_CTL.SEQ (r : Nat) : FRef := ⟨RLC_RAIL_CTL r, 15, 12⟩
/-- RLC_RAIL_FREF: Firmware request. -/
def RLC_RAIL_FREF (r : Nat) : Nat := 0x40501004 + 0x40 * r
/-- [31:31]. -/ def RLC_RAIL_FREF.ATEN (r : Nat) : FRef := ⟨RLC_RAIL_FREF r, 31, 31⟩
/-- [13:0]. -/ def RLC_RAIL_FREF.VSET (r : Nat) : FRef := ⟨RLC_RAIL_FREF r, 13, 0⟩
/-- RLC_RAIL_AT: Scheduled flock time. -/
def RLC_RAIL_AT (r : Nat) : Nat := 0x40501008 + 0x40 * r
/-- [31:0]. -/ def RLC_RAIL_AT.AT (r : Nat) : FRef := ⟨RLC_RAIL_AT r, 31, 0⟩
/-- RLC_RAIL_HREF: Host request. -/
def RLC_RAIL_HREF (r : Nat) : Nat := 0x4050100C + 0x40 * r
/-- [31:31]. -/ def RLC_RAIL_HREF.VALID (r : Nat) : FRef := ⟨RLC_RAIL_HREF r, 31, 31⟩
/-- [13:0]. -/ def RLC_RAIL_HREF.VSET (r : Nat) : FRef := ⟨RLC_RAIL_HREF r, 13, 0⟩
/-- RLC_RAIL_LIM: Limits. -/
def RLC_RAIL_LIM (r : Nat) : Nat := 0x40501010 + 0x40 * r
/-- [29:16]. -/ def RLC_RAIL_LIM.VMAX (r : Nat) : FRef := ⟨RLC_RAIL_LIM r, 29, 16⟩
/-- [13:0]. -/ def RLC_RAIL_LIM.VMIN (r : Nat) : FRef := ⟨RLC_RAIL_LIM r, 13, 0⟩
/-- RLC_RAIL_SCALE: Divider ratio. -/
def RLC_RAIL_SCALE (r : Nat) : Nat := 0x40501014 + 0x40 * r
/-- [31:0]. -/ def RLC_RAIL_SCALE.SCALE (r : Nat) : FRef := ⟨RLC_RAIL_SCALE r, 31, 0⟩
/-- RLC_RAIL_SLEW: Slew rates. -/
def RLC_RAIL_SLEW (r : Nat) : Nat := 0x40501018 + 0x40 * r
/-- [25:16]. -/ def RLC_RAIL_SLEW.DN (r : Nat) : FRef := ⟨RLC_RAIL_SLEW r, 25, 16⟩
/-- [9:0]. -/ def RLC_RAIL_SLEW.UP (r : Nat) : FRef := ⟨RLC_RAIL_SLEW r, 9, 0⟩
/-- RLC_RAIL_LL: Load line. -/
def RLC_RAIL_LL (r : Nat) : Nat := 0x4050101C + 0x40 * r
/-- [23:0]. -/ def RLC_RAIL_LL.LLR (r : Nat) : FRef := ⟨RLC_RAIL_LL r, 23, 0⟩
/-- RLC_RAIL_TON: Turn-on delay and rise. -/
def RLC_RAIL_TON (r : Nat) : Nat := 0x40501020 + 0x40 * r
/-- [31:16]. -/ def RLC_RAIL_TON.DLY (r : Nat) : FRef := ⟨RLC_RAIL_TON r, 31, 16⟩
/-- [15:0]. -/ def RLC_RAIL_TON.RISE (r : Nat) : FRef := ⟨RLC_RAIL_TON r, 15, 0⟩
/-- RLC_RAIL_TOFF: Turn-off delay and fall. -/
def RLC_RAIL_TOFF (r : Nat) : Nat := 0x40501024 + 0x40 * r
/-- [31:16]. -/ def RLC_RAIL_TOFF.DLY (r : Nat) : FRef := ⟨RLC_RAIL_TOFF r, 31, 16⟩
/-- [15:0]. -/ def RLC_RAIL_TOFF.FALL (r : Nat) : FRef := ⟨RLC_RAIL_TOFF r, 15, 0⟩
/-- RLC_RAIL_MARG: Margins. -/
def RLC_RAIL_MARG (r : Nat) : Nat := 0x40501028 + 0x40 * r
/-- [29:16]. -/ def RLC_RAIL_MARG.HIGH (r : Nat) : FRef := ⟨RLC_RAIL_MARG r, 29, 16⟩
/-- [13:0]. -/ def RLC_RAIL_MARG.LOW (r : Nat) : FRef := ⟨RLC_RAIL_MARG r, 13, 0⟩
/-- RLC_RAIL_PMB: OPERATION, ON_OFF_CONFIG. -/
def RLC_RAIL_PMB (r : Nat) : Nat := 0x4050102C + 0x40 * r
/-- [15:8]. -/ def RLC_RAIL_PMB.ONCFG (r : Nat) : FRef := ⟨RLC_RAIL_PMB r, 15, 8⟩
/-- [7:0]. -/ def RLC_RAIL_PMB.OPER (r : Nat) : FRef := ⟨RLC_RAIL_PMB r, 7, 0⟩
/-- RLC_RAIL_STAT: State. -/
def RLC_RAIL_STAT (r : Nat) : Nat := 0x40501030 + 0x40 * r
/-- [11:11]. -/ def RLC_RAIL_STAT.ATPEND (r : Nat) : FRef := ⟨RLC_RAIL_STAT r, 11, 11⟩
/-- [10:10]. -/ def RLC_RAIL_STAT.PENDING (r : Nat) : FRef := ⟨RLC_RAIL_STAT r, 10, 10⟩
/-- [9:8]. -/ def RLC_RAIL_STAT.WIN (r : Nat) : FRef := ⟨RLC_RAIL_STAT r, 9, 8⟩
/-- [7:7]. -/ def RLC_RAIL_STAT.PG (r : Nat) : FRef := ⟨RLC_RAIL_STAT r, 7, 7⟩
/-- [6:6]. -/ def RLC_RAIL_STAT.SSDONE (r : Nat) : FRef := ⟨RLC_RAIL_STAT r, 6, 6⟩
/-- [5:5]. -/ def RLC_RAIL_STAT.SLEWING (r : Nat) : FRef := ⟨RLC_RAIL_STAT r, 5, 5⟩
/-- [3:0]. -/ def RLC_RAIL_STAT.STATE (r : Nat) : FRef := ⟨RLC_RAIL_STAT r, 3, 0⟩
/-- RLC_RAIL_TGT: Target and pending target. -/
def RLC_RAIL_TGT (r : Nat) : Nat := 0x40501034 + 0x40 * r
/-- [29:16]. -/ def RLC_RAIL_TGT.PEND (r : Nat) : FRef := ⟨RLC_RAIL_TGT r, 29, 16⟩
/-- [13:0]. -/ def RLC_RAIL_TGT.TGT (r : Nat) : FRef := ⟨RLC_RAIL_TGT r, 13, 0⟩
/-- RLC_RAIL_REQ: AVS and PMB slots. -/
def RLC_RAIL_REQ (r : Nat) : Nat := 0x40501038 + 0x40 * r
/-- [31:31]. -/ def RLC_RAIL_REQ.AVSV (r : Nat) : FRef := ⟨RLC_RAIL_REQ r, 31, 31⟩
/-- [29:16]. -/ def RLC_RAIL_REQ.AVS (r : Nat) : FRef := ⟨RLC_RAIL_REQ r, 29, 16⟩
/-- [15:15]. -/ def RLC_RAIL_REQ.PMBV (r : Nat) : FRef := ⟨RLC_RAIL_REQ r, 15, 15⟩
/-- [13:0]. -/ def RLC_RAIL_REQ.PMB (r : Nat) : FRef := ⟨RLC_RAIL_REQ r, 13, 0⟩
/-- RLC_RAIL_REF: Reference in force. -/
def RLC_RAIL_REF (r : Nat) : Nat := 0x4050103C + 0x40 * r
/-- [31:0]. -/ def RLC_RAIL_REF.REF (r : Nat) : FRef := ⟨RLC_RAIL_REF r, 31, 0⟩
/-- EVF_CAP: Counts. -/
def EVF_CAP : Nat := 0x40600000
/-- [23:16]. -/ def EVF_CAP.NCLA : FRef := ⟨EVF_CAP, 23, 16⟩
/-- [9:0]. -/ def EVF_CAP.NCH : FRef := ⟨EVF_CAP, 9, 0⟩
/-- EVF_STAT: Status. -/
def EVF_STAT : Nat := 0x40600004
/-- [3:3]. -/ def EVF_STAT.MERGE : FRef := ⟨EVF_STAT, 3, 3⟩
/-- [2:2]. -/ def EVF_STAT.SECV : FRef := ⟨EVF_STAT, 2, 2⟩
/-- [1:1]. -/ def EVF_STAT.WIGN : FRef := ⟨EVF_STAT, 1, 1⟩
/-- [0:0]. -/ def EVF_STAT.DIRTY : FRef := ⟨EVF_STAT, 0, 0⟩
/-- EVF_CTL: Read view. -/
def EVF_CTL : Nat := 0x40600008
/-- [0:0]. -/ def EVF_CTL.VIEW : FRef := ⟨EVF_CTL, 0, 0⟩
/-- EVF_COMMIT: Commit and result. -/
def EVF_COMMIT : Nat := 0x4060000C
/-- [26:16]. -/ def EVF_COMMIT.WHERE : FRef := ⟨EVF_COMMIT, 26, 16⟩
/-- [8:8]. -/ def EVF_COMMIT.WHERE_KIND : FRef := ⟨EVF_COMMIT, 8, 8⟩
/-- [6:4]. -/ def EVF_COMMIT.RESULT : FRef := ⟨EVF_COMMIT, 6, 4⟩
/-- [2:2]. -/ def EVF_COMMIT.DEFER : FRef := ⟨EVF_COMMIT, 2, 2⟩
/-- [1:1]. -/ def EVF_COMMIT.BUSY : FRef := ⟨EVF_COMMIT, 1, 1⟩
/-- [0:0]. -/ def EVF_COMMIT.GO : FRef := ⟨EVF_COMMIT, 0, 0⟩
/-- EVF_CON_FIRE: Software trigger of a consumer. -/
def EVF_CON_FIRE : Nat := 0x40600010
/-- [10:0]. -/ def EVF_CON_FIRE.CON : FRef := ⟨EVF_CON_FIRE, 10, 0⟩
/-- EVF_WATCH: Watch flags. -/
def EVF_WATCH (i : Nat) : Nat := 0x40600020 + 0x4 * i
/-- [31:0]. -/ def EVF_WATCH.WATCH (i : Nat) : FRef := ⟨EVF_WATCH i, 31, 0⟩
/-- EVF_EVIO: EVIO pins. -/
def EVF_EVIO (k : Nat) : Nat := 0x40600100 + 0x4 * k
/-- [31:31]. -/ def EVF_EVIO.DIR (k : Nat) : FRef := ⟨EVF_EVIO k, 31, 31⟩
/-- [30:29]. -/ def EVF_EVIO.EDGE (k : Nat) : FRef := ⟨EVF_EVIO k, 30, 29⟩
/-- [28:28]. -/ def EVF_EVIO.OMODE (k : Nat) : FRef := ⟨EVF_EVIO k, 28, 28⟩
/-- [27:27]. -/ def EVF_EVIO.POL (k : Nat) : FRef := ⟨EVF_EVIO k, 27, 27⟩
/-- [23:16]. -/ def EVF_EVIO.PW (k : Nat) : FRef := ⟨EVF_EVIO k, 23, 16⟩
/-- [15:12]. -/ def EVF_EVIO.FILT (k : Nat) : FRef := ⟨EVF_EVIO k, 15, 12⟩
/-- [0:0]. -/ def EVF_EVIO.LEVEL (k : Nat) : FRef := ⟨EVF_EVIO k, 0, 0⟩
/-- EVF_CH_SRC: Producer selects. -/
def EVF_CH_SRC (n : Nat) : Nat := 0x40604000 + 0x10 * n
/-- [31:31]. -/ def EVF_CH_SRC.EN1 (n : Nat) : FRef := ⟨EVF_CH_SRC n, 31, 31⟩
/-- [26:16]. -/ def EVF_CH_SRC.PSEL1 (n : Nat) : FRef := ⟨EVF_CH_SRC n, 26, 16⟩
/-- [15:15]. -/ def EVF_CH_SRC.EN0 (n : Nat) : FRef := ⟨EVF_CH_SRC n, 15, 15⟩
/-- [10:0]. -/ def EVF_CH_SRC.PSEL0 (n : Nat) : FRef := ⟨EVF_CH_SRC n, 10, 0⟩
/-- EVF_CH_CFG: Enable, class, element, owner. -/
def EVF_CH_CFG (n : Nat) : Nat := 0x40604004 + 0x10 * n
/-- [31:31]. -/ def EVF_CH_CFG.EN (n : Nat) : FRef := ⟨EVF_CH_CFG n, 31, 31⟩
/-- [30:30]. -/ def EVF_CH_CFG.CLASS (n : Nat) : FRef := ⟨EVF_CH_CFG n, 30, 30⟩
/-- [29:29]. -/ def EVF_CH_CFG.SEC (n : Nat) : FRef := ⟨EVF_CH_CFG n, 29, 29⟩
/-- [28:28]. -/ def EVF_CH_CFG.OWNW (n : Nat) : FRef := ⟨EVF_CH_CFG n, 28, 28⟩
/-- [27:25]. -/ def EVF_CH_CFG.OWNCORE (n : Nat) : FRef := ⟨EVF_CH_CFG n, 27, 25⟩
/-- [22:20]. -/ def EVF_CH_CFG.ELEM (n : Nat) : FRef := ⟨EVF_CH_CFG n, 22, 20⟩
/-- EVF_CH_ELEM: Element parameter. -/
def EVF_CH_ELEM (n : Nat) : Nat := 0x40604008 + 0x10 * n
/-- [19:0]. -/ def EVF_CH_ELEM.PARAM (n : Nat) : FRef := ⟨EVF_CH_ELEM n, 19, 0⟩
/-- EVF_CH_STAT: Element state. -/
def EVF_CH_STAT (n : Nat) : Nat := 0x4060400C + 0x10 * n
/-- [18:18]. -/ def EVF_CH_STAT.MERGE (n : Nat) : FRef := ⟨EVF_CH_STAT n, 18, 18⟩
/-- [17:17]. -/ def EVF_CH_STAT.EOVR (n : Nat) : FRef := ⟨EVF_CH_STAT n, 17, 17⟩
/-- [16:16]. -/ def EVF_CH_STAT.BUSY (n : Nat) : FRef := ⟨EVF_CH_STAT n, 16, 16⟩
/-- [15:0]. -/ def EVF_CH_STAT.CNT (n : Nat) : FRef := ⟨EVF_CH_STAT n, 15, 0⟩
/-- EVF_CON: Consumer selects and flags. -/
def EVF_CON (k : Nat) : Nat := 0x40608000 + 0x4 * k
/-- [31:31]. -/ def EVF_CON.OVR (k : Nat) : FRef := ⟨EVF_CON k, 31, 31⟩
/-- [30:30]. -/ def EVF_CON.PEND (k : Nat) : FRef := ⟨EVF_CON k, 30, 30⟩
/-- [29:20]. -/ def EVF_CON.OVRCH (k : Nat) : FRef := ⟨EVF_CON k, 29, 20⟩
/-- [19:19]. -/ def EVF_CON.EN1 (k : Nat) : FRef := ⟨EVF_CON k, 19, 19⟩
/-- [18:10]. -/ def EVF_CON.SEL1 (k : Nat) : FRef := ⟨EVF_CON k, 18, 10⟩
/-- [9:9]. -/ def EVF_CON.EN0 (k : Nat) : FRef := ⟨EVF_CON k, 9, 9⟩
/-- [8:0]. -/ def EVF_CON.SEL0 (k : Nat) : FRef := ⟨EVF_CON k, 8, 0⟩
/-- EVF_PEND: Pending bits. -/
def EVF_PEND (i : Nat) : Nat := 0x4060A000 + 0x4 * i
/-- [31:0]. -/ def EVF_PEND.PEND (i : Nat) : FRef := ⟨EVF_PEND i, 31, 0⟩
/-- EVF_OVR: Overrun bits. -/
def EVF_OVR (i : Nat) : Nat := 0x4060A100 + 0x4 * i
/-- [31:0]. -/ def EVF_OVR.OVR (i : Nat) : FRef := ⟨EVF_OVR i, 31, 0⟩
/-- BWIN: Bank window. -/
def BWIN (p : Nat) : Nat := 0x100000002 + 0x1000 * p
/-- [3:0]. -/ def BWIN.BANK (p : Nat) : FRef := ⟨BWIN p, 3, 0⟩
/-- CORE_ID: Core identity. -/
def CORE_ID (p : Nat) : Nat := 0x100000004 + 0x1000 * p
/-- [23:16]. -/ def CORE_ID.NCORE (p : Nat) : FRef := ⟨CORE_ID p, 23, 16⟩
/-- [15:8]. -/ def CORE_ID.MEMBER (p : Nat) : FRef := ⟨CORE_ID p, 15, 8⟩
/-- [7:3]. -/ def CORE_ID.NBANK (p : Nat) : FRef := ⟨CORE_ID p, 7, 3⟩
/-- [2:0]. -/ def CORE_ID.CORE (p : Nat) : FRef := ⟨CORE_ID p, 2, 0⟩
/-- CORE_CTL: Deterministic mode, escalation stack state. -/
def CORE_CTL (p : Nat) : Nat := 0x100000005 + 0x1000 * p
/-- [2:2]. -/ def CORE_CTL.ESPBAD (p : Nat) : FRef := ⟨CORE_CTL p, 2, 2⟩
/-- [1:1]. -/ def CORE_CTL.ESPV (p : Nat) : FRef := ⟨CORE_CTL p, 1, 1⟩
/-- [0:0]. -/ def CORE_CTL.DETM (p : Nat) : FRef := ⟨CORE_CTL p, 0, 0⟩
/-- TFLOOR: Lowest MTH a Tenant write may set. -/
def TFLOOR (p : Nat) : Nat := 0x100000006 + 0x1000 * p
/-- [4:0]. -/ def TFLOOR.FLOOR (p : Nat) : FRef := ⟨TFLOOR p, 4, 0⟩
/-- BANK_OWN: Tenant ownership of banks. -/
def BANK_OWN (p : Nat) : Nat := 0x100000007 + 0x1000 * p
/-- [15:1]. -/ def BANK_OWN.TEN (p : Nat) : FRef := ⟨BANK_OWN p, 15, 1⟩
/-- BITSPLIT: Keeper part of the bit RAM. -/
def BITSPLIT (p : Nat) : Nat := 0x100000008 + 0x1000 * p
/-- [6:0]. -/ def BITSPLIT.SPLIT (p : Nat) : FRef := ⟨BITSPLIT p, 6, 0⟩
/-- SLIM_LO: Stack lower limit: i = 0 Keeper supervisor, 1 Keeper user, 2 Tenant supervisor, 3 Tenant user. -/
def SLIM_LO (p : Nat) (i : Nat) : Nat := 0x100000010 + 0x1000 * p + 0x2 * i
/-- [31:3]. -/ def SLIM_LO.ADDR (p : Nat) (i : Nat) : FRef := ⟨SLIM_LO p i, 31, 3⟩
/-- SLIM_HI: Stack upper limit. -/
def SLIM_HI (p : Nat) (i : Nat) : Nat := 0x100000011 + 0x1000 * p + 0x2 * i
/-- [31:3]. -/ def SLIM_HI.ADDR (p : Nat) (i : Nat) : FRef := ⟨SLIM_HI p i, 31, 3⟩
/-- ESP: Escalation stack top. -/
def ESP (p : Nat) : Nat := 0x100000018 + 0x1000 * p
/-- [31:3]. -/ def ESP.ADDR (p : Nat) : FRef := ⟨ESP p, 31, 3⟩
/-- ESSZ: Escalation stack size. -/
def ESSZ (p : Nat) : Nat := 0x100000019 + 0x1000 * p
/-- [16:0]. -/ def ESSZ.SIZE (p : Nat) : FRef := ⟨ESSZ p, 16, 0⟩
/-- MPR_BASE: Memory region base. -/
def MPR_BASE (p : Nat) (j : Nat) : Nat := 0x100000020 + 0x1000 * p + 0x2 * j
/-- [31:5]. -/ def MPR_BASE.BASE (p : Nat) (j : Nat) : FRef := ⟨MPR_BASE p j, 31, 5⟩
/-- MPR_ATTR: Memory region size and permissions. -/
def MPR_ATTR (p : Nat) (j : Nat) : Nat := 0x100000021 + 0x1000 * p + 0x2 * j
/-- [31:31]. -/ def MPR_ATTR.EN (p : Nat) (j : Nat) : FRef := ⟨MPR_ATTR p j, 31, 31⟩
/-- [30:30]. -/ def MPR_ATTR.WORLD (p : Nat) (j : Nat) : FRef := ⟨MPR_ATTR p j, 30, 30⟩
/-- [29:29]. -/ def MPR_ATTR.U (p : Nat) (j : Nat) : FRef := ⟨MPR_ATTR p j, 29, 29⟩
/-- [28:28]. -/ def MPR_ATTR.R (p : Nat) (j : Nat) : FRef := ⟨MPR_ATTR p j, 28, 28⟩
/-- [27:27]. -/ def MPR_ATTR.WR (p : Nat) (j : Nat) : FRef := ⟨MPR_ATTR p j, 27, 27⟩
/-- [26:26]. -/ def MPR_ATTR.X (p : Nat) (j : Nat) : FRef := ⟨MPR_ATTR p j, 26, 26⟩
/-- [5:0]. -/ def MPR_ATTR.SZLOG2 (p : Nat) (j : Nat) : FRef := ⟨MPR_ATTR p j, 5, 0⟩
/-- MEM_STAT: Error flags. -/
def MEM_STAT (p : Nat) : Nat := 0x4080F000 + 0x10000 * p
/-- [2:2]. -/ def MEM_STAT.AUNC (p : Nat) : FRef := ⟨MEM_STAT p, 2, 2⟩
/-- [1:1]. -/ def MEM_STAT.UNC (p : Nat) : FRef := ⟨MEM_STAT p, 1, 1⟩
/-- [0:0]. -/ def MEM_STAT.CE (p : Nat) : FRef := ⟨MEM_STAT p, 0, 0⟩
/-- MEM_CCNT_LOC: Corrections in this core's local RAM, by any reader. -/
def MEM_CCNT_LOC (p : Nat) : Nat := 0x4080F004 + 0x10000 * p
/-- [31:0]. -/ def MEM_CCNT_LOC.COUNT (p : Nat) : FRef := ⟨MEM_CCNT_LOC p, 31, 0⟩
/-- MEM_CCNT_BIT: Corrections in this core's bit RAM. -/
def MEM_CCNT_BIT (p : Nat) : Nat := 0x4080F008 + 0x10000 * p
/-- [31:0]. -/ def MEM_CCNT_BIT.COUNT (p : Nat) : FRef := ⟨MEM_CCNT_BIT p, 31, 0⟩
/-- MEM_CCNT_SYS: Corrections in system SRAM found by this core. -/
def MEM_CCNT_SYS (p : Nat) : Nat := 0x4080F00C + 0x10000 * p
/-- [31:0]. -/ def MEM_CCNT_SYS.COUNT (p : Nat) : FRef := ⟨MEM_CCNT_SYS p, 31, 0⟩
/-- MEM_CCNT_CAP: Corrections in capture SRAM found by this core. -/
def MEM_CCNT_CAP (p : Nat) : Nat := 0x4080F010 + 0x10000 * p
/-- [31:0]. -/ def MEM_CCNT_CAP.COUNT (p : Nat) : FRef := ⟨MEM_CCNT_CAP p, 31, 0⟩
/-- MEM_CADDR: Last corrected word. -/
def MEM_CADDR (p : Nat) : Nat := 0x4080F014 + 0x10000 * p
/-- [31:2]. -/ def MEM_CADDR.ADDR (p : Nat) : FRef := ⟨MEM_CADDR p, 31, 2⟩
/-- [1:0]. -/ def MEM_CADDR.ARRAY (p : Nat) : FRef := ⟨MEM_CADDR p, 1, 0⟩
/-- MEM_UADDR: Last uncorrectable word. -/
def MEM_UADDR (p : Nat) : Nat := 0x4080F018 + 0x10000 * p
/-- [31:2]. -/ def MEM_UADDR.ADDR (p : Nat) : FRef := ⟨MEM_UADDR p, 31, 2⟩
/-- [1:0]. -/ def MEM_UADDR.ARRAY (p : Nat) : FRef := ⟨MEM_UADDR p, 1, 0⟩
/-- MEM_INJ: Error injection. -/
def MEM_INJ (p : Nat) : Nat := 0x4080F01C + 0x10000 * p
/-- [31:31]. -/ def MEM_INJ.ARM (p : Nat) : FRef := ⟨MEM_INJ p, 31, 31⟩
/-- [30:30]. -/ def MEM_INJ.BITRAM (p : Nat) : FRef := ⟨MEM_INJ p, 30, 30⟩
/-- [29:29]. -/ def MEM_INJ.TWO (p : Nat) : FRef := ⟨MEM_INJ p, 29, 29⟩
/-- [13:8]. -/ def MEM_INJ.POS1 (p : Nat) : FRef := ⟨MEM_INJ p, 13, 8⟩
/-- [5:0]. -/ def MEM_INJ.POS0 (p : Nat) : FRef := ⟨MEM_INJ p, 5, 0⟩
/-- UC_CTL: Patch lock. -/
def UC_CTL (p : Nat) : Nat := 0x4080F100 + 0x10000 * p
/-- [0:0]. -/ def UC_CTL.PLOCK (p : Nat) : FRef := ⟨UC_CTL p, 0, 0⟩
/-- UC_STAT: Active store, validity, command status. -/
def UC_STAT (p : Nat) : Nat := 0x4080F104 + 0x10000 * p
/-- [31:16]. -/ def UC_STAT.PARCNT (p : Nat) : FRef := ⟨UC_STAT p, 31, 16⟩
/-- [11:11]. -/ def UC_STAT.WIGN (p : Nat) : FRef := ⟨UC_STAT p, 11, 11⟩
/-- [10:8]. -/ def UC_STAT.RESULT (p : Nat) : FRef := ⟨UC_STAT p, 10, 8⟩
/-- [7:7]. -/ def UC_STAT.BUSY (p : Nat) : FRef := ⟨UC_STAT p, 7, 7⟩
/-- [6:6]. -/ def UC_STAT.SWPEND (p : Nat) : FRef := ⟨UC_STAT p, 6, 6⟩
/-- [4:4]. -/ def UC_STAT.SAME (p : Nat) : FRef := ⟨UC_STAT p, 4, 4⟩
/-- [3:3]. -/ def UC_STAT.BVALID (p : Nat) : FRef := ⟨UC_STAT p, 3, 3⟩
/-- [2:2]. -/ def UC_STAT.AVALID (p : Nat) : FRef := ⟨UC_STAT p, 2, 2⟩
/-- [1:0]. -/ def UC_STAT.ACT (p : Nat) : FRef := ⟨UC_STAT p, 1, 0⟩
/-- UC_CMD: Commands (R308). -/
def UC_CMD (p : Nat) : Nat := 0x4080F108 + 0x10000 * p
/-- [31:28]. -/ def UC_CMD.OP (p : Nat) : FRef := ⟨UC_CMD p, 31, 28⟩
/-- [1:0]. -/ def UC_CMD.HALF (p : Nat) : FRef := ⟨UC_CMD p, 1, 0⟩
/-- UC_SRC: Source address of LOAD. -/
def UC_SRC (p : Nat) : Nat := 0x4080F10C + 0x10000 * p
/-- [31:7]. -/ def UC_SRC.ADDR (p : Nat) : FRef := ⟨UC_SRC p, 31, 7⟩
/-- UC_LEN: Word count and version of LOAD. -/
def UC_LEN (p : Nat) : Nat := 0x4080F110 + 0x10000 * p
/-- [31:16]. -/ def UC_LEN.VER (p : Nat) : FRef := ⟨UC_LEN p, 31, 16⟩
/-- [14:0]. -/ def UC_LEN.COUNT (p : Nat) : FRef := ⟨UC_LEN p, 14, 0⟩
/-- UC_PAR: Last fetch fault. -/
def UC_PAR (p : Nat) : Nat := 0x4080F114 + 0x10000 * p
/-- [17:16]. -/ def UC_PAR.SRC (p : Nat) : FRef := ⟨UC_PAR p, 17, 16⟩
/-- [15:15]. -/ def UC_PAR.ILL (p : Nat) : FRef := ⟨UC_PAR p, 15, 15⟩
/-- [14:0]. -/ def UC_PAR.ADDR (p : Nat) : FRef := ⟨UC_PAR p, 14, 0⟩
/-- UC_VER: Versions of the halves. -/
def UC_VER (p : Nat) : Nat := 0x4080F118 + 0x10000 * p
/-- [31:16]. -/ def UC_VER.BVER (p : Nat) : FRef := ⟨UC_VER p, 31, 16⟩
/-- [15:0]. -/ def UC_VER.AVER (p : Nat) : FRef := ⟨UC_VER p, 15, 0⟩
/-- UC_PATCH_IDX: Patch write index. -/
def UC_PATCH_IDX (p : Nat) : Nat := 0x4080F11C + 0x10000 * p
/-- [6:0]. -/ def UC_PATCH_IDX.IDX (p : Nat) : FRef := ⟨UC_PATCH_IDX p, 6, 0⟩
/-- UC_DIGEST: Expected SHA-384 digest, word 0 first. -/
def UC_DIGEST (p : Nat) (i : Nat) : Nat := 0x4080F120 + 0x10000 * p + 0x4 * i
/-- [31:0]. -/ def UC_DIGEST.DIGEST (p : Nat) (i : Nat) : FRef := ⟨UC_DIGEST p i, 31, 0⟩
/-- UC_PATCH_DATA: Patch write data. -/
def UC_PATCH_DATA (p : Nat) : Nat := 0x4080F150 + 0x10000 * p
/-- [23:0]. -/ def UC_PATCH_DATA.WORD (p : Nat) : FRef := ⟨UC_PATCH_DATA p, 23, 0⟩
/-- UC_MATCH: Match registers. -/
def UC_MATCH (p : Nat) (i : Nat) : Nat := 0x4080F180 + 0x10000 * p + 0x4 * i
/-- [31:31]. -/ def UC_MATCH.EN (p : Nat) (i : Nat) : FRef := ⟨UC_MATCH p i, 31, 31⟩
/-- [22:16]. -/ def UC_MATCH.PIDX (p : Nat) (i : Nat) : FRef := ⟨UC_MATCH p i, 22, 16⟩
/-- [12:0]. -/ def UC_MATCH.ROMOFS (p : Nat) (i : Nat) : FRef := ⟨UC_MATCH p i, 12, 0⟩
/-- EDTB_K: Keeper descriptor table; [31:10] ADDR, RW, reset 0 (X). -/
def EDTB_K (p : Nat) : Nat := 0x100000040 + 0x1000 * p
/-- [31:10]. -/ def EDTB_K.ADDR (p : Nat) : FRef := ⟨EDTB_K p, 31, 10⟩
/-- EDTB_T: Tenant descriptor table; as EDTB_K. -/
def EDTB_T (p : Nat) : Nat := 0x100000041 + 0x1000 * p
/-- [31:10]. -/ def EDTB_T.ADDR (p : Nat) : FRef := ⟨EDTB_T p, 31, 10⟩
/-- ESC_VEC: Escalation handler address; [31:0], RW, reset 0xF000_0000 (X). -/
def ESC_VEC (p : Nat) : Nat := 0x100000042 + 0x1000 * p
/-- [31:0]. -/ def ESC_VEC.ADDR (p : Nat) : FRef := ⟨ESC_VEC p, 31, 0⟩
/-- FPOWN: [31] VALID, [3:0] BANK; RW, reset 0 (X). -/
def FPOWN (p : Nat) : Nat := 0x100000043 + 0x1000 * p
/-- [31:31]. -/ def FPOWN.VALID (p : Nat) : FRef := ⟨FPOWN p, 31, 31⟩
/-- [3:0]. -/ def FPOWN.BANK (p : Nat) : FRef := ⟨FPOWN p, 3, 0⟩
/-- ESC_CAUSE: Escalation cause. -/
def ESC_CAUSE (p : Nat) : Nat := 0x100000050 + 0x1000 * p
/-- [21:20]. -/ def ESC_CAUSE.DCNT (p : Nat) : FRef := ⟨ESC_CAUSE p, 21, 20⟩
/-- [3:0]. -/ def ESC_CAUSE.CODE (p : Nat) : FRef := ⟨ESC_CAUSE p, 3, 0⟩
/-- ESC_PC: Return PC; RW. -/
def ESC_PC (p : Nat) : Nat := 0x100000051 + 0x1000 * p
/-- [31:0]. -/ def ESC_PC.PC (p : Nat) : FRef := ⟨ESC_PC p, 31, 0⟩
/-- ESC_STATUS: Return STATUS, in the layout of R220; RW. -/
def ESC_STATUS (p : Nat) : Nat := 0x100000052 + 0x1000 * p
/-- [31:0]. -/ def ESC_STATUS.STATUS (p : Nat) : FRef := ⟨ESC_STATUS p, 31, 0⟩
/-- ESC_G15: G15 of the captured context; RO. -/
def ESC_G15 (p : Nat) : Nat := 0x100000053 + 0x1000 * p
/-- [31:0]. -/ def ESC_G15.G15 (p : Nat) : FRef := ⟨ESC_G15 p, 31, 0⟩
/-- ESC_INFO: Colliding or failing request. -/
def ESC_INFO (p : Nat) : Nat := 0x100000054 + 0x1000 * p
/-- [31:30]. -/ def ESC_INFO.KIND (p : Nat) : FRef := ⟨ESC_INFO p, 31, 30⟩
/-- [19:16]. -/ def ESC_INFO.BANK (p : Nat) : FRef := ⟨ESC_INFO p, 19, 16⟩
/-- [10:0]. -/ def ESC_INFO.NUM (p : Nat) : FRef := ⟨ESC_INFO p, 10, 0⟩
/-- ESC_ADDR: Address that failed; RO. -/
def ESC_ADDR (p : Nat) : Nat := 0x100000055 + 0x1000 * p
/-- [31:0]. -/ def ESC_ADDR.ADDR (p : Nat) : FRef := ⟨ESC_ADDR p, 31, 0⟩
/-- ESC_DTGT: Delay-slot target; RW. -/
def ESC_DTGT (p : Nat) : Nat := 0x100000056 + 0x1000 * p
/-- [31:0]. -/ def ESC_DTGT.DTGT (p : Nat) : FRef := ⟨ESC_DTGT p, 31, 0⟩
/-- ICU_CAP: Source count. -/
def ICU_CAP : Nat := 0x40700000
/-- [10:0]. -/ def ICU_CAP.NSRC : FRef := ⟨ICU_CAP, 10, 0⟩
/-- ICU_STAT: Status. -/
def ICU_STAT : Nat := 0x40700004
/-- [1:1]. -/ def ICU_STAT.SECV : FRef := ⟨ICU_STAT, 1, 1⟩
/-- [0:0]. -/ def ICU_STAT.WIGN : FRef := ⟨ICU_STAT, 0, 0⟩
/-- ICU_COMMIT: Commit lock and result. -/
def ICU_COMMIT : Nat := 0x40700008
/-- [26:16]. -/ def ICU_COMMIT.WHERE : FRef := ⟨ICU_COMMIT, 26, 16⟩
/-- [3:1]. -/ def ICU_COMMIT.RESULT : FRef := ⟨ICU_COMMIT, 3, 1⟩
/-- [0:0]. -/ def ICU_COMMIT.LOCK : FRef := ⟨ICU_COMMIT, 0, 0⟩
/-- ICU_PEND: Pending bits. -/
def ICU_PEND (i : Nat) : Nat := 0x40700100 + 0x4 * i
/-- [31:0]. -/ def ICU_PEND.PEND (i : Nat) : FRef := ⟨ICU_PEND i, 31, 0⟩
/-- ICU_SET: Software set. -/
def ICU_SET (i : Nat) : Nat := 0x40700200 + 0x4 * i
/-- [31:0]. -/ def ICU_SET.SET (i : Nat) : FRef := ⟨ICU_SET i, 31, 0⟩
/-- ICU_OVR: Overrun bits. -/
def ICU_OVR (i : Nat) : Nat := 0x40700300 + 0x4 * i
/-- [31:0]. -/ def ICU_OVR.OVR (i : Nat) : FRef := ⟨ICU_OVR i, 31, 0⟩
/-- ICU_TGT: Target. -/
def ICU_TGT (s : Nat) : Nat := 0x40701000 + 0x8 * s
/-- [31:31]. -/ def ICU_TGT.EN (s : Nat) : FRef := ⟨ICU_TGT s, 31, 31⟩
/-- [26:24]. -/ def ICU_TGT.CORE (s : Nat) : FRef := ⟨ICU_TGT s, 26, 24⟩
/-- [23:23]. -/ def ICU_TGT.W (s : Nat) : FRef := ⟨ICU_TGT s, 23, 23⟩
/-- [22:22]. -/ def ICU_TGT.L (s : Nat) : FRef := ⟨ICU_TGT s, 22, 22⟩
/-- [19:16]. -/ def ICU_TGT.BANK (s : Nat) : FRef := ⟨ICU_TGT s, 19, 16⟩
/-- [3:0]. -/ def ICU_TGT.PRI (s : Nat) : FRef := ⟨ICU_TGT s, 3, 0⟩
/-- ICU_VEC: Vector. -/
def ICU_VEC (s : Nat) : Nat := 0x40701004 + 0x8 * s
/-- [31:0]. -/ def ICU_VEC.ADDR (s : Nat) : FRef := ⟨ICU_VEC s, 31, 0⟩
/-- DRV_CTL: Delivery and idle control. -/
def DRV_CTL (p : Nat) : Nat := 0x40800000 + 0x10000 * p
/-- [3:3]. -/ def DRV_CTL.NEXTV (p : Nat) : FRef := ⟨DRV_CTL p, 3, 3⟩
/-- [2:2]. -/ def DRV_CTL.TICKW (p : Nat) : FRef := ⟨DRV_CTL p, 2, 2⟩
/-- [1:1]. -/ def DRV_CTL.DOZE_EN (p : Nat) : FRef := ⟨DRV_CTL p, 1, 1⟩
/-- [0:0]. -/ def DRV_CTL.IEN (p : Nat) : FRef := ⟨DRV_CTL p, 0, 0⟩
/-- DRV_STAT: Core state. -/
def DRV_STAT (p : Nat) : Nat := 0x40800004 + 0x10000 * p
/-- [31:31]. -/ def DRV_STAT.LOCKED (p : Nat) : FRef := ⟨DRV_STAT p, 31, 31⟩
/-- [30:30]. -/ def DRV_STAT.WIGN (p : Nat) : FRef := ⟨DRV_STAT p, 30, 30⟩
/-- [17:16]. -/ def DRV_STAT.IDLE (p : Nat) : FRef := ⟨DRV_STAT p, 17, 16⟩
/-- [12:8]. -/ def DRV_STAT.PRI (p : Nat) : FRef := ⟨DRV_STAT p, 12, 8⟩
/-- [4:4]. -/ def DRV_STAT.ESC (p : Nat) : FRef := ⟨DRV_STAT p, 4, 4⟩
/-- [3:0]. -/ def DRV_STAT.BANK (p : Nat) : FRef := ⟨DRV_STAT p, 3, 0⟩
/-- DRV_RST: Core reset (R333). -/
def DRV_RST (p : Nat) : Nat := 0x40800008 + 0x10000 * p
/-- [15:0]. -/ def DRV_RST.KEY (p : Nat) : FRef := ⟨DRV_RST p, 15, 0⟩
/-- DRV_LOCK: Lockup history. -/
def DRV_LOCK (p : Nat) : Nat := 0x4080000C + 0x10000 * p
/-- [31:16]. -/ def DRV_LOCK.LOCKCNT (p : Nat) : FRef := ⟨DRV_LOCK p, 31, 16⟩
/-- [2:0]. -/ def DRV_LOCK.CAUSE (p : Nat) : FRef := ⟨DRV_LOCK p, 2, 0⟩
/-- DRV_NEXT_LO: Next known event, flock time [31:0]. -/
def DRV_NEXT_LO (p : Nat) : Nat := 0x40800010 + 0x10000 * p
/-- [31:0]. -/ def DRV_NEXT_LO.NEXT (p : Nat) : FRef := ⟨DRV_NEXT_LO p, 31, 0⟩
/-- DRV_NEXT_HI: Next known event, flock time [63:32]. -/
def DRV_NEXT_HI (p : Nat) : Nat := 0x40800014 + 0x10000 * p
/-- [31:0]. -/ def DRV_NEXT_HI.NEXT (p : Nat) : FRef := ⟨DRV_NEXT_HI p, 31, 0⟩
/-- DRV_READY: Slots READY; bit s; RO. -/
def DRV_READY (p : Nat) : Nat := 0x40800018 + 0x10000 * p
/-- [15:0]. -/ def DRV_READY.READY (p : Nat) : FRef := ⟨DRV_READY p, 15, 0⟩
/-- DRV_SLOT_CFG: Slot configuration. -/
def DRV_SLOT_CFG (p : Nat) (s : Nat) : Nat := 0x40800100 + 0x10000 * p + 0x10 * s
/-- [31:31]. -/ def DRV_SLOT_CFG.EN (p : Nat) (s : Nat) : FRef := ⟨DRV_SLOT_CFG p s, 31, 31⟩
/-- [30:30]. -/ def DRV_SLOT_CFG.W (p : Nat) (s : Nat) : FRef := ⟨DRV_SLOT_CFG p s, 30, 30⟩
/-- [29:29]. -/ def DRV_SLOT_CFG.L (p : Nat) (s : Nat) : FRef := ⟨DRV_SLOT_CFG p s, 29, 29⟩
/-- [11:8]. -/ def DRV_SLOT_CFG.INEN (p : Nat) (s : Nat) : FRef := ⟨DRV_SLOT_CFG p s, 11, 8⟩
/-- [3:0]. -/ def DRV_SLOT_CFG.PRI (p : Nat) (s : Nat) : FRef := ⟨DRV_SLOT_CFG p s, 3, 0⟩
/-- DRV_SLOT_ENTRY: First-activation PC; [31:0], RW, reset 0 (X). -/
def DRV_SLOT_ENTRY (p : Nat) (s : Nat) : Nat := 0x40800104 + 0x10000 * p + 0x10 * s
/-- [31:0]. -/ def DRV_SLOT_ENTRY.ENTRY (p : Nat) (s : Nat) : FRef := ⟨DRV_SLOT_ENTRY p s, 31, 0⟩
/-- DRV_SLOT_STAT: Slot state. -/
def DRV_SLOT_STAT (p : Nat) (s : Nat) : Nat := 0x40800108 + 0x10000 * p + 0x10 * s
/-- [31:16]. -/ def DRV_SLOT_STAT.ACT (p : Nat) (s : Nat) : FRef := ⟨DRV_SLOT_STAT p s, 31, 16⟩
/-- [8:8]. -/ def DRV_SLOT_STAT.YLD (p : Nat) (s : Nat) : FRef := ⟨DRV_SLOT_STAT p s, 8, 8⟩
/-- [7:4]. -/ def DRV_SLOT_STAT.WHY (p : Nat) (s : Nat) : FRef := ⟨DRV_SLOT_STAT p s, 7, 4⟩
/-- [2:0]. -/ def DRV_SLOT_STAT.STATE (p : Nat) (s : Nat) : FRef := ⟨DRV_SLOT_STAT p s, 2, 0⟩
/-- HIF_CAP: Counts. -/
def HIF_CAP : Nat := 0x40900000
/-- [23:20]. -/ def HIF_CAP.MAXW : FRef := ⟨HIF_CAP, 23, 20⟩
/-- [19:16]. -/ def HIF_CAP.MAXGEN : FRef := ⟨HIF_CAP, 19, 16⟩
/-- [10:8]. -/ def HIF_CAP.NTR : FRef := ⟨HIF_CAP, 10, 8⟩
/-- [4:0]. -/ def HIF_CAP.NCQ : FRef := ⟨HIF_CAP, 4, 0⟩
/-- HIF_STAT: Link and access status. -/
def HIF_STAT : Nat := 0x40900004
/-- [23:16]. -/ def HIF_STAT.TRERR : FRef := ⟨HIF_STAT, 23, 16⟩
/-- [11:8]. -/ def HIF_STAT.WIDTH : FRef := ⟨HIF_STAT, 11, 8⟩
/-- [7:4]. -/ def HIF_STAT.SPEED : FRef := ⟨HIF_STAT, 7, 4⟩
/-- [3:3]. -/ def HIF_STAT.HSECV : FRef := ⟨HIF_STAT, 3, 3⟩
/-- [2:2]. -/ def HIF_STAT.HUNMAP : FRef := ⟨HIF_STAT, 2, 2⟩
/-- [1:1]. -/ def HIF_STAT.HPART : FRef := ⟨HIF_STAT, 1, 1⟩
/-- [0:0]. -/ def HIF_STAT.LINK : FRef := ⟨HIF_STAT, 0, 0⟩
/-- HIF_HPOL: Host world (R344). -/
def HIF_HPOL : Nat := 0x40900008
/-- [1:1]. -/ def HIF_HPOL.LOCK : FRef := ⟨HIF_HPOL, 1, 1⟩
/-- [0:0]. -/ def HIF_HPOL.HW : FRef := ⟨HIF_HPOL, 0, 0⟩
/-- HIF_CTL: Enables, error vector. -/
def HIF_CTL : Nat := 0x4090000C
/-- [12:8]. -/ def HIF_CTL.ERRVEC : FRef := ⟨HIF_CTL, 12, 8⟩
/-- [1:1]. -/ def HIF_CTL.TEN : FRef := ⟨HIF_CTL, 1, 1⟩
/-- [0:0]. -/ def HIF_CTL.EN : FRef := ⟨HIF_CTL, 0, 0⟩
/-- HIF_COMMIT: Ring commit lock and result. -/
def HIF_COMMIT : Nat := 0x40900010
/-- [11:8]. -/ def HIF_COMMIT.WHERE : FRef := ⟨HIF_COMMIT, 11, 8⟩
/-- [3:1]. -/ def HIF_COMMIT.RESULT : FRef := ⟨HIF_COMMIT, 3, 1⟩
/-- [0:0]. -/ def HIF_COMMIT.LOCK : FRef := ⟨HIF_COMMIT, 0, 0⟩
/-- HIF_PW_BASE_LO: Pasture window base [31:0] and size. -/
def HIF_PW_BASE_LO : Nat := 0x40900018
/-- [31:20]. -/ def HIF_PW_BASE_LO.ADDR : FRef := ⟨HIF_PW_BASE_LO, 31, 20⟩
/-- [5:0]. -/ def HIF_PW_BASE_LO.PWLOG2 : FRef := ⟨HIF_PW_BASE_LO, 5, 0⟩
/-- HIF_PW_BASE_HI: Pasture window base [63:32]. -/
def HIF_PW_BASE_HI : Nat := 0x4090001C
/-- [31:0]. -/ def HIF_PW_BASE_HI.ADDR : FRef := ⟨HIF_PW_BASE_HI, 31, 0⟩
/-- HIF_SB_LO: Status block [31:0]. -/
def HIF_SB_LO : Nat := 0x40900020
/-- [31:6]. -/ def HIF_SB_LO.ADDR : FRef := ⟨HIF_SB_LO, 31, 6⟩
/-- HIF_SB_HI: Status block [63:32]. -/
def HIF_SB_HI : Nat := 0x40900024
/-- [31:0]. -/ def HIF_SB_HI.ADDR : FRef := ⟨HIF_SB_HI, 31, 0⟩
/-- HIF_TERRCNT: Tally failures seen by DMA. -/
def HIF_TERRCNT : Nat := 0x40900030
/-- [31:0]. -/ def HIF_TERRCNT.COUNT : FRef := ⟨HIF_TERRCNT, 31, 0⟩
/-- HIF_CECNT: Corrections by DMA reads. -/
def HIF_CECNT : Nat := 0x40900034
/-- [31:0]. -/ def HIF_CECNT.COUNT : FRef := ⟨HIF_CECNT, 31, 0⟩
/-- HIF_UNCCNT: Uncorrectable words sent. -/
def HIF_UNCCNT : Nat := 0x40900038
/-- [31:0]. -/ def HIF_UNCCNT.COUNT : FRef := ⟨HIF_UNCCNT, 31, 0⟩
/-- HIF_EVR_LO: Event ring base [31:0]. -/
def HIF_EVR_LO : Nat := 0x40900040
/-- [31:12]. -/ def HIF_EVR_LO.ADDR : FRef := ⟨HIF_EVR_LO, 31, 12⟩
/-- [4:0]. -/ def HIF_EVR_LO.LOG2 : FRef := ⟨HIF_EVR_LO, 4, 0⟩
/-- HIF_EVR_HI: Event ring base [63:32]. -/
def HIF_EVR_HI : Nat := 0x40900044
/-- [31:0]. -/ def HIF_EVR_HI.ADDR : FRef := ⟨HIF_EVR_HI, 31, 0⟩
/-- HIF_EVR_CTL: Event ring size, vector, enable. -/
def HIF_EVR_CTL : Nat := 0x40900048
/-- [8:4]. -/ def HIF_EVR_CTL.VEC : FRef := ⟨HIF_EVR_CTL, 8, 4⟩
/-- [1:1]. -/ def HIF_EVR_CTL.ERR : FRef := ⟨HIF_EVR_CTL, 1, 1⟩
/-- [0:0]. -/ def HIF_EVR_CTL.EN : FRef := ⟨HIF_EVR_CTL, 0, 0⟩
/-- HIF_EVPOST: Firmware event record (R358). -/
def HIF_EVPOST (i : Nat) : Nat := 0x40900050 + 0x4 * i
/-- [31:0]. -/ def HIF_EVPOST.WORD (i : Nat) : FRef := ⟨HIF_EVPOST i, 31, 0⟩
/-- HIF_EVPOST_3: Firmware event record (R358). -/
def HIF_EVPOST_3 : Nat := 0x4090005C
/-- [0:0]. -/ def HIF_EVPOST_3.POST : FRef := ⟨HIF_EVPOST_3, 0, 0⟩
/-- HIF_FWIN_BASE: Firmware inbox. -/
def HIF_FWIN_BASE : Nat := 0x40900060
/-- [31:7]. -/ def HIF_FWIN_BASE.ADDR : FRef := ⟨HIF_FWIN_BASE, 31, 7⟩
/-- [3:0]. -/ def HIF_FWIN_BASE.LOG2 : FRef := ⟨HIF_FWIN_BASE, 3, 0⟩
/-- HIF_FWIN_HEAD: Inbox producer index. -/
def HIF_FWIN_HEAD : Nat := 0x40900064
/-- [9:0]. -/ def HIF_FWIN_HEAD.IDX : FRef := ⟨HIF_FWIN_HEAD, 9, 0⟩
/-- HIF_FWIN_TAIL: Inbox consumer index. -/
def HIF_FWIN_TAIL : Nat := 0x40900068
/-- [9:0]. -/ def HIF_FWIN_TAIL.IDX : FRef := ⟨HIF_FWIN_TAIL, 9, 0⟩
/-- HIF_FWRES: Result of the next firmware completion. -/
def HIF_FWRES : Nat := 0x4090006C
/-- [31:0]. -/ def HIF_FWRES.RES : FRef := ⟨HIF_FWRES, 31, 0⟩
/-- HIF_FWCPL: Post a firmware completion. -/
def HIF_FWCPL : Nat := 0x40900070
/-- [31:28]. -/ def HIF_FWCPL.QID : FRef := ⟨HIF_FWCPL, 31, 28⟩
/-- [23:16]. -/ def HIF_FWCPL.STATUS : FRef := ⟨HIF_FWCPL, 23, 16⟩
/-- HIF_SQ_LO: Command queue base [31:0] and size. -/
def HIF_SQ_LO (q : Nat) : Nat := 0x40900100 + 0x20 * q
/-- [31:12]. -/ def HIF_SQ_LO.ADDR (q : Nat) : FRef := ⟨HIF_SQ_LO q, 31, 12⟩
/-- [4:0]. -/ def HIF_SQ_LO.LOG2 (q : Nat) : FRef := ⟨HIF_SQ_LO q, 4, 0⟩
/-- HIF_SQ_HI: Command queue base [63:32]. -/
def HIF_SQ_HI (q : Nat) : Nat := 0x40900104 + 0x20 * q
/-- [31:0]. -/ def HIF_SQ_HI.ADDR (q : Nat) : FRef := ⟨HIF_SQ_HI q, 31, 0⟩
/-- HIF_SQ_CTL: Enable, completion queue. -/
def HIF_SQ_CTL (q : Nat) : Nat := 0x40900108 + 0x20 * q
/-- [7:4]. -/ def HIF_SQ_CTL.CQ (q : Nat) : FRef := ⟨HIF_SQ_CTL q, 7, 4⟩
/-- [0:0]. -/ def HIF_SQ_CTL.EN (q : Nat) : FRef := ⟨HIF_SQ_CTL q, 0, 0⟩
/-- HIF_SQ_STAT: Head, error. -/
def HIF_SQ_STAT (q : Nat) : Nat := 0x4090010C + 0x20 * q
/-- [19:18]. -/ def HIF_SQ_STAT.ERRCODE (q : Nat) : FRef := ⟨HIF_SQ_STAT q, 19, 18⟩
/-- [17:17]. -/ def HIF_SQ_STAT.ERR (q : Nat) : FRef := ⟨HIF_SQ_STAT q, 17, 17⟩
/-- [15:0]. -/ def HIF_SQ_STAT.HEAD (q : Nat) : FRef := ⟨HIF_SQ_STAT q, 15, 0⟩
/-- HIF_CQ_LO: Completion queue base [31:0] and size. -/
def HIF_CQ_LO (q : Nat) : Nat := 0x40900110 + 0x20 * q
/-- [31:12]. -/ def HIF_CQ_LO.ADDR (q : Nat) : FRef := ⟨HIF_CQ_LO q, 31, 12⟩
/-- [4:0]. -/ def HIF_CQ_LO.LOG2 (q : Nat) : FRef := ⟨HIF_CQ_LO q, 4, 0⟩
/-- HIF_CQ_HI: Completion queue base [63:32]. -/
def HIF_CQ_HI (q : Nat) : Nat := 0x40900114 + 0x20 * q
/-- [31:0]. -/ def HIF_CQ_HI.ADDR (q : Nat) : FRef := ⟨HIF_CQ_HI q, 31, 0⟩
/-- HIF_CQ_CTL: Enable, vector. -/
def HIF_CQ_CTL (q : Nat) : Nat := 0x40900118 + 0x20 * q
/-- [8:4]. -/ def HIF_CQ_CTL.VEC (q : Nat) : FRef := ⟨HIF_CQ_CTL q, 8, 4⟩
/-- [1:1]. -/ def HIF_CQ_CTL.IEN (q : Nat) : FRef := ⟨HIF_CQ_CTL q, 1, 1⟩
/-- [0:0]. -/ def HIF_CQ_CTL.EN (q : Nat) : FRef := ⟨HIF_CQ_CTL q, 0, 0⟩
/-- HIF_CQ_STAT: Tail, phase. -/
def HIF_CQ_STAT (q : Nat) : Nat := 0x4090011C + 0x20 * q
/-- [17:17]. -/ def HIF_CQ_STAT.ERR (q : Nat) : FRef := ⟨HIF_CQ_STAT q, 17, 17⟩
/-- [16:16]. -/ def HIF_CQ_STAT.PHASE (q : Nat) : FRef := ⟨HIF_CQ_STAT q, 16, 16⟩
/-- [15:0]. -/ def HIF_CQ_STAT.TAIL (q : Nat) : FRef := ⟨HIF_CQ_STAT q, 15, 0⟩
/-- HIF_QHIST: Last executed descriptor (R369). -/
def HIF_QHIST (q : Nat) : Nat := 0x40900300 + 0x4 * q
/-- [31:31]. -/ def HIF_QHIST.VALID (q : Nat) : FRef := ⟨HIF_QHIST q, 31, 31⟩
/-- [30:30]. -/ def HIF_QHIST.LOST (q : Nat) : FRef := ⟨HIF_QHIST q, 30, 30⟩
/-- [15:0]. -/ def HIF_QHIST.IDX (q : Nat) : FRef := ⟨HIF_QHIST q, 15, 0⟩
/-- HIF_TR_LO: Ring base [31:0]. -/
def HIF_TR_LO (t : Nat) : Nat := 0x40900400 + 0x20 * t
/-- [31:12]. -/ def HIF_TR_LO.ADDR (t : Nat) : FRef := ⟨HIF_TR_LO t, 31, 12⟩
/-- HIF_TR_HI: Ring base [63:32]. -/
def HIF_TR_HI (t : Nat) : Nat := 0x40900404 + 0x20 * t
/-- [31:0]. -/ def HIF_TR_HI.ADDR (t : Nat) : FRef := ⟨HIF_TR_HI t, 31, 0⟩
/-- HIF_TR_GEO: Slab size and count. -/
def HIF_TR_GEO (t : Nat) : Nat := 0x40900408 + 0x20 * t
/-- [12:8]. -/ def HIF_TR_GEO.SLOG2 (t : Nat) : FRef := ⟨HIF_TR_GEO t, 12, 8⟩
/-- [4:0]. -/ def HIF_TR_GEO.SLAB (t : Nat) : FRef := ⟨HIF_TR_GEO t, 4, 0⟩
/-- HIF_TR_CFG: Stream selection. -/
def HIF_TR_CFG (t : Nat) : Nat := 0x4090040C + 0x20 * t
/-- [31:30]. -/ def HIF_TR_CFG.MODE (t : Nat) : FRef := ⟨HIF_TR_CFG t, 31, 30⟩
/-- [29:27]. -/ def HIF_TR_CFG.MASK (t : Nat) : FRef := ⟨HIF_TR_CFG t, 29, 27⟩
/-- [26:16]. -/ def HIF_TR_CFG.TPR (t : Nat) : FRef := ⟨HIF_TR_CFG t, 26, 16⟩
/-- [15:0]. -/ def HIF_TR_CFG.DECIM (t : Nat) : FRef := ⟨HIF_TR_CFG t, 15, 0⟩
/-- HIF_TR_STAT: Losses, suspension. -/
def HIF_TR_STAT (t : Nat) : Nat := 0x40900410 + 0x20 * t
/-- [31:31]. -/ def HIF_TR_STAT.SUSP (t : Nat) : FRef := ⟨HIF_TR_STAT t, 31, 31⟩
/-- [30:26]. -/ def HIF_TR_STAT.VEC (t : Nat) : FRef := ⟨HIF_TR_STAT t, 30, 26⟩
/-- [25:16]. -/ def HIF_TR_STAT.IRQSLAB (t : Nat) : FRef := ⟨HIF_TR_STAT t, 25, 16⟩
/-- [15:0]. -/ def HIF_TR_STAT.DROP (t : Nat) : FRef := ⟨HIF_TR_STAT t, 15, 0⟩
/-- HIF_MASK: Channel masks. -/
def HIF_MASK (m : Nat) (w : Nat) : Nat := 0x40900500 + 0x20 * m + 0x4 * w
/-- [31:0]. -/ def HIF_MASK.MASK (m : Nat) (w : Nat) : FRef := ⟨HIF_MASK m w, 31, 0⟩
/-- HIF_MASK_5: Channel masks. -/
def HIF_MASK_5 (m : Nat) : Nat := 0x40900514 + 0x20 * m
/-- [23:0]. -/ def HIF_MASK_5.MASK (m : Nat) : FRef := ⟨HIF_MASK_5 m, 23, 0⟩
/-- HIF_CAP_CFG: Capture configuration. -/
def HIF_CAP_CFG : Nat := 0x40900600
/-- [31:31]. -/ def HIF_CAP_CFG.AUTODUMP : FRef := ⟨HIF_CAP_CFG, 31, 31⟩
/-- [26:24]. -/ def HIF_CAP_CFG.RING : FRef := ⟨HIF_CAP_CFG, 26, 24⟩
/-- [13:0]. -/ def HIF_CAP_CFG.POST : FRef := ⟨HIF_CAP_CFG, 13, 0⟩
/-- HIF_CAP_CTL: Capture commands. -/
def HIF_CAP_CTL : Nat := 0x40900604
/-- [1:1]. -/ def HIF_CAP_CTL.DUMP : FRef := ⟨HIF_CAP_CTL, 1, 1⟩
/-- [0:0]. -/ def HIF_CAP_CTL.ARM : FRef := ⟨HIF_CAP_CTL, 0, 0⟩
/-- HIF_CAP_STAT: Capture state. -/
def HIF_CAP_STAT : Nat := 0x40900608
/-- [31:16]. -/ def HIF_CAP_STAT.MISSED : FRef := ⟨HIF_CAP_STAT, 31, 16⟩
/-- [5:4]. -/ def HIF_CAP_STAT.TSRC : FRef := ⟨HIF_CAP_STAT, 5, 4⟩
/-- [2:0]. -/ def HIF_CAP_STAT.STATE : FRef := ⟨HIF_CAP_STAT, 2, 0⟩
/-- HIF_CAP_TTRIG_LO: TTRIG [31:0]. -/
def HIF_CAP_TTRIG_LO : Nat := 0x4090060C
/-- [31:0]. -/ def HIF_CAP_TTRIG_LO.TTRIG : FRef := ⟨HIF_CAP_TTRIG_LO, 31, 0⟩
/-- HIF_CAP_TTRIG_HI: TTRIG [63:32]. -/
def HIF_CAP_TTRIG_HI : Nat := 0x40900610
/-- [31:0]. -/ def HIF_CAP_TTRIG_HI.TTRIG : FRef := ⟨HIF_CAP_TTRIG_HI, 31, 0⟩
/-- NVC_KSTAT: Kindle outcome. Each field is in the domain of its own Reset entry: SLOT and RBI at P, every other field at K. -/
def NVC_KSTAT : Nat := 0x40A00000
/-- [31:31]. -/ def NVC_KSTAT.KDONE : FRef := ⟨NVC_KSTAT, 31, 31⟩
/-- [30:30]. -/ def NVC_KSTAT.REC : FRef := ⟨NVC_KSTAT, 30, 30⟩
/-- [29:29]. -/ def NVC_KSTAT.OPEN : FRef := ⟨NVC_KSTAT, 29, 29⟩
/-- [28:28]. -/ def NVC_KSTAT.FALLBACK : FRef := ⟨NVC_KSTAT, 28, 28⟩
/-- [27:27]. -/ def NVC_KSTAT.TORN : FRef := ⟨NVC_KSTAT, 27, 27⟩
/-- [26:26]. -/ def NVC_KSTAT.HELD : FRef := ⟨NVC_KSTAT, 26, 26⟩
/-- [24:24]. -/ def NVC_KSTAT.SLOT : FRef := ⟨NVC_KSTAT, 24, 24⟩
/-- [23:16]. -/ def NVC_KSTAT.RBI : FRef := ⟨NVC_KSTAT, 23, 16⟩
/-- [15:12]. -/ def NVC_KSTAT.CBLK : FRef := ⟨NVC_KSTAT, 15, 12⟩
/-- [7:0]. -/ def NVC_KSTAT.RESULT : FRef := ⟨NVC_KSTAT, 7, 0⟩
/-- NVC_KIMG: IVER of the image in use. -/
def NVC_KIMG : Nat := 0x40A00004
/-- [31:0]. -/ def NVC_KIMG.IVER : FRef := ⟨NVC_KIMG, 31, 0⟩
/-- NVC_KSKIP: Skipped settings. -/
def NVC_KSKIP : Nat := 0x40A00008
/-- [15:0]. -/ def NVC_KSKIP.COUNT : FRef := ⟨NVC_KSKIP, 15, 0⟩
/-- NVC_KCTL: Re-Kindle, slot write enable. -/
def NVC_KCTL : Nat := 0x40A0000C
/-- [31:16]. -/ def NVC_KCTL.KEY : FRef := ⟨NVC_KCTL, 31, 16⟩
/-- [0:0]. -/ def NVC_KCTL.SLOTWE : FRef := ⟨NVC_KCTL, 0, 0⟩
/-- NVC_SETTAB: Settings table address. -/
def NVC_SETTAB : Nat := 0x40A00010
/-- [31:4]. -/ def NVC_SETTAB.ADDR : FRef := ⟨NVC_SETTAB, 31, 4⟩
/-- NVC_FL_INFO: Discovered flash. -/
def NVC_FL_INFO : Nat := 0x40A00014
/-- [31:27]. -/ def NVC_FL_INFO.DENSLOG2 : FRef := ⟨NVC_FL_INFO, 31, 27⟩
/-- [26:22]. -/ def NVC_FL_INFO.ERLOG2 : FRef := ⟨NVC_FL_INFO, 26, 22⟩
/-- [21:17]. -/ def NVC_FL_INFO.PAGELOG2 : FRef := ⟨NVC_FL_INFO, 21, 17⟩
/-- [16:16]. -/ def NVC_FL_INFO.SUSP : FRef := ⟨NVC_FL_INFO, 16, 16⟩
/-- [15:8]. -/ def NVC_FL_INFO.CLKMHZ : FRef := ⟨NVC_FL_INFO, 15, 8⟩
/-- [2:0]. -/ def NVC_FL_INFO.MODE : FRef := ⟨NVC_FL_INFO, 2, 0⟩
/-- NVC_FCMD: Flash command. -/
def NVC_FCMD : Nat := 0x40A00020
/-- [31:28]. -/ def NVC_FCMD.OP : FRef := ⟨NVC_FCMD, 31, 28⟩
/-- [27:27]. -/ def NVC_FCMD.SRC : FRef := ⟨NVC_FCMD, 27, 27⟩
/-- [26:26]. -/ def NVC_FCMD.HALF : FRef := ⟨NVC_FCMD, 26, 26⟩
/-- NVC_FADDR: Flash address. -/
def NVC_FADDR : Nat := 0x40A00024
/-- [28:0]. -/ def NVC_FADDR.ADDR : FRef := ⟨NVC_FADDR, 28, 0⟩
/-- NVC_FSRAM: System SRAM address. -/
def NVC_FSRAM : Nat := 0x40A00028
/-- [31:2]. -/ def NVC_FSRAM.ADDR : FRef := ⟨NVC_FSRAM, 31, 2⟩
/-- NVC_FLEN: Length. -/
def NVC_FLEN : Nat := 0x40A0002C
/-- [24:0]. -/ def NVC_FLEN.LEN : FRef := ⟨NVC_FLEN, 24, 0⟩
/-- NVC_FSTAT: Command status. -/
def NVC_FSTAT : Nat := 0x40A00030
/-- [31:31]. -/ def NVC_FSTAT.BUSY : FRef := ⟨NVC_FSTAT, 31, 31⟩
/-- [30:30]. -/ def NVC_FSTAT.DEFER : FRef := ⟨NVC_FSTAT, 30, 30⟩
/-- [29:29]. -/ def NVC_FSTAT.SUSPENDED : FRef := ⟨NVC_FSTAT, 29, 29⟩
/-- [28:28]. -/ def NVC_FSTAT.WIGN : FRef := ⟨NVC_FSTAT, 28, 28⟩
/-- [3:0]. -/ def NVC_FSTAT.RESULT : FRef := ⟨NVC_FSTAT, 3, 0⟩
/-- NVC_J_OFS: JOFS. -/
def NVC_J_OFS : Nat := 0x40A00040
/-- [31:0]. -/ def NVC_J_OFS.OFS : FRef := ⟨NVC_J_OFS, 31, 0⟩
/-- NVC_J_SIZE: JSIZE. -/
def NVC_J_SIZE : Nat := 0x40A00044
/-- [23:0]. -/ def NVC_J_SIZE.SIZE : FRef := ⟨NVC_J_SIZE, 23, 0⟩
/-- NVC_J_STAT: Journal state. -/
def NVC_J_STAT : Nat := 0x40A00048
/-- [31:31]. -/ def NVC_J_STAT.ACT : FRef := ⟨NVC_J_STAT, 31, 31⟩
/-- [30:30]. -/ def NVC_J_STAT.STALE : FRef := ⟨NVC_J_STAT, 30, 30⟩
/-- [29:29]. -/ def NVC_J_STAT.JERR : FRef := ⟨NVC_J_STAT, 29, 29⟩
/-- [28:28]. -/ def NVC_J_STAT.FULL : FRef := ⟨NVC_J_STAT, 28, 28⟩
/-- NVC_J_FILL: Fill offset. -/
def NVC_J_FILL (h : Nat) : Nat := 0x40A00050 + 0x4 * h
/-- [22:0]. -/ def NVC_J_FILL.FILL (h : Nat) : FRef := ⟨NVC_J_FILL h, 22, 0⟩
/-- NVC_J_GEN: Generation. -/
def NVC_J_GEN (h : Nat) : Nat := 0x40A00058 + 0x4 * h
/-- [31:0]. -/ def NVC_J_GEN.GEN (h : Nat) : FRef := ⟨NVC_J_GEN h, 31, 0⟩
/-- NVC_J_SEQ: Next SEQ. -/
def NVC_J_SEQ (h : Nat) : Nat := 0x40A00060 + 0x4 * h
/-- [31:0]. -/ def NVC_J_SEQ.SEQ (h : Nat) : FRef := ⟨NVC_J_SEQ h, 31, 0⟩
/-- NVC_MR_HEAD: Ring head index. -/
def NVC_MR_HEAD : Nat := 0x40A00080
/-- [13:0]. -/ def NVC_MR_HEAD.HEAD : FRef := ⟨NVC_MR_HEAD, 13, 0⟩
/-- NVC_MR_SEQ: Next MRAM SEQ. -/
def NVC_MR_SEQ : Nat := 0x40A00084
/-- [31:0]. -/ def NVC_MR_SEQ.SEQ : FRef := ⟨NVC_MR_SEQ, 31, 0⟩
/-- NVC_MR_POST: Firmware record. -/
def NVC_MR_POST (i : Nat) : Nat := 0x40A00090 + 0x4 * i
/-- [31:0]. -/ def NVC_MR_POST.WORD (i : Nat) : FRef := ⟨NVC_MR_POST i, 31, 0⟩
/-- NVC_MR_POST_3: Firmware record. -/
def NVC_MR_POST_3 : Nat := 0x40A0009C
/-- [0:0]. -/ def NVC_MR_POST_3.POST : FRef := ⟨NVC_MR_POST_3, 0, 0⟩
/-- NVC_RBUF: Recovery buffer. -/
def NVC_RBUF (w : Nat) : Nat := 0x40A01000 + 0x4 * w
/-- [31:0]. -/ def NVC_RBUF.WORD (w : Nat) : FRef := ⟨NVC_RBUF w, 31, 0⟩
/-- OTP_STAT: Status. -/
def OTP_STAT : Nat := 0x40F00000
/-- [31:31]. -/ def OTP_STAT.BUSY : FRef := ⟨OTP_STAT, 31, 31⟩
/-- [30:30]. -/ def OTP_STAT.WIGN : FRef := ⟨OTP_STAT, 30, 30⟩
/-- [29:29]. -/ def OTP_STAT.UNC : FRef := ⟨OTP_STAT, 29, 29⟩
/-- [2:0]. -/ def OTP_STAT.RESULT : FRef := ⟨OTP_STAT, 2, 0⟩
/-- OTP_CMD: Command. -/
def OTP_CMD : Nat := 0x40F00004
/-- [31:28]. -/ def OTP_CMD.OP : FRef := ⟨OTP_CMD, 31, 28⟩
/-- [7:0]. -/ def OTP_CMD.WORD : FRef := ⟨OTP_CMD, 7, 0⟩
/-- OTP_DATA: Bits to program. -/
def OTP_DATA : Nat := 0x40F00008
/-- [31:0]. -/ def OTP_DATA.DATA : FRef := ⟨OTP_DATA, 31, 0⟩
/-- OTP_RBC: Rollback count. -/
def OTP_RBC : Nat := 0x40F0000C
/-- [7:0]. -/ def OTP_RBC.COUNT : FRef := ⟨OTP_RBC, 7, 0⟩
/-- OTP_LOCKS: Lock word. -/
def OTP_LOCKS : Nat := 0x40F00010
/-- [31:0]. -/ def OTP_LOCKS.LOCKS : FRef := ⟨OTP_LOCKS, 31, 0⟩
/-- OTP_UID: Device-unique value. -/
def OTP_UID : Nat := 0x40F00014
/-- [31:0]. -/ def OTP_UID.UID : FRef := ⟨OTP_UID, 31, 0⟩
/-- OTP_WORD: Shadow words. -/
def OTP_WORD (w : Nat) : Nat := 0x40F00400 + 0x4 * w
/-- [31:0]. -/ def OTP_WORD.WORD (w : Nat) : FRef := ⟨OTP_WORD w, 31, 0⟩
/-- PMU_STAT: Mode, dip, refusals. -/
def PMU_STAT : Nat := 0x40B00000
/-- [15:12]. -/ def PMU_STAT.REFUSE : FRef := ⟨PMU_STAT, 15, 12⟩
/-- [11:11]. -/ def PMU_STAT.HOLDLIM : FRef := ⟨PMU_STAT, 11, 11⟩
/-- [10:10]. -/ def PMU_STAT.DEFER : FRef := ⟨PMU_STAT, 10, 10⟩
/-- [9:9]. -/ def PMU_STAT.DIP : FRef := ⟨PMU_STAT, 9, 9⟩
/-- [7:5]. -/ def PMU_STAT.DIPSUP : FRef := ⟨PMU_STAT, 7, 5⟩
/-- [2:0]. -/ def PMU_STAT.MODE : FRef := ⟨PMU_STAT, 2, 0⟩
/-- PMU_CTL: Mode requests. -/
def PMU_CTL : Nat := 0x40B00004
/-- [8:8]. -/ def PMU_CTL.QEXIT : FRef := ⟨PMU_CTL, 8, 8⟩
/-- [4:4]. -/ def PMU_CTL.EMBER_REQ : FRef := ⟨PMU_CTL, 4, 4⟩
/-- [0:0]. -/ def PMU_CTL.HOLD_REQ : FRef := ⟨PMU_CTL, 0, 0⟩
/-- PMU_KCFG: Behaviour of reset K. -/
def PMU_KCFG : Nat := 0x40B00008
/-- [0:0]. -/ def PMU_KCFG.KRAIL : FRef := ⟨PMU_KCFG, 0, 0⟩
/-- PMU_RSTINFO: Last reset and wake. -/
def PMU_RSTINFO : Nat := 0x40B0000C
/-- [23:16]. -/ def PMU_RSTINFO.WAKESRC : FRef := ⟨PMU_RSTINFO, 23, 16⟩
/-- [11:11]. -/ def PMU_RSTINFO.PERSTW : FRef := ⟨PMU_RSTINFO, 11, 11⟩
/-- [10:8]. -/ def PMU_RSTINFO.BSUP : FRef := ⟨PMU_RSTINFO, 10, 8⟩
/-- [3:0]. -/ def PMU_RSTINFO.LAST : FRef := ⟨PMU_RSTINFO, 3, 0⟩
/-- PMU_HOLD_LIM: Hold time limit. -/
def PMU_HOLD_LIM : Nat := 0x40B00010
/-- [15:0]. -/ def PMU_HOLD_LIM.LIMIT : FRef := ⟨PMU_HOLD_LIM, 15, 0⟩
/-- PMU_DIP_CFG: Dip filter and exit delay. -/
def PMU_DIP_CFG : Nat := 0x40B00014
/-- [23:16]. -/ def PMU_DIP_CFG.EXITDLY : FRef := ⟨PMU_DIP_CFG, 23, 16⟩
/-- [7:0]. -/ def PMU_DIP_CFG.FILT : FRef := ⟨PMU_DIP_CFG, 7, 0⟩
/-- PMU_VMIN: Lowest supply level. -/
def PMU_VMIN (s : Nat) : Nat := 0x40B00020 + 0x4 * s
/-- [15:0]. -/ def PMU_VMIN.MV (s : Nat) : FRef := ⟨PMU_VMIN s, 15, 0⟩
/-- PMU_ETMR: Ember timer count. -/
def PMU_ETMR : Nat := 0x40B00040
/-- [31:0]. -/ def PMU_ETMR.COUNT : FRef := ⟨PMU_ETMR, 31, 0⟩
/-- PMU_ETMR_CMP: Ember timer compare. -/
def PMU_ETMR_CMP : Nat := 0x40B00044
/-- [31:0]. -/ def PMU_ETMR_CMP.CMP : FRef := ⟨PMU_ETMR_CMP, 31, 0⟩
/-- PMU_ETMR_CTL: Ember timer enable. -/
def PMU_ETMR_CTL : Nat := 0x40B00048
/-- [0:0]. -/ def PMU_ETMR_CTL.EN : FRef := ⟨PMU_ETMR_CTL, 0, 0⟩
/-- PMU_WAKE_EN: Wake enables. -/
def PMU_WAKE_EN : Nat := 0x40B00050
/-- [8:8]. -/ def PMU_WAKE_EN.PERST : FRef := ⟨PMU_WAKE_EN, 8, 8⟩
/-- [7:0]. -/ def PMU_WAKE_EN.FAB : FRef := ⟨PMU_WAKE_EN, 7, 0⟩
/-- PMU_WDT_CTL: Watchdog. -/
def PMU_WDT_CTL : Nat := 0x40B00060
/-- [31:31]. -/ def PMU_WDT_CTL.EN : FRef := ⟨PMU_WDT_CTL, 31, 31⟩
/-- [15:0]. -/ def PMU_WDT_CTL.TIMEOUT : FRef := ⟨PMU_WDT_CTL, 15, 0⟩
/-- PMU_WDT_KICK: Watchdog reload. -/
def PMU_WDT_KICK : Nat := 0x40B00064
/-- [15:0]. -/ def PMU_WDT_KICK.KEY : FRef := ⟨PMU_WDT_KICK, 15, 0⟩
/-- PMU_WDT_CNT: Watchdog count. -/
def PMU_WDT_CNT : Nat := 0x40B00068
/-- [15:0]. -/ def PMU_WDT_CNT.COUNT : FRef := ⟨PMU_WDT_CNT, 15, 0⟩
/-- MFU_CAP: Channel count. -/
def MFU_CAP : Nat := 0x40C00000
/-- [3:0]. -/ def MFU_CAP.NCH : FRef := ⟨MFU_CAP, 3, 0⟩
/-- MFU_STAT: Ignored writes. -/
def MFU_STAT : Nat := 0x40C00004
/-- [0:0]. -/ def MFU_STAT.WIGN : FRef := ⟨MFU_STAT, 0, 0⟩
/-- MFU_CH_CFG: Mode, filter, function. -/
def MFU_CH_CFG (m : Nat) : Nat := 0x40C01000 + 0x100 * m
/-- [31:31]. -/ def MFU_CH_CFG.EN (m : Nat) : FRef := ⟨MFU_CH_CFG m, 31, 31⟩
/-- [30:28]. -/ def MFU_CH_CFG.MODE (m : Nat) : FRef := ⟨MFU_CH_CFG m, 30, 28⟩
/-- [27:27]. -/ def MFU_CH_CFG.HYST (m : Nat) : FRef := ⟨MFU_CH_CFG m, 27, 27⟩
/-- [26:26]. -/ def MFU_CH_CFG.DIRINV (m : Nat) : FRef := ⟨MFU_CH_CFG m, 26, 26⟩
/-- [25:25]. -/ def MFU_CH_CFG.FUNC (m : Nat) : FRef := ⟨MFU_CH_CFG m, 25, 25⟩
/-- [24:24]. -/ def MFU_CH_CFG.LATSRC (m : Nat) : FRef := ⟨MFU_CH_CFG m, 24, 24⟩
/-- [23:22]. -/ def MFU_CH_CFG.LATEDGE (m : Nat) : FRef := ⟨MFU_CH_CFG m, 23, 22⟩
/-- [19:16]. -/ def MFU_CH_CFG.FILT (m : Nat) : FRef := ⟨MFU_CH_CFG m, 19, 16⟩
/-- [4:0]. -/ def MFU_CH_CFG.IEN (m : Nat) : FRef := ⟨MFU_CH_CFG m, 4, 0⟩
/-- MFU_CH_STAT: Flags. -/
def MFU_CH_STAT (m : Nat) : Nat := 0x40C01004 + 0x100 * m
/-- [31:31]. -/ def MFU_CH_STAT.FBACT (m : Nat) : FRef := ⟨MFU_CH_STAT m, 31, 31⟩
/-- [30:30]. -/ def MFU_CH_STAT.STALL (m : Nat) : FRef := ⟨MFU_CH_STAT m, 30, 30⟩
/-- [29:29]. -/ def MFU_CH_STAT.LATV (m : Nat) : FRef := ⟨MFU_CH_STAT m, 29, 29⟩
/-- [28:28]. -/ def MFU_CH_STAT.LATOVR (m : Nat) : FRef := ⟨MFU_CH_STAT m, 28, 28⟩
/-- [27:27]. -/ def MFU_CH_STAT.CMPEND (m : Nat) : FRef := ⟨MFU_CH_STAT m, 27, 27⟩
/-- [26:26]. -/ def MFU_CH_STAT.HALLERR (m : Nat) : FRef := ⟨MFU_CH_STAT m, 26, 26⟩
/-- [25:25]. -/ def MFU_CH_STAT.QERR (m : Nat) : FRef := ⟨MFU_CH_STAT m, 25, 25⟩
/-- [24:24]. -/ def MFU_CH_STAT.WOVF (m : Nat) : FRef := ⟨MFU_CH_STAT m, 24, 24⟩
/-- [23:23]. -/ def MFU_CH_STAT.DIR (m : Nat) : FRef := ⟨MFU_CH_STAT m, 23, 23⟩
/-- [2:0]. -/ def MFU_CH_STAT.HALL (m : Nat) : FRef := ⟨MFU_CH_STAT m, 2, 0⟩
/-- MFU_CH_POS: Position. -/
def MFU_CH_POS (m : Nat) : Nat := 0x40C01008 + 0x100 * m
/-- [31:0]. -/ def MFU_CH_POS.POS (m : Nat) : FRef := ⟨MFU_CH_POS m, 31, 0⟩
/-- MFU_CH_WRAPS: Wrap tally snapshot. -/
def MFU_CH_WRAPS (m : Nat) : Nat := 0x40C0100C + 0x100 * m
/-- [15:0]. -/ def MFU_CH_WRAPS.NET (m : Nat) : FRef := ⟨MFU_CH_WRAPS m, 15, 0⟩
/-- MFU_CH_LATPOS: Latched position. -/
def MFU_CH_LATPOS (m : Nat) : Nat := 0x40C01010 + 0x100 * m
/-- [31:0]. -/ def MFU_CH_LATPOS.POS (m : Nat) : FRef := ⟨MFU_CH_LATPOS m, 31, 0⟩
/-- MFU_CH_LATTBC: Latch time. -/
def MFU_CH_LATTBC (m : Nat) : Nat := 0x40C01014 + 0x100 * m
/-- [31:8]. -/ def MFU_CH_LATTBC.TBC (m : Nat) : FRef := ⟨MFU_CH_LATTBC m, 31, 8⟩
/-- [7:0]. -/ def MFU_CH_LATTBC.SUB (m : Nat) : FRef := ⟨MFU_CH_LATTBC m, 7, 0⟩
/-- MFU_CH_SPDCFG: Speed update and stall. -/
def MFU_CH_SPDCFG (m : Nat) : Nat := 0x40C01018 + 0x100 * m
/-- [31:16]. -/ def MFU_CH_SPDCFG.STALL_US (m : Nat) : FRef := ⟨MFU_CH_SPDCFG m, 31, 16⟩
/-- [15:0]. -/ def MFU_CH_SPDCFG.UPDT (m : Nat) : FRef := ⟨MFU_CH_SPDCFG m, 15, 0⟩
/-- MFU_CH_SPD: Speed. -/
def MFU_CH_SPD (m : Nat) : Nat := 0x40C0101C + 0x100 * m
/-- [31:0]. -/ def MFU_CH_SPD.SPD (m : Nat) : FRef := ⟨MFU_CH_SPD m, 31, 0⟩
/-- MFU_CH_DRV: Drive configuration. -/
def MFU_CH_DRV (m : Nat) : Nat := 0x40C01020 + 0x100 * m
/-- [31:31]. -/ def MFU_CH_DRV.OSRC (m : Nat) : FRef := ⟨MFU_CH_DRV m, 31, 31⟩
/-- [30:30]. -/ def MFU_CH_DRV.BIPOLAR (m : Nat) : FRef := ⟨MFU_CH_DRV m, 30, 30⟩
/-- [29:29]. -/ def MFU_CH_DRV.DIRREG (m : Nat) : FRef := ⟨MFU_CH_DRV m, 29, 29⟩
/-- [28:28]. -/ def MFU_CH_DRV.DIRPOL (m : Nat) : FRef := ⟨MFU_CH_DRV m, 28, 28⟩
/-- [27:24]. -/ def MFU_CH_DRV.OSHIFT (m : Nat) : FRef := ⟨MFU_CH_DRV m, 27, 24⟩
/-- [15:0]. -/ def MFU_CH_DRV.PWMPER (m : Nat) : FRef := ⟨MFU_CH_DRV m, 15, 0⟩
/-- MFU_CH_CMD: Register command. -/
def MFU_CH_CMD (m : Nat) : Nat := 0x40C01024 + 0x100 * m
/-- [31:0]. -/ def MFU_CH_CMD.CMD (m : Nat) : FRef := ⟨MFU_CH_CMD m, 31, 0⟩
/-- MFU_CH_MAXD: Duty limit. -/
def MFU_CH_MAXD (m : Nat) : Nat := 0x40C01028 + 0x100 * m
/-- [15:0]. -/ def MFU_CH_MAXD.MAXD (m : Nat) : FRef := ⟨MFU_CH_MAXD m, 15, 0⟩
/-- MFU_CH_FB: Fallback command. -/
def MFU_CH_FB (m : Nat) : Nat := 0x40C0102C + 0x100 * m
/-- [31:0]. -/ def MFU_CH_FB.FBD (m : Nat) : FRef := ⟨MFU_CH_FB m, 31, 0⟩
/-- MFU_CH_DUTY: Duty in use. -/
def MFU_CH_DUTY (m : Nat) : Nat := 0x40C01030 + 0x100 * m
/-- [31:0]. -/ def MFU_CH_DUTY.D (m : Nat) : FRef := ⟨MFU_CH_DUTY m, 31, 0⟩
/-- MFU_CH_CMPCTL: Compare list control. -/
def MFU_CH_CMPCTL (m : Nat) : Nat := 0x40C01034 + 0x100 * m
/-- [31:31]. -/ def MFU_CH_CMPCTL.CYCLIC (m : Nat) : FRef := ⟨MFU_CH_CMPCTL m, 31, 31⟩
/-- [29:28]. -/ def MFU_CH_CMPCTL.CMPDIR (m : Nat) : FRef := ⟨MFU_CH_CMPCTL m, 29, 28⟩
/-- [11:8]. -/ def MFU_CH_CMPCTL.NEXT (m : Nat) : FRef := ⟨MFU_CH_CMPCTL m, 11, 8⟩
/-- [4:0]. -/ def MFU_CH_CMPCTL.CMPCNT (m : Nat) : FRef := ⟨MFU_CH_CMPCTL m, 4, 0⟩
/-- MFU_CH_CMP: Compare entries. -/
def MFU_CH_CMP (m : Nat) (i : Nat) : Nat := 0x40C01040 + 0x100 * m + 0x4 * i
/-- [31:0]. -/ def MFU_CH_CMP.POS (m : Nat) (i : Nat) : FRef := ⟨MFU_CH_CMP m i, 31, 0⟩

end Sys2Proof.Machine
end

