-- ==== Sys2Proof/Machine/RegTab.lean ====
section
/-! DEFINITION. The register tables of the spec, block by block: every register with its world, fields, access codes, reset values and domains. -/

namespace Sys2Proof.Machine

/-- Registers TBU_CTL to TBU_CMP_LO (02). -/
def tbuRegs0 : List RegSpec := [
  -- TBU_CTL
  ⟨0x40E00000, [], true, [
     ⟨1, 1, .rw, 0x0, .p, 0, []⟩,
     ⟨0, 0, .rw, 0x0, .p, 0, []⟩]⟩,
  -- TBU_STAT
  ⟨0x40E00004, [], false, [
     ⟨6, 6, .ro, 0x0, .p, 0, []⟩,
     ⟨5, 5, .ro, 0x0, .p, 0, []⟩,
     ⟨4, 4, .ro, 0x0, .p, 0, []⟩,
     ⟨3, 3, .w1c, 0x0, .p, 0, []⟩,
     ⟨2, 2, .ro, 0x0, .p, 0, []⟩,
     ⟨1, 1, .ro, 0x0, .p, 0, []⟩,
     ⟨0, 0, .ro, 0x0, .p, 0, []⟩]⟩,
  -- TBU_SUB_SNAP
  ⟨0x40E00008, [], false, [
     ⟨31, 31, .ro, 0x0, .p, 0, []⟩,
     ⟨7, 0, .ro, 0x0, .p, 0, []⟩]⟩,
  -- TBU_TBC_LO
  ⟨0x40E00010, [], false, [
     ⟨31, 0, .ro, 0x0, .p, 0, []⟩]⟩,
  -- TBU_TBC_HI_SNAP
  ⟨0x40E00014, [], false, [
     ⟨31, 0, .ro, 0x0, .p, 0, []⟩]⟩,
  -- TBU_BGC_LO
  ⟨0x40E00018, [], false, [
     ⟨31, 0, .ro, 0x0, .p, 0, []⟩]⟩,
  -- TBU_BGC_HI_SNAP
  ⟨0x40E0001C, [], false, [
     ⟨31, 0, .ro, 0x0, .p, 0, []⟩]⟩,
  -- TBU_FOFS_LO_SNAP
  ⟨0x40E00020, [], false, [
     ⟨31, 0, .ro, 0x0, .p, 0, []⟩]⟩,
  -- TBU_FOFS_HI_SNAP
  ⟨0x40E00024, [], false, [
     ⟨31, 0, .ro, 0x0, .p, 0, []⟩]⟩,
  -- TBU_PHERR
  ⟨0x40E00028, [], false, [
     ⟨15, 0, .ro, 0x0, .p, 0, []⟩]⟩,
  -- TBU_HOLD_LIM
  ⟨0x40E00030, [], true, [
     ⟨19, 0, .rw, 0x3E8, .p, 0, [(1, 1048575)]⟩]⟩,
  -- TBU_CMP_LO
  ⟨0x40E00040, [(8, 0x8)], false, [
     ⟨31, 0, .rw, 0x0, .k, 0, []⟩]⟩]

/-- Registers TBU_CMP_HI to TBU_CMP_CTL (02). -/
def tbuRegs1 : List RegSpec := [
  -- TBU_CMP_HI
  ⟨0x40E00044, [(8, 0x8)], false, [
     ⟨31, 0, .rw, 0x0, .k, 0, []⟩]⟩,
  -- TBU_CMP_CTL
  ⟨0x40E00080, [], false, [
     ⟨7, 0, .rw, 0x0, .k, 0, []⟩]⟩]

/-- Every register of the block (02). -/
def tbuRegs : List RegSpec := tbuRegs0 ++ tbuRegs1

/-- Registers FLK_CTL to FLK_RX_BASE (02). -/
def flkRegs0 : List RegSpec := [
  -- FLK_CTL
  ⟨0x40D00000, [], true, [
     ⟨15, 8, .rw, 0xFF, .p, 0, []⟩,
     ⟨3, 3, .rw, 0x0, .p, 0, []⟩,
     ⟨2, 0, .rw, 0x0, .p, 0, []⟩]⟩,
  -- FLK_DEV_ID
  ⟨0x40D00004, [], true, [
     ⟨9, 0, .rw, 0x0, .p, 0, []⟩]⟩,
  -- FLK_STAT
  ⟨0x40D00008, [], false, [
     ⟨28, 28, .ro, 0x0, .p, 0, []⟩,
     ⟨27, 27, .w1c, 0x0, .p, 0, []⟩,
     ⟨26, 26, .ro, 0x1, .p, 0, []⟩,
     ⟨25, 24, .ro, 0x0, .p, 0, []⟩,
     ⟨20, 16, .ro, 0x0, .p, 0, []⟩,
     ⟨9, 0, .ro, 0x0, .p, 0, []⟩]⟩,
  -- FLK_COMMIT
  ⟨0x40D0000C, [], true, [
     ⟨3, 1, .ro, 0x0, .p, 0, []⟩,
     ⟨0, 0, .rw, 0x0, .p, 0, []⟩]⟩,
  -- FLK_PORT_STAT
  ⟨0x40D00010, [(3, 0x4)], false, [
     ⟨19, 4, .ro, 0x0, .p, 0, []⟩,
     ⟨2, 0, .ro, 0x0, .p, 0, []⟩]⟩,
  -- FLK_PORT_ERR
  ⟨0x40D00020, [(3, 0x4)], false, [
     ⟨31, 16, .rc, 0x0, .p, 0, []⟩,
     ⟨15, 0, .rc, 0x0, .p, 0, []⟩]⟩,
  -- FLK_SPAN
  ⟨0x40D00040, [(6, 0x4)], true, [
     ⟨31, 31, .rwl, 0x0, .p, 0, []⟩,
     ⟨30, 30, .rwl, 0x0, .p, 0, []⟩,
     ⟨29, 28, .rwl, 0x0, .p, 0, []⟩,
     ⟨27, 26, .rwl, 0x0, .p, 0, [(0, 2)]⟩,
     ⟨25, 23, .rwl, 0x0, .p, 0, []⟩,
     ⟨14, 14, .ro, 0x0, .p, 0, []⟩,
     ⟨13, 13, .wo, 0x0, .p, 0, []⟩,
     ⟨12, 8, .rwl, 0x0, .p, 0, []⟩,
     ⟨7, 0, .rwl, 0x0, .p, 0, []⟩]⟩,
  -- FLK_TX_BASE
  ⟨0x40D00080, [], true, [
     ⟨31, 7, .rw, 0x0, .k, 0, []⟩]⟩,
  -- FLK_TX_SIZE
  ⟨0x40D00084, [], true, [
     ⟨4, 0, .rw, 0x4, .k, 0, [(4, 12)]⟩]⟩,
  -- FLK_TX_HEAD
  ⟨0x40D00088, [], false, [
     ⟨11, 0, .ro, 0x0, .k, 0, []⟩]⟩,
  -- FLK_TX_TAIL
  ⟨0x40D0008C, [], false, [
     ⟨11, 0, .rw, 0x0, .k, 0, []⟩]⟩,
  -- FLK_RX_BASE
  ⟨0x40D00090, [], true, [
     ⟨31, 7, .rw, 0x0, .k, 0, []⟩]⟩]

/-- Registers FLK_RX_SIZE to FLK_MSG_DROP (02). -/
def flkRegs1 : List RegSpec := [
  -- FLK_RX_SIZE
  ⟨0x40D00094, [], true, [
     ⟨4, 0, .rw, 0x4, .k, 0, [(4, 12)]⟩]⟩,
  -- FLK_RX_HEAD
  ⟨0x40D00098, [], false, [
     ⟨11, 0, .ro, 0x0, .k, 0, []⟩]⟩,
  -- FLK_RX_TAIL
  ⟨0x40D0009C, [], false, [
     ⟨11, 0, .rw, 0x0, .k, 0, []⟩]⟩,
  -- FLK_MSG_DROP
  ⟨0x40D000A0, [], false, [
     ⟨31, 0, .rc, 0x0, .k, 0, []⟩]⟩]

/-- Every register of the block (02). -/
def flkRegs : List RegSpec := flkRegs0 ++ flkRegs1

/-- Registers PHA_CAP to PHA_GOV (03 R86). -/
def phaRegs0 : List RegSpec := [
  -- PHA_CAP
  ⟨0x40100000, [], false, [
     ⟨21, 16, .ro, 0x20, .c, 0, []⟩,
     ⟨11, 8, .ro, 0x9, .c, 0, []⟩,
     ⟨7, 0, .ro, 0x90, .c, 0, []⟩]⟩,
  -- PHA_STAT
  ⟨0x40100004, [], false, [
     ⟨2, 2, .w1c, 0x0, .p, 0, []⟩,
     ⟨1, 1, .w1c, 0x0, .p, 0, []⟩,
     ⟨0, 0, .ro, 0x0, .p, 0, []⟩]⟩,
  -- PHA_COMMIT
  ⟨0x40100008, [], true, [
     ⟨16, 16, .ro, 0x0, .p, 0, []⟩,
     ⟨15, 8, .ro, 0x0, .p, 0, []⟩,
     ⟨3, 1, .ro, 0x0, .p, 0, []⟩,
     ⟨0, 0, .rw, 0x0, .p, 0, []⟩]⟩,
  -- PHA_PH_CMD
  ⟨0x4010000C, [], true, [
     ⟨19, 16, .wo, 0x0, .p, 0, []⟩,
     ⟨7, 0, .wo, 0x0, .p, 0, []⟩]⟩,
  -- PHA_SEN
  ⟨0x40100010, [], true, [
     ⟨27, 16, .rw, 0x64, .p, 0, []⟩,
     ⟨8, 0, .rw, 0x0, .p, 0, []⟩]⟩,
  -- PHA_FAIL_SUM
  ⟨0x40100040, [(5, 0x4)], false, [
     ⟨31, 0, .ro, 0x0, .p, 0, []⟩]⟩,
  -- PHA_OC_SUM
  ⟨0x40100060, [(5, 0x4)], false, [
     ⟨31, 0, .w1c, 0x0, .p, 0, []⟩]⟩,
  -- PHA_RAIL_CFG
  ⟨0x40101000, [(32, 0x40)], true, [
     ⟨11, 8, .rwl, 0x0, .p, 0, []⟩,
     ⟨4, 4, .rwl, 0x0, .p, 0, []⟩,
     ⟨3, 3, .rwl, 0x0, .p, 0, []⟩,
     ⟨2, 2, .rwl, 0x0, .p, 0, []⟩,
     ⟨1, 0, .rwl, 0x0, .p, 0, [(0, 2)]⟩]⟩,
  -- PHA_RAIL_PER
  ⟨0x40101004, [(32, 0x40)], true, [
     ⟨19, 0, .rw, 0xFA00, .p, 0, [(16000, 256000)]⟩]⟩,
  -- PHA_RAIL_STAT
  ⟨0x40101008, [(32, 0x40)], false, [
     ⟨31, 24, .ro, 0x0, .p, 0, []⟩,
     ⟨23, 16, .ro, 0x0, .p, 0, []⟩,
     ⟨15, 8, .ro, 0x0, .p, 0, []⟩,
     ⟨7, 0, .ro, 0x0, .p, 0, []⟩]⟩,
  -- PHA_RAIL_DUTY
  ⟨0x4010100C, [(32, 0x40)], false, [
     ⟨23, 0, .ro, 0x0, .p, 0, []⟩]⟩,
  -- PHA_GOV
  ⟨0x40101010, [(32, 0x40)], true, [
     ⟨29, 24, .rw, 0x8, .p, 0, []⟩,
     ⟨23, 16, .rw, 0x90, .p, 0, []⟩,
     ⟨15, 8, .rw, 0x1, .p, 0, []⟩,
     ⟨0, 0, .rw, 0x1, .p, 0, []⟩]⟩]

/-- Registers PHA_GOV_TH to PHA_CH_TRIMV (03 R86). -/
def phaRegs1 : List RegSpec := [
  -- PHA_GOV_TH
  ⟨0x40101014, [(32, 0x40)], true, [
     ⟨31, 16, .rw, 0xA0, .p, 0, []⟩,
     ⟨15, 0, .rw, 0x1E0, .p, 0, []⟩]⟩,
  -- PHA_GOV_DW
  ⟨0x40101018, [(32, 0x40)], true, [
     ⟨31, 16, .rw, 0x4E20, .p, 0, [(1, 65535)]⟩,
     ⟨15, 0, .rw, 0x14, .p, 0, [(1, 65535)]⟩]⟩,
  -- PHA_GOV_HOLD
  ⟨0x4010101C, [(32, 0x40)], true, [
     ⟨15, 0, .rw, 0x7D0, .p, 0, []⟩]⟩,
  -- PHA_BAL
  ⟨0x40101020, [(32, 0x40)], true, [
     ⟨15, 0, .rw, 0x0, .p, 0, []⟩]⟩,
  -- PHA_CH_CFG
  ⟨0x40104000, [(144, 0x20)], true, [
     ⟨12, 12, .rw, 0x0, .p, 0, []⟩,
     ⟨11, 8, .rw, 0x0, .p, 0, []⟩,
     ⟨5, 5, .rwl, 0x0, .p, 0, []⟩,
     ⟨4, 0, .rwl, 0x0, .p, 0, []⟩]⟩,
  -- PHA_CH_LIM
  ⟨0x40104004, [(144, 0x20)], true, [
     ⟨31, 16, .rw, 0x500, .p, 0, []⟩,
     ⟨15, 0, .rw, 0x500, .p, 0, [(1280, 65535)]⟩]⟩,
  -- PHA_CH_MAXON
  ⟨0x40104008, [(144, 0x20)], true, [
     ⟨19, 0, .rw, 0x3E800, .p, 0, []⟩]⟩,
  -- PHA_CH_TRIM
  ⟨0x4010400C, [(144, 0x20)], true, [
     ⟨27, 16, .rw, 0x0, .p, 0, []⟩,
     ⟨11, 0, .rw, 0x280, .p, 0, []⟩]⟩,
  -- PHA_CH_OC
  ⟨0x40104010, [(144, 0x20)], true, [
     ⟨23, 16, .rw, 0x64, .p, 0, [(1, 255)]⟩,
     ⟨13, 8, .rw, 0x14, .p, 0, []⟩,
     ⟨7, 0, .rw, 0x0, .p, 0, []⟩]⟩,
  -- PHA_CH_PHOFS
  ⟨0x40104014, [(144, 0x20)], true, [
     ⟨19, 0, .rw, 0x0, .p, 0, []⟩]⟩,
  -- PHA_CH_STAT
  ⟨0x40104018, [(144, 0x20)], false, [
     ⟨31, 24, .ro, 0x0, .p, 0, []⟩,
     ⟨16, 16, .ro, 0x0, .p, 0, []⟩,
     ⟨15, 12, .ro, 0x0, .p, 0, []⟩,
     ⟨11, 11, .ro, 0x0, .p, 0, []⟩,
     ⟨10, 10, .w1c, 0x0, .p, 0, []⟩,
     ⟨9, 9, .w1c, 0x0, .p, 0, []⟩,
     ⟨8, 8, .w1c, 0x0, .p, 0, []⟩,
     ⟨7, 7, .ro, 0x0, .p, 0, []⟩,
     ⟨6, 4, .ro, 0x0, .p, 0, []⟩,
     ⟨2, 0, .ro, 0x0, .p, 0, []⟩]⟩,
  -- PHA_CH_TRIMV
  ⟨0x4010401C, [(144, 0x20)], false, [
     ⟨12, 0, .ro, 0x0, .p, 0, []⟩]⟩]

/-- Every register of the block (03 R86). -/
def phaRegs : List RegSpec := phaRegs0 ++ phaRegs1

/-- Registers SNS_CAP to SNS_CS_ZOFS (04). -/
def snsRegs0 : List RegSpec := [
  -- SNS_CAP
  ⟨0x40200000, [], false, [
     ⟨19, 16, .ro, 0x8, .c, 0, []⟩,
     ⟨13, 8, .ro, 0x20, .c, 0, []⟩,
     ⟨7, 0, .ro, 0x90, .c, 0, []⟩]⟩,
  -- SNS_STAT
  ⟨0x40200004, [], false, [
     ⟨3, 3, .w1c, 0x0, .p, 0, []⟩,
     ⟨2, 2, .w1c, 0x0, .p, 0, []⟩,
     ⟨1, 1, .ro, 0x0, .p, 0, []⟩,
     ⟨0, 0, .ro, 0x0, .p, 0, []⟩]⟩,
  -- SNS_CTL
  ⟨0x40200008, [], true, [
     ⟨2, 2, .rw, 0x0, .p, 0, []⟩,
     ⟨1, 1, .rw, 0x0, .p, 0, []⟩,
     ⟨0, 0, .rw, 0x1, .p, 0, []⟩]⟩,
  -- SNS_TERR_CNT
  ⟨0x4020000C, [], false, [
     ⟨31, 0, .rc, 0x0, .p, 0, []⟩]⟩,
  -- SNS_CAP_STAT
  ⟨0x40200010, [], false, [
     ⟨16, 16, .ro, 0x0, .k, 0, []⟩,
     ⟨13, 0, .ro, 0x0, .k, 0, []⟩]⟩,
  -- SNS_CAP_TBC_LO
  ⟨0x40200014, [], false, [
     ⟨31, 0, .ro, 0x0, .k, 0, []⟩]⟩,
  -- SNS_CAP_TBC_HI
  ⟨0x40200018, [], false, [
     ⟨31, 0, .ro, 0x0, .k, 0, []⟩]⟩,
  -- SNS_TINJ
  ⟨0x4020001C, [], true, [
     ⟨31, 31, .rw, 0x0, .p, 0, []⟩,
     ⟨8, 0, .rw, 0x0, .p, 0, [(0, 183)]⟩]⟩,
  -- SNS_TERR_SUM
  ⟨0x40200040, [(6, 0x4)], false, [
     ⟨31, 0, .w1c, 0x0, .p, 0, []⟩]⟩,
  -- SNS_VFR_SUM
  ⟨0x40200060, [], false, [
     ⟨31, 0, .ro, 0x0, .p, 0, []⟩]⟩,
  -- SNS_CS_GAIN
  ⟨0x40201000, [(144, 0x20)], true, [
     ⟨31, 0, .rw, 0xCCCCCD, .p, 0, []⟩]⟩,
  -- SNS_CS_ZOFS
  ⟨0x40201004, [(144, 0x20)], true, [
     ⟨31, 0, .rw, 0x0, .p, 0, []⟩]⟩]

/-- Registers SNS_CS_CFG to SNS_VIN_RATIO (04). -/
def snsRegs1 : List RegSpec := [
  -- SNS_CS_CFG
  ⟨0x40201008, [(144, 0x20)], true, [
     ⟨31, 16, .rw, 0x0, .p, 0, []⟩,
     ⟨10, 8, .rw, 0x0, .p, 0, []⟩,
     ⟨1, 1, .rw, 0x0, .p, 0, []⟩,
     ⟨0, 0, .rw, 0x0, .p, 0, []⟩]⟩,
  -- SNS_CS_GEFF
  ⟨0x4020100C, [(144, 0x20)], false, [
     ⟨31, 0, .ro, 0xCCCCCD, .p, 0, []⟩]⟩,
  -- SNS_CS_ZEFF
  ⟨0x40201010, [(144, 0x20)], false, [
     ⟨31, 0, .ro, 0x0, .p, 0, []⟩]⟩,
  -- SNS_CS_OFSEST
  ⟨0x40201014, [(144, 0x20)], false, [
     ⟨16, 16, .w1c, 0x0, .p, 0, []⟩,
     ⟨15, 0, .ro, 0x0, .p, 0, []⟩]⟩,
  -- SNS_CS_LEST
  ⟨0x40201018, [(144, 0x20)], false, [
     ⟨31, 16, .ro, 0x0, .p, 0, []⟩,
     ⟨15, 0, .ro, 0x0, .p, 0, []⟩]⟩,
  -- SNS_CS_LAST
  ⟨0x4020101C, [(144, 0x20)], false, [
     ⟨31, 0, .ro, 0x0, .p, 0, []⟩]⟩,
  -- SNS_VS_CFG
  ⟨0x40203000, [(32, 0x10)], true, [
     ⟨11, 8, .rw, 0x2, .p, 0, [(1, 15)]⟩,
     ⟨4, 4, .rw, 0x1, .p, 0, []⟩,
     ⟨3, 3, .rw, 0x0, .p, 0, []⟩,
     ⟨2, 0, .rw, 0x3, .p, 0, [(0, 5)]⟩]⟩,
  -- SNS_VS_STAT
  ⟨0x40203004, [(32, 0x10)], false, [
     ⟨31, 16, .rc, 0x0, .p, 0, []⟩,
     ⟨1, 1, .w1c, 0x0, .p, 0, []⟩,
     ⟨0, 0, .ro, 0x1, .p, 0, []⟩]⟩,
  -- SNS_VS_OFSEST
  ⟨0x40203008, [(32, 0x10)], false, [
     ⟨15, 0, .ro, 0x0, .p, 0, []⟩]⟩,
  -- SNS_VS_LAST
  ⟨0x4020300C, [(32, 0x10)], false, [
     ⟨31, 0, .ro, 0x0, .p, 0, []⟩]⟩,
  -- SNS_VIN_CFG
  ⟨0x40203400, [(8, 0x10)], true, [
     ⟨1, 1, .rw, 0x0, .p, 0, []⟩,
     ⟨0, 0, .rw, 0x0, .p, 0, []⟩]⟩,
  -- SNS_VIN_RATIO
  ⟨0x40203404, [(8, 0x10)], true, [
     ⟨31, 0, .rw, 0x1000000, .p, 0, []⟩]⟩]

/-- Registers SNS_VIN_LAST to SNS_TEMP (04). -/
def snsRegs2 : List RegSpec := [
  -- SNS_VIN_LAST
  ⟨0x40203408, [(8, 0x10)], false, [
     ⟨31, 0, .ro, 0x0, .p, 0, []⟩]⟩,
  -- SNS_DOM_CFG
  ⟨0x40203500, [(8, 0x20)], true, [
     ⟨31, 16, .rw, 0x0, .p, 0, []⟩,
     ⟨12, 8, .rw, 0xE, .p, 0, [(10, 20)]⟩,
     ⟨6, 4, .rw, 0x0, .p, 0, []⟩,
     ⟨3, 1, .rw, 0x0, .p, 0, []⟩,
     ⟨0, 0, .rw, 0x0, .p, 0, []⟩]⟩,
  -- SNS_DOM_LOSS
  ⟨0x40203504, [(8, 0x20)], true, [
     ⟨23, 16, .rw, 0x32, .p, 0, []⟩,
     ⟨15, 0, .rw, 0x0, .p, 0, []⟩]⟩,
  -- SNS_DOM_GTGT
  ⟨0x40203508, [(8, 0x20)], true, [
     ⟨31, 0, .rw, 0x40000000, .p, 0, []⟩]⟩,
  -- SNS_DOM_GEFF
  ⟨0x4020350C, [(8, 0x20)], false, [
     ⟨31, 0, .ro, 0x40000000, .p, 0, []⟩]⟩,
  -- SNS_DOM_EST
  ⟨0x40203510, [(8, 0x20)], false, [
     ⟨31, 0, .ro, 0x40000000, .p, 0, []⟩]⟩,
  -- SNS_TFLT_CFG
  ⟨0x40203600, [(9, 0x4)], true, [
     ⟨31, 16, .rw, 0x1F40, .p, 0, [(1, 65535)]⟩,
     ⟨15, 0, .rw, 0x1770, .p, 0, []⟩]⟩,
  -- SNS_TDIO_CFG
  ⟨0x40203640, [(4, 0x4)], true, [
     ⟨16, 16, .rw, 0x0, .p, 0, []⟩,
     ⟨15, 0, .rw, 0x4083, .p, 0, []⟩]⟩,
  -- SNS_TEMP
  ⟨0x40204000, [(157, 0x4)], false, [
     ⟨17, 16, .ro, 0x3, .p, 0, []⟩,
     ⟨15, 0, .ro, 0x0, .p, 0, []⟩]⟩]

/-- Every register of the block (04). -/
def snsRegs : List RegSpec := snsRegs0 ++ snsRegs1 ++ snsRegs2

/-- Registers ANV_CAP to ANV_LN_CFG (05 R133). -/
def anvRegs0 : List RegSpec := [
  -- ANV_CAP
  ⟨0x40300000, [], false, [
     ⟨23, 16, .ro, 0x20, .c, 0, []⟩,
     ⟨11, 8, .ro, 0x8, .c, 0, []⟩,
     ⟨5, 0, .ro, 0x22, .c, 0, []⟩]⟩,
  -- ANV_STAT
  ⟨0x40300004, [], false, [
     ⟨4, 4, .ro, 0x0, .p, 0, []⟩,
     ⟨3, 3, .w1c, 0x0, .p, 0, []⟩,
     ⟨2, 2, .ro, 0x0, .p, 0, []⟩,
     ⟨1, 1, .ro, 0x0, .p, 0, []⟩,
     ⟨0, 0, .ro, 0x0, .p, 0, []⟩]⟩,
  -- ANV_COMMIT
  ⟨0x40300008, [], true, [
     ⟨16, 16, .ro, 0x0, .p, 0, []⟩,
     ⟨13, 8, .ro, 0x0, .p, 0, []⟩,
     ⟨3, 1, .ro, 0x0, .p, 0, []⟩,
     ⟨0, 0, .rw, 0x0, .p, 0, []⟩]⟩,
  -- ANV_LN_SWAP
  ⟨0x4030000C, [], true, [
     ⟨31, 31, .wo, 0x0, .p, 0, []⟩,
     ⟨30, 30, .wo, 0x0, .p, 0, []⟩,
     ⟨29, 29, .wo, 0x0, .p, 0, []⟩,
     ⟨5, 0, .wo, 0x0, .p, 0, []⟩]⟩,
  -- ANV_SWAP_PEND_0
  ⟨0x40300010, [], false, [
     ⟨31, 0, .ro, 0x0, .p, 0, []⟩]⟩,
  -- ANV_SWAP_PEND_1
  ⟨0x40300014, [], false, [
     ⟨1, 0, .ro, 0x0, .p, 0, []⟩]⟩,
  -- ANV_WRAP_SUM_0
  ⟨0x40300018, [], false, [
     ⟨31, 0, .ro, 0x0, .p, 0, []⟩]⟩,
  -- ANV_WRAP_SUM_1
  ⟨0x4030001C, [], false, [
     ⟨1, 0, .ro, 0x0, .p, 0, []⟩]⟩,
  -- ANV_FLT_SUM_0
  ⟨0x40300020, [], false, [
     ⟨31, 0, .ro, 0x0, .p, 0, []⟩]⟩,
  -- ANV_FLT_SUM_1
  ⟨0x40300024, [], false, [
     ⟨1, 0, .ro, 0x0, .p, 0, []⟩]⟩,
  -- ANV_RAIL_LANE
  ⟨0x40300100, [(32, 0x4)], true, [
     ⟨31, 31, .rwl, 0x0, .p, 0, []⟩,
     ⟨5, 0, .rwl, 0x0, .p, 0, [(0, 33)]⟩]⟩,
  -- ANV_LN_CFG
  ⟨0x40301000, [(34, 0x40)], true, [
     ⟨31, 31, .rwl, 0x0, .p, 0, []⟩,
     ⟨30, 30, .rwl, 0x0, .p, 0, []⟩,
     ⟨29, 28, .rwl, 0x0, .p, 0, [(0, 2)]⟩,
     ⟨26, 24, .rwl, 0x4, .p, 0, []⟩,
     ⟨22, 20, .rwl, 0x0, .p, 0, []⟩,
     ⟨18, 16, .rwl, 0x0, .p, 0, []⟩,
     ⟨13, 8, .rwl, 0x0, .p, 0, [(0, 33)]⟩,
     ⟨4, 0, .rwl, 0x0, .p, 0, []⟩]⟩]

/-- Registers ANV_LN_FE to ANV_LN_PM (05 R133). -/
def anvRegs1 : List RegSpec := [
  -- ANV_LN_FE
  ⟨0x40301004, [(34, 0x40)], true, [
     ⟨31, 31, .rw, 0x0, .p, 0, []⟩,
     ⟨30, 30, .rw, 0x0, .p, 0, []⟩,
     ⟨26, 24, .rw, 0x0, .p, 0, []⟩]⟩,
  -- ANV_LN_STAT
  ⟨0x40301008, [(34, 0x40)], false, [
     ⟨31, 31, .w1c, 0x0, .p, 0, []⟩,
     ⟨30, 30, .w1c, 0x0, .p, 0, []⟩,
     ⟨29, 29, .w1c, 0x0, .p, 0, []⟩,
     ⟨28, 28, .ro, 0x0, .p, 0, []⟩,
     ⟨27, 27, .w1c, 0x0, .p, 0, []⟩,
     ⟨26, 26, .w1c, 0x0, .p, 0, []⟩,
     ⟨25, 22, .ro, 0x0, .p, 0, []⟩,
     ⟨21, 21, .ro, 0x0, .p, 0, []⟩,
     ⟨20, 20, .ro, 0x0, .p, 0, []⟩,
     ⟨19, 19, .ro, 0x0, .p, 0, []⟩,
     ⟨18, 18, .ro, 0x0, .p, 0, []⟩,
     ⟨17, 17, .w1c, 0x0, .p, 0, []⟩,
     ⟨16, 16, .w1c, 0x0, .p, 0, []⟩,
     ⟨15, 15, .ro, 0x0, .p, 0, []⟩,
     ⟨14, 14, .ro, 0x0, .p, 0, []⟩,
     ⟨5, 0, .ro, 0x0, .p, 1, []⟩]⟩,
  -- ANV_LN_SETPT
  ⟨0x4030100C, [(34, 0x40)], true, [
     ⟨31, 0, .rw, 0x0, .p, 0, []⟩]⟩,
  -- ANV_LN_PLOFS
  ⟨0x40301010, [(34, 0x40)], true, [
     ⟨31, 0, .rw, 0x0, .p, 0, []⟩]⟩,
  -- ANV_LN_PLDUR
  ⟨0x40301014, [(34, 0x40)], true, [
     ⟨15, 0, .rw, 0x0, .p, 0, []⟩]⟩,
  -- ANV_LN_PBASE
  ⟨0x40301018, [(34, 0x40)], true, [
     ⟨31, 0, .rw, 0x0, .p, 0, []⟩]⟩,
  -- ANV_LN_PSLOPE
  ⟨0x4030101C, [(34, 0x40)], true, [
     ⟨31, 0, .rw, 0x0, .p, 0, []⟩]⟩,
  -- ANV_LN_SLMASK
  ⟨0x40301020, [(34, 0x40)], true, [
     ⟨15, 0, .rw, 0xFFFF, .p, 0, []⟩]⟩,
  -- ANV_LN_TRIG
  ⟨0x40301024, [(34, 0x40)], true, [
     ⟨1, 1, .wo, 0x0, .p, 0, []⟩,
     ⟨0, 0, .wo, 0x0, .p, 0, []⟩]⟩,
  -- ANV_LN_SNAP
  ⟨0x40301028, [(34, 0x40)], false, [
     ⟨15, 8, .ro, 0x0, .p, 0, []⟩,
     ⟨1, 1, .ro, 0x0, .p, 0, []⟩,
     ⟨0, 0, .w1s, 0x0, .p, 0, []⟩]⟩,
  -- ANV_LN_OUT
  ⟨0x4030102C, [(34, 0x40)], false, [
     ⟨31, 0, .ro, 0x0, .p, 0, []⟩]⟩,
  -- ANV_LN_PM
  ⟨0x40303000, [(34, 0x40), (16, 0x4)], true, [
     ⟨31, 0, .rw, 0x0, .p, 0, []⟩]⟩]

/-- Registers ANV_LN_ST to ANV_ACT (05 R133). -/
def anvRegs2 : List RegSpec := [
  -- ANV_LN_ST
  ⟨0x40305000, [(34, 0x40), (16, 0x4)], false, [
     ⟨31, 0, .ro, 0x0, .p, 0, []⟩]⟩,
  -- ANV_SH
  ⟨0x40308000, [(34, 0x100), (64, 0x4)], true, [
     ⟨31, 0, .rw, 0x0, .p, 0, []⟩]⟩,
  -- ANV_ACT
  ⟨0x4030C000, [(34, 0x100), (64, 0x4)], false, [
     ⟨31, 0, .ro, 0x0, .p, 0, []⟩]⟩]

/-- Every register of the block (05 R133). -/
def anvRegs : List RegSpec := anvRegs0 ++ anvRegs1 ++ anvRegs2

/-- Registers BLW_CAP to BLW_LAD_DIO (06). -/
def blwRegs0 : List RegSpec := [
  -- BLW_CAP
  ⟨0x40400000, [], false, [
     ⟨21, 16, .ro, 0x20, .c, 0, []⟩,
     ⟨12, 8, .ro, 0x10, .c, 0, []⟩,
     ⟨7, 0, .ro, 0x90, .c, 0, []⟩]⟩,
  -- BLW_STAT
  ⟨0x40400004, [], false, [
     ⟨15, 12, .ro, 0x0, .p, 0, []⟩,
     ⟨1, 1, .w1c, 0x0, .p, 0, []⟩,
     ⟨0, 0, .w1c, 0x0, .p, 0, []⟩]⟩,
  -- BLW_QCMD
  ⟨0x40400008, [], true, [
     ⟨31, 30, .wo, 0x0, .p, 0, []⟩,
     ⟨4, 0, .wo, 0x0, .p, 0, []⟩]⟩,
  -- BLW_RQ_SUM
  ⟨0x4040000C, [], false, [
     ⟨31, 0, .ro, 0x0, .p, 0, []⟩]⟩,
  -- BLW_LATCH_SUM
  ⟨0x40400010, [], true, [
     ⟨31, 0, .w1c, 0x0, .p, 0, []⟩]⟩,
  -- BLW_DEV_STAT
  ⟨0x40400014, [], false, [
     ⟨31, 24, .w1c, 0x0, .p, 0, []⟩,
     ⟨23, 16, .w1c, 0x0, .p, 0, []⟩,
     ⟨15, 12, .w1c, 0x0, .p, 0, []⟩,
     ⟨11, 8, .w1c, 0x0, .p, 0, []⟩,
     ⟨1, 1, .w1c, 0x0, .p, 0, []⟩,
     ⟨0, 0, .w1c, 0x0, .p, 0, []⟩]⟩,
  -- BLW_WARN
  ⟨0x40400100, [(16, 0x4)], true, [
     ⟨31, 31, .rw, 0x0, .p, 0, []⟩,
     ⟨30, 30, .rw, 0x0, .p, 0, []⟩,
     ⟨3, 0, .rw, 0x2, .p, 0, []⟩]⟩,
  -- BLW_OT_PH
  ⟨0x40400200, [], true, [
     ⟨31, 16, .rw, 0x3E80, .p, 0, []⟩,
     ⟨15, 0, .rw, 0x3700, .p, 0, []⟩]⟩,
  -- BLW_OT_DIE
  ⟨0x40400204, [], true, [
     ⟨31, 16, .rw, 0x4100, .p, 0, []⟩,
     ⟨15, 0, .rw, 0x3C00, .p, 0, []⟩]⟩,
  -- BLW_OT_DIO
  ⟨0x40400208, [(4, 0x4)], true, [
     ⟨31, 16, .rw, 0x3200, .p, 0, []⟩,
     ⟨15, 0, .rw, 0x2D00, .p, 0, []⟩]⟩,
  -- BLW_LAD_DIE
  ⟨0x40400220, [], true, [
     ⟨31, 24, .rw, 0x3, .p, 0, [(1, 255)]⟩,
     ⟨15, 11, .rw, 0x7, .p, 0, [(0, 16)]⟩,
     ⟨10, 8, .rw, 0x0, .p, 0, []⟩,
     ⟨2, 0, .rw, 0x4, .p, 0, [(0, 1), (4, 4)]⟩]⟩,
  -- BLW_LAD_DIO
  ⟨0x40400224, [(4, 0x4)], true, [
     ⟨31, 24, .rw, 0x3, .p, 0, [(1, 255)]⟩,
     ⟨15, 11, .rw, 0x7, .p, 0, [(0, 16)]⟩,
     ⟨10, 8, .rw, 0x0, .p, 0, []⟩,
     ⟨2, 0, .rw, 0x1, .p, 0, [(0, 1), (4, 4)]⟩]⟩]

/-- Registers BLW_VIN_TH to BLW_LAD_POC (06). -/
def blwRegs1 : List RegSpec := [
  -- BLW_VIN_TH
  ⟨0x40400240, [(8, 0x10)], true, [
     ⟨31, 16, .rw, 0x0, .p, 0, []⟩,
     ⟨15, 0, .rw, 0x0, .p, 0, []⟩]⟩,
  -- BLW_VIN_WTH
  ⟨0x40400244, [(8, 0x10)], true, [
     ⟨31, 16, .rw, 0x0, .p, 0, []⟩,
     ⟨15, 0, .rw, 0x0, .p, 0, []⟩]⟩,
  -- BLW_VIN_RAILS
  ⟨0x40400248, [(8, 0x10)], true, [
     ⟨31, 0, .rw, 0x0, .p, 0, []⟩]⟩,
  -- BLW_LAD_VIN
  ⟨0x4040024C, [(8, 0x10)], true, [
     ⟨31, 24, .rw, 0x8, .p, 0, [(1, 255)]⟩,
     ⟨15, 11, .rw, 0x7, .p, 0, [(0, 16)]⟩,
     ⟨10, 8, .rw, 0x0, .p, 0, []⟩,
     ⟨2, 0, .rw, 0x3, .p, 0, [(0, 1), (3, 4)]⟩]⟩,
  -- BLW_BW_CFG
  ⟨0x40401000, [(32, 0x40)], true, [
     ⟨31, 31, .rw, 0x0, .p, 0, []⟩,
     ⟨30, 30, .rw, 0x0, .p, 0, []⟩,
     ⟨29, 29, .rw, 0x0, .p, 0, []⟩,
     ⟨28, 27, .rw, 0x0, .p, 0, [(0, 2)]⟩,
     ⟨23, 18, .rw, 0xA, .p, 0, []⟩,
     ⟨17, 12, .rw, 0x4, .p, 0, []⟩,
     ⟨11, 6, .rw, 0xA, .p, 0, []⟩,
     ⟨5, 0, .rw, 0x4, .p, 0, []⟩]⟩,
  -- BLW_BW_TIM
  ⟨0x40401004, [(32, 0x40)], true, [
     ⟨15, 8, .rw, 0x14, .p, 0, [(1, 255)]⟩,
     ⟨7, 0, .rw, 0xA, .p, 0, []⟩]⟩,
  -- BLW_PL
  ⟨0x40401008, [(32, 0x40)], true, [
     ⟨21, 16, .rw, 0x6, .p, 0, []⟩,
     ⟨15, 0, .rw, 0x0, .p, 0, []⟩]⟩,
  -- BLW_BW_STAT
  ⟨0x4040100C, [(32, 0x40)], false, [
     ⟨9, 9, .ro, 0x0, .p, 0, []⟩,
     ⟨8, 8, .ro, 0x0, .p, 0, []⟩,
     ⟨7, 7, .ro, 0x0, .p, 0, []⟩,
     ⟨6, 6, .w1c, 0x0, .p, 0, []⟩,
     ⟨5, 5, .w1c, 0x0, .p, 0, []⟩,
     ⟨2, 0, .ro, 0x0, .p, 0, []⟩]⟩,
  -- BLW_ROC
  ⟨0x40401010, [(32, 0x40)], true, [
     ⟨31, 16, .rw, 0x0, .p, 0, []⟩,
     ⟨15, 0, .rw, 0x0, .p, 0, []⟩]⟩,
  -- BLW_OV
  ⟨0x40401014, [(32, 0x40)], true, [
     ⟨31, 24, .rw, 0x0, .p, 0, []⟩,
     ⟨23, 16, .rw, 0x0, .p, 0, []⟩,
     ⟨15, 0, .rw, 0x0, .p, 0, []⟩]⟩,
  -- BLW_UV
  ⟨0x40401018, [(32, 0x40)], true, [
     ⟨31, 24, .rw, 0x0, .p, 0, []⟩,
     ⟨23, 16, .rw, 0x0, .p, 0, []⟩,
     ⟨15, 0, .rw, 0x0, .p, 0, []⟩]⟩,
  -- BLW_LAD_POC
  ⟨0x4040101C, [(32, 0x40)], true, [
     ⟨31, 24, .rw, 0x4, .p, 0, [(1, 15)]⟩,
     ⟨15, 11, .rw, 0x7, .p, 0, [(0, 16)]⟩,
     ⟨10, 8, .rw, 0x0, .p, 0, []⟩,
     ⟨2, 0, .rw, 0x2, .p, 0, [(0, 4)]⟩]⟩]

/-- Registers BLW_LAD_SF to BLW_PH (06). -/
def blwRegs2 : List RegSpec := [
  -- BLW_LAD_SF
  ⟨0x40401020, [(32, 0x40)], true, [
     ⟨31, 24, .rw, 0x1, .p, 0, [(1, 255)]⟩,
     ⟨15, 11, .rw, 0x7, .p, 0, [(0, 16)]⟩,
     ⟨10, 8, .rw, 0x0, .p, 0, []⟩,
     ⟨2, 0, .rw, 0x2, .p, 0, [(2, 4)]⟩]⟩,
  -- BLW_LAD_POT
  ⟨0x40401024, [(32, 0x40)], true, [
     ⟨31, 24, .rw, 0x3, .p, 0, [(1, 255)]⟩,
     ⟨15, 11, .rw, 0x7, .p, 0, [(0, 16)]⟩,
     ⟨10, 8, .rw, 0x0, .p, 0, []⟩,
     ⟨2, 0, .rw, 0x1, .p, 0, [(0, 4)]⟩]⟩,
  -- BLW_LAD_ROC
  ⟨0x40401028, [(32, 0x40)], true, [
     ⟨31, 24, .rw, 0x4, .p, 0, [(1, 255)]⟩,
     ⟨15, 11, .rw, 0x7, .p, 0, [(0, 16)]⟩,
     ⟨10, 8, .rw, 0x0, .p, 0, []⟩,
     ⟨2, 0, .rw, 0x3, .p, 0, [(0, 1), (3, 4)]⟩]⟩,
  -- BLW_LAD_OV
  ⟨0x4040102C, [(32, 0x40)], true, [
     ⟨31, 24, .rw, 0x2, .p, 0, [(1, 255)]⟩,
     ⟨15, 11, .rw, 0x7, .p, 0, [(0, 16)]⟩,
     ⟨10, 8, .rw, 0x0, .p, 0, []⟩,
     ⟨2, 0, .rw, 0x3, .p, 0, [(0, 1), (3, 4)]⟩]⟩,
  -- BLW_LAD_UV
  ⟨0x40401030, [(32, 0x40)], true, [
     ⟨31, 24, .rw, 0x8, .p, 0, [(1, 255)]⟩,
     ⟨15, 11, .rw, 0x7, .p, 0, [(0, 16)]⟩,
     ⟨10, 8, .rw, 0x0, .p, 0, []⟩,
     ⟨2, 0, .rw, 0x3, .p, 0, [(0, 1), (3, 4)]⟩]⟩,
  -- BLW_PROT_STAT
  ⟨0x40401034, [(32, 0x40)], false, [
     ⟨31, 31, .ro, 0x0, .p, 0, []⟩,
     ⟨30, 30, .ro, 0x0, .p, 0, []⟩,
     ⟨29, 27, .ro, 0x0, .p, 0, []⟩,
     ⟨26, 23, .ro, 0x0, .p, 0, []⟩,
     ⟨11, 6, .w1c, 0x0, .p, 0, []⟩,
     ⟨5, 0, .w1c, 0x0, .p, 0, []⟩]⟩,
  -- BLW_BW_CNT
  ⟨0x40401038, [(32, 0x40)], false, [
     ⟨31, 16, .rc, 0x0, .p, 0, []⟩,
     ⟨15, 0, .rc, 0x0, .p, 0, []⟩]⟩,
  -- BLW_PH
  ⟨0x40404000, [(144, 0x4)], true, [
     ⟨31, 31, .rw, 0x0, .p, 0, []⟩,
     ⟨30, 30, .rw, 0x0, .p, 0, []⟩,
     ⟨14, 12, .ro, 0x0, .p, 0, []⟩,
     ⟨9, 0, .rw, 0xC8, .p, 0, [(50, 800)]⟩]⟩]

/-- Every register of the block (06). -/
def blwRegs : List RegSpec := blwRegs0 ++ blwRegs1 ++ blwRegs2

/-- Registers RLC_CAP to RLC_RAIL_AT (07). -/
def rlcRegs0 : List RegSpec := [
  -- RLC_CAP
  ⟨0x40500000, [], false, [
     ⟨21, 16, .ro, 0x20, .c, 0, []⟩,
     ⟨12, 8, .ro, 0x10, .c, 0, []⟩,
     ⟨1, 0, .ro, 0x2, .c, 0, []⟩]⟩,
  -- RLC_STAT
  ⟨0x40500004, [], false, [
     ⟨2, 2, .ro, 0x0, .p, 0, []⟩,
     ⟨1, 1, .w1c, 0x0, .p, 0, []⟩,
     ⟨0, 0, .w1c, 0x0, .p, 0, []⟩]⟩,
  -- RLC_COMMIT
  ⟨0x40500008, [], true, [
     ⟨12, 8, .ro, 0x0, .p, 0, []⟩,
     ⟨3, 1, .ro, 0x0, .p, 0, []⟩,
     ⟨0, 0, .rw, 0x0, .p, 0, []⟩]⟩,
  -- RLC_GRP_CMD
  ⟨0x4050000C, [], true, [
     ⟨31, 30, .wo, 0x0, .p, 0, []⟩,
     ⟨2, 0, .wo, 0x0, .p, 0, []⟩]⟩,
  -- RLC_PG_SUM
  ⟨0x40500010, [], false, [
     ⟨31, 0, .ro, 0x0, .p, 0, []⟩]⟩,
  -- RLC_AVS_CFG
  ⟨0x40500100, [(16, 0x8)], true, [
     ⟨31, 31, .rwl, 0x0, .p, 0, []⟩,
     ⟨27, 0, .rwl, 0x0, .p, 0, []⟩]⟩,
  -- RLC_AVS_STAT
  ⟨0x40500104, [(16, 0x8)], false, [
     ⟨31, 16, .rc, 0x0, .p, 0, []⟩,
     ⟨15, 0, .rc, 0x0, .p, 0, []⟩]⟩,
  -- RLC_PMB_CFG
  ⟨0x40500200, [(2, 0x8)], true, [
     ⟨31, 24, .rw, 0x0, .p, 0, []⟩,
     ⟨9, 9, .rw, 0x0, .p, 0, []⟩,
     ⟨8, 8, .rw, 0x0, .p, 0, []⟩,
     ⟨6, 0, .rw, 0x40, .p, 1, []⟩]⟩,
  -- RLC_PMB_STAT
  ⟨0x40500204, [(2, 0x8)], false, [
     ⟨31, 24, .ro, 0x0, .p, 0, []⟩,
     ⟨15, 0, .rc, 0x0, .p, 0, []⟩]⟩,
  -- RLC_RAIL_CTL
  ⟨0x40501000, [(32, 0x40)], true, [
     ⟨31, 31, .rw, 0x0, .p, 0, []⟩,
     ⟨30, 30, .rw, 0x1, .p, 0, []⟩,
     ⟨29, 29, .rw, 0x1, .p, 0, []⟩,
     ⟨28, 27, .rwl, 0x0, .p, 0, [(0, 2)]⟩,
     ⟨26, 24, .rw, 0x7, .p, 0, []⟩,
     ⟨18, 16, .rwl, 0x0, .p, 0, []⟩,
     ⟨15, 12, .rwl, 0x0, .p, 0, []⟩]⟩,
  -- RLC_RAIL_FREF
  ⟨0x40501004, [(32, 0x40)], true, [
     ⟨31, 31, .rw, 0x0, .p, 0, []⟩,
     ⟨13, 0, .rw, 0x1F4, .p, 0, []⟩]⟩,
  -- RLC_RAIL_AT
  ⟨0x40501008, [(32, 0x40)], true, [
     ⟨31, 0, .rw, 0x0, .p, 0, []⟩]⟩]

/-- Registers RLC_RAIL_HREF to RLC_RAIL_REQ (07). -/
def rlcRegs1 : List RegSpec := [
  -- RLC_RAIL_HREF
  ⟨0x4050100C, [(32, 0x40)], true, [
     ⟨31, 31, .rw, 0x0, .p, 0, []⟩,
     ⟨13, 0, .rw, 0x1F4, .p, 0, []⟩]⟩,
  -- RLC_RAIL_LIM
  ⟨0x40501010, [(32, 0x40)], true, [
     ⟨29, 16, .rw, 0x1388, .p, 0, []⟩,
     ⟨13, 0, .rw, 0x1F4, .p, 0, []⟩]⟩,
  -- RLC_RAIL_SCALE
  ⟨0x40501014, [(32, 0x40)], true, [
     ⟨31, 0, .rwl, 0x1000000, .p, 0, []⟩]⟩,
  -- RLC_RAIL_SLEW
  ⟨0x40501018, [(32, 0x40)], true, [
     ⟨25, 16, .rw, 0x64, .p, 0, [(1, 1000)]⟩,
     ⟨9, 0, .rw, 0x64, .p, 0, [(1, 1000)]⟩]⟩,
  -- RLC_RAIL_LL
  ⟨0x4050101C, [(32, 0x40)], true, [
     ⟨23, 0, .rw, 0x0, .p, 0, [(0, 8589935)]⟩]⟩,
  -- RLC_RAIL_TON
  ⟨0x40501020, [(32, 0x40)], true, [
     ⟨31, 16, .rw, 0x0, .p, 0, []⟩,
     ⟨15, 0, .rw, 0x3E8, .p, 0, []⟩]⟩,
  -- RLC_RAIL_TOFF
  ⟨0x40501024, [(32, 0x40)], true, [
     ⟨31, 16, .rw, 0x0, .p, 0, []⟩,
     ⟨15, 0, .rw, 0x3E8, .p, 0, []⟩]⟩,
  -- RLC_RAIL_MARG
  ⟨0x40501028, [(32, 0x40)], true, [
     ⟨29, 16, .rw, 0x1F4, .p, 0, []⟩,
     ⟨13, 0, .rw, 0x1F4, .p, 0, []⟩]⟩,
  -- RLC_RAIL_PMB
  ⟨0x4050102C, [(32, 0x40)], true, [
     ⟨15, 8, .rw, 0x10, .p, 0, [(16, 16), (24, 24)]⟩,
     ⟨7, 0, .rw, 0x0, .p, 0, [(0, 0), (64, 64), (128, 128), (148, 148), (152, 152), (164, 164), (168, 168)]⟩]⟩,
  -- RLC_RAIL_STAT
  ⟨0x40501030, [(32, 0x40)], false, [
     ⟨11, 11, .ro, 0x0, .p, 0, []⟩,
     ⟨10, 10, .ro, 0x0, .p, 0, []⟩,
     ⟨9, 8, .ro, 0x3, .p, 0, []⟩,
     ⟨7, 7, .ro, 0x0, .p, 0, []⟩,
     ⟨6, 6, .ro, 0x0, .p, 0, []⟩,
     ⟨5, 5, .ro, 0x0, .p, 0, []⟩,
     ⟨3, 0, .ro, 0x0, .p, 0, []⟩]⟩,
  -- RLC_RAIL_TGT
  ⟨0x40501034, [(32, 0x40)], false, [
     ⟨29, 16, .ro, 0x0, .p, 0, []⟩,
     ⟨13, 0, .ro, 0x0, .p, 0, []⟩]⟩,
  -- RLC_RAIL_REQ
  ⟨0x40501038, [(32, 0x40)], false, [
     ⟨31, 31, .ro, 0x0, .p, 0, []⟩,
     ⟨29, 16, .ro, 0x0, .p, 0, []⟩,
     ⟨15, 15, .ro, 0x0, .p, 0, []⟩,
     ⟨13, 0, .ro, 0x0, .p, 0, []⟩]⟩]

/-- Registers RLC_RAIL_REF to RLC_RAIL_REF (07). -/
def rlcRegs2 : List RegSpec := [
  -- RLC_RAIL_REF
  ⟨0x4050103C, [(32, 0x40)], false, [
     ⟨31, 0, .ro, 0x0, .p, 0, []⟩]⟩]

/-- Every register of the block (07). -/
def rlcRegs : List RegSpec := rlcRegs0 ++ rlcRegs1 ++ rlcRegs2

/-- Registers EVF_CAP to EVF_CON (08). -/
def evfRegs0 : List RegSpec := [
  -- EVF_CAP
  ⟨0x40600000, [], false, [
     ⟨23, 16, .ro, 0x40, .c, 0, []⟩,
     ⟨9, 0, .ro, 0x200, .c, 0, []⟩]⟩,
  -- EVF_STAT
  ⟨0x40600004, [], false, [
     ⟨3, 3, .w1c, 0x0, .k, 0, []⟩,
     ⟨2, 2, .w1c, 0x0, .k, 0, []⟩,
     ⟨1, 1, .w1c, 0x0, .k, 0, []⟩,
     ⟨0, 0, .ro, 0x0, .k, 0, []⟩]⟩,
  -- EVF_CTL
  ⟨0x40600008, [], false, [
     ⟨0, 0, .rw, 0x0, .k, 0, []⟩]⟩,
  -- EVF_COMMIT
  ⟨0x4060000C, [], true, [
     ⟨26, 16, .ro, 0x0, .k, 0, []⟩,
     ⟨8, 8, .ro, 0x0, .k, 0, []⟩,
     ⟨6, 4, .ro, 0x0, .k, 0, []⟩,
     ⟨2, 2, .ro, 0x0, .k, 0, []⟩,
     ⟨1, 1, .ro, 0x0, .k, 0, []⟩,
     ⟨0, 0, .w1s, 0x0, .k, 0, []⟩]⟩,
  -- EVF_CON_FIRE
  ⟨0x40600010, [], false, [
     ⟨10, 0, .wo, 0x0, .k, 0, []⟩]⟩,
  -- EVF_WATCH
  ⟨0x40600020, [(16, 0x4)], false, [
     ⟨31, 0, .w1c, 0x0, .k, 0, []⟩]⟩,
  -- EVF_EVIO
  ⟨0x40600100, [(32, 0x4)], true, [
     ⟨31, 31, .rw, 0x0, .k, 0, []⟩,
     ⟨30, 29, .rw, 0x0, .k, 0, [(0, 2)]⟩,
     ⟨28, 28, .rw, 0x0, .k, 0, []⟩,
     ⟨27, 27, .rw, 0x0, .k, 0, []⟩,
     ⟨23, 16, .rw, 0x14, .k, 0, [(4, 255)]⟩,
     ⟨15, 12, .rw, 0x2, .k, 0, []⟩,
     ⟨0, 0, .ro, 0x0, .k, 0, []⟩]⟩,
  -- EVF_CH_SRC
  ⟨0x40604000, [(512, 0x10)], false, [
     ⟨31, 31, .rw, 0x0, .k, 0, []⟩,
     ⟨26, 16, .rw, 0x0, .k, 0, [(0, 511), (1024, 1065), (1088, 1233), (1280, 1599)]⟩,
     ⟨15, 15, .rw, 0x0, .k, 0, []⟩,
     ⟨10, 0, .rw, 0x0, .k, 0, [(0, 511), (1024, 1065), (1088, 1233), (1280, 1599)]⟩]⟩,
  -- EVF_CH_CFG
  ⟨0x40604004, [(512, 0x10)], false, [
     ⟨31, 31, .rw, 0x0, .k, 0, []⟩,
     ⟨30, 30, .rw, 0x0, .k, 0, []⟩,
     ⟨29, 29, .rw, 0x0, .k, 0, []⟩,
     ⟨28, 28, .rw, 0x0, .k, 0, []⟩,
     ⟨27, 25, .rw, 0x7, .k, 0, []⟩,
     ⟨22, 20, .rw, 0x0, .k, 0, [(0, 3)]⟩]⟩,
  -- EVF_CH_ELEM
  ⟨0x40604008, [(512, 0x10)], false, [
     ⟨19, 0, .rw, 0x0, .k, 0, []⟩]⟩,
  -- EVF_CH_STAT
  ⟨0x4060400C, [(512, 0x10)], false, [
     ⟨18, 18, .w1c, 0x0, .k, 0, []⟩,
     ⟨17, 17, .w1c, 0x0, .k, 0, []⟩,
     ⟨16, 16, .ro, 0x0, .k, 0, []⟩,
     ⟨15, 0, .ro, 0x0, .k, 0, []⟩]⟩,
  -- EVF_CON
  ⟨0x40608000, [(2048, 0x4)], false, [
     ⟨31, 31, .w1c, 0x0, .k, 0, []⟩,
     ⟨30, 30, .ro, 0x0, .k, 0, []⟩,
     ⟨29, 20, .ro, 0x0, .k, 0, []⟩,
     ⟨19, 19, .rw, 0x0, .k, 0, []⟩,
     ⟨18, 10, .rw, 0x0, .k, 0, []⟩,
     ⟨9, 9, .rw, 0x0, .k, 0, []⟩,
     ⟨8, 0, .rw, 0x0, .k, 0, []⟩]⟩]

/-- Registers EVF_PEND to EVF_OVR (08). -/
def evfRegs1 : List RegSpec := [
  -- EVF_PEND
  ⟨0x4060A000, [(64, 0x4)], false, [
     ⟨31, 0, .ro, 0x0, .k, 0, []⟩]⟩,
  -- EVF_OVR
  ⟨0x4060A100, [(64, 0x4)], false, [
     ⟨31, 0, .w1c, 0x0, .k, 0, []⟩]⟩]

/-- Every register of the block (08). -/
def evfRegs : List RegSpec := evfRegs0 ++ evfRegs1

/-- Registers BWIN to MPR_ATTR (09 and 13). -/
def sysRegs0 : List RegSpec := [
  -- BWIN
  ⟨0x100000002, [(6, 0x1000)], false, [
     ⟨3, 0, .rw, 0x0, .x, 0, []⟩]⟩,
  -- CORE_ID
  ⟨0x100000004, [(6, 0x1000)], false, [
     ⟨23, 16, .ro, 0x6, .c, 0, []⟩,
     ⟨15, 8, .ro, 0x90, .c, 0, []⟩,
     ⟨7, 3, .ro, 0x10, .c, 0, []⟩,
     ⟨2, 0, .ro, 0x0, .c, 1, []⟩]⟩,
  -- CORE_CTL
  ⟨0x100000005, [(6, 0x1000)], true, [
     ⟨2, 2, .w1c, 0x0, .x, 0, []⟩,
     ⟨1, 1, .ro, 0x0, .x, 0, []⟩,
     ⟨0, 0, .rw, 0x0, .x, 0, []⟩]⟩,
  -- TFLOOR
  ⟨0x100000006, [(6, 0x1000)], true, [
     ⟨4, 0, .rw, 0x1, .x, 0, [(0, 16)]⟩]⟩,
  -- BANK_OWN
  ⟨0x100000007, [(6, 0x1000)], true, [
     ⟨15, 1, .rw, 0x0, .x, 0, []⟩]⟩,
  -- BITSPLIT
  ⟨0x100000008, [(6, 0x1000)], true, [
     ⟨6, 0, .rw, 0x40, .x, 0, [(0, 64)]⟩]⟩,
  -- SLIM_LO
  ⟨0x100000010, [(6, 0x1000), (4, 0x2)], true, [
     ⟨31, 3, .rw, 0x0, .x, 0, []⟩]⟩,
  -- SLIM_HI
  ⟨0x100000011, [(6, 0x1000), (4, 0x2)], true, [
     ⟨31, 3, .rw, 0x0, .x, 0, []⟩]⟩,
  -- ESP
  ⟨0x100000018, [(6, 0x1000)], true, [
     ⟨31, 3, .rw, 0x0, .x, 0, []⟩]⟩,
  -- ESSZ
  ⟨0x100000019, [(6, 0x1000)], true, [
     ⟨16, 0, .rw, 0x0, .x, 0, []⟩]⟩,
  -- MPR_BASE
  ⟨0x100000020, [(6, 0x1000), (16, 0x2)], true, [
     ⟨31, 5, .rw, 0x0, .x, 0, []⟩]⟩,
  -- MPR_ATTR
  ⟨0x100000021, [(6, 0x1000), (16, 0x2)], true, [
     ⟨31, 31, .rw, 0x0, .x, 0, []⟩,
     ⟨30, 30, .rw, 0x0, .x, 0, []⟩,
     ⟨29, 29, .rw, 0x0, .x, 0, []⟩,
     ⟨28, 28, .rw, 0x0, .x, 0, []⟩,
     ⟨27, 27, .rw, 0x0, .x, 0, []⟩,
     ⟨26, 26, .rw, 0x0, .x, 0, []⟩,
     ⟨5, 0, .rw, 0x5, .x, 0, [(5, 32)]⟩]⟩]

/-- Registers EDTB_K to ESC_DTGT (09 and 13). -/
def sysRegs1 : List RegSpec := [
  -- EDTB_K
  ⟨0x100000040, [(6, 0x1000)], true, [
     ⟨31, 10, .rw, 0x0, .x, 0, []⟩]⟩,
  -- EDTB_T
  ⟨0x100000041, [(6, 0x1000)], true, [
     ⟨31, 10, .rw, 0x0, .x, 0, []⟩]⟩,
  -- ESC_VEC
  ⟨0x100000042, [(6, 0x1000)], true, [
     ⟨31, 0, .rw, 0xF0000000, .x, 0, []⟩]⟩,
  -- FPOWN
  ⟨0x100000043, [(6, 0x1000)], true, [
     ⟨31, 31, .rw, 0x0, .x, 0, []⟩,
     ⟨3, 0, .rw, 0x0, .x, 0, []⟩]⟩,
  -- ESC_CAUSE
  ⟨0x100000050, [(6, 0x1000)], true, [
     ⟨21, 20, .rw, 0x0, .x, 0, [(0, 2)]⟩,
     ⟨3, 0, .ro, 0x0, .x, 0, []⟩]⟩,
  -- ESC_PC
  ⟨0x100000051, [(6, 0x1000)], true, [
     ⟨31, 0, .rw, 0x0, .x, 0, []⟩]⟩,
  -- ESC_STATUS
  ⟨0x100000052, [(6, 0x1000)], true, [
     ⟨31, 0, .rw, 0x0, .x, 0, []⟩]⟩,
  -- ESC_G15
  ⟨0x100000053, [(6, 0x1000)], true, [
     ⟨31, 0, .ro, 0x0, .x, 0, []⟩]⟩,
  -- ESC_INFO
  ⟨0x100000054, [(6, 0x1000)], true, [
     ⟨31, 30, .ro, 0x0, .x, 0, []⟩,
     ⟨19, 16, .ro, 0x0, .x, 0, []⟩,
     ⟨10, 0, .ro, 0x0, .x, 0, []⟩]⟩,
  -- ESC_ADDR
  ⟨0x100000055, [(6, 0x1000)], true, [
     ⟨31, 0, .ro, 0x0, .x, 0, []⟩]⟩,
  -- ESC_DTGT
  ⟨0x100000056, [(6, 0x1000)], true, [
     ⟨31, 0, .rw, 0x0, .x, 0, []⟩]⟩]

/-- Every register of the block (09 and 13). -/
def sysRegs : List RegSpec := sysRegs0 ++ sysRegs1

/-- Registers MEM_STAT to UC_SRC (13, 11 and 12). -/
def drvRegs0 : List RegSpec := [
  -- MEM_STAT
  ⟨0x4080F000, [(6, 0x10000)], true, [
     ⟨2, 2, .w1c, 0x0, .k, 0, []⟩,
     ⟨1, 1, .w1c, 0x0, .k, 0, []⟩,
     ⟨0, 0, .w1c, 0x0, .k, 0, []⟩]⟩,
  -- MEM_CCNT_LOC
  ⟨0x4080F004, [(6, 0x10000)], true, [
     ⟨31, 0, .rc, 0x0, .k, 0, []⟩]⟩,
  -- MEM_CCNT_BIT
  ⟨0x4080F008, [(6, 0x10000)], true, [
     ⟨31, 0, .rc, 0x0, .k, 0, []⟩]⟩,
  -- MEM_CCNT_SYS
  ⟨0x4080F00C, [(6, 0x10000)], true, [
     ⟨31, 0, .rc, 0x0, .k, 0, []⟩]⟩,
  -- MEM_CCNT_CAP
  ⟨0x4080F010, [(6, 0x10000)], true, [
     ⟨31, 0, .rc, 0x0, .k, 0, []⟩]⟩,
  -- MEM_CADDR
  ⟨0x4080F014, [(6, 0x10000)], true, [
     ⟨31, 2, .ro, 0x0, .k, 0, []⟩,
     ⟨1, 0, .ro, 0x0, .k, 0, []⟩]⟩,
  -- MEM_UADDR
  ⟨0x4080F018, [(6, 0x10000)], true, [
     ⟨31, 2, .ro, 0x0, .k, 0, []⟩,
     ⟨1, 0, .ro, 0x0, .k, 0, []⟩]⟩,
  -- MEM_INJ
  ⟨0x4080F01C, [(6, 0x10000)], true, [
     ⟨31, 31, .rw, 0x0, .k, 0, []⟩,
     ⟨30, 30, .rw, 0x0, .k, 0, []⟩,
     ⟨29, 29, .rw, 0x0, .k, 0, []⟩,
     ⟨13, 8, .rw, 0x0, .k, 0, [(0, 38)]⟩,
     ⟨5, 0, .rw, 0x0, .k, 0, [(0, 38)]⟩]⟩,
  -- UC_CTL
  ⟨0x4080F100, [(6, 0x10000)], true, [
     ⟨0, 0, .w1s, 0x0, .p, 0, []⟩]⟩,
  -- UC_STAT
  ⟨0x4080F104, [(6, 0x10000)], true, [
     ⟨31, 16, .rc, 0x0, .p, 0, []⟩,
     ⟨11, 11, .w1c, 0x0, .p, 0, []⟩,
     ⟨10, 8, .ro, 0x0, .p, 0, []⟩,
     ⟨7, 7, .ro, 0x0, .p, 0, []⟩,
     ⟨6, 6, .ro, 0x0, .p, 0, []⟩,
     ⟨4, 4, .ro, 0x0, .p, 0, []⟩,
     ⟨3, 3, .ro, 0x0, .p, 0, []⟩,
     ⟨2, 2, .ro, 0x0, .p, 0, []⟩,
     ⟨1, 0, .ro, 0x0, .p, 0, []⟩]⟩,
  -- UC_CMD
  ⟨0x4080F108, [(6, 0x10000)], true, [
     ⟨31, 28, .wo, 0x0, .p, 0, []⟩,
     ⟨1, 0, .wo, 0x0, .p, 0, []⟩]⟩,
  -- UC_SRC
  ⟨0x4080F10C, [(6, 0x10000)], true, [
     ⟨31, 7, .rw, 0x0, .p, 0, []⟩]⟩]

/-- Registers UC_LEN to DRV_NEXT_LO (13, 11 and 12). -/
def drvRegs1 : List RegSpec := [
  -- UC_LEN
  ⟨0x4080F110, [(6, 0x10000)], true, [
     ⟨31, 16, .rw, 0x0, .p, 0, []⟩,
     ⟨14, 0, .rw, 0x0, .p, 0, [(1, 16384)]⟩]⟩,
  -- UC_PAR
  ⟨0x4080F114, [(6, 0x10000)], true, [
     ⟨17, 16, .ro, 0x0, .p, 0, []⟩,
     ⟨15, 15, .ro, 0x0, .p, 0, []⟩,
     ⟨14, 0, .ro, 0x0, .p, 0, []⟩]⟩,
  -- UC_VER
  ⟨0x4080F118, [(6, 0x10000)], true, [
     ⟨31, 16, .ro, 0x0, .p, 0, []⟩,
     ⟨15, 0, .ro, 0x0, .p, 0, []⟩]⟩,
  -- UC_PATCH_IDX
  ⟨0x4080F11C, [(6, 0x10000)], true, [
     ⟨6, 0, .rw, 0x0, .p, 0, []⟩]⟩,
  -- UC_DIGEST
  ⟨0x4080F120, [(6, 0x10000), (12, 0x4)], true, [
     ⟨31, 0, .rw, 0x0, .p, 0, []⟩]⟩,
  -- UC_PATCH_DATA
  ⟨0x4080F150, [(6, 0x10000)], true, [
     ⟨23, 0, .wo, 0x0, .p, 0, []⟩]⟩,
  -- UC_MATCH
  ⟨0x4080F180, [(6, 0x10000), (32, 0x4)], true, [
     ⟨31, 31, .rw, 0x0, .p, 0, []⟩,
     ⟨22, 16, .rw, 0x0, .p, 0, []⟩,
     ⟨12, 0, .rw, 0x0, .p, 0, [(0, 6143)]⟩]⟩,
  -- DRV_CTL
  ⟨0x40800000, [(6, 0x10000)], true, [
     ⟨3, 3, .rw, 0x0, .x, 0, []⟩,
     ⟨2, 2, .rw, 0x0, .x, 0, []⟩,
     ⟨1, 1, .rw, 0x0, .x, 0, []⟩,
     ⟨0, 0, .rw, 0x0, .x, 0, []⟩]⟩,
  -- DRV_STAT
  ⟨0x40800004, [(6, 0x10000)], false, [
     ⟨31, 31, .ro, 0x0, .x, 0, []⟩,
     ⟨30, 30, .w1c, 0x0, .x, 0, []⟩,
     ⟨17, 16, .ro, 0x0, .x, 0, []⟩,
     ⟨12, 8, .ro, 0x10, .x, 0, []⟩,
     ⟨4, 4, .ro, 0x0, .x, 0, []⟩,
     ⟨3, 0, .ro, 0x1, .x, 0, []⟩]⟩,
  -- DRV_RST
  ⟨0x40800008, [(6, 0x10000)], true, [
     ⟨15, 0, .wo, 0x0, .x, 0, []⟩]⟩,
  -- DRV_LOCK
  ⟨0x4080000C, [(6, 0x10000)], true, [
     ⟨31, 16, .rc, 0x0, .k, 0, []⟩,
     ⟨2, 0, .ro, 0x0, .k, 0, []⟩]⟩,
  -- DRV_NEXT_LO
  ⟨0x40800010, [(6, 0x10000)], false, [
     ⟨31, 0, .rw, 0x0, .x, 0, []⟩]⟩]

/-- Registers DRV_NEXT_HI to DRV_SLOT_STAT (13, 11 and 12). -/
def drvRegs2 : List RegSpec := [
  -- DRV_NEXT_HI
  ⟨0x40800014, [(6, 0x10000)], false, [
     ⟨31, 0, .rw, 0x0, .x, 0, []⟩]⟩,
  -- DRV_READY
  ⟨0x40800018, [(6, 0x10000)], false, [
     ⟨15, 0, .ro, 0x0, .x, 0, []⟩]⟩,
  -- DRV_SLOT_CFG
  ⟨0x40800110, [(6, 0x10000), (15, 0x10)], true, [
     ⟨31, 31, .rw, 0x0, .x, 0, []⟩,
     ⟨30, 30, .rw, 0x0, .x, 0, []⟩,
     ⟨29, 29, .rw, 0x0, .x, 0, []⟩,
     ⟨11, 8, .rw, 0x0, .x, 0, []⟩,
     ⟨3, 0, .rw, 0xF, .x, 0, []⟩]⟩,
  -- DRV_SLOT_ENTRY
  ⟨0x40800114, [(6, 0x10000), (15, 0x10)], true, [
     ⟨31, 0, .rw, 0x0, .x, 0, []⟩]⟩,
  -- DRV_SLOT_STAT
  ⟨0x40800118, [(6, 0x10000), (15, 0x10)], false, [
     ⟨31, 16, .rc, 0x0, .x, 0, []⟩,
     ⟨8, 8, .ro, 0x0, .x, 0, []⟩,
     ⟨7, 4, .ro, 0x0, .x, 0, []⟩,
     ⟨2, 0, .ro, 0x0, .x, 0, []⟩]⟩]

/-- Every register of the block (13, 11 and 12). -/
def drvRegs : List RegSpec := drvRegs0 ++ drvRegs1 ++ drvRegs2

/-- Registers ICU_CAP to ICU_VEC (13). -/
def icuRegs : List RegSpec := [
  -- ICU_CAP
  ⟨0x40700000, [], false, [
     ⟨10, 0, .ro, 0x500, .c, 0, []⟩]⟩,
  -- ICU_STAT
  ⟨0x40700004, [], false, [
     ⟨1, 1, .w1c, 0x0, .k, 0, []⟩,
     ⟨0, 0, .w1c, 0x0, .k, 0, []⟩]⟩,
  -- ICU_COMMIT
  ⟨0x40700008, [], true, [
     ⟨26, 16, .ro, 0x0, .k, 0, []⟩,
     ⟨3, 1, .ro, 0x0, .k, 0, []⟩,
     ⟨0, 0, .rw, 0x0, .k, 0, []⟩]⟩,
  -- ICU_PEND
  ⟨0x40700100, [(40, 0x4)], false, [
     ⟨31, 0, .w1c, 0x0, .k, 0, []⟩]⟩,
  -- ICU_SET
  ⟨0x40700200, [(40, 0x4)], false, [
     ⟨31, 0, .wo, 0x0, .k, 0, []⟩]⟩,
  -- ICU_OVR
  ⟨0x40700300, [(40, 0x4)], false, [
     ⟨31, 0, .w1c, 0x0, .k, 0, []⟩]⟩,
  -- ICU_TGT
  ⟨0x40701000, [(1280, 0x8)], true, [
     ⟨31, 31, .rwl, 0x0, .k, 0, []⟩,
     ⟨26, 24, .rwl, 0x0, .k, 0, [(0, 5)]⟩,
     ⟨23, 23, .rwl, 0x0, .k, 0, []⟩,
     ⟨22, 22, .rwl, 0x0, .k, 0, []⟩,
     ⟨19, 16, .rwl, 0x1, .k, 0, []⟩,
     ⟨3, 0, .rwl, 0xF, .k, 0, []⟩]⟩,
  -- ICU_VEC
  ⟨0x40701004, [(1280, 0x8)], true, [
     ⟨31, 0, .rwl, 0x0, .k, 0, []⟩]⟩]

/-- Registers HIF_CAP to HIF_UNCCNT (14 R372). -/
def hifRegs0 : List RegSpec := [
  -- HIF_CAP
  ⟨0x40900000, [], false, [
     ⟨23, 20, .ro, 0x4, .c, 0, []⟩,
     ⟨19, 16, .ro, 0x4, .c, 0, []⟩,
     ⟨10, 8, .ro, 0x7, .c, 0, []⟩,
     ⟨4, 0, .ro, 0xF, .c, 0, []⟩]⟩,
  -- HIF_STAT
  ⟨0x40900004, [], false, [
     ⟨23, 16, .w1c, 0x0, .h, 0, []⟩,
     ⟨11, 8, .ro, 0x0, .h, 0, []⟩,
     ⟨7, 4, .ro, 0x0, .h, 0, []⟩,
     ⟨3, 3, .w1c, 0x0, .h, 0, []⟩,
     ⟨2, 2, .w1c, 0x0, .h, 0, []⟩,
     ⟨1, 1, .w1c, 0x0, .h, 0, []⟩,
     ⟨0, 0, .ro, 0x0, .h, 0, []⟩]⟩,
  -- HIF_HPOL
  ⟨0x40900008, [], true, [
     ⟨1, 1, .w1s, 0x0, .k, 0, []⟩,
     ⟨0, 0, .rw, 0x0, .k, 0, []⟩]⟩,
  -- HIF_CTL
  ⟨0x4090000C, [], false, [
     ⟨12, 8, .rw, 0x0, .h, 0, []⟩,
     ⟨1, 1, .rw, 0x0, .h, 0, []⟩,
     ⟨0, 0, .rw, 0x0, .h, 0, []⟩]⟩,
  -- HIF_COMMIT
  ⟨0x40900010, [], false, [
     ⟨11, 8, .ro, 0x0, .h, 0, []⟩,
     ⟨3, 1, .ro, 0x0, .h, 0, []⟩,
     ⟨0, 0, .rw, 0x0, .h, 0, []⟩]⟩,
  -- HIF_PW_BASE_LO
  ⟨0x40900018, [], false, [
     ⟨31, 20, .rwl, 0x0, .h, 0, []⟩,
     ⟨5, 0, .rwl, 0x14, .h, 0, [(20, 37)]⟩]⟩,
  -- HIF_PW_BASE_HI
  ⟨0x4090001C, [], false, [
     ⟨31, 0, .rwl, 0x0, .h, 0, []⟩]⟩,
  -- HIF_SB_LO
  ⟨0x40900020, [], false, [
     ⟨31, 6, .rwl, 0x0, .h, 0, []⟩]⟩,
  -- HIF_SB_HI
  ⟨0x40900024, [], false, [
     ⟨31, 0, .rwl, 0x0, .h, 0, []⟩]⟩,
  -- HIF_TERRCNT
  ⟨0x40900030, [], false, [
     ⟨31, 0, .rc, 0x0, .k, 0, []⟩]⟩,
  -- HIF_CECNT
  ⟨0x40900034, [], false, [
     ⟨31, 0, .rc, 0x0, .k, 0, []⟩]⟩,
  -- HIF_UNCCNT
  ⟨0x40900038, [], false, [
     ⟨31, 0, .rc, 0x0, .k, 0, []⟩]⟩]

/-- Registers HIF_EVR_LO to HIF_SQ_HI (14 R372). -/
def hifRegs1 : List RegSpec := [
  -- HIF_EVR_LO
  ⟨0x40900040, [], false, [
     ⟨31, 12, .rwl, 0x0, .h, 0, []⟩,
     ⟨4, 0, .rwl, 0x4, .h, 0, [(4, 16)]⟩]⟩,
  -- HIF_EVR_HI
  ⟨0x40900044, [], false, [
     ⟨31, 0, .rwl, 0x0, .h, 0, []⟩]⟩,
  -- HIF_EVR_CTL
  ⟨0x40900048, [], false, [
     ⟨8, 4, .rwl, 0x0, .h, 0, []⟩,
     ⟨1, 1, .w1c, 0x0, .h, 0, []⟩,
     ⟨0, 0, .rw, 0x0, .h, 0, []⟩]⟩,
  -- HIF_EVPOST
  ⟨0x40900050, [(3, 0x4)], true, [
     ⟨31, 0, .rw, 0x0, .k, 0, []⟩]⟩,
  -- HIF_EVPOST_3
  ⟨0x4090005C, [], true, [
     ⟨0, 0, .wo, 0x0, .k, 0, []⟩]⟩,
  -- HIF_FWIN_BASE
  ⟨0x40900060, [], true, [
     ⟨31, 7, .rw, 0x0, .k, 0, []⟩,
     ⟨3, 0, .rw, 0x4, .k, 0, [(4, 10)]⟩]⟩,
  -- HIF_FWIN_HEAD
  ⟨0x40900064, [], true, [
     ⟨9, 0, .ro, 0x0, .k, 0, []⟩]⟩,
  -- HIF_FWIN_TAIL
  ⟨0x40900068, [], true, [
     ⟨9, 0, .rw, 0x0, .k, 0, []⟩]⟩,
  -- HIF_FWRES
  ⟨0x4090006C, [], true, [
     ⟨31, 0, .rw, 0x0, .k, 0, []⟩]⟩,
  -- HIF_FWCPL
  ⟨0x40900070, [], true, [
     ⟨31, 28, .wo, 0x0, .k, 0, []⟩,
     ⟨23, 16, .wo, 0x0, .k, 0, []⟩]⟩,
  -- HIF_SQ_LO
  ⟨0x40900100, [(16, 0x20)], false, [
     ⟨31, 12, .rwl, 0x0, .h, 0, []⟩,
     ⟨4, 0, .rwl, 0x4, .h, 0, [(4, 16)]⟩]⟩,
  -- HIF_SQ_HI
  ⟨0x40900104, [(16, 0x20)], false, [
     ⟨31, 0, .rwl, 0x0, .h, 0, []⟩]⟩]

/-- Registers HIF_SQ_CTL to HIF_TR_STAT (14 R372). -/
def hifRegs2 : List RegSpec := [
  -- HIF_SQ_CTL
  ⟨0x40900108, [(16, 0x20)], false, [
     ⟨7, 4, .rwl, 0x0, .h, 0, []⟩,
     ⟨0, 0, .rw, 0x0, .h, 0, []⟩]⟩,
  -- HIF_SQ_STAT
  ⟨0x4090010C, [(16, 0x20)], false, [
     ⟨19, 18, .ro, 0x0, .h, 0, []⟩,
     ⟨17, 17, .ro, 0x0, .h, 0, []⟩,
     ⟨15, 0, .ro, 0x0, .h, 0, []⟩]⟩,
  -- HIF_CQ_LO
  ⟨0x40900110, [(16, 0x20)], false, [
     ⟨31, 12, .rwl, 0x0, .h, 0, []⟩,
     ⟨4, 0, .rwl, 0x4, .h, 0, [(4, 16)]⟩]⟩,
  -- HIF_CQ_HI
  ⟨0x40900114, [(16, 0x20)], false, [
     ⟨31, 0, .rwl, 0x0, .h, 0, []⟩]⟩,
  -- HIF_CQ_CTL
  ⟨0x40900118, [(16, 0x20)], false, [
     ⟨8, 4, .rwl, 0x0, .h, 0, []⟩,
     ⟨1, 1, .rw, 0x0, .h, 0, []⟩,
     ⟨0, 0, .rwl, 0x0, .h, 0, []⟩]⟩,
  -- HIF_CQ_STAT
  ⟨0x4090011C, [(16, 0x20)], false, [
     ⟨17, 17, .w1c, 0x0, .h, 0, []⟩,
     ⟨16, 16, .ro, 0x1, .h, 0, []⟩,
     ⟨15, 0, .ro, 0x0, .h, 0, []⟩]⟩,
  -- HIF_QHIST
  ⟨0x40900300, [(16, 0x4)], false, [
     ⟨31, 31, .ro, 0x0, .k, 0, []⟩,
     ⟨30, 30, .w1c, 0x0, .k, 0, []⟩,
     ⟨15, 0, .ro, 0x0, .k, 0, []⟩]⟩,
  -- HIF_TR_LO
  ⟨0x40900400, [(8, 0x20)], false, [
     ⟨31, 12, .rwl, 0x0, .h, 0, []⟩]⟩,
  -- HIF_TR_HI
  ⟨0x40900404, [(8, 0x20)], false, [
     ⟨31, 0, .rwl, 0x0, .h, 0, []⟩]⟩,
  -- HIF_TR_GEO
  ⟨0x40900408, [(8, 0x20)], false, [
     ⟨12, 8, .rwl, 0x4, .h, 0, [(4, 16)]⟩,
     ⟨4, 0, .rwl, 0x10, .h, 0, [(12, 21)]⟩]⟩,
  -- HIF_TR_CFG
  ⟨0x4090040C, [(8, 0x20)], false, [
     ⟨31, 30, .rwl, 0x0, .h, 0, [(0, 2)]⟩,
     ⟨29, 27, .rwl, 0x0, .h, 0, []⟩,
     ⟨26, 16, .rwl, 0x10, .h, 0, [(1, 1024)]⟩,
     ⟨15, 0, .rwl, 0x14, .h, 0, [(1, 65535)]⟩]⟩,
  -- HIF_TR_STAT
  ⟨0x40900410, [(8, 0x20)], false, [
     ⟨31, 31, .ro, 0x0, .h, 0, []⟩,
     ⟨30, 26, .rwl, 0x0, .h, 0, []⟩,
     ⟨25, 16, .rw, 0x0, .h, 0, []⟩,
     ⟨15, 0, .rc, 0x0, .h, 0, []⟩]⟩]

/-- Registers HIF_MASK to HIF_CAP_TTRIG_HI (14 R372). -/
def hifRegs3 : List RegSpec := [
  -- HIF_MASK
  ⟨0x40900500, [(8, 0x20), (5, 0x4)], false, [
     ⟨31, 0, .rwl, 0x0, .h, 0, []⟩]⟩,
  -- HIF_MASK_5
  ⟨0x40900514, [(8, 0x20)], false, [
     ⟨23, 0, .rwl, 0x0, .h, 0, []⟩]⟩,
  -- HIF_CAP_CFG
  ⟨0x40900600, [], false, [
     ⟨31, 31, .rw, 0x0, .k, 0, []⟩,
     ⟨26, 24, .rw, 0x0, .k, 0, []⟩,
     ⟨13, 0, .rw, 0x0, .k, 0, [(0, 11396)]⟩]⟩,
  -- HIF_CAP_CTL
  ⟨0x40900604, [], false, [
     ⟨1, 1, .wo, 0x0, .k, 0, []⟩,
     ⟨0, 0, .wo, 0x0, .k, 0, []⟩]⟩,
  -- HIF_CAP_STAT
  ⟨0x40900608, [], false, [
     ⟨31, 16, .rc, 0x0, .k, 0, []⟩,
     ⟨5, 4, .ro, 0x0, .k, 0, []⟩,
     ⟨2, 0, .ro, 0x0, .k, 0, []⟩]⟩,
  -- HIF_CAP_TTRIG_LO
  ⟨0x4090060C, [], false, [
     ⟨31, 0, .ro, 0x0, .k, 0, []⟩]⟩,
  -- HIF_CAP_TTRIG_HI
  ⟨0x40900610, [], false, [
     ⟨31, 0, .ro, 0x0, .k, 0, []⟩]⟩]

/-- Every register of the block (14 R372). -/
def hifRegs : List RegSpec := hifRegs0 ++ hifRegs1 ++ hifRegs2 ++ hifRegs3

/-- Registers NVC_KSTAT to NVC_J_OFS (15 R402). -/
def nvcRegs0 : List RegSpec := [
  -- NVC_KSTAT
  ⟨0x40A00000, [], false, [
     ⟨31, 31, .ro, 0x0, .k, 0, []⟩,
     ⟨30, 30, .ro, 0x0, .k, 0, []⟩,
     ⟨29, 29, .ro, 0x0, .k, 0, []⟩,
     ⟨28, 28, .ro, 0x0, .k, 0, []⟩,
     ⟨27, 27, .ro, 0x0, .k, 0, []⟩,
     ⟨26, 26, .ro, 0x0, .k, 0, []⟩,
     ⟨24, 24, .ro, 0x0, .p, 0, []⟩,
     ⟨23, 16, .ro, 0x0, .p, 0, []⟩,
     ⟨15, 12, .ro, 0x0, .k, 0, []⟩,
     ⟨7, 0, .ro, 0x0, .k, 0, []⟩]⟩,
  -- NVC_KIMG
  ⟨0x40A00004, [], false, [
     ⟨31, 0, .ro, 0x0, .p, 0, []⟩]⟩,
  -- NVC_KSKIP
  ⟨0x40A00008, [], false, [
     ⟨15, 0, .ro, 0x0, .k, 0, []⟩]⟩,
  -- NVC_KCTL
  ⟨0x40A0000C, [], true, [
     ⟨31, 16, .wo, 0x0, .k, 0, []⟩,
     ⟨0, 0, .rw, 0x0, .k, 0, []⟩]⟩,
  -- NVC_SETTAB
  ⟨0x40A00010, [], false, [
     ⟨31, 4, .ro, 0x0, .k, 0, []⟩]⟩,
  -- NVC_FL_INFO
  ⟨0x40A00014, [], false, [
     ⟨31, 27, .ro, 0x0, .k, 0, []⟩,
     ⟨26, 22, .ro, 0x0, .k, 0, []⟩,
     ⟨21, 17, .ro, 0x0, .k, 0, []⟩,
     ⟨16, 16, .ro, 0x0, .k, 0, []⟩,
     ⟨15, 8, .ro, 0x0, .k, 0, []⟩,
     ⟨2, 0, .ro, 0x0, .k, 0, []⟩]⟩,
  -- NVC_FCMD
  ⟨0x40A00020, [], true, [
     ⟨31, 28, .wo, 0x0, .k, 0, []⟩,
     ⟨27, 27, .wo, 0x0, .k, 0, []⟩,
     ⟨26, 26, .wo, 0x0, .k, 0, []⟩]⟩,
  -- NVC_FADDR
  ⟨0x40A00024, [], true, [
     ⟨28, 0, .rw, 0x0, .k, 0, []⟩]⟩,
  -- NVC_FSRAM
  ⟨0x40A00028, [], true, [
     ⟨31, 2, .rw, 0x0, .k, 0, []⟩]⟩,
  -- NVC_FLEN
  ⟨0x40A0002C, [], true, [
     ⟨24, 0, .rw, 0x0, .k, 0, [(1, 16777216)]⟩]⟩,
  -- NVC_FSTAT
  ⟨0x40A00030, [], false, [
     ⟨31, 31, .ro, 0x0, .k, 0, []⟩,
     ⟨30, 30, .ro, 0x0, .k, 0, []⟩,
     ⟨29, 29, .ro, 0x0, .k, 0, []⟩,
     ⟨28, 28, .w1c, 0x0, .k, 0, []⟩,
     ⟨3, 0, .ro, 0x0, .k, 0, []⟩]⟩,
  -- NVC_J_OFS
  ⟨0x40A00040, [], false, [
     ⟨31, 0, .ro, 0x0, .k, 0, []⟩]⟩]

/-- Registers NVC_J_SIZE to NVC_RBUF (15 R402). -/
def nvcRegs1 : List RegSpec := [
  -- NVC_J_SIZE
  ⟨0x40A00044, [], false, [
     ⟨23, 0, .ro, 0x0, .k, 0, []⟩]⟩,
  -- NVC_J_STAT
  ⟨0x40A00048, [], false, [
     ⟨31, 31, .ro, 0x0, .k, 0, []⟩,
     ⟨30, 30, .ro, 0x0, .k, 0, []⟩,
     ⟨29, 29, .w1c, 0x0, .k, 0, []⟩,
     ⟨28, 28, .ro, 0x0, .k, 0, []⟩]⟩,
  -- NVC_J_FILL
  ⟨0x40A00050, [(2, 0x4)], false, [
     ⟨22, 0, .ro, 0x0, .k, 0, []⟩]⟩,
  -- NVC_J_GEN
  ⟨0x40A00058, [(2, 0x4)], false, [
     ⟨31, 0, .ro, 0x0, .k, 0, []⟩]⟩,
  -- NVC_J_SEQ
  ⟨0x40A00060, [(2, 0x4)], false, [
     ⟨31, 0, .ro, 0x0, .k, 0, []⟩]⟩,
  -- NVC_MR_HEAD
  ⟨0x40A00080, [], false, [
     ⟨13, 0, .ro, 0x0, .c, 0, []⟩]⟩,
  -- NVC_MR_SEQ
  ⟨0x40A00084, [], false, [
     ⟨31, 0, .ro, 0x0, .c, 0, []⟩]⟩,
  -- NVC_MR_POST
  ⟨0x40A00090, [(3, 0x4)], true, [
     ⟨31, 0, .rw, 0x0, .k, 0, []⟩]⟩,
  -- NVC_MR_POST_3
  ⟨0x40A0009C, [], true, [
     ⟨0, 0, .wo, 0x0, .k, 0, []⟩]⟩,
  -- NVC_RBUF
  ⟨0x40A01000, [(1024, 0x4)], true, [
     ⟨31, 0, .rw, 0x0, .p, 0, []⟩]⟩]

/-- Every register of the block (15 R402). -/
def nvcRegs : List RegSpec := nvcRegs0 ++ nvcRegs1

/-- Registers OTP_STAT to OTP_WORD (15 R403). -/
def otpRegs : List RegSpec := [
  -- OTP_STAT
  ⟨0x40F00000, [], false, [
     ⟨31, 31, .ro, 0x0, .k, 0, []⟩,
     ⟨30, 30, .w1c, 0x0, .k, 0, []⟩,
     ⟨29, 29, .ro, 0x0, .k, 0, []⟩,
     ⟨2, 0, .ro, 0x0, .k, 0, []⟩]⟩,
  -- OTP_CMD
  ⟨0x40F00004, [], true, [
     ⟨31, 28, .wo, 0x0, .k, 0, []⟩,
     ⟨7, 0, .wo, 0x0, .k, 0, []⟩]⟩,
  -- OTP_DATA
  ⟨0x40F00008, [], true, [
     ⟨31, 0, .rw, 0x0, .k, 0, []⟩]⟩,
  -- OTP_RBC
  ⟨0x40F0000C, [], false, [
     ⟨7, 0, .ro, 0x0, .k, 0, []⟩]⟩,
  -- OTP_LOCKS
  ⟨0x40F00010, [], false, [
     ⟨31, 0, .ro, 0x0, .k, 0, []⟩]⟩,
  -- OTP_UID
  ⟨0x40F00014, [], false, [
     ⟨31, 0, .ro, 0x0, .k, 0, []⟩]⟩,
  -- OTP_WORD
  ⟨0x40F00400, [(256, 0x4)], true, [
     ⟨31, 0, .ro, 0x0, .k, 0, []⟩]⟩]

/-- Registers PMU_STAT to PMU_WDT_CTL (16). -/
def pmuRegs0 : List RegSpec := [
  -- PMU_STAT
  ⟨0x40B00000, [], false, [
     ⟨15, 12, .ro, 0x0, .p, 0, []⟩,
     ⟨11, 11, .w1c, 0x0, .p, 0, []⟩,
     ⟨10, 10, .ro, 0x0, .p, 0, []⟩,
     ⟨9, 9, .ro, 0x0, .p, 0, []⟩,
     ⟨7, 5, .ro, 0x0, .p, 0, []⟩,
     ⟨2, 0, .ro, 0x1, .p, 0, []⟩]⟩,
  -- PMU_CTL
  ⟨0x40B00004, [], true, [
     ⟨8, 8, .wo, 0x0, .p, 0, []⟩,
     ⟨4, 4, .wo, 0x0, .p, 0, []⟩,
     ⟨0, 0, .rw, 0x0, .p, 0, []⟩]⟩,
  -- PMU_KCFG
  ⟨0x40B00008, [], true, [
     ⟨0, 0, .rw, 0x0, .p, 0, []⟩]⟩,
  -- PMU_RSTINFO
  ⟨0x40B0000C, [], false, [
     ⟨23, 16, .ro, 0x0, .c, 0, []⟩,
     ⟨11, 11, .ro, 0x0, .c, 0, []⟩,
     ⟨10, 8, .ro, 0x0, .c, 0, []⟩,
     ⟨3, 0, .ro, 0x1, .c, 0, []⟩]⟩,
  -- PMU_HOLD_LIM
  ⟨0x40B00010, [], true, [
     ⟨15, 0, .rw, 0x64, .p, 0, []⟩]⟩,
  -- PMU_DIP_CFG
  ⟨0x40B00014, [], true, [
     ⟨23, 16, .rw, 0xA, .c, 0, [(1, 255)]⟩,
     ⟨7, 0, .rw, 0x64, .c, 0, [(10, 255)]⟩]⟩,
  -- PMU_VMIN
  ⟨0x40B00020, [(6, 0x4)], false, [
     ⟨15, 0, .rc, 0xFFFF, .c, 0, []⟩]⟩,
  -- PMU_ETMR
  ⟨0x40B00040, [], false, [
     ⟨31, 0, .ro, 0x0, .c, 0, []⟩]⟩,
  -- PMU_ETMR_CMP
  ⟨0x40B00044, [], true, [
     ⟨31, 0, .rw, 0x0, .c, 0, []⟩]⟩,
  -- PMU_ETMR_CTL
  ⟨0x40B00048, [], true, [
     ⟨0, 0, .rw, 0x0, .c, 0, []⟩]⟩,
  -- PMU_WAKE_EN
  ⟨0x40B00050, [], true, [
     ⟨8, 8, .rw, 0x0, .c, 0, []⟩,
     ⟨7, 0, .rw, 0x0, .c, 0, []⟩]⟩,
  -- PMU_WDT_CTL
  ⟨0x40B00060, [], true, [
     ⟨31, 31, .w1s, 0x0, .p, 0, []⟩,
     ⟨15, 0, .rw, 0x3E8, .p, 0, [(1, 65535)]⟩]⟩]

/-- Registers PMU_WDT_KICK to PMU_WDT_CNT (16). -/
def pmuRegs1 : List RegSpec := [
  -- PMU_WDT_KICK
  ⟨0x40B00064, [], true, [
     ⟨15, 0, .wo, 0x0, .p, 0, []⟩]⟩,
  -- PMU_WDT_CNT
  ⟨0x40B00068, [], false, [
     ⟨15, 0, .ro, 0x0, .p, 0, []⟩]⟩]

/-- Every register of the block (16). -/
def pmuRegs : List RegSpec := pmuRegs0 ++ pmuRegs1

/-- Registers MFU_CAP to MFU_CH_CMD (17 R439). -/
def mfuRegs0 : List RegSpec := [
  -- MFU_CAP
  ⟨0x40C00000, [], false, [
     ⟨3, 0, .ro, 0x8, .c, 0, []⟩]⟩,
  -- MFU_STAT
  ⟨0x40C00004, [], false, [
     ⟨0, 0, .w1c, 0x0, .p, 0, []⟩]⟩,
  -- MFU_CH_CFG
  ⟨0x40C01000, [(8, 0x100)], true, [
     ⟨31, 31, .rw, 0x0, .p, 0, []⟩,
     ⟨30, 28, .rw, 0x0, .p, 0, [(0, 4)]⟩,
     ⟨27, 27, .rw, 0x0, .p, 0, []⟩,
     ⟨26, 26, .rw, 0x0, .p, 0, []⟩,
     ⟨25, 25, .rw, 0x0, .p, 0, []⟩,
     ⟨24, 24, .rw, 0x0, .p, 0, []⟩,
     ⟨23, 22, .rw, 0x0, .p, 0, [(0, 2)]⟩,
     ⟨19, 16, .rw, 0x2, .p, 0, []⟩,
     ⟨4, 0, .rw, 0x0, .p, 0, []⟩]⟩,
  -- MFU_CH_STAT
  ⟨0x40C01004, [(8, 0x100)], false, [
     ⟨31, 31, .ro, 0x0, .p, 0, []⟩,
     ⟨30, 30, .ro, 0x0, .p, 0, []⟩,
     ⟨29, 29, .w1c, 0x0, .p, 0, []⟩,
     ⟨28, 28, .w1c, 0x0, .p, 0, []⟩,
     ⟨27, 27, .w1c, 0x0, .p, 0, []⟩,
     ⟨26, 26, .w1c, 0x0, .p, 0, []⟩,
     ⟨25, 25, .w1c, 0x0, .p, 0, []⟩,
     ⟨24, 24, .w1c, 0x0, .p, 0, []⟩,
     ⟨23, 23, .ro, 0x1, .p, 0, []⟩,
     ⟨2, 0, .ro, 0x0, .p, 0, []⟩]⟩,
  -- MFU_CH_POS
  ⟨0x40C01008, [(8, 0x100)], true, [
     ⟨31, 0, .rw, 0x0, .p, 0, []⟩]⟩,
  -- MFU_CH_WRAPS
  ⟨0x40C0100C, [(8, 0x100)], false, [
     ⟨15, 0, .ro, 0x0, .p, 0, []⟩]⟩,
  -- MFU_CH_LATPOS
  ⟨0x40C01010, [(8, 0x100)], false, [
     ⟨31, 0, .ro, 0x0, .p, 0, []⟩]⟩,
  -- MFU_CH_LATTBC
  ⟨0x40C01014, [(8, 0x100)], false, [
     ⟨31, 8, .ro, 0x0, .p, 0, []⟩,
     ⟨7, 0, .ro, 0x0, .p, 0, []⟩]⟩,
  -- MFU_CH_SPDCFG
  ⟨0x40C01018, [(8, 0x100)], true, [
     ⟨31, 16, .rw, 0xC350, .p, 0, [(1, 65535)]⟩,
     ⟨15, 0, .rw, 0x4E20, .p, 0, [(1, 65535)]⟩]⟩,
  -- MFU_CH_SPD
  ⟨0x40C0101C, [(8, 0x100)], false, [
     ⟨31, 0, .ro, 0x0, .p, 0, []⟩]⟩,
  -- MFU_CH_DRV
  ⟨0x40C01020, [(8, 0x100)], true, [
     ⟨31, 31, .rw, 0x0, .p, 0, []⟩,
     ⟨30, 30, .rw, 0x0, .p, 0, []⟩,
     ⟨29, 29, .rw, 0x0, .p, 0, []⟩,
     ⟨28, 28, .rw, 0x0, .p, 0, []⟩,
     ⟨27, 24, .rw, 0x0, .p, 0, []⟩,
     ⟨15, 0, .rw, 0xFA0, .p, 0, [(100, 65535)]⟩]⟩,
  -- MFU_CH_CMD
  ⟨0x40C01024, [(8, 0x100)], true, [
     ⟨31, 0, .rw, 0x0, .p, 0, []⟩]⟩]

/-- Registers MFU_CH_MAXD to MFU_CH_CMP (17 R439). -/
def mfuRegs1 : List RegSpec := [
  -- MFU_CH_MAXD
  ⟨0x40C01028, [(8, 0x100)], true, [
     ⟨15, 0, .rw, 0x0, .p, 0, []⟩]⟩,
  -- MFU_CH_FB
  ⟨0x40C0102C, [(8, 0x100)], true, [
     ⟨31, 0, .rw, 0x0, .p, 0, []⟩]⟩,
  -- MFU_CH_DUTY
  ⟨0x40C01030, [(8, 0x100)], false, [
     ⟨31, 0, .ro, 0x0, .p, 0, []⟩]⟩,
  -- MFU_CH_CMPCTL
  ⟨0x40C01034, [(8, 0x100)], true, [
     ⟨31, 31, .rw, 0x0, .p, 0, []⟩,
     ⟨29, 28, .rw, 0x0, .p, 0, [(0, 2)]⟩,
     ⟨11, 8, .rw, 0x0, .p, 0, []⟩,
     ⟨4, 0, .rw, 0x0, .p, 0, [(0, 16)]⟩]⟩,
  -- MFU_CH_CMP
  ⟨0x40C01040, [(8, 0x100), (16, 0x4)], true, [
     ⟨31, 0, .rw, 0x0, .p, 0, []⟩]⟩]

/-- Every register of the block (17 R439). -/
def mfuRegs : List RegSpec := mfuRegs0 ++ mfuRegs1

/-- The registers of the block an address lies in (R234): 1 MiB each from 0x4010_0000; the cores' system registers
lie in a key space of the model above 32 bits. -/
def blockRegs (a : Nat) : List RegSpec :=
  match a / 0x100000 with
  | 0x40E => tbuRegs
  | 0x40D => flkRegs
  | 0x401 => phaRegs
  | 0x402 => snsRegs
  | 0x403 => anvRegs
  | 0x404 => blwRegs
  | 0x405 => rlcRegs
  | 0x406 => evfRegs
  | 0x408 => drvRegs
  | 0x407 => icuRegs
  | 0x409 => hifRegs
  | 0x40A => nvcRegs
  | 0x40F => otpRegs
  | 0x40B => pmuRegs
  | 0x40C => mfuRegs
  | b => if b = 0x1000 then sysRegs else []

/-- The table entry of the register at an address, where there is one. -/
def regAt (a : Nat) : Option RegSpec := (blockRegs a).find? (·.covers a)

/-- The reset values that differ along an index: SLIM_HI_0 (R238), and the fuses of a part as it leaves Waimond: VLOCK and
the revision word (R388, R403, R462; log entry 2). -/
def resetSpecial (a : Nat) : Option Word :=
  if a / 0x100000 = 0x1000 ∧ a % 0x1000 = 0x11 then some 0x00040000
  else if a = 0x40F00010 ∨ a = 0x40F004C4 then some 1
  else if a = 0x40F004C8 then some 0x42904301
  else none

/-- The value every register holds after the reset of its domain (R12, R13). -/
def resetVal (a : Nat) : Word :=
  match resetSpecial a with
  | some v => v
  | none => match regAt a with
    | some r => r.resetWord a
    | none => 0

end Sys2Proof.Machine
end

