-- ==== Sys2Proof/Machine/State.lean ====
section
/-! DEFINITION. The machine's state as plain data: every register, counter, buffer and flag the spec gives the device, and the queue of waiting commands. -/

namespace Sys2Proof.Machine

/-- A message frame of R44: header, payload and the port it waits on for its acknowledge (R56). -/
structure MsgFrame where
  dest : Nat := 0
  src : Nat := 0
  queue : Nat := 0
  seq : Nat := 0
  hopLimit : Nat := 0
  payload : List (BitVec 8) := []
deriving DecidableEq, Repr

/-- A duty frame's fields of R44. -/
structure DutyFrame where
  span : Nat := 0
  /-- Flag G: the lead is in Graze. -/
  g : Bool := false
  /-- Flag h: hop count of the transmitter's output. -/
  h : Nat := 1
  /-- Flag Q: the lead's rail slot does not regulate. -/
  q : Bool := false
  /-- tick[7:0]. -/
  tick : Nat := 0
  /-- Duty in steps, 24 bits. -/
  duty : Nat := 0
deriving DecidableEq, Repr

/-- TBU: the counters and servo state behind the TBU registers. -/
structure Tbu where
  /-- w64; TBC, ticks since Kindle; 01_one_tick R20; reset 0 (P) -/
  tbc : BitVec 64 := 0
  /-- instant of the last base-grid instant, in steps of 15.625 ps since the grid started; 02_timebase_flock R39, R51; reset 0 -/
  now : Nat := 0
  /-- w64; TBU_BGC, base-grid instants; 02_timebase_flock R39; reset 0 (P) -/
  bgc : BitVec 64 := 0
  /-- w64; TBU_FOFS, flock offset: flock time is BGC + FOFS; 02_timebase_flock R39; reset 0 (P) -/
  fofs : BitVec 64 := 0
  /-- w65 optional; base-grid count of the last T0, so that one instant is at most one T0; 02_timebase_flock R39; reset none DESIGN CHOICE -/
  lastT0 : Option (BitVec 64) := none
  /-- instant of the last T0, in steps as `now`; 02_timebase_flock R39; reset 0 -/
  t0At : Nat := 0
  /-- w2 optional; mode change captured by a swap window and not yet in force; 02_timebase_flock R40; reset none -/
  modeCap : Option Bool := none
  /-- w1; a swap window has opened and its boundary is not yet reached; 01_one_tick R27, R28; reset 0 -/
  windowOpen : Bool := false
  /-- w7; consecutive base periods with |PHERR| below 0.25 ns; 02_timebase_flock R51; reset 0 -/
  goodPeriods : Nat := 0
  /-- w3; consecutive base periods with |PHERR| above 1.0 ns; 02_timebase_flock R51; reset 0 -/
  badPeriods : Nat := 0
  /-- w17 signed; servo correction applied to the base period in progress, in steps; 02_timebase_flock R51; reset 0 -/
  corr : Int := 0
  /-- w1; the device has joined a flock and awaits its first good TIME frame; 02_timebase_flock R47; reset 0 -/
  needTime : Bool := false
deriving DecidableEq, Repr

/-- One Flock port's state beyond FLK_PORT_STAT and FLK_PORT_ERR. -/
structure FlkPort where
  /-- last ANNOUNCE received and still counted; 02_timebase_flock R48, R49; reset none -/
  ann : Option Announce := none
  /-- message frames for this port, oldest first: the first has been sent and awaits its acknowledge, with its resends so far, the others wait their turn; 02_timebase_flock R56; reset none -/
  unacked : List (MsgFrame × Nat) := []
  /-- w5; DELAYREQ round trips answered since the port entered MEASURE; 02_timebase_flock R47; reset 0 -/
  trips : Nat := 0
deriving DecidableEq, Repr

/-- One span entry's state beyond FLK_SPAN_n. -/
structure FlkSpan where
  /-- w3; consecutive missing duty frames; 02_timebase_flock R54; reset 0 -/
  missing : Nat := 0
  /-- G flag of the last good frame, none before one; 02_timebase_flock R54; reset none -/
  lastG : Option Bool := none
  /-- good frame received and not yet applied; 02_timebase_flock R53; reset none -/
  rx : Option DutyFrame := none
deriving DecidableEq, Repr

/-- FLK: the link's state behind the FLK registers. -/
structure Flk where
  /-- the three ports FLK_A, FLK_B, FLK_C; 02_timebase_flock R47 -/
  ports : List FlkPort := List.replicate 3 {}
  /-- the six span entries; 02_timebase_flock R54 -/
  spans : List FlkSpan := List.replicate 6 {}
  /-- w8; priority of the chosen bellwether; 02_timebase_flock R48; reset 0xFF -/
  bwPrio : Nat := 0xFF
  /-- device IDs seen in conflict; 02_timebase_flock R50; reset none -/
  conflicts : List Nat := []
  /-- route table of 1,024 entries: source ID to port, 2 bits each, sorted, absent means unknown; 02_timebase_flock R57; reset empty -/
  routes : List (Nat × Nat) := []
  /-- w8; sequence of the next message this device sends; 02_timebase_flock R56; reset 0 DESIGN CHOICE -/
  seq : Nat := 0
  /-- w1; the device is to send an ANNOUNCE because its choice changed; 02_timebase_flock R49; reset 0 -/
  changed : Bool := false
deriving DecidableEq, Repr

/-- One phase's carrier, word and trim state behind the PHA channel registers. -/
structure PhaseX where
  /-- w4; phase command (R79 OP) awaiting its T0, 0 none; 03_phase_array R79; reset 0 -/
  cmd : Nat := 0
  /-- w2; governor or hiccup decision awaiting its T0: 0 none, 1 add, 2 shed, 3 restore to PARKED; 03_phase_array R76, 06_bellows_protection R160; reset 0 -/
  gov : Nat := 0
  /-- w6 optional; rail the phase is a member of, membership in force since the last T0; 03_phase_array R87; reset none -/
  rail : Option Nat := none
  /-- w21 signed; trim integrator a[k] in 1/256 step; 03_phase_array R66; reset 0 -/
  acc : Int := 0
  /-- w24 optional; word in force (limited on-time in steps), none before the first; 01_one_tick R24, 03_phase_array R70; reset none -/
  word : Option Nat := none
  /-- w24 optional; last committed word before limiting, D_k; 03_phase_array R64; reset none -/
  committed : Option Int := none
  /-- optional; D_k committed before the last commit; 03_phase_array R70; reset none -/
  prev : Option Int := none
  /-- instant of the last commit; 03_phase_array R70; reset 0 -/
  cAt : Nat := 0
  /-- optional instant; first carrier start since the phase entered ACTIVE or BLEND, none before it; 03_phase_array R69, 04_sensing R111; reset none -/
  since : Option Nat := none
  /-- optional instant; start of the carrier period in progress, none in a gap; 03_phase_array R69; reset none -/
  start : Option Nat := none
  /-- w20; length of the carrier period in progress; 03_phase_array R69; reset 0 -/
  len : Nat := 0
  /-- optional instant; rise placed in the period in progress; 03_phase_array R71; reset none -/
  rise : Option Nat := none
  /-- optional instant; fall placed in the period in progress; 03_phase_array R71; reset none -/
  fall : Option Nat := none
  /-- optional instants; high interval of an earlier period that reaches beyond its end; 03_phase_array R71; reset none -/
  carried : Option (Nat × Nat) := none
  /-- optional instant; start of the next carrier period; 03_phase_array R69; reset none -/
  next : Option Nat := none
  /-- w20; interleave offset in force; 03_phase_array R68; reset 0 -/
  ofs : Nat := 0
  /-- w20; period of the next carrier periods; 03_phase_array R69; reset 0 -/
  per : Nat := 0
  /-- w16; MIN_ON in force, carrier-sampled; 03_phase_array R65; reset 1280 -/
  minOn : Nat := 1280
  /-- w16; MIN_OFF in force, carrier-sampled; 03_phase_array R64; reset 1280 -/
  minOff : Nat := 1280
  /-- w20; MAX_ON in force, carrier-sampled; 03_phase_array R64; reset 256000 -/
  maxOn : Nat := 256000
  /-- w1; SKIP in force, carrier-sampled; 03_phase_array R64; reset 0 -/
  skip : Bool := false
  /-- w1; overcurrent latch; 03_phase_array R82; reset 0 -/
  ocLatch : Bool := false
  /-- w1; the period in progress contained a trip; 03_phase_array R82; reset 0 -/
  tripped : Bool := false
  /-- w1; a Bellows force, an overshoot action or an overcurrent latch has acted on the phase since the last T0 or was in progress at it; 04_sensing R111; reset 0 -/
  acted : Bool := false
  /-- optional instants; rise and fall of the carrier period before the one in progress; 04_sensing R111; reset none -/
  past : Option (Nat × Nat) := none
  /-- w6; number m of the blend period in progress; 03_phase_array R66, R78; reset 0 -/
  blendM : Nat := 0
  /-- w6; BLEND of the blend in progress; 03_phase_array R78; reset 0 -/
  blendN : Nat := 0
  /-- optional instant; end of the last period of a shed phase, until which its pin follows the modulator; 03_phase_array R75; reset none -/
  shedEnd : Option Nat := none
  /-- w1; failed since the last T0, with the steps of the next T0 to come; 03_phase_array R84; reset 0 -/
  leaving : Bool := false
  /-- w3; STATE that a failed phase had and is counted under in N, slots and i_mean until the next T0, 0 none; 03_phase_array R84; reset 0 -/
  counted : Nat := 0
  /-- w1; Bellows force of the phase; 06_bellows_protection R145; reset 0 -/
  forced : Bool := false
  /-- w1; a hiccup of the phase is running; 06_bellows_protection R160; reset 0 -/
  hiccup : Bool := false
  /-- w1; phase over-temperature dropped the phase; 06_bellows_protection R160; reset 0 -/
  tooHot : Bool := false
  /-- w1; the overcurrent ladder has acted since OCCNT was last 0; 06_bellows_protection R153; reset 0 -/
  pocActed : Bool := false
deriving DecidableEq, Repr

/-- One rail slot's carrier and governor state behind the PHA rail registers. -/
structure RailX where
  /-- optional instant; a start of the master carrier, from which every master boundary is counted; 03_phase_array R67; reset none -/
  master : Option Nat := none
  /-- w1; GRIDSYNC start of the master awaited; 03_phase_array R67; reset 0 -/
  await : Bool := false
  /-- w20; PERIOD in force; 03_phase_array R67; reset 64000 -/
  per : Nat := 64000
  /-- w16; consecutive ticks in which the add condition holds; 03_phase_array R76; reset 0 -/
  addCnt : Nat := 0
  /-- w16; consecutive ticks in which the shed condition holds; 03_phase_array R76; reset 0 -/
  shedCnt : Nat := 0
  /-- w16; ticks of READD_HOLD left; 03_phase_array R80; reset 0 -/
  hold : Nat := 0
  /-- w20; PERIOD as the last base-grid instant found it, which the next master boundary takes; 03_phase_array R67, R87; reset 64000 -/
  seen : Nat := 64000
  /-- optional; master boundary at which a new PERIOD took effect, and that PERIOD, until the T0 that recomputes; 03_phase_array R67, R68; reset none -/
  took : Option (Nat × Nat) := none
  /-- w1; the rail has committed a word since its enable instant; 03_phase_array R70; reset 0 -/
  live : Bool := false
deriving DecidableEq, Repr

/-- PHA: phases, rail slots and groups. -/
structure Pha where
  /-- the 144 phases; 03_phase_array R60 -/
  phases : List PhaseX := List.replicate 144 {}
  /-- the 32 rail slots; 03_phase_array R63 -/
  rails : List RailX := List.replicate 32 {}
  /-- w9; groups whose SEN has risen and whose delay has not ended; 03_phase_array R61; reset 0 -/
  senDelay : List Bool := List.replicate 9 false
deriving DecidableEq, Repr

/-- What inductance estimation has gathered for a phase (R111): how many on-slopes and off-slopes, their sums in amperes per
25 ns (Q16.16), and over all of them the sums of the input and rail voltage in Q8.24 V and of the current in Q16.16 A. -/
structure SlopeSums where
  nOn : Nat := 0
  sOn : Int := 0
  nOff : Nat := 0
  sOff : Int := 0
  vIn : Int := 0
  vOut : Int := 0
  cur : Int := 0
deriving DecidableEq, Repr

/-- SNS: converter and calibration state behind the SNS registers. -/
structure Sns where
  /-- 184 values w16; last value of each tick channel that passed its Tally check; 01_one_tick R21; reset 0 -/
  good : List (BitVec 16) := List.replicate 184 0
  /-- up to 5 sets, newest first: the instant of an update of the window centres, and the centres of the 32 rails from then on, w17, in 31.25 uV steps; 04_sensing R97, R98; reset none, centres 0 -/
  centres : List (Nat × List Nat) := []
  /-- 32 values w4; consecutive ticks with all K codes inside, in full-range mode; 04_sensing R100; reset 0 -/
  retCnt : List Nat := List.replicate 32 0
  /-- w14; frame position of the capture fill path: the next frame written; 04_sensing R104; reset 0 (P) -/
  frame : Nat := 0
  /-- up to 11,397 runs of frames, newest first: first frame, its TBC, G and DIP of its ticks as record FLAGS, how many; 04_sensing R104, 14_host_interface R361; reset empty (P) -/
  segs : List (Nat × Nat × Nat × Nat) := []
  /-- w64; TBC of frame LAST, latched into SNS_CAP_TBC by a read of SNS_CAP_STAT; 04_sensing R104, R105; reset 0 (K) -/
  capTbc : BitVec 64 := 0
  /-- 144 optional temperatures Q9.7; last valid TFLT temperature of each phase, none before one; 04_sensing R107; reset none -/
  tflt : List (Option Int) := List.replicate 144 none
  /-- 144 pairs; ZOFS learning: sum of qualifying readings and their count; 04_sensing R109; reset 0, 0 -/
  zlearn : List (Int × Nat) := List.replicate 144 (0, 0)
  /-- 144 pairs; current offset estimate: sum of half-differences in 1/2 code and their count; 04_sensing R108; reset 0, 0 -/
  ofs : List (Int × Nat) := List.replicate 144 (0, 0)
  /-- 32 pairs; window offset estimate: sum of the tick means of direct less inverted codes, in 1/16 code, and their count; 04_sensing R108; reset 0, 0 -/
  vofs : List (Int × Nat) := List.replicate 32 (0, 0)
  /-- 144 values; steps each phase has been PARKED up to the samples of this tick, at most 100 us; 04_sensing R109; reset 0 -/
  parked : List Nat := List.replicate 144 0
  /-- 144 values; steps each phase has been outside ACTIVE and BLEND up to the samples of this tick, at most 200 ns; 04_sensing R108; reset 0 -/
  rest : List Nat := List.replicate 144 0
  /-- 144 values w2; what the pair of samples of this tick counts as in inductance estimation: 0 nothing, 1 an on-slope, 2 an off-slope; 04_sensing R111; reset 0 -/
  slope : List Nat := List.replicate 144 0
  /-- 144 sums of inductance estimation; 04_sensing R111; reset 0 -/
  lr : List SlopeSums := List.replicate 144 {}
  /-- 144 values w3; input domain in force, SNS_CS_CFG_n.DOM as the last update instant took it; 04_sensing R106, R113; reset 0 -/
  domOf : List Nat := List.replicate 144 0
  /-- words of the capture buffer, 184 f + c for channel c of frame f, whose Tally failure has been counted in the frame's tick; 04_sensing R93; reset none -/
  terr : List Nat := []
  /-- 8 windows; domain sums S_est and S_in, ticks so far, window spoiled; 04_sensing R110; reset 0 -/
  dom : List (Int × Int × Nat × Bool) := List.replicate 8 (0, 0, 0, false)
deriving DecidableEq, Repr

/-- One Anvil lane's state behind its registers. -/
structure Lane where
  /-- 16 words; state words: 2s is s1, 2s+1 is s2 of section s; 05_anvil R117, R131; reset 0 DESIGN CHOICE -/
  st : List (BitVec 32) := List.replicate 16 0
  /-- 16 words; the state words as the lane held them at T0+19 of the last tick; 05_anvil R136, 06_bellows_protection R158; reset 0 DESIGN CHOICE -/
  old : List (BitVec 32) := List.replicate 16 0
  /-- w32; lane output y_out; 05_anvil R119; reset 0 DESIGN CHOICE -/
  y : BitVec 32 := 0
  /-- w16; pre-lean counter; 05_anvil R123; reset 0 -/
  pl : Nat := 0
  /-- w2 optional; swap captured by the window, with its LOADST; 05_anvil R127; reset none -/
  cap : Option Bool := none
  /-- w1; a state load is due in the next computing tick because of a captured LOADST or a rail enable; 05_anvil R115, R127; reset 0 -/
  load : Bool := false
deriving DecidableEq, Repr

/-- ANV: lanes, banks and held writes. -/
structure Anv where
  /-- the 34 lanes; 05_anvil R114 -/
  lanes : List Lane := List.replicate 34 {}
  /-- bank words w32, key 128*lane + 64*bank + w, sorted, 0 not listed; 05_anvil R126; reset 0 (P) -/
  words : List (Nat × BitVec 32) := []
  /-- flipped stored bits of bank words w40: [31:0] data, [38:32] check bits, [39] parity; same key, 0 not listed; 05_anvil R126; reset 0 (P) -/
  flips : List (Nat × BitVec 40) := []
  /-- shadow writes held to the boundary: lane, word, value, in order; 01_one_tick R28; reset none -/
  held : List (Nat × Nat × BitVec 32) := []
  /-- 32 values w24; D_r of the previous tick, reissued on a parity fault; 05_anvil R136; reset 0 -/
  lastD : List Nat := List.replicate 32 0
deriving DecidableEq, Repr

/-- A protection's filter: how many evaluations in a row its condition has held, and whether it has acted since. -/
structure Filt where
  /-- w8; consecutive evaluations in which the condition holds; 06_bellows_protection R152, R153; reset 0 -/
  cnt : Nat := 0
  /-- w1; the protection has acted (or warned) and its condition has not been false since; 06_bellows_protection R153, R154; reset 0 -/
  acted : Bool := false
deriving DecidableEq, Repr

/-- One rail's Bellows and protection state behind the BLW registers. -/
structure BlwRail where
  /-- w1; OVMAX has expired and the voltage has not fallen below the overshoot release since; 06_bellows_protection R148; reset 0 -/
  ovExpired : Bool := false
  /-- w16; pre-lean arming counter; 06_bellows_protection R151; reset 0 -/
  plCnt : Nat := 0
  /-- w1; the arming counter is (re)loaded at the next T0; 06_bellows_protection R151; reset 0 -/
  plLoad : Bool := false
  /-- stage faults since the last enable; 06_bellows_protection R152; reset 0 -/
  sf : Filt := {}
  /-- rail overcurrent fault filter; 06_bellows_protection R152; reset 0 -/
  roc : Filt := {}
  /-- rail overcurrent warn filter; 06_bellows_protection R154; reset 0 -/
  rocW : Filt := {}
  /-- over-voltage fault filter; 06_bellows_protection R152; reset 0 -/
  ov : Filt := {}
  /-- over-voltage warn filter; 06_bellows_protection R154; reset 0 -/
  ovW : Filt := {}
  /-- under-voltage fault filter; 06_bellows_protection R152; reset 0 -/
  uv : Filt := {}
  /-- under-voltage warn filter; 06_bellows_protection R154; reset 0 -/
  uvW : Filt := {}
  /-- w7; ticks with the reference at rest since it last slewed, saturating at 65; 06_bellows_protection R154; reset 65 -/
  calm : Nat := 65
deriving DecidableEq, Repr

/-- BLW: state behind the BLW registers. -/
structure Blw where
  /-- the 32 rails; 06_bellows_protection R143 to R160 -/
  rails : List BlwRail := List.replicate 32 {}
  /-- 144 phase-temperature fault and warn filters; 06_bellows_protection R152, R155; reset 0 -/
  pot : List (Filt × Filt) := List.replicate 144 ({}, {})
  /-- 8 input filters: UV fault, OV fault, UV warn, OV warn; 06_bellows_protection R152; reset 0 -/
  vin : List (Filt × Filt × Filt × Filt) := List.replicate 8 ({}, {}, {}, {})
  /-- 8 sets; what has set the input's fault and warn bits: OV fault, OV warn, UV warn, UV fault; 07_rails_voltage_commands R187; reset none -/
  vinKind : List (Bool × Bool × Bool × Bool) := List.replicate 8 (false, false, false, false)
  /-- die fault and warn filters; 06_bellows_protection R152; reset 0 -/
  die : Filt × Filt := ({}, {})
  /-- 4 remote-diode fault and warn filters; 06_bellows_protection R152; reset 0 -/
  dio : List (Filt × Filt) := List.replicate 4 ({}, {})
deriving DecidableEq, Repr

/-- One rail slot's reference and request state behind the RLC registers. -/
structure RlcRail where
  /-- w40; R_out, Q8.32 V; 07_rails_voltage_commands R169; reset 0 -/
  rout : Nat := 0
  /-- w14 optional; target captured by the window and in force at the next T0; 07_rails_voltage_commands R171; reset none -/
  cap : Option Nat := none
  /-- w14; FW slot value; 07_rails_voltage_commands R178; reset 500 (P) -/
  fw : Nat := 500
  /-- 4 stamps; order of the last accepted write of AVS, HOST, PMB, FW, 0 never; 07_rails_voltage_commands R179; reset 0 -/
  stamps : List Nat := [0, 0, 0, 0]
  /-- w40; ramp or fall step per Run tick; 07_rails_voltage_commands R174, R175; reset 0 -/
  step : Nat := 0
  /-- w1; immediate off awaiting its T0; 07_rails_voltage_commands R175; reset 0 -/
  immOff : Bool := false
  /-- w1; a rail quench has been decided and its T0 has not come; 07_rails_voltage_commands R176; reset 0 -/
  qdue : Bool := false
  /-- w1; hiccup ended, the rail enters RAMP at the next T0; 07_rails_voltage_commands R176; reset 0 -/
  restart : Bool := false
  /-- w8; STATUS_CML bits of the page; 07_rails_voltage_commands R184, R187; reset 0 -/
  cml : Nat := 0
  /-- w14 optional; margin value accepted into the PMB slot while OPERATION selects a margin, none otherwise; 07_rails_voltage_commands R178, R186; reset none -/
  marg : Option Nat := none
  /-- w1; STATUS_VOUT bit 3; 07_rails_voltage_commands R179, R187; reset 0 -/
  vout3 : Bool := false
  /-- w1; PHASE_LOST; 03_phase_array R84; reset 0 -/
  phaseLost : Bool := false
  /-- w1; a migration has moved the rail's lane and LANE_MOVED sets at the next T0; 05_anvil R138; reset 0 -/
  moved : Bool := false
  /-- w1; LANE_MOVED; 05_anvil R138; reset 0 -/
  laneMoved : Bool := false
  /-- w1; SPANLOSS; 07_rails_voltage_commands R187; reset 0 -/
  spanLoss : Bool := false
  /-- up to 256 pairs; rail current Q16.16 and VALUE of the last ticks, newest first, those before the reset counting as 0; 07_rails_voltage_commands R182, R185; reset empty DESIGN CHOICE -/
  hist : List (Int × Nat) := []
  /-- up to 256 optional temperatures Q9.7; highest valid TFLT temperature among the members in the last ticks, newest first, none where none was valid; 07_rails_voltage_commands R185, R186; reset empty -/
  temps : List (Option Int) := []
  /-- w1; follower slot: a good frame with Q = 0 has been received since TON_DLY ended; 07_rails_voltage_commands R192; reset 0 -/
  goodFrame : Bool := false
  /-- w1; follower slot: its phases have been driven to mid and it enters TON_DLY at the next T0; 02_timebase_flock R54, R55; reset 0 -/
  toTon : Bool := false
  /-- w1; the turn-on or turn-off delay in progress has ended; 07_rails_voltage_commands R173, R175; reset 0 -/
  delayDone : Bool := false
deriving DecidableEq, Repr

/-- RLC: rails, AVSBus ports and PMBus ports behind the RLC registers. -/
structure Rlc where
  /-- the 32 rail slots; 07_rails_voltage_commands R172 -/
  rails : List RlcRail := List.replicate 32 {}
  /-- 16 lists; values held by write-and-hold, per port: select, data type, data; 07_rails_voltage_commands R181; reset empty -/
  avsHold : List (List (Nat × Nat × Nat)) := List.replicate 16 []
  /-- 2 bits; PMB_ALERTq_N asserted; 07_rails_voltage_commands R190; reset 0 -/
  alert : List Bool := [false, false]
  /-- 2 flags; a transaction is in progress with SDA driven by the device; 18_electrical_package R455; reset 0 -/
  sda : List Bool := [false, false]
  /-- order of the next accepted slot write; 07_rails_voltage_commands R179; reset 1 -/
  clock : Nat := 1
  /-- up to 256 lists of 8; input VALUEs of the last ticks, newest first; 07_rails_voltage_commands R185; reset empty -/
  vinHist : List (List Nat) := []
  /-- up to 256 optional temperatures Q9.7; highest valid die temperature of the last ticks, newest first, none where none was valid; 07_rails_voltage_commands R185, R186; reset empty -/
  dieHist : List (Option Int) := []
deriving DecidableEq, Repr

/-- EVF: the active route copy and the events in flight behind the EVF registers. -/
structure Evf where
  /-- active copy of the route fields, keyed by register address, sorted, reset value not listed; 08_event_fabric R209; reset as the staged copy (K) -/
  act : List (Nat × BitVec 32) := []
  /-- 512 counts; events waiting at each class-B channel input; 08_event_fabric R204; reset 0 -/
  waiting : List Nat := List.replicate 512 0
  /-- 8 pointers; channel each group served last; 08_event_fabric R204; reset 64g + 63 DESIGN CHOICE -/
  last : List Nat := (List.range 8).map (64 * · + 63)
  /-- 32 flags; an output pulse is in progress on EVIOk; 08_event_fabric R215; reset 0 -/
  pulse : List Bool := List.replicate 32 false
  /-- PSEL values of the producers that have fired in the instant a command is working on, not yet on their channels; the model's own, none between commands; 08_event_fabric R202, R205; reset none DESIGN CHOICE -/
  hold : Option (List Nat) := none
  /-- PSEL values of the compare producers that have fired since the last base-grid instant; 02_timebase_flock R43, 08_event_fabric R202, R205; reset none -/
  cmps : List Nat := []
deriving DecidableEq, Repr

/-- The hidden link of a bank (R304), with the delay-slot record an exception entry leaves in it (R329). -/
structure Link where
  /-- w1; VALID; 12_microcode R304; reset 0 (X) -/
  valid : Bool := false
  /-- w4; RBANK; 12_microcode R304; reset 0 (X) -/
  rbank : Nat := 0
  /-- w1; RW, world of the context returned to; 12_microcode R304; reset 0 (X) -/
  rw : Bool := false
  /-- w1; RL, level of the context returned to; 12_microcode R304; reset 0 (X) -/
  rl : Bool := false
  /-- w5; RPRI; 12_microcode R304; reset 0 (X) -/
  rpri : Nat := 0
  /-- w2; delay slots remaining of the interrupted context, 0 none; 13_exceptions R329; reset 0 (X) -/
  dcnt : Nat := 0
  /-- w32; XDTGT, the branch target held with the link; 13_exceptions R329; reset 0 (X) -/
  dtgt : BitVec 32 := 0
deriving DecidableEq, Repr

/-- One register bank: a complete integer context (R217). -/
structure Bank where
  /-- 16 words; G0 to G15; 09_pyhorn_model R217, R218; reset 0 DESIGN CHOICE -/
  g : List (BitVec 32) := List.replicate 16 0
  /-- w32; program counter; 09_pyhorn_model R217; reset 0xF0000000 DESIGN CHOICE (boot ROM) -/
  pc : BitVec 32 := 0xF0000000
  /-- w32; STATUS, in the layout of R220; 09_pyhorn_model R220; reset 0x06100000: BANK 1, PRI 16, MTH 16 (X) -/
  status : BitVec 32 := 0x06100000
  /-- w32; PROG; 09_pyhorn_model R223; reset 0 (X) -/
  prog : BitVec 32 := 0
  /-- the hidden link; 12_microcode R304 -/
  link : Link := {}
  /-- w32; cause word of the last exception entry into the bank (XCAUSE); 13_exceptions R329, R338; reset 0 (X) -/
  cause : BitVec 32 := 0
  /-- w32; fault address of the last exception entry into the bank (XADDR); 13_exceptions R329, R338; reset 0 (X) -/
  xaddr : BitVec 32 := 0
deriving DecidableEq, Repr

/-- Where a result lands. -/
inductive Dest where
  /-- G register r of bank b. -/
  | g (b r : Nat)
  /-- F register r. -/
  | f (r : Nat)
  /-- STATUS bits of bank b named by the mask. -/
  | status (b : Nat) (mask : BitVec 32)
  /-- PROG of bank b. -/
  | prog (b : Nat)
  /-- FPSR flag bits, ORed in (R264). -/
  | fpFlags
  /-- FPSR written whole by MTSR. -/
  | fpsr
  /-- A system register written by MTSR (R223). -/
  | sys (n : Nat)
deriving DecidableEq, Repr

/-- A result on its way: it is visible from issue slot `due` on (R265, R271). -/
structure Landing where
  due : Nat
  dest : Dest
  val : BitVec 32
deriving DecidableEq, Repr

/-- A long operation in flight: the results land in the bank that issued it (R256). -/
structure LongOp where
  unit : LUnit
  bank : Nat
  results : List (Dest × BitVec 32)
  /-- FPSR flags it raises. -/
  flags : BitVec 32 := 0
deriving DecidableEq, Repr

/-- One store-buffer entry: address, data bytes from the address up (R281). -/
structure StEntry where
  addr : Nat
  bytes : List (BitVec 8)
  /-- world and core of the writer: true for Tenant. -/
  tenant : Bool
deriving DecidableEq, Repr

/-- A load beyond the local port whose response is outstanding (R280). -/
structure PLoad where
  addr : Nat
  width : Nat
  signed : Bool
  dest : Dest
  /-- bytes of the load instruction, at which the core stands until the data returns. -/
  len : Nat
deriving DecidableEq, Repr

/-- A branch group in progress (R252): slots left and the target if taken. -/
structure Branch where
  left : Nat
  target : Option (BitVec 32)
deriving DecidableEq, Repr

/-- One Pyhorn core (R217 to R340). -/
structure PyCore where
  /-- 16 banks; 09_pyhorn_model R217 -/
  banks : List Bank := List.replicate 16 {}
  /-- w4; executing bank (STATUS.BANK); 09_pyhorn_model R217; reset 1 (X) -/
  bank : Nat := 1
  /-- 16 words; F0 to F15; 09_pyhorn_model R219; reset 0 (X) -/
  f : List (BitVec 32) := List.replicate 16 0
  /-- w32; FPSR; 09_pyhorn_model R227; reset 0 (X) -/
  fpsr : BitVec 32 := 0
  /-- issue slots so far; 10_pyhorn_isa R265; reset 0 -/
  slot : Nat := 0
  /-- results not yet landed, in issue order; 10_pyhorn_isa R264 to R266; reset none -/
  land : List Landing := []
  /-- long operations in flight, with their busy bits; 10_pyhorn_isa R255, R256; reset none -/
  long : List LongOp := []
  /-- store buffer, up to 8 entries, oldest first; 11_pyhorn_pipeline_memory R281; reset empty -/
  sb : List StEntry := []
  /-- merge buffer: word address and 4 optional bytes; 11_pyhorn_pipeline_memory R284; reset empty -/
  mb : Option (Nat × List (Option (BitVec 8))) := none
  /-- load beyond the port awaiting its response; 11_pyhorn_pipeline_memory R280; reset none -/
  pload : Option PLoad := none
  /-- writes accepted by the interconnect and not yet performed and acknowledged at their target, oldest first; 11_pyhorn_pipeline_memory R281, R283; reset none -/
  posted : List StEntry := []
  /-- branch group in progress; 10_pyhorn_isa R252; reset none -/
  br : Option Branch := none
  /-- w1; the core has an executing context; 13_exceptions R312, R320; reset 1 -/
  live : Bool := true
  /-- w1; the executing context waits under R320; 13_exceptions R320; reset 0 -/
  waiting : Bool := false
  /-- w1; bank 1 holds the base context; 13_exceptions R322; reset 1 (X) -/
  base : Bool := true
  /-- bit writes to peripheral flags that a bit read may not see yet: bit address, issue slot, the flag before; 09_pyhorn_model R237; reset none -/
  flagW : List (Nat × Nat × Bool) := []
  /-- machine checks awaiting the next instruction boundary: 12 or 13; 11_pyhorn_pipeline_memory R288, 12_microcode R307; reset none -/
  boundary : List Nat := []
  /-- bytes that own stores of the last four slots replaced, as the fetch queue may still hold them: issue slot of the store, address, the byte before it; 10_pyhorn_isa R268; reset none -/
  fq : List (Nat × Nat × BitVec 8) := []
  /-- MTH before a write that has landed and not yet left stage W; 09_pyhorn_model R223; reset none -/
  mthWas : Option Nat := none
  /-- DETM before such a write; 09_pyhorn_model R223; reset none -/
  detWas : Option Bool := none
  /-- w1; no instruction has issued since the last entry; 13_exceptions R329, R334; reset 0 -/
  fresh : Bool := false
  /-- slots whose next entry resumes after YIELD; 13_exceptions R319, R321; reset none (X) -/
  resumes : List Nat := []
deriving DecidableEq, Repr

/-- The control stores and their maintenance engines. -/
structure Uc where
  /-- stored microwords w26, key 0x10000*p + 0 for A, + 0x4000 for B, + 0x8000 for patch memory; sorted, 0 not listed; 12_microcode R292, R300; reset 0 DESIGN CHOICE -/
  words : List (Nat × BitVec 26) := []
  /-- per core, the command in progress: OP, HALF; 12_microcode R308; reset none -/
  cmd : List (Option (Nat × Nat)) := List.replicate 6 none
  /-- per core, the half a SWITCH awaits; 12_microcode R308; reset none -/
  sw : List (Option Nat) := List.replicate 6 none
  /-- per core and half, at 2p for A and 2p + 1 for B: word count and digest of the last LOAD or COPY into it; 12_microcode R308; reset 0, none (P) -/
  dig : List (Nat × List (BitVec 8)) := List.replicate 12 (0, [])
deriving DecidableEq, Repr

/-- A descriptor fetched from a command queue and not yet completed (R351, R354). -/
structure Desc where
  /-- its queue index (R369). -/
  idx : Nat := 0
  /-- its 64 bytes (R349). -/
  bytes : List (BitVec 8) := []
  /-- it has gone to the firmware inbox and awaits HIF_FWCPL (R354). -/
  fw : Bool := false
deriving DecidableEq, Repr

/-- A completion formed and not yet posted (R353). -/
structure Compl where
  queue : Nat := 0
  result : BitVec 32 := 0
  sqHead : Nat := 0
  cid : Nat := 0
  status : Nat := 0
deriving DecidableEq, Repr

/-- One command queue's state behind its registers. -/
structure Sq where
  /-- w16; tail, the last doorbell value in range; 14_host_interface R345; reset 0 (H) -/
  tail : Nat := 0
  /-- descriptors fetched and not completed, oldest first; 14_host_interface R351, R352; reset none (H) -/
  fetched : List Desc := []
  /-- w16; CID of the last descriptor executed; 14_host_interface R369; reset 0 (K) -/
  lastCid : Nat := 0
deriving DecidableEq, Repr

/-- One completion queue's state behind its registers. -/
structure Cq where
  /-- w16; head the device holds; 14_host_interface R348; reset 0 (H) -/
  head : Nat := 0
  /-- completions held back, oldest first; 14_host_interface R347; reset none (H) -/
  held : List Compl := []
deriving DecidableEq, Repr

/-- One selected tick of a telemetry record in progress (R361, R362). -/
structure TTick where
  tbc : BitVec 64 := 0
  /-- FLAGS of the tick: bit 0 G, bit 2 DIP, bit 3 TERR, bit 4 UNC. -/
  flags : Nat := 0
  /-- the sample words in ascending channel order. -/
  words : List (BitVec 32) := []
  /-- index of the first uncorrectable word of the tick. -/
  unc : Option Nat := none
deriving DecidableEq, Repr

/-- One telemetry ring's state behind its registers. -/
structure TRing where
  /-- head the device holds: first slab still in use by the host; 14_host_interface R360; reset 0 (H) -/
  head : Nat := 0
  /-- slab the device writes next; 14_host_interface R360; reset 0 (H) -/
  tail : Nat := 0
  /-- bytes of that slab written so far; 14_host_interface R360; reset 0 (H) -/
  off : Nat := 0
  /-- w32; record sequence number; 14_host_interface R361; reset 0 (H) -/
  seq : Nat := 0
  /-- w1; records were dropped since the last one written; 14_host_interface R364; reset 0 (H) -/
  gap : Bool := false
  /-- slabs written since the ring last signalled; 14_host_interface R367; reset 0 (H) -/
  since : Nat := 0
  /-- the selected ticks of the record in progress, oldest first; 14_host_interface R362; reset none (H) -/
  ticks : List TTick := []
deriving DecidableEq, Repr

/-- An event record before it is written: type, tick and payload (R356). -/
structure EvRec where
  ty : Nat := 0
  tbc : BitVec 64 := 0
  payload : List (BitVec 8) := []
  /-- its event sequence number (R356). -/
  seq : Nat := 0
  /-- the number of records lost before it. -/
  lost : Nat := 0
  /-- it was made while no host was attached. -/
  held : Bool := false
deriving DecidableEq, Repr

/-- The fields of configuration space that the host writes or the function reports in (R341, R342); the rest is constant.
Their reset values are the PCI Express specification's but for Command: PRESUMED (log entry 94). -/
structure PciCfg where
  /-- w16; Command; 14_host_interface R341, R342; reset PRESUMED 0 (PCI Express specification, log entry 94) -/
  command : Nat := 0
  /-- w16; Status: bit 14 a system error signalled, bit 15 a poisoned request received; 14_host_interface R341; reset PRESUMED 0 -/
  status : BitVec 16 := 0
  /-- w8; Cache Line Size, which changes nothing; 14_host_interface R342; reset PRESUMED 0 -/
  cacheLine : Nat := 0
  /-- w32; BAR0, bits 31 to 26 stored; 14_host_interface R342; reset PRESUMED 0 -/
  bar0 : BitVec 32 := 0
  /-- w32; BAR2, bits 31 to 16 stored; 14_host_interface R342; reset PRESUMED 0 -/
  bar2 : BitVec 32 := 0
  /-- w3; Max_Payload_Size: 0 128, 1 256, 2 512 bytes; 14_host_interface R341; reset PRESUMED 0 -/
  mps : Nat := 0
  /-- w3; Max_Read_Request_Size: 0 128, 1 256, 2 512 bytes; 14_host_interface R341; reset PRESUMED 2 -/
  mrrs : Nat := 2
  /-- w4; Device Control, reporting enables of correctable, non-fatal and fatal errors and unsupported requests; 14_host_interface R341; reset PRESUMED 0 -/
  errEn : Nat := 0
  /-- w1; Enable Relaxed Ordering; 14_host_interface R341; reset PRESUMED 1 -/
  relaxed : Bool := true
  /-- w1; Enable No Snoop; 14_host_interface R341; reset PRESUMED 1 -/
  noSnoop : Bool := true
  /-- w4; Device Status, the same four detected; 14_host_interface R341; reset PRESUMED 0 -/
  devSta : BitVec 16 := 0
  /-- w4; Completion Timeout Value; 14_host_interface R341; reset 0, which is 50 ms -/
  cto : Nat := 0
  /-- w1; Completion Timeout Disable; 14_host_interface R341; reset PRESUMED 0 -/
  ctoOff : Bool := false
  /-- w16; Link Control, bits 1 to 0 ASPM Control (L0s, L1); 14_host_interface R341; reset PRESUMED 0 -/
  lnkCtl : BitVec 16 := 0
  /-- w16; Link Control 2, bits 3 to 0 the target speed; 14_host_interface R341; reset PRESUMED 4 -/
  lnkCtl2 : BitVec 16 := 4
  /-- w1; MSI-X Enable; 14_host_interface R341; reset PRESUMED 0 -/
  msixOn : Bool := false
  /-- w1; MSI-X Function Mask; 14_host_interface R341; reset PRESUMED 0 -/
  msixMask : Bool := false
  /-- w1; ECRC Generation Enable; 14_host_interface R341; reset PRESUMED 0 -/
  ecrcGen : Bool := false
  /-- w1; ECRC Check Enable; 14_host_interface R341; reset PRESUMED 0 -/
  ecrcChk : Bool := false
  /-- w32; AER Uncorrectable Error Status: bit 12 a poisoned write; 14_host_interface R341, R343; reset PRESUMED 0 -/
  aer : BitVec 32 := 0
  /-- w32; AER Uncorrectable Error Mask; 14_host_interface R341; reset PRESUMED 0 -/
  aerMask : BitVec 32 := 0
  /-- w32; AER Uncorrectable Error Severity; 14_host_interface R341; reset PRESUMED, fatal for bits 4, 13, 17 and 18 -/
  aerSev : BitVec 32 := 0x00062010
  /-- w32; AER Correctable Error Status: bit 13 an advisory non-fatal error; 14_host_interface R341; reset PRESUMED 0 -/
  cor : BitVec 32 := 0
  /-- w32; AER Correctable Error Mask; 14_host_interface R341; reset PRESUMED, advisory non-fatal errors masked -/
  corMask : BitVec 32 := 0x00002000
  /-- w5; AER First Error Pointer; 14_host_interface R341; reset PRESUMED 0 -/
  fep : Nat := 0
  /-- AER Header Log, 4 dwords, which the rows do not bring (log entry 94); 14_host_interface R341; reset PRESUMED 0 -/
  hdrLog : List (BitVec 32) := [0, 0, 0, 0]
deriving DecidableEq, Repr

/-- HIF: queues, rings, event records, MSI-X and the capture controller behind the HIF registers. -/
structure Hif where
  /-- the 16 command queues; 14_host_interface R346 -/
  sq : List Sq := List.replicate 16 {}
  /-- the 16 completion queues; 14_host_interface R346 -/
  cq : List Cq := List.replicate 16 {}
  /-- the 8 telemetry rings; 14_host_interface R360 -/
  tr : List TRing := List.replicate 8 {}
  /-- BAR2 doorbell values last written, keyed by BAR2 offset, sorted, 0 not listed; 14_host_interface R345; reset 0 (H) -/
  db : List (Nat × BitVec 32) := []
  /-- event ring head the device holds; 14_host_interface R348; reset 0 (H) -/
  evHead : Nat := 0
  /-- event ring tail; 14_host_interface R358; reset 0 (H) -/
  evTail : Nat := 0
  /-- w1; event ring phase; 14_host_interface R347; reset 1 (H) -/
  evPhase : Bool := true
  /-- w32; event sequence number; 14_host_interface R356; reset 0 (K) DESIGN CHOICE -/
  evSeq : Nat := 0
  /-- records lost since the last one kept; 14_host_interface R356; reset 0 (K) -/
  evLost : Nat := 0
  /-- up to 64 event records held on chip, oldest first; 14_host_interface R358; reset none (K) -/
  evHeld : List EvRec := []
  /-- record of type 0x08 due first after re-attachment; 14_host_interface R370; reset none (K) -/
  ev08 : Option EvRec := none
  /-- w1; HIF_LINKUP has fired since the link came up; 14_host_interface R370; reset 0 (H) -/
  upFired : Bool := false
  /-- MSI-X Table, 32 entries of 4 dwords; 14_host_interface R341, R345; reset PRESUMED masked (PCI Express specification, log entry 94) -/
  msix : List (BitVec 32) := (List.replicate 32 [0, 0, 0, 1]).flatten
  /-- w32; MSI-X pending bits; 14_host_interface R345; reset 0 -/
  pba : BitVec 32 := 0
  /-- w1; the function is in D3hot; 14_host_interface R341; reset 0 -/
  d3hot : Bool := false
  /-- configuration space; 14_host_interface R341, R342 -/
  cfg : PciCfg := {}
  /-- dump in progress: frames sent so far, counted from the oldest; 14_host_interface R366; reset none (K) -/
  dump : Option Nat := none
  /-- w64; TBC of the last tick whose frame is written after a trigger, TTRIG + POST; 14_host_interface R366; reset 0 (K) -/
  capEnd : Nat := 0
  /-- one shared pointer: command queue last served of queues 1 to 15; 14_host_interface R352; reset 15 DESIGN CHOICE -/
  served : Nat := 15
deriving DecidableEq, Repr

/-- A flash operation under way or deferred (R381). -/
structure FlashOp where
  op : Nat := 0
  /-- source of PROGRAM: NVC_RBUF. -/
  rbuf : Bool := false
  half : Nat := 0
  addr : Nat := 0
  sram : Nat := 0
  len : Nat := 0
  /-- bytes of the pages of a PROGRAM that have been programmed (R380, R381). -/
  done : Nat := 0
  /-- an erase has been suspended (R380). -/
  susp : Bool := false
deriving DecidableEq, Repr

/-- An MRAM record waiting in the writer (R399). -/
structure MrRec where
  ty : Nat := 0
  tbc : BitVec 64 := 0
  /-- LOST field's place: 0; R399 puts the Kindle count there when it is written. -/
  payload : List (BitVec 8) := []
deriving DecidableEq, Repr

/-- NVC and OTP: flash operations, journal, MRAM writer and fuses. -/
structure Nvc where
  /-- flash operation in progress; 15_kindle R381; reset none (K) -/
  fop : Option FlashOp := none
  /-- flash operation deferred by Hold-on-dip; 15_kindle R381; reset none (K) -/
  fdefer : Option FlashOp := none
  /-- 2 fill offsets w24 of the journal halves; 15_kindle R392, R393; reset 0 (K) -/
  jfill : List Nat := [0, 0]
  /-- OTP operation in progress: OP, WORD and OTP_DATA; 15_kindle R389; reset none (K) -/
  oop : Option (Nat × Nat × BitVec 32) := none
  /-- OTP operation deferred by Hold-on-dip; 15_kindle R389; reset none (K) -/
  odefer : Option (Nat × Nat × BitVec 32) := none
  /-- 256 fuse words w32 as the array holds them; 15_kindle R387, 18_electrical_package R462; reset: from fuses, 0 but for VLOCK and the revision word DESIGN CHOICE (never reset) -/
  fuse : List (BitVec 32) := ((List.replicate 256 0).set 0x31 1).set 0x32 0x42904301
  /-- fuse words whose check bits do not match; 15_kindle R389; reset none (never reset) -/
  fuseBad : List Nat := []
  /-- up to 64 MRAM records waiting, oldest first; 15_kindle R399; reset none -/
  mrq : List MrRec := []
  /-- w1; a record was lost since the last one written; 15_kindle R399; reset 0 (C) -/
  mrLoss : Bool := false
  /-- w1; NVC_MR_HEAD and NVC_MR_SEQ are not yet rebuilt after a reset of kind C; 15_kindle R398; reset 1 (C) -/
  mrLost : Bool := true
  /-- w3; kind of the reset that started Kindle, the widest since one last completed: 1 C, 2 B, 3 P, 4 W, 5 K, 6 Ember wake; 16_modes R418; reset 1 -/
  kkind : Nat := 1
  /-- w1; a Kindle has started and not completed; 15_kindle R374, 16_modes R418, R421; reset 0 (C) -/
  kopen : Bool := false
  /-- kinds of the resets that no Kindle has counted yet, in the order they came; 15_kindle R400; reset the C reset itself (C) -/
  resets : List Nat := [1]
deriving DecidableEq, Repr

/-- PMU: mode changes pending and the Ember save. -/
structure Pmu where
  /-- held PMU_CTL write; 16_modes R415; reset none (P) -/
  heldCtl : Option (BitVec 32) := none
  /-- mode before Hold; 16_modes R406; reset 2 -/
  before : Nat := 2
  /-- changes awaiting the next T0, in the order they came: 1 Hold entry, 2 Hold exit, 3 Quench entry, 4 QEXIT; 16_modes R406; reset none -/
  due : List Nat := []
  /-- reset in progress and not released, kind as PMU_RSTINFO.LAST; 16_modes R418; reset some 1 -/
  rst : Option Nat := some 1
  /-- 32 flags; the slot's quench came from the device quench; 16_modes R409; reset 0 -/
  dq : List Bool := List.replicate 32 false
  /-- w1; device is in Ember; 16_modes R411; reset 0 -/
  ember : Bool := false
  /-- saved TBC, TBU_BGC and TBU_FOFS in the Ember domain; 02_timebase_flock R41; reset 0 (C) -/
  saved : BitVec 64 × BitVec 64 × BitVec 64 := (0, 0, 0)
  /-- 8 flags; an event has set PEND of PMU_WAKE_k while PMU_WAKE_EN.FAB[k] was 1; 16_modes R412, R423; reset 0 (K) -/
  wakeReq : List Bool := List.replicate 8 false
  /-- 6 flags; supply that has fallen below its warning level in this dip and has not been seen back at its exit level, the last of them kept; 16_modes R413, R414; reset 0 -/
  low : List Bool := List.replicate 6 false
  /-- w16; lowest voltage of the dip in mV; 16_modes R414; reset 0xFFFF -/
  dipMin : Nat := 0xFFFF
  /-- 6 flags; core held in core reset; 15_kindle R374, 13_exceptions R333; reset every core held until the reset is released -/
  held : List Bool := List.replicate 6 true
deriving DecidableEq, Repr

/-- One motion-feedback channel's state behind its registers. -/
structure MfuCh where
  /-- filtered levels of A, B and C; 17_motion_feedback R425; reset 0 -/
  lv : Nat := 0
  /-- w16 signed; wrap tally; 17_motion_feedback R429; reset 0 -/
  tally : Int := 0
  /-- time of the last counted edge, unit clocks, none before one; 17_motion_feedback R433; reset none -/
  e2 : Option Nat := none
  /-- time of the last counted edge at or before the previous update; 17_motion_feedback R433; reset none -/
  e1 : Option Nat := none
  /-- net count since the previous update; 17_motion_feedback R433; reset 0 -/
  n : Int := 0
  /-- w1; an update has happened since EN or a MODE write; 17_motion_feedback R433; reset 0 -/
  upd : Bool := false
  /-- w32 signed; lane output last delivered to the channel; 17_motion_feedback R435; reset 0 -/
  laneOut : Int := 0
  /-- w32 signed; command c in force in the PWM period; 17_motion_feedback R435; reset 0 -/
  c : Int := 0
  /-- w1; compare list stopped; 17_motion_feedback R432; reset 0 -/
  stopped : Bool := false
  /-- unit clocks the PWM pin is high in the period in progress; 17_motion_feedback R435; reset 0 -/
  high : Nat := 0
  /-- w1; MFm_DIR; 17_motion_feedback R435; reset 0 -/
  dir : Bool := false
deriving DecidableEq, Repr

/-- The JTAG port (R457). -/
structure Jtag where
  /-- w6; instruction register; 18_electrical R457; reset 0x01 IDCODE -/
  ir : Nat := 1
  /-- boundary cells as last loaded, keyed by cell, 0 not listed; 18_electrical R457; reset 0 DESIGN CHOICE -/
  cells : List (Nat × Nat) := []
  /-- w1; level of TESTEN; 18_electrical R457; reset 0 -/
  testen : Bool := false
deriving DecidableEq, Repr

/-- What the block has sent outside. -/
inductive Out where
  /-- The value a register read returned. -/
  | read (w : Who) (a : Nat) (v : Word)
  /-- An AVSBus response: port, acknowledge, data, status (R181). -/
  | avs (port ack data status : Nat)
  /-- Bytes a PMBus port answered (R184). -/
  | pmb (q : Nat) (bs : Bytes)
  /-- A tick marker on a Flock port (R45). -/
  | marker (p : Nat)
  /-- A control frame's bytes after its start symbol: ANNOUNCE, TIME, SPANLOSS or DELAYREQ (R44, R47, R48, R54). -/
  | ctl (p : Nat) (bs : Bytes)
  /-- A duty frame's bytes after its start symbol (R44). -/
  | duty (p : Nat) (bs : Bytes)
  /-- A message frame's bytes after its start symbol (R44). -/
  | msg (p : Nat) (bs : Bytes)
  /-- An acknowledge frame (R44). -/
  | ack (p seq src : Nat)
  /-- Bytes written to host memory (R346). -/
  | dma (addr : Nat) (bs : Bytes)
  /-- A read request to host memory (R352). -/
  | dmaRead (addr len : Nat)
  /-- An MSI-X message of a vector (R367). -/
  | msix (v : Nat)
  /-- An error message to the host: 0 correctable, 1 non-fatal, 2 fatal (R341). -/
  | errMsg (sev : Nat)
  /-- The level an EVIO output goes to (R215). -/
  | evio (k : Nat) (lvl : Bool)
  /-- What the JTAG port shifts out: how many bits, and their value (R457). -/
  | tdo (n v : Nat)
deriving DecidableEq, Repr

/-- The whole device. -/
structure State where
  /-- timebase; 02_timebase_flock -/
  tbu : Tbu := {}
  /-- Flock Link; 02_timebase_flock -/
  flk : Flk := {}
  /-- phase array; 03_phase_array -/
  pha : Pha := {}
  /-- sense front end; 04_sensing -/
  sns : Sns := {}
  /-- Anvil; 05_anvil -/
  anv : Anv := {}
  /-- Bellows and protection; 06_bellows_protection -/
  blw : Blw := {}
  /-- rail control and buses; 07_rails_voltage_commands -/
  rlc : Rlc := {}
  /-- event fabric; 08_event_fabric -/
  evf : Evf := {}
  /-- the six cores; 09_pyhorn_model R217 -/
  cores : List PyCore := List.replicate 6 {}
  /-- control stores; 12_microcode -/
  uc : Uc := {}
  /-- host interface; 14_host_interface -/
  hif : Hif := {}
  /-- flash, MRAM writer and OTP; 15_kindle_persistence_security -/
  nvc : Nvc := {}
  /-- modes and supplies; 16_modes_resets -/
  pmu : Pmu := {}
  /-- the eight motion-feedback channels; 17_motion_feedback -/
  mfu : List MfuCh := List.replicate 8 {}
  /-- JTAG port; 18_electrical_package -/
  jtag : Jtag := {}
  /-- the register map: registers that differ from their reset value, keyed by core-view address, addresses rising -/
  regs : List (Nat × BitVec 32) := []
  /-- the register map as the last T0 sampled it; 01_one_tick R16 -/
  tickRegs : List (Nat × BitVec 32) := []
  /-- memory: bytes that differ from what an unlisted byte reads as, addresses rising; 09_pyhorn_model R233 -/
  mem : List Host.Cell := []
  /-- inverted bits of the 39-bit codewords, keyed by word address, none listed as 0; 11_pyhorn_pipeline_memory R285, R291 -/
  flips : List (Nat × BitVec 39) := []
  /-- the model's own: draws of free values so far (log entry 5) -/
  free : Nat := 0
  /-- the model's own: what has gone outside, newest first (log entry 6) -/
  out : List Out := []
  /-- commands waiting, first in first out -/
  pending : List Instr := []
deriving DecidableEq, Repr

/-- Why a step can stop with a fault. None of the spec's behaviours ends a run this way; the type is closed and empty of
reasons but one. -/
inductive Fault where
  /-- Raised by no meaning: the block reports its errors in registers. Safe: nothing stops. -/
  | neverRaised
deriving DecidableEq, Repr

/-- Why a step can refuse. -/
inductive Refusal where
  /-- Raised by Dispatch for a command whose meaning is not written. Safe: the run stops. -/
  | notModelled (mnemonic : String)
  /-- Raised by a Waimond private JTAG instruction while TESTEN is high and JTAGDIS is 0: the spec says that it acts and not
  what it does (R457). Safe: the run stops. -/
  | waimondPrivateJtag
deriving DecidableEq, Repr

/-- The device right after power is applied (reset of kind C, R12, R418): every register at its reset value, memory with
nothing listed, the reset not yet released. -/
def State.reset : State := {}

end Sys2Proof.Machine
end

