-- ==== Sys2Proof/Machine/Ops.lean ====
section
/-! DEFINITION. The named operations over registers, hidden state and the record of what goes outside. -/

namespace Sys2Proof.Machine

/-- What a register holds (R9). -/
def State.rd (s : State) (a : Nat) : Word := spGet resetVal s.regs a

/-- A register with its whole value replaced. -/
def State.wr (s : State) (a : Nat) (v : Word) : State := { s with regs := spSet resetVal s.regs a v }

/-- A field of a register. -/
def State.get (s : State) (f : FRef) : Nat := getBits (s.rd f.addr) f.hi f.lo

/-- A value lies in a range. -/
def inRange (lo hi v : Nat) : Bool := decide (lo ≤ v) && decide (v ≤ hi)

/-- A field of a register, replaced by hardware. -/
def State.set (s : State) (f : FRef) (v : Nat) : State := s.wr f.addr (putBits (s.rd f.addr) f.hi f.lo v)

/-- A field is not 0. -/
def State.on (s : State) (f : FRef) : Bool := s.get f != 0

/-- A field as a signed number. -/
def State.geti (s : State) (f : FRef) : Int := sext (f.hi + 1 - f.lo) (s.get f)

/-- A field set to the pattern of a signed number. -/
def State.seti (s : State) (f : FRef) (v : Int) : State := s.set f (wrapN (f.hi + 1 - f.lo) v)

/-- A one-bit field set or cleared. -/
def State.setb (s : State) (f : FRef) (b : Bool) : State := s.set f (b2n b)

/-- A counter field one more, held at its largest value. -/
def State.bump (s : State) (f : FRef) : State := s.set f (satInc (ones (f.hi + 1 - f.lo)) (s.get f))

/-- A counter field `n` more, held at its largest value. -/
def State.bumpBy (s : State) (f : FRef) (n : Nat) : State :=
  s.set f (min (ones (f.hi + 1 - f.lo)) (s.get f + n))

/-- Bit `i` of a register. -/
def State.bit (s : State) (a i : Nat) : Bool := wbit (s.rd a) i

/-- Bit `i` of a register, replaced by hardware. -/
def State.setBit (s : State) (a i : Nat) (b : Bool) : State := s.wr a (putBits (s.rd a) i i (b2n b))

/-- What a register held when the last T0 sampled it (R16). -/
def State.rdT (s : State) (a : Nat) : Word := spGet resetVal s.tickRegs a

/-- A tick-sampled field as the last T0 sampled it (R16). -/
def State.getT (s : State) (f : FRef) : Nat := getBits (s.rdT f.addr) f.hi f.lo

/-- A tick-sampled field is not 0. -/
def State.onT (s : State) (f : FRef) : Bool := s.getT f != 0

/-- A command does something outside. -/
def State.emit (s : State) (o : Out) : State := { s with out := o :: s.out }

/-- The next free value (log entry 5). -/
def State.freeVal (s : State) : Word := Config.freeWord s.free

/-- A free value has been drawn. -/
def State.drawn (s : State) : State := { s with free := s.free + 1 }

/-- A number in an `n`-bit signed format; outside it the spec states no result and the value is free (log entry 5). -/
def State.fitS (s : State) (n : Nat) (x : Int) : Nat × State :=
  if - (2 ^ (n - 1) : Int) ≤ x ∧ x < (2 ^ (n - 1) : Int) then (wrapN n x, s) else (s.freeVal.toNat % 2 ^ n, s.drawn)

/-- A number in an `n`-bit unsigned format; outside it the spec states no result and the value is free (log entry 5). -/
def State.fitU (s : State) (n : Nat) (x : Int) : Nat × State :=
  if 0 ≤ x ∧ x < (2 ^ n : Int) then (x.toNat, s) else (s.freeVal.toNat % 2 ^ n, s.drawn)

/-- Phase `n`. -/
def State.ph (s : State) (n : Nat) : PhaseX := nth s.pha.phases n {}

/-- Phase `n` changed. -/
def State.modPh (s : State) (n : Nat) (f : PhaseX → PhaseX) : State :=
  { s with pha := { s.pha with phases := modNth s.pha.phases n f } }

/-- The carrier and governor state of rail slot `r`. -/
def State.rx (s : State) (r : Nat) : RailX := nth s.pha.rails r {}

/-- That state changed. -/
def State.modRx (s : State) (r : Nat) (f : RailX → RailX) : State :=
  { s with pha := { s.pha with rails := modNth s.pha.rails r f } }

/-- Lane `l`. -/
def State.ln (s : State) (l : Nat) : Lane := nth s.anv.lanes l {}

/-- Lane `l` changed. -/
def State.modLn (s : State) (l : Nat) (f : Lane → Lane) : State :=
  { s with anv := { s.anv with lanes := modNth s.anv.lanes l f } }

/-- The protection state of rail slot `r`. -/
def State.bl (s : State) (r : Nat) : BlwRail := nth s.blw.rails r {}

/-- That state changed. -/
def State.modBl (s : State) (r : Nat) (f : BlwRail → BlwRail) : State :=
  { s with blw := { s.blw with rails := modNth s.blw.rails r f } }

/-- The reference and request state of rail slot `r`. -/
def State.rl (s : State) (r : Nat) : RlcRail := nth s.rlc.rails r {}

/-- That state changed. -/
def State.modRl (s : State) (r : Nat) (f : RlcRail → RlcRail) : State :=
  { s with rlc := { s.rlc with rails := modNth s.rlc.rails r f } }

/-- Core `p`. -/
def State.core (s : State) (p : Nat) : PyCore := nth s.cores p {}

/-- Core `p` changed. -/
def State.modCore (s : State) (p : Nat) (f : PyCore → PyCore) : State :=
  { s with cores := modNth s.cores p f }

/-- Motion-feedback channel `m`. -/
def State.mf (s : State) (m : Nat) : MfuCh := nth s.mfu m {}

/-- That channel changed. -/
def State.modMf (s : State) (m : Nat) (f : MfuCh → MfuCh) : State := { s with mfu := modNth s.mfu m f }

/-- A status bit of a page has gone from 0 to 1: both alert lines assert (R190). -/
def State.alert (s : State) : State := { s with rlc := { s.rlc with alert := [true, true] } }

/-- Bit `i` of a status register is set by hardware; a change from 0 is a status change (R190). -/
def State.raiseBit (s : State) (a i : Nat) : State := if s.bit a i then s else (s.setBit a i true).alert

/-- One change for each entry of a list, in order. -/
def State.each {α : Type} (s : State) (l : List α) (f : State → α → State) : State := l.foldl f s

/-- A change made only where a condition holds. -/
def State.when (s : State) (b : Bool) (f : State → State) : State := if b then f s else s

/-- The device takes commands: it is not in Ember and no reset wider than K holds it (R405, R417, R418). -/
def State.alive (s : State) : Bool := !s.pmu.ember && (s.pmu.rst.isNone || s.pmu.rst == some 5)

/-- What a command answers: its effect on everything but the queue where its operands name things the device has and the
device is alive, else the state unchanged (log entry 11). -/
def runs (ok : Bool) (s : State) (f : State → State) : Host.Outcome State Fault Refusal :=
  .next (if ok && s.alive then { f s with pending := s.pending } else s)

/-- The same for what acts in Ember and in a reset as well (R214, R411, R412, R418, R457). -/
def runsEver (ok : Bool) (s : State) (f : State → State) : Host.Outcome State Fault Refusal :=
  .next (if ok then { f s with pending := s.pending } else s)

/-- The mode codes of PMU_STAT.MODE (R404). -/
def modeKindle : Nat := 1
/-- Run (R404). -/
def modeRun : Nat := 2
/-- Graze (R404). -/
def modeGraze : Nat := 3
/-- Hold (R404). -/
def modeHold : Nat := 4
/-- Quench (R404). -/
def modeQuench : Nat := 5

/-- The mode in force (R404). -/
def State.mode (s : State) : Nat := s.get PMU_STAT.MODE

/-- The device has not left Quench: the mode is Quench, or Hold entered from it (R406, R409). -/
def State.inQuench (s : State) : Bool := s.mode == modeQuench || (s.mode == modeHold && s.pmu.before == modeQuench)

/-- The device is in Hold-on-dip (R414). -/
def State.dip (s : State) : Bool := s.on PMU_STAT.DIP

/-- The tick length in force is Graze's (R26, R404). -/
def State.graze (s : State) : Bool := s.on TBU_STAT.MODE

/-- Flock time: TBU_BGC + TBU_FOFS modulo 2⁶⁴ (R39). -/
def State.flockTime (s : State) : Nat := (s.tbu.bgc + s.tbu.fofs).toNat

/-- EXTEST, HIGHZ or CLAMP is in force: every rail slot stays OFF (R458). -/
def State.jtagHolds (s : State) : Bool := s.jtag.ir == 3 || s.jtag.ir == 4 || s.jtag.ir == 5

/-- State codes of a rail slot (R172). -/
def railOff : Nat := 0
/-- WAIT_ON. -/
def railWaitOn : Nat := 1
/-- TON_DLY. -/
def railTonDly : Nat := 2
/-- RAMP. -/
def railRamp : Nat := 3
/-- REG. -/
def railReg : Nat := 4
/-- WAIT_OFF. -/
def railWaitOff : Nat := 5
/-- TOFF_DLY. -/
def railToffDly : Nat := 6
/-- FALL. -/
def railFall : Nat := 7
/-- QUENCHED. -/
def railQuenched : Nat := 8

/-- The state of rail slot `r` (R172). -/
def State.railState (s : State) (r : Nat) : Nat := s.get (RLC_RAIL_STAT.STATE r)

/-- Rail `r` is quenched now: its bit of BLW_RQ_SUM (R158). -/
def State.quenched (s : State) (r : Nat) : Bool := s.bit BLW_RQ_SUM r

/-- Rail `r` is enabled: its members switch (R172: RAMP, REG, WAIT_OFF, TOFF_DLY, FALL). -/
def State.enabled (s : State) (r : Nat) : Bool :=
  decide (railRamp ≤ s.railState r) && decide (s.railState r ≤ railFall)

/-- State codes of a phase (R74). -/
def phOff : Nat := 0
/-- PARKED. -/
def phParked : Nat := 1
/-- BLEND. -/
def phBlend : Nat := 2
/-- ACTIVE. -/
def phActive : Nat := 3
/-- FAILED. -/
def phFailed : Nat := 4
/-- ABSENT. -/
def phAbsent : Nat := 5

/-- The state of phase `n` (R74). -/
def State.phState (s : State) (n : Nat) : Nat := s.get (PHA_CH_STAT.STATE n)

/-- Phase `n` is in ACTIVE or BLEND. -/
def State.switching (s : State) (n : Nat) : Bool := s.phState n == phActive || s.phState n == phBlend

/-- Phase `n` belongs to rail `r`, as membership is in force since the last T0 (R75, R87). -/
def State.memberOf (s : State) (n r : Nat) : Bool := (s.ph n).rail == some r

/-- The members of rail `r`, ascending. -/
def State.members (s : State) (r : Nat) : List Nat := whichN 144 (fun n => s.memberOf n r)

/-- The members of rail `r` in ACTIVE or BLEND, ascending. -/
def State.running (s : State) (r : Nat) : List Nat := whichN 144 (fun n => s.memberOf n r && s.switching n)

/-- The bytes of a 64-bit count, lowest first. -/
def bytes64 (v : BitVec 64) : Bytes := leBytes 8 v.toNat

end Sys2Proof.Machine
end

