-- ==== Sys2Proof/Machine/Fabric.lean ====
section
/-! DEFINITION. The event fabric's shared operations: producers, channels, consumer inputs and the interrupt controller's source inputs (R197 to R207, R214, R314, R315). -/

namespace Sys2Proof.Machine

/-- Producer numbers h (R199). -/
def hTick : Nat := 0
def hXloss : Nat := 1
def hCmp (n : Nat) : Nat := 2 + n
def hIdconf : Nat := 10
def hLockloss : Nat := 11
def hSpanloss : Nat := 12
def hFlkMsg : Nat := 13
def hTerr : Nat := 14
def hVsfr : Nat := 15
def hCalflt : Nat := 16
def hPhaFail : Nat := 17
def hPhaOc (g : Nat) : Nat := 18 + g
def hAnvParity : Nat := 27
def hLanefail : Nat := 28
def hShpar : Nat := 29
def hDwarn : Nat := 30
def hDflt : Nat := 31
def hRq : Nat := 32
def hDq : Nat := 33
def hPmbstore : Nat := 34
def hCmtdone : Nat := 35
def hCoreLock (p : Nat) : Nat := 36 + p
def hWarn (k : Nat) : Nat := 64 + k
def hEvioIn (k : Nat) : Nat := 80 + k
def hDb (q : Nat) : Nat := 112 + q
def hHif (i : Nat) : Nat := 128 + i
def hPmu (i : Nat) : Nat := 136 + i
def hMfu (m e : Nat) : Nat := 144 + 4 * m + e
def hWrap (l : Nat) : Nat := 176 + l
def hGov (r : Nat) : Nat := 256 + r
def hDroop (r : Nat) : Nat := 288 + r
def hRel (r : Nat) : Nat := 320 + r
def hOvs (r : Nat) : Nat := 352 + r
def hPwarn (r : Nat) : Nat := 384 + r
def hPflt (r : Nat) : Nat := 416 + r
def hRqR (r : Nat) : Nat := 448 + r
def hVreq (r : Nat) : Nat := 480 + r
def hPg (r : Nat) : Nat := 512 + r
def hRoff (r : Nat) : Nat := 544 + r

/-- Producer h exists (R199). -/
def producerOk (h : Nat) : Bool :=
  decide (h ≤ 41) || (decide (64 ≤ h) && decide (h ≤ 209)) || (decide (256 ≤ h) && decide (h ≤ 575))

/-- Consumer k exists (R200). -/
def consumerOk (k : Nat) : Bool :=
  decide (k ≤ 99) || (decide (128 ≤ k) && decide (k ≤ 192)) || (decide (200 ≤ k) && decide (k ≤ 203))
    || (decide (208 ≤ k) && decide (k ≤ 239)) || (decide (256 ≤ k) && decide (k ≤ 263))
    || (decide (512 ≤ k) && decide (k ≤ 767))
    || (decide (1024 ≤ k) && decide (k < 1024 + 64 * 6) && decide ((k - 1024) % 64 < 60))
    || (decide (1536 ≤ k) && decide (k ≤ 1543))

/-- Consumer k is Keeper-only (R200). -/
def consumerKo (k : Nat) : Bool :=
  decide (k ≤ 99) || (decide (128 ≤ k) && decide (k ≤ 192)) || (decide (256 ≤ k) && decide (k ≤ 263))
    || (decide (1536 ≤ k) && decide (k ≤ 1543))

/-- Consumer number of input j of slot sl of core p (R200). -/
def drvIn (p sl j : Nat) : Nat := 1024 + 64 * p + 4 * (sl - 1) + j

/-- A route register of the active copy (R209); channel 0 is wired (R198). -/
def State.act (s : State) (a : Nat) : Word := spGet resetVal s.evf.act a

/-- The configuration of channel n that routes events (R197, R198). -/
def State.chCfg (s : State) (n : Nat) : Word := if n = 0 then 0xC0000000 else s.act (EVF_CH_CFG n)

/-- Channel n acts (R197); in Ember only channels 0 to 63 do (R214). -/
def State.chOn (s : State) (n : Nat) : Bool := wbit (s.chCfg n) 31 && (!s.pmu.ember || decide (n < 64))

/-- Channel n is of class A (R204). -/
def State.chA (s : State) (n : Nat) : Bool := wbit (s.chCfg n) 30

/-- Element kind of channel n (R201). -/
def State.chElem (s : State) (n : Nat) : Nat := getBits (s.chCfg n) 22 20

/-- How many of the events at the PSEL values listed reach each of the two producer selects of channel n (R197). -/
def State.chHits (s : State) (n : Nat) (ps : List Nat) : Nat × Nat :=
  let w := s.act (EVF_CH_SRC n)
  (if wbit w 15 then ps.count (getBits w 10 0) else 0, if wbit w 31 then ps.count (getBits w 26 16) else 0)

/-- Of the events of one instant at channel n, `before` having reached it and `ps` reaching it now: whether two of them merge
now, and how many events that leaves (R202). -/
def State.chArrivals (s : State) (n : Nat) (before ps : List Nat) : Bool × Nat :=
  let b := s.chHits n before
  let c := s.chHits n (before ++ ps)
  (c != b && c.1 != 0 && c.2 != 0, max c.1 c.2 - max b.1 b.2)

/-- The channels other than 0 that act, ascending. -/
def State.liveChans (s : State) : List Nat :=
  (s.evf.act.filterMap (fun e =>
    if decide (EVF_CH_CFG 1 ≤ e.1) && decide (e.1 ≤ EVF_CH_CFG 511) && (e.1 - EVF_CH_CFG 0) % 16 == 0
    then some ((e.1 - EVF_CH_CFG 0) / 16) else none)).filter s.chOn

/-- The consumers whose selects name channel n, ascending (R205). -/
def State.chConsumers (s : State) (n : Nat) : List Nat :=
  s.evf.act.filterMap (fun e =>
    if decide (EVF_CON 0 ≤ e.1) && decide (e.1 ≤ EVF_CON 2047)
      && ((wbit e.2 9 && getBits e.2 8 0 == n) || (wbit e.2 19 && getBits e.2 18 10 == n))
    then some ((e.1 - EVF_CON 0) / 4) else none)

/-- Some input of slot `sl` of core `p` that may activate it holds an event (R318, R319). -/
def State.slotWants (s : State) (p sl : Nat) : Bool :=
  (List.range 4).any (fun j => nbit (s.get (DRV_SLOT_CFG.INEN p sl)) j && s.on (EVF_CON.PEND (drvIn p sl j)))

/-- A WAITING slot whose input holds an event becomes READY (R318). -/
def State.slotReady (s : State) (p sl : Nat) : State :=
  if s.get (DRV_SLOT_STAT.STATE p sl) == 2 && s.slotWants p sl then s.set (DRV_SLOT_STAT.STATE p sl) 3 else s

/-- An event at PMU_WAKE_k that sets PEND wakes where its enable is 1 as it comes (R214, R412, R423); one that finds PEND set is lost
(R205). -/
def State.wakeEvent (s : State) (k : Nat) : State :=
  let was := s.on (EVF_CON.PEND (1536 + k))
  { s with pmu := { s.pmu with
    wakeReq := modNth s.pmu.wakeReq k (fun b => if was then b else nbit (s.get PMU_WAKE_EN.FAB) k) } }

/-- A trigger reaches the capture controller (R366). -/
def State.capTrigger (s : State) (k : Nat) : State :=
  if s.get HIF_CAP_STAT.STATE = 1 then
    let s := (s.set HIF_CAP_STAT.STATE 2).set HIF_CAP_STAT.TSRC k
    let s := (s.wr HIF_CAP_TTRIG_LO (BitVec.ofNat 32 s.tbu.tbc.toNat)).wr HIF_CAP_TTRIG_HI
      (BitVec.ofNat 32 (s.tbu.tbc.toNat / 2 ^ 32))
    { s with hif := { s.hif with capEnd := s.tbu.tbc.toNat + s.get HIF_CAP_CFG.POST } }
  else s.bump HIF_CAP_STAT.MISSED

/-- An event reaches the input of consumer k from channel ch (R205); 512 is a software write (R206). An input of a task
slot may make it READY (R318); the capture controller takes every event at once (R366). -/
def State.consumerEvent (s : State) (k ch : Nat) : State :=
  let s := if 1536 ≤ k ∧ k < 1544 then s.wakeEvent (k - 1536) else s
  if 200 ≤ k ∧ k < 204 then s.capTrigger (k - 200)
  else if s.on (EVF_CON.PEND k) then (s.set (EVF_CON.OVR k) 1).set (EVF_CON.OVRCH k) ch
  else
    let s := s.set (EVF_CON.PEND k) 1
    if 1024 ≤ k ∧ k < 1408 then s.slotReady ((k - 1024) / 64) ((k - 1024) % 64 / 4 + 1) else s

/-- The consumer takes its event (R200). -/
def State.takeEvent (s : State) (k : Nat) : State := s.set (EVF_CON.PEND k) 0

/-- An event waits at the input of class-B channel n (R204). -/
def State.chWait (s : State) (n : Nat) : State :=
  { s with evf := { s.evf with waiting := modNth s.evf.waiting n (· + 1) } }

/-- A consumer is active in Ember (R214). -/
def emberConsumer (k : Nat) : Bool := (decide (208 ≤ k) && decide (k ≤ 215)) || (decide (1536 ≤ k) && decide (k ≤ 1543))

/-- Two events of one instant have merged at channel n (R202). -/
def State.mergeAt (s : State) (n : Nat) (m : Bool) : State :=
  if m then (s.set (EVF_CH_STAT.MERGE n) 1).set EVF_STAT.MERGE 1 else s

/-- The highest channel of `fs` that consumer k selects, and `ch` (R205). -/
def State.lastOf (s : State) (k ch : Nat) (fs : List Nat) : Nat :=
  let w := s.act (EVF_CON k)
  (fs.filter (fun n => (wbit w 9 && getBits w 8 0 == n) || (wbit w 19 && getBits w 18 10 == n))).foldl max ch

/-- An event from channel ch reaches consumer k in an instant in which the channels `fs` have fired before: the instant is
resolved lowest first, so an overrun leaves the highest of its channels in OVRCH (R205). -/
def State.consumerAfter (s : State) (fs : List Nat) (k ch : Nat) : State :=
  s.consumerEvent k (if s.on (EVF_CON.PEND k) then s.lastOf k ch fs else ch)

/-- The output of channel n fires: its watch flag sets (R207) and its consumers take the event (R205), the channels `fs`
having fired before in the same instant. -/
def State.chanPins (s : State) (fs : List Nat) (n : Nat) : State :=
  let s := s.setBit (EVF_WATCH (n / 32)) (n % 32) true
  s.each ((s.chConsumers n).filter (fun k => !s.pmu.ember || emberConsumer k)) (fun s k => s.consumerAfter fs k n)

/-- The outputs of the channels `ns` reach the class-B channels that select them, those of `fs` having done so before in the
same instant (R197, R202). -/
def State.feedB (s : State) (fs ns : List Nat) : State :=
  s.each (s.liveChans.filter (fun m => !s.chA m)) (fun s m =>
    let r := s.chArrivals m fs ns
    (s.mergeAt m r.1).each (List.replicate r.2 m) State.chWait)

/-- The output of channel n fires (R197, R205, R207). -/
def State.chanOut (s : State) (n : Nat) : State := (s.chanPins [] n).feedB [] [n]

/-- An event reaches the element of channel n (R201): a busy element drops it, and in Ember one-shots and delays do (R214).
The one-shot, the counter and the delay are busy after an event they take. -/
def State.chElement (s : State) (n : Nat) : State :=
  let e := s.chElem n
  if (e == 1 || e == 2 || e == 3) && (s.on (EVF_CH_STAT.BUSY n) || (s.pmu.ember && e != 2)) then
    s.set (EVF_CH_STAT.EOVR n) 1
  else if e == 1 then (s.set (EVF_CH_STAT.BUSY n) 1).chanOut n
  else if e == 2 then
    let s := s.set (EVF_CH_STAT.BUSY n) 1
    let c := s.get (EVF_CH_STAT.CNT n) + 1
    if getBits (s.act (EVF_CH_ELEM n)) 15 0 ≤ c then (s.set (EVF_CH_STAT.CNT n) 0).chanOut n
    else s.set (EVF_CH_STAT.CNT n) c
  else if e == 3 then s.set (EVF_CH_STAT.BUSY n) 1
  else s.chanOut n

/-- The value that stands among PSEL values for the wired producers of the safe-state channel (R198); no route can name it
(R197). -/
def safePsel : Nat := 512

/-- The class-A channels that the PSEL values listed make fire, ascending, each as often as it fires (R198, R202). -/
def State.firing (s : State) (before ps : List Nat) : List Nat :=
  List.replicate (ps.count safePsel) 0
    ++ (s.liveChans.filter s.chA).flatMap (fun n => List.replicate (s.chArrivals n before ps).2 n)

/-- Producers fire in one instant, their PSEL values listed (R199, R202), those of `before` having fired before in the same
instant: each channel that selects one of them takes the event, class A at once and in ascending number (R205), class B in
its turn (R204); two at one channel merge, at a class-B channel that class-A channels feed as well. -/
def State.fireAfter (s : State) (before ps : List Nat) : State :=
  let fs := s.firing [] before
  let ns := s.firing before ps
  let s := s.each s.liveChans (fun s n =>
    let r := s.chArrivals n before ps
    let s := s.mergeAt n r.1
    if s.chA n then s else s.each (List.replicate r.2 n) State.chWait)
  (s.each ns (State.chanPins · fs)).feedB fs ns

/-- Producers fire in one instant, their PSEL values listed (R199, R202). -/
def State.firePsel (s : State) (ps : List Nat) : State := s.fireAfter [] ps

/-- A producer is active in Ember (R214). -/
def emberProducer (h : Nat) : Bool := (decide (80 ≤ h) && decide (h ≤ 87)) || (decide (136 ≤ h) && decide (h ≤ 143))

/-- The events at the PSEL values listed fire: in an instant that is still being gathered they wait for its end. -/
def State.fireNow (s : State) (ps : List Nat) : State :=
  match s.evf.hold with
  | none => s.firePsel ps
  | some l => { s with evf := { s.evf with hold := some (l ++ ps) } }

/-- Hardware producers h fire (R199). -/
def State.fire (s : State) (hs : List Nat) : State :=
  s.fireNow ((hs.filter (fun h => !s.pmu.ember || emberProducer h)).map (1024 + ·))

/-- Everything that fires within `f` fires in one instant (R202, R205): the producers reach their channels together at its
end. -/
def State.instant (s : State) (f : State → State) : State :=
  match s.evf.hold with
  | some _ => f s
  | none =>
    let s := f { s with evf := { s.evf with hold := some [] } }
    let ps := s.evf.hold.getD []
    { s with evf := { s.evf with hold := none } }.firePsel ps

/-- TBU_CMP_n fires at the base-grid instant at which the compare units that fired last fired too, if one did (R43, R202,
R205). -/
def State.fireCmp (s : State) (n : Nat) : State :=
  let before := s.evf.cmps
  let p := 1024 + hCmp n
  { s.fireAfter before [p] with evf := { (s.fireAfter before [p]).evf with cmps := before ++ [p] } }

/-- The safe-state channel fires (R197, R198): its output is that of channel 0; the phase array's pins follow from the quench
itself. -/
def State.fireSafe (s : State) : State := s.fireNow [safePsel]

/-- The ICU source exists (R314). -/
def sourceOk (n : Nat) : Bool := inRange 0 25 n || inRange 32 43 n || inRange 64 68 n || inRange 80 95 n || inRange 256 1279 n

/-- A rising edge at the input of ICU source n (R315). -/
def State.icuRaise (s : State) (n : Nat) : State :=
  if s.bit (ICU_PEND (n / 32)) (n % 32) then s.setBit (ICU_OVR (n / 32)) (n % 32) true
  else s.setBit (ICU_PEND (n / 32)) (n % 32) true

/-- The fabric consumer that drives ICU source n, if one does (R314). -/
def sourceConsumer (n : Nat) : Option Nat :=
  if n ≤ 7 then some (256 + n) else if 256 ≤ n ∧ n ≤ 511 then some (n + 256) else none

/-- MSI-X vector `v` is masked (R345, R367). -/
def State.vecMasked (s : State) (v : Nat) : Bool := wbit (nth s.hif.msix (4 * v + 3) 1) 0

/-- The function may issue memory requests (R341; log entry 94). -/
def State.busMaster (s : State) : Bool := nbit s.hif.cfg.command 2

/-- MSI-X vector `v` signals, or stays pending while it is masked, the link is down or the function is in D3hot (R341,
R367). -/
def State.signal (s : State) (v : Nat) : State :=
  if s.vecMasked v || s.hif.d3hot || !s.on HIF_STAT.LINK || !s.hif.cfg.msixOn || s.hif.cfg.msixMask || !s.busMaster then
    { s with hif := { s.hif with pba := putBits s.hif.pba v v 1 } }
  else s.emit (.msix v)

/-- The pending vectors that may signal now do (R345, R367). -/
def State.signalPending (s : State) : State :=
  s.each (List.range 32) (fun s v =>
    if wbit s.hif.pba v && !s.vecMasked v && !s.hif.d3hot && s.on HIF_STAT.LINK && s.hif.cfg.msixOn && !s.hif.cfg.msixMask && s.busMaster then
      { s with hif := { s.hif with pba := putBits s.hif.pba v v 0 } }.emit (.msix v)
    else s)

/-- An HIF producer fires; it is its ICU source as well (R371), and HIF_TRSUSP, HIF_QERR and HIF_EVLOST signal on ERRVEC
(R367). -/
def State.fireHif (s : State) (i : Nat) : State :=
  let s := (s.icuRaise (32 + i)).fire [hHif i]
  if 5 ≤ i then s.signal (s.get HIF_CTL.ERRVEC) else s

end Sys2Proof.Machine
end

