-- ==== Sys2Proof/Machine/Mem.lean ====
section
/-! DEFINITION. Memory: the address map, bytes and checked words, the store buffer, the merge buffer and the region rules (R228 to R236, R277 to R291). -/

namespace Sys2Proof.Machine

/-- The areas of the map of R233. -/
inductive Area where
  | loc | peer (q : Nat) | sys | cap | mram | periph | flash | rom | hole
deriving DecidableEq, Repr

/-- The area a core-view address lies in (R233, R234). -/
def areaOf (a : Nat) : Area :=
  if a < 0x40000 then .loc
  else if 0x08000000 ≤ a ∧ a < 0x08180000 then .peer ((a - 0x08000000) / 0x40000)
  else if 0x10000000 ≤ a ∧ a < 0x10400000 then .sys
  else if 0x18000000 ≤ a ∧ a < 0x18800000 then .cap
  else if 0x20000000 ≤ a ∧ a < 0x20100000 then .mram
  else if 0x40100000 ≤ a ∧ a < 0x41000000 then .periph
  else if 0x60000000 ≤ a ∧ a < 0x80000000 then .flash
  else if 0xF0000000 ≤ a ∧ a < 0xF0010000 then .rom
  else .hole

/-- The key of a byte in memory: local RAM under its peer window, everything else under its own address (R233). -/
def physOf (p a : Nat) : Nat := if a < 0x40000 then 0x08000000 + 0x40000 * p + a else a

/-- The key of byte `i` of core p's bit RAM: a key space of the model above 32 bits (R236). -/
def bitRamKey (p i : Nat) : Nat := 0x200000000 + 0x1000 * p + i

/-- What a byte of memory reads as while nothing has been written there: erased flash, the boot ROM, zero elsewhere
(log entry 4). -/
def memDefault (k : Nat) : Byte :=
  if 0x60000000 ≤ k ∧ k < 0x80000000 then 0xFF
  else if 0xF0000000 ≤ k ∧ k < 0xF0010000 then Config.bootRom (k - 0xF0000000)
  else 0

/-- The memory is in its canonical form. -/
def memWf (m : List Host.Cell) : Bool := spWf memDefault m

/-- One byte. -/
def State.byte (s : State) (k : Nat) : Byte := spGet memDefault s.mem k

/-- One byte written. -/
def State.setByte (s : State) (k : Nat) (b : Byte) : State := { s with mem := spSet memDefault s.mem k b }

/-- Bytes from a key up. -/
def State.bytes (s : State) (k n : Nat) : Bytes := (List.range n).map (fun i => s.byte (k + i))

/-- Bytes written from a key up. -/
def State.setBytes : State → Nat → Bytes → State
  | s, _, [] => s
  | s, k, b :: bs => (s.setByte k b).setBytes (k + 1) bs

/-- A little-endian word. -/
def State.word (s : State) (k : Nat) : Word := wordOfLe (s.bytes k 4)

/-- A word written. -/
def State.setWord (s : State) (k : Nat) (v : Word) : State := s.setBytes k (leBytes 4 v.toNat)

/-- The inverted codeword bits of the word at a key (R277). -/
def State.flipsAt (s : State) (k : Nat) : BitVec 39 := spGet (fun _ => 0) s.flips k

/-- Those bits replaced. -/
def State.setFlips (s : State) (k : Nat) (f : BitVec 39) : State :=
  { s with flips := spSet (fun _ => 0) s.flips k f }

/-- How many codeword bits are inverted. -/
def flipCount (f : BitVec 39) : Nat := countN 39 (fun i => nbit f.toNat i)

/-- STATUS of the executing bank of core p (R220). -/
def State.status (s : State) (p : Nat) : Word := (nth (s.core p).banks (s.core p).bank {}).status

/-- The core's executing context is in the Tenant world (R220). -/
def State.tenantCore (s : State) (p : Nat) : Bool := wbit (s.status p) 31

/-- The core's executing context is at user level (R220). -/
def State.userCore (s : State) (p : Nat) : Bool := wbit (s.status p) 30

/-- Bank b of core p. -/
def State.bankOf (s : State) (p b : Nat) : Bank := nth (s.core p).banks b {}

/-- That bank changed. -/
def State.modBank (s : State) (p b : Nat) (f : Bank → Bank) : State :=
  s.modCore p (fun c => { c with banks := modNth c.banks b f })

/-- G register r of bank b. -/
def State.gReg (s : State) (p b r : Nat) : Word := nth (s.bankOf p b).g r 0

/-- That register written. -/
def State.setG (s : State) (p b r : Nat) (v : Word) : State :=
  s.modBank p b (fun k => { k with g := modNth k.g r (fun _ => v) })

/-- The array number of MEM_CADDR and MEM_UADDR and the address bits they hold (R290). -/
def errAddr (finder : Nat) (k : Nat) : Nat × Nat :=
  if 0x200000000 ≤ k then (1, (k % 0x1000) * 8)
  else if 0x08000000 ≤ k ∧ k < 0x08180000 then
    (0, if (k - 0x08000000) / 0x40000 = finder then (k - 0x08000000) % 0x40000 else k)
  else if k < 0x18000000 then (2, k) else (3, k)

/-- The core whose correction count and report a word's error goes to: the owner of a local array, else the reader
(R279, R286). -/
def errOwner (finder k : Nat) : Nat :=
  if 0x200000000 ≤ k then (k - 0x200000000) / 0x1000
  else if 0x08000000 ≤ k ∧ k < 0x08180000 then (k - 0x08000000) / 0x40000 else finder

/-- A correction is counted and reported (R286). -/
def State.corrected (s : State) (p k : Nat) : State :=
  let o := errOwner p k
  let e := errAddr o k
  let s := if e.1 = 0 then s.bump (MEM_CCNT_LOC.COUNT o) else if e.1 = 1 then s.bump (MEM_CCNT_BIT.COUNT o)
    else if e.1 = 2 then s.bump (MEM_CCNT_SYS.COUNT o) else s.bump (MEM_CCNT_CAP.COUNT o)
  (((s.set (MEM_CADDR.ADDR o) (e.2 / 4)).set (MEM_CADDR.ARRAY o) e.1).set (MEM_STAT.CE o) 1).icuRaise (8 + o)

/-- An uncorrectable word is reported at the core that read it (R288). -/
def State.uncorrectable (s : State) (p k : Nat) : State :=
  let e := errAddr p k
  ((s.set (MEM_UADDR.ADDR p) (e.2 / 4)).set (MEM_UADDR.ARRAY p) e.1).set (MEM_STAT.UNC p) 1

/-- A checked read of the word at a key by core p: a single error is corrected, written back and counted (R286); with
two, no word (R288). -/
def State.readEcc (s : State) (p k : Nat) : Option Word × State :=
  let n := flipCount (s.flipsAt k)
  if n = 0 then (some (s.word k), s)
  else if n = 1 then (some (s.word k), (s.setFlips k 0).corrected p k)
  else (none, s.uncorrectable p k)

/-- The codeword bits that an armed injection of core p inverts (R291). -/
def State.injMask (s : State) (p : Nat) : BitVec 39 :=
  BitVec.ofNat 39 ((2 ^ s.get (MEM_INJ.POS0 p)) ^^^ (if s.on (MEM_INJ.TWO p) then 2 ^ s.get (MEM_INJ.POS1 p) else 0))

/-- A whole word written by core p to its local RAM or, with `bitram`, its bit RAM: new check bits, and the injection where
one is armed (R288, R291). -/
def State.writeEcc (s : State) (p k : Nat) (bitram : Bool) (v : Word) : State :=
  let s := s.setWord k v
  if s.on (MEM_INJ.ARM p) && (s.on (MEM_INJ.BITRAM p) == bitram) then
    (s.setFlips k (s.injMask p)).set (MEM_INJ.ARM p) 0
  else s.setFlips k 0

/-- The top of capture SRAM above the last frame is reserved and reads 0 (R10, R104). -/
def reservedCap (k : Nat) : Bool := decide (0x18000000 + 736 * 11397 ≤ k) && decide (k < 0x18800000)

/-- The density of the flash found (R378). -/
def State.density (s : State) : Nat := 2 ^ s.get NVC_FL_INFO.DENSLOG2

/-- An address of the flash window lies beyond the flash, and reads as ones (R233). -/
def State.beyondFlash (s : State) (a : Nat) : Bool := areaOf a == .flash && decide (s.density ≤ a - 0x60000000)

/-- The erase in progress is suspended or goes on (R380). -/
def State.setSusp (s : State) (b : Bool) : State :=
  match s.nvc.fop with
  | some o =>
    if o.op = 3 ∧ s.on NVC_FL_INFO.SUSP = true then
      { s.setb NVC_FSTAT.SUSPENDED b with nvc := { s.nvc with fop := some { o with susp := b } } }
    else s
  | none => s

/-- Some core has a read of the flash window outstanding. -/
def State.windowBusy (s : State) : Bool :=
  s.cores.any (fun c => match c.pload with
    | some l => areaOf l.addr == .flash
    | none => false)

/-- A suspended erase goes on after the last read of the window, but not in Hold-on-dip (R380, R381). -/
def State.flashResume (s : State) : State := if s.dip || s.windowBusy then s else s.setSusp false

/-- A whole word written over memory other than the writer's local RAM: it gets new check bits (R287, R288). -/
def State.writeFar (s : State) (k : Nat) (bs : Bytes) : State :=
  let s := if reservedCap k then s else s.setBytes k bs
  s.setFlips (k / 4 * 4) 0

/-- A store of core p performed at a target beyond its local port: a narrow one is merged there into the corrected word
(R284, R286); a word with a double error keeps its codeword and is reported (R288, log entry 121). -/
def State.storeFar (s : State) (p k : Nat) (bs : Bytes) : State :=
  let w := k / 4 * 4
  let n := flipCount (s.flipsAt w)
  if bs.length = 4 ∨ n = 0 then s.writeFar k bs
  else if n = 1 then (s.corrected p w).writeFar k bs
  else s.uncorrectable p w

/-- Words of checked memory with one inverted bit among `n` bytes at a key are corrected and written back, as by a reader
that is no core (R286). -/
def State.scrub (s : State) (k n : Nat) : State :=
  s.each ((List.range ((k % 4 + n + 3) / 4)).map (fun i => k / 4 * 4 + 4 * i)) (fun s w =>
    if flipCount (s.flipsAt w) = 1 then s.setFlips w 0 else s)

/-- Bytes written over words of a checked memory: a word they cover whole gets new check bits (R288), one they cover in
part is corrected first (R286). -/
def State.writeBlock (s : State) (k : Nat) (bs : Bytes) : State :=
  let s := (s.scrub k bs.length).setBytes k bs
  let lo := (k + 3) / 4
  s.each ((List.range ((k + bs.length) / 4 - lo)).map (fun i => 4 * (lo + i))) (fun s w => s.setFlips w 0)

/-- `n` words of system SRAM as an engine of the device reads them: a single error is corrected and written back (R286); of
a word with two errors, or outside system SRAM, the spec gives no data and it is free (log entry 17). -/
def State.engineWords : State → Nat → Nat → Bytes × State
  | s, _, 0 => ([], s)
  | s, k, n + 1 =>
    let free := areaOf k != .sys || decide (2 ≤ flipCount (s.flipsAt k))
    let t := (if free then s.drawn else s.scrub k 4).engineWords (k + 4) n
    (leBytes 4 (if free then s.freeVal else s.word k).toNat ++ t.1, t.2)

/-- Bytes that an engine of the device writes to system SRAM; none outside it (log entry 17). -/
def State.engineWrite (s : State) (k : Nat) (bs : Bytes) : State :=
  if 0x10000000 ≤ k ∧ k + bs.length ≤ 0x10400000 then s.writeBlock k bs else s

/-- The word with some of its bytes replaced. -/
def mergeBytes (v : Word) (bs : List (Option Byte)) : Word :=
  wordOfLe ((List.range 4).map (fun i => match nth bs i none with
    | some b => b
    | none => nth (leBytes 4 v.toNat) i 0))

/-- Core p's merge buffer is flushed, and its merged word (R284); an uncorrectable word loses the held bytes and raises the
imprecise machine check at the next instruction boundary (R288). -/
def State.flushWord (s : State) (p : Nat) : Option Word × State :=
  match (s.core p).mb with
  | none => (none, s)
  | some (k, bs) =>
    match s.readEcc p k with
    | (some v, s) =>
      (some (mergeBytes v bs), (s.modCore p (fun c => { c with mb := none })).writeEcc p k false (mergeBytes v bs))
    | (none, s) =>
      (none, (s.modCore p (fun c => { c with mb := none, boundary := c.boundary ++ [13] })).set (MEM_STAT.AUNC p) 1)

/-- Core p's merge buffer is flushed (R284). -/
def State.flushMerge (s : State) (p : Nat) : State := (s.flushWord p).2

/-- Core q's merge buffer is flushed where it holds the word at a key (R279, R284). -/
def State.flushHit (s : State) (q k : Nat) : State :=
  match (s.core q).mb with
  | some (k', _) => if k' = k then s.flushMerge q else s
  | none => s

/-- The oldest entry of core p's store buffer retires: to the port, to the merge buffer, or to the interconnect (R281,
R284). -/
def State.retireStore (s : State) (p : Nat) : State :=
  match (s.core p).sb with
  | [] => s
  | e :: es =>
    let s := s.modCore p (fun c => { c with sb := es })
    if areaOf e.addr = .loc then
      let k := physOf p (e.addr / 4 * 4)
      if e.bytes.length = 4 then
        let s := match (s.core p).mb with
          | some (k', _) => if k' = k then s.modCore p (fun c => { c with mb := none }) else s
          | none => s
        s.writeEcc p k false (wordOfLe e.bytes)
      else
        let s := match (s.core p).mb with
          | some (k', _) => if k' = k then s else s.flushMerge p
          | none => s
        let old := match (s.core p).mb with
          | some (_, bs) => bs
          | none => List.replicate 4 none
        let new := (List.range 4).map (fun i =>
          if e.addr % 4 ≤ i ∧ i < e.addr % 4 + e.bytes.length then some (nth e.bytes (i - e.addr % 4) 0)
          else nth old i none)
        s.modCore p (fun c => { c with mb := some (k, new) })
    else s.modCore p (fun c => { c with posted := c.posted ++ [e] })

/-- `n` retirements. -/
def State.retireN (s : State) (p : Nat) : Nat → State
  | 0 => s
  | n + 1 => (s.retireStore p).retireN p n

/-- A store entry and an access of `n` bytes share a byte (R282). -/
def overlaps (e : StEntry) (a n : Nat) : Bool := decide (e.addr < a + n) && decide (a < e.addr + e.bytes.length)

/-- The youngest entry that overlaps an access. -/
def youngest (es : List StEntry) (a n : Nat) : Option StEntry := (es.filter (fun e => overlaps e a n)).getLast?

/-- The byte at a core-view address with every store of core p before it: from its store buffer, its merge buffer, its
writes on the way, or memory (R268, R281, R284). -/
def State.newByte (s : State) (p a : Nat) : Byte :=
  let c := s.core p
  let held := match c.mb with
    | some (k, bs) => if k = physOf p (a / 4 * 4) ∧ areaOf a = .loc then nth bs (a % 4) none else none
    | none => none
  match youngest c.sb a 1, held, youngest c.posted a 1 with
  | some e, _, _ => nth e.bytes (a - e.addr) 0
  | none, some b, _ => b
  | none, none, some e => nth e.bytes (a - e.addr) 0
  | none, none, none => if s.beyondFlash a then 0xFF else s.byte (physOf p a)

/-- FETCH_QUEUE_UPDATE: a store of `n` bytes `off` slots on is about to change code that the fetch queue may hold; the bytes
it replaces stay for the three instructions after it (R268). -/
def State.noteCode (s : State) (p off a n : Nat) : State :=
  let t := (s.core p).slot
  let old := (List.range n).map (fun i => (t + off, a + i, s.newByte p (a + i)))
  s.modCore p (fun c => { c with fq := c.fq.filter (fun e => decide (t < e.1 + 4)) ++ old })

/-- The byte at a core-view address in the form that the instruction in issue slot `t` has it (R268). -/
def State.codeByte (s : State) (p t a : Nat) : Byte :=
  match (s.core p).fq.find? (fun e => e.2.1 == a && decide (t < e.1 + 4)) with
  | some e => e.2.2
  | none => s.newByte p a

/-- A store that issues `off` slots on enters core p's store buffer; with 8 entries there the oldest retires first (R281). -/
def State.pushStoreAt (s : State) (p off : Nat) (e : StEntry) : State :=
  let s := s.noteCode p off e.addr e.bytes.length
  let s := if 8 ≤ (s.core p).sb.length then s.retireStore p else s
  s.modCore p (fun c => { c with sb := c.sb ++ [e] })

/-- A store of the present slot enters core p's store buffer. -/
def State.pushStore (s : State) (p : Nat) (e : StEntry) : State := s.pushStoreAt p 0 e

/-- The entry covers every byte of the access. -/
def coversAll (e : StEntry) (a n : Nat) : Bool := decide (e.addr ≤ a) && decide (a + n ≤ e.addr + e.bytes.length)

/-- How many of the oldest entries must retire before none that overlaps the access is left. -/
def overlapCount : List StEntry → Nat → Nat → Nat
  | [], _, _ => 0
  | e :: es, a, n =>
    let r := overlapCount es a n
    if r ≠ 0 then r + 1 else if overlaps e a n then 1 else 0

/-- Entries overlapping an access retire, oldest first (R282). -/
def State.retireOverlap (s : State) (p a n : Nat) : State := s.retireN p (overlapCount (s.core p).sb a n)

/-- A write of core p to memory beyond its port is performed at its target (R279, R281). -/
def State.performFar (s : State) (p : Nat) (e : StEntry) : State :=
  match areaOf e.addr with
  | .peer q => (s.flushHit q (e.addr / 4 * 4)).storeFar p e.addr e.bytes
  | _ => s.storeFar p e.addr e.bytes

/-- Posted writes of core p to memory are performed at their targets, in order; those to registers stay (R281). -/
def State.deliverMem (s : State) (p : Nat) : State :=
  let es := (s.core p).posted
  let s := s.modCore p (fun c => { c with posted := c.posted.filter (fun e => areaOf e.addr = .periph) })
  s.each (es.filter (fun e => areaOf e.addr ≠ .periph)) (fun s e => s.performFar p e)

/-- The word at a core-view address outside the peripheral region, as its port answers a read by core p; none where it
is uncorrectable (R233, R277 to R280, R286, R288). -/
def State.portWord (s : State) (p a : Nat) : Option Word × State :=
  let k := physOf p (a / 4 * 4)
  match areaOf k with
  | .peer q => (s.flushHit q k).readEcc p k
  | .sys => s.readEcc p k
  | .cap => s.readEcc p k
  | _ => (some (if s.beyondFlash k then 0xFFFFFFFF else s.word k), s)

/-- The same for an access of core p in M1: one that hits the word its own merge buffer holds returns the merged word of the
flush it starts (R284). -/
def State.ownWord (s : State) (p a : Nat) : Option Word × State :=
  match (s.core p).mb with
  | some (k, _) => if k = physOf p (a / 4 * 4) ∧ areaOf a = .loc then s.flushWord p else s.portWord p a
  | none => s.portWord p a

/-- The bytes of a narrow or whole access inside a word. -/
def pickBytes (v : Word) (a n : Nat) : Nat := (v.toNat / 2 ^ (8 * (a % 4))) % 2 ^ (8 * n)

/-- A load of `n` bytes by core p from memory other than registers: from the youngest store that covers it, else from the
port once overlapping stores have retired (R282); none where the word is uncorrectable. -/
def State.loadMem (s : State) (p a n : Nat) : Option Nat × State :=
  match youngest (s.core p).sb a n with
  | some e =>
    if coversAll e a n then (some (leAt e.bytes (a - e.addr) n), s)
    else
      let s := (s.retireOverlap p a n).deliverMem p
      match s.ownWord p a with
      | (some v, s) => (some (pickBytes v a n), s)
      | (none, s) => (none, s)
  | none =>
    let s := s.deliverMem p
    match s.ownWord p a with
    | (some v, s) => (some (pickBytes v a n), s)
    | (none, s) => (none, s)

/-- A read that never forwards from the store buffer: page 0xF0, BSCAN and the block elements (R282, R285). -/
def State.loadPort (s : State) (p a : Nat) : Option Word × State := ((s.retireOverlap p a 4).deliverMem p).ownWord p a

/-- The kinds of access (R329: INFO). -/
inductive AccKind where
  | load | store | fetch
deriving DecidableEq, Repr

/-- The first region that holds an address for a world (R230). -/
def State.regionOf (s : State) (p : Nat) (tenant : Bool) (a : Nat) : Option Nat :=
  (whichN 16 (fun j => s.on (MPR_ATTR.EN p j) && (s.on (MPR_ATTR.WORLD p j) == tenant)
    && ((s.rd (MPR_BASE p j)).toNat / 2 ^ s.get (MPR_ATTR.SZLOG2 p j) == a / 2 ^ s.get (MPR_ATTR.SZLOG2 p j)))).head?

/-- The regions permit an access (R230). -/
def State.regionOk (s : State) (p : Nat) (tenant user : Bool) (a : Nat) (k : AccKind) : Bool :=
  match s.regionOf p tenant a with
  | none => false
  | some j => (!user || s.on (MPR_ATTR.U p j)) && (match k with
    | .load => s.on (MPR_ATTR.R p j)
    | .store => s.on (MPR_ATTR.WR p j)
    | .fetch => s.on (MPR_ATTR.X p j))

/-- The exception code a data access of `n` bytes raises in a world and level, 0 none (R225, R228 to R234, R248, R398);
`wordOnly` areas refuse a narrow access. Where several hold, the world violation goes first, then privilege, alignment,
access fault and the refusal of its target (log entry 12). -/
def State.dataCheck (s : State) (p : Nat) (tenant user : Bool) (a n : Nat) (k : AccKind) : Nat :=
  let ar := areaOf a
  if tenant && (ar == .rom || (match ar with | .peer _ => true | _ => false)) then 3
  else if user && (ar == .periph || (match ar with | .peer _ => true | _ => false)) then 2
  else if a % n ≠ 0 then 5
  else if ar == .hole then 4
  else if k == .store && (ar == .flash || ar == .rom) then 4
  else if n ≠ 4 && (ar == .cap || ar == .mram || ar == .periph) then 4
  else if ar ≠ .periph && (tenant || user) && !s.regionOk p tenant user a k then 4
  else if k == .store && ar == .mram && decide (a < 0x20080400) then 14
  else 0

/-- The index of a world and level in the stack limits (R222). -/
def slimIdx (tenant user : Bool) : Nat := 2 * b2n tenant + b2n user

/-- The exception code a stack access of `n` bytes raises before it reaches memory, 0 none: a push where `push` (R239). -/
def State.stackCheck (s : State) (p : Nat) (tenant user push : Bool) (sp n : Nat) : Nat :=
  let i := slimIdx tenant user
  let lo := (s.rd (SLIM_LO p i)).toNat
  let hi := (s.rd (SLIM_HI p i)).toNat
  if sp % 4 ≠ 0 then 5
  else if push then (if lo + n ≤ sp ∧ sp ≤ hi then 0 else 6)
  else (if lo ≤ sp ∧ sp + n ≤ hi then 0 else 6)

end Sys2Proof.Machine
end

