-- ==== Sys2Proof/Machine/Records.lean ====
section
/-! DEFINITION. Event records, MRAM records and MRAM counters as they are queued at their decision instants (R356 to R358, R399, R400). -/

namespace Sys2Proof.Machine

/-- Payload bytes of a record: byte 16 + i is entry i (R356, R357). -/
def payloadOf (xs : List Nat) : Bytes := (List.range 12).map (fun i => BitVec.ofNat 8 (nth xs i 0))

/-- An event record is held until it is written, with HELD where the ring takes none; one that finds 64 held is lost (R348,
R358). -/
def State.evPost (s : State) (ty : Nat) (payload : Bytes) : State :=
  let q := s.hif.evSeq
  let s := { s with hif := { s.hif with evSeq := (q + 1) % 2 ^ 32 } }
  if s.hif.evHeld.length < 64 then
    let r : EvRec := ⟨ty, s.tbu.tbc, payload, q, s.hif.evLost, !s.on HIF_EVR_CTL.EN || s.on HIF_EVR_CTL.ERR⟩
    { s with hif := { s.hif with evHeld := s.hif.evHeld ++ [r], evLost := 0 } }
  else ({ s with hif := { s.hif with evLost := s.hif.evLost + 1 } }).fireHif 7

/-- An MRAM record waits for the writer; one that finds 64 waiting is lost (R399). -/
def State.mrPost (s : State) (ty : Nat) (payload : Bytes) : State :=
  if s.nvc.mrq.length < 64 then
    { s with nvc := { s.nvc with mrq := s.nvc.mrq ++ [⟨ty, s.tbu.tbc, payload⟩] } }
  else { s with nvc := { s.nvc with mrLoss := true } }

/-- A record goes among records in the order of R399: ascending TYPE, then ascending phase, lane or rail. -/
def putRec (r : MrRec) : List MrRec → List MrRec
  | [] => [r]
  | x :: xs =>
    if r.ty < x.ty ∨ (r.ty = x.ty ∧ leAt r.payload 0 1 < leAt x.payload 0 1) then r :: x :: xs else x :: putRec r xs

/-- Everything that `f` records is of one instant, and waits for the writer in the order of R399. -/
def State.oneInstant (s : State) (f : State → State) : State :=
  let n := s.nvc.mrq.length
  let s := f s
  { s with nvc := { s.nvc with mrq := s.nvc.mrq.take n ++ (s.nvc.mrq.drop n).foldl (fun l r => putRec r l) [] } }

/-- MRAM counter `i` one more, held at 0xFFFF_FFFF (R400). -/
def State.mramCount (s : State) (i : Nat) : State :=
  let a := 0x20000040 + 4 * i
  s.setWord a (BitVec.ofNat 32 (satInc 0xFFFFFFFF (s.word a).toNat))

/-- A happening that leaves both records (R357, R399). -/
def State.record (s : State) (ty : Nat) (xs : List Nat) : State :=
  (s.mrPost ty (payloadOf xs)).evPost ty (payloadOf xs)

end Sys2Proof.Machine
end

