-- ==== Sys2Proof/Machine/Microword.lean ====
section
/-! DEFINITION. The microword: its formats and fields, one constructor for each, every reserved encoding ILL; and its fetch from the control stores, with the patches (R292 to R302; log entry 69). -/

namespace Sys2Proof.Machine

/-- What a microword does. Operands are 5-bit selectors (R294). -/
inductive Micro where
  /-- ILL, and every encoding that executes as it (R293, R299). -/
  | ill
  /-- ALU: operation, destination, operands a and b, and whether the flags are written. -/
  | alu (fn dst sa sb : Nat) (fl : Bool)
  /-- LIT. -/
  | lit (dst v : Nat)
  /-- MEM load: bytes, address and data registers, sign extension, ATOM, stack check. -/
  | load (n areg dreg : Nat) (sx at_ chk : Bool)
  /-- MEM store. -/
  | store (n areg dreg : Nat) (at_ chk : Bool)
  /-- MEM push: the address register goes down first. -/
  | push (n areg dreg : Nat) (at_ chk : Bool)
  /-- MEM pop: the address register goes up afterwards. -/
  | pop (n areg dreg : Nat) (sx at_ chk : Bool)
  /-- BR. -/
  | br (cond : Nat) (neg : Bool) (target : Nat)
  /-- WAIT. -/
  | wait (wc arg : Nat)
  /-- SEQ END, and SEQ DISPATCH, after which the next instruction's dispatch follows. -/
  | done
  /-- SEQ CALL. -/
  | call (target : Nat)
  /-- SEQ RET. -/
  | ret
  /-- SYS. -/
  | sys (fn reg imm : Nat)
  /-- LONG. -/
  | long (fn dst sa sb : Nat)
deriving DecidableEq, Repr

/-- MEM (R293). -/
def memMicro (w : Word) : Micro :=
  let n := 2 ^ getBits w 17 16
  let a := getBits w 15 11
  let d := getBits w 10 6
  let sx := wbit w 5
  let at_ := wbit w 4
  let chk := wbit w 3
  if getBits w 17 16 = 3 ∨ getBits w 2 0 ≠ 0 then .ill
  else match getBits w 19 18 with
    | 0 => .load n a d sx at_ chk
    | 1 => if sx then .ill else .store n a d at_ chk
    | 2 => if sx then .ill else .push n a d at_ chk
    | _ => .pop n a d sx at_ chk

/-- WAIT (R298): INT is allowed, and required, for FABRIC alone. -/
def waitMicro (w : Word) : Micro :=
  let wc := getBits w 19 16
  let arg := getBits w 9 0
  let ok := match wc with
    | 0 => decide (arg < 5)
    | 1 => arg == 0
    | 2 => arg == 0
    | 3 => decide (arg < 60)
    | 4 => decide (arg < 16)
    | 5 => arg == 0
    | _ => false
  if ok && getBits w 14 10 == 0 && wbit w 15 == (wc == 3) then .wait wc arg else .ill

/-- SEQ (R293). -/
def seqMicro (w : Word) : Micro :=
  if getBits w 16 15 ≠ 0 then .ill
  else match getBits w 19 17 with
    | 0 => if getBits w 14 0 = 0 then .done else .ill
    | 1 => .call (getBits w 14 0)
    | 2 => if getBits w 14 0 = 0 then .ret else .ill
    | 3 => if getBits w 14 0 = 0 then .done else .ill
    | _ => .ill

/-- SYS (R296): functions 0, 1 and 8 alone use IMM11, and functions 2, 7 and 8 name no register. -/
def sysMicro (w : Word) : Micro :=
  let fn := getBits w 19 16
  let reg := getBits w 15 11
  let imm := getBits w 10 0
  let ok := match fn with
    | 0 => true
    | 1 => true
    | 2 => reg == 0 && imm == 0
    | 3 => imm == 0
    | 4 => imm == 0
    | 5 => imm == 0
    | 6 => imm == 0
    | 7 => reg == 0 && imm == 0
    | 8 => reg == 0 && decide (1 ≤ imm) && decide (imm ≤ 14)
    | _ => false
  if ok then .sys fn reg imm else .ill

/-- THE MICROWORD in bits [23:0] (R293 to R298). -/
def microOf (v : Nat) : Micro :=
  let w : Word := BitVec.ofNat 32 v
  match getBits w 23 20 with
  | 1 => .alu (getBits w 19 16) (getBits w 15 11) (getBits w 10 6) (getBits w 5 1) (wbit w 0)
  | 2 => .lit (getBits w 19 15) (getBits w 14 0)
  | 3 => memMicro w
  | 4 => if getBits w 19 16 < 10 then .br (getBits w 19 16) (wbit w 15) (getBits w 14 0) else .ill
  | 5 => waitMicro w
  | 6 => seqMicro w
  | 7 => sysMicro w
  | 8 => if wbit w 0 || decide (9 < getBits w 19 16) then .ill
    else .long (getBits w 19 16) (getBits w 15 11) (getBits w 10 6) (getBits w 5 1)
  | _ => .ill

/-- The target of a dispatch word (R301): bits [23:15] are 0, else none. -/
def dispatchOf (v : Nat) : Option Nat := if v < 2 ^ 15 then some v else none

/-- The ones of a number's low `n` bits are odd in count. -/
def oddOnes (n v : Nat) : Bool := countN n (nbit v) % 2 == 1

/-- A microword with its parity bits (R292). -/
def storedWord (w : Nat) : BitVec 26 :=
  BitVec.ofNat 26 (w % 2 ^ 24 + b2n (oddOnes 12 w) * 2 ^ 24 + b2n (oddOnes 12 (w / 2 ^ 12)) * 2 ^ 25)

/-- The parity of a stored word holds (R292). -/
def parityOk (v : BitVec 26) : Bool := v == storedWord v.toNat

/-- The key of word `a` of a store of core `p`: half 1 or 2, or 3 for patch memory. -/
def ucKey (p half a : Nat) : Nat := 0x10000 * p + 0x4000 * (half - 1) + a

/-- A stored microword. -/
def State.ucWord (s : State) (k : Nat) : BitVec 26 := spGet (fun _ => 0) s.uc.words k

/-- A stored microword, replaced. -/
def State.setUcWord (s : State) (k : Nat) (v : BitVec 26) : State :=
  { s with uc := { s.uc with words := spSet (fun _ => 0) s.uc.words k v } }

/-- The patch index that replaces a fetch from micro-address `a` of the ROM range, if a match register names it: the
lowest wins (R302). -/
def State.ucMatch (s : State) (p a : Nat) : Option Nat :=
  ((List.range 32).find? (fun i => s.on (UC_MATCH.EN p i) && 0x4000 + s.get (UC_MATCH.ROMOFS p i) == a)).map
    (fun i => s.get (UC_MATCH.PIDX p i))

/-- Where a fetch from micro-address `a` reads (R300 to R302): source as UC_PAR.SRC has it, and the key of the stored word
where the model holds it. -/
def State.ucSource (s : State) (p a : Nat) : Nat × Option Nat :=
  let act := s.get (UC_STAT.ACT p)
  if a < 0x4000 then (act, if act = 0 then none else some (ucKey p act a))
  else if a < 0x5800 then
    match s.ucMatch p a with
    | some i => (3, some (ucKey p 3 i))
    | none => (0, none)
  else if a < 0x5880 then (3, some (ucKey p 3 (a - 0x5800)))
  else (act, none)

/-- What a microword fetch brings (R292, R300 to R302). -/
inductive UcWord where
  /-- bits [23:0] of a word whose parity holds. -/
  | word (v : Nat)
  /-- a word whose parity fails. -/
  | bad
  /-- no store lies there: ILL. -/
  | ill
deriving DecidableEq, Repr

/-- The fetch from micro-address `a`; the reserved service entries of the ROM hold ILL words (R325). -/
def State.ucFetch (s : State) (p a : Nat) : UcWord :=
  match (s.ucSource p a).2 with
  | some k => if parityOk (s.ucWord k) then .word ((s.ucWord k).toNat % 2 ^ 24) else .bad
  | none =>
    if 0x4208 ≤ a ∧ a < 0x4240 then .word 0
    else if 0x4000 ≤ a ∧ a < 0x5800 then .word (Config.ucRom (a - 0x4000)).toNat
    else .ill

/-- A fetch from micro-address `a` brings an ILL word (R299). -/
def State.ucIll (s : State) (p a : Nat) : Bool :=
  match s.ucFetch p a with
  | .word v => microOf v == .ill
  | .bad => false
  | .ill => true

/-- Some match register of core p is enabled, so that patch words may stand in the ROM's place (R302). -/
def State.patched (s : State) (p : Nat) : Bool := (List.range 32).any (fun i => s.on (UC_MATCH.EN p i))

/-- Micro-address `a` is read from the ROM itself, whose words are never at fault (log entry 69). -/
def State.inRom (s : State) (p a : Nat) : Bool :=
  decide (0x4000 ≤ a) && decide (a < 0x5800) && !(decide (0x4208 ≤ a) && decide (a < 0x4240)) && (s.ucMatch p a).isNone

/-- The micro-address of the dispatch word at an offset of the active store's table (R301). -/
def State.dispatchAt (s : State) (p off : Nat) : Nat := if s.get (UC_STAT.ACT p) = 0 then 0x4000 + off else off

end Sys2Proof.Machine
end

