-- ==== Sys2Proof/Machine/Rights.lean ====
section
/-! DEFINITION. The rights to registers: worlds, Keeper-only bits and violations (R8, R206 to R208, R232, R315, R343). -/

namespace Sys2Proof.Machine

/-- The access carries the Tenant world (R220, R343, R396). -/
def State.tenantWho (s : State) : Who → Bool
  | .core p => s.tenantCore p
  | .host => s.on HIF_HPOL.HW
  | .tlaell => false

/-- The owner number a writer has in the fabric (R208). -/
def ownerNo : Who → Nat
  | .core p => p
  | .host => 6
  | .tlaell => 7

/-- A Tenant writer of that number may write the staged fields of channel n (R208). -/
def State.chanMine (s : State) (o n : Nat) : Bool :=
  s.on (EVF_CH_CFG.SEC n) && s.on (EVF_CH_CFG.OWNW n)
    && (s.get (EVF_CH_CFG.OWNCORE n) == o || s.get (EVF_CH_CFG.OWNCORE n) == 7)

/-- Bits of ICU word i that the Tenant world reaches (R315). -/
def State.icuMask (s : State) (i : Nat) : Word :=
  BitVec.ofNat 32 (maskN 32 (fun j => s.on (ICU_TGT.W (32 * i + j))))

/-- Bits of a consumer word i that the Tenant world reaches (R216). -/
def conMask (i : Nat) : Word := BitVec.ofNat 32 (maskN 32 (fun j => !consumerKo (32 * i + j)))

/-- Bits of watch word i that the Tenant world reaches: the channels that are not Keeper-only (R207). -/
def State.watchMask (s : State) (i : Nat) : Word :=
  BitVec.ofNat 32 (maskN 32 (fun j => wbit (s.chCfg (32 * i + j)) 29))

/-- The address lies in a family of `n` registers at stride `st` from `base`. -/
def inFam (a base n st : Nat) : Bool := decide (base ≤ a) && decide (a < base + n * st) && (a - base) % st == 0

/-- The index of an address in such a family. -/
def famIdx (a base st : Nat) : Nat := (a - base) / st

/-- A Tenant write of `v` at address `a` changes a bit it may not change (R8, R206 to R208, R315). -/
def State.violates (s : State) (o a : Nat) (v : Word) : Bool :=
  match regAt a with
  | none => false
  | some r =>
    if r.keeper then true
    else if inFam a (ICU_PEND 0) 40 4 then v &&& ~~~(s.icuMask (famIdx a (ICU_PEND 0) 4)) ≠ 0
    else if inFam a (ICU_SET 0) 40 4 then v &&& ~~~(s.icuMask (famIdx a (ICU_SET 0) 4)) ≠ 0
    else if inFam a (ICU_OVR 0) 40 4 then v &&& ~~~(s.icuMask (famIdx a (ICU_OVR 0) 4)) ≠ 0
    else if inFam a (EVF_WATCH 0) 16 4 then v &&& ~~~(s.watchMask (famIdx a (EVF_WATCH 0) 4)) ≠ 0
    else if inFam a (EVF_OVR 0) 64 4 then v &&& ~~~(conMask (famIdx a (EVF_OVR 0) 4)) ≠ 0
    else if inFam a (EVF_CH_SRC 0) 512 16 then !s.chanMine o (famIdx a (EVF_CH_SRC 0) 16)
    else if inFam a (EVF_CH_ELEM 0) 512 16 then !s.chanMine o (famIdx a (EVF_CH_ELEM 0) 16)
    else if inFam a (EVF_CH_CFG 0) 512 16 then
      !s.chanMine o (famIdx a (EVF_CH_CFG 0) 16) || getBits v 29 25 ≠ getBits (s.rd a) 29 25
    else if inFam a (EVF_CON 0) 2048 4 then
      consumerKo (famIdx a (EVF_CON 0) 4)
        || (wbit v 9 && !s.chanMine o (getBits v 8 0)) || (wbit v 19 && !s.chanMine o (getBits v 18 10))
    else if a = EVF_CON_FIRE then consumerKo (getBits v 10 0)
    else false

/-- The violation flag of the block an address lies in sets, where the block has one (R8, R232); a trigger of a Keeper-only
consumer is the fabric's (R206). -/
def State.secv (s : State) (a : Nat) : State :=
  if a / 0x100000 = 0x406 ∨ inFam a (ANV_LN_TRIG 0) 34 0x40 then s.set EVF_STAT.SECV 1
  else if a / 0x100000 = 0x407 then s.set ICU_STAT.SECV 1
  else s

end Sys2Proof.Machine
end

