-- ==== Sys2Proof/Machine/Except.lean ====
section
/-! DEFINITION. Entering and leaving contexts of a core: interrupts, tasks, exceptions, escalation, lockup and the exit sequence, each one shared operation (R304 to R306, R312 to R335). -/

namespace Sys2Proof.Machine

/-- STATUS in the layout of R220, with FPEN and the flags clear. -/
def mkStatus (w l : Bool) (bank pri mth : Nat) : Word :=
  BitVec.ofNat 32 (b2n w * 2 ^ 31 + b2n l * 2 ^ 30 + bank % 16 * 2 ^ 26 + pri % 32 * 2 ^ 21 + mth % 32 * 2 ^ 16)

/-- PRI of a STATUS. -/
def stPri (v : Word) : Nat := getBits v 25 21

/-- MTH of a STATUS. -/
def stMth (v : Word) : Nat := getBits v 20 16

/-- A result written where it lands (R265, R271). -/
def PyCore.write (c : PyCore) : Dest → Word → PyCore
  | .g b r, v => { c with banks := modNth c.banks b (fun k => { k with g := modNth k.g r (fun _ => v) }) }
  | .f r, v => { c with f := modNth c.f r (fun _ => v) }
  | .status b m, v =>
    { c with banks := modNth c.banks b (fun k => { k with status := (k.status &&& ~~~m) ||| (v &&& m) }) }
  | .prog b, v => { c with banks := modNth c.banks b (fun k => { k with prog := v &&& 0x80FFFFFF }) }
  | .fpFlags, v => { c with fpsr := c.fpsr ||| v }
  | .fpsr, v => { c with fpsr := v &&& 0x31F }
  | .sys _, _ => c

/-- The range of the escalation stack is valid (R240). -/
def State.espOk (s : State) (p : Nat) : Bool :=
  let top := (s.rd (ESP p)).toNat
  let sz := s.get (ESSZ.SIZE p)
  top % 8 == 0 && sz % 8 == 0 && decide (256 ≤ sz) && decide (sz ≤ 65536) && decide (sz ≤ top) && decide (top ≤ 0x40000)
    && (List.range 4).all (fun i =>
      let lo := (s.rd (SLIM_LO p i)).toNat
      let hi := (s.rd (SLIM_HI p i)).toNat
      decide (hi ≤ lo) || decide (top ≤ lo) || decide (hi ≤ top - sz))

/-- The device validates the escalation stack (R240). -/
def State.espCheck (s : State) (p : Nat) : State :=
  if s.espOk p then s.set (CORE_CTL.ESPV p) 1
  else (s.set (CORE_CTL.ESPV p) 0).set (CORE_CTL.ESPBAD p) 1

/-- A field of a system register takes a value unless it is a reserved encoding (R10). -/
def State.setOk (s : State) (f : FRef) (v hi : Nat) : State := if v ≤ hi then s.set f v else s

/-- A system register written by MTSR (R222, R223, R338, and the field tables of 09 and 13). -/
def State.sysWrite (s : State) (p n : Nat) (v : Word) : State :=
  if n = 0x002 then s.set (BWIN.BANK p) (getBits v 3 0)
  else if n = 0x005 then
    let s := s.set (CORE_CTL.DETM p) (getBits v 0 0)
    if wbit v 2 then s.set (CORE_CTL.ESPBAD p) 0 else s
  else if n = 0x006 then s.setOk (TFLOOR.FLOOR p) (getBits v 4 0) 16
  else if n = 0x007 then s.set (BANK_OWN.TEN p) (getBits v 15 1)
  else if n = 0x008 then s.setOk (BITSPLIT.SPLIT p) (getBits v 6 0) 64
  else if 0x010 ≤ n ∧ n ≤ 0x017 then
    (s.set ⟨SLIM_LO p 0 + (n - 0x010), 31, 3⟩ (getBits v 31 3)).espCheck p
  else if n = 0x018 then (s.set (ESP.ADDR p) (getBits v 31 3)).espCheck p
  else if n = 0x019 then (s.set (ESSZ.SIZE p) (getBits v 16 0)).espCheck p
  else if 0x020 ≤ n ∧ n ≤ 0x03F then
    let j := (n - 0x020) / 2
    if n % 2 = 0 then s.set (MPR_BASE.BASE p j) (getBits v 31 5)
    else
      let s := (((((s.set (MPR_ATTR.EN p j) (getBits v 31 31)).set (MPR_ATTR.WORLD p j) (getBits v 30 30)).set
        (MPR_ATTR.U p j) (getBits v 29 29)).set (MPR_ATTR.R p j) (getBits v 28 28)).set
        (MPR_ATTR.WR p j) (getBits v 27 27)).set (MPR_ATTR.X p j) (getBits v 26 26)
      if 5 ≤ getBits v 5 0 then s.setOk (MPR_ATTR.SZLOG2 p j) (getBits v 5 0) 32 else s
  else if n = 0x040 then s.set (EDTB_K.ADDR p) (getBits v 31 10)
  else if n = 0x041 then s.set (EDTB_T.ADDR p) (getBits v 31 10)
  else if n = 0x042 then s.wr (ESC_VEC p) v
  else if n = 0x043 then (s.set (FPOWN.VALID p) (getBits v 31 31)).set (FPOWN.BANK p) (getBits v 3 0)
  else if n = 0x050 then s.setOk (ESC_CAUSE.DCNT p) (getBits v 21 20) 2
  else if n = 0x051 then s.wr (ESC_PC p) v
  else if n = 0x052 then
    let old := s.rd (ESC_STATUS p)
    s.wr (ESC_STATUS p) (mkStatus (wbit v 31) (wbit v 30) (getBits v 29 26) (if stPri v ≤ 16 then stPri v else stPri old)
      (if stMth v ≤ 16 then stMth v else stMth old) ||| (v &&& 0x801F))
  else if n = 0x056 then s.wr (ESC_DTGT p) v
  else s

/-- One result lands. -/
def State.landOne (s : State) (p : Nat) (l : Landing) : State :=
  match l.dest with
  | .sys n => s.sysWrite p n l.val
  | d => s.modCore p (fun c => c.write d l.val)

/-- Every result due at slot `t` lands, in issue order (R266). -/
def State.landAt (s : State) (p t : Nat) : State :=
  let ls := (s.core p).land
  let s := s.modCore p (fun c => { c with land := c.land.filter (fun l => l.due ≠ t) })
  s.each (ls.filter (fun l => l.due = t)) (fun s l => s.landOne p l)

/-- Every result due up to slot `t` lands, slot by slot; no result is due more than 4 slots ahead (R264, R266). -/
def State.landTo (s : State) (p t : Nat) : State :=
  s.each ((List.range 5).map (fun j => t + j - 4)) (fun s u => s.landAt p u)

/-- Every issued result lands, whatever its slot (R267). -/
def State.landAll (s : State) (p : Nat) : State :=
  (s.each (List.range 5) (fun s j => s.landAt p ((s.core p).slot + j))).modCore p (fun c => { c with
    mthWas := none
    detWas := none })

/-- A long operation finishes: its results land and its busy bits clear (R256). -/
def State.finishLong (s : State) (p : Nat) (o : LongOp) : State :=
  let s := s.modCore p (fun c => { c with long := c.long.erase o })
  let s := s.each o.results (fun s r => s.modCore p (fun c => c.write r.1 r.2))
  if o.flags = 0 then s else s.modCore p (fun c => c.write .fpFlags o.flags)

/-- Long operations that a test names finish, oldest first. -/
def State.finishLongs (s : State) (p : Nat) (f : LongOp → Bool) : State :=
  s.each ((s.core p).long.filter f) (fun s o => s.finishLong p o)

/-- Core p has an executing context that can issue: not held in reset, not idle, not locked (R312, R320, R332). -/
def State.issuing (s : State) (p : Nat) : Bool :=
  (s.core p).live && !(s.core p).waiting && !s.on (DRV_STAT.LOCKED p) && !nth s.pmu.held p true

/-- The banks on the chain of links from bank b, b itself first (R313). -/
def State.chain (s : State) (p : Nat) : Nat → Nat → List Nat
  | 0, _ => []
  | n + 1, b =>
    let l := (s.bankOf p b).link
    b :: (if l.valid then s.chain p n l.rbank else [])

/-- Bank b is in use (R313). -/
def State.inUse (s : State) (p b : Nat) : Bool :=
  (s.core p).live && (s.chain p 16 (s.core p).bank).contains b

/-- Some enabled compare unit, DRV_NEXT or the next T0 lies within 3 µs (R337): 60 base periods. -/
def State.eventNear (s : State) (p : Nat) : Bool :=
  let near := fun (v : Nat) => decide (v ≤ s.flockTime + 60)
  s.on (DRV_CTL.TICKW p)
    || (s.on (DRV_CTL.NEXTV p) && near ((s.rd (DRV_NEXT_HI p)).toNat * 2 ^ 32 + (s.rd (DRV_NEXT_LO p)).toNat))
    || (List.range 8).any (fun n => nbit (s.get TBU_CMP_CTL.EN) n
      && near ((s.rd (TBU_CMP_HI n)).toNat * 2 ^ 32 + (s.rd (TBU_CMP_LO n)).toNat))

/-- An enabled source of priority 0 targets core p (R335, R337). -/
def State.zeroTarget (s : State) (p : Nat) : Bool :=
  (List.range 1280).any (fun n => s.on (ICU_TGT.EN n) && s.get (ICU_TGT.CORE n) == p && s.get (ICU_TGT.PRI n) == 0)

/-- DRV_STAT shows the executing context, and the idle depth of a core that has none (R337, R340). -/
def State.showCore (s : State) (p : Nat) : State :=
  let c := s.core p
  let idle := !c.live || c.waiting
  let s := s.set (DRV_STAT.BANK p) c.bank
  let s := s.set (DRV_STAT.PRI p) (if idle then 16 else stPri (s.status p))
  let s := s.setb (DRV_STAT.ESC p) (c.live && c.bank == 0)
  let deep := s.on (DRV_CTL.DOZE_EN p) && !s.zeroTarget p && !s.eventNear p
  s.set (DRV_STAT.IDLE p) (if !idle then 0 else if deep then 2 else 1)

/-- The idle depth of every core that idles is judged again (R337): what decides it has been written. -/
def State.judgeIdle (s : State) : State :=
  s.each (List.range 6) (fun s p => if s.on (DRV_STAT.IDLE p) then s.showCore p else s)

/-- What lockup leaves (R332); it is counted and recorded (R399, R400). -/
def State.lockUp (s : State) (p cause : Nat) : State :=
  let s := ((s.set (DRV_STAT.LOCKED p) 1).set (DRV_LOCK.CAUSE p) cause).bump (DRV_LOCK.LOCKCNT p)
  (((s.icuRaise (20 + p)).fire [hCoreLock p]).mramCount (8 + p)).mrPost 0x0B (payloadOf [p, cause])

/-- A request or exception that an entry serves (R330: ESC_INFO.KIND). -/
inductive Req where
  | source (n : Nat)
  | slot (sl : Nat)
  | exc (code : Nat)
  | exit
deriving DecidableEq, Repr

/-- The pending interrupt sources that target core p and are delivered (R312, R316), ascending. Bank 0 is never the target of one
(R217): an enabled source that names it, which the commit check would refuse, is not delivered (log entry 151). -/
def State.sourcesFor (s : State) (p : Nat) : List Nat :=
  ((List.range 40).filter (fun i => s.rd (ICU_PEND i) ≠ 0)).flatMap (fun i =>
    ((List.range 32).map (fun j => 32 * i + j)).filter (fun n =>
      s.bit (ICU_PEND i) (n % 32) && s.on (ICU_TGT.EN n) && s.get (ICU_TGT.CORE n) == p
        && s.get (ICU_TGT.BANK n) != 0))

/-- The READY slots of core p, ascending. -/
def State.slotsFor (s : State) (p : Nat) : List Nat :=
  ((List.range 15).map (· + 1)).filter (fun sl => s.on (DRV_SLOT_CFG.EN p sl) && s.get (DRV_SLOT_STAT.STATE p sl) == 3)

/-- The rank of a request, smallest first (R312). -/
def State.rank (s : State) (p : Nat) : Req → Nat
  | .source n => s.get (ICU_TGT.PRI n) * 8192 + n
  | .slot sl => s.get (DRV_SLOT_CFG.PRI p sl) * 8192 + 4096 + 2048 * s.get (DRV_SLOT_STAT.YLD p sl) + sl
  | _ => 0

/-- The priority of a request. -/
def State.reqPri (s : State) (p : Nat) : Req → Nat
  | .source n => s.get (ICU_TGT.PRI n)
  | .slot sl => s.get (DRV_SLOT_CFG.PRI p sl)
  | _ => 16

/-- The highest-ranked of the requests eligible against a priority and a threshold (R312). -/
def State.winner (s : State) (p pri mth : Nat) : Option Req :=
  if s.on (DRV_CTL.IEN p) && !s.on (DRV_STAT.LOCKED p) && !((s.core p).live && (s.core p).bank == 0) then
    ((s.sourcesFor p).map Req.source ++ (s.slotsFor p).map Req.slot).foldl (fun best r =>
      if s.reqPri p r < mth ∧ s.reqPri p r < pri then
        match best with
        | none => some r
        | some b => if s.rank p r < s.rank p b then some r else some b
      else best) none
  else none

/-- MTH as it judges requests: a write of it counts once its MTSR has left stage W (R223). -/
def State.mthNow (s : State) (p : Nat) : Nat := (s.core p).mthWas.getD (stMth (s.status p))

/-- The highest eligible request at the executing context, or at an idle core (R312). -/
def State.eligible (s : State) (p : Nat) : Option Req :=
  if (s.core p).live then s.winner p (stPri (s.status p)) (s.mthNow p) else s.winner p 16 16

/-- THE FALLBACK after a microword that is not executed (R307). -/
def State.ucFault (s : State) (p a : Nat) (ill : Bool) : State :=
  let act := s.get (UC_STAT.ACT p)
  let src := s.ucSource p a
  let s := match src.2 with
    | some k => if !ill && parityOk (s.ucWord k) then s.setUcWord k (s.ucWord k ^^^ 0x1000000) else s
    | none => s
  let s := ((s.set (UC_PAR.SRC p) src.1).setb (UC_PAR.ILL p) ill).set (UC_PAR.ADDR p) a
  let s := s.bump (UC_STAT.PARCNT p)
  let s := if s.on (UC_STAT.SWPEND p) then
      { (s.set (UC_STAT.SWPEND p) 0).set (UC_STAT.RESULT p) 6 with
        uc := { s.uc with sw := modNth s.uc.sw p (fun _ => none) } }
    else s
  let s := s.icuRaise (14 + p)
  if act = 0 ∨ (0x4000 ≤ a ∧ a < 0x5880) then s.lockUp p 5
  else
    (s.set (UC_STAT.ACT p) (if s.on (UC_STAT.SAME p) then 3 - act else 0)).modCore p (fun c => { c with
      boundary := c.boundary ++ [12] })

/-- A condition of BR (R295), as core p stands. -/
def State.microCond (s : State) (p c : Nat) : Bool :=
  let st := s.status p
  let k := s.bankOf p (s.core p).bank
  match c with
  | 0 => true
  | 1 => wbit st 2
  | 2 => wbit st 3
  | 3 => wbit st 1
  | 4 => wbit st 0
  | 5 => (s.eligible p).isSome
  | 6 => wbit k.prog 31
  | 7 => (s.core p).br.isSome
  | 8 => wbit st 15
  | _ => k.link.valid

/-- The first word that is not executed of those that a program fetches from micro-address `a` on, and whether it is ILL: its
branches as the state stands before it runs (log entry 69). At most as many words as the number says. -/
def State.wordFault (s : State) (p : Nat) : Nat → List Nat → Nat → Option (Nat × Bool)
  | 0, _, _ => none
  | n + 1, stk, a =>
    match s.ucFetch p a with
    | .bad => some (a, false)
    | .ill => some (a, true)
    | .word v =>
      let next := (a + 1) % 2 ^ 15
      match microOf v with
      | .ill => some (a, true)
      | .br c neg target => s.wordFault p n stk (if s.microCond p c != neg then target else next)
      | .call target => if 4 ≤ stk.length then some (a, true) else s.wordFault p n (next :: stk) target
      | .ret => match stk with
        | [] => some (a, true)
        | r :: rs => s.wordFault p n rs r
      | .done => none
      | _ => s.wordFault p n stk next

/-- The word at which the service sequence of an offset fails, if one does (R301, R307, R325): none in the ROM without
patches. -/
def State.seqFault (s : State) (p off : Nat) : Option (Nat × Bool) :=
  if s.get (UC_STAT.ACT p) = 0 ∧ s.patched p = false then none
  else
    let a := s.dispatchAt p off
    let r := match s.ucFetch p a with
      | .bad => some (a, false)
      | .ill => some (a, true)
      | .word v => match dispatchOf v with
        | none => some (a, true)
        | some t => s.wordFault p (2 ^ 26) [] t
    r.filter (fun x => !s.inRom p x.1)

/-- How many restarts of one instruction or sequence follow each other: each moves the core to another store (R307). -/
def restarts : Nat := 4

/-- A SERVICE SEQUENCE from its offset (R301, R307, R325): its effect is what the rules of the entry say; after a word that
is not executed it restarts from the store that takes over. -/
def State.sequence (p off : Nat) (f : State → State) : Nat → State → State
  | 0, s => s
  | n + 1, s =>
    match s.seqFault p off with
    | none => f s
    | some (a, ill) =>
      let u := s.ucFault p a ill
      if u.on (DRV_STAT.LOCKED p) then u else State.sequence p off f n u

/-- The service sequence at an offset runs with the effect `f`. -/
def State.service (s : State) (p off : Nat) (f : State → State) : State := State.sequence p off f restarts s

/-- The core enters lockup (R332) through its service sequence. -/
def State.lockup (s : State) (p cause : Nat) : State := s.service p 0x207 (fun s => s.lockUp p cause)

/-- KIND and NUM of ESC_INFO (R330, R338). -/
def Req.info : Req → Nat × Nat
  | .source n => (0, n)
  | .slot sl => (1, sl)
  | .exc c => (2, c)
  | .exit => (3, 0)

/-- A task slot goes from one state to another, if it is in the first (R318). -/
def State.slotMove (s : State) (p sl from_ to_ : Nat) : State :=
  if 1 ≤ sl && s.get (DRV_SLOT_STAT.STATE p sl) == from_ then s.set (DRV_SLOT_STAT.STATE p sl) to_ else s

/-- What escalation with a code does, for a request with its target bank, at the address where the context stands (R330 to
R332). -/
def State.escalateNow (s : State) (p code : Nat) (rq : Req) (tgt : Nat) (pc : Word) (addr : Word) : State :=
  let c := s.core p
  let s := match rq with
    | .slot sl => s.set (DRV_SLOT_STAT.STATE p sl) 6
    | _ => s
  let b := c.bank
  let s := s.wr (ESC_CAUSE p) 0
  let s := s.set (ESC_CAUSE.CODE p) code
  let s := match c.br with
    | some ⟨n, some t⟩ => (s.set (ESC_CAUSE.DCNT p) n).wr (ESC_DTGT p) t
    | _ => s.wr (ESC_DTGT p) 0
  let s := s.wr (ESC_PC p) pc
  let s := s.wr (ESC_STATUS p) (s.status p)
  let s := s.wr (ESC_G15 p) (s.gReg p b 15)
  let s := s.wr (ESC_ADDR p) addr
  let s := s.wr (ESC_INFO p) 0
  let s := ((s.set (ESC_INFO.KIND p) rq.info.1).set (ESC_INFO.NUM p) rq.info.2).set (ESC_INFO.BANK p) tgt
  if !s.on (CORE_CTL.ESPV p) then s.lockup p 2
  else if areaOf (s.rd (ESC_VEC p)).toNat ≠ .loc ∧ areaOf (s.rd (ESC_VEC p)).toNat ≠ .rom then s.lockup p 3
  else
    let s := s.finishLongs p (fun o => o.bank == 0)
    let s := if c.live && decide (1 ≤ b) then s.slotMove p b 4 5 else s
    let s := s.modBank p 0 (fun k => { k with
      g := modNth k.g 15 (fun _ => s.rd (ESP p))
      pc := s.rd (ESC_VEC p)
      status := mkStatus false false 0 0 0
      link := { valid := c.live, rbank := b } })
    (s.modCore p (fun c => { c with bank := 0, live := true, waiting := false, br := none, fq := [] })).showCore p

/-- ESCALATION through its service sequence (R325, R330). -/
def State.escalate (s : State) (p code : Nat) (rq : Req) (tgt : Nat) (pc : Word) (addr : Word) : State :=
  s.service p 0x203 (fun s => s.escalateNow p code rq tgt pc addr)

/-- Where an entry goes (R323). -/
structure Entry where
  rq : Req
  bank : Nat
  w : Bool
  l : Bool
  pri : Nat
  /-- none: the bank's own program counter. -/
  pc : Option Word
deriving DecidableEq, Repr

/-- The SWITCH step of an entry (R305, R323): the target's link, STATUS and program counter; a running task below it is
PREEMPTED, a task entered is RUNNING. -/
def State.switchTo (s : State) (p : Nat) (e : Entry) (lk : Link) : State :=
  let s := s.finishLongs p (fun o => o.bank == e.bank)
  let s := s.modBank p e.bank (fun k => { k with
    link := lk
    pc := e.pc.getD k.pc
    status := mkStatus e.w e.l e.bank e.pri 16 })
  let s := match e.rq with
    | .slot sl =>
      let s := (s.set (DRV_SLOT_STAT.STATE p sl) 4).set (DRV_SLOT_STAT.YLD p sl) 0
      s.each ((List.range 15).map (· + 1)) (fun s o =>
        if o ≠ sl ∧ s.get (DRV_SLOT_CFG.PRI p o) = e.pri then s.set (DRV_SLOT_STAT.YLD p o) 0 else s)
    | _ => s
  (s.modCore p (fun c => { c with
    bank := e.bank
    live := true
    waiting := false
    br := none
    fq := []
    fresh := true
    resumes := match e.rq with
      | .slot sl => c.resumes.filter (fun k => k != sl)
      | _ => c.resumes })).showCore p

/-- The words of the frame that an entry pushes on G15 of the interrupted bank with their addresses, RFLAGS before RPC (R304). -/
def State.frameStores (s : State) (p : Nat) (rpc : Word) : List (Nat × Word) :=
  let sp := (s.gReg p (s.core p).bank 15).toNat
  [(sp - 4, BitVec.ofNat 32 (getBits (s.status p) 20 0)), (sp - 8, rpc)]

/-- The frame is pushed. -/
def State.pushFrame (s : State) (p : Nat) (rpc : Word) : State :=
  let b := (s.core p).bank
  let sp := (s.gReg p b 15).toNat
  let t := s.tenantCore p
  (s.each (s.frameStores p rpc) (fun s e => s.pushStore p ⟨e.1, leBytes 4 e.2.toNat, t⟩)).setG p b 15 (BitVec.ofNat 32 (sp - 8))

/-- The address at which a frame access of 8 bytes at a stack pointer fails (R230, R239, R305, R306): the stack pointer where
limits or alignment fail, else the word refused, RFLAGS before RPC. The peripheral region has no region check, as for any access
(R230, R231). -/
def State.frameFault (s : State) (p : Nat) (tenant user push : Bool) (sp : Nat) : Option Nat :=
  if s.stackCheck p tenant user push sp 8 ≠ 0 then some sp
  else
    let a := if push then sp - 8 else sp
    [a + 4, a].find? (fun x => s.dataCheck p tenant user x 4 (if push then .store else .load) ≠ 0)

/-- The first word of the frame that the rights of the register at its address refuse to the interrupted context (R8, R232). -/
def State.frameViolation (s : State) (p : Nat) (rpc : Word) : Option Nat :=
  if s.tenantCore p then
    ((s.frameStores p rpc).find? (fun e => areaOf e.1 = .periph ∧ s.violates p e.1 e.2 = true)).map (·.1)
  else none

/-- An entry from STOP to SWITCH (R305, R313, R317, R323): collision, ownership, frame, switch. `rpc` is the address the
frame keeps, `direct` the link a direct entry takes over (R306). -/
def State.enter (s : State) (p : Nat) (e : Entry) (rpc : Word) (direct : Option Link) : State :=
  let c := s.core p
  let busy := match direct with
    | some _ => e.bank ≠ c.bank && s.inUse p e.bank
    | none => s.inUse p e.bank
  if busy then s.escalate p 1 e.rq e.bank rpc 0
  else if e.w && !s.bit (BANK_OWN p) e.bank then s.escalate p 3 e.rq e.bank rpc 0
  else match direct with
    | some lk => (s.modBank p c.bank (fun k => { k with link := {} })).switchTo p e lk
    | none =>
      if !c.live then s.switchTo p e {}
      else
        let st := s.status p
        match s.frameFault p (wbit st 31) (wbit st 30) true (s.gReg p c.bank 15).toNat with
        | some a => s.escalate p 2 e.rq e.bank rpc (BitVec.ofNat 32 a)
        | none => match s.frameViolation p rpc with
        | some a => (s.secv a).escalate p 2 e.rq e.bank rpc (BitVec.ofNat 32 a)
        | none =>
          let d := match c.br with
            | some ⟨n, some t⟩ => (n, t)
            | _ => (0, 0)
          let lk : Link := {
            valid := true
            rbank := c.bank
            rw := wbit st 31
            rl := wbit st 30
            rpri := stPri st
            dcnt := d.1
            dtgt := d.2 }
          let s := if 1 ≤ c.bank then s.slotMove p c.bank 4 5 else s
          (s.pushFrame p rpc).switchTo p e lk

/-- The two words of a descriptor entry that say where an exception goes, with its fourth (R327). -/
structure DescEntry where
  w0 : Word
  w1 : Word
  w2 : Word
  w3 : Word
deriving DecidableEq, Repr

/-- A word of local RAM as the entry sequence reads it (R323); none where it is uncorrectable. -/
def State.localWord (s : State) (p a : Nat) : Option Word × State :=
  match s.loadMem p a 4 with
  | (some v, s) => (some (BitVec.ofNat 32 v), s)
  | (none, s) => (none, s)

/-- The descriptor entry is valid for a code and table (R328). -/
def State.descOk (s : State) (p : Nat) (tenantTab : Bool) (code : Nat) (d : DescEntry) : Bool :=
  let b := getBits d.w1 19 16
  wbit d.w1 31 && b ≠ 0 && getBits d.w1 28 27 ≤ 1 && getBits d.w1 26 20 == 0 && getBits d.w1 15 0 == 0 && d.w3 == 0
    && !(tenantTab && !wbit d.w1 30)
    && !(!tenantTab && (code == 3 || code == 7 || decide (10 ≤ code)) && wbit d.w1 30)
    && !(wbit d.w1 30 && !s.bit (BANK_OWN p) b)
    && !s.on (DRV_SLOT_CFG.EN p b)

/-- What taking an exception does (R323, R326 to R329): every older result lands, the descriptor of the code is read from the table
of the faulting context's world or the Keeper's, and the handler is entered with its cause word and fault address; in
bank 0 the core locks (R332). `rpc` is the address the entry records. -/
def State.exceptNow (s : State) (p code info : Nat) (addr rpc : Word) : State :=
  let s := s.landAll p
  let c := s.core p
  if c.live && c.bank == 0 then s.lockup p 1
  else
    let keeperTab := code == 3 || code == 7 || decide (10 ≤ code)
    let tenantTab := !keeperTab && s.tenantCore p
    let tab := if tenantTab then (s.rd (EDTB_T p)).toNat else (s.rd (EDTB_K p)).toNat
    let a := tab + 16 * code
    if 0x40000 ≤ tab then s.escalate p 3 (.exc code) 0 rpc (BitVec.ofNat 32 tab)
    else
      let (o0, s) := s.localWord p a
      let (o1, s) := s.localWord p (a + 4)
      let (o2, s) := s.localWord p (a + 8)
      let (o3, s) := s.localWord p (a + 12)
      match o0, o1, o2, o3 with
      | some w0, some w1, some w2, some w3 =>
        let d : DescEntry := ⟨w0, w1, w2, w3⟩
        let b := getBits w1 19 16
        if !s.descOk p tenantTab code d then s.escalate p 3 (.exc code) b rpc 0
        else
          let pri := if c.live then stPri (s.status p) else 16
          let ds := c.br.isSome
          let dcnt := match c.br with
            | some ⟨n, some _⟩ => n
            | _ => 0
          let cause := BitVec.ofNat 32 (b2n ds * 2 ^ 31 + dcnt * 2 ^ 20 + info % 256 * 2 ^ 8 + code)
          let before := (s.core p).bank
          let s := s.enter p ⟨.exc code, b, wbit w1 30, wbit w1 29, pri, some w0⟩ rpc none
          if (s.core p).bank == b && (b ≠ before || !c.live) && !s.on (DRV_STAT.LOCKED p) then
            s.modBank p b (fun k => { k with
              g := modNth (modNth (if getBits w1 28 27 = 1 then modNth k.g 15 (fun _ => w2) else k.g) 12
                (fun _ => cause)) 13 (fun _ => addr)
              cause := cause
              xaddr := addr })
          else s
      | _, _, _, _ =>
        let k := if o0.isNone then 0 else if o1.isNone then 4 else if o2.isNone then 8 else 12
        s.escalate p 4 (.exc code) 0 rpc (BitVec.ofNat 32 (a + k))

/-- TAKING AN EXCEPTION: its entry is a service sequence (R323, R325). -/
def State.takeException (s : State) (p code info : Nat) (addr rpc : Word) : State :=
  s.service p 0x202 (fun s => s.exceptNow p code info addr rpc)

/-- Machine checks that wait for an instruction boundary are taken there, the first of them (R288, R307); in escalation and
in lockup they wait on (log entry 51). -/
def State.takeBoundary (s : State) (p : Nat) : State :=
  match (s.core p).boundary with
  | [] => s
  | c :: cs =>
    if ((s.core p).live && (s.core p).bank == 0) || s.on (DRV_STAT.LOCKED p) then s
    else
      let s := s.modCore p (fun k => { k with boundary := cs })
      s.takeException p c 3 0 (s.bankOf p (s.core p).bank).pc

/-- The next entry of task slot `sl` resumes it after a YIELD, and is no activation (R319, R321). -/
def State.resumes (s : State) (p sl : Nat) : Bool := (s.core p).resumes.contains sl

/-- The LATCH step of a request: a source's pending bit clears (R315); a task's inputs are recorded in WHY and their PEND
bits clear, and its activation is counted, unless it resumes after YIELD (R319, R321). -/
def State.latch (s : State) (p : Nat) : Req → State
  | .source n => s.setBit (ICU_PEND (n / 32)) (n % 32) false
  | .slot sl =>
    if s.resumes p sl then s
    else
      let why := maskN 4 (fun j => nbit (s.get (DRV_SLOT_CFG.INEN p sl)) j && s.on (EVF_CON.PEND (drvIn p sl j)))
      let s := s.each ((List.range 4).filter (fun j => nbit why j)) (fun s j => s.takeEvent (drvIn p sl j))
      (s.set (DRV_SLOT_STAT.WHY p sl) why).bump (DRV_SLOT_STAT.ACT p sl)
  | _ => s

/-- Where a request's entry goes (R323). -/
def State.entryOf (s : State) (p : Nat) (rq : Req) : Entry :=
  match rq with
  | .source n => ⟨rq, s.get (ICU_TGT.BANK n), s.on (ICU_TGT.W n), s.on (ICU_TGT.L n), s.get (ICU_TGT.PRI n),
      some (s.rd (ICU_VEC n))⟩
  | .slot sl => ⟨rq, sl, s.on (DRV_SLOT_CFG.W p sl), s.on (DRV_SLOT_CFG.L p sl), s.get (DRV_SLOT_CFG.PRI p sl), none⟩
  | _ => ⟨rq, 0, false, false, 16, none⟩

/-- A request is latched and entered (R305, R319): G12 of an activated task receives WHY. -/
def State.enterRequest (s : State) (p : Nat) (rq : Req) (direct : Option Link) : State :=
  let yielded := match rq with
    | .slot sl => s.resumes p sl
    | _ => false
  let s := s.latch p rq
  let e := s.entryOf p rq
  let s := s.enter p e (s.bankOf p (s.core p).bank).pc direct
  match rq with
  | .slot sl =>
    if !yielded && (s.core p).bank == sl && s.get (DRV_SLOT_STAT.STATE p sl) == 4 then
      s.setG p sl 12 (BitVec.ofNat 32 (s.get (DRV_SLOT_STAT.WHY p sl)))
    else s
  | _ => s

/-- The service entry of a request (R325). -/
def Req.service : Req → Nat
  | .slot _ => 0x201
  | _ => 0x200

/-- The highest request against a priority and a threshold is entered, `rq` where no other has become pending since it was
found, through its service sequence (R305, R325). -/
def State.enterBest (s : State) (p pri mth : Nat) (rq : Req) (direct : Option Link) : State :=
  s.service p rq.service (fun s => s.enterRequest p ((s.winner p pri mth).getD rq) direct)

/-- THE RETURN FROM ESCALATION (R331): the context of ESC_STATUS and ESC_PC with FPEN clear (R219), its task RUNNING again
(R318); or lockup where its bank is 0 or not in use. -/
def State.leaveEscalation (s : State) (p : Nat) : State :=
  let s := s.landAll p
  let v := s.rd (ESC_STATUS p)
  let b := getBits v 29 26
  if b = 0 ∨ !s.inUse p b then s.lockup p 4
  else
    let n := s.get (ESC_CAUSE.DCNT p)
    let s := s.modBank p b (fun k => { k with pc := s.rd (ESC_PC p), status := v &&& 0xFFFF001F })
    let s := s.slotMove p b 5 4
    (s.modCore p (fun k => { k with
      bank := b
      br := if n = 0 then none else some ⟨n, some (s.rd (ESC_DTGT p))⟩
      fq := [] })).showCore p

end Sys2Proof.Machine
end

