-- ==== Sys2Proof/Machine/Access.lean ====
section
/-! DEFINITION. Register accesses: access codes, reserved encodings and commit locks (R8 to R11, R206 to R208, R232, R315, R343). -/

namespace Sys2Proof.Machine

/-- A precise exception at the instruction the executing context of core p stands at (R232). -/
def State.except (s : State) (p code info : Nat) (addr : Word) : State :=
  s.takeException p code info addr (s.bankOf p (s.core p).bank).pc

/-- An uncorrectable error of AER's bit `i` is recorded: its status bit and, where it is not masked and no earlier one holds
them, the first-error pointer and the header (R341; the header is free, log entry 94). -/
def State.aerRecord (s : State) (i : Nat) : State :=
  let c := s.hif.cfg
  let first := !wbit c.aerMask i && !wbit c.aer c.fep
  let c' := { c with aer := c.aer ||| BitVec.ofNat 32 (2 ^ i) }
  if first then
    { s.drawn.drawn.drawn.drawn with hif := { s.hif with cfg := { c' with
      fep := i
      hdrLog := (List.range 4).map (fun k => Config.freeWord (s.free + k)) } } }
  else { s with hif := { s.hif with cfg := c' } }

/-- A bit of Device Status sets, and what is found is signalled by a message of severity `k` where Device Control reports it
or, above correctable, SERR# is enabled (R341); an unsupported request needs its own enable there. -/
def State.errSignal (s : State) (k : Nat) (ur quiet : Bool) : State :=
  let c := s.hif.cfg
  let serr := k != 0 && nbit c.command 8
  let c' := { c with devSta := c.devSta ||| BitVec.ofNat 16 (2 ^ k + 8 * b2n ur) }
  if !quiet && ((nbit c.errEn k && (!ur || nbit c.errEn 3)) || serr) then
    { s with hif := { s.hif with cfg := { c' with status := if serr then c'.status ||| 0x4000 else c'.status } } }.emit (.errMsg k)
  else { s with hif := { s.hif with cfg := c' } }

/-- AN ERROR THAT AER KNOWS AS BIT `i` (R341, R343): correctable where it is non-fatal and an advisory case of the PCI Express
specification, else non-fatal or fatal by its severity; the masks keep it from being signalled. -/
def State.aerSet (s : State) (i : Nat) (advisory : Bool) : State :=
  let c := s.hif.cfg
  let ur := i == 20
  if advisory && !wbit c.aerSev i then
    let s := { s with hif := { s.hif with cfg := { c with cor := c.cor ||| 0x2000 } } }
    if wbit c.corMask 13 then s.errSignal 0 ur true else (s.aerRecord i).errSignal 0 ur false
  else (s.aerRecord i).errSignal (1 + b2n (wbit c.aerSev i)) ur (wbit c.aerMask i)

/-- The function answers memory requests (R341; log entry 94). -/
def State.memOn (s : State) : Bool := nbit s.hif.cfg.command 1

/-- A memory request of the host: unsupported, with no effect, while the function answers none (R341); a read is the advisory
case, its completion tells the host. -/
def State.hostMem (s : State) (read : Bool) (f : State → State) : State := if s.memOn then f s else s.aerSet 20 read

/-- A REGISTER WRITE UNDER THE WORLD RULES: the effect where it is permitted; for a core the privilege or world-violation
exception where it is not (R228, R232); for the host a dropped write with HSECV (R343). A core that executes nothing
writes nothing. -/
def State.asWrite (s : State) (w : Who) (a : Nat) (v : Word) (f : State → State) : State :=
  match w with
  | .tlaell => f s
  | .host =>
    s.hostMem false (fun s =>
      if s.tenantWho .host && s.violates 6 a v then ((s.secv a).set HIF_STAT.HSECV 1).icuRaise 40 else f s)
  | .core p =>
    if !s.issuing p then s
    else if s.tenantCore p && s.violates p a v then (s.secv a).except p 3 1 0
    else if s.userCore p then s.except p 2 1 0
    else f s

/-- A REGISTER READ UNDER THE WORLD RULES: what the effect answers goes back, a Keeper register as 0 to the Tenant world
(R8); at user level the privilege exception (R228). -/
def State.asRead (s : State) (w : Who) (a : Nat) (f : State → Word × State) : State :=
  let blind := s.tenantWho w && (match regAt a with | some r => r.keeper | none => false)
  let go (s : State) := if blind then s.emit (.read w a 0) else (f s).2.emit (.read w a (f s).1)
  match w with
  | .core p => if !s.issuing p then s else if s.userCore p then s.except p 2 0 0 else go s
  | .host => s.hostMem true go
  | .tlaell => go s

/-- The commit lock of the block an address lies in is set (R9: RWL). -/
def State.locked (s : State) (a : Nat) : Bool :=
  match a / 0x100000 with
  | 0x40D => s.on FLK_COMMIT.LOCK
  | 0x401 => s.on PHA_COMMIT.LOCK
  | 0x403 => s.on ANV_COMMIT.LOCK
  | 0x405 => s.on RLC_COMMIT.LOCK
  | 0x407 => s.on ICU_COMMIT.LOCK
  | 0x409 => s.on HIF_COMMIT.LOCK
  | _ => false

/-- The commit lock keeps a field from the value that a write would give it (R9: RWL). -/
def State.lockBars (s : State) (a : Nat) (v : Word) : Bool :=
  s.locked a && match regAt a with
    | some r => r.fields.any (fun f => f.acc == .rwl && getBits v f.hi f.lo != getBits (s.rd a) f.hi f.lo)
    | none => false

/-- What a write leaves in a field that holds `old`, by its access code (R9, R10). -/
def FieldSpec.after (f : FieldSpec) (lock : Bool) (old v : Nat) : Nat :=
  match f.acc with
  | .rw => if f.allows v then v else old
  | .rwl => if !lock && f.allows v then v else old
  | .w1c => old &&& (v ^^^ ones (f.hi + 1 - f.lo))
  | .w1s => old ||| v
  | _ => old

/-- A whole register after a write of `v` over `old`. -/
def RegSpec.after (r : RegSpec) (lock : Bool) (old v : Word) : Word :=
  r.fields.foldl (fun w f => putBits w f.hi f.lo (f.after lock (getBits old f.hi f.lo) (getBits v f.hi f.lo))) old

/-- The plain write of a register: every field by its access code; nothing where no register lies (R9, R10, R234). -/
def State.plainWrite (s : State) (a : Nat) (v : Word) : State :=
  match regAt a with
  | none => s
  | some r => s.wr a (r.after (s.locked a) (s.rd a) v)

/-- The register after a read: its RC fields go to their reset values (R9). -/
def RegSpec.afterRead (r : RegSpec) (a : Nat) (old : Word) : Word :=
  r.fields.foldl (fun w f => if f.acc = .rc then putBits w f.hi f.lo (getBits (resetVal a) f.hi f.lo) else w) old

/-- The plain effect of a read (R9). -/
def State.plainRead (s : State) (a : Nat) : State :=
  match regAt a with
  | none => s
  | some r => s.wr a (r.afterRead a (s.rd a))

end Sys2Proof.Machine
end

