-- ==== Sys2Proof/Machine/PhaseArray.lean ====
section
/-! DEFINITION. The phase array: on-times, carriers, edges, phase states, the governor and the pins (R60 to R88). -/

namespace Sys2Proof.Machine

/-- The first instant at or after `t` that lies a whole number of periods from `base` (R69). -/
def alignUp (base per t : Nat) : Nat := if per = 0 then t else t + (base % per + per - t % per) % per

/-- PERIOD in force on the rail of phase `n`, or the register's where it has none. -/
def State.railPer (s : State) (r : Nat) : Nat := (s.rx r).per

/-- The rail slot phase `n` belongs to, 0 where it has none. -/
def State.railOf (s : State) (n : Nat) : Nat := ((s.ph n).rail).getD 0

/-- The phase limiter (R64): the limited on-time, with LIM_HI and LIM_LO set where a bound acted. -/
def State.limit (s : State) (n len : Nat) (d : Int) : Nat × State :=
  let p := s.ph n
  let hi : Int := min (p.maxOn : Int) ((len : Int) - (p.minOff : Int))
  let s := s.when (decide (hi < d)) (fun s => s.set (PHA_CH_STAT.LIM_HI n) 1)
  let d := if hi < d then hi else d
  if d < (p.minOn : Int) then ((if p.skip then 0 else p.minOn), s.set (PHA_CH_STAT.LIM_LO n) 1) else (d.toNat, s)

/-- The edges of a period that starts at `b` and lasts `len`, for on-time `d`: rise and fall, none for no pulse (R71). -/
def edgesOf (mod b len d : Nat) : Option (Nat × Nat) :=
  if d = 0 then none
  else if mod = 0 then some (b, b + d)
  else if mod = 1 then some (b + len - d, b + len)
  else some (b + (len - d) / 2, b + (len - d) / 2 + d)

/-- An edge scheduled in or before the engine cycle of instant `t` has passed (R70). -/
def passed (e t : Nat) : Bool := decide (e / 64 ≤ t / 64)

/-- The edges of the period in progress after a word `d` is committed at `t`, or none where the word waits for the next
period (R23, R71). In a dual-mode period without edges a new word is taken until the period's middle (log entry 112). -/
def PhaseX.update (p : PhaseX) (mod b d t : Nat) : Option (Option (Nat × Nat)) :=
  let len := p.len
  if mod = 0 then
    match p.rise, p.fall with
    | some u, some f =>
      if passed f t then none
      else some (some (u, if d = 0 then max t (b + p.minOn) else max (max (b + d) t) (b + p.minOn)))
    | _, _ => none
  else if mod = 1 then
    let r' := max (b + len - d) t
    let no := d = 0 ∨ b + len < r' + p.minOn
    match p.rise with
    | some u => if passed u t then none else some (if no then none else some (r', b + len))
    | none => if b + len < t + p.minOn then none else some (if no then none else some (r', b + len))
  else
    match p.rise, p.fall with
    | some u, some f =>
      if passed f t then none
      else if passed u t then some (some (u, max (max (b + (len - d) / 2 + d) t) (u + p.minOn)))
      else if d = 0 then some none
      else some (some (max (b + (len - d) / 2) t, max (b + (len - d) / 2) t + d))
    | _, _ =>
      if passed (b + len / 2) t then none
      else if d = 0 then some none
      else some (some (max (b + (len - d) / 2) t, max (b + (len - d) / 2) t + d))

/-- A period of phase `n` is in progress at `t` (R69). -/
def PhaseX.inProgress (p : PhaseX) (t : Nat) : Bool :=
  match p.start with
  | some b => decide (t < b + p.len)
  | none => false

/-- A word committed at `t` reaches the period in progress by R71; the word of a phase that has no period in progress, or
whose next start has come, waits (R24). -/
def State.applyWord (s : State) (n : Nat) (d : Int) (t : Nat) : State :=
  let p := s.ph n
  match p.start with
  | none => s
  | some b =>
    if p.inProgress t then
      let l := s.limit n p.len d
      match p.update (s.get (PHA_RAIL_CFG.MOD (s.railOf n))) b l.1 t with
      | none => l.2
      | some e => l.2.modPh n (fun p => { p with word := some l.1, rise := e.map (·.1), fall := e.map (·.2) })
    else s

/-- A duty word D_k is committed to phase `n` at instant `t` (R24, R64). -/
def State.commitPhase (s : State) (n : Nat) (d : Int) (t : Nat) : State :=
  let s := s.modPh n (fun p => { p with prev := p.committed, committed := some d, cAt := t })
  s.applyWord n d t

/-- D_k of phase `n` for the rail's on-time: with its trim in force and its static offset (R64). -/
def State.dutyOf (s : State) (n : Nat) (d : Nat) : Int :=
  (d : Int) + s.geti (PHA_CH_TRIMV.TRIMV n) + sext 12 (s.getT (PHA_CH_TRIM.TRIM_OFS n))

/-- A rail word committed at `t` to every member in ACTIVE or BLEND; PHA_RAIL_DUTY shows it (R63, R64). -/
def State.commitRail (s : State) (r d t : Nat) : State :=
  let s := (s.set (PHA_RAIL_DUTY.D r) d).modRx r (fun x => { x with live := true })
  s.each (s.running r) (fun s n => s.commitPhase n (s.dutyOf n d) t)

/-- A carrier period of phase `n` has ended: OCCNT returns to 0 where it contained no trip (R82). -/
def State.periodEnd (s : State) (n : Nat) : State :=
  if (s.ph n).start.isSome && !(s.ph n).tripped then
    (s.set (PHA_CH_STAT.OCCNT n) 0).modPh n (fun p => { p with pocActed := false })
  else s

/-- δ of R69: the new offset less the old one, reduced modulo the new period into (−per/2, per/2]. -/
def offsetDelta (old new per : Nat) : Int :=
  let x := (new + per - old % per) % per
  if per < 2 * x then (x : Int) - (per : Int) else (x : Int)

/-- The high interval that is left of the period in progress where a change at `t` ends it there (R69): a pulse in progress falls
at `t` or MIN_ON after its rise, whichever is later; a rise still to come is dropped. -/
def PhaseX.cutAt (p : PhaseX) (t : Nat) : Option (Nat × Nat) :=
  match p.rise, p.fall with
  | some u, some f => if t < u then none else some (u, if t < f then max t (u + p.minOn) else f)
  | _, _ => none

/-- Phase `n` takes a new offset and period at instant `t` by the re-spacing rule (R69); a second change in one period counts
from the start that the first has set, so that the start meets the master time of the last offset (R68). -/
def State.respace (s : State) (n ofs per t : Nat) : State :=
  let p := s.ph n
  match (s.rx (s.railOf n)).master with
  | none => s.modPh n (fun p => { p with ofs := ofs, per := per, start := none, next := none })
  | some m =>
    let slot := alignUp (m + ofs) per t
    if p.ofs = ofs ∧ p.per = per ∧ p.next ≠ none then s
    else if !p.inProgress t then
      (s.periodEnd n).modPh n (fun p => { p with ofs := ofs, per := per, start := none, next := some slot })
    else
      let b := p.start.getD 0
      let e : Int := ((p.next.getD (b + p.len) : Nat) : Int) + offsetDelta p.ofs ofs per
      if e ≤ (t : Int) then
        (s.periodEnd n).modPh n (fun p => { p with
          ofs := ofs
          per := per
          start := none
          next := some slot
          rise := (p.cutAt t).map (·.1)
          fall := (p.cutAt t).map (·.2) })
      else
        s.modPh n (fun p => { p with
          ofs := ofs
          per := per
          len := if e < ((b + p.len : Nat) : Int) then (e - (b : Int)).toNat else p.len
          next := some e.toNat })

/-- The members of rail `r` that count in N, in the slots and in i_mean: those in ACTIVE or BLEND, and those that have failed
from them since the last T0 (R74, R84). -/
def State.inN (s : State) (r : Nat) : List Nat :=
  whichN 144 (fun n => s.memberOf n r && (s.switching n || (s.ph n).counted != 0))

/-- The state a member counts under in i_mean (R66, R84). -/
def State.countState (s : State) (n : Nat) : Nat := if (s.ph n).counted = 0 then s.phState n else (s.ph n).counted

/-- Offsets of rail `r` are recomputed at `t` (R68): slots in ascending channel number under automatic interleave, PHOFS
under fixed interleave. -/
def State.recompute (s : State) (r t : Nat) : State :=
  let ns := s.inN r
  let per := s.railPer r
  let fixed := s.on (PHA_RAIL_CFG.INTLV r)
  s.each ((ns.zip (List.range ns.length)).filter (fun e => s.switching e.1)) (fun s e =>
    let s := if fixed then s else s.set (PHA_CH_STAT.SLOT e.1) e.2
    s.respace e.1
      (if fixed then (if (s.ph e.1).next = none then s.get (PHA_CH_PHOFS.PHOFS e.1) else (s.ph e.1).ofs)
       else e.2 * per / ns.length) per t)

/-- The carrier-sampled fields of phase `n` as they stand (R16, R87). -/
def State.sampleCarrier (s : State) (n : Nat) : State :=
  s.modPh n (fun p => { p with
    minOn := s.get (PHA_CH_LIM.MIN_ON n)
    minOff := s.get (PHA_CH_LIM.MIN_OFF n)
    maxOn := s.get (PHA_CH_MAXON.MAX_ON n)
    skip := s.on (PHA_CH_CFG.SKIP n) })

/-- A phase leaves the forced set; where none is left, FORCE ends in LOCKOUT with RTIME and BLW_REL_r (R145, R146). -/
def State.leaveForce (s : State) (n : Nat) : State :=
  if !(s.ph n).forced then s
  else
    let s := s.modPh n (fun p => { p with forced := false })
    let r := s.railOf n
    if s.get (BLW_BW_STAT.STATE r) = 2 ∧ (s.members r).any (fun k => (s.ph k).forced) = false then
      ((s.set (BLW_BW_STAT.STATE r) 3).set (BLW_BW_STAT.RTIME r) 1).fire [hRel r]
    else s

/-- The phase stops switching: trim, overcurrent record and force end (R66, R82, R146). -/
def State.stopSwitching (s : State) (n : Nat) : State :=
  let s := ((s.leaveForce n).set (PHA_CH_TRIMV.TRIMV n) 0).set (PHA_CH_STAT.OCCNT n) 0
  s.modPh n (fun p => { p with
    acc := 0
    ocLatch := false
    tripped := false
    pocActed := false
    next := none
    blendM := 0 })

/-- The phase's edges are dropped: its pin has no modulator output. -/
def PhaseX.dropEdges (p : PhaseX) : PhaseX :=
  { p with since := none, start := none, rise := none, fall := none, carried := none, past := none, shedEnd := none, next := none }

/-- The summary bit of a phase that is failed no longer (R87). -/
def State.unfail (s : State) (n : Nat) : State := s.setBit (PHA_FAIL_SUM (n / 32)) (n % 32) false

/-- The phase enters ACTIVE or BLEND at a T0 (R66, R69, R70, R75); BLEND is taken for the whole blend (log entry 105). -/
def State.enterPhase (s : State) (n st : Nat) : State :=
  let r := s.railOf n
  let s := (((s.stopSwitching n).unfail n).set (PHA_CH_STAT.STATE n) st).sampleCarrier n
  s.modPh n (fun p => { p.dropEdges with
    word := none
    prev := none
    committed := if (s.rx r).live then some (s.dutyOf n (s.get (PHA_RAIL_DUTY.D r))) else none
    cAt := 0
    blendN := s.getT (PHA_GOV.BLEND r) })

/-- The phase goes to OFF, PARKED, FAILED or ABSENT with its pin at mid (R74, R75); in OFF or PARKED it is failed no longer
(R87). -/
def State.idlePhase (s : State) (n st : Nat) : State :=
  let s := ((s.stopSwitching n).set (PHA_CH_STAT.STATE n) st).modPh n PhaseX.dropEdges
  if st = phFailed ∨ st = phAbsent then s else s.unfail n

/-- The phase is shed at `t`: it leaves N and its pin follows the modulator to the end of its period in progress (R75). -/
def State.shedPhase (s : State) (n t : Nat) : State :=
  let p := s.ph n
  let s := (s.stopSwitching n).set (PHA_CH_STAT.STATE n) phParked
  if p.inProgress t then s.modPh n (fun q => { q with shedEnd := p.start.map (· + p.len) })
  else s.modPh n PhaseX.dropEdges

/-- The members of rail `r` in a state. -/
def State.inState (s : State) (r st : Nat) : List Nat := whichN 144 (fun n => s.memberOf n r && s.phState n == st)

/-- PHASE FAILURE at its detection instant (R83, R84): mid level, state and cause, the summary bit, PHA_FAIL and the
records; a phase that switched counts in N until the next T0. N before is N with every phase that leaves at that T0, N after
is N without those that have failed so far (log entry 106), and N before for a phase that was PARKED (R83). A hiccup of an earlier
drop ends: only a ladder's ACTION 2 starts one (R160). -/
def State.failPhase (s : State) (n cause : Nat) : State :=
  let r := s.railOf n
  let was := if s.switching n then s.phState n else 0
  let s := ((s.idlePhase n (if cause = 2 then phAbsent else phFailed)).set (PHA_CH_STAT.CAUSE n) cause).modPh n
    (fun p => { p with leaving := true, counted := was, gov := 0, hiccup := false, tooHot := false })
  let s := s.setBit (PHA_FAIL_SUM (n / 32)) (n % 32) true
  let after := if was = 0 then s.inN r else s.running r
  (((s.fire [hPhaFail]).mramCount (48 + n)).record 1 [n, r, cause, (s.inN r).length, after.length])

/-- An add or a shed on rail `r`: PHA_GOV_r fires and the dwell counters restart (R78, R86). -/
def State.govAct (s : State) (r : Nat) : State :=
  (s.modRx r (fun x => { x with addCnt := 0, shedCnt := 0 })).fire [hGov r]

/-- Members in the order the governor adds them: ORDER, then channel number (R75, R76). -/
def State.byOrder (s : State) (ns : List Nat) : List Nat :=
  (List.range 16).flatMap (fun o => ns.filter (fun n => s.getT (PHA_CH_CFG.ORDER n) == o))

/-- The PARKED phase `n` of rail `r` is added (R75): to ACTIVE where BLEND is 0 or the rail had no ACTIVE phase at this
T0, to BLEND otherwise. -/
def State.addPhase (s : State) (r n : Nat) (hadActive : Bool) : State :=
  (s.enterPhase n (if s.getT (PHA_GOV.BLEND r) = 0 ∨ hadActive = false then phActive else phBlend)).govAct r

/-- PARKED members in a given order are added until N reaches `top`. -/
def State.addUpTo (s : State) (r top : Nat) (hadActive : Bool) (ns : List Nat) : State :=
  s.each ns (fun s n =>
    if s.phState n = phParked ∧ (s.inN r).length < top then s.addPhase r n hadActive else s)

/-- A phase command is turned away (R79). -/
def State.cmdIgn (s : State) : State := s.set PHA_STAT.CMDIGN 1

/-- A failed or fault-free phase may be restored: its stage is present and TFLT is below 2.5 V (R75). -/
def State.restorable (s : State) (n : Nat) : Bool :=
  s.phState n == phFailed && s.on (PHA_CH_STAT.PRESENT n) && !s.on (PHA_CH_STAT.TFAULT n)

/-- Where a phase goes that is restored: PARKED in an enabled rail, else OFF (R74, R75; log entry 107). A hiccup it is in ends with
no retry counted (R160). -/
def State.restored (s : State) (n : Nat) : State :=
  (s.modPh n (fun p => { p with hiccup := false, tooHot := false })).idlePhase n (match (s.ph n).rail with
    | some r => if s.enabled r then phParked else phOff
    | none => phOff)

/-- A waiting phase command acts at a T0 (R75, R79); one that meets a failure of its phase is ignored (R85). -/
def State.applyCmd (s : State) (n t : Nat) (hadActive : Bool) : State :=
  let c := (s.ph n).cmd
  if c = 0 then s
  else
    let s := (s.set (PHA_CH_STAT.CMDPEND n) 0).modPh n (fun p => { p with cmd := 0 })
    let r := s.railOf n
    let st := s.phState n
    if (s.ph n).leaving then s.cmdIgn
    else if c = 1 then
      if st = phParked ∧ (s.inN r).length < s.getT (PHA_GOV.MAX_N r) then s.addPhase r n hadActive else s.cmdIgn
    else if c = 2 then
      if s.switching n then (s.shedPhase n t).govAct r else s.cmdIgn
    else if c = 3 then
      if st = phParked ∨ s.switching n = true then s.failPhase n 4 else s.cmdIgn
    else if s.restorable n then s.restored n
    else s.cmdIgn

/-- The membership that the registers give phase `n` (R87). -/
def State.cfgRail (s : State) (n : Nat) : Option Nat :=
  if s.on (PHA_CH_CFG.MEMBER n) then some (s.get (PHA_CH_CFG.RAIL n)) else none

/-- A phase whose membership was rewritten takes it at the T0 (R75), and a governor decision of its old rail lapses; one that has
failed since the T0 before first leaves its old rail (R84). -/
def State.takeMembership (s : State) (n : Nat) : State :=
  let m := s.cfgRail n
  if (s.ph n).rail = m ∨ s.switching n = true ∨ (s.ph n).leaving = true then s
  else
    let s := s.modPh n (fun p => { p with rail := m, gov := if p.gov = 3 then 3 else 0 })
    if s.phState n = phFailed then s
    else match m with
      | some r => if s.enabled r then s.idlePhase n (if s.on (PHA_CH_STAT.PRESENT n) then phParked else phAbsent)
        else s.idlePhase n phOff
      | none => s.idlePhase n phOff

/-- Presence moves a PARKED or ABSENT member at a T0 (R75, R81). -/
def State.takePresence (s : State) (n : Nat) : State :=
  let st := s.phState n
  if st = phParked ∧ ¬ s.on (PHA_CH_STAT.PRESENT n) then s.idlePhase n phAbsent
  else if st = phAbsent ∧ (s.ph n).leaving = false ∧ s.on (PHA_CH_STAT.PRESENT n) ∧ ¬ s.on (PHA_CH_STAT.TFAULT n) then
    s.idlePhase n phParked
  else s

/-- The rail is enabled: its members that are not FAILED take the OFF rows of R75 in ascending ORDER, then channel number,
whatever state a quench has left them in; those that have failed since the last T0 leave N at this one (R84) and take no place
below MAX_N. -/
def State.enableMembers (s : State) (r : Nat) : State :=
  let s := s.modRx r (fun x => { x with live := false, addCnt := 0, shedCnt := 0 })
  let ns := s.byOrder ((s.members r).filter (fun n => s.phState n != phFailed))
  let here := ns.filter (fun n => s.on (PHA_CH_STAT.PRESENT n))
  let top := s.getT (PHA_GOV.MAX_N r)
  ((s.each (ns.filter (fun n => !s.on (PHA_CH_STAT.PRESENT n))) (fun s n => s.idlePhase n phAbsent)).each (here.take top)
    (fun s n => s.enterPhase n phActive)).each (here.drop top) (fun s n => s.idlePhase n phParked)

/-- The rail is disabled: every member goes to OFF (R75). -/
def State.disableMembers (s : State) (r : Nat) : State :=
  let s := s.modRx r (fun x => { x with master := none, await := false, live := false })
  s.each (s.members r) (fun s n => (s.idlePhase n phOff).modPh n (fun p => { p with counted := 0 }))

/-- The master carrier of rail `r` starts or waits for its grid instant (R67). -/
def State.startMaster (s : State) (r t : Nat) : State :=
  let per := s.get (PHA_RAIL_PER.PERIOD r)
  let now := !s.on (PHA_RAIL_CFG.GRIDSYNC r) || s.flockTime % (per / 3200) == 0
  s.modRx r (fun x => { x with per := per, seen := per, took := none, master := if now then some t else none, await := !now })

/-- A master that awaits its grid instant starts at a base-grid instant at which flock time allows it (R67); its phases
take their first starts from it (R69). -/
def State.gridMasters (s : State) : State :=
  s.each (List.range 32) (fun s r =>
    if (s.rx r).await && s.flockTime % ((s.rx r).per / 3200) == 0 then
      (s.modRx r (fun x => { x with master := some s.tbu.now, await := false })).recompute r s.tbu.now
    else s)

/-- The master boundaries of rail `r` after instant `t0` and not after `t`, two base-grid instants in a row: at one that allows
it the PERIOD as it stands takes effect, at one before `t` the PERIOD found at `t0`, so that a write after a boundary waits
for the next (R67; log entry 108). -/
def State.masterBoundary (s : State) (r t0 t : Nat) : State :=
  let x := s.rx r
  let s := match x.master with
    | none => s
    | some m =>
      let b := alignUp m x.per (t0 + 1)
      let ago := (t - b + 1600) / 3200
      let per := if b = t then s.get (PHA_RAIL_PER.PERIOD r) else x.seen
      if per ≠ x.per ∧ x.took = none ∧ b ≤ t
          ∧ (¬ s.on (PHA_RAIL_CFG.GRIDSYNC r) ∨ (s.flockTime + 2 ^ 64 - ago) % (per / 3200) = 0) then
        s.modRx r (fun x => { x with took := some (b, per) })
      else s
  s.modRx r (fun x => { x with seen := s.get (PHA_RAIL_PER.PERIOD r) })

/-- A PERIOD that has taken effect at a master boundary reaches the phases at this T0 (R67, R68): whether one has, and the
state with it. -/
def State.takePeriod (s : State) (r : Nat) : Bool × State :=
  match (s.rx r).took with
  | none => (false, s)
  | some (b, per) => (true, s.modRx r (fun x => { x with per := per, master := some b, took := none }))

/-- The governor of rail `r` takes no action: manual mode, or Hold (R75, R407). -/
def State.govOff (s : State) (r : Nat) : Bool := s.onT (PHA_GOV.MODE r) || s.mode == modeHold

/-- Bellows is in FORCE or LOCKOUT on rail `r`: its governor counts no shed ticks and sheds nothing (R146). -/
def State.shedHeld (s : State) (r : Nat) : Bool :=
  s.get (BLW_BW_STAT.STATE r) == 2 || s.get (BLW_BW_STAT.STATE r) == 3

/-- The phases of rail `r` that failed before this T0 leave N, slots and i_mean, and PHASE_LOST sets (R84). -/
def State.removeFailed (s : State) (r : Nat) (left : List Nat) : State :=
  let s := s.each left (fun s n => s.modPh n (fun p => { p with leaving := false, counted := 0 }))
  s.when (!left.isEmpty) (fun s =>
    (s.when (!(s.rl r).phaseLost) State.alert).modRl r (fun x => { x with phaseLost := true }))

/-- The governor's decision for phase `n` of rail `r`, or the end of a hiccup, acts at the T0; `busy` where a command or a
re-add has met a phase of the decision (R76, R79, R160). A shed waits for no hold: READD_HOLD that a re-add starts at this T0 bars
it (R80). A decision of the tick before acts also where MODE 1 or Hold takes effect at this T0 (log entry 144). -/
def State.applyGov (s : State) (r n t : Nat) (hadActive busy : Bool) : State :=
  let g := (s.ph n).gov
  let s := s.modPh n (fun p => { p with gov := 0 })
  if g = 3 then (if s.restorable n then s.restored n else s)
  else if busy then s
  else if g = 1 then s.addUpTo r (s.getT (PHA_GOV.MAX_N r)) hadActive [n]
  else if s.phState n = phActive ∧ s.getT (PHA_GOV.MIN_N r) < (s.inN r).length ∧ s.shedHeld r = false ∧ (s.rx r).hold = 0 then
    (s.shedPhase n t).govAct r
  else s

/-- The re-add event of rail `r` acts at the T0 (R80), PARKED members in ORDER, then channel number (log entry 109), but those
that a command has met (R79); without one the hold runs on. -/
def State.applyReadd (s : State) (r : Nat) (readd hadActive : Bool) (met : List Nat) : State :=
  let h := s.getT (PHA_GOV_HOLD.READD_HOLD r)
  let ns := (s.byOrder (s.inState r phParked)).filter (fun n => !met.contains n)
  if readd then
    ((s.addUpTo r (s.getT (PHA_GOV.MAX_N r)) hadActive ns).takeEvent r).modRx r
      (fun x => { x with hold := if h = 0 then 0 else h + 1 })
  else s.modRx r (fun x => { x with hold := if 1 < x.hold then x.hold - 1 else x.hold })

/-- THE STATE CHANGES OF RAIL `r` AT THE T0 AT INSTANT `t` (R75, R79, R80, R84, R85): removal of failed phases, then
commands, then a re-add, then the governor, with one recomputation of offsets; and whether a failure has left the rail
without a phase. A phase that a REMOVE fails at this T0 counts in N until the next, and one that failed from PARKED takes no
part in the removal (R83). The commands are taken in one ascending pass, so that only a SHED of a lower channel makes room for an
ADD at MAX_N (log entry 144); a re-add meets the PARKED phases, those of the governor's adds among them (R79). -/
def State.phaseChanges (s : State) (r t : Nat) : Bool × State :=
  let left := whichN 144 (fun n => s.memberOf n r && (s.ph n).leaving)
  let before := s.inN r
  let hadActive := !(s.inState r phActive).isEmpty
  let readd := s.on (EVF_CON.PEND r)
  let met := whichN 144 (fun n => s.memberOf n r && (s.ph n).cmd != 0)
  let gone := left.any (fun n => (s.ph n).counted != 0)
  let decided := whichN 144 (fun n => s.memberOf n r && (s.ph n).gov != 0)
  let busy := decided.any (fun n => met.contains n || (readd && s.phState n == phParked && (s.ph n).gov == 1))
  let s := s.each left (fun s n => s.applyCmd n t hadActive)
  let s := (s.removeFailed r left).each (s.members r) (fun s n => s.applyCmd n t hadActive)
  let s := (s.applyReadd r readd hadActive met).each decided (fun s n => s.applyGov r n t hadActive busy)
  let s := if !left.isEmpty && !s.govOff r && s.enabled r then
      s.addUpTo r (s.getT (PHA_GOV.MIN_N r)) hadActive ((s.byOrder (s.inState r phParked)).filter (fun n => !met.contains n))
    else s
  let pr := s.takePeriod r
  let s := pr.2
  let changed := !(s.inN r == before) || gone || pr.1
  let s := s.when changed (fun s => s.recompute r t)
  let s := if gone then
      s.each (s.running r) (fun s n => match (s.ph n).committed with
        | some d => s.applyWord n d t
        | none => s)
    else s
  (!left.isEmpty && s.enabled r && (s.inN r).isEmpty && (s.inState r phParked).isEmpty, s)

/-- Commands to phases that belong to no rail are judged at the T0 as well (R79). -/
def State.looseCommands (s : State) (t : Nat) : State :=
  s.each (whichN 144 (fun n => (s.ph n).rail.isNone && (s.ph n).cmd != 0)) (fun s n => s.applyCmd n t true)

/-- The current-balance trimmers and the governor's counters of rail `r` at the phase-array step, with the tick's currents
in Q16.16 A (R66, R76); a BLEND phase before its first carrier period is in period 0 (log entry 110). -/
def State.balance (s : State) (r : Nat) (cur : Nat → Int) : State :=
  let act := (s.inN r).filter (fun n => s.countState n == phActive)
  let mean : Int := if act.isEmpty then 0 else floorDiv ((act.map cur).foldl (· + ·) 0) (act.length : Int)
  let gain : Int := (s.getT (PHA_BAL.CB_GAIN r) : Int)
  s.each (s.running r) (fun s n =>
    let p := s.ph n
    let tgt := if s.phState n = phBlend ∧ p.blendN ≠ 0 then floorDiv (mean * (p.blendM : Int)) (p.blendN : Int) else mean
    let lim : Int := (256 * s.getT (PHA_CH_TRIM.TRIM_LIM n) : Nat)
    let a := clampI (-lim) lim (p.acc - floorDiv ((cur n - tgt) * gain) 65536)
    (s.modPh n (fun p => { p with acc := a })).seti (PHA_CH_TRIMV.TRIMV n) (floorDiv a 256))

/-- The governor's conditions of rail `r` in this tick (R76). -/
def State.dwell (s : State) (r : Nat) (cur : Nat → Int) : State :=
  if s.govOff r || !s.enabled r then s.modRx r (fun x => { x with addCnt := 0, shedCnt := 0 })
  else
    let ns := s.inN r
    let n := ns.length
    let i := (ns.map cur).foldl (· + ·) 0
    let add := decide (((n * s.getT (PHA_GOV_TH.ADD_PP r) * 4096 : Nat) : Int) ≤ i)
      && decide (n < s.getT (PHA_GOV.MAX_N r)) && !(s.inState r phParked).isEmpty
    let shed := decide (i ≤ ((n : Int) - 1) * ((s.getT (PHA_GOV_TH.SHED_PP r) * 4096 : Nat) : Int))
      && decide (s.getT (PHA_GOV.MIN_N r) < n) && !(s.inState r phActive).isEmpty
    s.modRx r (fun x => { x with
      addCnt := if add then satInc 65535 x.addCnt else 0
      shedCnt := if s.shedHeld r then x.shedCnt else if shed then satInc 65535 x.shedCnt else 0 })

/-- A CARRIER PERIOD OF PHASE `n` STARTS at instant `t` (R69 to R71, R82): carrier-sampled fields, the word in force, the
edges; a commit made in or after the engine cycle of the start reaches the period as R71 says. A first period that starts
before the rail's first commit takes that commit's word as if in force from its start (log entry 111). A new PHOFS
takes effect where a period ends, so that one written while no period is in progress waits for the end of the next (log entry
143); where it lies before the old offset, a pulse that reaches beyond the end is cut there (R69). -/
def State.startPeriod (s : State) (n t : Nat) : State :=
  let r := s.railOf n
  let p := s.ph n
  let po := s.get (PHA_CH_PHOFS.PHOFS n)
  let moved := s.on (PHA_RAIL_CFG.INTLV r) && po != p.ofs && p.start.isSome
  let high := if moved && decide (offsetDelta p.ofs po p.per ≤ 0) then p.cutAt t else (match p.rise, p.fall with
    | some u, some f => some (u, f)
    | _, _ => none)
  -- the period before ends (R82)
  let s := (s.periodEnd n).modPh n (fun p => { p with
    tripped := false
    past := high.or p.past
    carried := high.filter (fun i => decide (t < i.2))
    rise := none
    fall := none })
  let s := s.sampleCarrier n
  if moved then
    s.modPh n (fun p => { p with
      ofs := po
      start := none
      next := (s.rx r).master.map (fun m => alignUp (m + po) p.per t) })
  else
    let first := p.word.isNone
    let later := if first then decide (t / 64 < p.cAt / 64) else decide (t / 64 ≤ p.cAt / 64)
    let d0 := if later then (match p.prev with
      | some d => some d
      | none => p.committed) else p.committed
    let s := s.modPh n (fun p => { p with
      ocLatch := false
      since := p.since.or (some t)
      start := some t
      len := p.per
      next := some (t + p.per)
      blendM := if s.phState n = phBlend ∧ p.blendM < p.blendN then p.blendM + 1 else p.blendM })
    match d0 with
    | none => s
    | some d =>
      let l := s.limit n p.per d
      let e := edgesOf (s.get (PHA_RAIL_CFG.MOD r)) t p.per l.1
      let s := l.2.modPh n (fun p => { p with word := some l.1, rise := e.map (·.1), fall := e.map (·.2) })
      match p.committed with
      | some c => if later && p.prev.isSome then s.applyWord n c p.cAt else s
      | none => s

/-- CARRIER_PERIOD_START. The next carrier period of a switching phase starts at its instant. -/
def execCarrierPeriodStart (n : Nat) (s : State) : Host.Outcome State Fault Refusal :=
  runs (wfCarrierPeriodStart n) s (fun s =>
    match (s.ph n).next with
    | some t => if s.switching n then s.startPeriod n t else s
    | none => s)

/-- SEN_DELAY_END. The delay after a group's SEN rise ends (R61). -/
def execSenDelayEnd (g : Nat) (s : State) : Host.Outcome State Fault Refusal :=
  runs (wfSenDelayEnd g) s (fun s =>
    { s with pha := { s.pha with senDelay := modNth s.pha.senDelay g (fun _ => false) } })

/-- A Kindle in which the power stages are off: after a reset of kind P or wider, and after K once rails that are not held
are all OFF (R7, R410). -/
def State.stagesOff (s : State) : Bool :=
  s.mode == modeKindle
    && (s.nvc.kkind != 5 || (!s.on NVC_KSTAT.HELD && (List.range 32).all (fun r => s.railState r == railOff)))

/-- What its boundary cells tell a pin (R457, R458): under EXTEST and CLAMP the bits that were loaded at the places of its cells,
under HIGHZ nothing. The places are those of a file that is not in the spec (log entry 86). -/
def State.cellBits (s : State) (pin : Nat) : Nat :=
  let bit (k : Nat) := b2n (spGet (fun _ => 0) s.jtag.cells (Config.padCell pin k) != 0)
  if s.jtag.ir = 4 then 0 else bit 0 + 2 * bit 1

/-- SENg is high (R61); under boundary scan only with TESTEN (R458). -/
def State.senHigh (s : State) (g : Nat) : Bool :=
  if s.jtagHolds then s.jtag.testen && nbit (s.cellBits (144 + g)) 0
  else nbit (s.get PHA_SEN.EN) g && !s.inQuench && !s.pmu.due.contains 3 && s.alive && !s.stagesOff

/-- The SEN delay of each group after a change from the state `old`: it starts where SENg rises, for whatever reason, and
ends where it falls (R61). -/
def State.senEdges (s old : State) : State :=
  s.each (List.range 9) (fun s g =>
    if old.senHigh g = s.senHigh g then s
    else { s with pha := { s.pha with senDelay := modNth s.pha.senDelay g (fun _ => s.senHigh g && s.on PHA_SEN.DLY) } })

/-- STAGE_ABSENT. TFLT below 0.1 V for 1 µs: presence ends; a switching phase fails with cause 2 (R62, R81, R83). -/
def execStageAbsent (n : Nat) (s : State) : Host.Outcome State Fault Refusal :=
  runs (wfStageAbsent n) s (fun s =>
    let s := (s.set (PHA_CH_STAT.PRESENT n) 0).set (PHA_CH_STAT.TFAULT n) 0
    if s.switching n then s.instant (fun s => s.failPhase n 2) else s)

/-- STAGE_PRESENT. TFLT in the middle band for 10 ms after absence: presence is declared (R62); the state follows at the
next T0 (R75). -/
def execStagePresent (n : Nat) (s : State) : Host.Outcome State Fault Refusal :=
  runs (wfStagePresent n) s (fun s => (s.set (PHA_CH_STAT.PRESENT n) 1).set (PHA_CH_STAT.TFAULT n) 0)

/-- A write of PHA_PH_CMD (R79): reserved operations and phase numbers are ignored with CMDIGN; OP 0 is no command. -/
def State.phaseCommand (s : State) (op n : Nat) : State :=
  if op = 0 then s
  else if 4 < op ∨ 143 < n then s.cmdIgn
  else (s.set (PHA_CH_STAT.CMDPEND n) 1).modPh n (fun p => { p with cmd := op })

/-- The word of PHA_PH_CMD for an operation on a phase. -/
def phCmdWord (op n : Nat) : Word := BitVec.ofNat 32 (op * 65536 + n)

/-- PHASE_ADD. -/
def execPhaseAdd (w : Who) (n : Nat) (s : State) : Host.Outcome State Fault Refusal :=
  runs (wfPhaseAdd w n) s (fun s => s.asWrite w PHA_PH_CMD (phCmdWord 1 n) (fun s => s.phaseCommand 1 n))

/-- PHASE_SHED. -/
def execPhaseShed (w : Who) (n : Nat) (s : State) : Host.Outcome State Fault Refusal :=
  runs (wfPhaseShed w n) s (fun s => s.asWrite w PHA_PH_CMD (phCmdWord 2 n) (fun s => s.phaseCommand 2 n))

/-- PHASE_REMOVE. -/
def execPhaseRemove (w : Who) (n : Nat) (s : State) : Host.Outcome State Fault Refusal :=
  runs (wfPhaseRemove w n) s (fun s => s.asWrite w PHA_PH_CMD (phCmdWord 3 n) (fun s => s.phaseCommand 3 n))

/-- PHASE_RESTORE. -/
def execPhaseRestore (w : Who) (n : Nat) (s : State) : Host.Outcome State Fault Refusal :=
  runs (wfPhaseRestore w n) s (fun s => s.asWrite w PHA_PH_CMD (phCmdWord 4 n) (fun s => s.phaseCommand 4 n))

/-- GOVERNOR_ADD. The add counter has reached ADD_DWELL: the PARKED member with the lowest ORDER, then channel number,
goes to BLEND at the next T0; both counters reset (R76). -/
def execGovernorAdd (r : Nat) (s : State) : Host.Outcome State Fault Refusal :=
  runs (wfGovernorAdd r) s (fun s =>
    match s.byOrder (s.inState r phParked) with
    | n :: _ =>
      if !s.govOff r && decide (s.getT (PHA_GOV_DW.ADD_DWELL r) ≤ (s.rx r).addCnt) then
        (s.modPh n (fun p => { p with gov := 1 })).modRx r (fun x => { x with addCnt := 0, shedCnt := 0 })
      else s
    | [] => s)

/-- GOVERNOR_SHED. The shed counter has reached SHED_DWELL and no shed hold runs: the ACTIVE member with the highest
ORDER, then channel number, is shed at the next T0; both counters reset (R76, R80). -/
def execGovernorShed (r : Nat) (s : State) : Host.Outcome State Fault Refusal :=
  runs (wfGovernorShed r) s (fun s =>
    match (s.byOrder (s.inState r phActive)).getLast? with
    | some n =>
      if !s.govOff r && decide (s.getT (PHA_GOV_DW.SHED_DWELL r) ≤ (s.rx r).shedCnt)
        && (s.rx r).hold == 0 && !s.shedHeld r then
        (s.modPh n (fun p => { p with gov := 2 })).modRx r (fun x => { x with addCnt := 0, shedCnt := 0 })
      else s
    | none => s)

/-- READD. An event reaches PHA_READD_r; it acts at the next T0 (R80, R200). -/
def execReadd (r : Nat) (ch : Nat) (s : State) : Host.Outcome State Fault Refusal :=
  runs (wfReadd r ch) s (fun s => s.consumerEvent r ch)

/-- READD_HOLD_END. The ticks of READD_HOLD have elapsed: the governor may shed again (R80). -/
def execReaddHoldEnd (r : Nat) (s : State) : Host.Outcome State Fault Refusal :=
  runs (wfReaddHoldEnd r) s (fun s =>
    if (s.rx r).hold = 1 then s.modRx r (fun x => { x with hold := 0 }) else s)

/-- BLEND_END. The BLEND-th carrier period after entry has ended: the phase is ACTIVE (R75, R78). -/
def execBlendEnd (n : Nat) (s : State) : Host.Outcome State Fault Refusal :=
  runs (wfBlendEnd n) s (fun s =>
    if s.phState n = phBlend ∧ (s.ph n).blendM = (s.ph n).blendN then s.set (PHA_CH_STAT.STATE n) phActive else s)

/-- Rail `r` follows a span rail (R63). -/
def State.follower (s : State) (r : Nat) : Bool := s.on (PHA_RAIL_CFG.SRC r)

/-- Writes of PHA registers with rules of their own (R10, R77, R87): an ignored write sets WIGN, and so does one that the
lock bars (R88; log entry 122). In ACTIVE or BLEND a write leaves RAIL and MEMBER as they are and stores the other fields, as
a write of MODE 0 does on a follower rail. -/
def State.phaWrite (s : State) (a : Nat) (v : Word) : State :=
  let wign := s.set PHA_STAT.WIGN 1
  let barred := if s.lockBars a v then wign else s
  if a = PHA_PH_CMD then s.phaseCommand (getBits v 19 16) (getBits v 7 0)
  else if a = PHA_SEN then (s.plainWrite a v).senEdges s
  else if inFam a (PHA_GOV 0) 32 0x40 then
    let r := famIdx a (PHA_GOV 0) 0x40
    if getBits v 23 16 < getBits v 15 8 then wign
    else if getBits v 0 0 = 0 ∧ s.follower r = true then wign.plainWrite a (putBits v 0 0 (s.get (PHA_GOV.MODE r)))
    else s.plainWrite a v
  else if inFam a (PHA_GOV_TH 0) 32 0x40 then
    if getBits v 15 0 ≤ getBits v 31 16 then wign else s.plainWrite a v
  else if inFam a (PHA_RAIL_PER 0) 32 0x40 then
    let r := famIdx a (PHA_RAIL_PER 0) 0x40
    let p := getBits v 19 0
    let ms := whichN 144 (fun n => s.cfgRail n == some r)
    if p < 16000 ∨ 256000 < p then s
    else if (s.on (PHA_RAIL_CFG.GRIDSYNC r) = true ∧ p % 3200 ≠ 0)
      ∨ ms.any (fun n => decide (p < s.get (PHA_CH_LIM.MIN_ON n) + s.get (PHA_CH_LIM.MIN_OFF n))) = true then wign
    else s.plainWrite a v
  else if inFam a (PHA_CH_CFG 0) 144 0x20 then
    let n := famIdx a (PHA_CH_CFG 0) 0x20
    if s.switching n = true ∧ getBits v 5 0 ≠ getBits (s.rd a) 5 0 then wign.plainWrite a (putBits v 5 0 (getBits (s.rd a) 5 0))
    else barred.plainWrite a v
  else if inFam a (PHA_CH_MAXON 0) 144 0x20 then
    let n := famIdx a (PHA_CH_MAXON 0) 0x20
    if getBits v 19 0 < s.get (PHA_CH_LIM.MIN_ON n) then wign else s.plainWrite a v
  else barred.plainWrite a v

/-- The first item of a check, with its refusal code (R464). -/
def firstFail (n code : Nat) (bad : Nat → Bool) : Option (Nat × Nat) := (whichN n bad).head?.map (fun i => (code, i))

/-- The outcome of a commit check: the first failing code and item in order, none where it is accepted (R464). -/
def firstOf (l : List (Option (Nat × Nat))) : Option (Nat × Nat) := (l.filterMap id).head?

/-- An enabled FLK_SPAN entry with ROLE 1 names the rail. -/
def State.spanFollows (s : State) (r : Nat) : Bool :=
  (List.range 6).any (fun n => s.on (FLK_SPAN.EN n) && s.on (FLK_SPAN.ROLE n) && s.get (FLK_SPAN.RAIL n) == r)

/-- The phase-array check: code, item, and whether the item is a phase (R88). -/
def State.phaCheck (s : State) : Option (Nat × Nat × Bool) :=
  let mem (n : Nat) := s.on (PHA_CH_CFG.MEMBER n)
  let per (n : Nat) := s.get (PHA_RAIL_PER.PERIOD (s.get (PHA_CH_CFG.RAIL n)))
  let tag (b : Bool) (o : Option (Nat × Nat)) := o.map (fun e => (e.1, e.2, b))
  ([ tag false (firstFail 32 1 (fun r => s.on (PHA_RAIL_CFG.GRIDSYNC r) && s.get (PHA_RAIL_PER.PERIOD r) % 3200 != 0)),
     tag true (firstFail 144 2 (fun n => mem n && (decide (per n < s.get (PHA_CH_LIM.MIN_ON n) + s.get (PHA_CH_LIM.MIN_OFF n))
       || decide (s.get (PHA_CH_MAXON.MAX_ON n) < s.get (PHA_CH_LIM.MIN_ON n))))),
     tag false (firstFail 32 3 (fun r => s.follower r && !(s.on (PHA_RAIL_CFG.INTLV r) && s.on (PHA_RAIL_CFG.GRIDSYNC r)
       && s.on (PHA_GOV.MODE r)))),
     tag false (firstFail 32 4 (fun r => s.follower r && !s.spanFollows r)),
     tag true (firstFail 144 5 (fun n => mem n && s.on (PHA_RAIL_CFG.INTLV (s.get (PHA_CH_CFG.RAIL n)))
       && decide (per n ≤ s.get (PHA_CH_PHOFS.PHOFS n)))) ].filterMap id).head?

/-- A write of 1 to PHA_COMMIT.LOCK (R88). -/
def State.phaLock (s : State) : State :=
  match s.phaCheck with
  | none => (((s.set PHA_COMMIT.RESULT 0).set PHA_COMMIT.WHERE 0).set PHA_COMMIT.WHERE_PH 0).set PHA_COMMIT.LOCK 1
  | some (c, i, b) =>
    ((s.set PHA_COMMIT.RESULT c).set PHA_COMMIT.WHERE i).setb PHA_COMMIT.WHERE_PH b

/-- PHA_COMMIT_LOCK. -/
def execPhaCommitLock (w : Who) (s : State) : Host.Outcome State Fault Refusal :=
  runs (wfPhaCommitLock w) s (fun s => s.asWrite w PHA_COMMIT 1 State.phaLock)

/-- Levels of a PWM pin (R60). -/
inductive Level where
  | high | low | mid
deriving DecidableEq, Repr

/-- The modulator output of phase `n` at instant `t` (R71). Where a carried pulse falls after the period's own fall, the later fall
ends the high interval (log entry 143). -/
def PhaseX.modHigh (p : PhaseX) (t : Nat) : Bool :=
  let inside (i : Option (Nat × Nat)) := match i with
    | some (u, f) => decide (u ≤ t) && decide (t < f)
    | none => false
  inside p.carried || (match p.rise, p.fall with
    | some u, some f => decide (u ≤ t) && decide (t < f)
    | _, _ => false)

/-- A condition of rank 1 or a boundary scan that has nothing to do with the phase's own state holds the pin of phase `n` (R73,
R54, R61, R72, R458): the modulator does not move it. -/
def State.midHeld (s : State) (n : Nat) : Bool :=
  let r := s.railOf n
  let g := n / 16
  s.jtagHolds || s.inQuench || s.quenched r || !s.senHigh g || nth s.pha.senDelay g false || !s.on PHA_STAT.DLCAL_OK
    || (s.follower r && (!(s.rl r).goodFrame || (s.rl r).toTon))

/-- The level that the highest-ranked condition selects for PWMn at instant `t` (R73, R69, R72). A phase before its first carrier
period has its mid level from the modulator, at rank 5. Under boundary scan its cell drives mid or low, with TESTEN high too
(R458). -/
def State.level (s : State) (n t : Nat) : Level :=
  let p := s.ph n
  let r := s.railOf n
  let tail := s.phState n == phParked && (match p.shedEnd with
    | some e => decide (t < e)
    | none => false)
  if s.jtagHolds then
    if nbit (s.cellBits n) 0 then .low else if s.jtag.testen && nbit (s.cellBits n) 1 then .high else .mid
  else if s.midHeld n || !(s.switching n || tail) then .mid
  else if s.on (BLW_BW_STAT.OVACT r) then
    if s.onT (BLW_BW_CFG.OACT r) then .low else .mid
  else if p.ocLatch then .low
  else if p.forced && s.switching n then .high
  else if p.word.isNone then .mid
  else if p.modHigh t then .high else .low

/-- A selected level holds for 0.5 ns from instant `t` on. -/
def holds (lvl : Nat → Level) (t : Nat) : Bool := (List.range 32).all (fun k => lvl (t + k) == lvl t)

/-- THE NET CHANGE of R73: the pin shows a selected level only where it holds for 0.5 ns; within a shorter stretch it shows the
level before the first change until the last (log entry 145). -/
def netLevel (lvl : Nat → Level) : Nat → Level
  | 0 => lvl 0
  | t + 1 => if holds lvl (t + 1) then lvl (t + 1) else netLevel lvl t

/-- PWMn AT INSTANT `t`, where the conditions became those of `s` at instant `c` and were those of `old` before (R73). The rows
that change a condition bring no instant, so the observer names it; with `old` the state itself, the modulator's edges alone
count. -/
def State.pwm (s old : State) (c n t : Nat) : Level := netLevel (fun u => if u < c then old.level n u else s.level n u) t

end Sys2Proof.Machine
end

