-- ==== Sys2Proof/Machine/Flock.lean ====
section
/-! DEFINITION. The Flock Link: ports, bellwether election, the grid servo, duty frames and messages (R44 to R59). -/

namespace Sys2Proof.Machine

/-- The Flock CRC-8: polynomial 0x2F (R44), initial value 0 (log entry 13). -/
def crcFlock (bs : Bytes) : Nat := crc8 0x2F 0 bs

/-- Bytes of a number, most significant first (R44). -/
def beBytes (n v : Nat) : Bytes := (leBytes n v).reverse

/-- The number that bytes spell, most significant first. -/
def ofBe (bs : Bytes) : Nat := ofLe bs.reverse

/-- The bytes of a control frame after its start symbol, without K29.7: type, 16 bytes of body, CRC-8 (R44). -/
def ctlBytes (ty : Nat) (body : Bytes) : Bytes :=
  let b := BitVec.ofNat 8 ty :: bytesAt body 0 16
  b ++ [BitVec.ofNat 8 (crcFlock b)]

/-- Type and body of the control frame that bytes carry, none where the length or the check fails (R44). -/
def ctlOfBytes (bs : Bytes) : Option (Nat × Bytes) :=
  if bs.length = 18 ∧ crcFlock (bs.take 17) = (nth bs 17 0).toNat then some ((nth bs 0 0).toNat, bytesAt bs 1 16) else none

/-- The control types of R44; every other value is reserved. -/
def ctlAnnounce : Nat := 1
/-- TIME. -/
def ctlTime : Nat := 2
/-- SPANLOSS. -/
def ctlSpanloss : Nat := 3
/-- DELAYREQ. -/
def ctlDelayreq : Nat := 4

/-- The body of an ANNOUNCE frame (R48; layout of log entry 98). -/
def Announce.body (a : Announce) : Bytes :=
  BitVec.ofNat 8 a.prio :: (beBytes 2 a.bwId ++ BitVec.ofNat 8 a.hops :: (beBytes 2 a.sender ++ beBytes 4 a.uniq
    ++ [BitVec.ofNat 8 (b2n a.upstream)]))

/-- The announcement that a body carries (R48; layout of log entry 98). -/
def announceOf (b : Bytes) : Announce :=
  ⟨(nth b 0 0).toNat, ofBe (bytesAt b 1 2), (nth b 3 0).toNat, ofBe (bytesAt b 4 2), ofBe (bytesAt b 6 4), nbit (nth b 10 0).toNat 0⟩

/-- The link state of port `p` (R47): 0 DOWN, 1 TRAIN, 2 MEASURE, 3 UP. -/
def State.portState (s : State) (p : Nat) : Nat := s.get (FLK_PORT_STAT.LSTATE p)

/-- The port is UP. -/
def State.portUp (s : State) (p : Nat) : Bool := s.portState p == 3

/-- The ports that are UP, ascending. -/
def State.upPorts (s : State) : List Nat := whichN 3 s.portUp

/-- Port state behind the registers. -/
def State.fp (s : State) (p : Nat) : FlkPort := nth s.flk.ports p {}

/-- That state changed. -/
def State.modFp (s : State) (p : Nat) (f : FlkPort → FlkPort) : State :=
  { s with flk := { s.flk with ports := modNth s.flk.ports p f } }

/-- Span entry state behind the registers. -/
def State.fs (s : State) (n : Nat) : FlkSpan := nth s.flk.spans n {}

/-- That state changed. -/
def State.modFs (s : State) (n : Nat) (f : FlkSpan → FlkSpan) : State :=
  { s with flk := { s.flk with spans := modNth s.flk.spans n f } }

/-- The device is the bellwether (R48). -/
def State.isBw (s : State) : Bool := s.on FLK_STAT.ISBW

/-- Port `p` is the upstream port (R48). -/
def State.isUpstream (s : State) (p : Nat) : Bool := s.get FLK_STAT.UPPORT == p + 1

/-- Port `p` is a tree port (R48). -/
def State.treePort (s : State) (p : Nat) : Bool :=
  s.portUp p && (s.isUpstream p || (match (s.fp p).ann with
    | some a => a.upstream
    | none => false))

/-- The device's own priority: 0xFF in holdover (R48). -/
def State.ownPrio (s : State) : Nat := if s.on TBU_STAT.HOLDOVER then 0xFF else s.get FLK_CTL.BW_PRIO

/-- The device's own ID and device-unique value. -/
def State.ownId (s : State) : Nat := s.get FLK_DEV_ID.ID

/-- The 32-bit device-unique value (R48). -/
def State.ownUniq (s : State) : Nat := s.get OTP_UID.UID

/-- A choice of bellwether: priority, ID, upstream port plus 1 or 0, hop count, depth exceeded (R48, R49). -/
structure Choice where
  prio : Nat
  id : Nat
  up : Nat
  hops : Nat
  deep : Bool
deriving DecidableEq, Repr

/-- The device-unique value of an announced bellwether, where the bellwether itself announces (R48). -/
def announcedUniq (a : Announce) : Option Nat := if a.sender = a.bwId then some a.uniq else none

/-- The device-unique value of the bellwether of a choice, where the device has it. -/
def State.uniqOf (s : State) (c : Choice) : Option Nat :=
  if c.up = 0 then some s.ownUniq else ((s.fp (c.up - 1)).ann).bind announcedUniq

/-- The announcement is ranked before the candidate so far: lower (priority, ID), then under a conflicting ID the lower
device-unique value, then fewer hops (R48, R50). -/
def State.ranks (s : State) (a : Announce) (c : Choice) : Bool :=
  let clash := match announcedUniq a, s.uniqOf c with
    | some u, some v => s.flk.conflicts.contains a.bwId && u != v
    | _, _ => false
  if a.prio ≠ c.prio then decide (a.prio < c.prio)
  else if a.bwId ≠ c.id then decide (a.bwId < c.id)
  else if clash then decide ((announcedUniq a).getD 0 < (s.uniqOf c).getD 0)
  else c.up != 0 && decide (a.hops + 1 < c.hops)

/-- THE CHOICE OF R48 over the device itself and the announcements of its UP ports, ties to FLK_A, then FLK_B, then
FLK_C. -/
def State.choice (s : State) : Choice :=
  let own : Choice := ⟨s.ownPrio, s.ownId, 0, 0, false⟩
  let best := s.upPorts.foldl (fun c p => match (s.fp p).ann with
    | some a => if s.ranks a c then ⟨a.prio, a.bwId, p + 1, a.hops + 1, false⟩ else c
    | none => c) own
  if 31 < best.hops then { own with deep := true } else best

/-- The choice in force. The bellwether's priority is part of it, so that a change of priority alone that the device hears of
counts as a changed choice, and a device that stays its own bellwether compares its priority as it is now, so that a change
of its own does not (R49 leaves both open: log entry 142). -/
def State.chosen (s : State) : Choice :=
  ⟨if s.isBw then s.ownPrio else s.flk.bwPrio, s.get FLK_STAT.BW_ID, s.get FLK_STAT.UPPORT, s.get FLK_STAT.HOPS, s.on FLK_STAT.DEPTHX⟩

/-- An ANNOUNCE frame, with the TIME frame that goes with it, on every UP port (R47, R48; log entry 14). -/
def State.sendAnnounce (s : State) : State :=
  s.each s.upPorts (fun s p =>
    (s.emit (.ctl p (ctlBytes ctlAnnounce (Announce.body ⟨if s.isBw then s.ownPrio else s.flk.bwPrio, s.get FLK_STAT.BW_ID,
      s.get FLK_STAT.HOPS, s.ownId, s.ownUniq, s.isUpstream p⟩)))).emit (.ctl p (ctlBytes ctlTime (beBytes 8 s.flockTime))))

/-- The choice is made again; where it changes, an ANNOUNCE goes out at once and the learned routes are cleared (R49). A
device that joins a flock awaits its lock and its flock time (R47, R51); one that leaves keeps its offset (log entry 135). -/
def State.choose (s : State) : State :=
  let c := s.choice
  if c = s.chosen ∧ (s.isBw = decide (c.up = 0)) then
    { s with flk := { s.flk with bwPrio := c.prio } }
  else
    let joined := s.isBw && c.up != 0
    let s := ((((s.setb FLK_STAT.ISBW (c.up == 0)).set FLK_STAT.UPPORT c.up).set FLK_STAT.HOPS c.hops).set
      FLK_STAT.BW_ID c.id).setb FLK_STAT.DEPTHX c.deep
    let s := { s with flk := { s.flk with bwPrio := c.prio, routes := [] } }
    let s := if joined then
        { s.set TBU_STAT.LOCK 0 with tbu := { s.tbu with needTime := true, goodPeriods := 0, badPeriods := 0 } }
      else if c.up = 0 then { s with tbu := { s.tbu with needTime := false } } else s
    s.sendAnnounce

/-- A SPANLOSS frame for a span ID leaves on port `p` (R54), whatever the state of that port (log entry 136). -/
def State.sendSpanloss (s : State) (p id : Nat) : State := s.emit (.ctl p (ctlBytes ctlSpanloss [BitVec.ofNat 8 id]))

/-- Follower phases of rail `r` go to mid at once; where the slot switches, it enters TON_DLY at the next T0, whatever frame
comes before it (R54, R55). -/
def State.followerMid (s : State) (r : Nat) : State :=
  s.modRl r (fun x => { x with goodFrame := false, toTon := x.toTon || s.enabled r })

/-- Span loss on entry `n` (R54): LOST, FLK_SPANLOSS, and on a follower mid level and SPANLOSS towards the lead. -/
def State.spanLost (s : State) (n : Nat) : State :=
  let s := s.set (FLK_SPAN.LOST n) 1
  let r := s.get (FLK_SPAN.RAIL n)
  let s := (s.when (!(s.rl r).spanLoss) State.alert).modRl r (fun x => { x with spanLoss := true })
  let s := if s.on (FLK_SPAN.ROLE n) then
      (s.followerMid r).sendSpanloss (s.get (FLK_SPAN.IN_PORT n)) (s.get (FLK_SPAN.SPAN_ID n))
    else s
  s.fire [hSpanloss]

/-- An enabled span entry that has not lost its span. -/
def State.spanLive (s : State) (n : Nat) : Bool := s.on (FLK_SPAN.EN n) && !s.on (FLK_SPAN.LOST n)

/-- Port `p` goes DOWN (R47, R54): its announcement counts no longer and a lead that sends through it loses its span. -/
def State.portFall (s : State) (p : Nat) : State :=
  let s := (s.set (FLK_PORT_STAT.LSTATE p) 0).modFp p (fun x => { x with ann := none })
  let s := s.each (List.range 6) (fun s n =>
    if s.spanLive n && !s.on (FLK_SPAN.ROLE n) && nbit (s.get (FLK_SPAN.OUT_MASK n)) p then s.spanLost n else s)
  s.choose

/-- PORT_SYMBOLS_DETECTED. -/
def execPortSymbolsDetected (p : Nat) (s : State) : Host.Outcome State Fault Refusal :=
  runs (wfPortSymbolsDetected p) s (fun s =>
    if s.portState p = 0 ∧ nbit (s.get FLK_CTL.PORT_EN) p = true then s.set (FLK_PORT_STAT.LSTATE p) 1 else s)

/-- A DELAYREQ request leaves on port `p` (R47; body of log entry 98). -/
def State.requestDelay (s : State) (p : Nat) : State := s.emit (.ctl p (ctlBytes ctlDelayreq []))

/-- PORT_TRAINED. The port enters MEASURE and sends the first of its 16 requests (R47). -/
def execPortTrained (p : Nat) (s : State) : Host.Outcome State Fault Refusal :=
  runs (wfPortTrained p) s (fun s =>
    if s.portState p = 1 then
      ((s.set (FLK_PORT_STAT.LSTATE p) 2).modFp p (fun x => { x with trips := 0 })).requestDelay p
    else s)

/-- A request of port `p` is answered: in MEASURE that completes a round trip, and the next request follows until 16 have been
sent (R47; one request at a time, log entry 141). -/
def State.delayAnswered (s : State) (p : Nat) : State :=
  if s.portState p = 2 ∧ (s.fp p).trips < 16 then
    let s := s.modFp p (fun x => { x with trips := x.trips + 1 })
    s.when (decide ((s.fp p).trips < 16)) (fun s => s.requestDelay p)
  else s

/-- PORT_MEASURED. `trips` is the sum of the 16 round trips and `turn` the far end's turnaround, in steps (R47). -/
def execPortMeasured (p : Nat) (trips : Nat) (turn : Nat) (s : State) : Host.Outcome State Fault Refusal :=
  runs (wfPortMeasured p trips turn) s (fun s =>
    if s.portState p = 2 then
      (s.set (FLK_PORT_STAT.DELAY p) ((trips - 16 * turn) / 32)).set (FLK_PORT_STAT.LSTATE p) 3
    else s)

/-- PORT_DOWN. `miss` tick markers in a row are missing and `viol` code violations came within 1 µs; each violation counts
(R59). An UP port goes DOWN on four missing markers or on more than eight violations; any port where PORT_EN is 0 for it
(R47), or where `viol` is none: a supply of the PHY has left its range (R444). -/
def execPortDown (p : Nat) (miss : Nat) (viol : Option Nat) (s : State) : Host.Outcome State Fault Refusal :=
  runs (wfPortDown p miss viol) s (fun s =>
    let s := s.bumpBy (FLK_PORT_ERR.CODE p) (viol.getD 0)
    let off := !nbit (s.get FLK_CTL.PORT_EN) p || viol.isNone
    if (s.portUp p && (decide (4 ≤ miss) || decide (8 < viol.getD 0))) || (s.portState p != 0 && off) then s.portFall p
    else s)

/-- A control frame on port `p` that fails its check counts as a CRC failure (R59); one of another type than `ty`, a reserved
type among them, is discarded (R44); else its body acts. -/
def State.ctlRx (s : State) (p : Nat) (frame : Bytes) (ty : Nat) (act : Bytes → State) : State :=
  match ctlOfBytes frame with
  | none => s.bump (FLK_PORT_ERR.CODE p)
  | some c => if c.1 = ty then act c.2 else s

/-- DELAYREQ_RX. A request is answered with the reported turnaround of `turn` steps; an answer completes a round trip of this
port's own MEASURE (R47; body of log entry 98). -/
def execDelayreqRx (p : Nat) (frame : Bytes) (turn : Nat) (s : State) : Host.Outcome State Fault Refusal :=
  runs (wfDelayreqRx p frame turn) s (fun s =>
    if s.portState p < 2 then s
    else s.ctlRx p frame ctlDelayreq (fun b =>
      if nbit (nth b 0 0).toNat 0 then s.delayAnswered p else s.emit (.ctl p (ctlBytes ctlDelayreq (1 :: beBytes 2 turn)))))

/-- Some rail of the device is enabled (R51). -/
def State.anyEnabled (s : State) : Bool := (List.range 32).any s.enabled

/-- The phase error of the local grid, in steps, positive for late: a marker that arrives `lag` steps after a local
base-grid instant left the neighbour the port's measured delay before; whole base periods apart are no error (R51; log
entry 99). -/
def State.phaseErr (s : State) (p lag : Nat) : Int :=
  let e : Int := ((s.get (FLK_PORT_STAT.DELAY p) : Int) - (lag : Int)) % 3200
  if 1600 < e then e - 3200 else e

/-- TICK_MARKER_RX. A marker on the upstream port, `lag` steps after the local base-grid instant: the phase error, the
servo's correction of the base period and the lock state (R51). -/
def execTickMarkerRx (p : Nat) (lag : Nat) (s : State) : Host.Outcome State Fault Refusal :=
  runs (wfTickMarkerRx p lag) s (fun s =>
    if !s.portUp p || !s.isUpstream p then s
    else
      let err := s.phaseErr p lag
      let good := if absI err < 16 then min 64 (s.tbu.goodPeriods + 1) else 0
      let bad := if 64 < absI err then min 4 (s.tbu.badPeriods + 1) else 0
      let step : Int := if 0 < err then -1 else if err < 0 then 1 else 0
      let corr := if !s.anyEnabled && s.on TBU_CTL.STEP_EN then -err else step
      let s := s.seti TBU_PHERR.ERR err
      let s := { s with tbu := { s.tbu with goodPeriods := good, badPeriods := bad, corr := corr } }
      if bad = 4 then
        if s.on TBU_STAT.LOCK then (s.set TBU_STAT.LOCK 0).fire [hLockloss] else s
      else if good = 64 then s.set TBU_STAT.LOCK 1
      else s)

/-- ANNOUNCE_TIMER. -/
def execAnnounceTimer (s : State) : Host.Outcome State Fault Refusal := runs wfAnnounceTimer s (fun s => s.sendAnnounce)

/-- A good announcement on port `p`: it may show an ID conflict (R50), and the choice is made again. -/
def State.heard (s : State) (p : Nat) (a : Announce) : State :=
  let clash := (a.sender == s.ownId && a.uniq != s.ownUniq)
    || s.upPorts.any (fun q => q != p && (match (s.fp q).ann with
      | some b => b.sender == a.sender && b.uniq != a.uniq
      | none => false))
  let s := s.modFp p (fun x => { x with ann := some a })
  let s := if clash then
      let s := { s.set FLK_STAT.IDCONF 1 with
        flk := { s.flk with conflicts := if s.flk.conflicts.contains a.sender then s.flk.conflicts else a.sender :: s.flk.conflicts } }
      s.fire [hIdconf]
    else s
  s.choose

/-- ANNOUNCE_RX. -/
def execAnnounceRx (p : Nat) (frame : Bytes) (s : State) : Host.Outcome State Fault Refusal :=
  runs (wfAnnounceRx p frame) s (fun s =>
    if !s.portUp p then s else s.ctlRx p frame ctlAnnounce (fun b => s.heard p (announceOf b)))

/-- ANNOUNCE_TIMEOUT. A silent upstream port is treated as not announcing (R49). -/
def execAnnounceTimeout (p : Nat) (s : State) : Host.Outcome State Fault Refusal :=
  runs (wfAnnounceTimeout p) s (fun s =>
    if s.isUpstream p then (s.modFp p (fun x => { x with ann := none })).choose else s)

/-- TIME_FRAME_RX. A device that has just joined takes flock time from the first good TIME frame on its upstream port
(R47); the step of flock time may bring a Pause core to Doze (R337). -/
def execTimeFrameRx (p : Nat) (frame : Bytes) (s : State) : Host.Outcome State Fault Refusal :=
  runs (wfTimeFrameRx p frame) s (fun s =>
    if !s.portUp p then s
    else s.ctlRx p frame ctlTime (fun b =>
      if s.isUpstream p && s.tbu.needTime then
        State.judgeIdle { s with tbu := { s.tbu with fofs := BitVec.ofNat 64 (ofBe (bytesAt b 0 8)) - s.tbu.bgc, needTime := false } }
      else s))

/-- The bytes of a duty frame after its start symbol, without K29.7 (R44). -/
def DutyFrame.bytes (f : DutyFrame) : Bytes :=
  let body := [BitVec.ofNat 8 f.span, BitVec.ofNat 8 (128 * b2n f.g + 32 * f.h + 16 * b2n f.q), BitVec.ofNat 8 f.tick]
    ++ beBytes 3 f.duty
  body ++ [BitVec.ofNat 8 (crcFlock body)]

/-- The duty frame that bytes carry, none where the length or the check fails (R44). -/
def dutyOfBytes (bs : Bytes) : Option DutyFrame :=
  if bs.length = 7 ∧ crcFlock (bs.take 6) = (nth bs 6 0).toNat then
    let fl := (nth bs 1 0).toNat
    some ⟨(nth bs 0 0).toNat, nbit fl 7, fl / 32 % 4, nbit fl 4, (nth bs 2 0).toNat, ofBe (bytesAt bs 3 3)⟩
  else none

/-- A duty frame sent on every port of a mask that is UP (R53). -/
def State.sendDuty (s : State) (mask : Nat) (f : DutyFrame) : State :=
  s.each (s.upPorts.filter (nbit mask)) (fun s p => s.emit (.duty p f.bytes))

/-- The duty frames a lead sends for rail `r` with on-time `d`, from every live lead entry that names it (R53, R55). -/
def State.leadFrames (s : State) (r d : Nat) : State :=
  let q := !(s.enabled r) || s.quenched r
  s.each ((List.range 6).filter (fun n => s.spanLive n && !s.on (FLK_SPAN.ROLE n) && s.get (FLK_SPAN.RAIL n) == r)) (fun s n =>
    s.sendDuty (s.get (FLK_SPAN.OUT_MASK n))
      ⟨s.get (FLK_SPAN.SPAN_ID n), s.graze, 1, q, s.tbu.tbc.toNat % 256, if q then 0 else d⟩)

/-- The follower entry that a frame of span `id` on port `p` is for. -/
def State.followerEntry (s : State) (p id : Nat) : Option Nat :=
  ((List.range 6).filter (fun n => s.spanLive n && s.on (FLK_SPAN.ROLE n) && s.get (FLK_SPAN.IN_PORT n) == p
    && s.get (FLK_SPAN.SPAN_ID n) == id)).head?

/-- DUTY_FRAME_RX. A good frame of a live follower entry awaits its application instant; one that fails its check is not
applied and not sent on (R53). -/
def execDutyFrameRx (p : Nat) (frame : Bytes) (s : State) : Host.Outcome State Fault Refusal :=
  runs (wfDutyFrameRx p frame) s (fun s =>
    if !s.portUp p then s
    else match dutyOfBytes frame with
      | none => s.bump (FLK_PORT_ERR.CODE p)
      | some f => match s.followerEntry p f.span with
        | some n => s.modFs n (fun x => { x with rx := some f })
        | none => s)

/-- DUTY_APPLY. The frame received for entry `n` acts at its application instant, `ofs` steps after the last base-grid
instant, and goes on with h one higher (R53, R55, R63, R192). -/
def execDutyApply (n : Nat) (ofs : Nat) (s : State) : Host.Outcome State Fault Refusal :=
  runs (wfDutyApply n ofs) s (fun s =>
    match (s.fs n).rx with
    | none => s
    | some f =>
      let s := s.modFs n (fun x => { x with rx := none, missing := 0, lastG := some f.g })
      if !s.spanLive n then s
      else
        let r := s.get (FLK_SPAN.RAIL n)
        let s := if f.q then s.followerMid r
          else if (s.rl r).toTon then s
          else
            let s := s.modRl r (fun x => { x with goodFrame := true })
            if s.enabled r && s.follower r then
              s.commitRail r (min f.duty (s.railPer r)) (s.tbu.now + ofs)
            else s
        if f.h < 3 then s.sendDuty (s.get (FLK_SPAN.OUT_MASK n)) { f with h := f.h + 1 } else s)

/-- DUTY_FRAME_TIMEOUT. An expected frame is missing or bad: the word in force stays and DUTY counts; the fourth in a row
is span loss (R54). -/
def execDutyFrameTimeout (n : Nat) (s : State) : Host.Outcome State Fault Refusal :=
  runs (wfDutyFrameTimeout n) s (fun s =>
    if s.spanLive n && s.on (FLK_SPAN.ROLE n) && (s.fs n).lastG.isSome then
      let m := (s.fs n).missing + 1
      let s := (s.bump (FLK_PORT_ERR.DUTY (s.get (FLK_SPAN.IN_PORT n)))).modFs n (fun x => { x with missing := m, rx := none })
      if 4 ≤ m then s.spanLost n else s
    else s)

/-- SPANLOSS_RX. A lead continues lead-only; a follower on the way hands the frame on towards the lead (R54). -/
def execSpanlossRx (p : Nat) (frame : Bytes) (s : State) : Host.Outcome State Fault Refusal :=
  runs (wfSpanlossRx p frame) s (fun s =>
    if !s.portUp p then s
    else s.ctlRx p frame ctlSpanloss (fun b =>
      let id := (nth b 0 0).toNat
      s.each ((List.range 6).filter (fun n => s.spanLive n && s.get (FLK_SPAN.SPAN_ID n) == id
        && nbit (s.get (FLK_SPAN.OUT_MASK n)) p)) (fun s n =>
        if s.on (FLK_SPAN.ROLE n) then s.sendSpanloss (s.get (FLK_SPAN.IN_PORT n)) id else s.spanLost n)))

/-- REJOIN of entry `n` (R54): no effect where LOST is 0. -/
def State.rejoin (s : State) (n : Nat) : State :=
  if s.on (FLK_SPAN.LOST n) then
    (s.set (FLK_SPAN.LOST n) 0).modFs n (fun x => { x with missing := 0, lastG := none, rx := none })
  else s

/-- REJOIN. -/
def execRejoin (w : Who) (n : Nat) (s : State) : Host.Outcome State Fault Refusal :=
  runs (wfRejoin w n) s (fun s => s.asWrite w (FLK_SPAN n) (s.rd (FLK_SPAN n) ||| 0x2000) (fun s => s.rejoin n))

/-- The 76 bytes of a message frame after its start symbol (R44). -/
def MsgFrame.bytes (f : MsgFrame) : Bytes :=
  let body := beBytes 2 f.dest ++ beBytes 2 f.src
    ++ [BitVec.ofNat 8 f.queue, BitVec.ofNat 8 f.seq, BitVec.ofNat 8 f.hopLimit, 0] ++ bytesAt f.payload 0 64
  body ++ beBytes 4 (crc32c body)

/-- The message frame that bytes carry, none where the length or the check fails (R44). -/
def msgOfBytes (bs : Bytes) : Option MsgFrame :=
  if bs.length = 76 ∧ crc32c (bs.take 72) = ofBe (bytesAt bs 72 4) then
    some ⟨ofBe (bytesAt bs 0 2), ofBe (bytesAt bs 2 2), (nth bs 4 0).toNat, (nth bs 5 0).toNat, (nth bs 6 0).toNat, bytesAt bs 8 64⟩
  else none

/-- The port learned for an ID, where it is still a tree port (R57). -/
def State.routeOf (s : State) (id : Nat) : Option Nat :=
  ((s.flk.routes.filter (fun e => e.1 == id)).head?.map (·.2)).filter s.treePort

/-- The first message frame of a port is sent, where there is one and the port is UP (R56). -/
def State.sendHead (s : State) (p : Nat) : State :=
  match (s.fp p).unacked with
  | (f, _) :: _ => if s.portUp p then s.emit (.msg p f.bytes) else s
  | [] => s

/-- A message frame joins the frames of a port; it is sent once every earlier one is acknowledged or dropped, so that frames
keep their order (R56; log entry 100). -/
def State.sendOn (s : State) (p : Nat) (f : MsgFrame) : State :=
  let idle := (s.fp p).unacked.isEmpty
  let s := s.modFp p (fun x => { x with unacked := x.unacked ++ [(f, 0)] })
  if idle then s.sendHead p else s

/-- The first message frame of a port leaves it, and the next one is sent (R56). -/
def State.nextMsg (s : State) (p : Nat) : State := (s.modFp p (fun x => { x with unacked := x.unacked.drop 1 })).sendHead p

/-- A frame goes out by the route table: on the learned port, else on every tree port but the one it came on (R57). -/
def State.routeFrame (s : State) (f : MsgFrame) (from_ : Option Nat) : State :=
  let known := if nbit f.queue 7 then none else s.routeOf f.dest
  match known with
  | some p => s.sendOn p f
  | none => s.each ((List.range 3).filter (fun p => s.treePort p && from_ != some p)) (fun s p => s.sendOn p f)

/-- A message is dropped and counted (R56, R57). -/
def State.msgDrop (s : State) : State := s.bump FLK_MSG_DROP.COUNT

/-- The frame is addressed to an ID in conflict, to which the flock delivers no message (R50); a broadcast is not. -/
def State.clashes (s : State) (f : MsgFrame) : Bool := s.flk.conflicts.contains f.dest && !nbit f.queue 7

/-- The entries of the transmit ring from HEAD to TAIL are sent, `k` at most (R56). A message goes to the tree ports only, also
one for the device itself or a broadcast (log entry 101); one sequence counter serves every destination (log entry 102).
A message to an ID in conflict is dropped and counted as a received one is (R50). -/
def State.drainTx (s : State) : Nat → State
  | 0 => s
  | k + 1 =>
    let n := 2 ^ s.get FLK_TX_SIZE.ENTRIES_LOG2
    let h := s.get FLK_TX_HEAD.IDX % n
    if h = s.get FLK_TX_TAIL.IDX % n then s
    else
      let r := s.engineWords (s.get FLK_TX_BASE.ADDR * 128 + 128 * h) 18
      let bs := r.1
      let s := r.2
      let f : MsgFrame := ⟨ofBe (bytesAt bs 0 2), s.ownId, (nth bs 4 0).toNat, s.flk.seq, (nth bs 6 0).toNat, bytesAt bs 8 64⟩
      let s := { s with flk := { s.flk with seq := (s.flk.seq + 1) % 256 } }
      let s := if s.clashes f then s.msgDrop else s.routeFrame f none
      (s.set FLK_TX_HEAD.IDX ((h + 1) % n)).drainTx k

/-- The transmit ring is served where MSG_EN allows it (R56, R59). -/
def State.serveTx (s : State) : State := if s.on FLK_CTL.MSG_EN then s.drainTx 4096 else s

/-- MESSAGE_QUEUE. -/
def execMessageQueue (w : Who) (tail : Nat) (s : State) : Host.Outcome State Fault Refusal :=
  runs (wfMessageQueue w tail) s (fun s =>
    s.asWrite w FLK_TX_TAIL (BitVec.ofNat 32 tail) (fun s => (s.set FLK_TX_TAIL.IDX tail).serveTx))

/-- The receive ring has no free entry (R57). -/
def State.rxFull (s : State) : Bool :=
  let n := 2 ^ s.get FLK_RX_SIZE.ENTRIES_LOG2
  (s.get FLK_RX_HEAD.IDX + 1) % n == s.get FLK_RX_TAIL.IDX % n

/-- A frame's header and payload are written to the receive ring, 72 bytes without the CRC (log entry 103), and FLK_MSG fires
(R57). -/
def State.deliverMsg (s : State) (f : MsgFrame) : State :=
  let n := 2 ^ s.get FLK_RX_SIZE.ENTRIES_LOG2
  let h := s.get FLK_RX_HEAD.IDX % n
  ((s.engineWrite (s.get FLK_RX_BASE.ADDR * 128 + 128 * h) (f.bytes.take 72)).set FLK_RX_HEAD.IDX ((h + 1) % n)).fire [hFlkMsg]

/-- MESSAGE_RX. The frame is checked, routed, acknowledged, delivered and sent on (R50, R56, R57); one that is dropped teaches no
route (log entry 104). -/
def execMessageRx (p : Nat) (frame : Bytes) (s : State) : Host.Outcome State Fault Refusal :=
  runs (wfMessageRx p frame) s (fun s =>
    if !s.portUp p then s
    else match msgOfBytes frame with
      | none => s.bump (FLK_PORT_ERR.CODE p)
      | some f =>
        if !s.treePort p then s.msgDrop
        else
          let bcast := nbit f.queue 7
          let here := f.dest == s.ownId || bcast
          if here && (!s.on FLK_CTL.MSG_EN || s.rxFull) then s.msgDrop
          else
            let s := { s with flk := { s.flk with routes := spIns s.flk.routes f.src p } }
            let s := s.emit (.ack p f.seq f.src)
            let clash := s.clashes f
            let s := if here && !clash then s.deliverMsg f else if clash then s.msgDrop else s
            if clash || (here && !bcast) then s
            else if f.hopLimit ≤ 1 then s.msgDrop
            else s.routeFrame { f with hopLimit := f.hopLimit - 1 } (some p))

/-- ACK_RX. The frame that waits for this acknowledge is done, and the port's next one is sent (R56). -/
def execAckRx (p : Nat) (seq : Nat) (src : Nat) (s : State) : Host.Outcome State Fault Refusal :=
  runs (wfAckRx p seq src) s (fun s =>
    match (s.fp p).unacked with
    | (f, _) :: _ => if f.seq = seq ∧ f.src = src then s.nextMsg p else s
    | [] => s)

/-- ACK_TIMEOUT. The frame without an acknowledge goes out again, up to 3 times; then it is dropped and counted, and the
port's next one is sent (R56). -/
def execAckTimeout (p : Nat) (s : State) : Host.Outcome State Fault Refusal :=
  runs (wfAckTimeout p) s (fun s =>
    match (s.fp p).unacked with
    | [] => s
    | (f, k) :: rest =>
      if k < 3 then (s.modFp p (fun x => { x with unacked := (f, k + 1) :: rest })).sendHead p
      else (s.nextMsg p).msgDrop)

/-- The span check: code and entry (R46, R59, R464). -/
def State.flkCheck (s : State) : Option (Nat × Nat) :=
  let en (n : Nat) := s.on (FLK_SPAN.EN n)
  let foll (n : Nat) := s.on (FLK_SPAN.ROLE n)
  let out (n : Nat) := s.get (FLK_SPAN.OUT_MASK n)
  let far (p : Nat) := decide (128 < s.get (FLK_PORT_STAT.DELAY p))
  firstOf [
    firstFail 6 1 (fun n => en n && (List.range 6).any (fun m => m != n && en m && (out n &&& out m) != 0)),
    firstFail 6 2 (fun n => en n && ((List.range 3).any (fun p => nbit (out n) p && far p)
      || (foll n && decide (s.get (FLK_SPAN.IN_PORT n) < 3) && far (s.get (FLK_SPAN.IN_PORT n))))),
    firstFail 6 3 (fun n => en n && foll n && s.get (FLK_SPAN.HOP n) == 0),
    firstFail 6 4 (fun n => en n && (decide (s.get PHA_CAP.NRAIL ≤ s.get (FLK_SPAN.RAIL n))
      || (foll n && s.get (FLK_SPAN.IN_PORT n) == 3))) ]

/-- A write of 1 to FLK_COMMIT.LOCK (R59). -/
def State.flkLock (s : State) : State :=
  match s.flkCheck with
  | none => (s.set FLK_COMMIT.RESULT 0).set FLK_COMMIT.LOCK 1
  | some (c, _) => s.set FLK_COMMIT.RESULT c

/-- FLK_COMMIT_LOCK. -/
def execFlkCommitLock (w : Who) (s : State) : Host.Outcome State Fault Refusal :=
  runs (wfFlkCommitLock w) s (fun s => s.asWrite w FLK_COMMIT 1 State.flkLock)

/-- Writes of FLK registers with rules of their own (R47, R48, R54, R56, R59). -/
def State.flkWrite (s : State) (a : Nat) (v : Word) : State :=
  if a = FLK_CTL then
    let s := s.plainWrite a v
    let s := s.each ((List.range 3).filter (fun p => s.portState p != 0 && !nbit (s.get FLK_CTL.PORT_EN) p)) State.portFall
    s.choose.serveTx
  else if a = FLK_DEV_ID then if s.get FLK_CTL.PORT_EN = 0 then (s.plainWrite a v).choose else s
  else if a = FLK_TX_TAIL then (s.plainWrite a v).serveTx
  else if inFam a (FLK_SPAN 0) 6 4 then
    let s := s.plainWrite a v
    if wbit v 13 then s.rejoin (famIdx a (FLK_SPAN 0) 4) else s
  else s.plainWrite a v

end Sys2Proof.Machine
end

