-- ==== Sys2Proof/Machine/Timebase.lean ====
section
/-! DEFINITION. The timebase: clocks, the base grid, the counters and the compare units (R36 to R43, R58). -/

namespace Sys2Proof.Machine

/-- PLL_LOCK. PLL `k` locks: 0 engine, 1 core, 2 Flock (R36, R58). At the engine PLL's lock every TFLT line counts as absent
(R62). -/
def execPllLock (k : Nat) (s : State) : Host.Outcome State Fault Refusal :=
  runs (wfPllLock k) s (fun s =>
    if k = 0 then
      if s.on TBU_STAT.ENG_PLL_LOCK then s
      else (s.set TBU_STAT.ENG_PLL_LOCK 1).each (List.range 144) (fun s n => s.set (PHA_CH_STAT.PRESENT n) 0)
    else if k = 1 then s.set TBU_STAT.CORE_PLL_LOCK 1
    else s.set TBU_STAT.FLOCK_PLL_LOCK 1)

/-- XIN_LOSS. Holdover begins, XLOSS sets, TBU_XLOSS fires, and the device announces priority 0xFF for itself (R37, R48). -/
def execXinLoss (s : State) : Host.Outcome State Fault Refusal :=
  runs wfXinLoss s (fun s =>
    if s.on TBU_STAT.HOLDOVER then s
    else (((s.set TBU_STAT.HOLDOVER 1).set TBU_STAT.XLOSS 1).fire [hXloss]).choose)

/-- XIN_RETURN. Holdover ends (R37). -/
def execXinReturn (s : State) : Host.Outcome State Fault Refusal :=
  runs wfXinReturn s (fun s => if s.on TBU_STAT.HOLDOVER then (s.set TBU_STAT.HOLDOVER 0).choose else s)

/-- BASE_GRID_INSTANT. The base-grid count advances, the servo's correction is spent, tick markers go out and masters that
await the grid may start (R39, R45, R51, R67). -/
def execBaseGridInstant (s : State) : Host.Outcome State Fault Refusal :=
  runs wfBaseGridInstant s (fun s =>
    if !s.on TBU_STAT.ENG_PLL_LOCK then s
    else
      let t0 := s.tbu.now
      let s := { s with evf := { s.evf with cmps := [] }, tbu := { s.tbu with
        now := s.tbu.now + ((3200 : Int) + s.tbu.corr).toNat
        corr := 0
        bgc := s.tbu.bgc + 1 } }
      let s := s.each s.upPorts (fun s p => s.emit (.marker p))
      (s.each (List.range 32) (fun s r => s.masterBoundary r t0 s.tbu.now)).gridMasters)

/-- MODE_SWITCH. A captured mode change takes effect at a tick boundary that flock time allows (R40), not in Hold (R407); PMU_STAT follows
between Run and Graze (R404, R406). -/
def execModeSwitch (s : State) : Host.Outcome State Fault Refusal :=
  runs wfModeSwitch s (fun s =>
    match s.tbu.modeCap with
    | none => s
    | some g =>
      let ok := if g then s.flockTime % 4 == 0 else s.tbu.windowOpen && s.flockTime % 4 == 0
      if !ok || s.mode == modeHold then s
      else
        let s := { s.setb TBU_STAT.MODE g with tbu := { s.tbu with modeCap := none } }
        if s.mode = modeRun ∨ s.mode = modeGraze then s.set PMU_STAT.MODE (if g then modeGraze else modeRun) else s)

/-- A mode request or a captured change is pending (R40). -/
def State.modePend (s : State) : Bool := s.get TBU_CTL.MODE_REQ != s.get TBU_STAT.MODE || s.tbu.modeCap.isSome

/-- Flock time has reached the value of compare unit `n` (R43). -/
def State.cmpReached (s : State) (n : Nat) : Bool :=
  decide (s.get (TBU_CMP_HI.VALUE n) * 2 ^ 32 + s.get (TBU_CMP_LO.VALUE n) ≤ s.flockTime)

/-- TBU_COMPARE. An enabled unit whose value flock time has reached fires and clears its EN bit (R43); units that fire between
two base-grid instants fire in one instant (R202, R205). The next known event of every idle core may have changed (R337). -/
def execTbuCompare (n : Nat) (s : State) : Host.Outcome State Fault Refusal :=
  runs (wfTbuCompare n) s (fun s =>
    if s.bit TBU_CMP_CTL n && s.cmpReached n then ((s.setBit TBU_CMP_CTL n false).fireCmp n).judgeIdle else s)

/-- The engine cycles of a tick: 50 in Run, 200 in Graze (R20, R26). -/
def State.tickCycles (s : State) : Nat := if s.graze then 200 else 50

/-- A 64-bit count's low and high words. -/
def loWord (v : BitVec 64) : Word := BitVec.ofNat 32 v.toNat

/-- The high word. -/
def hiWord (v : BitVec 64) : Word := BitVec.ofNat 32 (v.toNat / 2 ^ 32)

/-- A read of TBU_TBC_LO in sub-tick cycle `sub` (R42). -/
def State.readTbc (s : State) (sub : Nat) : Word × State :=
  (loWord s.tbu.tbc, (s.wr TBU_TBC_HI_SNAP (hiWord s.tbu.tbc)).set TBU_SUB_SNAP.SUB sub)

/-- A read of TBU_BGC_LO (R42). -/
def State.readBgc (s : State) : Word × State :=
  (loWord s.tbu.bgc, ((s.wr TBU_BGC_HI_SNAP (hiWord s.tbu.bgc)).wr TBU_FOFS_LO_SNAP (loWord s.tbu.fofs)).wr
    TBU_FOFS_HI_SNAP (hiWord s.tbu.fofs))

/-- TBC_READ. The sub-tick count at the read is below the cycles of a tick: 50 in Run, 200 in Graze (R20). -/
def execTbcRead (w : Who) (sub : Nat) (s : State) : Host.Outcome State Fault Refusal :=
  runs (wfTbcRead w sub && decide (sub < s.tickCycles)) s (fun s => s.asRead w TBU_TBC_LO (fun s => s.readTbc sub))

/-- BGC_READ. -/
def execBgcRead (w : Who) (s : State) : Host.Outcome State Fault Refusal :=
  runs (wfBgcRead w) s (fun s => s.asRead w TBU_BGC_LO State.readBgc)

end Sys2Proof.Machine
end

