-- ==== Sys2Proof/Machine/Sensing.lean ====
section
/-! DEFINITION. The sense front end: sample words, Tally checks, conversions, the capture fill path and background calibration (R89 to R113). -/

namespace Sys2Proof.Machine

/-- TALLY of a word of channel `c` with VALUE `v` in tick `n` (R91). -/
def tally (n c v : Nat) : Nat :=
  crc8 0x2F 0xFF [BitVec.ofNat 8 n, BitVec.ofNat 8 (c / 256), BitVec.ofNat 8 c, BitVec.ofNat 8 (v / 256), BitVec.ofNat 8 v]

/-- The sample word of channel `c` with VALUE `v` in tick `n` (R90). -/
def sampleWord (n c v : Nat) : Word := BitVec.ofNat 32 (v % 65536 * 65536 + tally n c v * 256 + c % 256)

/-- A word passes its Tally check as channel `c` in tick `n` (R92). -/
def tallyOk (n c : Nat) (w : Word) : Bool := getBits w 15 8 == tally n c (getBits w 31 16) && getBits w 7 0 == c % 256

/-- The entry of a keyed list, if there is one. -/
def lookup {α : Type} (l : List (Nat × α)) (k : Nat) : Option α := (l.filter (fun e => e.1 == k)).head?.map (·.2)

/-- Chop-corrected current codes, oldest first, direct before inverted, each within the converter's range (R94, R95). -/
def chopCodes (graze : Bool) (codes : List Int) : List Int :=
  (List.range (if graze then 8 else 2)).map (fun i =>
    clampI (-1024) 3071 (if i % 2 = 0 then nth codes i 0 else - nth codes i 0))

/-- VALUE of a current channel from its corrected codes (R95). -/
def curValue (graze : Bool) (cs : List Int) : Nat :=
  let t := cs.foldl (· + ·) 0
  wrapN 16 (if graze then floorDiv (t + 2) 4 else t)

/-- How many window sub-samples a tick has (R98). -/
def subSamples (graze : Bool) : Nat := if graze then 32 else 8

/-- The window centres in force at instant `i`, from their updates, newest first (R97); before any update they are 0. -/
def centresAt (l : List (Nat × List Nat)) (i : Nat) : List Nat := ((l.find? (fun e => decide (e.1 ≤ i))).map (·.2)).getD []

/-- The window centre of rail `r` under which sub-sample `j` of this tick, 6.25 ns · j before T0, was converted (R97, R98). -/
def State.centreFor (s : State) (r j : Nat) : Nat := nth (centresAt s.sns.centres (s.tbu.now - 400 * j)) r 0

/-- K of rail `r` in this tick (R98). -/
def State.subK (s : State) (r : Nat) : Nat := min (2 ^ s.getT (SNS_VS_CFG.SUBK r)) (subSamples s.graze)

/-- VALUE of a window result from the K most recent codes of rail `r` (R98, R99). -/
def State.winValue (s : State) (r : Nat) (ws : List Int) : Nat :=
  let k := s.subK r
  let sum := (List.range k).foldl (fun a j =>
    a + nth ws j 0 + (s.centreFor r j : Int)) 0
  let s16 := 16 * sum - (if k = 1 then s.geti (SNS_VS_OFSEST.OFS r) else 0)
  (clampI 0 65535 (floorDiv (2 * s16 * 8192 + 160000 * (k : Int)) (320000 * (k : Int)))).toNat

/-- A tick channel's last word, wherever it is kept (R113). -/
def lastReg (c : Nat) : Nat :=
  if c < 144 then SNS_CS_LAST c else if c < 176 then SNS_VS_LAST (c - 144) else SNS_VIN_LAST (c - 176)

/-- VALUE of rail `r` in this tick, and its mode afterwards (R100). The codes of the row are those after the back end has negated
the inverted sub-samples (log entry 26). -/
def State.railValue (s : State) (r : Nat) (ws : List Int) (f : Nat) : Nat × State :=
  let k := s.subK r
  let atEnd := (List.range k).any (fun j => decide (nth ws j 0 ≤ -2048) || decide (2047 ≤ nth ws j 0))
  let full := 16 * (f % 4096)
  let ret (s : State) (n : Nat) : State := { s with sns := { s.sns with retCnt := modNth s.sns.retCnt r (fun _ => n) } }
  if s.onT (SNS_VS_CFG.FORCE_FR r) then (full, ret (s.set (SNS_VS_STAT.FR r) 1) 0)
  else if !s.on (SNS_VS_STAT.FR r) then
    if atEnd then
      (full, ret (((s.set (SNS_VS_STAT.FR r) 1).bump (SNS_VS_STAT.FRCNT r)).set (SNS_VS_STAT.SAT r) 1 |>.fire [hVsfr]) 0)
    else (s.winValue r ws, s)
  else
    let n := if atEnd then 0 else nth s.sns.retCnt r 0 + 1
    if s.getT (SNS_VS_CFG.RET r) ≤ n then (s.winValue r ws, ret (s.set (SNS_VS_STAT.FR r) 0) 0)
    else (full, ret s n)

/-- The word of channel `c` as it is received in tick `n`: the armed injection inverts TALLY bit 0 (R93), and bits may have
been inverted on the way (R21). -/
def State.received (s : State) (t : TickIn) (n c v : Nat) : Word × State :=
  let inj := s.on SNS_TINJ.ARM && s.get SNS_TINJ.CH == c
  let w := sampleWord n c v ^^^ (if inj then 0x100 else 0) ^^^ ((lookup t.hit c).getD 0)
  (w, s.when inj (fun s => s.set SNS_TINJ.ARM 0))

/-- A received word is checked: one that fails keeps the channel's last good value and is flagged and counted (R21, R93). -/
def State.takeWord (s : State) (n c : Nat) (w : Word) : State :=
  let s := s.wr (lastReg c) w
  if tallyOk n c w then
    { s with sns := { s.sns with good := modNth s.sns.good c (fun _ => BitVec.ofNat 16 (getBits w 31 16)) } }
  else (s.setBit (SNS_TERR_SUM (c / 32)) (c % 32) true).bump SNS_TERR_CNT.COUNT

/-- SAMPLE, CONVERT AND CHECK every tick channel of the tick whose TBC has just been taken (R89 to R101). -/
def State.sample (s : State) (t : TickIn) : State :=
  let n := s.tbu.tbc.toNat % 256
  let g := s.graze
  let r := (List.range 184).foldl (fun (a : Bool × State) c =>
    let s := a.2
    let (v, s) :=
      if c < 144 then
        let cs := chopCodes g ((lookup t.cur c).getD [])
        (curValue g cs, s.when (cs.any (fun x => x == -1024 || x == 3071)) (fun s => s.set (SNS_CS_OFSEST.CLIP c) 1))
      else if c < 176 then
        let e := (lookup t.vs (c - 144)).getD ([], 0)
        s.railValue (c - 144) e.1 e.2
      else (if s.on (SNS_VIN_CFG.EN (c - 176)) then 16 * ((lookup t.vin (c - 176)).getD 0 % 4096) else 0, s)
    let (w, s) := s.received t n c v
    (a.1 || !tallyOk n c w, s.takeWord n c w)) (false, s)
  r.2.when r.1 (fun s => s.fire [hTerr])

/-- Current of phase `n` in Q16.16 A, after the Tally rule (R96). -/
def State.amps (s : State) (n : Nat) : Int :=
  floorDiv (sext 16 (nth s.sns.good n 0).toNat * (s.get (SNS_CS_GEFF.GEFF n) : Int)) 4096 - s.geti (SNS_CS_ZEFF.ZEFF n)

/-- Pin voltage of rail `r` in Q8.24 V (R99). -/
def State.pinVolts (s : State) (r : Nat) : Nat := (nth s.sns.good (144 + r) 0).toNat * 640

/-- VALUE of input channel `c`. -/
def State.vinValue (s : State) (c : Nat) : Nat := (nth s.sns.good (176 + c) 0).toNat

/-- Voltage of input channel `c` in Q8.24 V (R101). -/
def State.inVolts (s : State) (c : Nat) : Nat := s.vinValue c * 640 * s.getT (SNS_VIN_RATIO.RATIO c) / 2 ^ 24

/-- Current of input channel `c` in Q16.16 A (R101). -/
def State.inAmps (s : State) (c : Nat) : Nat := s.vinValue c * s.getT (SNS_VIN_RATIO.RATIO c) / 256

/-- Where capture SRAM begins (R233). -/
def capBase : Nat := 0x18000000

/-- The number of frames (R104). -/
def capFrames : Nat := 11397

/-- The frame of tick TTRIG + POST has been written (R366). -/
def State.capFull (s : State) : Bool := s.get HIF_CAP_STAT.STATE == 2 && decide (s.hif.capEnd ≤ s.sns.capTbc.toNat)

/-- The fill path may write: not frozen, and not past the last frame a trigger allows (R104, R366). -/
def State.filling (s : State) : Bool := !s.on SNS_CAP_STAT.FROZEN && !s.capFull

/-- The runs of frames that the newest `n` frames of the buffer lie in. -/
def segPrune : Nat → List (Nat × Nat × Nat × Nat) → List (Nat × Nat × Nat × Nat)
  | _, [] => []
  | room, (f, t, g, n) :: r =>
    if room = 0 then []
    else if n ≤ room then (f, t, g, n) :: segPrune (room - n) r
    else [((f + (n - room)) % capFrames, t + (n - room), g, room)]

/-- Frame `f` of tick `t` joins the runs: the newest run where it continues it, else a new one. -/
def segAdd (l : List (Nat × Nat × Nat × Nat)) (f t g : Nat) : List (Nat × Nat × Nat × Nat) :=
  segPrune capFrames (match l with
    | (f0, t0, g0, n) :: r => if t0 + n = t ∧ g0 = g then (f0, t0, g0, n + 1) :: r else (f, t, g, 1) :: l
    | [] => [(f, t, g, 1)])

/-- The 184 words of the tick go to the next capture frame (R104). -/
def State.captureFill (s : State) : State :=
  if !s.filling then s
  else
    let f := s.sns.frame
    let bad := whichN 184 (fun c => !tallyOk (s.tbu.tbc.toNat % 256) c (s.rd (lastReg c)))
    let s := s.each (List.range 184) (fun s c =>
      s.writeFar (capBase + 736 * f + 4 * c) (leBytes 4 (s.rd (lastReg c)).toNat))
    let s := { s.set SNS_CAP_STAT.LAST f with
      sns := { s.sns with
        frame := (f + 1) % capFrames
        capTbc := s.tbu.tbc
        terr := bad.map (184 * f + ·) ++ s.sns.terr.filter (fun k => k / 184 != f)
        segs := segAdd s.sns.segs f s.tbu.tbc.toNat (b2n s.graze + 4 * b2n s.dip) } }
    s

/-- The window centre of rail `r` for a value in Q8.24 V at the pin (R97). -/
def centreOf (v : Int) : Nat := (clampI 0 80000 (floorDiv (v * 64000 + 16777216) 33554432)).toNat

/-- The centres are updated at T0 + 44 (R97). -/
def State.setCentres (s : State) (f : Nat → Int) : State :=
  { s with sns := { s.sns with
    centres := ((s.tbu.now + 44 * 64, (List.range 32).map (fun r => centreOf (f r))) :: s.sns.centres).take 5 } }

/-- The edges of phase `n` around its samples: of the period in progress, of the one before, and the start of the next where
that is an edge (R71, R111). -/
def State.edgesNear (s : State) (n : Nat) : List Nat :=
  let p := s.ph n
  let both (i : Option (Nat × Nat)) := match i with
    | some (u, f) => [u, f]
    | none => []
  both p.past ++ both p.carried ++ p.rise.toList ++ p.fall.toList
    ++ (if s.get (PHA_RAIL_CFG.MOD (s.railOf n)) = 0 then p.next.toList else [])

/-- What the pair of samples at T0 − 25 ns and at T0, instant `b`, of phase `n` counts as: 1 an on-slope, 2 an off-slope, 0
nothing (R111): both instants lie in one interval of the phase, 10 ns from every edge, no force, overshoot action or
overcurrent latch has acted in the tick, and the modulator moves the pin: no condition of rank 1 or 2 of R73 holds it, and the
phase's first carrier period has started by the first sample (R69). -/
def State.slopeKind (s : State) (n b : Nat) : Nat :=
  let p := s.ph n
  let a := b - 1600
  let clear := (s.edgesNear n).all (fun e => decide (e + 640 ≤ a) || decide (b + 640 ≤ e))
  let inPast := match p.past with
    | some (u, f) => decide (u ≤ a) && decide (a < f)
    | none => false
  if s.graze || !s.switching n || p.word.isNone || p.acted || p.forced || p.ocLatch || s.on (BLW_BW_STAT.OVACT (s.railOf n))
      || s.midHeld n || !(p.since.any (fun u => decide (u ≤ a))) || !clear then 0
  else if p.modHigh a || inPast then 1 else 2

/-- The histories of the phases at a T0, before its changes, `el` steps after the T0 before: how long each has been at rest and
PARKED (R108, R109), and what its pair of samples counts as (R111). A force, an overshoot action or a latch in progress acts
in the tick that begins. The tick of a pair sampled at T0 − 25 ns and T0 is taken to be the interval from the T0 before up to the
pair's T0 (log entry 146). -/
def State.histories (s : State) (el : Nat) : State :=
  let up (top : Nat) (l : List Nat) (ok : Nat → Bool) := (List.range 144).map (fun n => if ok n then min top (nth l n 0 + el) else 0)
  let slope := (List.range 144).map (fun n => s.slopeKind n s.tbu.now)
  let s := { s with sns := { s.sns with
    rest := up 12800 s.sns.rest (fun n => !s.switching n && (s.ph n).counted == 0)
    parked := up 6400000 s.sns.parked (fun n => s.phState n == phParked)
    slope := slope } }
  s.each (List.range 144) (fun s n =>
    let held := s.on (BLW_BW_STAT.OVACT (s.railOf n))
    s.modPh n (fun p => { p with acted := p.forced || p.ocLatch || held }))

/-- Every pair of the tick's samples was taken while phase `n` was outside ACTIVE and BLEND (R95, R108). -/
def State.atRest (s : State) (n : Nat) : Bool := decide ((if s.graze then 11200 else 1600) ≤ nth s.sns.rest n 0)

/-- Rail voltage of rail `r` in Q8.24 V, from its pin voltage and SCALE (R99, R169). -/
def State.railVolts (s : State) (r : Nat) : Nat := s.pinVolts r * 2 ^ 24 / max 1 (s.get (RLC_RAIL_SCALE.SCALE r))

/-- The input domain in force of phase `n` (R106, R113). -/
def State.domain (s : State) (n : Nat) : Nat := nth s.sns.domOf n 0

/-- The pair of this tick of phase `n`, with corrected codes `cs`, joins the slopes of inductance estimation, 4,096 of each kind
at most (R111). -/
def State.addSlope (s : State) (n : Nat) (cs : List Int) (o : SlopeSums) : SlopeSums :=
  let k := nth s.sns.slope n 0
  let i (c : Int) := floorDiv (2 * c * (s.get (SNS_CS_GEFF.GEFF n) : Int)) 4096
  let d := i (nth cs 1 0) - i (nth cs 0 0)
  if k = 0 ∨ (k = 1 ∧ 4096 ≤ o.nOn) ∨ (k = 2 ∧ 4096 ≤ o.nOff) then o
  else
    let o := { o with
      vIn := o.vIn + (s.inVolts (s.get (SNS_DOM_CFG.VINV (s.domain n))) : Int)
      vOut := o.vOut + (s.railVolts (s.railOf n) : Int)
      cur := o.cur + s.amps n }
    if k = 1 then { o with nOn := o.nOn + 1, sOn := o.sOn + d } else { o with nOff := o.nOff + 1, sOff := o.sOff + d }

/-- On-time of phase `n` for domain gain: D_k as the limiter leaves it (R64, R110; log entry 116). -/
def State.limitedDuty (s : State) (n : Nat) : Nat :=
  match (s.ph n).committed with
  | some d => (s.limit n (if (s.ph n).start.isSome then (s.ph n).len else (s.ph n).per) d).1
  | none => 0

/-- One channel's offset sums with the pairs of a tick added, 65,536 at most (R108). -/
def addPairs (o : Int × Nat) : List Int → Int × Nat
  | a :: b :: cs => addPairs (if o.2 < 65536 then (o.1 + (a - b), o.2 + 1) else o) cs
  | _ => o

/-- THE ESTIMATION ENGINES over one tick (R108 to R111), with the codes of the tick; the window offset is learnt from the
window codes themselves, without the centres (log entry 127). Where an enable is cleared, the sums of a domain and those of R111
restart, and offset sums stay (log entry 150). -/
def State.estimate (s : State) (t : TickIn) : State :=
  let g := s.graze
  let on := s.on SNS_CTL.CAL_EN
  let learn (n : Nat) := on && s.on SNS_CTL.AUTO && s.on (SNS_CS_CFG.ZLEARN n)
  let ofs := (List.range 144).map (fun n =>
    let o := nth s.sns.ofs n (0, 0)
    if on && s.atRest n then addPairs o (chopCodes g ((lookup t.cur n).getD [])) else o)
  let vofs := (List.range 32).map (fun r =>
    let o := nth s.sns.vofs r (0, 0)
    if on && decide (o.2 < 65536) then
      let ws := ((lookup t.vs r).getD ([], 0)).1
      let d := (List.range (subSamples g)).foldl (fun a j => if j % 2 = 0 then a + nth ws j 0 else a - nth ws j 0) 0
      (o.1 + d * (if g then 1 else 4), o.2 + 1)
    else o)
  let zl := (List.range 144).map (fun n =>
    let o := nth s.sns.zlearn n (0, 0)
    if !learn n then (0, 0)
    else if decide (6400000 ≤ nth s.sns.parked n 0) && decide (o.2 < 4096) then
      (o.1 + floorDiv (sext 16 (nth s.sns.good n 0).toNat * (s.get (SNS_CS_GEFF.GEFF n) : Int)) 4096, o.2 + 1)
    else o)
  let dom := (List.range 8).map (fun d =>
    let o := nth s.sns.dom d (0, 0, 0, false)
    if !(on && s.on (SNS_DOM_CFG.EN d)) then (0, 0, 0, false)
    else if 2 ^ s.get (SNS_DOM_CFG.AVGLOG2 d) ≤ o.2.2.1 then o
    else
      let c := s.get (SNS_DOM_CFG.IIN d)
      let bad := !s.on (SNS_VIN_CFG.EN c) || !s.onT (SNS_VIN_CFG.MODE c)
      let est := (whichN 144 (fun n => s.switching n && s.domain n == d)).foldl (fun a n =>
        a + floorDiv ((s.limitedDuty n : Int) * s.amps n) ((max 1 (s.railPer (s.railOf n)) : Nat) : Int)) 0
      (o.1 + est, o.2.1 + (s.inAmps c : Int), o.2.2.1 + 1, o.2.2.2 || bad))
  let lr := (List.range 144).map (fun n =>
    if on && s.on (SNS_CS_CFG.LRE n) then s.addSlope n (chopCodes g ((lookup t.cur n).getD [])) (nth s.sns.lr n {}) else {})
  { s with sns := { s.sns with ofs := ofs, vofs := vofs, zlearn := zl, dom := dom, lr := lr } }

/-- The calibration-fault flag and event (R108, R110). -/
def State.calFault (s : State) : State := (s.set SNS_STAT.CALFLT 1).fire [hCalflt]

/-- OFFSET_ESTIMATE. Channel `k`: a current converter below 144, the window converter of rail k − 144 from there. Once
65,536 pairs or ticks are gathered the estimate is written, in 1/16 code (R108). -/
def execOffsetEstimate (k : Nat) (s : State) : Host.Outcome State Fault Refusal :=
  runs (wfOffsetEstimate k) s (fun s =>
    if k < 144 then
      let o := nth s.sns.ofs k (0, 0)
      if o.2 < 65536 then s
      else
        let e := roundDiv (8 * o.1) 65536
        let x := s.fitS 16 e
        let s := { x.2.set (SNS_CS_OFSEST.OFS k) x.1 with sns := { x.2.sns with ofs := modNth x.2.sns.ofs k (fun _ => (0, 0)) } }
        s.when (decide (256 < absI e)) State.calFault
    else
      let r := k - 144
      let o := nth s.sns.vofs r (0, 0)
      if o.2 < 65536 then s
      else
        let e := roundDiv o.1 65536
        let x := s.fitS 16 e
        let s := { x.2.set (SNS_VS_OFSEST.OFS r) x.1 with sns := { x.2.sns with vofs := modNth x.2.sns.vofs r (fun _ => (0, 0)) } }
        s.when (decide (256 < absI e)) State.calFault)

/-- ZOFS_LEARN. The mean over 4,096 qualifying ticks is written to ZOFS and the sum starts again (R109). -/
def execZofsLearn (n : Nat) (s : State) : Host.Outcome State Fault Refusal :=
  runs (wfZofsLearn n) s (fun s =>
    let o := nth s.sns.zlearn n (0, 0)
    if o.2 < 4096 then s
    else
      let x := s.fitS 32 (floorDiv o.1 4096)
      let s := x.2.set (SNS_CS_ZOFS.ZOFS n) x.1
      { s with sns := { s.sns with zlearn := modNth s.sns.zlearn n (fun _ => (0, 0)) } })

/-- DOMAIN_GAIN_WINDOW. The window of domain `d` ends: the estimate is written, taken as the target, or refused (R110). -/
def execDomainGainWindow (d : Nat) (s : State) : Host.Outcome State Fault Refusal :=
  runs (wfDomainGainWindow d) s (fun s =>
    let o := nth s.sns.dom d (0, 0, 0, false)
    let ticks := o.2.2.1
    if ticks < 2 ^ s.get (SNS_DOM_CFG.AVGLOG2 d) ∨ s.on (SNS_DOM_CFG.EN d) = false then s
    else
      let s := { s with sns := { s.sns with dom := modNth s.sns.dom d (fun _ => (0, 0, 0, false)) } }
      if o.2.2.2 ∨ absI o.1 < ticks * 65536 then s
      else
        let dg := s.get (SNS_DOM_GEFF.GEFF d)
        let num : Int := (dg : Int) * (1000 * o.2.1 - ((s.get (SNS_DOM_CFG.IQ d) * 65536 * ticks : Nat) : Int)) * 65536
        let den : Int := 1000 * ((65536 + s.get (SNS_DOM_LOSS.LOSS d) : Nat) : Int) * o.1
        let e := floorDiv num den
        let x := s.fitU 32 e
        let s := x.2.set (SNS_DOM_EST.EST d) x.1
        if (1000 * absI (e - (dg : Int)) : Nat) ≤ s.get (SNS_DOM_LOSS.GLIM d) * dg then
          s.when (s.on SNS_CTL.AUTO) (fun s => s.set (SNS_DOM_GTGT.GTGT d) x.1)
        else s.calFault)

/-- LR_ESTIMATE. 4,096 on-slopes and 4,096 off-slopes are gathered: inductance in 0.1 nH and resistance in µΩ from their
averages; a set below 2 A is discarded (R111). -/
def execLrEstimate (n : Nat) (s : State) : Host.Outcome State Fault Refusal :=
  runs (wfLrEstimate n) s (fun s =>
    let q := nth s.sns.lr n {}
    if q.nOn < 4096 ∨ q.nOff < 4096 then s
    else
      let s := { s with sns := { s.sns with lr := modNth s.sns.lr n (fun _ => {}) } }
      let dl := q.sOn - q.sOff
      if absI q.cur < 131072 * 8192 then s
      else
        let x := if dl = 0 then (s.freeVal.toNat % 65536, s.drawn) else s.fitU 16 (floorDiv (250 * q.vIn) (512 * dl))
        let y := if dl = 0 then (x.2.freeVal.toNat % 65536, x.2.drawn)
          else x.2.fitU 16 (floorDiv (1000000 * (-(q.vIn * q.sOff) - q.vOut * dl)) (dl * 256 * q.cur))
        (y.2.set (SNS_CS_LEST.L_EST n) x.1).set (SNS_CS_LEST.R_EST n) y.1)

/-- A value one step towards its target (R106). -/
def stepTo (v t m : Int) : Int := v + clampI (-m) m (t - v)

/-- The gain target of phase `n` (R107). -/
def State.gainTarget (s : State) (n : Nat) : Nat × State :=
  let g : Int := (s.get (SNS_CS_GAIN.GAIN n) * s.get (SNS_DOM_GEFF.GEFF (s.domain n)) : Nat)
  match nth s.sns.tflt n none with
  | none => s.fitU 32 (floorDiv g (2 ^ 30))
  | some t => s.fitU 32 (floorDiv (g * (128000000 + s.geti (SNS_CS_CFG.TC n) * (t - 3200))) (2 ^ 30 * 128000000))

/-- The gain targets of the 144 phases, ascending, and the state after them. -/
def State.gainTargets (s : State) : List Nat × State :=
  (List.range 144).foldl (fun (a : List Nat × State) n => (a.1 ++ [(a.2.gainTarget n).1], (a.2.gainTarget n).2)) ([], s)

/-- One step of a gain `v` towards `t`: at most v/10,000, and 1 at least (R106). -/
def gainStep (v t : Nat) : Nat := (stepTo v t ((max (v / 10000) 1 : Nat) : Int)).toNat

/-- One update of the effective gain and offset of phase `n` with gain target `t`; a phase in OFF takes the targets (R106). -/
def State.calPhase (s : State) (n t : Nat) : State :=
  let off := s.phState n == phOff
  let z := s.geti (SNS_CS_ZEFF.ZEFF n)
  let zt := s.geti (SNS_CS_ZOFS.ZOFS n)
  (s.set (SNS_CS_GEFF.GEFF n) (if off then t else gainStep (s.get (SNS_CS_GEFF.GEFF n)) t)).seti
    (SNS_CS_ZEFF.ZEFF n) (if off then zt else stepTo z zt 1024)

/-- One update of the effective gain of domain `d`; a domain of which no phase switches takes the target (R106). -/
def State.calDomain (s : State) (d : Nat) : State :=
  let idle := !(List.range 144).any (fun n => s.switching n && s.domain n == d)
  let t := s.get (SNS_DOM_GTGT.GTGT d)
  s.set (SNS_DOM_GEFF.GEFF d) (if idle then t else gainStep (s.get (SNS_DOM_GEFF.GEFF d)) t)

/-- CAL_UPDATE. At an update instant DOM takes effect, and every effective value steps towards its target, or takes it where
nothing switches (R106, R107, R113). -/
def execCalUpdate (s : State) : Host.Outcome State Fault Refusal :=
  runs wfCalUpdate s (fun s =>
    if s.flockTime % 2000 ≠ 0 ∨ s.on SNS_CTL.FREEZE = true ∨ s.mode = modeHold ∨ s.dip = true then s
    else
      let s := { s with sns := { s.sns with domOf := (List.range 144).map (fun n => s.get (SNS_CS_CFG.DOM n)) } }
      let tg := s.gainTargets
      (tg.2.each (List.range 144) (fun s n => s.calPhase n (nth tg.1 n 0))).each (List.range 8) State.calDomain)

/-- The status of a TFLT conversion: 1 below 0.1 V, 2 above 2.5 V, of 3.3 V / 4,096 a code (R62, R102, R103). -/
def tfltStatus (code : Int) : Nat :=
  if code * 33 < 4096 then 1 else if 25 * 4096 < code * 33 then 2 else 0

/-- A temperature result is written (R102, R103): for a valid one the value that the reading `raw` gives, rounded down (log
entry 115): a 12-bit code over 3.3 V of a TFLT line, Q9.7 °C of a die sensor, Q9.7 K at ideality 1 of a remote diode, with
status `st` of the diode: 1 open, 2 shorted. -/
def State.tempResult (s : State) (k : Nat) (raw : Int) (st : Nat) : State :=
  let st := if k < 144 then tfltStatus raw else if 153 ≤ k ∧ s.on (SNS_TDIO_CFG.EN (k - 153)) = false then 3 else st
  let s := s.set (SNS_TEMP.STATUS k) st
  if st = 0 then
    if k < 144 then
      let g := k / 16
      let t : Int := 3200 + floorDiv (128 * (raw * 3300000 - ((409600 * s.get (SNS_TFLT_CFG.V0 g) : Nat) : Int)))
        ((4096 * s.get (SNS_TFLT_CFG.SLOPE g) : Nat) : Int)
      let x := s.fitS 16 t
      let s := x.2.set (SNS_TEMP.VALUE k) x.1
      { s with sns := { s.sns with tflt := modNth s.sns.tflt k (fun _ => some (sext 16 x.1)) } }
    else if k < 153 then
      let x := s.fitS 16 raw
      x.2.set (SNS_TEMP.VALUE k) x.1
    else
      let i := s.get (SNS_TDIO_CFG.IDEAL (k - 153))
      let x := if i = 0 then (s.freeVal.toNat % 65536, s.drawn)
        else s.fitS 16 (floorDiv (raw * 81920 - 174816 * (i : Int)) (5 * (i : Int)))
      x.2.set (SNS_TEMP.VALUE k) x.1
  else if st = 3 then s.set (SNS_TEMP.VALUE k) 0
  else s

/-- TALLY_INJECT. SNS_TINJ is armed for channel `c` (R93). -/
def execTallyInject (w : Who) (c : Nat) (s : State) : Host.Outcome State Fault Refusal :=
  runs (wfTallyInject w c) s (fun s =>
    let v := BitVec.ofNat 32 (2 ^ 31 + c)
    s.asWrite w SNS_TINJ v (fun s => s.plainWrite SNS_TINJ v))

/-- A read of SNS_CAP_STAT latches the tick of frame LAST (R105); after a reset of kind K the registers keep 0 until such a read
(log entry 149). -/
def State.readCapStat (s : State) : Word × State :=
  (s.rd SNS_CAP_STAT, (s.wr SNS_CAP_TBC_LO (loWord s.sns.capTbc)).wr SNS_CAP_TBC_HI (hiWord s.sns.capTbc))

/-- CAP_STAT_READ. -/
def execCapStatRead (w : Who) (s : State) : Host.Outcome State Fault Refusal :=
  runs (wfCapStatRead w) s (fun s => s.asRead w SNS_CAP_STAT State.readCapStat)

/-- Writes of SNS registers with rules of their own (R109, R113). -/
def State.snsWrite (s : State) (a : Nat) (v : Word) : State :=
  if inFam a (SNS_CS_ZOFS 0) 144 0x20 && s.on SNS_CTL.AUTO && s.on (SNS_CS_CFG.ZLEARN (famIdx a (SNS_CS_ZOFS 0) 0x20)) then
    s.set SNS_STAT.WIGN 1
  else if inFam a (SNS_DOM_GTGT 0) 8 0x20 && s.on SNS_CTL.AUTO then s.set SNS_STAT.WIGN 1
  else
    let s := s.plainWrite a v
    { s with sns := { s.sns with zlearn := (List.range 144).map (fun n =>
        if s.on SNS_CTL.CAL_EN && s.on SNS_CTL.AUTO && s.on (SNS_CS_CFG.ZLEARN n) then nth s.sns.zlearn n (0, 0) else (0, 0)) } }

end Sys2Proof.Machine
end

