-- ==== Sys2Proof/Machine/Anvil.lean ====
section
/-! DEFINITION. Anvil: terms, sections, lanes, chains, state loads, coefficient banks and the swap (R114 to R142). -/

namespace Sys2Proof.Machine

/-- A result wrapped to 32 bits (R116). -/
def wrap32 (x : Int) : Int := sext 32 (wrapN 32 x)

/-- The exact value lies outside 32 bits (R130). -/
def wraps (x : Int) : Bool := decide (x < -2147483648) || decide (2147483647 < x)

/-- A term (R116): the exact product, shifted right by 31 − e towards minus infinity. -/
def term (c : Int) (e : Nat) (x : Int) : Int := floorDiv (x * c) ((2 ^ (31 - e % 32) : Nat) : Int)

/-- One section's coefficients and shifts (R117, R126). -/
structure Section where
  b0 : Int
  b1 : Int
  b2 : Int
  a1 : Int
  a2 : Int
  sh : Word

/-- The section's output before it wraps. -/
def Section.out (c : Section) (x s1 : Int) : Int := term c.b0 (getBits c.sh 4 0) x + s1

/-- The next states of a section before they wrap, from its input, wrapped output and s2 (R117). -/
def Section.next (c : Section) (x y s2 : Int) : Int × Int :=
  (term c.b1 (getBits c.sh 9 5) x + term c.a1 (getBits c.sh 19 15) y + s2,
   term c.b2 (getBits c.sh 14 10) x + term c.a2 (getBits c.sh 24 20) y)

/-- The key of bank word `w` of lane `l` (R126). -/
def bankKey (l b w : Nat) : Nat := 128 * l + 64 * b + w

/-- The bank lane `l` reads (R126). -/
def State.activeBank (s : State) (l : Nat) : Nat := s.get (ANV_LN_STAT.BANK l)

/-- Flipped stored bits of a bank word. -/
def State.bankFlips (s : State) (k : Nat) : BitVec 40 := spGet (fun _ => 0) s.anv.flips k

/-- The 32 data bits of a bank word as stored. -/
def State.bankWord (s : State) (k : Nat) : Word :=
  spGet (fun _ => 0) s.anv.words k ^^^ BitVec.ofNat 32 (s.bankFlips k).toNat

/-- A bank word written with its parity and check bits (R126). -/
def State.setBankWord (s : State) (k : Nat) (v : Word) : State :=
  { s with anv := { s.anv with words := spSet (fun _ => 0) s.anv.words k v, flips := spDel s.anv.flips k } }

/-- Parity shows a fault in the word: an odd number of its data and parity bits have flipped (R126). -/
def parityBad (f : BitVec 40) : Bool :=
  countN 40 (fun i => nbit f.toNat i && (decide (i < 32) || i == 39)) % 2 == 1

/-- Some stored bit has flipped: the checker's finding (R126, R128). -/
def checkBad (f : BitVec 40) : Bool := f != 0

/-- The fault can be corrected: exactly one stored bit has flipped (R126). -/
def correctable (f : BitVec 40) : Bool := countN 40 (fun i => nbit f.toNat i) == 1

/-- Active bank word `w` of lane `l` as the lane reads it. -/
def State.coef (s : State) (l w : Nat) : Word := s.bankWord (bankKey l (s.activeBank l) w)

/-- Section `i` of lane `l` from its active bank (R126). -/
def State.section (s : State) (l i : Nat) : Section :=
  ⟨sword (s.coef l (6 * i)), sword (s.coef l (6 * i + 1)), sword (s.coef l (6 * i + 2)), sword (s.coef l (6 * i + 3)),
   sword (s.coef l (6 * i + 4)), s.coef l (6 * i + 5)⟩

/-- Lane `l` is enabled (R114). -/
def State.laneEn (s : State) (l : Nat) : Bool := s.on (ANV_LN_CFG.EN l)

/-- The lane's source (R121). -/
def State.laneSrc (s : State) (l : Nat) : Nat := s.get (ANV_LN_CFG.SRC l)

/-- The section count S of lane `l` (R119). -/
def State.nsec (s : State) (l : Nat) : Nat := s.get (ANV_LN_CFG.NSEC_M1 l) + 1

/-- The lane whose UP names lane `l` in a chain. -/
def State.downstream (s : State) (l : Nat) : Option Nat :=
  (whichN 34 (fun d => s.laneEn d && s.laneSrc d == 1 && s.get (ANV_LN_CFG.UP d) == l)).head?

/-- The tail of the chain of lane `l`, `k` steps at most. -/
def State.tailOf (s : State) : Nat → Nat → Nat
  | 0, l => l
  | k + 1, l => match s.downstream l with
    | some d => s.tailOf k d
    | none => l

/-- The lanes from lane `l` up to the head of its chain, `k` at most. -/
def State.upFrom (s : State) : Nat → Nat → List Nat
  | 0, _ => []
  | k + 1, l => if s.laneSrc l = 1 then l :: s.upFrom k (s.get (ANV_LN_CFG.UP l)) else [l]

/-- The rail bound to lane `l` (R134). -/
def State.boundRail (s : State) (l : Nat) : Option Nat :=
  (whichN 32 (fun r => s.on (ANV_RAIL_LANE.EN r) && s.get (ANV_RAIL_LANE.LANE r) == l)).head?

/-- The rail that the chain of lane `l` ends at, if any (R115). -/
def State.chainRail (s : State) (l : Nat) : Option Nat := s.boundRail (s.tailOf 34 l)

/-- The lanes of the chain bound to rail `r`, tail first; none where it is not bound. -/
def State.chainOf (s : State) (r : Nat) : List Nat :=
  if s.on (ANV_RAIL_LANE.EN r) then s.upFrom 34 (s.get (ANV_RAIL_LANE.LANE r)) else []

/-- The chain's total section count (R19, R124). -/
def State.chainTotal (s : State) (r : Nat) : Nat := ((s.chainOf r).map s.nsec).foldl (· + ·) 0

/-- When the phases of rail `r` commit, in ns after T0 (R18, R124, R134). -/
def State.commitNs (s : State) (r : Nat) : Nat := if s.on (ANV_RAIL_LANE.EN r) then 24 + 2 * s.chainTotal r else 40

/-- Lane `l` computes in this tick (R115). -/
def State.laneComputes (s : State) (l : Nat) : Bool :=
  s.laneEn l && (s.laneSrc l == 2 || (match s.chainRail l with
    | some r => s.enabled r && !s.quenched r
    | none => true))

/-- The lane roles whose consumer inputs and trigger fields act on lane `m` (R137): those of the lanes it serves, else its own. Where
a role has come back to the lane that had it first, only the inputs of the lane it came back from act (log entry 148). -/
def State.roles (s : State) (m : Nat) : List Nat :=
  let served := whichN 34 (fun k => k != m && s.get (ANV_LN_STAT.ALIAS k) == m)
  if !served.isEmpty then served else if s.get (ANV_LN_STAT.ALIAS m) == m then [m] else []

/-- Consumer numbers of ANV_SLOAD_l and ANV_PLEAN_l (R200). -/
def kSload (l : Nat) : Nat := 32 + l
/-- ANV_PLEAN_l. -/
def kPlean (l : Nat) : Nat := 66 + l

/-- A pending input of one of the lane's roles. -/
def State.roleIn (s : State) (k : Nat → Nat) (m : Nat) : Bool := (s.roles m).any (fun l => s.on (EVF_CON.PEND (k l)))

/-- The lane takes the pending events of its roles. -/
def State.takeRole (s : State) (k : Nat → Nat) (m : Nat) : State := s.each (s.roles m) (fun s l => s.takeEvent (k l))

/-- Pre-lean counters are loaded at T0 + 16 (R123): the counter holds one more than the ticks left. -/
def State.preleanLoad (s : State) : State :=
  s.each (List.range 34) (fun s l =>
    if s.roleIn kPlean l then
      let d := s.getT (ANV_LN_PLDUR.PLDUR l)
      (s.takeRole kPlean l).modLn l (fun x => { x with pl := if d = 0 then 0 else d + 1 })
    else s)

/-- Pre-lean counters decrement at T0 + 40 (R123). -/
def State.preleanCount (s : State) : State :=
  s.each (List.range 34) (fun s l => s.modLn l (fun x => { x with pl := if 1 < x.pl then x.pl - 1 else x.pl }))

/-- The words lane `l` reads in a tick (R136). -/
def State.wordsRead (s : State) (l : Nat) : List Nat :=
  List.range (6 * s.nsec l) ++ [49] ++ (if s.onT (ANV_LN_FE.FFEN l) then [48, 51] else [])
    ++ (if s.laneSrc l = 1 then [50] else [])

/-- The words lane `l` reads whose parity fails. -/
def State.faultyRead (s : State) (l : Nat) : List Nat :=
  (s.wordsRead l).filter (fun w => parityBad (s.bankFlips (bankKey l (s.activeBank l) w)))

/-- What the front ends of a tick receive (R120): rail currents, references, load-line drops and speeds. -/
structure FrontIn where
  iRail : Nat → Int
  ref : Nat → Int
  ll : Nat → Int
  spd : Nat → Int

/-- A pending state load replaces the selected state words; whether a loaded state wrapped (R131, R132). -/
def State.stateLoad (s : State) (f : FrontIn) (l : Nat) : Bool × State :=
  if !(s.ln l).load && !s.roleIn kSload l then (false, s)
  else
    let i := if s.laneSrc l = 2 then 0 else f.iRail (s.get (ANV_LN_CFG.RAIL l))
    let y := wrap32 (sword (s.rdT (ANV_LN_PBASE l)) + floorDiv (i * sword (s.rdT (ANV_LN_PSLOPE l))) (2 ^ 32))
    let v (k : Nat) := floorDiv (y * sword (s.rdT (ANV_LN_PM l k))) (2 ^ 24)
    let on (k : Nat) := nbit (s.getT (ANV_LN_SLMASK.MASK l)) k
    let s := (s.takeRole kSload l).modLn l (fun x => { x with
      load := false
      st := (List.range 16).map (fun k => if on k then wordOf (v k) else nth x.st k 0) })
    ((List.range 16).any (fun k => on k && wraps (v k)), s)

/-- The sections of a lane, in order, from input `x`: the last output, the staged states of the sections that ran, and the
first section that wrapped (R117, R119, R130). -/
def State.runSections (s : State) (l : Nat) : Nat → Nat → Int → Int × List (BitVec 32) × Option Nat
  | 0, _, x => (x, [], none)
  | k + 1, i, x =>
    let c := s.section l i
    let st := (s.ln l).st
    let ye := c.out x (sword (nth st (2 * i) 0))
    let y := wrap32 ye
    let n := c.next x y (sword (nth st (2 * i + 1) 0))
    let r := s.runSections l k (i + 1) y
    (r.1, wordOf n.1 :: wordOf n.2 :: r.2.1,
      if wraps ye || wraps n.1 || wraps n.2 then some (i + 1) else r.2.2)

/-- One lane's results in a tick: output, staged states, first wrap location (R121, R122, R130). -/
structure LaneOut where
  y : Int
  st : List (BitVec 32)
  wrap : Option Nat

/-- LANE COMPUTE: the front end and the sections of lane `l`, with the output of its upstream lane (R117 to R125). -/
def State.laneCompute (s : State) (f : FrontIn) (l : Nat) (up : Int) : LaneOut :=
  let r := s.get (ANV_LN_CFG.RAIL l)
  let src := s.laneSrc l
  let sh := s.coef l 49
  let vs := s.getT (ANV_LN_FE.VINSEL l)
  let vin : Int := if s.onT (SNS_VIN_CFG.MODE vs) then (s.inAmps vs : Int) else (s.inVolts vs : Int)
  let ff := if s.onT (ANV_LN_FE.FFEN l) then term (sword (s.coef l 48)) (getBits sh 4 0) (wrap32 (vin - sword (s.coef l 51))) else 0
  let fx := if s.onT (ANV_LN_FE.FFPOINT l) then 0 else ff
  let fo := if s.onT (ANV_LN_FE.FFPOINT l) then ff else 0
  let p : Int := if (s.ln l).pl ≠ 0 then sword (s.rdT (ANV_LN_PLOFS l)) else 0
  let d : Int :=
    if src = 0 then f.ref r - f.ll r - (s.pinVolts r : Int) + p
    else if src = 1 then up - term (sword (s.coef l 50)) (getBits sh 9 5) (wrap32 (f.iRail r))
    else sword (s.rdT (ANV_LN_SETPT l)) - f.spd (s.get (ANV_LN_CFG.MFUCH l))
  let xe := d * ((2 ^ s.get (ANV_LN_CFG.ESHIFT l) : Nat) : Int) + fx
  let o := s.runSections l (s.nsec l) 0 (wrap32 xe)
  let ye := o.1 + fo
  ⟨wrap32 ye, o.2.1, if wraps xe then some 0 else match o.2.2 with
    | some k => some k
    | none => if wraps ye then some 9 else none⟩

/-- How many lanes lie upstream of lane `l`, `k` at most. -/
def State.depth (s : State) : Nat → Nat → Nat
  | 0, _ => 0
  | k + 1, l => if s.laneSrc l = 1 then s.depth k (s.get (ANV_LN_CFG.UP l)) + 1 else 0

/-- The lanes that compute in this tick, upstream lanes first. -/
def State.laneOrder (s : State) : List Nat :=
  let ls := whichN 34 s.laneComputes
  (List.range 35).flatMap (fun d => ls.filter (fun l => s.depth 34 l == d))

/-- Lane `l` wraps at a location (R130): WRAP is sticky, WRAPLOC keeps the first; its producer fires, and those of the lanes
whose role it serves (R137, R141). -/
def State.markWrap (s : State) (l loc : Nat) : State :=
  let s := if s.on (ANV_LN_STAT.WRAP l) then s else (s.set (ANV_LN_STAT.WRAPLOC l) loc).set (ANV_LN_STAT.WRAP l) 1
  s.fire ((whichN 34 (fun k => k == l || s.get (ANV_LN_STAT.ALIAS k) == l)).map hWrap)

/-- THE LANES OF ONE TICK up to T0 + 40 (R114 to R137): state loads, front ends and sections; a parity fault holds the
states and output of its whole chain. Answers the faulted lanes, ascending, and the lanes that wrapped, the faulted ones and
those of a chain that a fault holds among them (log entry 34), for T0 + 40. -/
def State.anvilTick (s : State) (f : FrontIn) : List Nat × List (Nat × Nat) × State :=
  let ls := s.laneOrder
  let loads := ls.foldl (fun (a : List Nat × State) l =>
    let r := a.2.stateLoad f l
    (if r.1 then a.1 ++ [l] else a.1, r.2)) ([], s)
  let s := loads.2
  let s := { s with anv := { s.anv with lanes := s.anv.lanes.map (fun (x : Lane) => { x with old := x.st }) } }
  let bad := whichN 34 (fun l => ls.contains l && !(s.faultyRead l).isEmpty)
  let tails := bad.map (s.tailOf 34)
  let outs := ls.foldl (fun (a : List (Nat × LaneOut)) l =>
    let u := s.get (ANV_LN_CFG.UP l)
    let up := match lookup a u with
      | some o => o.y
      | none => sword (s.ln u).y
    a ++ [(l, s.laneCompute f l up)]) []
  let ok := outs.filter (fun o => !tails.contains (s.tailOf 34 o.1))
  let s := s.each ok (fun s o => s.modLn o.1 (fun x => { x with
    y := wordOf o.2.y
    st := o.2.st ++ x.st.drop o.2.st.length }))
  let ws := outs.filterMap (fun o => if loads.1.contains o.1 then some (o.1, 0) else o.2.wrap.map (fun w => (o.1, w)))
  (bad, ws, s)

/-- Snapshots requested are taken at T0 + 40 (R142): of a lane whose chain a parity fault holds, what the tick before has left
(log entry 129). -/
def State.takeSnapshots (s : State) : State :=
  s.each (List.range 34) (fun s l =>
    if s.on (ANV_LN_SNAP.REQ l) then
      let s := s.wr (ANV_LN_OUT l) (s.ln l).y
      let s := s.each (List.range 16) (fun s k => s.wr (ANV_LN_ST l k) (nth (s.ln l).st k 0))
      ((s.set (ANV_LN_SNAP.TBC8 l) (s.tbu.tbc.toNat % 256)).set (ANV_LN_SNAP.RDY l) 1).set (ANV_LN_SNAP.REQ l) 0
    else s)

/-- SWAP CAPTURE at the window opening (R127, R128). -/
def State.captureSwaps (s : State) : State :=
  s.each (List.range 34) (fun s l =>
    if !s.on (ANV_LN_STAT.SWPEND l) then s
    else
      let ld := s.on (ANV_LN_STAT.SWPLD l)
      let s := (s.set (ANV_LN_STAT.SWPEND l) 0).set (ANV_LN_STAT.SWPLD l) 0
      if s.on (ANV_LN_STAT.SHPAR l) then (s.set (ANV_LN_STAT.SWAPERR l) 1).fire [hShpar]
      else s.modLn l (fun x => { x with cap := some ld }))

/-- A shadow word of lane `l` is stored; SHPAR clears (R127, R128). -/
def State.storeShadow (s : State) (l w : Nat) (v : Word) : State :=
  (s.setBankWord (bankKey l (1 - s.activeBank l) w) v).set (ANV_LN_STAT.SHPAR l) 0

/-- BANK EXCHANGE at a tick boundary (R28, R127): captured swaps exchange the banks, then held writes land in the new
shadow banks. -/
def State.exchangeBanks (s : State) : State :=
  let s := s.each (List.range 34) (fun s l =>
    match (s.ln l).cap with
    | none => s
    | some ld =>
      (s.set (ANV_LN_STAT.BANK l) (1 - s.activeBank l)).modLn l (fun x => { x with cap := none, load := x.load || ld }))
  let h := s.anv.held
  let s := { s with anv := { s.anv with held := [] } }
  s.each h (fun s e => s.storeShadow e.1 e.2.1 e.2.2)

/-- A write of shadow word `k` of lane `l` (R28, R127). -/
def State.shadowWrite (s : State) (l k : Nat) (v : Word) : State :=
  if (s.ln l).cap.isSome then { s with anv := { s.anv with held := s.anv.held ++ [(l, k, v)] } } else s.storeShadow l k v

/-- SHADOW_WRITE. -/
def execShadowWrite (w : Who) (l : Nat) (k : Nat) (v : Word) (s : State) : Host.Outcome State Fault Refusal :=
  runs (wfShadowWrite w l k v) s (fun s => s.asWrite w (ANV_SH l k) v (fun s => s.shadowWrite l k v))

/-- A write of ANV_LN_SWAP (R10, R127). -/
def State.swapCommand (s : State) (v : Word) : State :=
  let all := wbit v 31
  let lane := getBits v 5 0
  if !all && decide (34 ≤ lane) then s.set ANV_STAT.WIGN 1
  else
    let ls := if all then whichN 34 s.laneEn else [lane]
    s.each ls (fun s l =>
      if wbit v 30 then (s.set (ANV_LN_STAT.SWPEND l) 0).set (ANV_LN_STAT.SWPLD l) 0
      else (s.set (ANV_LN_STAT.SWPEND l) 1).when (wbit v 29) (fun s => s.set (ANV_LN_STAT.SWPLD l) 1))

/-- The word of ANV_LN_SWAP for a command. -/
def swapWord (all cancel ld : Bool) (l : Nat) : Word :=
  BitVec.ofNat 32 (2 ^ 31 * b2n all + 2 ^ 30 * b2n cancel + 2 ^ 29 * b2n ld + l)

/-- SWAP_REQUEST. -/
def execSwapRequest (w : Who) (l : Nat) (ld : Bool) (s : State) : Host.Outcome State Fault Refusal :=
  runs (wfSwapRequest w l ld) s (fun s =>
    s.asWrite w ANV_LN_SWAP (swapWord false false ld l) (fun s => s.swapCommand (swapWord false false ld l)))

/-- SWAP_ALLBOUND. -/
def execSwapAllbound (w : Who) (ld : Bool) (s : State) : Host.Outcome State Fault Refusal :=
  runs (wfSwapAllbound w ld) s (fun s =>
    s.asWrite w ANV_LN_SWAP (swapWord true false ld 0) (fun s => s.swapCommand (swapWord true false ld 0)))

/-- SWAP_CANCEL. -/
def execSwapCancel (w : Who) (l : Nat) (all : Bool) (s : State) : Host.Outcome State Fault Refusal :=
  runs (wfSwapCancel w l all) s (fun s =>
    s.asWrite w ANV_LN_SWAP (swapWord all true false l) (fun s => s.swapCommand (swapWord all true false l)))

/-- PLEAN_EVENT. An event reaches ANV_PLEAN_l (R123). -/
def execPleanEvent (l : Nat) (ch : Nat) (s : State) : Host.Outcome State Fault Refusal :=
  runs (wfPleanEvent l ch) s (fun s => s.consumerEvent (kPlean l) ch)

/-- SLOAD_EVENT. An event reaches ANV_SLOAD_l (R132). -/
def execSloadEvent (l : Nat) (ch : Nat) (s : State) : Host.Outcome State Fault Refusal :=
  runs (wfSloadEvent l ch) s (fun s => s.consumerEvent (kSload l) ch)

/-- PRELEAN_END. The counter has run its ticks: the offset stops (R123). -/
def execPreleanEnd (l : Nat) (s : State) : Host.Outcome State Fault Refusal :=
  runs (wfPreleanEnd l) s (fun s => if (s.ln l).pl = 1 then s.modLn l (fun x => { x with pl := 0 }) else s)

/-- A write of ANV_LN_TRIG_l acts as events from software (R123, R132, R206). -/
def State.trigWrite (s : State) (l : Nat) (v : Word) : State :=
  (s.when (wbit v 0) (fun s => s.consumerEvent (kSload l) 512)).when (wbit v 1) (fun s => s.consumerEvent (kPlean l) 512)

/-- TRIG_PLEAN. -/
def execTrigPlean (w : Who) (l : Nat) (s : State) : Host.Outcome State Fault Refusal :=
  runs (wfTrigPlean w l) s (fun s => s.asWrite w (ANV_LN_TRIG l) 2 (fun s => s.trigWrite l 2))

/-- TRIG_SLOAD. -/
def execTrigSload (w : Who) (l : Nat) (s : State) : Host.Outcome State Fault Refusal :=
  runs (wfTrigSload w l) s (fun s => s.asWrite w (ANV_LN_TRIG l) 1 (fun s => s.trigWrite l 1))

/-- Both banks and all states of lane `l` are zero (R140); the stored output and the pre-lean counter stay (log entry 128). -/
def State.zeroLane (s : State) (l : Nat) : State :=
  let s := s.modLn l (fun x => { x with st := List.replicate 16 0 })
  { s with anv := { s.anv with
      words := s.anv.words.filter (fun e => e.1 / 128 != l)
      flips := s.anv.flips.filter (fun e => e.1 / 128 != l) } }

/-- The lane whose role a lane's status shows: the lane it serves, else itself (R137). -/
def State.shownLane (s : State) (l : Nat) : Nat := s.get (ANV_LN_STAT.ALIAS l)

/-- A write of ANV_LN_STAT_l (R140, R142): the write-one-to-clear bits; FAULTED clears only in a disabled lane; SLOVR and
PLOVR clear at the inputs of the role. -/
def State.lnStatWrite (s : State) (l : Nat) (v : Word) : State :=
  let s := s.wr (ANV_LN_STAT l) (s.rd (ANV_LN_STAT l) &&& ~~~(v &&& 0xAC000000))
  let s := s.when (wbit v 17) (fun s => s.each (s.roles (s.shownLane l)) (fun s k => s.set (EVF_CON.OVR (kSload k)) 0))
  let s := s.when (wbit v 16) (fun s => s.each (s.roles (s.shownLane l)) (fun s k => s.set (EVF_CON.OVR (kPlean k)) 0))
  if wbit v 30 then
    if s.laneEn l then s.set ANV_STAT.WIGN 1
    else if s.on (ANV_LN_STAT.FAULTED l) then (s.set (ANV_LN_STAT.FAULTED l) 0).zeroLane l
    else s
  else s

/-- FAULTED_CLEAR. -/
def execFaultedClear (w : Who) (l : Nat) (s : State) : Host.Outcome State Fault Refusal :=
  runs (wfFaultedClear w l) s (fun s => s.asWrite w (ANV_LN_STAT l) 0x40000000 (fun s => s.lnStatWrite l 0x40000000))

/-- A write of ANV_LN_SNAP_l: REQ requests a snapshot and RDY clears (R142). -/
def State.snapWrite (s : State) (l : Nat) (v : Word) : State :=
  if wbit v 0 then (s.set (ANV_LN_SNAP.REQ l) 1).set (ANV_LN_SNAP.RDY l) 0 else s

/-- SNAPSHOT_REQUEST. -/
def execSnapshotRequest (w : Who) (l : Nat) (s : State) : Host.Outcome State Fault Refusal :=
  runs (wfSnapshotRequest w l) s (fun s => s.asWrite w (ANV_LN_SNAP l) 1 (fun s => s.snapWrite l 1))

/-- Lane `l` lies on a cycle of UP fields. -/
def State.onCycle (s : State) (l : Nat) : Bool :=
  s.laneEn l && s.laneSrc l == 1 && (s.upFrom 34 (s.get (ANV_LN_CFG.UP l))).contains l

/-- The Anvil check: code, item, and whether the item is a rail (R135, R464); the items of results 2, 4 and 6 are log entry
130's. -/
def State.anvCheck (s : State) : Option (Nat × Nat × Bool) :=
  let ch (l : Nat) := s.laneEn l && s.laneSrc l == 1
  let up (l : Nat) := s.get (ANV_LN_CFG.UP l)
  let bind (r : Nat) := s.on (ANV_RAIL_LANE.EN r)
  let lane (r : Nat) := s.get (ANV_RAIL_LANE.LANE r)
  let bound (l : Nat) := (List.range 32).any (fun r => bind r && lane r == l)
  let named (l : Nat) := (List.range 34).any (fun d => ch d && up d == l)
  let total (l : Nat) := (((s.upFrom 34 (s.tailOf 34 l))).map s.nsec).foldl (· + ·) 0
  let tag (b : Bool) (o : Option (Nat × Nat)) := o.map (fun e => (e.1, e.2, b))
  ([ tag false (firstFail 34 1 (fun l => s.laneEn l && !s.onCycle (s.tailOf 34 l) && decide (8 < total l))),
     tag true (firstFail 32 2 (fun r => bind r && (!s.laneEn (lane r)
       || (List.range 32).any (fun q => q != r && bind q && lane q == lane r)))),
     tag false (firstFail 34 3 (fun l => ch l && (!s.laneEn (up l) || (List.range l).any (fun m => ch m && up m == up l)
       || (s.onCycle l && (s.upFrom 34 l).all (fun m => decide (l ≤ m)))))),
     tag false (firstFail 34 4 (fun l => s.laneSrc l == 2 && s.laneEn l && (bound l || named l))),
     tag false (firstFail 34 5 (fun l => s.laneEn l && s.on (ANV_LN_STAT.FAULTED l))),
     tag false (firstFail 34 6 (fun l => bound l && named l)) ].filterMap id).head?

/-- A write of 1 to ANV_COMMIT.LOCK (R134, R135). -/
def State.anvLock (s : State) : State :=
  match s.anvCheck with
  | none => (((s.set ANV_COMMIT.RESULT 0).set ANV_COMMIT.WHERE 0).set ANV_COMMIT.WHERE_RAIL 0).set ANV_COMMIT.LOCK 1
  | some (c, i, b) =>
    ((s.set ANV_COMMIT.RESULT c).set ANV_COMMIT.WHERE i).setb ANV_COMMIT.WHERE_RAIL b

/-- ANV_COMMIT_LOCK. -/
def execAnvCommitLock (w : Who) (s : State) : Host.Outcome State Fault Refusal :=
  runs (wfAnvCommitLock w) s (fun s => s.asWrite w ANV_COMMIT 1 State.anvLock)

/-- Writes of ANV registers with rules of their own. -/
def State.anvWrite (s : State) (a : Nat) (v : Word) : State :=
  if a = ANV_LN_SWAP then s.swapCommand v
  else if inFam a (ANV_LN_STAT 0) 34 0x40 then s.lnStatWrite (famIdx a (ANV_LN_STAT 0) 0x40) v
  else if inFam a (ANV_LN_TRIG 0) 34 0x40 then s.trigWrite (famIdx a (ANV_LN_TRIG 0) 0x40) v
  else if inFam a (ANV_LN_SNAP 0) 34 0x40 then s.snapWrite (famIdx a (ANV_LN_SNAP 0) 0x40) v
  else if inFam a (ANV_SH 0 0) 2176 4 then
    let i := famIdx a (ANV_SH 0 0) 4
    s.shadowWrite (i / 64) (i % 64) v
  else s.plainWrite a v

end Sys2Proof.Machine
end

