-- ==== Sys2Proof/Machine/Flags.lean ====
section
/-! DEFINITION. What the integer instructions compute and the flags they set: one pure function for each operation (R226, R245, R246, R251, R255, R257, R258, R261). -/

namespace Sys2Proof.Machine

/-- A result and the STATUS bits written with it: `mask` names them, `flags` gives their values (R220). -/
structure Alu where
  res : Word
  mask : Word := 0
  flags : Word := 0
deriving DecidableEq, Repr

/-- STATUS.Q (R220). -/
def stQ : Word := 16
/-- STATUS.N. -/
def stN : Word := 8
/-- STATUS.Z. -/
def stZ : Word := 4
/-- STATUS.C. -/
def stC : Word := 2
/-- STATUS.V. -/
def stV : Word := 1

/-- A flag bit where a condition holds. -/
def flagIf (b : Bool) (w : Word) : Word := if b then w else 0

/-- A result with N and Z taken from it, C where it is given, V, and Q where it sets (R245). -/
def aluOut (r : Word) (c : Option Bool) (v q : Bool) : Alu where
  res := r
  mask := stN ||| stZ ||| stV ||| flagIf c.isSome stC ||| flagIf q stQ
  flags := flagIf (wbit r 31) stN ||| flagIf (r == 0) stZ ||| flagIf (c.getD false) stC ||| flagIf v stV ||| flagIf q stQ

/-- An integer in the signed 32-bit range. -/
def fits32 (x : Int) : Bool := decide (-2147483648 ≤ x) && decide (x ≤ 2147483647)

/-- An integer wrapped into a word, or clamped to its signed range under SAT (R226, R261). -/
def satWord (sat : Bool) (x : Int) : Word := wordOf (if sat then clampI (-2147483648) 2147483647 x else x)

/-- ADD and ADC: a + b + carry (R245); SAT clamps, V reports the overflow and Q sets (R261). -/
def aluAdd (sat : Bool) (a b : Word) (cin : Bool) : Alu :=
  let x := sword a + sword b + b2n cin
  aluOut (satWord sat x) (some (decide (2 ^ 32 ≤ a.toNat + b.toNat + b2n cin))) (!fits32 x) (sat && !fits32 x)

/-- SUB and SBC: a − b − (1 − carry), with C set when there is no borrow (R245, R261). -/
def aluSub (sat : Bool) (a b : Word) (cin : Bool) : Alu :=
  let x := sword a - sword b - b2n (!cin)
  aluOut (satWord sat x) (some (decide (b.toNat + b2n (!cin) ≤ a.toNat))) (!fits32 x) (sat && !fits32 x)

/-- The shift count of an operand (R245): its low byte. -/
def shiftCount (b : Word) : Nat := b.toNat % 256

/-- C of a shift: unchanged for a count of 0. -/
def shiftC (n : Nat) (c : Bool) : Option Bool := if n = 0 then none else some c

/-- SHL (R245); under SAT a result that lost its sign or significant bits is clamped by the sign of a (R261). -/
def aluShl (sat : Bool) (a b : Word) : Alu :=
  let n := shiftCount b
  let x := sword a * (2 ^ n : Nat)
  aluOut (satWord sat x) (shiftC n (decide (n ≤ 32) && wbit a (32 - n))) false (sat && !fits32 x)

/-- SHR (R245). -/
def aluShr (a b : Word) : Alu :=
  let n := shiftCount b
  aluOut (BitVec.ofNat 32 (a.toNat / 2 ^ n)) (shiftC n (wbit a (n - 1))) false false

/-- SAR (R245). -/
def aluSar (a b : Word) : Alu :=
  let n := shiftCount b
  aluOut (wordOf (floorDiv (sword a) (2 ^ n : Nat))) (shiftC n (wbit a (min (n - 1) 31))) false false

/-- ROR (R245): C is bit 31 of the result. -/
def aluRor (a b : Word) : Alu :=
  let n := shiftCount b
  let k := n % 32
  let r := BitVec.ofNat 32 (a.toNat / 2 ^ k + a.toNat % 2 ^ k * 2 ^ (32 - k))
  aluOut r (shiftC n (wbit r 31)) false false

/-- The ALU operation of code bits [5:2] on a and b with the carry and SAT (R245). -/
def aluOp (op : Nat) (sat : Bool) (a b : Word) (cin : Bool) : Alu :=
  match op with
  | 0 => aluAdd sat a b false
  | 1 => aluSub sat a b true
  | 2 => aluOut (a &&& b) none false false
  | 3 => aluOut (a ||| b) none false false
  | 4 => aluOut (a ^^^ b) none false false
  | 5 => aluShl sat a b
  | 6 => aluShr a b
  | 7 => aluSar a b
  | 8 => aluRor a b
  | 9 => aluSub false a b true
  | 10 => aluOut (a &&& b) none false false
  | 11 => ⟨b, 0, 0⟩
  | 12 => aluAdd sat a b cin
  | 13 => aluSub sat a b cin
  | 14 => aluOut (if sword a ≤ sword b then a else b) none false false
  | _ => aluOut (if sword a ≤ sword b then b else a) none false false

/-- A value with Q set where it saturated, no other flag (R226). -/
def qOut (r : Word) (q : Bool) : Alu := ⟨r, flagIf q stQ, flagIf q stQ⟩

/-- MUL (R246, R261). -/
def mulLow (sat : Bool) (a b : Word) : Alu :=
  let x := sword a * sword b
  qOut (satWord sat x) (sat && !fits32 x)

/-- MULH: high word of the signed product (R246). -/
def mulHigh (a b : Word) : Word := wordOf (floorDiv (sword a * sword b) (2 ^ 32))

/-- MULHU: high word of the unsigned product (R246). -/
def mulHighU (a b : Word) : Word := BitVec.ofNat 32 (a.toNat * b.toNat / 2 ^ 32)

/-- QMUL: the Q1.31 product (R226). -/
def qmul31 (sat : Bool) (a b : Word) : Alu :=
  let x := floorDiv (sword a * sword b) (2 ^ 31)
  qOut (satWord sat x) (sat && !fits32 x)

/-- Lane i of a word as a signed halfword (R226). -/
def laneOf (w : Word) (i : Nat) : Int := sext 16 (getBits w (16 * i + 15) (16 * i))

/-- An integer fits a halfword lane. -/
def fits16 (x : Int) : Bool := decide (-32768 ≤ x) && decide (x ≤ 32767)

/-- Two lanes, each computed by `f`, wrapped or clamped (R226). -/
def lanes15 (sat : Bool) (f : Int → Int → Int) (a b : Word) : Alu :=
  let x (i : Nat) := f (laneOf a i) (laneOf b i)
  let y (i : Nat) := wrapN 16 (if sat then clampI (-32768) 32767 (x i) else x i)
  qOut (BitVec.ofNat 32 (y 1 * 2 ^ 16 + y 0)) (sat && !(fits16 (x 0) && fits16 (x 1)))

/-- QMUL15 (R226, R246). -/
def qmul15Of (sat : Bool) (a b : Word) : Alu := lanes15 sat (fun x y => floorDiv (x * y) (2 ^ 15)) a b

/-- ADD15 (R246). -/
def add15Of (sat : Bool) (a b : Word) : Alu := lanes15 sat (fun x y => x + y) a b

/-- SUB15 (R246). -/
def sub15Of (sat : Bool) (a b : Word) : Alu := lanes15 sat (fun x y => x - y) a b

/-- CLZ: leading zeros, 0 to 32 (R246). -/
def clzOf (w : Word) : Word := if w = 0 then 32 else BitVec.ofNat 32 (31 - Nat.log2 w.toNat)

/-- POPC: set bits (R246). -/
def popcOf (w : Word) : Word := BitVec.ofNat 32 (countN 32 (wbit w))

/-- The position of a bit-field operand: i16[4:0] (R246). -/
def bfPos (i : Nat) : Nat := i % 32

/-- Its length: i16[13:8] (R246). -/
def bfLen (i : Nat) : Nat := i / 256 % 64

/-- BFX (R246). -/
def bfxOf (w : Word) (i : Nat) : Word := BitVec.ofNat 32 (w.toNat / 2 ^ bfPos i % 2 ^ bfLen i)

/-- BFXS (R246). -/
def bfxsOf (w : Word) (i : Nat) : Word := wordOf (sext (bfLen i) (w.toNat / 2 ^ bfPos i))

/-- BFI (R246). -/
def bfiOf (d w : Word) (i : Nat) : Word :=
  BitVec.ofNat 32 (d.toNat % 2 ^ bfPos i + w.toNat % 2 ^ bfLen i * 2 ^ bfPos i
    + d.toNat / 2 ^ (bfPos i + bfLen i) * 2 ^ (bfPos i + bfLen i))

/-- REV: the four bytes reversed (R246). -/
def revOf (w : Word) : Word := wordOfLe (leBytes 4 w.toNat).reverse

/-- DIV: truncating; a division by zero gives −1 or 1 by the sign of the dividend (R257). -/
def divOf (a b : Word) : Word :=
  if b = 0 then (if wbit a 31 then 1 else 0xFFFFFFFF) else wordOf (Int.tdiv (sword a) (sword b))

/-- DIVU (R257). -/
def divuOf (a b : Word) : Word := if b = 0 then 0xFFFFFFFF else BitVec.ofNat 32 (a.toNat / b.toNat)

/-- REM: with the sign of the dividend (R257). -/
def remOf (a b : Word) : Word := if b = 0 then a else wordOf (Int.tmod (sword a) (sword b))

/-- REMU (R257). -/
def remuOf (a b : Word) : Word := if b = 0 then a else BitVec.ofNat 32 (a.toNat % b.toNat)

/-- Integer square root by bits: the largest r + k, k below 2ⁿ, whose square is at most x. -/
def isqrtFrom (x : Nat) : Nat → Nat → Nat
  | 0, r => r
  | n + 1, r => if (r + 2 ^ n) * (r + 2 ^ n) ≤ x then isqrtFrom x n (r + 2 ^ n) else isqrtFrom x n r

/-- SQRT (R255). -/
def sqrtOf (w : Word) : Word := BitVec.ofNat 32 (isqrtFrom w.toNat 16 0)

/-- One VMAC element: the accumulator plus the exact product, wrapped or clamped at 64 bits, and whether it saturated
(R258, R261). -/
def macStep (sat : Bool) (acc : Int) (a b : Word) : Int × Bool :=
  let x := acc + sword a * sword b
  let lo : Int := -9223372036854775808
  let hi : Int := 9223372036854775807
  if sat then (clampI lo hi x, decide (x < lo) || decide (hi < x)) else (sext 64 (wrapN 64 x), false)

/-- One CRCB byte (R258). -/
def crcStep (t : Nat) (v : Word) (b : Byte) : Word :=
  if t = 0 then BitVec.ofNat 32 (crc32Byte v.toNat b) else BitVec.ofNat 32 (crc8Byte 0x2F (v.toNat % 256) b)

/-- A condition code on STATUS (R251). -/
def condHolds (st : Word) (cc : Nat) : Bool :=
  let n := wbit st 3
  let z := wbit st 2
  let c := wbit st 1
  let v := wbit st 0
  match cc with
  | 0 => z
  | 1 => !z
  | 2 => c
  | 3 => !c
  | 4 => n
  | 5 => !n
  | 6 => v
  | 7 => !v
  | 8 => c && !z
  | 9 => !c || z
  | 10 => n == v
  | 11 => n != v
  | 12 => !z && n == v
  | 13 => z || n != v
  | _ => true

end Sys2Proof.Machine
end

