-- ==== Sys2Proof/Machine/Cordic.lean ====
section
/-! DEFINITION. The CORDIC functions: the exactly rounded values in fixed point with 128 fraction bits, and the difference of up to 4 LSB that R257 allows. -/

namespace Sys2Proof.Machine

/-- One in the fixed point of this file. -/
def fxOne : Int := 2 ^ 128

/-- π in the fixed point of this file. -/
def fxPi : Int := 1069028584064966747859680373161870783300

/-- The product of two numbers of the fixed point. -/
def fxMul (a b : Int) : Int := floorDiv (a * b) fxOne

/-- Terms of the sine or cosine series from term `t`, which holds x^k / k!, with x² given. -/
def fxSeries (x2 : Int) : Nat → Nat → Int → Int
  | 0, _, t => t
  | n + 1, k, t => t - fxSeries x2 n (k + 2) (floorDiv (fxMul t x2) (((k + 1) * (k + 2) : Nat) : Int))

/-- Sine of an angle. -/
def fxSin (x : Int) : Int := fxSeries (fxMul x x) 40 1 x

/-- Cosine of an angle. -/
def fxCos (x : Int) : Int := fxSeries (fxMul x x) 40 0 fxOne

/-- The angle of h halves of an LSB of Q1.31 half-turns. -/
def fxAngle (h : Int) : Int := floorDiv (h * fxPi) (2 ^ 32)

/-- A number of the fixed point rounded to Q1.31. -/
def fxRound (x : Int) : Int := floorDiv (2 * x + 2 ^ 97) (2 ^ 98)

/-- The difference from the exactly rounded value, at most 4 LSB (R257). -/
def errOf (x : Int) : Int := clampI (-4) 4 x

/-- A Q1.31 result: the rounded value with its difference, +1 and beyond written as 0x7FFF_FFFF (R257). -/
def cordicQ (x e : Int) : Word := wordOf (clampI (-2147483648) 2147483647 (x + errOf e))

/-- Function 0: cosine and sine of an angle in half-turns (R257). -/
def cordicSincos (a : Word) : Word × Word :=
  let e := Config.cordicErr 0 a 0
  let t := fxAngle (2 * sword a)
  (cordicQ (fxRound (fxCos t)) e.1, cordicQ (fxRound (fxSin t)) e.2)

/-- The largest r + k, k below 2ⁿ, whose angle less half an LSB is at most that of (x, y), both not negative. -/
def atanFrom (x y : Int) : Nat → Int → Int
  | 0, r => r
  | n + 1, r =>
    let m := r + (2 ^ n : Nat)
    let t := fxAngle (2 * m - 1)
    if x * fxSin t ≤ y * fxCos t then atanFrom x y n m else atanFrom x y n r

/-- atan2(y, x) in LSB of Q1.31 half-turns, rounded. -/
def atanRounded (x y : Int) : Int :=
  let q := if y = 0 then 0 else if x = 0 then 2 ^ 30 else min (atanFrom x.natAbs y.natAbs 31 0) (2 ^ 30)
  let h := if x < 0 then 2 ^ 31 - q else q
  if y < 0 then -h else h

/-- √(x² + y²) rounded to the nearest integer. -/
def hypotRounded (x y : Int) : Int :=
  let n := (x * x + y * y).natAbs
  let r := isqrtFrom n 33 0
  if r * r + r < n then (r : Int) + 1 else r

/-- Function 1: atan2(y, x) and the magnitude (R257). -/
def cordicAtan2 (x y : Word) : Word × Word :=
  let e := Config.cordicErr 1 x y
  let a := atanRounded (sword x) (sword y)
  let ang := if (x = 0 ∧ y = 0) ∨ a = 2 ^ 31 then Config.cordicOpen x y else cordicQ a e.1
  (ang, wordOf (clampI 0 4294967295 (hypotRounded (sword x) (sword y) + errOf e.2)))

end Sys2Proof.Machine
end

