-- ==== Sys2Proof/Machine/Bellows.lean ====
section
/-! DEFINITION. Bellows, step warning and protection: forces, overshoot action, pre-lean arming, ladders, quenches and hiccups (R143 to R167). -/

namespace Sys2Proof.Machine

/-- Rail current of rail `r` in Q16.16 A (R120). -/
def State.iRail (s : State) (r : Nat) : Int := ((s.running r).map s.amps).foldl (· + ·) 0

/-- The output-referred reference of rail `r` in Q8.24 V (R169). -/
def State.refOut (s : State) (r : Nat) : Nat := ((s.rl r).rout + 128) / 256

/-- The reference of rail `r` at the pin in Q8.24 V (R169). -/
def State.refPin (s : State) (r : Nat) : Int := ((s.refOut r * s.get (RLC_RAIL_SCALE.SCALE r) / 2 ^ 24 : Nat) : Int)

/-- The load-line drop of rail `r` at the pin in Q8.24 V (R169). -/
def State.llPin (s : State) (r : Nat) : Int :=
  floorDiv (floorDiv (s.iRail r * (s.getT (RLC_RAIL_LL.LLR r) : Int)) (2 ^ 24) * (s.get (RLC_RAIL_SCALE.SCALE r) : Int)) (2 ^ 24)

/-- Bellows and protection take part for a rail that regulates: not in Quench, outside Kindle and the reset before it, and in them
for rails held through K (R144, R405, R410). -/
def State.guards (s : State) : Bool :=
  !s.pmu.due.contains 3 && s.mode != modeQuench && ((s.mode != modeKindle && s.pmu.rst.isNone) || s.on NVC_KSTAT.HELD)

/-- The droop comparator of rail `r` is armed (R144). -/
def State.droopArmed (s : State) (r : Nat) : Bool :=
  s.onT (BLW_BW_CFG.DEN r) && s.enabled r && !s.quenched r && s.on (RLC_RAIL_STAT.SSDONE r) && s.on PHA_STAT.DLCAL_OK
    && s.guards

/-- The overshoot comparator of rail `r` is armed (R144). -/
def State.overArmed (s : State) (r : Nat) : Bool :=
  s.onT (BLW_BW_CFG.OEN r) && s.enabled r && !s.quenched r && s.guards

/-- Every force of the rail ends, with no release event (R145). -/
def State.dropForce (s : State) (r : Nat) : State :=
  (s.each (s.members r) (fun s n => s.modPh n (fun p => { p with forced := false }))).set (BLW_BW_STAT.STATE r) 0

/-- The droop side follows its arming condition (R145). -/
def State.rearm (s : State) (r : Nat) : State :=
  let st := s.get (BLW_BW_STAT.STATE r)
  if s.droopArmed r then (if st = 0 then s.set (BLW_BW_STAT.STATE r) 1 else s)
  else if st = 0 then s else s.dropForce r

/-- DISARMED, and the overshoot action clears (R158). -/
def State.disarm (s : State) (r : Nat) : State := (s.dropForce r).set (BLW_BW_STAT.OVACT r) 0

/-- DLCAL_DONE. The first calibration of the fine-delay lines completes; rails it kept disarmed arm (R72, R144). -/
def execDlcalDone (s : State) : Host.Outcome State Fault Refusal :=
  runs wfDlcalDone s (fun s => (s.set PHA_STAT.DLCAL_OK 1).each (List.range 32) State.rearm)

/-- DROOP_CROSSING. An armed rail enters FORCE; the forced set is fixed: running members with FM, and those with FMPL while
the rail is pre-lean armed (R145, R146). -/
def execDroopCrossing (r : Nat) (s : State) : Host.Outcome State Fault Refusal :=
  runs (wfDroopCrossing r) s (fun s =>
    if s.get (BLW_BW_STAT.STATE r) = 1 then
      let ns := (s.running r).filter (fun n =>
        s.onT (BLW_PH.FM n) || (s.on (BLW_BW_STAT.PLARM r) && s.onT (BLW_PH.FMPL n)))
      let s := s.each ns (fun s n => s.modPh n (fun p => { p with forced := true, acted := true }))
      (((s.set (BLW_BW_STAT.STATE r) 2).bump (BLW_BW_CNT.DCNT r)).raiseBit (BLW_BW_STAT r) 5).fire [hDroop r]
    else s)

/-- RELEASE_CROSSING. FORCE ends on the release threshold (R145). -/
def execReleaseCrossing (r : Nat) (s : State) : Host.Outcome State Fault Refusal :=
  runs (wfReleaseCrossing r) s (fun s =>
    if s.get (BLW_BW_STAT.STATE r) = 2 then
      (((s.dropForce r).set (BLW_BW_STAT.STATE r) 3).set (BLW_BW_STAT.RTIME r) 0).fire [hRel r]
    else s)

/-- MAXON_EXPIRY. The phase leaves the forced set (R146). -/
def execMaxonExpiry (n : Nat) (s : State) : Host.Outcome State Fault Refusal :=
  runs (wfMaxonExpiry n) s (fun s => s.leaveForce n)

/-- LOCKOUT_END. LOCKOUT to ARMED (R145). -/
def execLockoutEnd (r : Nat) (s : State) : Host.Outcome State Fault Refusal :=
  runs (wfLockoutEnd r) s (fun s => if s.get (BLW_BW_STAT.STATE r) = 3 then s.set (BLW_BW_STAT.STATE r) 1 else s)

/-- OVERSHOOT_CROSSING. The overshoot action starts (R148); no pair of samples of its tick counts as a slope (R111). -/
def execOvershootCrossing (r : Nat) (s : State) : Host.Outcome State Fault Refusal :=
  runs (wfOvershootCrossing r) s (fun s =>
    if s.overArmed r && !s.on (BLW_BW_STAT.OVACT r) && !(s.bl r).ovExpired then
      let s := s.each (s.running r) (fun s n => s.modPh n (fun p => { p with acted := true }))
      (((s.set (BLW_BW_STAT.OVACT r) 1).set (BLW_BW_STAT.OVS r) 1).bump (BLW_BW_CNT.OCNT r)).fire [hOvs r]
    else s)

/-- OVERSHOOT_RELEASE. The overshoot action ends and may start again (R148). -/
def execOvershootRelease (r : Nat) (s : State) : Host.Outcome State Fault Refusal :=
  runs (wfOvershootRelease r) s (fun s =>
    (s.set (BLW_BW_STAT.OVACT r) 0).modBl r (fun b => { b with ovExpired := false }))

/-- OVMAX_EXPIRY. The overshoot action ends and waits for a release (R148). -/
def execOvmaxExpiry (r : Nat) (s : State) : Host.Outcome State Fault Refusal :=
  runs (wfOvmaxExpiry r) s (fun s =>
    if s.on (BLW_BW_STAT.OVACT r) then
      (s.set (BLW_BW_STAT.OVACT r) 0).modBl r (fun b => { b with ovExpired := true })
    else s)

/-- WARN_ASSERT. A filtered assertion of WARNk fires WARN_k where the input is enabled (R150). -/
def execWarnAssert (k : Nat) (s : State) : Host.Outcome State Fault Refusal :=
  runs (wfWarnAssert k) s (fun s => if s.on (BLW_WARN.EN k) then s.fire [hWarn k] else s)

/-- Consumer numbers of BLW_PLARM_r, BLW_QUENCH_r and BLW_QUENCH_DEV (R200). -/
def kPlarm (r : Nat) : Nat := 128 + r
/-- BLW_QUENCH_r. -/
def kQuench (r : Nat) : Nat := 160 + r
/-- BLW_QUENCH_DEV. -/
def kQuenchDev : Nat := 192

/-- PLARM. The event at BLW_PLARM_r is taken: the rail is pre-lean armed unless DUR is 0; the counter loads at the next T0
(R151). -/
def execPlarm (r : Nat) (s : State) : Host.Outcome State Fault Refusal :=
  runs (wfPlarm r) s (fun s =>
    if s.on (EVF_CON.PEND (kPlarm r)) then
      let s := s.takeEvent (kPlarm r)
      if s.onT (BLW_PL.DUR r) then (s.set (BLW_BW_STAT.PLARM r) 1).modBl r (fun b => { b with plLoad := true }) else s
    else s)

/-- The arming counter of rail `r` at a T0 (R151): it holds one more than the T0s left. -/
def State.plCount (s : State) (r : Nat) : State :=
  s.modBl r (fun b =>
    if b.plLoad then { b with plLoad := false, plCnt := s.getT (BLW_PL.DUR r) + 1 }
    else { b with plCnt := if 1 < b.plCnt then b.plCnt - 1 else b.plCnt })

/-- PLARM_END. The arming counter has reached 0 (R151). -/
def execPlarmEnd (r : Nat) (s : State) : Host.Outcome State Fault Refusal :=
  runs (wfPlarmEnd r) s (fun s =>
    if (s.bl r).plCnt = 1 ∧ (s.bl r).plLoad = false then
      (s.set (BLW_BW_STAT.PLARM r) 0).modBl r (fun b => { b with plCnt := 0 })
    else s)

/-- The ladder register of a protection (R152). -/
def State.ladder (s : State) : Prot → Nat
  | .poc n => BLW_LAD_POC (s.railOf n)
  | .sf r => BLW_LAD_SF r
  | .pot n => BLW_LAD_POT (s.railOf n)
  | .roc r => BLW_LAD_ROC r
  | .ov r => BLW_LAD_OV r
  | .uv r => BLW_LAD_UV r
  | .vinUv c => BLW_LAD_VIN c
  | .vinOv c => BLW_LAD_VIN c
  | .die => BLW_LAD_DIE
  | .dio j => BLW_LAD_DIO j

/-- FILT of a protection's ladder. -/
def State.ladFilt (s : State) (x : Prot) : Nat := getBits (s.rdT (s.ladder x)) 31 24

/-- RETRY of a protection's ladder. -/
def State.ladRetry (s : State) (x : Prot) : Nat := getBits (s.rdT (s.ladder x)) 10 8

/-- ACTION of a protection's ladder. -/
def State.ladAction (s : State) (x : Prot) : Nat := getBits (s.rdT (s.ladder x)) 2 0

/-- The cause code a protection's quench records (R157, R161). -/
def protCode : Prot → Nat
  | .poc _ => 1
  | .sf _ => 2
  | .pot _ => 3
  | .roc _ => 4
  | .ov _ => 5
  | .uv _ => 6
  | .vinUv _ => 7
  | .vinOv _ => 8
  | .die => 9
  | .dio _ => 10

/-- The rail a protection watches, none for an input or the device. -/
def State.protRail (s : State) : Prot → Option Nat
  | .poc n => (s.ph n).rail
  | .sf r => some r
  | .pot n => (s.ph n).rail
  | .roc r => some r
  | .ov r => some r
  | .uv r => some r
  | _ => none

/-- The phase a protection watches. -/
def protPhase : Prot → Option Nat
  | .poc n => some n
  | .pot n => some n
  | _ => none

/-- The fault and the warn filter of a protection (R153, R154); the count of POC is OCCNT (R152). -/
def State.filts (s : State) : Prot → Filt × Filt
  | .poc n => (⟨s.get (PHA_CH_STAT.OCCNT n), (s.ph n).pocActed⟩, {})
  | .sf r => ((s.bl r).sf, {})
  | .pot n => nth s.blw.pot n ({}, {})
  | .roc r => ((s.bl r).roc, (s.bl r).rocW)
  | .ov r => ((s.bl r).ov, (s.bl r).ovW)
  | .uv r => ((s.bl r).uv, (s.bl r).uvW)
  | .vinUv c => ((nth s.blw.vin c ({}, {}, {}, {})).1, (nth s.blw.vin c ({}, {}, {}, {})).2.2.1)
  | .vinOv c => ((nth s.blw.vin c ({}, {}, {}, {})).2.1, (nth s.blw.vin c ({}, {}, {}, {})).2.2.2)
  | .die => s.blw.die
  | .dio j => nth s.blw.dio j ({}, {})

/-- Those filters replaced. -/
def State.setFilts (s : State) (x : Prot) (f : Filt × Filt) : State :=
  match x with
  | .poc n => s.modPh n (fun p => { p with pocActed := f.1.acted })
  | .sf r => s.modBl r (fun b => { b with sf := f.1 })
  | .pot n => { s with blw := { s.blw with pot := modNth s.blw.pot n (fun _ => f) } }
  | .roc r => s.modBl r (fun b => { b with roc := f.1, rocW := f.2 })
  | .ov r => s.modBl r (fun b => { b with ov := f.1, ovW := f.2 })
  | .uv r => s.modBl r (fun b => { b with uv := f.1, uvW := f.2 })
  | .vinUv c => { s with blw := { s.blw with vin := modNth s.blw.vin c (fun v => (f.1, v.2.1, f.2, v.2.2.2)) } }
  | .vinOv c => { s with blw := { s.blw with vin := modNth s.blw.vin c (fun v => (v.1, f.1, v.2.2.1, f.2)) } }
  | .die => { s with blw := { s.blw with die := f } }
  | .dio j => { s with blw := { s.blw with dio := modNth s.blw.dio j (fun _ => f) } }

/-- A filter after an evaluation of its condition (R153). -/
def Filt.eval (f : Filt) (c : Bool) : Filt := if c then { f with cnt := satInc 255 f.cnt } else {}

/-- The fault bit of a protection: register and bit (R167). -/
def State.faultBit (s : State) (x : Prot) : Nat × Nat :=
  match x with
  | .vinUv c => (BLW_DEV_STAT, 24 + c)
  | .vinOv c => (BLW_DEV_STAT, 24 + c)
  | .die => (BLW_DEV_STAT, 1)
  | .dio j => (BLW_DEV_STAT, 12 + j)
  | _ => (BLW_PROT_STAT ((s.protRail x).getD 0), 5 + protCode x)

/-- The warn bit of a protection. -/
def State.warnBit (s : State) (x : Prot) : Nat × Nat :=
  match x with
  | .vinUv c => (BLW_DEV_STAT, 16 + c)
  | .vinOv c => (BLW_DEV_STAT, 16 + c)
  | .die => (BLW_DEV_STAT, 0)
  | .dio j => (BLW_DEV_STAT, 8 + j)
  | _ => (BLW_PROT_STAT ((s.protRail x).getD 0), protCode x - 1)

/-- What has set the bits of input `c` (R187): OV fault, OV warn, UV warn, UV fault. -/
def State.vinKind (s : State) (c : Nat) (f : Bool × Bool × Bool × Bool → Bool × Bool × Bool × Bool) : State :=
  { s with blw := { s.blw with vinKind := modNth s.blw.vinKind c f } }

/-- STATUS_VOUT of page `r` (R187). -/
def State.stVout (s : State) (r : Nat) : Nat :=
  let f := s.get (BLW_PROT_STAT.FAULT r)
  let w := s.get (BLW_PROT_STAT.WARN r)
  128 * b2n (nbit f 4) + 64 * b2n (nbit w 4) + 32 * b2n (nbit w 5) + 16 * b2n (nbit f 5) + 8 * b2n (s.rl r).vout3

/-- STATUS_IOUT (R187). -/
def State.stIout (s : State) (r : Nat) : Nat :=
  let f := s.get (BLW_PROT_STAT.FAULT r)
  128 * b2n (nbit f 3 || nbit f 0) + 32 * b2n (nbit (s.get (BLW_PROT_STAT.WARN r)) 3)

/-- STATUS_INPUT (R187). -/
def State.stInput (s : State) (r : Nat) : Nat :=
  let any (p : Nat → Bool × Bool × Bool × Bool → Bool) : Nat := b2n ((List.range 8).any (fun c =>
    nbit (s.get (BLW_VIN_RAILS.RAILS c)) r && p c (nth s.blw.vinKind c (false, false, false, false))))
  let f (c : Nat) := nbit (s.get BLW_DEV_STAT.VINF) c
  let w (c : Nat) := nbit (s.get BLW_DEV_STAT.VINW) c
  128 * any (fun c k => f c && k.1) + 64 * any (fun c k => w c && k.2.1) + 32 * any (fun c k => w c && k.2.2.1)
    + 16 * any (fun c k => f c && k.2.2.2)

/-- STATUS_TEMPERATURE (R187). -/
def State.stTemp (s : State) (r : Nat) : Nat :=
  128 * b2n (nbit (s.get (BLW_PROT_STAT.FAULT r)) 2 || s.on BLW_DEV_STAT.DIEF || s.on BLW_DEV_STAT.DIOF)
    + 64 * b2n (nbit (s.get (BLW_PROT_STAT.WARN r)) 2 || s.on BLW_DEV_STAT.DIEW || s.on BLW_DEV_STAT.DIOW)

/-- A bit of the first number is 0 in the second. -/
def newBits (now was : Nat) : Bool := (now &&& (was ^^^ 0xFF)) % 256 != 0

/-- Both alert lines assert where a protection's bit of some page's status registers has gone from 0 to 1 since `was` (R187,
R190). -/
def State.alertNew (s was : State) : State :=
  s.when ((List.range 32).any (fun r => newBits (s.stVout r) (was.stVout r) || newBits (s.stIout r) (was.stIout r)
    || newBits (s.stInput r) (was.stInput r) || newBits (s.stTemp r) (was.stTemp r))) State.alert

/-- The fault bit of a protection sets (R153, R187). -/
def State.raiseFault (s : State) (x : Prot) : State :=
  let b := s.faultBit x
  let fresh := !s.bit b.1 b.2
  let t := s.setBit b.1 b.2 true
  (match x with
  | .vinUv c => t.vinKind c (fun k => (k.1 && !fresh, k.2.1, k.2.2.1, true))
  | .vinOv c => t.vinKind c (fun k => (true, k.2.1, k.2.2.1, k.2.2.2 && !fresh))
  | _ => t).alertNew s

/-- The warn bit of a protection sets (R154, R187). -/
def State.raiseWarn (s : State) (x : Prot) : State :=
  let b := s.warnBit x
  let fresh := !s.bit b.1 b.2
  let t := s.setBit b.1 b.2 true
  (match x with
  | .vinUv c => t.vinKind c (fun k => (k.1, k.2.1 && !fresh, true, k.2.2.2))
  | .vinOv c => t.vinKind c (fun k => (k.1, true, k.2.2.1 && !fresh, k.2.2.2))
  | _ => t).alertNew s

/-- ONE EVALUATION of a protection's fault and warn conditions (R153, R154); a condition still present after it has acted
sets its bit again (R190). -/
def State.judge (s : State) (x : Prot) (fault warn : Bool) : State :=
  let f := s.filts x
  let s := s.setFilts x (f.1.eval fault, f.2.eval warn)
  let s := s.when (fault && f.1.acted && s.ladAction x != 0) (fun s => s.raiseFault x)
  s.when (warn && f.2.acted) (fun s => s.raiseWarn x)

/-- A filter count has reached FILT and its condition has not acted (R153). -/
def State.reached (s : State) (x : Prot) (f : Filt) : Bool :=
  decide (s.ladFilt x ≤ f.cnt) && f.cnt != 0 && !f.acted

/-- At least so many millivolts, for a difference in Q8.24 V. -/
def atLeastMv (d : Int) (mv : Nat) : Bool := decide (((mv * 2 ^ 24 : Nat) : Int) ≤ 1000 * d)

/-- The relative tests of rail `r` are blanked (R154, R186). -/
def State.relBlank (s : State) (r : Nat) : Bool :=
  decide ((s.bl r).calm < 65) || s.getT (RLC_RAIL_PMB.OPER r) == 0x94 || s.getT (RLC_RAIL_PMB.OPER r) == 0xA4

/-- Protection is alive for rail `r`: in Run, Graze and Hold, and in Kindle for a rail held through K (R405). -/
def State.protects (s : State) (r : Nat) : Bool := s.guards && (s.mode != modeKindle || (s.enabled r && !s.quenched r))

/-- A protection is alive (R405): that of a rail or of one of its phases with the rail, that of an input or of the device while any
is; one of a phase that has no rail never is. -/
def State.watches (s : State) (x : Prot) : Bool :=
  match s.protRail x with
  | some r => s.protects r
  | none => (protPhase x).isNone && s.guards

/-- THE TICK-EVALUATED PROTECTIONS of rail `r` at T0 + 16 (R152, R154). The rail current and
the absolute tests are never blanked; the relative tests are those of a rail that is enabled and not quenched (log entry
117). -/
def State.judgeRail (s : State) (r : Nat) : State :=
  let live := s.protects r
  let en := live && s.enabled r && !s.quenched r
  let s := s.modBl r (fun b => { b with calm := if s.on (RLC_RAIL_STAT.SLEWING r) then 0 else min 65 (b.calm + 1) })
  let i := s.iRail r
  let val := (nth s.sns.good (144 + r) 0).toNat
  let v : Int := (s.pinVolts r : Nat)
  let ref := s.refPin r
  let low := ref - s.llPin r - v
  let rel := !s.relBlank r
  let relU := rel && s.on (RLC_RAIL_STAT.SSDONE r)
  let set (f : FRef) (c : Nat → Bool) : Bool := s.onT f && c (s.getT f)
  let s := s.judge (.roc r)
    (live && set (BLW_ROC.FTH r) (fun t => decide (((t * 8192 : Nat) : Int) ≤ i)))
    (live && set (BLW_ROC.WTH r) (fun t => decide (((t * 8192 : Nat) : Int) ≤ i)))
  let s := s.judge (.ov r)
    (live && (set (BLW_OV.FABS r) (fun t => decide (t ≤ val)) || (en && rel && set (BLW_OV.FREL r) (atLeastMv (v - ref)))))
    (en && rel && set (BLW_OV.WREL r) (atLeastMv (v - ref)))
  s.judge (.uv r)
    (live && (set (BLW_UV.FABS r) (fun t => decide (val ≤ t)) || (en && relU && set (BLW_UV.FREL r) (atLeastMv low))))
    (en && relU && set (BLW_UV.WREL r) (atLeastMv low))

/-- The value of input `c` compared with a threshold: 1 mV of engine volts, or 1 mA (R154): value times 1,000 and the scale
of the threshold. -/
def State.vinScaled (s : State) (c : Nat) : Nat × Nat :=
  if s.onT (SNS_VIN_CFG.MODE c) then (1000 * s.inAmps c, 65536) else (1000 * s.inVolts c, 2 ^ 24)

/-- The protections of input `c` at T0 + 16 (R152, R154), where protection is alive (R405); an input that is not enabled delivers 0
(R113). -/
def State.judgeVin (s : State) (c : Nat) : State :=
  let x := s.vinScaled c
  let live := s.guards
  let under (f : FRef) : Bool := live && s.onT f && decide (x.1 ≤ s.getT f * x.2)
  let above (f : FRef) : Bool := live && s.onT f && decide (s.getT f * x.2 ≤ x.1)
  (s.judge (.vinUv c) (under (BLW_VIN_TH.UV c)) (under (BLW_VIN_WTH.UV c))).judge (.vinOv c)
    (above (BLW_VIN_TH.OV c)) (above (BLW_VIN_WTH.OV c))

/-- Every tick-evaluated protection. -/
def State.judgeTick (s : State) : State := (s.each (List.range 32) State.judgeRail).each (List.range 8) State.judgeVin

/-- A temperature is at or above a threshold that is not disabled (R155). -/
def State.hot (s : State) (v : Int) (f : FRef) : Bool := s.on f && decide (s.geti f ≤ v)

/-- The hottest valid die sensor (R155). -/
def State.hottestDie (s : State) : Option Int :=
  (whichN 9 (fun i => s.get (SNS_TEMP.STATUS (144 + i)) == 0)).foldl (fun a i =>
    let v := s.geti (SNS_TEMP.VALUE (144 + i))
    match a with
    | none => some v
    | some w => some (max v w)) none

/-- The highest valid TFLT temperature among the members of rail `r`, Q9.7 (R182, R186). -/
def State.hottestMember (s : State) (r : Nat) : Option Int :=
  ((s.members r).filter (fun n => s.get (SNS_TEMP.STATUS n) == 0)).foldl (fun a n =>
    let v := s.geti (SNS_TEMP.VALUE n)
    match a with
    | none => some v
    | some w => some (max v w)) none

/-- The result of temperature `k`, where it is valid, is evaluated by its protection, where that is alive (R152, R155, R405). -/
def State.judgeTemp (s : State) (k : Nat) : State :=
  let v := s.geti (SNS_TEMP.VALUE k)
  let judge (x : Prot) (v : Int) (fault warn : FRef) : State :=
    s.judge x (s.watches x && s.hot v fault) (s.watches x && s.hot v warn)
  if s.get (SNS_TEMP.STATUS k) ≠ 0 then s
  else if k < 144 then judge (.pot k) v BLW_OT_PH.FAULT BLW_OT_PH.WARN
  else if k < 153 then judge .die (s.hottestDie.getD v) BLW_OT_DIE.FAULT BLW_OT_DIE.WARN
  else judge (.dio (k - 153)) v (BLW_OT_DIO.FAULT (k - 153)) (BLW_OT_DIO.WARN (k - 153))

/-- TEMP_CONVERSION. A conversion completes: its result is written (R102, R103), and a valid one is evaluated. -/
def execTempConversion (k : Nat) (raw : Int) (st : Nat) (s : State) : Host.Outcome State Fault Refusal :=
  runs (wfTempConversion k raw st) s (fun s => (s.tempResult k raw st).judgeTemp k)

/-- A state load that waits for the chain of rail `r` is discarded with a quench (R162). -/
def State.dropLoads (s : State) (r : Nat) : State :=
  s.each (s.chainOf r) (fun s l => (s.takeRole kSload l).modLn l (fun x => { x with load := false }))

/-- QUENCH OF RAIL `r` from its decision instant (R157 to R160): a ladder's RETRY where a ladder decided it, and the value
the record names. -/
def State.quenchRail (s : State) (r code : Nat) (retry : Option Nat) (value : Nat) : State :=
  let s := ((s.disarm r).setBit BLW_RQ_SUM r true).set (BLW_PROT_STAT.QCAUSE r) code
  let s := (s.dropLoads r).modRl r (fun x => { x with qdue := true, restart := false })
  let n := retry.getD 0
  let again := n != 0 && (n == 7 || decide (s.get (BLW_PROT_STAT.RTRY r) < n)) && !s.on (BLW_PROT_STAT.LATCH r)
  let s := s.setb (BLW_PROT_STAT.HICCUP r) again
  let s := if again then s else s.raiseBit (BLW_PROT_STAT r) 31
  let s := s.fire ([hRqR r, hRq] ++ (if retry.isSome then [hPflt r] else []))
  (s.mramCount (16 + r)).record 4 [r, code, 0, 0, value, value / 2 ^ 8, value / 2 ^ 16, value / 2 ^ 24]

/-- QUENCH OF THE DEVICE from its decision instant (R161): the safe-state channel, and Quench mode at the next T0 (R409). -/
def State.quenchDevice (s : State) (code : Nat) (ladder : Bool) : State :=
  let s := (s.set BLW_STAT.DQCAUSE code).set BLW_STAT.DQ 1
  let s := s.each (List.range 32) State.disarm
  let s := { s with pmu := { s.pmu with due := if s.pmu.due.contains 3 then s.pmu.due else s.pmu.due ++ [3] } }
  (s.instant (fun s => (s.fireSafe).fire (hDq :: (if ladder then [hDflt] else [])))).record 5 [code]

/-- The states of the chain of rail `r` are as the tick found them: a quench decided before T0 + 40 writes none (R158). -/
def State.restoreChain (s : State) (r : Nat) : State :=
  s.each (s.chainOf r) (fun s l => s.modLn l (fun x => { x with st := x.old }))

/-- Every protection of the device. -/
def allProts : List Prot :=
  (List.range 144).map Prot.poc ++ (List.range 32).map Prot.sf ++ (List.range 144).map Prot.pot
    ++ (List.range 32).map Prot.roc ++ (List.range 32).map Prot.ov ++ (List.range 32).map Prot.uv
    ++ (List.range 8).map Prot.vinUv ++ (List.range 8).map Prot.vinOv ++ [.die] ++ (List.range 4).map Prot.dio

/-- The protection is to act: it is alive and its fault filter has reached FILT (R153, R405). -/
def State.protDue (s : State) (x : Prot) : Bool := s.reached x (s.filts x).1 && s.watches x

/-- The filtered value a quench record names (R158): the protection's quantity in the units it is compared in. -/
def State.protValue (s : State) : Prot → Nat
  | .poc n => s.get (PHA_CH_STAT.OCCNT n)
  | .sf r => (s.bl r).sf.cnt
  | .pot n => s.get (SNS_TEMP.VALUE n)
  | .roc r => wrapN 32 (s.iRail r)
  | .ov r => s.pinVolts r
  | .uv r => s.pinVolts r
  | .vinUv c => (s.vinScaled c).1 / 1000
  | .vinOv c => (s.vinScaled c).1 / 1000
  | _ => 0

/-- The protection acts on rail `r`: it watches the rail, or it is an input's quench and the input feeds the rail (R153). -/
def State.actsOn (s : State) (r : Nat) (x : Prot) : Bool :=
  match x with
  | .vinUv c => s.ladAction x == 3 && nbit (s.getT (BLW_VIN_RAILS.RAILS c)) r
  | .vinOv c => s.ladAction x == 3 && nbit (s.getT (BLW_VIN_RAILS.RAILS c)) r
  | _ => s.protRail x == some r

/-- The protection with the lowest cause code. -/
def lowestCause (xs : List Prot) : Option Prot :=
  xs.foldl (fun a x => match a with
    | none => some x
    | some y => if protCode x < protCode y then some x else some y) none

/-- A retry is left to a phase under a ladder's RETRY (R160). -/
def State.dropRetry (s : State) (n retry : Nat) : Bool :=
  retry != 0 && (retry == 7 || decide (s.get (BLW_PH.RCNT n) < retry))

/-- A drop decided by a ladder (R153, R160); `hot` where phase over-temperature decided it. -/
def State.dropPhase (s : State) (n retry : Nat) (hot : Bool) : State :=
  if s.switching n then (s.failPhase n 3).modPh n (fun p => { p with hiccup := s.dropRetry n retry, tooHot := hot })
  else s

/-- The decisions of an evaluation instant (R153, R156): fault bits, drops, and for the device or each rail the highest
action alone, recorded under its lowest cause. -/
def State.protDecide (s : State) : State :=
  let ds := allProts.filter s.protDue
  let act := s.ladAction
  let vals := s.protValue
  let on := s.actsOn
  let retry := s.ladRetry
  let s := s.each ds (fun s x =>
    let f := s.filts x
    (s.setFilts x ({ f.1 with acted := true }, f.2)).when (act x != 0) (fun s => s.raiseFault x))
  let s := s.each (ds.filter (fun x => act x == 2)) (fun s x => match protPhase x with
    | some n => s.dropPhase n (retry x) (protCode x == 3)
    | none => s)
  match lowestCause (ds.filter (fun x => act x == 4)) with
  | some x => s.quenchDevice (protCode x) true
  | none =>
    let s := s.each (List.range 32) (fun s r =>
      let mine := ds.filter (fun x => act x != 0 && on r x)
      match lowestCause (mine.filter (fun x => act x == 3)) with
      | some x =>
        (s.when (decide (4 ≤ protCode x)) (fun s => s.restoreChain r)).quenchRail r (protCode x) (some (retry x)) (vals x)
      | none =>
        if mine.isEmpty || mine.any (fun x => act x == 2) then s
        else (s.fire [hPwarn r]).each mine (fun s x => s.record 3 [r, (s.faultBit x).2]))
    let dev := ds.filter (fun x => act x == 1 && decide (7 ≤ protCode x))
    if dev.isEmpty then s else (s.fire [hDwarn]).each dev (fun s x => s.record 3 [0xFF, (s.faultBit x).2])

/-- THE DECISIONS OF ONE EVALUATION INSTANT, whose records keep the order of R399. -/
def State.protAct (s : State) : State := s.oneInstant State.protDecide

/-- PROTECTION_ACTION. A protection whose filter has reached FILT acts, with every other that is to act at that instant. -/
def execProtectionAction (x : Prot) (s : State) : Host.Outcome State Fault Refusal :=
  runs (wfProtectionAction x) s (fun s => if s.protDue x then s.instant State.protAct else s)

/-- PROTECTION_WARN. A warn threshold has been met for FILT: its bit sets and the producer fires, once for each entry into
the condition (R154). -/
def execProtectionWarn (x : Prot) (s : State) : Host.Outcome State Fault Refusal :=
  runs (wfProtectionWarn x) s (fun s =>
    let f := s.filts x
    if s.reached x f.2 && s.watches x then
      let s := (s.setFilts x (f.1, { f.2 with acted := true })).raiseWarn x
      match s.protRail x with
      | some r => s.fire [hPwarn r]
      | none => s.fire [hDwarn]
    else s)

/-- STAGE_FAULT. TFLT has been above 2.5 V for FLT_FILT, or is no longer above it (log entry 114): TFAULT follows. Above it, a
phase in ACTIVE, BLEND or PARKED fails with cause 1 (R62, R83); the stage-fault ladder counts it, and with ACTION 2 its
retries restore the phase (R152, R160), where the rail's protection is alive (R405). What it fires fires in one instant (R202). -/
def execStageFault (n : Nat) (above : Bool) (s : State) : Host.Outcome State Fault Refusal :=
  runs (wfStageFault n above) s (fun s =>
    let s := s.setb (PHA_CH_STAT.TFAULT n) above
    if !above then s
    else if s.switching n || s.phState n == phParked then
      s.instant (fun s =>
        let x := Prot.sf (s.railOf n)
        let live := s.watches x
        let again := live && s.ladAction x == 2 && s.dropRetry n (s.ladRetry x)
        let s := (s.failPhase n 1).modPh n (fun p => { p with hiccup := again })
        s.when live (fun s =>
          let f := s.filts x
          let s := s.setFilts x ({ f.1 with cnt := satInc 255 f.1.cnt }, f.2)
          s.when (f.1.acted && s.ladAction x != 0) (fun s => s.raiseFault x)))
    else s)

/-- OC_TRIP. ISNSn crosses the threshold `since` steps after the last rising edge of PWMn: within the blanking the comparator
ignores it (R82; log entry 113). Else the comparator of a switching phase trips: latch, status, PHA_OC_g, and OCCNT at the
first trip of a period; a force of the phase ends (R146), and its BLW_REL_r and the trip are events of one instant (R202, R205). -/
def execOcTrip (n : Nat) (since : Nat) (s : State) : Host.Outcome State Fault Refusal :=
  runs (wfOcTrip n since) s (fun s =>
    if s.switching n && s.onT (PHA_CH_OC.OC_TH n) && decide (64 * s.getT (PHA_CH_OC.OC_BLANK n) ≤ since) then
      s.instant (fun s =>
        let s := s.leaveForce n
        let first := !(s.ph n).tripped
        let s := s.modPh n (fun p => { p with ocLatch := true, tripped := true, acted := true })
        let s := (s.set (PHA_CH_STAT.OC n) 1).setBit (PHA_OC_SUM (n / 32)) (n % 32) true
        let s := if first then s.set (PHA_CH_STAT.OCCNT n) (satInc 15 (s.get (PHA_CH_STAT.OCCNT n))) else s
        let s := s.when (first && (s.ph n).pocActed && s.watches (.poc n) && s.ladAction (.poc n) != 0) (fun s => s.raiseFault (.poc n))
        s.fire [hPhaOc (n / 16)])
    else s)

/-- BLW_QUENCH. The event at BLW_QUENCH_r is taken (R157). -/
def execBlwQuench (r : Nat) (s : State) : Host.Outcome State Fault Refusal :=
  runs (wfBlwQuench r) s (fun s =>
    if s.on (EVF_CON.PEND (kQuench r)) then (s.takeEvent (kQuench r)).quenchRail r 11 none 0 else s)

/-- BLW_QUENCH_DEV. The event at BLW_QUENCH_DEV is taken (R161). -/
def execBlwQuenchDev (s : State) : Host.Outcome State Fault Refusal :=
  runs wfBlwQuenchDev s (fun s =>
    if s.on (EVF_CON.PEND kQuenchDev) then (s.takeEvent kQuenchDev).quenchDevice 11 false else s)

/-- A write of BLW_QCMD (R157, R161): OP 3 is reserved. -/
def State.quenchCommand (s : State) (op r : Nat) : State :=
  if op = 1 then s.quenchRail r 12 none 0
  else if op = 2 then s.quenchDevice 12 false
  else if op = 3 then s.set BLW_STAT.WIGN 1
  else s

/-- QUENCH_RAIL_COMMAND. -/
def execQuenchRailCommand (w : Who) (r : Nat) (s : State) : Host.Outcome State Fault Refusal :=
  runs (wfQuenchRailCommand w r) s (fun s =>
    s.asWrite w BLW_QCMD (BitVec.ofNat 32 (2 ^ 30 + r)) (fun s => s.quenchCommand 1 r))

/-- QUENCH_DEVICE_COMMAND. -/
def execQuenchDeviceCommand (w : Who) (s : State) : Host.Outcome State Fault Refusal :=
  runs (wfQuenchDeviceCommand w) s (fun s => s.asWrite w BLW_QCMD 0x80000000 (fun s => s.quenchCommand 2 0))

/-- HOLDOVER_LIMIT. LIMIT µs of holdover without XIN: a device quench (R37, R161). -/
def execHoldoverLimit (s : State) : Host.Outcome State Fault Refusal :=
  runs wfHoldoverLimit s (fun s => if s.on TBU_STAT.HOLDOVER then s.quenchDevice 13 false else s)

/-- ENGINE_PLL_FAULT. The engine clock is out by more than 2 %: a device quench (R38, R161). -/
def execEnginePllFault (s : State) : Host.Outcome State Fault Refusal :=
  runs wfEnginePllFault s (fun s => s.quenchDevice 13 false)

/-- The temperature of phase `n` is not inside its warn threshold, or its fault threshold where no warn threshold is set
(R160). -/
def State.phaseHot (s : State) (n : Nat) : Bool :=
  s.get (SNS_TEMP.STATUS n) == 0
    && s.hot (s.geti (SNS_TEMP.VALUE n)) (if s.on BLW_OT_PH.WARN then BLW_OT_PH.WARN else BLW_OT_PH.FAULT)

/-- The hiccup of rail `r` must wait: the quantity of causes 3, 7 and 8 is not inside its warn threshold, or its fault
threshold where no warn threshold is set (R160). The quantity is that of every member, or of every input that names the rail;
a temperature whose STATUS is not 0 counts as inside (log entry 126). -/
def State.hiccupWaits (s : State) (r : Nat) : Bool :=
  let c := s.get (BLW_PROT_STAT.QCAUSE r)
  let feeds (i : Nat) := nbit (s.getT (BLW_VIN_RAILS.RAILS i)) r
  if c = 3 then (s.members r).any s.phaseHot
  else if c = 7 then
    (List.range 8).any (fun i =>
      let f := if s.onT (BLW_VIN_WTH.UV i) then BLW_VIN_WTH.UV i else BLW_VIN_TH.UV i
      feeds i && s.onT f && decide ((s.vinScaled i).1 ≤ s.getT f * (s.vinScaled i).2))
  else if c = 8 then
    (List.range 8).any (fun i =>
      let f := if s.onT (BLW_VIN_WTH.OV i) then BLW_VIN_WTH.OV i else BLW_VIN_TH.OV i
      feeds i && s.onT f && decide (s.getT f * (s.vinScaled i).2 ≤ (s.vinScaled i).1))
  else false

/-- HICCUP_END. The hiccup time has ended and the quantity allows it: RTRY increments, HICCUP clears and the rail restarts
at the next T0 (R160, R176). -/
def execHiccupEnd (r : Nat) (s : State) : Host.Outcome State Fault Refusal :=
  runs (wfHiccupEnd r) s (fun s =>
    if s.on (BLW_PROT_STAT.HICCUP r) && !s.hiccupWaits r then
      ((s.bump (BLW_PROT_STAT.RTRY r)).set (BLW_PROT_STAT.HICCUP r) 0).modRl r (fun x => { x with restart := true })
    else s)

/-- RETRY_COUNT_CLEAR. 100 ms of regulation without a protection quench (R160). -/
def execRetryCountClear (r : Nat) (s : State) : Host.Outcome State Fault Refusal :=
  runs (wfRetryCountClear r) s (fun s =>
    if s.enabled r && !s.quenched r then s.set (BLW_PROT_STAT.RTRY r) 0 else s)

/-- PHASE_HICCUP_END. A dropped phase's hiccup ends: RCNT increments and the phase is restored at the next T0; one that
over-temperature dropped waits until its temperature is inside the threshold (R160). -/
def execPhaseHiccupEnd (n : Nat) (s : State) : Host.Outcome State Fault Refusal :=
  runs (wfPhaseHiccupEnd n) s (fun s =>
    if (s.ph n).hiccup && s.phState n == phFailed && !((s.ph n).tooHot && s.phaseHot n) then
      (s.bump (BLW_PH.RCNT n)).modPh n (fun p => { p with hiccup := false, gov := 3 })
    else s)

/-- PHASE_RETRY_CLEAR. 100 ms in ACTIVE (R160). -/
def execPhaseRetryClear (n : Nat) (s : State) : Host.Outcome State Fault Refusal :=
  runs (wfPhaseRetryClear n) s (fun s => if s.phState n = phActive then s.set (BLW_PH.RCNT n) 0 else s)

/-- A write of BLW_LATCH_SUM (R159). -/
def State.latchWrite (s : State) (v : Word) : State :=
  s.each (List.range 32) (fun s r => if wbit v r then s.set (BLW_PROT_STAT.LATCH r) 0 else s)

/-- LATCH_CLEAR. -/
def execLatchClear (w : Who) (v : Word) (s : State) : Host.Outcome State Fault Refusal :=
  runs (wfLatchClear w v) s (fun s => s.asWrite w BLW_LATCH_SUM v (fun s => s.latchWrite v))

/-- The thresholds of a rail break an order that R143 sets. -/
def badThresholds (dth rth oth orth pldth : Nat) : Bool :=
  dth == 0 || oth == 0 || pldth == 0 || decide (dth ≤ rth) || decide (pldth ≤ rth) || decide (dth < pldth)
    || decide (oth ≤ orth)

/-- The address is a ladder register's. -/
def isLadder (a : Nat) : Bool :=
  a == BLW_LAD_DIE || inFam a (BLW_LAD_DIO 0) 4 4 || inFam a (BLW_LAD_VIN 0) 8 0x10 || inFam a (BLW_LAD_POC 0) 32 0x40
    || inFam a (BLW_LAD_SF 0) 32 0x40 || inFam a (BLW_LAD_POT 0) 32 0x40 || inFam a (BLW_LAD_ROC 0) 32 0x40
    || inFam a (BLW_LAD_OV 0) 32 0x40 || inFam a (BLW_LAD_UV 0) 32 0x40

/-- Writes of BLW registers with rules of their own (R143, R152, R157, R159). -/
def State.blwWrite (s : State) (a : Nat) (v : Word) : State :=
  let wign := s.set BLW_STAT.WIGN 1
  if a = BLW_QCMD then s.quenchCommand (getBits v 31 30) (getBits v 4 0)
  else if a = BLW_LATCH_SUM then s.latchWrite v
  else if inFam a (BLW_BW_CFG 0) 32 0x40 then
    let r := famIdx a (BLW_BW_CFG 0) 0x40
    if badThresholds (getBits v 23 18) (getBits v 17 12) (getBits v 11 6) (getBits v 5 0) (s.get (BLW_PL.PLDTH r)) then wign
    else s.plainWrite a v
  else if inFam a (BLW_PL 0) 32 0x40 then
    let r := famIdx a (BLW_PL 0) 0x40
    if badThresholds (s.get (BLW_BW_CFG.DTH r)) (s.get (BLW_BW_CFG.RTH r)) (s.get (BLW_BW_CFG.OTH r))
      (s.get (BLW_BW_CFG.ORTH r)) (getBits v 21 16) then wign
    else s.plainWrite a v
  else if inFam a (BLW_VIN_RAILS 0) 8 0x10 then
    (s.plainWrite a v).alertNew s
  else if isLadder a then
    let s' := s.plainWrite a v
    if getBits (s'.rd a) 2 0 = getBits v 2 0 then s' else s'.set BLW_STAT.WIGN 1
  else s.plainWrite a v

end Sys2Proof.Machine
end

