-- ==== Sys2Proof/Machine/Rails.lean ====
section
/-! DEFINITION. Rails: request slots, arbitration, the reference generator, start-up, shut-down and sequencing (R168 to R180, R191 to R196). -/

namespace Sys2Proof.Machine

/-- Slot numbers (R179): AVS, HOST, PMB, FW. -/
def slotAvs : Nat := 0
/-- HOST. -/
def slotHost : Nat := 1
/-- PMB. -/
def slotPmb : Nat := 2
/-- FW. -/
def slotFw : Nat := 3

/-- A VSET as Q8.32 V (R169). -/
def tgt32 (v : Nat) : Nat := (v * 2147483648 + 500) / 1000

/-- The target in force of rail `r` as Q8.32 V. -/
def State.target (s : State) (r : Nat) : Nat := tgt32 (s.get (RLC_RAIL_TGT.TGT r))

/-- OPERATION, as the last T0 sampled it, selects a margin: VOUT_MARGIN_LOW, or VOUT_MARGIN_HIGH (R16, R186). -/
def State.margin (s : State) (r : Nat) : Option Nat :=
  let o := s.getT (RLC_RAIL_PMB.OPER r)
  if o = 0x94 ∨ o = 0x98 then some (s.get (RLC_RAIL_MARG.LOW r))
  else if o = 0xA4 ∨ o = 0xA8 then some (s.get (RLC_RAIL_MARG.HIGH r))
  else none

/-- A request slot is valid (R178). -/
def State.slotValid (s : State) (r slot : Nat) : Bool :=
  if slot = slotAvs then s.on (RLC_RAIL_REQ.AVSV r)
  else if slot = slotHost then s.on (RLC_RAIL_HREF.VALID r)
  else if slot = slotPmb then s.on (RLC_RAIL_REQ.PMBV r)
  else true

/-- What a request slot asks for (R178, R186). -/
def State.slotVset (s : State) (r slot : Nat) : Nat :=
  if slot = slotAvs then s.get (RLC_RAIL_REQ.AVS r)
  else if slot = slotHost then s.get (RLC_RAIL_HREF.VSET r)
  else if slot = slotPmb then (s.rl r).marg.getD (s.get (RLC_RAIL_REQ.PMB r))
  else (s.rl r).fw

/-- The winning slot (R179). -/
def State.winSlot (s : State) (r : Nat) : Nat :=
  let arb := s.get (RLC_RAIL_CTL.ARB r)
  if arb = 2 then slotFw
  else if arb = 1 then
    (whichN 4 (s.slotValid r)).foldl (fun a k =>
      if nth (s.rl r).stamps a 0 < nth (s.rl r).stamps k 0 ∨ s.slotValid r a = false then k else a) 0
  else (whichN 4 (s.slotValid r)).headD slotFw

/-- VMIN or VMAX has clamped or refused a target of rail `r`: STATUS_VOUT bit 3 (R179, R187, R190). -/
def State.limited (s : State) (r : Nat) : State :=
  (s.when (!(s.rl r).vout3) State.alert).modRl r (fun x => { x with vout3 := true })

/-- ARBITRATION of rail `r` (R171, R179): the winner's value, held within VMIN and VMAX, is the pending target where it
differs from the target captured or in force. -/
def State.arbitrate (s : State) (r : Nat) : State :=
  let w := s.winSlot r
  let v := s.slotVset r w
  let c := clampN (s.get (RLC_RAIL_LIM.VMIN r)) (s.get (RLC_RAIL_LIM.VMAX r)) v
  let s := if c ≠ v then s.limited r else s
  let base := ((s.rl r).cap).getD (s.get (RLC_RAIL_TGT.TGT r))
  ((s.set (RLC_RAIL_STAT.WIN r) w).setb (RLC_RAIL_STAT.PENDING r) (c != base)).set (RLC_RAIL_TGT.PEND r)
    (if c = base then 0 else c)

/-- Why a request is refused (R168, R178). -/
inductive Refuse where
  | range | source
deriving DecidableEq, Repr

/-- R168 permits a VSET on rail `r`. -/
def State.vsetOk (s : State) (r v : Nat) : Bool :=
  decide (500 ≤ v) && decide (v ≤ 10000) && decide (v * s.get (RLC_RAIL_SCALE.SCALE r) / 2 ^ 24 ≤ 5000)

/-- VMIN and VMAX of rail `r` admit a VSET (R178). -/
def State.within (s : State) (r v : Nat) : Bool :=
  decide (s.get (RLC_RAIL_LIM.VMIN r) ≤ v) && decide (v ≤ s.get (RLC_RAIL_LIM.VMAX r))

/-- The acceptance of a request (R168, R178). -/
def State.refused (s : State) (r slot v : Nat) : Option Refuse :=
  if !s.vsetOk r v || !s.within r v then some .range
  else if slot < 3 ∧ nbit (s.getT (RLC_RAIL_CTL.SRCEN r)) slot = false then some .source
  else none

/-- A target that R168 permits and VMIN or VMAX refuses is reported on the page (R187). -/
def State.noteLimit (s : State) (r v : Nat) : State := if s.vsetOk r v && !s.within r v then s.limited r else s

/-- A slot takes a value at an order number (R179). -/
def State.stamp (s : State) (r slot ord : Nat) : State :=
  s.modRl r (fun x => { x with stamps := modNth x.stamps slot (fun _ => ord) })

/-- An accepted value goes into its slot (R178). -/
def State.putSlot (s : State) (r slot v : Nat) : State :=
  if slot = slotAvs then (s.set (RLC_RAIL_REQ.AVS r) v).set (RLC_RAIL_REQ.AVSV r) 1
  else if slot = slotHost then (s.set (RLC_RAIL_HREF.VSET r) v).set (RLC_RAIL_HREF.VALID r) 1
  else if slot = slotPmb then (s.set (RLC_RAIL_REQ.PMB r) v).set (RLC_RAIL_REQ.PMBV r) 1
  else (s.set (RLC_RAIL_FREF.VSET r) v).modRl r (fun x => { x with fw := v })

/-- The order number of an accepted write is used up: a later write ranks after it (R179). -/
def State.tickClock (s : State) : State := { s with rlc := { s.rlc with clock := s.rlc.clock + 1 } }

/-- A slot accepts a value, within the cycle in progress (R178, R179). -/
def State.acceptSlot (s : State) (r slot v : Nat) : State :=
  (((s.putSlot r slot v).stamp r slot s.rlc.clock).fire [hVreq r]).arbitrate r

/-- A REQUEST from a source: accepted into its slot, or refused; CMDIGN for HOST and FW (R178). -/
def State.request (s : State) (r slot v : Nat) : Option Refuse × State :=
  match s.refused r slot v with
  | none => (none, (s.acceptSlot r slot v).tickClock)
  | some e => (some e, (if slot = slotHost ∨ slot = slotFw then s.set RLC_STAT.CMDIGN 1 else s).noteLimit r v)

/-- Bit `b` of STATUS_CML of page `r` sets (R184, R190). -/
def State.setCml (s : State) (b r : Nat) : State :=
  (s.when (!nbit (s.rl r).cml b) State.alert).modRl r (fun x => { x with cml := x.cml ||| 2 ^ b })

/-- The margin that OPERATION selects is a request to the PMB slot: accepted, it is the slot's value while the selection
lasts; refused, it leaves the slot unchanged and is reported on the page (R168, R178, R186; log entry 119). -/
def State.takeMargin (s : State) (r : Nat) : State :=
  match s.margin r with
  | none => (s.modRl r (fun x => { x with marg := none })).arbitrate r
  | some v =>
    match s.refused r slotPmb v with
    | none =>
      ((((s.modRl r (fun x => { x with marg := some v })).stamp r slotPmb s.rlc.clock).fire [hVreq r]).arbitrate r).tickClock
    | some _ => if s.vsetOk r v && !s.within r v then s.limited r else s.setCml 6 r

/-- A write of RLC_RAIL_FREF_r (R178, R193). -/
def State.frefCommand (s : State) (r : Nat) (v : Word) : State :=
  let x := getBits v 13 0
  if wbit v 31 then
    match s.refused r slotFw x with
    | some _ => (s.set RLC_STAT.CMDIGN 1).noteLimit r x
    | none =>
      (((s.set (RLC_RAIL_FREF.VSET r) x).set (RLC_RAIL_FREF.ATEN r) 1).set (RLC_RAIL_STAT.ATPEND r) 1).fire [hVreq r]
  else (((s.set (RLC_RAIL_FREF.ATEN r) 0).set (RLC_RAIL_STAT.ATPEND r) 0).request r slotFw x).2

/-- FREF_WRITE. -/
def execFrefWrite (w : Who) (r : Nat) (v : Word) (s : State) : Host.Outcome State Fault Refusal :=
  runs (wfFrefWrite w r v) s (fun s => s.asWrite w (RLC_RAIL_FREF r) v (fun s => s.frefCommand r v))

/-- A pending target is captured by the window that is open (R27, R171). -/
def State.captureTarget (s : State) (r : Nat) : State :=
  if s.on (RLC_RAIL_STAT.PENDING r) then
    ((s.modRl r (fun x => { x with cap := some (s.get (RLC_RAIL_TGT.PEND r)) })).set (RLC_RAIL_STAT.PENDING r) 0).set
      (RLC_RAIL_TGT.PEND r) 0
  else s

/-- The window before flock time AT, or one after it (R193). -/
def State.atDue (s : State) (r : Nat) : Bool :=
  let d := (s.get (RLC_RAIL_AT.AT r) + 2 ^ 32 - (s.flockTime + 1) % 2 ^ 32) % 2 ^ 32
  s.tbu.windowOpen && (d == 0 || decide (2 ^ 31 ≤ d) || (s.graze && decide (d < 4)))

/-- FREF_AT_RELEASE. The held write reaches its slot and the window captures it; ATEN clears (R193). -/
def execFrefAtRelease (r : Nat) (s : State) : Host.Outcome State Fault Refusal :=
  runs (wfFrefAtRelease r) s (fun s =>
    if s.on (RLC_RAIL_FREF.ATEN r) && s.atDue r then
      let v := s.get (RLC_RAIL_FREF.VSET r)
      let s := (s.set (RLC_RAIL_FREF.ATEN r) 0).set (RLC_RAIL_STAT.ATPEND r) 0
      let s := (((s.putSlot r slotFw v).stamp r slotFw s.rlc.clock).arbitrate r).tickClock
      if s.dip then s else s.captureTarget r
    else s)

/-- A write of RLC_RAIL_HREF_r (R178). -/
def State.hrefCommand (s : State) (r : Nat) (v : Word) : State :=
  if wbit v 31 then (s.request r slotHost (getBits v 13 0)).2
  else ((s.set (RLC_RAIL_HREF.VSET r) (getBits v 13 0)).set (RLC_RAIL_HREF.VALID r) 0).arbitrate r

/-- HREF_WRITE. -/
def execHrefWrite (w : Who) (r : Nat) (v : Word) (s : State) : Host.Outcome State Fault Refusal :=
  runs (wfHrefWrite w r v) s (fun s => s.asWrite w (RLC_RAIL_HREF r) v (fun s => s.hrefCommand r v))

/-- A write of RLC_GRP_CMD (R177). -/
def State.groupCommand (s : State) (op g : Nat) : State :=
  if op = 0 then s
  else if op = 3 ∨ g = 0 then s.set RLC_STAT.WIGN 1
  else s.each (List.range 32) (fun s r =>
    if s.get (RLC_RAIL_CTL.GRP r) = g then s.setb (RLC_RAIL_CTL.ON r) (op == 1) else s)

/-- GROUP_ON. -/
def execGroupOn (w : Who) (g : Nat) (s : State) : Host.Outcome State Fault Refusal :=
  runs (wfGroupOn w g) s (fun s =>
    s.asWrite w RLC_GRP_CMD (BitVec.ofNat 32 (2 ^ 30 + g)) (fun s => s.groupCommand 1 g))

/-- GROUP_OFF. -/
def execGroupOff (w : Who) (g : Nat) (s : State) : Host.Outcome State Fault Refusal :=
  runs (wfGroupOff w g) s (fun s =>
    s.asWrite w RLC_GRP_CMD (BitVec.ofNat 32 (2 ^ 31 + g)) (fun s => s.groupCommand 2 g))

/-- TON_DELAY_END. The turn-on delay of a rail in TON_DLY has ended: the next T0 is its enable instant (R173). -/
def execTonDelayEnd (r : Nat) (s : State) : Host.Outcome State Fault Refusal :=
  runs (wfTonDelayEnd r) s (fun s =>
    if s.railState r = railTonDly then s.modRl r (fun x => { x with delayDone := true }) else s)

/-- TOFF_DELAY_END. The turn-off delay of a rail in TOFF_DLY has ended: the rail enters FALL at the next T0 (R175). -/
def execToffDelayEnd (r : Nat) (s : State) : Host.Outcome State Fault Refusal :=
  runs (wfToffDelayEnd r) s (fun s =>
    if s.railState r = railToffDly then s.modRl r (fun x => { x with delayDone := true }) else s)

/-- The on request of rail `r` (R180). -/
def State.onReq (s : State) (r : Nat) : Bool :=
  let c := s.getT (RLC_RAIL_PMB.ONCFG r)
  s.onT (RLC_RAIL_CTL.ON r) && (c == 0x10 || (c == 0x18 && nbit (s.getT (RLC_RAIL_PMB.OPER r)) 7))

/-- The rail's slot goes to a state; PG and SSDONE follow (R174); leaving REG sets POWER_GOOD#, and leaving RAMP or REG for
another state sets OFF (R187, R190). -/
def State.toRail (s : State) (r st : Nat) : State :=
  let was := s.railState r
  let s := s.when ((was == railReg && st != railReg) || (was == railRamp && st != railRamp && st != railReg)) State.alert
  let s := (s.set (RLC_RAIL_STAT.STATE r) st).setb (RLC_RAIL_STAT.PG r) (st == railReg)
  if st = railReg ∨ st = railWaitOff ∨ st = railToffDly then s else s.set (RLC_RAIL_STAT.SSDONE r) 0

/-- R_out of rail `r` replaced. -/
def State.setRout (s : State) (r v : Nat) : State := s.modRl r (fun x => { x with rout := v })

/-- AUTOFR forces the full-range conversion, or ends it (R173, R174, R176). -/
def State.autoFr (s : State) (r : Nat) (b : Bool) : State :=
  if s.onT (RLC_RAIL_CTL.AUTOFR r) then s.setb (SNS_VS_CFG.FORCE_FR r) b else s

/-- The rail enters OFF (R175, R176): the rail disable of R75, RLC_OFF_r, the AVS slot; a quench, hiccup or latch ends. -/
def State.railToOff (s : State) (r : Nat) : State :=
  let s := ((s.dropForce r).toRail r railOff).setRout r 0
  let s := s.disableMembers r
  let s := (s.setBit BLW_RQ_SUM r false).set (BLW_PROT_STAT.HICCUP r) 0
  let s := (s.set (BLW_PROT_STAT.LATCH r) 0).modRl r (fun x => { x with restart := false, delayDone := false, qdue := false })
  let s := { s with pmu := { s.pmu with dq := modNth s.pmu.dq r (fun _ => false) } }
  ((s.set (RLC_RAIL_REQ.AVSV r) 0).arbitrate r).fire [hRoff r]

/-- The ramp step per Run tick for a distance (R174), and the fall step (R175). -/
def rampStep (dist us : Nat) : Nat := if us = 0 then dist else (dist + us * 20 - 1) / (us * 20)

/-- The distance of two numbers. -/
def apart (a b : Nat) : Nat := (a - b) + (b - a)

/-- THE ENABLE INSTANT of rail `r` at a T0 (R173, R174, R115): R_start, the ramp step, the members, the master carrier and
the state load of the chain; the full-range code of the tick gives the voltage a pre-biased start begins from. -/
def State.enableRail (s : State) (r : Nat) (t : TickIn) : State :=
  let full := 16 * (((lookup t.vs r).getD ([], 0)).2 % 4096) * 640
  let tgt := s.target r
  let start := if s.onT (RLC_RAIL_CTL.PB r) then min tgt (full * 2 ^ 24 / s.get (RLC_RAIL_SCALE.SCALE r) * 256) else 0
  let s := (s.toRail r railRamp).setRout r start
  let s := s.modRl r (fun x => { x with
    step := rampStep (tgt - start) (s.get (RLC_RAIL_TON.RISE r))
    restart := false
    delayDone := false })
  let s := (s.setBit BLW_RQ_SUM r false).modBl r (fun b => { b with sf := {} })
  let s := { s with pmu := { s.pmu with dq := modNth s.pmu.dq r (fun _ => false) } }
  let s := ((s.enableMembers r).startMaster r s.tbu.now).recompute r s.tbu.now
  s.each (s.chainOf r) (fun s l => s.modLn l (fun x => { x with load := true }))

/-- QUENCH reaches the slot at the first T0 after its decision (R176); under boundary scan the slot is OFF and stays so
(R458). -/
def State.quenchSlot (s : State) (r : Nat) : State :=
  if s.jtagHolds then s.modRl r (fun x => { x with qdue := false }) else (((s.toRail r railQuenched).setRout r 0).autoFr r true).modRl r (fun x => { x with qdue := false, delayDone := false })

/-- Every earlier rail of the group is in REG (R177). -/
def State.seqOn (s : State) (r : Nat) : Bool :=
  let g := s.get (RLC_RAIL_CTL.GRP r)
  g == 0 || (List.range 32).all (fun q => q == r || s.get (RLC_RAIL_CTL.GRP q) != g
    || decide (s.get (RLC_RAIL_CTL.SEQ r) ≤ s.get (RLC_RAIL_CTL.SEQ q)) || !s.onReq q || s.railState q == railReg)

/-- Every later rail of the group is OFF or QUENCHED (R177). -/
def State.seqOff (s : State) (r : Nat) : Bool :=
  let g := s.get (RLC_RAIL_CTL.GRP r)
  g == 0 || (List.range 32).all (fun q => q == r || s.get (RLC_RAIL_CTL.GRP q) != g
    || decide (s.get (RLC_RAIL_CTL.SEQ q) ≤ s.get (RLC_RAIL_CTL.SEQ r)) || s.railState q == railOff
    || s.railState q == railQuenched)

/-- R_out of rail `r` moves by one tick's step and never passes its target (R170, R174, R175). -/
def State.advanceRef (s : State) (r : Nat) : State :=
  let st := s.railState r
  let k := if s.graze then 4 else 1
  let cur := (s.rl r).rout
  let go (tgt d : Nat) := if cur < tgt then min tgt (cur + d) else max tgt (cur - d)
  if st = railRamp then s.setRout r (go (s.target r) ((s.rl r).step * k))
  else if st = railReg ∨ st = railWaitOff ∨ st = railToffDly then
    let sl := if cur < s.target r then s.getT (RLC_RAIL_SLEW.UP r) else s.getT (RLC_RAIL_SLEW.DN r)
    s.setRout r (go (s.target r) ((sl * 2147483648 + 50000) / 100000 * k))
  else if st = railFall then s.setRout r (go 0 ((s.rl r).step * k))
  else s

/-- One transition of rail `r` at a T0 (R173 to R177, R192), with the rails that were OFF, or QUENCHED, before it. -/
def State.moveRail (s : State) (r : Nat) (offs quen : List Nat) (t : TickIn) : State :=
  let st := s.railState r
  let on := s.onReq r
  let foll := s.follower r
  if st = railOff then
    if on && offs.contains r && s.mode != modeKindle && !s.inQuench && !s.on (BLW_PROT_STAT.LATCH r) && !s.jtagHolds then
      s.toRail r railWaitOn
    else s
  else if st = railQuenched then
    if !quen.contains r then s
    else if !on then s.railToOff r
    else if (s.rl r).restart && !s.inQuench then
      if foll && !(s.rl r).goodFrame then
        ((s.toRail r railTonDly).setBit BLW_RQ_SUM r false).modRl r (fun x => { x with restart := false, delayDone := true })
      else s.enableRail r t
    else s
  else if st = railWaitOn then
    if !on then s.railToOff r
    else if s.seqOn r then
      ((s.toRail r railTonDly).modRl r (fun x => { x with delayDone := s.get (RLC_RAIL_TON.DLY r) == 0 })).autoFr r true
    else s
  else if st = railTonDly then
    if !on then s.railToOff r
    else if (s.rl r).delayDone && (!foll || (s.rl r).goodFrame) then s.enableRail r t
    else s
  else if foll && !on then s.railToOff r
  else if foll && (!(s.rl r).goodFrame || (s.rl r).toTon) then
    (((((s.dropForce r).toRail r railTonDly).setRout r 0).disableMembers r).autoFr r true).modRl r (fun x => { x with
      delayDone := true
      toTon := false })
  else if st = railRamp then
    if !on then s.toRail r railWaitOff
    else if (s.rl r).rout = s.target r then
      (((s.toRail r railReg).set (RLC_RAIL_STAT.SSDONE r) 1).autoFr r false).fire [hPg r]
    else s
  else if st = railReg then
    if !on then s.toRail r railWaitOff else s
  else if st = railWaitOff then
    if on then s.toRail r railReg
    else if s.seqOff r then
      (s.toRail r railToffDly).modRl r (fun x => { x with delayDone := s.get (RLC_RAIL_TOFF.DLY r) == 0 })
    else s
  else if st = railToffDly then
    if on then s.toRail r railReg
    else if (s.rl r).delayDone then
      (s.toRail r railFall).modRl r (fun x => { x with
        step := rampStep x.rout (s.get (RLC_RAIL_TOFF.FALL r))
        delayDone := false })
    else s
  else
    if on then
      (s.toRail r railRamp).modRl r (fun x => { x with
        step := rampStep (apart (s.target r) x.rout) (s.get (RLC_RAIL_TON.RISE r)) })
    else if (s.rl r).rout = 0 then s.railToOff r
    else s

/-- Transitions that take no time follow one another at one T0. -/
def State.moveRails (s : State) (offs quen : List Nat) (t : TickIn) : Nat → State
  | 0 => s
  | k + 1 => (s.each (List.range 32) (fun s r => s.moveRail r offs quen t)).moveRails offs quen t k

/-- THE RAIL SLOTS AT A T0 (R170 to R177): targets in force, quenches, immediate offs, slew, and the state machine;
`offs` and `quen` name the rails that were OFF and QUENCHED before it, `opers` those whose OPERATION this T0 has sampled
with a new value. -/
def State.railTick (s : State) (offs quen opers : List Nat) (t : TickIn) : State :=
  let s := s.each (List.range 32) (fun s r => match (s.rl r).cap with
    | some v => (s.set (RLC_RAIL_TGT.TGT r) v).modRl r (fun x => { x with cap := none })
    | none => s)
  let s := s.each opers State.takeMargin
  let s := s.each (List.range 32) (fun s r => if (s.rl r).qdue then s.quenchSlot r else s)
  let s := s.each (List.range 32) State.advanceRef
  let s := s.each (List.range 32) (fun s r =>
    let off := (s.rl r).immOff && s.getT (RLC_RAIL_PMB.OPER r) == 0 && s.railState r != railQuenched && s.railState r != railOff
    (if off then s.railToOff r else s).modRl r (fun x => { x with immOff := false }))
  let s := s.moveRails offs quen t 10
  s.each (List.range 32) (fun s r =>
    ((s.modRl r (fun x => { x with toTon := false })).setb (RLC_RAIL_STAT.SLEWING r) ((s.rl r).rout != s.target r)).rearm r)

/-- The rail currents, voltages and temperatures of the tick join the means (R182, R185). -/
def State.pushHist (s : State) : State :=
  let s := s.each (List.range 32) (fun s r =>
    let e := (s.iRail r, (nth s.sns.good (144 + r) 0).toNat)
    let h := s.hottestMember r
    s.modRl r (fun x => { x with hist := (e :: x.hist).take 256, temps := (h :: x.temps).take 256 }))
  { s with rlc := { s.rlc with
    vinHist := (((List.range 8).map s.vinValue) :: s.rlc.vinHist).take 256
    dieHist := (s.hottestDie :: s.rlc.dieHist).take 256 } }

/-- A write of RLC_RAIL_LIM_r (R195): a bound out of order, or one that breaks R196 code 4 under the lock, is ignored. -/
def State.limWrite (s : State) (r lo hi : Nat) : State :=
  let above := s.on RLC_COMMIT.LOCK && decide (5000 < hi * s.get (RLC_RAIL_SCALE.SCALE r) / 2 ^ 24)
  let loBad := decide (lo < 500) || decide ((if above then s.get (RLC_RAIL_LIM.VMAX r) else hi) < lo)
  let hiBad := above || decide (hi < (if lo < 500 then s.get (RLC_RAIL_LIM.VMIN r) else lo))
  let s := if hiBad then s else s.set (RLC_RAIL_LIM.VMAX r) hi
  let s := if loBad then s else s.set (RLC_RAIL_LIM.VMIN r) lo
  ((if hiBad || loBad then s.set RLC_STAT.WIGN 1 else s)).arbitrate r

/-- The RLC check: code and rail (R196, R464). -/
def State.rlcCheck (s : State) : Option (Nat × Nat) :=
  let maps := (List.range 16).flatMap (fun p =>
    if s.on (RLC_AVS_CFG.EN p) then
      (List.range 4).filterMap (fun k =>
        let e := s.get (RLC_AVS_CFG.MAP p) / 2 ^ (7 * k) % 128
        if 64 ≤ e then some (e % 32) else none)
    else [])
  let span (r : Nat) (lead : Bool) := (List.range 6).any (fun n =>
    s.on (FLK_SPAN.EN n) && s.get (FLK_SPAN.RAIL n) == r && (!lead || !s.on (FLK_SPAN.ROLE n)))
  firstOf [
    firstFail 32 1 (fun r => decide (1 < (maps.filter (· == r)).length)),
    firstFail 32 2 (fun r => span r false && s.get (RLC_RAIL_CTL.ARB r) != 2),
    firstFail 32 3 (fun r => span r true && !(s.on (PHA_RAIL_CFG.INTLV r) && s.on (PHA_RAIL_CFG.GRIDSYNC r))),
    firstFail 32 4 (fun r =>
      let sc := s.get (RLC_RAIL_SCALE.SCALE r)
      decide (sc < 0x400000) || decide (0x1000000 < sc) || decide (5000 < s.get (RLC_RAIL_LIM.VMAX r) * sc / 2 ^ 24))]

/-- A write of 1 to RLC_COMMIT.LOCK (R196). -/
def State.rlcLock (s : State) : State :=
  match s.rlcCheck with
  | none => ((s.set RLC_COMMIT.RESULT 0).set RLC_COMMIT.WHERE 0).set RLC_COMMIT.LOCK 1
  | some (c, i) =>
    (s.set RLC_COMMIT.RESULT c).set RLC_COMMIT.WHERE i

/-- RLC_COMMIT_LOCK. -/
def execRlcCommitLock (w : Who) (s : State) : Host.Outcome State Fault Refusal :=
  runs (wfRlcCommitLock w) s (fun s => s.asWrite w RLC_COMMIT 1 State.rlcLock)

/-- OPERATION of rail `r` is set: it acts from the next T0, 0x00 as the immediate off (R16, R175, R186). -/
def State.setOper (s : State) (r v : Nat) : State :=
  (s.set (RLC_RAIL_PMB.OPER r) v).modRl r (fun x => { x with immOff := v == 0 })

/-- A margin of rail `r` has been written: while OPERATION selects one it is a new request (R178, R186). -/
def State.remargin (s : State) (r : Nat) : State := if (s.margin r).isSome then s.takeMargin r else s

/-- Writes of RLC registers with rules of their own. -/
def State.rlcWrite (s : State) (a : Nat) (v : Word) : State :=
  let s := if s.lockBars a v then s.set RLC_STAT.WIGN 1 else s
  if a = RLC_GRP_CMD then s.groupCommand (getBits v 31 30) (getBits v 2 0)
  else if inFam a (RLC_RAIL_FREF 0) 32 0x40 then s.frefCommand (famIdx a (RLC_RAIL_FREF 0) 0x40) v
  else if inFam a (RLC_RAIL_HREF 0) 32 0x40 then s.hrefCommand (famIdx a (RLC_RAIL_HREF 0) 0x40) v
  else if inFam a (RLC_RAIL_LIM 0) 32 0x40 then s.limWrite (famIdx a (RLC_RAIL_LIM 0) 0x40) (getBits v 13 0) (getBits v 29 16)
  else if inFam a (RLC_RAIL_CTL 0) 32 0x40 then (s.plainWrite a v).arbitrate (famIdx a (RLC_RAIL_CTL 0) 0x40)
  else if inFam a (RLC_RAIL_MARG 0) 32 0x40 then (s.plainWrite a v).remargin (famIdx a (RLC_RAIL_MARG 0) 0x40)
  else if inFam a (RLC_RAIL_PMB 0) 32 0x40 then
    let r := famIdx a (RLC_RAIL_PMB 0) 0x40
    let s' := s.plainWrite a v
    if s'.get (RLC_RAIL_PMB.OPER r) = s.get (RLC_RAIL_PMB.OPER r) then s' else s'.setOper r (s'.get (RLC_RAIL_PMB.OPER r))
  else if inFam a (RLC_AVS_CFG 0) 16 8 then s.plainWrite a (v &&& 0xFBF7EFDF)
  else s.plainWrite a v

end Sys2Proof.Machine
end

