-- ==== Sys2Proof/Machine/Mfu.lean ====
section
/-! DEFINITION. The motion feedback unit: counting, latch and compare, speed and drive (R425 to R439). -/

namespace Sys2Proof.Machine

/-- A flag of channel `m` that its interrupt source takes in is set (R438, R439). -/
def State.mfuFlag (s : State) (m : Nat) : Bool :=
  let ie := s.get (MFU_CH_CFG.IEN m)
  (nbit ie 0 && (s.on (MFU_CH_STAT.QERR m) || s.on (MFU_CH_STAT.HALLERR m))) || (nbit ie 1 && s.on (MFU_CH_STAT.STALL m))
    || (nbit ie 2 && s.on (MFU_CH_STAT.LATOVR m)) || (nbit ie 3 && s.on (MFU_CH_STAT.FBACT m))
    || (nbit ie 4 && s.on (MFU_CH_STAT.CMPEND m))

/-- A change of channel `m`, with its interrupt source's rising edge (R438). -/
def State.mfuDo (s : State) (m : Nat) (f : State → State) : State :=
  let before := s.mfuFlag m
  let s := f s
  s.when (!before && s.mfuFlag m) (fun s => s.icuRaise (88 + m))

/-- The counting rule of a mode for filtered levels `o` and `n` (bit 0 A, bit 1 B, bit 2 C): the count, and whether it is a
sequence error (R426, R427). -/
def mfuRule (mode o n : Nat) : Int × Bool :=
  let rise (i : Nat) := !nbit o i && nbit n i
  let quad (v : Nat) : Nat := if nbit v 0 then (if nbit v 1 then 2 else 3) else (if nbit v 1 then 1 else 0)
  let hall (v : Nat) : Option Nat := [1, 3, 2, 6, 4, 5].idxOf? v
  let turn (d k : Nat) : Int × Bool := if d = 0 then (0, false) else if d = 1 then (1, false) else if d + 1 = k then (-1, false)
    else (0, true)
  if mode = 1 then turn ((quad n + 4 - quad o) % 4) 4
  else if mode = 2 then (if rise 0 then (if nbit n 1 then -1 else 1) else 0, false)
  else if mode = 3 then ((if rise 0 then 1 else 0) - (if rise 1 then 1 else 0), false)
  else if mode = 4 then
    match hall o, hall n with
    | some a, some b => turn ((b + 6 - a) % 6) 6
    | _, none => (0, o != n)
    | none, _ => (0, false)
  else (0, false)

/-- The compare list after a count in direction `c` has made POS equal to `p` (R432). -/
def State.compareMatch (s : State) (m : Nat) (c : Int) (p : Word) : State :=
  let i := s.get (MFU_CH_CMPCTL.NEXT m)
  let n := s.get (MFU_CH_CMPCTL.CMPCNT m)
  let d := s.get (MFU_CH_CMPCTL.CMPDIR m)
  if s.on (MFU_CH_CFG.FUNC m) && !(s.mf m).stopped && decide (i < n) && s.rd (MFU_CH_CMP m i) == p
    && (d == 0 || (d == 1 && decide (0 < c)) || (d == 2 && decide (c < 0))) then
    let s := s.fire [hMfu m 1]
    if i + 1 < n then s.set (MFU_CH_CMPCTL.NEXT m) (i + 1)
    else if s.on (MFU_CH_CMPCTL.CYCLIC m) then s.set (MFU_CH_CMPCTL.NEXT m) 0
    else ((s.set (MFU_CH_CMPCTL.NEXT m) (i + 1)).set (MFU_CH_STAT.CMPEND m) 1).modMf m (fun x => { x with stopped := true })
  else s

/-- A count that moves POS by +1 or −1 at unit clock `time` (R426, R429, R433). -/
def State.mfuCount (s : State) (m : Nat) (c : Int) (time : Nat) : State :=
  let old := s.rd (MFU_CH_POS m)
  let p := wordOf ((old.toNat : Int) + c)
  let s := (s.wr (MFU_CH_POS m) p).modMf m (fun x => { x with e2 := some time, n := x.n + c })
  let wrap := (decide (0 < c) && old == 0xFFFFFFFF) || (decide (c < 0) && old == 0)
  let s := if wrap then
      let t := (s.mf m).tally + c
      let s := s.when (decide (32767 < absI t)) (fun s => s.set (MFU_CH_STAT.WOVF m) 1)
      (s.modMf m (fun x => { x with tally := clampI (-32767) 32767 t })).fire [hMfu m 0]
    else s
  s.compareMatch m c p

/-- An edge of the latch source to level `lvl`, `sub` cycles into the tick (R431). -/
def State.mfuLatch (s : State) (m : Nat) (lvl : Bool) (sub : Nat) : State :=
  let e := s.get (MFU_CH_CFG.LATEDGE m)
  if !s.on (MFU_CH_CFG.EN m) || s.on (MFU_CH_CFG.FUNC m) || !(e == 2 || (e == 0 && lvl) || (e == 1 && !lvl)) then s
  else if s.on (MFU_CH_STAT.LATV m) then s.set (MFU_CH_STAT.LATOVR m) 1
  else
    let s := s.wr (MFU_CH_LATPOS m) (s.rd (MFU_CH_POS m))
    let s := (s.set (MFU_CH_LATTBC.TBC m) (s.tbu.tbc.toNat % 2 ^ 24)).set (MFU_CH_LATTBC.SUB m) (sub / 10 * 10)
    (s.set (MFU_CH_STAT.LATV m) 1).fire [hMfu m 1]

/-- MFU_EDGE. New filtered levels of A, B and C at `time`: C/IDX as the latch source first, before any count (R426 to R429,
R431, R432); what they fire fires in one instant (R202). -/
def execMfuEdge (m : Nat) (lv : Nat) (time : MfuTime) (s : State) : Host.Outcome State Fault Refusal :=
  runs (wfMfuEdge m lv time) s (fun s => s.instant (fun s => s.mfuDo m (fun s =>
    let mode := s.get (MFU_CH_CFG.MODE m)
    let o := (s.mf m).lv
    let s := (s.modMf m (fun x => { x with lv := lv })).set (MFU_CH_STAT.HALL m) lv
    let s := if s.on (MFU_CH_CFG.LATSRC m) && nbit o 2 != nbit lv 2 then s.mfuLatch m (nbit lv 2) time.sub else s
    if !s.on (MFU_CH_CFG.EN m) then s
    else
      let r := mfuRule mode o lv
      if r.2 then
        (s.set (if mode = 1 then MFU_CH_STAT.QERR m else MFU_CH_STAT.HALLERR m) 1).fire [hMfu m 2]
      else
        let c := if s.on (MFU_CH_CFG.DIRINV m) then - r.1 else r.1
        if c = 0 then s
        else if s.on (MFU_CH_CFG.HYST m) && (mode == 1 || mode == 4) && (s.on (MFU_CH_STAT.DIR m) != decide (0 < c)) then
          s.setb (MFU_CH_STAT.DIR m) (decide (0 < c))
        else s.mfuCount m c time.clock)))

/-- PROBE_EDGE. An edge of MFm_PRB, which acts where LATSRC selects that pin (R431). -/
def execProbeEdge (m : Nat) (lvl : Bool) (sub : Nat) (s : State) : Host.Outcome State Fault Refusal :=
  runs (wfProbeEdge m lvl sub) s (fun s => s.mfuDo m (fun s =>
    if s.on (MFU_CH_CFG.LATSRC m) then s else s.mfuLatch m lvl sub))

/-- A read of MFU_CH_POS_m (R429). -/
def State.readPos (s : State) (m : Nat) : Word × State :=
  (s.rd (MFU_CH_POS m), (s.seti (MFU_CH_WRAPS.NET m) (s.mf m).tally).modMf m (fun x => { x with tally := 0 }))

/-- POS_READ. -/
def execPosRead (w : Who) (m : Nat) (s : State) : Host.Outcome State Fault Refusal :=
  runs (wfPosRead w m) s (fun s => s.asRead w (MFU_CH_POS m) (fun s => s.readPos m))

/-- POS_WRITE. -/
def execPosWrite (w : Who) (m : Nat) (v : Word) (s : State) : Host.Outcome State Fault Refusal :=
  runs (wfPosWrite w m v) s (fun s => s.asWrite w (MFU_CH_POS m) v (fun s => s.wr (MFU_CH_POS m) v))

/-- A quotient rounded to the nearest integer and held at ±0x7FFF_FFFF (R433). -/
def spdOf (n : Int) (dt : Nat) : Int := clampI (-2147483647) 2147483647 (roundAway (n * 1600000000) dt)

/-- SPEED_UPDATE. The update of the T0 just taken, at unit clock `time`: the lanes of that tick have read the speed before
it, and those of the next tick read this one (R433, R434). -/
def execSpeedUpdate (m : Nat) (time : Nat) (s : State) : Host.Outcome State Fault Refusal :=
  runs (wfSpeedUpdate m time) s (fun s => s.mfuDo m (fun s =>
    if !s.on (MFU_CH_CFG.EN m) || s.get (MFU_CH_CFG.MODE m) == 0 || s.tbu.tbc.toNat % s.get (MFU_CH_SPDCFG.UPDT m) != 0 then s
    else
      let c := s.mf m
      let prev := s.geti (MFU_CH_SPD.SPD m)
      let s := s.modMf m (fun x => { x with e1 := x.e2, n := 0, upd := true })
      let put (s : State) (v : Int) := (s.seti (MFU_CH_SPD.SPD m) v).fire [hMfu m 3]
      if c.n ≠ 0 then
        let s := s.set (MFU_CH_STAT.STALL m) 0
        if !c.upd then put s 0
        else match c.e1, c.e2 with
          | some a, some b => if a < b then put s (spdOf c.n (b - a)) else put s.drawn (sword s.freeVal)
          | _, _ => put s.drawn (sword s.freeVal)
      else match c.e2 with
        | none => put ((s.drawn).setb (MFU_CH_STAT.STALL m) (wbit s.freeVal 0)) 0
        | some b =>
          if b + s.get (MFU_CH_SPDCFG.STALL_US m) * 100 < time then put (s.set (MFU_CH_STAT.STALL m) 1) 0
          else if !c.upd then put s 0
          else if time ≤ b then put s.drawn (sword s.freeVal)
          else put s (prev.sign * ((min (absI prev) (1600000000 / (time - b)) : Nat) : Int))))

/-- The enabled SRC 2 lane with the lowest number that names channel `m` (R435). -/
def State.mfuLane (s : State) (m : Nat) : Option Nat :=
  (whichN 34 (fun l => s.laneEn l && s.laneSrc l == 2 && s.get (ANV_LN_CFG.MFUCH l) == m)).head?

/-- A channel that no lane drives any longer enters fallback (R436). -/
def State.mfuFallback (s : State) (m : Nat) : State :=
  if s.on (MFU_CH_DRV.OSRC m) && (s.mfuLane m).isNone then s.mfuDo m (fun s => s.set (MFU_CH_STAT.FBACT m) 1) else s

/-- From a reset of kind C, B, P or W, a wake from Ember among them, until Kindle completes (R421, R437). -/
def State.unKindled (s : State) : Bool :=
  (match s.pmu.rst with
    | some k => k != 5
    | none => false) || (s.nvc.kopen && s.nvc.kkind != 5)

/-- Until Kindle completes and in Ember, the MFU outputs are low and the PMBus and AVSBus pins released (R421, R437). -/
def State.pinsIdle (s : State) : Bool := s.pmu.ember || s.unKindled

/-- PWM_PERIOD_START. The period takes the command in force (R435, R436). -/
def execPwmPeriodStart (m : Nat) (s : State) : Host.Outcome State Fault Refusal :=
  runs (wfPwmPeriodStart m) s (fun s =>
    if s.pinsIdle then s.modMf m (fun x => { x with high := 0, dir := false })
    else
      let s := s.mfuFallback m
      let c := if !s.on (MFU_CH_DRV.OSRC m) then s.geti (MFU_CH_CMD.CMD m)
        else if s.on (MFU_CH_STAT.FBACT m) then s.geti (MFU_CH_FB.FBD m)
        else floorDiv (s.mf m).laneOut ((2 ^ s.get (MFU_CH_DRV.OSHIFT m) : Nat) : Int)
      let top : Int := (min (s.get (MFU_CH_MAXD.MAXD m)) (s.get (MFU_CH_DRV.PWMPER m)) : Nat)
      let bi := s.on (MFU_CH_DRV.BIPOLAR m)
      let d0 := clampI (-top) top c
      let d := if !bi && decide (d0 < 0) then 0 else d0
      (s.seti (MFU_CH_DUTY.D m) d).modMf m (fun x => { x with
        c := c
        high := absI d
        dir := if bi then (decide (d < 0) != s.on (MFU_CH_DRV.DIRPOL m)) else s.on (MFU_CH_DRV.DIRREG m) }))

/-- The lanes deliver their outputs to the channels they drive; a faulted lane delivers none (R435, R136). -/
def State.mfuDeliver (s : State) (bad : List Nat) : State :=
  s.each (List.range 8) (fun s m => match s.mfuLane m with
    | some l => if bad.contains l then s else s.modMf m (fun x => { x with laneOut := sword (s.ln l).y })
    | none => s)

/-- Writes of MFU registers with rules of their own (R426, R428, R431 to R433, R436); every write of a channel's CFG is a MODE
write (log entry 87). -/
def State.mfuWrite (s : State) (a : Nat) (v : Word) : State :=
  if inFam a (MFU_CH_CFG 0) 8 0x100 then
    let m := famIdx a (MFU_CH_CFG 0) 0x100
    s.mfuDo m (fun s =>
      let en := s.on (MFU_CH_CFG.EN m)
      let src := s.get (MFU_CH_CFG.LATSRC m)
      let s := s.plainWrite a v
      let bad := wbit v 24 && s.get (MFU_CH_CFG.MODE m) != 1
      let s := if bad then (s.set (MFU_CH_CFG.LATSRC m) src).set MFU_STAT.WIGN 1 else s
      let rose := !en && s.on (MFU_CH_CFG.EN m)
      let s := s.when rose (fun s => s.set (MFU_CH_STAT.DIR m) 1)
      let s := s.modMf m (fun x => { x with upd := false })
      if s.get (MFU_CH_CFG.MODE m) = 0 then s.wr (MFU_CH_SPD m) 0 else s)
  else if inFam a (MFU_CH_POS 0) 8 0x100 then s.wr a v
  else if inFam a (MFU_CH_DRV 0) 8 0x100 then
    let m := famIdx a (MFU_CH_DRV 0) 0x100
    let s := s.plainWrite a v
    (if !wbit v 31 || (s.mfuLane m).isSome then s.set (MFU_CH_STAT.FBACT m) 0 else s).mfuFallback m
  else if inFam a (MFU_CH_CMPCTL 0) 8 0x100 then
    (s.plainWrite a v).modMf (famIdx a (MFU_CH_CMPCTL 0) 0x100) (fun x => { x with stopped := false })
  else s.plainWrite a v

end Sys2Proof.Machine
end

