-- ==== Sys2Proof/Machine/Migrate.lean ====
section
/-! DEFINITION. Parity faults of Anvil lanes: correction, migration to a spare, lane failure and the background checker (R128, R136 to R139). -/

namespace Sys2Proof.Machine

/-- The rail number a record names for a lane: 0xFF where its chain ends at none (R357). -/
def State.recRail (s : State) (l : Nat) : Nat := (s.chainRail l).getD 0xFF

/-- The lane that can take over: the lowest with EN 0, SPARE 1 and FAULTED 0 (R137). -/
def State.spareLane (s : State) : Option Nat :=
  (whichN 34 (fun m => !s.laneEn m && s.on (ANV_LN_CFG.SPARE m) && !s.on (ANV_LN_STAT.FAULTED m))).head?

/-- LANE FAILURE of lane `l` with word `w` (R139): ANV_LANEFAIL, the record, and the quench of its rail, or an SRC 2 lane
disabled with its channel in fallback (R436). -/
def State.laneFail (s : State) (l w : Nat) : State :=
  let r := s.chainRail l
  let s := (s.fire [hLanefail]).record 2 [l, 0xFF, s.recRail l, w, 1]
  match r with
  | some r => s.quenchRail r 9 none 0
  | none =>
    if s.laneSrc l = 2 then
      let m := s.get (ANV_LN_CFG.MFUCH l)
      let driven := s.on (MFU_CH_DRV.OSRC m) && s.mfuLane m == some l
      let s := s.set (ANV_LN_CFG.EN l) 0
      s.when driven (fun s => s.mfuDo m (fun s => s.set (MFU_CH_STAT.FBACT m) 1))
    else s

/-- The faulty words of lane `l`'s active bank are corrected from their check bits (R137). -/
def State.correctWords (s : State) (l : Nat) (ws : List Nat) : State :=
  let b := s.activeBank l
  { s with anv := { s.anv with flips := ws.foldl (fun f w => spDel f (bankKey l b w)) s.anv.flips } }

/-- The configuration registers that move with a lane's role (R137). -/
def laneConfig (l : Nat) : List Nat :=
  [ANV_LN_FE l, ANV_LN_SETPT l, ANV_LN_PLOFS l, ANV_LN_PLDUR l, ANV_LN_PBASE l, ANV_LN_PSLOPE l, ANV_LN_SLMASK l]
    ++ (List.range 16).map (ANV_LN_PM l)

/-- MIGRATION of the role of lane `l` to lane `m` (R137): configuration, both banks, swap requests, states, presets,
pre-lean counter and binding. Writes that the port holds for lane `l` stay its own (log entry 131). -/
def State.migrate (s : State) (l m : Nat) : State :=
  let cfg := s.rd (ANV_LN_CFG l)
  let up := s.downstream l
  let s := s.each ((laneConfig l).zip (laneConfig m)) (fun s e => s.wr e.2 (s.rd e.1))
  let s := s.wr (ANV_LN_CFG m) cfg
  let move {α : Type} (xs : List (Nat × α)) : List (Nat × α) :=
    xs.filterMap (fun e => if e.1 / 128 = l then some (128 * m + e.1 % 128, e.2) else none)
  let insert {α : Type} (xs : List (Nat × α)) : List (Nat × α) :=
    xs.filter (fun e => decide (e.1 < 128 * m)) ++ move xs ++ xs.filter (fun e => decide (128 * (m + 1) ≤ e.1))
  let s := { s with anv := { s.anv with words := insert s.anv.words, flips := insert s.anv.flips } }
  let s := s.set (ANV_LN_STAT.BANK m) (s.get (ANV_LN_STAT.BANK l))
  let s := (s.set (ANV_LN_STAT.SWPEND m) (s.get (ANV_LN_STAT.SWPEND l))).set (ANV_LN_STAT.SWPLD m) (s.get (ANV_LN_STAT.SWPLD l))
  let s := (s.set (ANV_LN_STAT.SWPEND l) 0).set (ANV_LN_STAT.SWPLD l) 0
  let s := (s.modLn m (fun _ => s.ln l)).modLn l (fun x => { x with cap := none, load := false })
  let s := match s.boundRail l with
    | some r => s.set (ANV_RAIL_LANE.LANE r) m
    | none => s
  let s := match up with
    | some d => s.set (ANV_LN_CFG.UP d) m
    | none => s
  let s := ((s.set (ANV_LN_CFG.EN l) 0).set (ANV_LN_STAT.FAULTED l) 1)
  s.each (List.range 34) (fun s k =>
    if k = l ∨ s.get (ANV_LN_STAT.ALIAS k) = l then s.set (ANV_LN_STAT.ALIAS k) m else s)

/-- A PARITY FAULT of an enabled lane `l` in the words `ws` of its active bank (R136 to R139), one instant of events (R202); its
record names the first of them (log entry 132). -/
def State.laneFault (s : State) (l : Nat) (ws : List Nat) : State :=
  let w := ws.headD 0
  let b := s.activeBank l
  let r := s.chainRail l
  let rr := s.recRail l
  let fixed := ws.all (fun w => correctable (s.bankFlips (bankKey l b w)))
  s.instant (fun s =>
    let s := (s.set (ANV_LN_STAT.PARITY l) 1).fire [hAnvParity]
    if !fixed || s.on (ANV_LN_STAT.REPAIRED l) then s.laneFail l w
    else
      let s := s.correctWords l ws
      match s.spareLane with
      | none => (s.set (ANV_LN_STAT.REPAIRED l) 1).record 2 [l, 0xFF, rr, w, 0]
      | some m =>
        let s := (s.migrate l m).record 2 [l, m, rr, w, 0]
        match r with
        | some r => s.modRl r (fun x => { x with moved := true })
        | none => s)

/-- The words of a bank of lane `l` in which the checker finds an error (R126, R128). -/
def State.checkedWords (s : State) (l b : Nat) : List Nat :=
  s.anv.flips.filterMap (fun e => if e.1 / 64 = 2 * l + b ∧ checkBad e.2 then some (e.1 % 64) else none)

/-- An active word of a disabled lane fails the check (R128), one instant of events (R202). A further correctable fault in a lane
whose REPAIRED is 1 is corrected in place as well (log entry 147). -/
def State.spareFault (s : State) (l : Nat) (ws : List Nat) : State :=
  let w := ws.headD 0
  let b := s.activeBank l
  let fixed := ws.all (fun w => correctable (s.bankFlips (bankKey l b w)))
  s.instant (fun s =>
    let s := (s.set (ANV_LN_STAT.PARITY l) 1).fire [hAnvParity]
    if fixed then ((s.correctWords l ws).set (ANV_LN_STAT.REPAIRED l) 1).record 2 [l, 0xFF, 0xFF, w, 0]
    else ((s.set (ANV_LN_STAT.FAULTED l) 1).fire [hLanefail]).record 2 [l, 0xFF, 0xFF, w, 1])

/-- A PASS OF THE BACKGROUND CHECKER: each shadow word that fails sets SHPAR and fires ANV_SHPAR; a failing active bank is
repaired in place in a disabled lane, before such a lane can take a role over, and is a lane fault of an enabled one (R128,
R137, R141). -/
def State.bankPass (s : State) : State :=
  let s := s.each (List.range 34) (fun s l =>
    s.each (s.checkedWords l (1 - s.activeBank l)) (fun s _ => (s.set (ANV_LN_STAT.SHPAR l) 1).fire [hShpar]))
  let found := ((List.range 34).map (fun l => (l, s.checkedWords l (s.activeBank l)))).filter (fun e => !e.2.isEmpty)
  let off := found.filter (fun e => !s.laneEn e.1)
  let on := found.filter (fun e => s.laneEn e.1)
  s.oneInstant (fun s => (s.each off (fun s e => s.spareFault e.1 e.2)).each on (fun s e => s.laneFault e.1 e.2))

/-- BANK_CHECK. One pass of the background checker over every word of every bank (R128). -/
def execBankCheck (s : State) : Host.Outcome State Fault Refusal := runs wfBankCheck s State.bankPass

/-- Moves decided in the tick before show at this T0: LANE_MOVED (R138). -/
def State.showMoves (s : State) : State :=
  s.each (List.range 32) (fun s r =>
    if (s.rl r).moved then
      (s.when (!(s.rl r).laneMoved) State.alert).modRl r (fun x => { x with moved := false, laneMoved := true })
    else s)

end Sys2Proof.Machine
end

