-- ==== Sys2Proof/Machine/Tele.lean ====
section
/-! DEFINITION. Live telemetry at a tick: the ticks a ring selects and the words the DMA engine reads (R360 to R364). -/

namespace Sys2Proof.Machine

/-- The DMA engine reads a capture word: a single error is corrected and written back; an uncorrectable word is sent as its
raw bits (R363). -/
def State.dmaWord (s : State) (k : Nat) : Word × Bool × State :=
  let n := flipCount (s.flipsAt k)
  if n = 0 then (s.word k, false, s)
  else if n = 1 then (s.word k, false, ((s.setFlips k 0).bump HIF_CECNT.COUNT).icuRaise 42)
  else (s.word k ^^^ BitVec.ofNat 32 (s.flipsAt k).toNat, true, (s.bump HIF_UNCCNT.COUNT).icuRaise 41)

/-- The DMA engine checks the Tally of a word `w` it sends for channel `c` of tick `n`, which frame `f` holds: a failure feeds
the sense front end's flags and counter once for the channel and tick, and SNS_TERR once for the tick, whatever stages have
found failures before (R93, R363). -/
def State.dmaTally (s : State) (n f c : Nat) (w : Word) : Bool × State :=
  if tallyOk n c w then (false, s)
  else
    let s := s.bump HIF_TERRCNT.COUNT
    if s.sns.terr.contains (184 * f + c) then (true, s)
    else
      let fired := s.sns.terr.any (fun k => k / 184 == f)
      let s := (s.setBit (SNS_TERR_SUM (c / 32)) (c % 32) true).bump SNS_TERR_CNT.COUNT
      let s := { s with sns := { s.sns with terr := (184 * f + c) :: s.sns.terr } }
      (true, if fired then s else s.fire [hTerr])

/-- The words of frame `f`, written in tick `tbc`, of the channels listed (R361, R363). -/
def State.frameWords (s : State) (f : Nat) (tbc : BitVec 64) (flags : Nat) (chans : List Nat) : TTick × State :=
  chans.foldl (fun (a : TTick × State) c =>
    let r := a.2.dmaWord (capBase + 736 * f + 4 * c)
    let t := r.2.2.dmaTally (tbc.toNat % 256) f c r.1
    let x := a.1
    ({ x with
        flags := x.flags ||| (if t.1 then 8 else 0) ||| (if r.2.1 then 16 else 0)
        unc := if r.2.1 && x.unc.isNone then some x.words.length else x.unc
        words := x.words ++ [r.1] }, t.2)) (⟨tbc, flags, [], none⟩, s)

/-- The channels of mask `m` (R362). -/
def State.maskChans (s : State) (m : Nat) : List Nat :=
  whichN 184 (fun c => nbit (s.get (HIF_MASK.MASK m (c / 32))) (c % 32))

/-- The capture buffer is frozen: live streams are stopped (R366). -/
def State.capFrozen (s : State) : Bool := decide (3 ≤ s.get HIF_CAP_STAT.STATE)

/-- Ring `t` carries a live stream that runs (R362, R365, R366, R405). -/
def State.liveRing (s : State) (t : Nat) : Bool :=
  s.on HIF_CTL.EN && s.on HIF_CTL.TEN && s.mode != modeKindle && s.get (HIF_TR_CFG.MODE t) == 1 && !s.on (HIF_TR_STAT.SUSP t) && !s.capFrozen

/-- That ring changed. -/
def State.modTr (s : State) (t : Nat) (f : TRing → TRing) : State :=
  { s with hif := { s.hif with tr := modNth s.hif.tr t f } }

/-- Ring `t`. -/
def State.tr (s : State) (t : Nat) : TRing := nth s.hif.tr t {}

/-- The tick whose frame has been written joins the records of the live rings that select it (R362). -/
def State.teleTick (s : State) : State :=
  s.each (List.range 8) (fun s t =>
    if s.liveRing t && s.flockTime % max 1 (s.get (HIF_TR_CFG.DECIM t)) == 0 then
      let r := s.frameWords (s.get SNS_CAP_STAT.LAST) s.tbu.tbc (b2n s.graze + 4 * b2n s.dip)
        (s.maskChans (s.get (HIF_TR_CFG.MASK t)))
      r.2.modTr t (fun x => { x with ticks := x.ticks ++ [r.1] })
    else s)

end Sys2Proof.Machine
end

