-- ==== Sys2Proof/Machine/Tick.lean ====
section
/-! DEFINITION. One tick: mode changes, the swap, the rail slots and the phase states at T0, then sampling, protection, lane compute, the commits and the status of the tick (R15 to R29, R406 to R409). -/

namespace Sys2Proof.Machine

/-- A PMU producer fires; it is its ICU source as well (R423). -/
def State.pmuFire (s : State) (i : Nat) : State := (s.icuRaise (80 + i)).fire [hPmu i]

/-- The mode that the tick length in force names (R404). -/
def State.runMode (s : State) : Nat := if s.graze then modeGraze else modeRun

/-- A rail slot goes to QUENCHED with the device (R409): one that its own quench already holds keeps its state. -/
def State.deviceQuenchRail (s : State) (r : Nat) : State :=
  if s.railState r = railOff ∨ s.railState r = railQuenched ∨ (s.rl r).qdue = true then s
  else
    let s := ((s.disarm r).quenchSlot r).setBit BLW_RQ_SUM r true
    let s := (s.dropLoads r).set (BLW_PROT_STAT.HICCUP r) 0
    { s with pmu := { s.pmu with dq := modNth s.pmu.dq r (fun _ => true) } }

/-- Quench at the first T0 after a device-quench decision (R406, R409); in Kindle the mode follows when Kindle ends. -/
def State.enterQuench (s : State) : State :=
  let s := s.each (List.range 32) State.deviceQuenchRail
  if s.mode = modeKindle then { s with pmu := { s.pmu with due := [3] } }
  else if s.mode = modeQuench then s
  else ((s.set PMU_STAT.MODE modeQuench).set PMU_CTL.HOLD_REQ 0).pmuFire 4

/-- A mode change that waits for this T0 (R406 to R409). -/
def State.modeDue (s : State) (k : Nat) : State :=
  if k = 1 then
    if s.mode = modeRun ∨ s.mode = modeGraze ∨ s.mode = modeQuench then
      ({ s with pmu := { s.pmu with before := s.mode } }.set PMU_STAT.MODE modeHold).pmuFire 2
    else s
  else if k = 2 then
    if s.mode = modeHold then
      ((s.set PMU_STAT.MODE (if s.pmu.before = modeQuench then modeQuench else s.runMode)).set PMU_CTL.HOLD_REQ 0).pmuFire 3
    else s
  else if k = 4 then
    if s.mode = modeQuench then
      (s.set PMU_STAT.MODE s.runMode).each (List.range 32) (fun s r => if nth s.pmu.dq r false then s.railToOff r else s)
    else s
  else s

/-- The mode changes of a T0; a quench decision goes last and prevails. -/
def State.modeTick (s : State) : State :=
  let ds := s.pmu.due
  let s := { s with pmu := { s.pmu with due := [] } }
  let s := s.each (ds.filter (fun k => k != 3)) State.modeDue
  if ds.contains 3 then s.enterQuench else s

/-- Stored bits of bank words that have flipped since the tick before (R126). -/
def State.upsetBanks (s : State) (t : TickIn) : State :=
  s.each (t.upset.filter (fun e => decide (e.1 < 4352))) (fun s e =>
    { s with anv := { s.anv with flips := spSet (fun _ => 0) s.anv.flips e.1 (s.bankFlips e.1 ^^^ e.2) } })

/-- A key of a word that memory keeps with check bits (R277). -/
def checkedKey (k : Nat) : Bool :=
  k % 4 == 0 && ((match areaOf k with
    | .peer _ => true
    | .sys => true
    | .cap => true
    | _ => false) || (decide (bitRamKey 0 0 ≤ k) && decide (k < bitRamKey 6 0)))

/-- Codeword bits of memory words that have flipped since the tick before (R277). -/
def State.upsetMem (s : State) (t : TickIn) : State :=
  s.each (t.seu.filter (fun e => checkedKey e.1)) (fun s e => s.setFlips e.1 (s.flipsAt e.1 ^^^ e.2))

/-- What happens at a T0 (R16, R20, R39, R75, R406): counts, sampled fields, modes, exchanged banks, rail slots and phase
states. -/
def State.tickBegin (s : State) (t : TickIn) : State :=
  let s := s.histories (s.tbu.now - s.tbu.t0At)
  let offs := whichN 32 (fun r => s.railState r == railOff)
  let quen := whichN 32 (fun r => s.railState r == railQuenched)
  let opers := whichN 32 (fun r => s.getT (RLC_RAIL_PMB.OPER r) != s.get (RLC_RAIL_PMB.OPER r))
  let s := { s with
    tbu := { s.tbu with tbc := s.tbu.tbc + 1, lastT0 := some s.tbu.bgc, windowOpen := false, t0At := s.tbu.now }
    tickRegs := s.regs }
  let s := (((s.modeTick).senEdges s).showMoves).exchangeBanks
  let s := s.each (List.range 144) State.takeMembership
  let s := s.railTick offs quen opers t
  let s := s.each (List.range 144) State.takePresence
  let s := s.each (List.range 32) (fun s r =>
    let x := s.phaseChanges r s.tbu.now
    if x.1 then x.2.quenchRail r 10 none 0 else x.2)
  let s := (s.each (List.range 144) State.takeMembership).looseCommands s.tbu.now
  s.each (List.range 32) State.plCount

/-- THE T0: one instant, whose records keep the order of R399. -/
def State.tickStart (s : State) (t : TickIn) : State := s.oneInstant (fun s => s.tickBegin t)

/-- SENSING up to T0 + 16 (R17): upsets of the tick, samples, the capture frame, live streams, pre-lean counters and the
tick-evaluated protections. -/
def State.tickSense (s : State) (t : TickIn) : State :=
  let s := ((s.upsetBanks t).upsetMem t).sample t
  ((if s.filling then s.captureFill.teleTick else s).preleanLoad).judgeTick

/-- What the front ends of the tick receive (R120). -/
def State.frontIn (s : State) : FrontIn :=
  ⟨s.iRail, s.refPin, s.llPin, fun m => s.geti (MFU_CH_SPD.SPD m)⟩

/-- The rail on-time of rail `r` in this tick (R63, R134, R136). -/
def State.railDuty (s : State) (r : Nat) (bad : List Nat) : Nat :=
  if !s.on (ANV_RAIL_LANE.EN r) then 0
  else if (s.chainOf r).any bad.contains then nth s.anv.lastD r 0
  else
    let y := sword (s.ln (s.get (ANV_RAIL_LANE.LANE r))).y
    (clampI 0 (s.railPer r : Nat) (floorDiv y ((2 ^ s.get (PHA_RAIL_CFG.OSHIFT r) : Nat) : Int))).toNat

/-- THE PHASE-ARRAY STEP of rail `r` (R18, R53, R63 to R66). -/
def State.railCommit (s : State) (bad : List Nat) (r : Nat) : State :=
  let s := s.balance r s.amps
  if s.follower r then s
  else
    let d := s.railDuty r bad
    let s := { s with anv := { s.anv with lastD := modNth s.anv.lastD r (fun _ => d) } }
    let s := if s.enabled r && !s.quenched r then s.commitRail r d (s.tbu.now + s.commitNs r * 64) else s
    s.leadFrames r d

/-- LANE COMPUTE AND COMMIT up to T0 + 40, with the tick event, faults and snapshots (R17, R130, R136, R142). -/
def State.tickCompute (s : State) : State :=
  let a := s.anvilTick s.frontIn
  let bad := a.1
  let faults := bad.map (fun l => (l, s.faultyRead l))
  let s := a.2.2.each (List.range 32) (fun s r => s.railCommit bad r)
  let s := (s.mfuDeliver bad).each a.2.1 (fun s e => s.markWrap e.1 e.2)
  let s := s.oneInstant (fun s => s.each faults (fun s e => s.laneFault e.1 e.2))
  ((s.fire [hTick]).preleanCount).takeSnapshots

/-- THE END OF THE TICK at T0 + 44 (R76, R97, R108 to R110, R182): window centres, dwell counters, estimates and means. -/
def State.tickEnd (s : State) (t : TickIn) : State :=
  let s := s.setCentres (fun r => s.refPin r - (if s.onT (SNS_VS_CFG.LLTRACK r) then s.llPin r else 0))
  let s := s.each (List.range 32) (fun s r => s.dwell r s.amps)
  (s.estimate t).pushHist

/-- A T0 may come: the engine clock runs and the base-grid instant is one at which the tick length in force allows a T0
(R26, R39), no earlier T0 was at it, and no reset wider than K is in progress. -/
def State.tickMay (s : State) : Bool :=
  s.on TBU_STAT.ENG_PLL_LOCK && s.alive && (!s.graze || s.flockTime % 4 == 0) && s.tbu.lastT0 != some s.tbu.bgc

/-- TICK. Its instants are T0, the sampling, the commits and the end of the tick. -/
def execTick (t : TickIn) (s : State) : Host.Outcome State Fault Refusal :=
  runs (wfTick t) s (fun s => if s.tickMay then
    ((((s.instant (fun s => s.tickStart t)).instant (fun s => s.tickSense t)).instant State.tickCompute).instant
      (fun s => s.tickEnd t))
    else s)

/-- SWAP_WINDOW. Pending coefficient swaps, reference steps and mode requests are captured; none of them in Hold-on-dip
(R27, R29, R40, R127, R171). -/
def execSwapWindow (s : State) : Host.Outcome State Fault Refusal :=
  runs wfSwapWindow s (fun s =>
    let s := { s with tbu := { s.tbu with windowOpen := true } }
    if s.dip then s
    else
      let g := s.on TBU_CTL.MODE_REQ
      let s := { s with tbu := { s.tbu with modeCap := if g == s.graze then none else some g } }
      s.captureSwaps.each (List.range 32) State.captureTarget)

end Sys2Proof.Machine
end

