-- ==== Sys2Proof/Machine/Avs.lean ====
section
/-! DEFINITION. The AVSBus ports: select maps, write-and-hold, commits, reads and the response (R181 to R183). -/

namespace Sys2Proof.Machine

/-- The STATUS_MFR_SPECIFIC byte of page `r` (R187). -/
def State.mfrStatus (s : State) (r : Nat) : Nat :=
  b2n (s.rl r).phaseLost + 2 * b2n (s.rl r).laneMoved + 4 * s.get (BLW_PROT_STAT.LATCH r) + 8 * b2n (s.rl r).spanLoss
    + 16 * s.get (BLW_BW_STAT.DROOP r)

/-- The rails that a select names on port `p`, by ascending map entry; none where it names no mapped entry (R181). -/
def State.avsRails (s : State) (p sel : Nat) : List Nat :=
  let e (k : Nat) := s.get (RLC_AVS_CFG.MAP p) / 2 ^ (7 * k) % 128
  ((List.range 4).filter (fun k => (sel == 15 || sel == k) && decide (64 ≤ e k))).map (fun k => e k % 32)

/-- The response status for rail `r`: VDone, StatusAlert, AVSControl, MfrSpecific, from bit 4 down (R181). -/
def State.avsStatus (s : State) (r : Nat) : Nat :=
  16 * b2n ((s.rl r).rout == s.target r) + 8 * b2n (s.mfrStatus r != 0 || s.on (BLW_PROT_STAT.FAULT r))
    + 4 * b2n (s.get (RLC_RAIL_STAT.WIN r) == slotAvs) + b2n (s.railState r == railQuenched)

/-- A response goes out; a broadcast answers for its lowest mapped entry. -/
def State.avsAnswer (s : State) (o : AvsOp) (ack data : Nat) : State :=
  s.emit (.avs o.port ack data (match s.avsRails o.port o.sel with
    | r :: _ => s.avsStatus r
    | [] => 0))

/-- Whether a write of a data type may be held or committed for a rail: the acknowledge code it earns (R178, R181, R182).
Types: 0 target voltage, 1 transition rate, 4 reset voltage to default, 14 status. -/
def State.avsCheck (s : State) (r ty data : Nat) : Nat :=
  if ty = 1 then
    if 1 ≤ data / 256 ∧ data / 256 ≤ 100 ∧ 1 ≤ data % 256 ∧ data % 256 ≤ 100 then 0 else 3
  else if ty = 0 ∨ ty = 4 then
    let v := if ty = 0 then 2 * data else (s.rl r).fw
    match s.refused r slotAvs v with
    | some .range => 3
    | some .source => 1
    | none => if s.railState r = railRamp ∨ s.railState r = railReg then 0 else 1
  else 0

/-- The target a write of a data type asks for on rail `r` that VMIN or VMAX refuses is reported on the page (R187). -/
def State.avsNote (s : State) (r ty data : Nat) : State :=
  if ty = 0 then s.noteLimit r (2 * data) else if ty = 4 then s.noteLimit r (s.rl r).fw else s

/-- One write takes its effect on rail `r` where its check passes (R182). -/
def State.avsApply (s : State) (r ty data : Nat) : State :=
  if s.avsCheck r ty data ≠ 0 then s.avsNote r ty data
  else if ty = 0 then s.acceptSlot r slotAvs (2 * data)
  else if ty = 4 then s.acceptSlot r slotAvs (s.rl r).fw
  else if ty = 1 then (s.set (RLC_RAIL_SLEW.UP r) (10 * (data / 256))).set (RLC_RAIL_SLEW.DN r) (10 * (data % 256))
  else s

/-- The values that port `p` holds (R181). -/
def State.held (s : State) (p : Nat) : List (Nat × Nat × Nat) := nth s.rlc.avsHold p []

/-- Those values replaced. -/
def State.setHeld (s : State) (p : Nat) (l : List (Nat × Nat × Nat)) : State :=
  { s with rlc := { s.rlc with avsHold := modNth s.rlc.avsHold p (fun _ => l) } }

/-- A write-and-hold keeps the value for its select (R181). -/
def State.avsHoldValue (s : State) (o : AvsOp) (ty : Nat) : State :=
  s.setHeld o.port ((s.held o.port).filter (fun e => e.1 != o.sel) ++ [(o.sel, ty, o.data)])

/-- A write-and-commit applies every held value of the port and its own, in one cycle (R179, R181). -/
def State.avsCommit (s : State) (o : AvsOp) (ty : Nat) : State :=
  let l := s.held o.port ++ [(o.sel, ty, o.data)]
  ((s.setHeld o.port []).instant (fun s => s.each l (fun s e =>
    s.each (s.avsRails o.port e.1) (fun s r => s.avsApply r e.2.1 e.2.2)))).tickClock

/-- The highest of some codes. -/
def worst (l : List Nat) : Nat := l.foldl max 0

/-- A FRAME of a data type on an enabled port (R181, R182): the CRC, the select, then the Cmd; a read answers what `read`
gives for the rail, or 0b11 where the data type has none. A write is judged for each rail it reaches and takes effect on
those that accept it; it answers the highest code among them (log entry 118). -/
def State.avsFrame (s : State) (o : AvsOp) (ty : Nat) (writable : Bool) (read : Option (State → Nat → Nat × State)) : State :=
  if !s.on (RLC_AVS_CFG.EN o.port) || s.pinsIdle then s
  else
    let s := s.bump (RLC_AVS_STAT.FRAMES o.port)
    if !o.crcOk then (s.bump (RLC_AVS_STAT.CRCERR o.port)).avsAnswer o 2 0
    else
      let rs := s.avsRails o.port o.sel
      if rs.isEmpty ∨ o.cmd = 2 then s.avsAnswer o 3 0
      else if o.cmd = 3 then
        match read, rs with
        | some f, [r] =>
          let x := f s r
          x.2.avsAnswer o 0 x.1
        | _, _ => s.avsAnswer o 3 0
      else if !writable then s.avsAnswer o 3 0
      else
        let acks := rs.map (fun r => s.avsCheck r ty o.data)
        let s' := if o.cmd = 1 then
            let s := s.each rs (fun s r => s.avsNote r ty o.data)
            if acks.contains 0 then s.avsHoldValue o ty else s
          else if acks.all (· == 3) then s.each rs (fun s r => s.avsNote r ty o.data)
          else s.avsCommit o ty
        s'.avsAnswer o (worst acks) 0

/-- The reference in force in mV (R182). -/
def State.avsReadVoltage (s : State) (r : Nat) : Nat × State := (((s.rl r).rout * 1000 + 2 ^ 31) / 2 ^ 32, s)

/-- A slew rate in mV/µs; one that is no whole number of them, or that a byte cannot hold, has no value in the format (R182; log
entry 48). -/
def State.rateByte (s : State) (x : Nat) : Nat × State :=
  if x % 10 = 0 ∧ x / 10 < 256 then (x / 10, s) else (s.freeVal.toNat % 256, s.drawn)

/-- The transition rates, rising in [15:8] and falling in [7:0] (R182). -/
def State.avsReadRate (s : State) (r : Nat) : Nat × State :=
  let u := s.rateByte (s.get (RLC_RAIL_SLEW.UP r))
  let d := u.2.rateByte (s.get (RLC_RAIL_SLEW.DN r))
  (u.1 * 256 + d.1, d.2)

/-- The sum of the rail current over the last 256 ticks (R182, R185). -/
def State.sumCurrent (s : State) (r : Nat) : Int := ((s.rl r).hist.map (·.1)).foldl (· + ·) 0

/-- The mean rail current in 10 mA, saturating at the top (R182); a negative mean has no value in the format. -/
def State.avsReadCurrent (s : State) (r : Nat) : Nat × State :=
  let c := roundDiv (s.sumCurrent r * 100) (256 * 65536)
  if c < 0 then (s.freeVal.toNat % 65536, s.drawn) else (min 65535 c.toNat, s)

/-- The rail temperature in 0.1 °C (R182); with no valid member temperature the spec gives no value. -/
def State.avsReadTemp (s : State) (r : Nat) : Nat × State :=
  match s.hottestMember r with
  | some t => (wrapN 16 (roundDiv (t * 10) 128), s)
  | none => (s.freeVal.toNat % 65536, s.drawn)

/-- AVS_TARGET_VOLTAGE_WRITE. A write-and-commit of a target voltage, with the port's held values (R181, R182). -/
def execAvsTargetVoltageWrite (o : AvsOp) (s : State) : Host.Outcome State Fault Refusal :=
  runs (wfAvsTargetVoltageWrite o) s (fun s => s.avsFrame { o with cmd := 0 } 0 true none)

/-- AVS_WRITE_AND_HOLD. A write-and-hold of a target voltage (R181). -/
def execAvsWriteAndHold (o : AvsOp) (s : State) : Host.Outcome State Fault Refusal :=
  runs (wfAvsWriteAndHold o) s (fun s => s.avsFrame { o with cmd := 1 } 0 true none)

/-- AVS_TARGET_VOLTAGE_READ. -/
def execAvsTargetVoltageRead (o : AvsOp) (s : State) : Host.Outcome State Fault Refusal :=
  runs (wfAvsTargetVoltageRead o) s (fun s => s.avsFrame { o with cmd := 3 } 0 false (some State.avsReadVoltage))

/-- AVS_TRANSITION_RATE. Data type 0b0001, every Cmd. -/
def execAvsTransitionRate (o : AvsOp) (s : State) : Host.Outcome State Fault Refusal :=
  runs (wfAvsTransitionRate o) s (fun s => s.avsFrame o 1 true (some State.avsReadRate))

/-- AVS_RAIL_CURRENT. Data type 0b0010. -/
def execAvsRailCurrent (o : AvsOp) (s : State) : Host.Outcome State Fault Refusal :=
  runs (wfAvsRailCurrent o) s (fun s => s.avsFrame o 2 false (some State.avsReadCurrent))

/-- AVS_RAIL_TEMPERATURE. Data type 0b0011. -/
def execAvsRailTemperature (o : AvsOp) (s : State) : Host.Outcome State Fault Refusal :=
  runs (wfAvsRailTemperature o) s (fun s => s.avsFrame o 3 false (some State.avsReadTemp))

/-- AVS_RESET_VOLTAGE. Data type 0b0100. -/
def execAvsResetVoltage (o : AvsOp) (s : State) : Host.Outcome State Fault Refusal :=
  runs (wfAvsResetVoltage o) s (fun s => s.avsFrame o 4 true none)

/-- AVS_STATUS. Data type 0b1110: a read returns the status, a write clears nothing. -/
def execAvsStatus (o : AvsOp) (s : State) : Host.Outcome State Fault Refusal :=
  runs (wfAvsStatus o) s (fun s => s.avsFrame o 14 true (some (fun s r => (s.avsStatus r, s))))

/-- AVS_VERSION. Data type 0b1111. -/
def execAvsVersion (o : AvsOp) (s : State) : Host.Outcome State Fault Refusal :=
  runs (wfAvsVersion o) s (fun s => s.avsFrame o 15 false (some (fun s _ => (1, s))))

/-- AVS_UNSUPPORTED. Any other command data type, or an unsupported Cmd or select: 0b11 and no effect (R181, R182). -/
def execAvsUnsupported (o : AvsOp) (s : State) : Host.Outcome State Fault Refusal :=
  runs (wfAvsUnsupported o) s (fun s => s.avsFrame { o with cmd := 2 } 5 false none)

end Sys2Proof.Machine
end

