-- ==== Sys2Proof/Machine/Pmbus.lean ====
section
/-! DEFINITION. The PMBus ports: transactions, number formats, every command and the status bytes (R184 to R190, R455). -/

namespace Sys2Proof.Machine

/-- The value of a LINEAR11 word times `num / den`, rounded to the nearest integer (R185). -/
def l11Dec (w num den : Nat) : Int :=
  let m := sext 11 w
  let e := sext 5 (w / 2048)
  if e < 0 then roundDiv (m * num) ((den * 2 ^ e.natAbs : Nat) : Int) else roundDiv (m * num * ((2 ^ e.natAbs : Nat) : Int)) den

/-- The mantissa of `a / b` at exponent `e`, rounded to nearest. -/
def l11Mant (a : Int) (b : Nat) (e : Int) : Int :=
  if e < 0 then roundDiv (a * ((2 ^ e.natAbs : Nat) : Int)) b else roundDiv a ((b * 2 ^ e.natAbs : Nat) : Int)

/-- `a / b` as LINEAR11 with the smallest exponent from −16 to 15 at which the mantissa fits (R185); a value that fits at
none has no form and is free. -/
def State.l11Enc (s : State) (a : Int) (b : Nat) : Nat × State :=
  match ((List.range 32).map (fun (i : Nat) => (i : Int) - 16)).find? (fun e =>
      decide (-1024 ≤ l11Mant a b e) && decide (l11Mant a b e ≤ 1023)) with
  | some e => (wrapN 5 e * 2048 + wrapN 11 (l11Mant a b e), s)
  | none => (s.freeVal.toNat % 65536, s.drawn)

/-- A VSET as ULINEAR16 (R185): round(VSET × 2.048). -/
def voutEnc (v : Nat) : Nat := (2 * v * 256 + 125) / 250

/-- A ULINEAR16 value as a VSET (R185): round(N × 1,000 / 2,048). -/
def voutDec (n : Nat) : Nat := (n * 2000 + 2048) / 4096

/-- Bytes with no stated value. -/
def State.freeBytes : State → Nat → Bytes × State
  | s, 0 => ([], s)
  | s, n + 1 =>
    let r := s.drawn.freeBytes n
    (BitVec.ofNat 8 s.freeVal.toNat :: r.1, r.2)

/-- What a PMBus command does: data bytes of its write, the level at which WRITE_PROTECT lets it through, whether it acts
once whatever the page, its read, and its write, which answers none for an invalid value (R184). -/
structure PmbCmd where
  width : Nat
  level : Nat := 0
  once : Bool := false
  read : Option (State → Nat → Bytes × State) := none
  write : Option (State → Nat → Nat → Option State) := none

/-- WRITE_PROTECT lets a write of a level through: 3 WRITE_PROTECT itself, 2 OPERATION and PAGE, 1 ON_OFF_CONFIG and
VOUT_COMMAND, 0 the rest (R184; the sets are the standard's). -/
def State.wpAllows (s : State) (q level : Nat) : Bool :=
  let w := s.get (RLC_PMB_CFG.WPROT q)
  w == 0 || (w == 0x80 && level == 3) || (w == 0x40 && decide (2 ≤ level)) || (w == 0x20 && decide (1 ≤ level))

/-- The port answers. -/
def State.pmbAnswer (s : State) (q : Nat) (bs : Bytes) : State := s.emit (.pmb q bs)

/-- The pages a command of port `q` reaches (R184). -/
def State.pages (s : State) (q : Nat) : List Nat :=
  let g := s.get (RLC_PMB_STAT.PAGE q)
  if g = 0xFF then List.range 32 else [g]

/-- A WRITE on pages: each page takes it or sets STATUS_CML bit 6 (R184). -/
def State.pmbApply (s : State) (ps : List Nat) (once : Bool) (f : State → Nat → Nat → Option State) (d : Nat) : State :=
  if once then
    match f s (ps.headD 0) d with
    | some t => t
    | none => s.each ps (fun s r => s.setCml 6 r)
  else
    (s.instant (fun s => s.each ps (fun s r => match f s r d with
      | some t => t
      | none => s.setCml 6 r))).tickClock

/-- A PMBUS TRANSACTION with a command (R184): packet error check, support, WRITE_PROTECT and value, in that order. -/
def State.pmb (s : State) (o : PmbOp) (c : PmbCmd) : State :=
  if !s.on (RLC_PMB_CFG.EN o.q) || s.pinsIdle then s
  else
    let ps := s.pages o.q
    let all (s : State) (b : Nat) : State := s.each ps (fun s r => s.setCml b r)
    if o.write then
      if o.pec = .bad then all (s.bump (RLC_PMB_STAT.PECERR o.q)) 5
      else if o.pec = .absent ∧ s.on (RLC_PMB_CFG.PECREQ o.q) then all s 1
      else match c.write with
        | none => all s 7
        | some f =>
          if !s.wpAllows o.q c.level || o.data.length != c.width then all s 6
          else s.pmbApply ps c.once f (ofLe o.data)
    else match c.read with
      | none => (if ps.length = 32 then s.setCml 7 0 else all s 7).pmbAnswer o.q []
      | some f =>
        let r := f s (ps.headD 0)
        if ps.length = 32 then (s.setCml 6 0).pmbAnswer o.q (r.1.map (fun _ => 0xFF))
        else r.2.pmbAnswer o.q r.1

/-- A read of one byte. -/
def rByte (f : State → Nat → Nat) : Option (State → Nat → Bytes × State) := some (fun s r => (leBytes 1 (f s r), s))

/-- A read of one word. -/
def rWord (f : State → Nat → Nat) : Option (State → Nat → Bytes × State) := some (fun s r => (leBytes 2 (f s r), s))

/-- A read of one word that may have no stated value. -/
def rWordS (f : State → Nat → Nat × State) : Option (State → Nat → Bytes × State) :=
  some (fun s r => (leBytes 2 (f s r).1, (f s r).2))

/-- A field takes a value where a test allows it. -/
def State.take (s : State) (ok : Bool) (f : State → State) : Option State := if ok then some (f s) else none

/-- A LINEAR11 value of a field of page `r`: scale, range, and the field (R185, R186). -/
def l11Field (num den lo hi : Nat) (rd : Nat → FRef) (wr : State → Nat → Nat → Option State) : PmbCmd :=
  { width := 2
    read := rWordS (fun s r => s.l11Enc ((s.get (rd r) : Nat) * (den : Int)) num)
    write := some (fun s r d =>
      let v := l11Dec d num den
      if (lo : Int) ≤ v ∧ v ≤ (hi : Int) then wr s r v.toNat else none) }

/-- PAGE. -/
def pmbPage (q : Nat) : PmbCmd :=
  { width := 1
    level := 2
    once := true
    read := rByte (fun s _ => s.get (RLC_PMB_STAT.PAGE q))
    write := some (fun s _ d => s.take (decide (d < 32) || d == 0xFF) (fun s => s.set (RLC_PMB_STAT.PAGE q) d)) }

/-- The values of OPERATION (R186). -/
def operOk (d : Nat) : Bool := [0x00, 0x40, 0x80, 0x94, 0x98, 0xA4, 0xA8].contains d

/-- OPERATION: every value acts through the same field (R186). -/
def pmbOperation : PmbCmd :=
  { width := 1
    level := 2
    read := rByte (fun s r => s.get (RLC_RAIL_PMB.OPER r))
    write := some (fun s r d => s.take (operOk d) (fun s => s.setOper r d)) }

/-- A transaction of OPERATION is one of a row: a read, a write of one of the row's values, or a write that is invalid. -/
def operRow (o : PmbOp) (vs : List Nat) : Bool := !o.write || vs.contains (ofLe o.data) || o.data.length != 1 || !operOk (ofLe o.data)

/-- PAGE. -/
def execPageCmd (o : PmbOp) (s : State) : Host.Outcome State Fault Refusal :=
  runs (wfPageCmd o) s (fun s => s.pmb o (pmbPage o.q))

/-- OPERATION_ON. Value 0x80. -/
def execOperationOn (o : PmbOp) (s : State) : Host.Outcome State Fault Refusal :=
  runs (wfOperationOn o && operRow o [0x80]) s (fun s => s.pmb o pmbOperation)

/-- OPERATION_OFF. Value 0x40. -/
def execOperationOff (o : PmbOp) (s : State) : Host.Outcome State Fault Refusal :=
  runs (wfOperationOff o && operRow o [0x40]) s (fun s => s.pmb o pmbOperation)

/-- OPERATION_IMMEDIATE_OFF. Value 0x00. -/
def execOperationImmediateOff (o : PmbOp) (s : State) : Host.Outcome State Fault Refusal :=
  runs (wfOperationImmediateOff o && operRow o [0x00]) s (fun s => s.pmb o pmbOperation)

/-- OPERATION_MARGIN_LOW. Values 0x98 and 0x94. -/
def execOperationMarginLow (o : PmbOp) (s : State) : Host.Outcome State Fault Refusal :=
  runs (wfOperationMarginLow o && operRow o [0x98, 0x94]) s (fun s => s.pmb o pmbOperation)

/-- OPERATION_MARGIN_HIGH. Values 0xA8 and 0xA4. -/
def execOperationMarginHigh (o : PmbOp) (s : State) : Host.Outcome State Fault Refusal :=
  runs (wfOperationMarginHigh o && operRow o [0xA8, 0xA4]) s (fun s => s.pmb o pmbOperation)

/-- ON_OFF_CONFIG. -/
def execOnOffConfig (o : PmbOp) (s : State) : Host.Outcome State Fault Refusal :=
  runs (wfOnOffConfig o) s (fun s => s.pmb o
    { width := 1
      level := 1
      read := rByte (fun s r => s.get (RLC_RAIL_PMB.ONCFG r))
      write := some (fun s r d => s.take (d == 0x10 || d == 0x18) (fun s => s.set (RLC_RAIL_PMB.ONCFG r) d)) })

/-- CLEAR_FAULTS of one page (R190). -/
def State.clearPage (s : State) (r : Nat) : State :=
  (((s.set (BLW_PROT_STAT.FAULT r) 0).set (BLW_PROT_STAT.WARN r) 0).set (BLW_BW_STAT.DROOP r) 0).modRl r (fun x => { x with
    cml := 0
    vout3 := false
    phaseLost := false
    laneMoved := false
    spanLoss := false })

/-- BLW_DEV_STAT cleared whole (R190). -/
def State.clearDev (s : State) : State :=
  { s.wr BLW_DEV_STAT 0 with blw := { s.blw with vinKind := List.replicate 8 (false, false, false, false) } }

/-- The alert line of port `q` releases (R190). -/
def State.unalert (s : State) (q : Nat) : State :=
  { s with rlc := { s.rlc with alert := modNth s.rlc.alert q (fun _ => false) } }

/-- CLEAR_FAULTS. -/
def execClearFaults (o : PmbOp) (s : State) : Host.Outcome State Fault Refusal :=
  runs (wfClearFaults o) s (fun s => s.pmb o
    { width := 0
      once := true
      write := some (fun s _ _ =>
        let ps := s.pages o.q
        let s := s.each ps State.clearPage
        some ((if ps.length = 32 then s.clearDev else s).unalert o.q)) })

/-- WRITE_PROTECT. -/
def execWriteProtect (o : PmbOp) (s : State) : Host.Outcome State Fault Refusal :=
  runs (wfWriteProtect o) s (fun s => s.pmb o
    { width := 1
      level := 3
      once := true
      read := rByte (fun s _ => s.get (RLC_PMB_CFG.WPROT o.q))
      write := some (fun s _ d => s.take (d == 0 || d == 0x20 || d == 0x40 || d == 0x80)
        (fun s => s.set (RLC_PMB_CFG.WPROT o.q) d)) })

/-- STORE_USER_ALL and RESTORE_USER_ALL: RLC_PMBSTORE fires (R184). -/
def pmbStore : PmbCmd :=
  { width := 0
    once := true
    write := some (fun s _ _ => some (s.fire [hPmbstore])) }

/-- STORE_USER_ALL. -/
def execStoreUserAll (o : PmbOp) (s : State) : Host.Outcome State Fault Refusal :=
  runs (wfStoreUserAll o) s (fun s => s.pmb o pmbStore)

/-- RESTORE_USER_ALL. -/
def execRestoreUserAll (o : PmbOp) (s : State) : Host.Outcome State Fault Refusal :=
  runs (wfRestoreUserAll o) s (fun s => s.pmb o pmbStore)

/-- CAPABILITY. -/
def execCapability (o : PmbOp) (s : State) : Host.Outcome State Fault Refusal :=
  runs (wfCapability o) s (fun s => s.pmb o { width := 1, read := rByte (fun _ _ => 0xD4) })

/-- VOUT_MODE. -/
def execVoutMode (o : PmbOp) (s : State) : Host.Outcome State Fault Refusal :=
  runs (wfVoutMode o) s (fun s => s.pmb o { width := 1, read := rByte (fun _ _ => 0x14) })

/-- VOUT_COMMAND on rail `r` (R178, R186, R187): a value that VMIN or VMAX refuses sets STATUS_VOUT bit 3; one that R168
refuses, or a disabled source, is an invalid value. -/
def State.voutCommand (s : State) (r v : Nat) : Option State :=
  match s.refused r slotPmb v with
  | none => some (s.acceptSlot r slotPmb v)
  | some e =>
    if e = .range ∧ s.vsetOk r v = true then
      some (s.limited r)
    else none

/-- VOUT_COMMAND. -/
def execVoutCommand (o : PmbOp) (s : State) : Host.Outcome State Fault Refusal :=
  runs (wfVoutCommand o) s (fun s => s.pmb o
    { width := 2
      level := 1
      read := rWord (fun s r => voutEnc (s.get (RLC_RAIL_REQ.PMB r)))
      write := some (fun s r d => s.voutCommand r (voutDec d)) })

/-- VOUT_MAX. -/
def execVoutMax (o : PmbOp) (s : State) : Host.Outcome State Fault Refusal :=
  runs (wfVoutMax o) s (fun s => s.pmb o
    { width := 2
      read := rWord (fun s r => voutEnc (s.get (RLC_RAIL_LIM.VMAX r)))
      write := some (fun s r d =>
        let v := voutDec d
        let above := s.on RLC_COMMIT.LOCK && decide (5000 < v * s.get (RLC_RAIL_SCALE.SCALE r) / 2 ^ 24)
        s.take (decide (v < 16384) && decide (s.get (RLC_RAIL_LIM.VMIN r) ≤ v) && !above)
          (fun s => (s.set (RLC_RAIL_LIM.VMAX r) v).arbitrate r)) })

/-- VOUT_MIN. -/
def execVoutMin (o : PmbOp) (s : State) : Host.Outcome State Fault Refusal :=
  runs (wfVoutMin o) s (fun s => s.pmb o
    { width := 2
      read := rWord (fun s r => voutEnc (s.get (RLC_RAIL_LIM.VMIN r)))
      write := some (fun s r d =>
        let v := voutDec d
        s.take (decide (500 ≤ v) && decide (v ≤ s.get (RLC_RAIL_LIM.VMAX r)))
          (fun s => (s.set (RLC_RAIL_LIM.VMIN r) v).arbitrate r)) })

/-- A margin field (R168, R186). -/
def pmbMargin (f : Nat → FRef) : PmbCmd :=
  { width := 2
    read := rWord (fun s r => voutEnc (s.get (f r)))
    write := some (fun s r d => s.take (decide (500 ≤ voutDec d) && decide (voutDec d ≤ 10000))
      (fun s => (s.set (f r) (voutDec d)).remargin r)) }

/-- VOUT_MARGIN_HIGH. -/
def execVoutMarginHigh (o : PmbOp) (s : State) : Host.Outcome State Fault Refusal :=
  runs (wfVoutMarginHigh o) s (fun s => s.pmb o (pmbMargin RLC_RAIL_MARG.HIGH))

/-- VOUT_MARGIN_LOW. -/
def execVoutMarginLow (o : PmbOp) (s : State) : Host.Outcome State Fault Refusal :=
  runs (wfVoutMarginLow o) s (fun s => s.pmb o (pmbMargin RLC_RAIL_MARG.LOW))

/-- VOUT_TRANSITION_RATE. -/
def execVoutTransitionRate (o : PmbOp) (s : State) : Host.Outcome State Fault Refusal :=
  runs (wfVoutTransitionRate o) s (fun s => s.pmb o
    (l11Field 10 1 1 1000 RLC_RAIL_SLEW.UP (fun s r v => some ((s.set (RLC_RAIL_SLEW.UP r) v).set (RLC_RAIL_SLEW.DN r) v))))

/-- VOUT_DROOP: mV/A into Q0.32 Ω. -/
def execVoutDroop (o : PmbOp) (s : State) : Host.Outcome State Fault Refusal :=
  runs (wfVoutDroop o) s (fun s => s.pmb o
    (l11Field (2 ^ 32) 1000 0 8589935 RLC_RAIL_LL.LLR (fun s r v => some (s.set (RLC_RAIL_LL.LLR r) v))))

/-- VOUT_SCALE_LOOP: refused while RLC_COMMIT.LOCK is 1. -/
def execVoutScaleLoop (o : PmbOp) (s : State) : Host.Outcome State Fault Refusal :=
  runs (wfVoutScaleLoop o) s (fun s => s.pmb o
    (l11Field (2 ^ 24) 1 0x400000 0x1000000 RLC_RAIL_SCALE.SCALE (fun s r v =>
      s.take (!s.on RLC_COMMIT.LOCK) (fun s => s.set (RLC_RAIL_SCALE.SCALE r) v))))

/-- An absolute limit: ULINEAR16 converted by SCALE into the units of R99 (R186). -/
def pmbAbs (f : Nat → FRef) : PmbCmd :=
  { width := 2
    read := rWordS (fun s r =>
      let sc := s.get (RLC_RAIL_SCALE.SCALE r)
      if sc = 0 then (s.freeVal.toNat % 65536, s.drawn)
      else s.fitU 16 (((2 * s.get (f r) * 2621440 + sc) / (2 * sc) : Nat) : Int))
    write := some (fun s r d =>
      let v := (2 * d * s.get (RLC_RAIL_SCALE.SCALE r) + 2621440) / 5242880
      s.take (decide (v < 65536)) (fun s => s.set (f r) v)) }

/-- VOUT_OV_FAULT_LIMIT. -/
def execVoutOvFaultLimit (o : PmbOp) (s : State) : Host.Outcome State Fault Refusal :=
  runs (wfVoutOvFaultLimit o) s (fun s => s.pmb o (pmbAbs BLW_OV.FABS))

/-- VOUT_UV_FAULT_LIMIT. -/
def execVoutUvFaultLimit (o : PmbOp) (s : State) : Host.Outcome State Fault Refusal :=
  runs (wfVoutUvFaultLimit o) s (fun s => s.pmb o (pmbAbs BLW_UV.FABS))

/-- A warn limit: WREL is the pin-referred distance from the VOUT_COMMAND value in mV, above it for `sgn` 1 and below it for
`sgn` −1 (R186). -/
def pmbRel (f : Nat → FRef) (sgn : Int) : PmbCmd :=
  { width := 2
    read := rWordS (fun s r =>
      let sc := s.get (RLC_RAIL_SCALE.SCALE r)
      if sc = 0 then (s.freeVal.toNat % 65536, s.drawn)
      else s.fitU 16 (roundDiv (2048 * (s.get (RLC_RAIL_REQ.PMB r) * sc : Nat) + sgn * (4096 * s.get (f r) * 2 ^ 24 : Nat))
        ((1000 * sc : Nat) : Int)))
    write := some (fun s r d =>
      let v := roundDiv (sgn * ((d * 1000 : Nat) - (s.get (RLC_RAIL_REQ.PMB r) * 2048 : Nat)) * (s.get (RLC_RAIL_SCALE.SCALE r) : Nat))
        ((4096 * 2 ^ 24 : Nat) : Int)
      s.take (decide (1 ≤ v) && decide (v ≤ 255)) (fun s => s.set (f r) v.toNat)) }

/-- VOUT_OV_WARN_LIMIT. -/
def execVoutOvWarnLimit (o : PmbOp) (s : State) : Host.Outcome State Fault Refusal :=
  runs (wfVoutOvWarnLimit o) s (fun s => s.pmb o (pmbRel BLW_OV.WREL 1))

/-- VOUT_UV_WARN_LIMIT. -/
def execVoutUvWarnLimit (o : PmbOp) (s : State) : Host.Outcome State Fault Refusal :=
  runs (wfVoutUvWarnLimit o) s (fun s => s.pmb o (pmbRel BLW_UV.WREL (-1)))

/-- The fault-response byte that a ladder reads back as (R188). -/
def responseOf (w : Word) : Nat :=
  let act := getBits w 2 0
  let retry := getBits w 10 8
  let hexp := getBits w 15 11
  if act < 3 then 0
  else if act = 3 ∧ retry = 7 ∧ hexp = 0 then 0xC0
  else 0x80 + 8 * retry + min 7 (hexp - 7)

/-- The ladder that a fault-response byte writes over `w` (R188). -/
def ladderFor (w : Word) (d : Nat) : Word :=
  if d / 64 = 0 then putBits w 2 0 1
  else if d / 64 = 2 then putBits (putBits (putBits w 2 0 3) 10 8 (d / 8 % 8)) 15 11 (7 + d % 8)
  else putBits (putBits (putBits w 2 0 3) 10 8 7) 15 11 0

/-- A fault response; `noWarn` refuses the form 0b00 (R186, R188). -/
def pmbResponse (a : Nat → Nat) (noWarn : Bool) : PmbCmd :=
  { width := 1
    read := rByte (fun s r => responseOf (s.rd (a r)))
    write := some (fun s r d => s.take (d / 64 != 1 && !(noWarn && d / 64 == 0)) (fun s =>
      s.wr (a r) (ladderFor (s.rd (a r)) d))) }

/-- VOUT_OV_FAULT_RESPONSE. -/
def execVoutOvFaultResponse (o : PmbOp) (s : State) : Host.Outcome State Fault Refusal :=
  runs (wfVoutOvFaultResponse o) s (fun s => s.pmb o (pmbResponse BLW_LAD_OV false))

/-- VOUT_UV_FAULT_RESPONSE. -/
def execVoutUvFaultResponse (o : PmbOp) (s : State) : Host.Outcome State Fault Refusal :=
  runs (wfVoutUvFaultResponse o) s (fun s => s.pmb o (pmbResponse BLW_LAD_UV false))

/-- IOUT_OC_FAULT_LIMIT. -/
def execIoutOcFaultLimit (o : PmbOp) (s : State) : Host.Outcome State Fault Refusal :=
  runs (wfIoutOcFaultLimit o) s (fun s => s.pmb o
    (l11Field 8 1 0 65535 BLW_ROC.FTH (fun s r v => some (s.set (BLW_ROC.FTH r) v))))

/-- IOUT_OC_WARN_LIMIT. -/
def execIoutOcWarnLimit (o : PmbOp) (s : State) : Host.Outcome State Fault Refusal :=
  runs (wfIoutOcWarnLimit o) s (fun s => s.pmb o
    (l11Field 8 1 0 65535 BLW_ROC.WTH (fun s r v => some (s.set (BLW_ROC.WTH r) v))))

/-- IOUT_OC_FAULT_RESPONSE: responses 0b10 and 0b11 only. -/
def execIoutOcFaultResponse (o : PmbOp) (s : State) : Host.Outcome State Fault Refusal :=
  runs (wfIoutOcFaultResponse o) s (fun s => s.pmb o (pmbResponse BLW_LAD_ROC true))

/-- A device-wide phase temperature threshold in Q9.7 °C (R186). -/
def pmbOt (f : FRef) : PmbCmd :=
  { width := 2
    read := rWordS (fun s _ => s.l11Enc (s.geti f) 128)
    write := some (fun s _ d =>
      let v := l11Dec d 128 1
      s.take (decide (-32768 ≤ v) && decide (v ≤ 32767)) (fun s => s.seti f v)) }

/-- OT_FAULT_LIMIT. -/
def execOtFaultLimit (o : PmbOp) (s : State) : Host.Outcome State Fault Refusal :=
  runs (wfOtFaultLimit o) s (fun s => s.pmb o (pmbOt BLW_OT_PH.FAULT))

/-- OT_WARN_LIMIT. -/
def execOtWarnLimit (o : PmbOp) (s : State) : Host.Outcome State Fault Refusal :=
  runs (wfOtWarnLimit o) s (fun s => s.pmb o (pmbOt BLW_OT_PH.WARN))

/-- OT_FAULT_RESPONSE. -/
def execOtFaultResponse (o : PmbOp) (s : State) : Host.Outcome State Fault Refusal :=
  runs (wfOtFaultResponse o) s (fun s => s.pmb o (pmbResponse BLW_LAD_POT false))

/-- The input that page `r` names: the lowest whose BLW_VIN_RAILS names the page (R186). -/
def State.pageInput (s : State) (r : Nat) : Option Nat := (whichN 8 (fun c => nbit (s.get (BLW_VIN_RAILS.RAILS c)) r)).head?

/-- An input threshold in mV (R186); with no input that names the page there is none to write, and a read has no value. -/
def pmbVin (f : Nat → FRef) : PmbCmd :=
  { width := 2
    read := rWordS (fun s r => match s.pageInput r with
      | some c => s.l11Enc (s.get (f c) : Nat) 1000
      | none => (s.freeVal.toNat % 65536, s.drawn))
    write := some (fun s r d =>
      let v := l11Dec d 1000 1
      match s.pageInput r with
      | some c => s.take (decide (0 ≤ v) && decide (v ≤ 65535)) (fun s => s.set (f c) v.toNat)
      | none => none) }

/-- VIN_OV_FAULT_LIMIT. -/
def execVinOvFaultLimit (o : PmbOp) (s : State) : Host.Outcome State Fault Refusal :=
  runs (wfVinOvFaultLimit o) s (fun s => s.pmb o (pmbVin BLW_VIN_TH.OV))

/-- VIN_UV_FAULT_LIMIT. -/
def execVinUvFaultLimit (o : PmbOp) (s : State) : Host.Outcome State Fault Refusal :=
  runs (wfVinUvFaultLimit o) s (fun s => s.pmb o (pmbVin BLW_VIN_TH.UV))

/-- A time in ms over a field in µs (R186). -/
def pmbTime (f : Nat → FRef) : PmbCmd := l11Field 1000 1 0 65535 f (fun s r v => some (s.set (f r) v))

/-- TON_DELAY. -/
def execTonDelay (o : PmbOp) (s : State) : Host.Outcome State Fault Refusal :=
  runs (wfTonDelay o) s (fun s => s.pmb o (pmbTime RLC_RAIL_TON.DLY))

/-- TON_RISE. -/
def execTonRise (o : PmbOp) (s : State) : Host.Outcome State Fault Refusal :=
  runs (wfTonRise o) s (fun s => s.pmb o (pmbTime RLC_RAIL_TON.RISE))

/-- TOFF_DELAY. -/
def execToffDelay (o : PmbOp) (s : State) : Host.Outcome State Fault Refusal :=
  runs (wfToffDelay o) s (fun s => s.pmb o (pmbTime RLC_RAIL_TOFF.DLY))

/-- TOFF_FALL. -/
def execToffFall (o : PmbOp) (s : State) : Host.Outcome State Fault Refusal :=
  runs (wfToffFall o) s (fun s => s.pmb o (pmbTime RLC_RAIL_TOFF.FALL))

/-- STATUS_BYTE (R187; the summary's places are the standard's). -/
def State.stByte (s : State) (r : Nat) : Nat :=
  let off := !(s.railState r == railRamp || s.railState r == railReg)
  let other := s.stVout r % 128 != 0 || s.stIout r % 128 != 0 || s.stInput r != 16 * (s.stInput r / 16 % 2) || s.mfrStatus r != 0
  64 * b2n off + 32 * (s.stVout r / 128) + 16 * (s.stIout r / 128) + 8 * (s.stInput r / 16 % 2) + 4 * b2n (s.stTemp r != 0)
    + 2 * b2n ((s.rl r).cml != 0) + b2n other

/-- STATUS_WORD (R187; the summary's places are the standard's). -/
def State.stWord (s : State) (r : Nat) : Nat :=
  32768 * b2n (s.stVout r != 0) + 16384 * b2n (s.stIout r != 0) + 8192 * b2n (s.stInput r != 0)
    + 4096 * b2n (s.mfrStatus r != 0) + 2048 * b2n (!s.on (RLC_RAIL_STAT.PG r)) + s.stByte r

/-- A command that is only read, one byte. -/
def pmbByte (f : State → Nat → Nat) : PmbCmd := { width := 1, read := rByte f }

/-- STATUS_BYTE. -/
def execStatusByte (o : PmbOp) (s : State) : Host.Outcome State Fault Refusal :=
  runs (wfStatusByte o) s (fun s => s.pmb o (pmbByte State.stByte))

/-- STATUS_WORD. -/
def execStatusWord (o : PmbOp) (s : State) : Host.Outcome State Fault Refusal :=
  runs (wfStatusWord o) s (fun s => s.pmb o { width := 2, read := rWord State.stWord })

/-- STATUS_VOUT. -/
def execStatusVout (o : PmbOp) (s : State) : Host.Outcome State Fault Refusal :=
  runs (wfStatusVout o) s (fun s => s.pmb o (pmbByte State.stVout))

/-- STATUS_IOUT. -/
def execStatusIout (o : PmbOp) (s : State) : Host.Outcome State Fault Refusal :=
  runs (wfStatusIout o) s (fun s => s.pmb o (pmbByte State.stIout))

/-- STATUS_INPUT. -/
def execStatusInput (o : PmbOp) (s : State) : Host.Outcome State Fault Refusal :=
  runs (wfStatusInput o) s (fun s => s.pmb o (pmbByte State.stInput))

/-- STATUS_TEMPERATURE. -/
def execStatusTemperature (o : PmbOp) (s : State) : Host.Outcome State Fault Refusal :=
  runs (wfStatusTemperature o) s (fun s => s.pmb o (pmbByte State.stTemp))

/-- STATUS_CML. -/
def execStatusCml (o : PmbOp) (s : State) : Host.Outcome State Fault Refusal :=
  runs (wfStatusCml o) s (fun s => s.pmb o (pmbByte (fun s r => (s.rl r).cml)))

/-- STATUS_MFR_SPECIFIC. -/
def execStatusMfrSpecific (o : PmbOp) (s : State) : Host.Outcome State Fault Refusal :=
  runs (wfStatusMfrSpecific o) s (fun s => s.pmb o (pmbByte State.mfrStatus))

/-- The sum of the VALUEs of input `c` over the last 256 ticks (R185). -/
def State.sumVin (s : State) (c : Nat) : Nat := (s.rlc.vinHist.map (fun l => nth l c 0)).foldl (· + ·) 0

/-- The sum of the VALUEs of rail `r` over the last 256 ticks (R185). -/
def State.sumVout (s : State) (r : Nat) : Nat := ((s.rl r).hist.map (·.2)).foldl (· + ·) 0

/-- READ_VIN. The mean voltage of the page's input; none feeding the page, or an input that measures a current, has no
value here. -/
def execReadVin (o : PmbOp) (s : State) : Host.Outcome State Fault Refusal :=
  runs (wfReadVin o) s (fun s => s.pmb o
    { width := 2
      read := rWordS (fun s r => match s.pageInput r with
        | some c =>
          if s.onT (SNS_VIN_CFG.MODE c) then (s.freeVal.toNat % 65536, s.drawn)
          else s.l11Enc ((s.sumVin c * 640 * s.get (SNS_VIN_RATIO.RATIO c) : Nat) : Int) (256 * 2 ^ 48)
        | none => (s.freeVal.toNat % 65536, s.drawn)) })

/-- The mean output voltage of rail `r` in volts, as a fraction: v / SCALE (R186). -/
def State.meanVout (s : State) (r : Nat) : Nat × Nat := (s.sumVout r * 640, 256 * s.get (RLC_RAIL_SCALE.SCALE r))

/-- READ_VOUT. -/
def execReadVout (o : PmbOp) (s : State) : Host.Outcome State Fault Refusal :=
  runs (wfReadVout o) s (fun s => s.pmb o
    { width := 2
      read := rWordS (fun s r =>
        let v := s.meanVout r
        if v.2 = 0 then (s.freeVal.toNat % 65536, s.drawn) else s.fitU 16 (roundDiv (v.1 * 4096 : Nat) v.2)) })

/-- READ_IOUT. -/
def execReadIout (o : PmbOp) (s : State) : Host.Outcome State Fault Refusal :=
  runs (wfReadIout o) s (fun s => s.pmb o
    { width := 2, read := rWordS (fun s r => s.l11Enc (s.sumCurrent r) (256 * 65536)) })

/-- The mean of the temperatures of the last 256 ticks, over the ticks that had one (R185; log entry 120). -/
def State.l11TempMean (s : State) (l : List (Option Int)) : Nat × State :=
  let ts := l.filterMap id
  if ts.isEmpty then (s.freeVal.toNat % 65536, s.drawn) else s.l11Enc (ts.foldl (· + ·) 0) (128 * ts.length)

/-- READ_TEMPERATURE_1. -/
def execReadTemperature1 (o : PmbOp) (s : State) : Host.Outcome State Fault Refusal :=
  runs (wfReadTemperature1 o) s (fun s => s.pmb o
    { width := 2, read := rWordS (fun s r => s.l11TempMean (s.rl r).temps) })

/-- READ_TEMPERATURE_2. -/
def execReadTemperature2 (o : PmbOp) (s : State) : Host.Outcome State Fault Refusal :=
  runs (wfReadTemperature2 o) s (fun s => s.pmb o
    { width := 2, read := rWordS (fun s _ => s.l11TempMean s.rlc.dieHist) })

/-- READ_POUT. -/
def execReadPout (o : PmbOp) (s : State) : Host.Outcome State Fault Refusal :=
  runs (wfReadPout o) s (fun s => s.pmb o
    { width := 2
      read := rWordS (fun s r =>
        let v := s.meanVout r
        if v.2 = 0 then (s.freeVal.toNat % 65536, s.drawn) else s.l11Enc ((v.1 : Int) * s.sumCurrent r) (v.2 * 256 * 65536)) })

/-- PMBUS_REVISION. -/
def execPmbusRevision (o : PmbOp) (s : State) : Host.Outcome State Fault Refusal :=
  runs (wfPmbusRevision o) s (fun s => s.pmb o (pmbByte (fun _ _ => 0x44)))

/-- A command that answers fixed bytes. -/
def pmbText (bs : Bytes) : PmbCmd := { width := 0, read := some (fun s _ => (bs, s)) }

/-- MFR_ID. "WAIMOND". -/
def execMfrId (o : PmbOp) (s : State) : Host.Outcome State Fault Refusal :=
  runs (wfMfrId o) s (fun s => s.pmb o (pmbText [0x57, 0x41, 0x49, 0x4D, 0x4F, 0x4E, 0x44]))

/-- MFR_MODEL. "MYN7144". -/
def execMfrModel (o : PmbOp) (s : State) : Host.Outcome State Fault Refusal :=
  runs (wfMfrModel o) s (fun s => s.pmb o (pmbText [0x4D, 0x59, 0x4E, 0x37, 0x31, 0x34, 0x34]))

/-- MFR_REVISION. "B". -/
def execMfrRevision (o : PmbOp) (s : State) : Host.Outcome State Fault Refusal :=
  runs (wfMfrRevision o) s (fun s => s.pmb o (pmbText [0x42]))

/-- MFR_PHASE_CMD. A phase that is not a member of the page's rail is refused (R189). -/
def execMfrPhaseCmd (o : PmbOp) (s : State) : Host.Outcome State Fault Refusal :=
  runs (wfMfrPhaseCmd o) s (fun s => s.pmb o
    { width := 2
      write := some (fun s r d => s.take
        (decide (1 ≤ d / 4096) && decide (d / 4096 ≤ 4) && d / 256 % 16 == 0 && s.memberOf (d % 256) r)
        (fun s => s.phaseCommand (d / 4096) (d % 256))) })

/-- MFR_PHASE_COUNT. -/
def execMfrPhaseCount (o : PmbOp) (s : State) : Host.Outcome State Fault Refusal :=
  runs (wfMfrPhaseCount o) s (fun s => s.pmb o
    { width := 2, read := rWord (fun s r => 256 * (s.inState r phActive).length + (s.inState r phParked).length) })

/-- MFR_BELLOWS_COUNT. -/
def execMfrBellowsCount (o : PmbOp) (s : State) : Host.Outcome State Fault Refusal :=
  runs (wfMfrBellowsCount o) s (fun s => s.pmb o { width := 2, read := rWord (fun s r => s.get (BLW_BW_CNT.DCNT r)) })

/-- MFR_LATCH_CLEAR. -/
def execMfrLatchClear (o : PmbOp) (s : State) : Host.Outcome State Fault Refusal :=
  runs (wfMfrLatchClear o) s (fun s => s.pmb o
    { width := 0, write := some (fun s r _ => some (s.set (BLW_PROT_STAT.LATCH r) 0)) })

/-- MFR_REF_IN_FORCE: the reference in force, in units of 2⁻¹² V. -/
def execMfrRefInForce (o : PmbOp) (s : State) : Host.Outcome State Fault Refusal :=
  runs (wfMfrRefInForce o) s (fun s => s.pmb o
    { width := 2, read := rWord (fun s r => ((s.rl r).rout + 2 ^ 19) / 2 ^ 20) })

/-- MFR_TBC. -/
def execMfrTbc (o : PmbOp) (s : State) : Host.Outcome State Fault Refusal :=
  runs (wfMfrTbc o) s (fun s => s.pmb o { width := 0, read := some (fun s _ => (bytes64 s.tbu.tbc, s)) })

/-- The slot `i` of the MRAM record ring (R398). -/
def State.mrSlot (s : State) (i : Nat) : Bytes := s.bytes (0x20000400 + 32 * i) 32

/-- The record's CRC passes (R356). -/
def recOk (bs : Bytes) : Bool := crc32c (bs.take 28) == leAt bs 28 4

/-- The rail that a record of TYPE 0x01 to 0x04 names (R357, R399). -/
def recRailOf (bs : Bytes) : Option Nat :=
  match (nth bs 0 0).toNat with
  | 1 => some (nth bs 17 0).toNat
  | 2 => some (nth bs 18 0).toNat
  | 3 => some (nth bs 16 0).toNat
  | 4 => some (nth bs 16 0).toNat
  | _ => none

/-- The newest fault record in MRAM that names rail `r` (R399). -/
def State.faultLog (s : State) (r : Nat) : Option Bytes :=
  let head := s.get NVC_MR_HEAD.HEAD
  ((List.range 16384).map (fun i => s.mrSlot ((head + 16383 - i) % 16384))).find? (fun bs =>
    recRailOf bs == some r && recOk bs)

/-- MFR_FAULT_LOG. With no fault record of the rail the spec gives no bytes. -/
def execMfrFaultLog (o : PmbOp) (s : State) : Host.Outcome State Fault Refusal :=
  runs (wfMfrFaultLog o) s (fun s => s.pmb o
    { width := 0
      read := some (fun s r => match s.faultLog r with
        | some bs => (bs, s)
        | none => s.freeBytes 32) })

/-- ALERT_RESPONSE. A port that asserts its alert line answers the alert response address with its own address, above a
bit of 0 (log entry 137), and releases the line (R190). -/
def execAlertResponse (q : Nat) (s : State) : Host.Outcome State Fault Refusal :=
  runs (wfAlertResponse q) s (fun s =>
    if s.on (RLC_PMB_CFG.EN q) && nth s.rlc.alert q false && !s.pinsIdle then
      (s.pmbAnswer q [BitVec.ofNat 8 (2 * s.get (RLC_PMB_CFG.ADDR q))]).unalert q
    else s)

/-- PMBUS_UNSUPPORTED. STATUS_CML bit 7 and nothing else (R184). -/
def execPmbusUnsupported (o : PmbOp) (s : State) : Host.Outcome State Fault Refusal :=
  runs (wfPmbusUnsupported o) s (fun s => s.pmb o { width := 0 })

/-- PMBUS_SCL_TIMEOUT. The port releases SDA and discards the transaction in progress: it has had no effect (R455). -/
def execPmbusSclTimeout (q : Nat) (s : State) : Host.Outcome State Fault Refusal :=
  runs (wfPmbusSclTimeout q) s (fun s => { s with rlc := { s.rlc with sda := modNth s.rlc.sda q (fun _ => false) } })

end Sys2Proof.Machine
end

