-- ==== Sys2Proof/Machine/Events.lean ====
section
/-! DEFINITION. The event fabric: class-B turns, elements, the staged route table and its commit, and the EVIO pins (R197 to R216). -/

namespace Sys2Proof.Machine

/-- How many events wait at the input of class-B channel `n` (R204). -/
def State.waitingAt (s : State) (n : Nat) : Nat := nth s.evf.waiting n 0

/-- The channels of group `g` in the order in which it serves them next (R204). -/
def State.groupOrder (s : State) (g : Nat) : List Nat :=
  let last := nth s.evf.last g (64 * g + 63)
  (List.range 64).map (fun i => 64 * g + (last % 64 + 1 + i) % 64)

/-- The waiting event of channel `n` is forwarded to its element (R201, R204). -/
def State.forwardFrom (s : State) (n : Nat) : State :=
  let s := { s with evf := { s.evf with
    waiting := modNth s.evf.waiting n (· - 1)
    last := modNth s.evf.last (n / 64) (fun _ => n) } }
  if s.chOn n then s.chElement n else s

/-- CHANNEL_FORWARD. Group `g` forwards the waiting event of the channel that comes first after the channel it served
last (R204). -/
def execChannelForward (g : Nat) (s : State) : Host.Outcome State Fault Refusal :=
  runsEver (wfChannelForward g) s (fun s =>
    match (s.groupOrder g).find? (fun n => decide (0 < s.waitingAt n)) with
    | some n => s.forwardFrom n
    | none => s)

/-- DELAY_ELEMENT_FIRE. The delayed event of channel `n` fires (R201); in Ember no engine cycle passes and the element keeps
its state (R214). -/
def execDelayElementFire (n : Nat) (s : State) : Host.Outcome State Fault Refusal :=
  runsEver (wfDelayElementFire n) s (fun s =>
    if s.chElem n == 3 && s.on (EVF_CH_STAT.BUSY n) && !s.pmu.ember then
      let s := s.set (EVF_CH_STAT.BUSY n) 0
      if s.chOn n then s.chanOut n else s
    else s)

/-- ONE_SHOT_END. The busy time of channel `n`'s element ends: a one-shot's H ns, which engine cycles count and Ember holds
(R201, R214), or the 2 ns of a counter (log entry 53). -/
def execOneShotEnd (n : Nat) (s : State) : Host.Outcome State Fault Refusal :=
  runsEver (wfOneShotEnd n) s (fun s =>
    if (s.chElem n == 1 && !s.pmu.ember) || s.chElem n == 2 then s.set (EVF_CH_STAT.BUSY n) 0 else s)

/-- A write of EVF_CON_FIRE (R206): a reserved consumer is ignored and sets WIGN. -/
def State.fireConsumer (s : State) (k : Nat) : State :=
  if consumerOk k then s.consumerEvent k 512 else s.set EVF_STAT.WIGN 1

/-- CONSUMER_FIRE. -/
def execConsumerFire (w : Who) (k : Nat) (s : State) : Host.Outcome State Fault Refusal :=
  runs (wfConsumerFire w k) s (fun s =>
    s.asWrite w EVF_CON_FIRE (BitVec.ofNat 32 k) (fun s => s.fireConsumer k))

/-- The staged word of a route register: channel 0 is wired (R198). -/
def State.stagedCfg (s : State) (n : Nat) : Word := if n = 0 then 0xC0000000 else s.rd (EVF_CH_CFG n)

/-- Staged channel `n` is enabled. -/
def State.stagedEn (s : State) (n : Nat) : Bool := wbit (s.stagedCfg n) 31

/-- ELEM of staged channel `n`. -/
def State.stagedElem (s : State) (n : Nat) : Nat := getBits (s.stagedCfg n) 22 20

/-- The enabled PSEL values of staged channel `n`. -/
def State.stagedPsels (s : State) (n : Nat) : List Nat :=
  let w := s.rd (EVF_CH_SRC n)
  if n = 0 then [] else (if wbit w 15 then [getBits w 10 0] else []) ++ (if wbit w 31 then [getBits w 26 16] else [])

/-- The enabled SEL values of staged consumer `k`. -/
def State.stagedSels (s : State) (k : Nat) : List Nat :=
  let w := s.rd (EVF_CON k)
  (if wbit w 9 then [getBits w 8 0] else []) ++ (if wbit w 19 then [getBits w 18 10] else [])

/-- The depth-first search of R211 from node `n`: a cycle found, and the nodes that are black. -/
def visit (edges : Nat → List Nat) : Nat → List Nat → List Nat → Nat → Option (List Nat) × List Nat
  | 0, _, black, _ => (none, black)
  | f + 1, path, black, n =>
    let here := n :: path
    let r := (edges n).foldl (fun (acc : Option (List Nat) × List Nat) p =>
      if acc.1.isSome then acc
      else if here.contains p then (some (p :: here.takeWhile (fun q => q != p)), acc.2)
      else if acc.2.contains p then acc
      else visit edges f here acc.2 p) (none, black)
    if r.1.isSome then r else (none, n :: r.2)

/-- The lowest channel of the first cycle of enabled pass channels, if there is one (R211). -/
def State.stagedCycle (s : State) : Option Nat :=
  let live := whichN 512 (fun n => s.stagedEn n && s.stagedElem n == 0)
  let edges (n : Nat) := (s.stagedPsels n).filter (fun p => decide (p < 512) && live.contains p)
  let r := live.foldl (fun (acc : Option (List Nat) × List Nat) n =>
    if acc.1.isSome || acc.2.contains n then acc else visit edges 513 [] acc.2 n) (none, [])
  r.1.map (fun c => c.foldl min 511)

/-- PARAM of staged channel `n` lies in the range of its element (R201). -/
def State.paramOk (s : State) (n : Nat) : Bool :=
  let e := s.stagedElem n
  let w := s.rd (EVF_CH_ELEM n)
  if e = 1 then decide (2 ≤ getBits w 19 0)
  else if e = 2 then decide (1 ≤ getBits w 15 0)
  else if e = 3 then decide (4 ≤ getBits w 19 0)
  else e == 0

/-- THE COMMIT CHECK of the staged copy (R211): code, item, and whether the item is a consumer; none where it is accepted. -/
def State.evfCheck (s : State) : Option (Nat × Nat × Bool) :=
  let classA (n : Nat) := wbit (s.stagedCfg n) 30
  let liveA (n : Nat) := s.stagedEn n && classA n
  let badSel (p : Nat) := if p < 512 then !s.stagedEn p else decide (p < 1024) || !producerOk (p - 1024)
  let tag (b : Bool) (o : Option (Nat × Nat)) := o.map (fun e => (e.1, e.2, b))
  ([ (s.stagedCycle).map (fun n => (1, n, false)),
     tag false (firstFail 512 2 (fun n => (classA n && (s.stagedElem n != 0
       || (s.stagedPsels n).any (fun p => decide (p < 1024)))) || (liveA n && decide (64 ≤ countN n liveA)))),
     tag true (firstFail 2048 3 (fun k => consumerKo k && (s.stagedSels k).any (fun n => wbit (s.stagedCfg n) 29))),
     tag false (firstFail 512 4 (fun n => (s.stagedPsels n).any badSel)),
     tag true (firstFail 2048 4 (fun k => (s.stagedSels k).any (fun n => !s.stagedEn n))),
     tag false (firstFail 512 5 (fun n => s.stagedEn n && !s.paramOk n)) ].filterMap id).head?

/-- The route fields of a register: none where it holds none (R209). -/
def routeMask (a : Nat) : Word :=
  if inFam a (EVF_CH_SRC 0) 512 16 || inFam a (EVF_CH_CFG 0) 512 16 || inFam a (EVF_CH_ELEM 0) 512 16 then 0xFFFFFFFF
  else if inFam a (EVF_CON 0) 2048 4 then 0x000FFFFF
  else 0

/-- The staged copy of the route table, as the active copy keeps it. -/
def State.staged (s : State) : List (Nat × BitVec 32) :=
  s.regs.filterMap (fun e =>
    let v := e.2 &&& routeMask e.1
    if routeMask e.1 = 0 ∨ v = resetVal e.1 then none else some (e.1, v))

/-- EVF_STAT.DIRTY (R209). -/
def State.dirty (s : State) : Bool := s.staged != s.evf.act

/-- THE SWITCH of an accepted commit (R212): events that have reached a channel input go by the old route, the active copy
is replaced, changed elements start idle, and EVF_CMTDONE fires. -/
def State.evfSwitch (s : State) : State :=
  let order := (List.range 8).flatMap s.groupOrder
  let s := s.each (order.flatMap (fun n => List.replicate (s.waitingAt n) n)) State.forwardFrom
  let old := s.evf.act
  let s := { s with evf := { s.evf with act := s.staged } }
  let same (a : Nat) (hi lo : Nat) := getBits (spGet resetVal old a) hi lo == getBits (s.act a) hi lo
  let s := s.each (whichN 512 (fun n => !(same (EVF_CH_CFG n) 22 20 && same (EVF_CH_ELEM n) 19 0))) (fun s n =>
    (s.set (EVF_CH_STAT.BUSY n) 0).set (EVF_CH_STAT.CNT n) 0)
  (((s.set EVF_COMMIT.BUSY 0).set EVF_COMMIT.DEFER 0)).fire [hCmtdone]

/-- A write of 1 to EVF_COMMIT.GO (R210). -/
def State.evfGo (s : State) : State :=
  if s.on EVF_COMMIT.BUSY then s.set EVF_STAT.WIGN 1 else s.set EVF_COMMIT.BUSY 1

/-- EVF_COMMIT_GO. -/
def execEvfCommitGo (w : Who) (s : State) : Host.Outcome State Fault Refusal :=
  runs (wfEvfCommitGo w) s (fun s => s.asWrite w EVF_COMMIT 1 State.evfGo)

/-- The check of a commit in progress ends (R210). -/
def State.evfChecked (s : State) : State :=
  match s.evfCheck with
  | some (c, i, b) =>
    (((s.set EVF_COMMIT.RESULT c).set EVF_COMMIT.WHERE i).setb EVF_COMMIT.WHERE_KIND b).set EVF_COMMIT.BUSY 0
  | none =>
    let s := ((s.set EVF_COMMIT.RESULT 0).set EVF_COMMIT.WHERE 0).set EVF_COMMIT.WHERE_KIND 0
    if s.dip then s.set EVF_COMMIT.DEFER 1 else s.evfSwitch

/-- EVF_COMMIT_CHECK. -/
def execEvfCommitCheck (s : State) : Host.Outcome State Fault Refusal :=
  runs wfEvfCommitCheck s (fun s => if s.on EVF_COMMIT.BUSY && !s.on EVF_COMMIT.DEFER then s.evfChecked else s)

/-- An output pin goes to a level. -/
def State.evioTo (s : State) (k : Nat) (lvl : Bool) : State :=
  if s.on (EVF_EVIO.LEVEL k) == lvl then s else (s.setb (EVF_EVIO.LEVEL k) lvl).emit (.evio k lvl)

/-- The pulse of pin `k` is or is not in progress. -/
def State.setPulse (s : State) (k : Nat) (b : Bool) : State :=
  { s with evf := { s.evf with pulse := modNth s.evf.pulse k (fun _ => b) } }

/-- The inactive level of output `k` (R215). -/
def State.evioIdle (s : State) (k : Nat) : Bool := s.on (EVF_EVIO.POL k)

/-- EVIO_INPUT_EDGE. A filtered edge of an input pin: LEVEL follows, and the producer fires on the edge chosen where DIR is 0
(R215); a pin that Kindle keeps an input is one whatever DIR is (R421). -/
def execEvioInputEdge (k : Nat) (lvl : Bool) (s : State) : Host.Outcome State Fault Refusal :=
  runsEver (wfEvioInputEdge k lvl) s (fun s =>
    if s.on (EVF_EVIO.DIR k) then s.when s.unKindled (fun s => s.setb (EVF_EVIO.LEVEL k) lvl)
    else
      let e := s.get (EVF_EVIO.EDGE k)
      let s := s.setb (EVF_EVIO.LEVEL k) lvl
      if e == 2 || (e == 0 && lvl) || (e == 1 && !lvl) then s.fire [hEvioIn k] else s)

/-- EVIO_OUTPUT. The event at EVIO_OUT_k is taken: an output starts or restarts its pulse, or toggles (R215). -/
def execEvioOutput (k : Nat) (s : State) : Host.Outcome State Fault Refusal :=
  runsEver (wfEvioOutput k) s (fun s =>
    if s.on (EVF_CON.PEND (208 + k)) && (!s.pmu.ember || decide (k < 8)) then
      let s := s.takeEvent (208 + k)
      if !s.on (EVF_EVIO.DIR k) || s.unKindled then s
      else if s.on (EVF_EVIO.OMODE k) then s.evioTo k (!s.on (EVF_EVIO.LEVEL k))
      else (s.evioTo k (!s.evioIdle k)).setPulse k true
    else s)

/-- EVIO_PULSE_END. PW ns after its start the pulse ends (R215). -/
def execEvioPulseEnd (k : Nat) (s : State) : Host.Outcome State Fault Refusal :=
  runsEver (wfEvioPulseEnd k) s (fun s =>
    if nth s.evf.pulse k false then (s.setPulse k false).evioTo k (s.evioIdle k) else s)

/-- Pin `k` drives as its register says, `was` where it drove before (R215): a pulse output without a pulse shows its inactive
level; the level of a toggle output that has just become one the spec does not give. -/
def State.evioDrive (s : State) (k : Nat) (was : Bool) : State :=
  if s.on (EVF_EVIO.OMODE k) then
    let s := s.setPulse k false
    if was then s else s.drawn.evioTo k (wbit s.freeVal 0)
  else if nth s.evf.pulse k false then s.evioTo k (!s.evioIdle k)
  else s.evioTo k (s.evioIdle k)

/-- A write of EVF_EVIO_k (R215); until Kindle completes the pin stays an input (R421). The level of a pin that has just become
an input the spec does not give. -/
def State.evioWrite (s : State) (k : Nat) (v : Word) : State :=
  let was := s.on (EVF_EVIO.DIR k)
  let s := s.plainWrite (EVF_EVIO k) v
  if s.unKindled then s
  else if s.on (EVF_EVIO.DIR k) then s.evioDrive k was
  else if was then (s.drawn.setPulse k false).setb (EVF_EVIO.LEVEL k) (wbit s.freeVal 0)
  else s

/-- Writes of EVF registers with rules of their own (R198, R205, R206, R209, R210). -/
def State.evfWrite (s : State) (a : Nat) (v : Word) : State :=
  let wign := s.set EVF_STAT.WIGN 1
  if a = EVF_COMMIT then (if wbit v 0 then s.evfGo else s)
  else if a = EVF_CON_FIRE then s.fireConsumer (getBits v 10 0)
  else if inFam a (EVF_EVIO 0) 32 4 then s.evioWrite (famIdx a (EVF_EVIO 0) 4) v
  else if a = EVF_CH_SRC 0 ∨ a = EVF_CH_CFG 0 ∨ a = EVF_CH_ELEM 0 then wign
  else if inFam a (EVF_CON 0) 2048 4 then
    let k := famIdx a (EVF_CON 0) 4
    let s' := s.when (wbit v 31) (fun s => s.set (EVF_CON.OVR k) 0)
    if s.on EVF_COMMIT.BUSY then s'.set EVF_STAT.WIGN 1
    else s'.wr a ((s'.rd a &&& 0xFFF00000) ||| (v &&& 0x000FFFFF))
  else if routeMask a ≠ 0 then (if s.on EVF_COMMIT.BUSY then wign else s.plainWrite a v)
  else if inFam a (EVF_OVR 0) 64 4 then
    let i := famIdx a (EVF_OVR 0) 4
    s.each ((List.range 32).filter (fun j => wbit v j)) (fun s j => s.set (EVF_CON.OVR (32 * i + j)) 0)
  else s.plainWrite a v

end Sys2Proof.Machine
end

