-- ==== Sys2Proof/Machine/Icu.lean ====
section
/-! DEFINITION. The interrupt controller and the Drover: sources, their commit lock, entries from requests and the task slots (R312 to R319, R337, R339, R340). -/

namespace Sys2Proof.Machine

/-- The enabled sources, ascending (R316). -/
def State.enabledSources (s : State) : List Nat := whichN 1280 (fun n => s.on (ICU_TGT.EN n))

/-- A handler address lies where a source may point (R316). -/
def vectorOk (v : Nat) : Bool :=
  let a := areaOf v
  a == .loc || a == .sys || a == .flash || a == .rom

/-- THE ICU COMMIT CHECK (R316, R464): the first refusal, code and source. -/
def State.icuCheck (s : State) : Option (Nat × Nat) :=
  let live := s.enabledSources
  let first (code : Nat) (bad : Nat → Bool) := (live.find? bad).map (fun n => (code, n))
  ([ first 1 (fun n => s.get (ICU_TGT.BANK n) == 0 || decide (6 ≤ s.get (ICU_TGT.CORE n))),
     first 2 (fun n => s.on (DRV_SLOT_CFG.EN (s.get (ICU_TGT.CORE n)) (s.get (ICU_TGT.BANK n)))),
     first 3 (fun n => s.on (ICU_TGT.W n) && !s.bit (BANK_OWN (s.get (ICU_TGT.CORE n))) (s.get (ICU_TGT.BANK n))),
     first 4 (fun n => !vectorOk (s.rd (ICU_VEC n)).toNat) ].filterMap id).head?

/-- A write of 1 to ICU_COMMIT.LOCK (R316). -/
def State.icuLock (s : State) : State :=
  match s.icuCheck with
  | none => ((s.set ICU_COMMIT.RESULT 0).set ICU_COMMIT.WHERE 0).set ICU_COMMIT.LOCK 1
  | some (c, i) => (s.set ICU_COMMIT.RESULT c).set ICU_COMMIT.WHERE i

/-- ICU_COMMIT_LOCK. -/
def execIcuCommitLock (w : Who) (s : State) : Host.Outcome State Fault Refusal :=
  runs (wfIcuCommitLock w) s (fun s => s.asWrite w ICU_COMMIT 1 State.icuLock)

/-- The input of source `n` rises (R314, R315): an event waiting at the fabric consumer that drives it is taken; a software
source has no input. -/
def State.sourceEdge (s : State) (n : Nat) : State :=
  match sourceConsumer n with
  | some k => if s.on (EVF_CON.PEND k) then (s.takeEvent k).icuRaise n else s
  | none => if n < 512 ∧ sourceOk n = true then s.icuRaise n else s

/-- ICU_SOURCE_EDGE. -/
def execIcuSourceEdge (src : Nat) (s : State) : Host.Outcome State Fault Refusal :=
  runs (wfIcuSourceEdge src) s (fun s => s.sourceEdge src)

/-- The pending bits of word `i` named by `v` are set by software; an overrun bit is not (R315). -/
def State.icuSet (s : State) (i : Nat) (v : Word) : State :=
  s.each ((List.range 32).filter (fun j => wbit v j && sourceOk (32 * i + j))) (fun s j => s.setBit (ICU_PEND i) j true)

/-- ICU_SOFTWARE_SET. -/
def execIcuSoftwareSet (w : Who) (i : Nat) (v : Word) (s : State) : Host.Outcome State Fault Refusal :=
  runs (wfIcuSoftwareSet w i v) s (fun s => s.asWrite w (ICU_SET i) v (fun s => s.icuSet i v))

/-- Some enabled source of core `p` targets bank `b` (R318). -/
def State.bankTargeted (s : State) (p b : Nat) : Bool :=
  s.enabledSources.any (fun n => s.get (ICU_TGT.CORE n) == p && s.get (ICU_TGT.BANK n) == b)

/-- A write of DRV_SLOT_CFG_s of core `p` (R318, R322). -/
def State.slotWrite (s : State) (p sl : Nat) (v : Word) : State :=
  let en := wbit v 31
  let st := s.get (DRV_SLOT_STAT.STATE p sl)
  let was := s.on (DRV_SLOT_CFG.EN p sl)
  if (en && s.bankTargeted p sl) || (en && wbit v 30 && !s.bit (BANK_OWN p) sl) || (!en && (st == 4 || st == 5)) then
    s.set (DRV_STAT.WIGN p) 1
  else
    let s := s.plainWrite (DRV_SLOT_CFG p sl) v
    let s :=
      if en && !was then
        if sl == 1 && (s.core p).base then s.set (DRV_SLOT_STAT.STATE p sl) 1
        else (s.modBank p sl (fun k => { k with pc := s.rd (DRV_SLOT_ENTRY p sl) })).set (DRV_SLOT_STAT.STATE p sl) 2
      else if !en then
        (s.set (DRV_SLOT_STAT.STATE p sl) 0).modCore p (fun c => { c with resumes := c.resumes.filter (fun k => k != sl) })
      else s
    s.slotReady p sl

/-- SLOT_ENABLE. -/
def execSlotEnable (w : Who) (p sl : Nat) (s : State) : Host.Outcome State Fault Refusal :=
  runs (wfSlotEnable w p sl) s (fun s =>
    let v := s.rd (DRV_SLOT_CFG p sl) ||| 0x80000000
    s.asWrite w (DRV_SLOT_CFG p sl) v (fun s => s.slotWrite p sl v))

/-- DOZE_WAKE. A dozing core wakes to Pause depth once the next known event is near (R337). -/
def execDozeWake (p : Nat) (s : State) : Host.Outcome State Fault Refusal :=
  runs (wfDozeWake p) s (fun s => if s.get (DRV_STAT.IDLE p) == 2 then s.set (DRV_STAT.IDLE p) 1 else s)

/-- Writes of ICU registers with rules of their own (R315); one that the lock bars is ignored and sets WIGN (log entry 122). -/
def State.icuWrite (s : State) (a : Nat) (v : Word) : State :=
  if a = ICU_COMMIT then (if wbit v 0 then s.icuLock else s)
  else if inFam a (ICU_SET 0) 40 4 then s.icuSet (famIdx a (ICU_SET 0) 4) v
  else if s.lockBars a v then (s.plainWrite a v).set ICU_STAT.WIGN 1
  else if inFam a (ICU_TGT 0) 1280 8 then (s.plainWrite a v).judgeIdle
  else s.plainWrite a v

/-- Writes of the Drover window of core `p`, DRV_RST apart (R318, R337). -/
def State.drvWrite (s : State) (p a : Nat) (v : Word) : State :=
  if inFam a (DRV_SLOT_CFG p 1) 15 16 then s.slotWrite p (famIdx a (DRV_SLOT_CFG p 1) 16 + 1) v
  else if a = DRV_CTL p then (s.plainWrite a v).showCore p
  else if a = DRV_NEXT_LO p ∨ a = DRV_NEXT_HI p then (s.plainWrite a v).judgeIdle
  else s.plainWrite a v

/-- DRV_READY: the READY slots (R340). -/
def State.readySlots (s : State) (p : Nat) : Word :=
  BitVec.ofNat 32 (maskN 16 (fun sl => decide (1 ≤ sl) && s.get (DRV_SLOT_STAT.STATE p sl) == 3))

end Sys2Proof.Machine
end

