-- ==== Sys2Proof/Machine/Micro.lean ====
section
/-! DEFINITION. The commands of the control stores: LOAD, VERIFY, SWITCH and COPY, the fetch fault and the patch memory (R302, R307 to R311). -/

namespace Sys2Proof.Machine

/-- The word count and digest of half `h` of core `p` (R308). -/
def State.ucDig (s : State) (p h : Nat) : Nat × Bytes := nth s.uc.dig (2 * p + (h - 1)) (0, [])

/-- They are replaced. -/
def State.setUcDig (s : State) (p h : Nat) (d : Nat × Bytes) : State :=
  { s with uc := { s.uc with dig := modNth s.uc.dig (2 * p + (h - 1)) (fun _ => d) } }

/-- The digest of the first `n` words of half `h`, as the words lie in memory (R308). -/
def State.ucDigest (s : State) (p h n : Nat) : Bytes :=
  Config.sha384 ((List.range n).flatMap (fun a => leBytes 4 ((s.ucWord (ucKey p h a)).toNat % 2 ^ 24)))

/-- UC_DIGEST as bytes (R311). -/
def State.ucExpected (s : State) (p : Nat) : Bytes :=
  (List.range 12).flatMap (fun i => leBytes 4 (s.rd (UC_DIGEST p i)).toNat)

/-- Half `h` is valid. -/
def State.ucValid (s : State) (p h : Nat) : Bool := if h = 1 then s.on (UC_STAT.AVALID p) else s.on (UC_STAT.BVALID p)

/-- Half `h` becomes valid or not, and SAME follows: both valid with equal digests (R308). -/
def State.setUcValid (s : State) (p h : Nat) (b : Bool) : State :=
  let s := if h = 1 then s.setb (UC_STAT.AVALID p) b else s.setb (UC_STAT.BVALID p) b
  s.setb (UC_STAT.SAME p) (s.ucValid p 1 && s.ucValid p 2 && (s.ucDig p 1).2 == (s.ucDig p 2).2)

/-- The version of half `h`. -/
def State.setUcVer (s : State) (p h v : Nat) : State := if h = 1 then s.set (UC_VER.AVER p) v else s.set (UC_VER.BVER p) v

/-- The version of half `h`. -/
def State.ucVer (s : State) (p h : Nat) : Nat := if h = 1 then s.get (UC_VER.AVER p) else s.get (UC_VER.BVER p)

/-- The half is filled: the words listed with their parity, then zeros (R308). -/
def State.ucFill (s : State) (p h : Nat) (ws : List Nat) : State :=
  s.each (List.range 16384) (fun s a => s.setUcWord (ucKey p h a) (storedWord (nth ws a 0)))

/-- THE LOAD of half `h` from `n` words at `src` (R308): none of them where an access fails. -/
def State.ucLoad (s : State) (p h src n : Nat) : State :=
  let r := (List.range n).foldl (fun (a : Option (List Nat) × State) i =>
    match a.1 with
    | none => a
    | some ws =>
      if areaOf (src + 4 * i) = .sys then
        match a.2.readEcc p (src + 4 * i) with
        | (some v, s) => (some (v.toNat :: ws), s)
        | (none, s) => (none, s)
      else (none, a.2)) (some [], s)
  match r.1 with
  | none => r.2.set (UC_STAT.RESULT p) 5
  | some rev =>
    let ws := rev.reverse
    let s := r.2.ucFill p h ws
    let d := Config.sha384 (ws.flatMap (leBytes 4))
    let s := s.setUcDig p h (n, d)
    if d = s.ucExpected p then
      ((s.setUcVer p h (s.get (UC_LEN.VER p))).setUcValid p h true).set (UC_STAT.RESULT p) 0
    else s.set (UC_STAT.RESULT p) 1

/-- THE VERIFY of half `h` (R308): parity of every word and the digest; `good` says what a success does. -/
def State.ucVerify (s : State) (p h : Nat) (good : State → State) : State :=
  let d := s.ucDig p h
  let ok := (List.range 16384).all (fun a => parityOk (s.ucWord (ucKey p h a))) && d.2 != [] && s.ucDigest p h d.1 == d.2
  if ok then (good s).set (UC_STAT.RESULT p) 0
  else ((s.setUcValid p h false).set (UC_STAT.SAME p) 0).set (UC_STAT.RESULT p) 1

/-- THE COPY of the other half into half `h` (R308). -/
def State.ucCopy (s : State) (p h : Nat) : State :=
  let src := 3 - h
  let s := s.each (List.range 16384) (fun s a => s.setUcWord (ucKey p h a) (s.ucWord (ucKey p src a)))
  let s := (s.setUcDig p h (s.ucDig p src)).setUcVer p h (s.ucVer p src)
  s.ucVerify p h (fun s => s.setUcValid p h true)

/-- The maintenance engine of core `p` starts (R308). -/
def State.ucBusy (s : State) (p op h : Nat) : State :=
  { s.set (UC_STAT.BUSY p) 1 with uc := { s.uc with cmd := modNth s.uc.cmd p (fun _ => some (op, h)) } }

/-- A write of UC_CMD (R308). -/
def State.ucCommand (s : State) (p op h : Nat) : State :=
  let act := s.get (UC_STAT.ACT p)
  let bad := decide (5 ≤ op) || h == 3 || (h == 0 && op != 3)
  if s.on (UC_STAT.BUSY p) then s.set (UC_STAT.WIGN p) 1
  else if op = 0 then s.when (h == 3) (fun s => s.set (UC_STAT.WIGN p) 1)
  else if bad then s.set (UC_STAT.WIGN p) 1
  else if op = 1 then
    if h = act then s.set (UC_STAT.RESULT p) 2 else (s.setUcValid p h false).ucBusy p op h
  else if op = 2 then s.ucBusy p op h
  else if op = 4 then
    if h = act then s.set (UC_STAT.RESULT p) 2 else s.ucBusy p op h
  else if h ≠ 0 ∧ s.mode ≠ modeKindle ∧ s.mode ≠ modeHold then s.set (UC_STAT.RESULT p) 3
  else if h ≠ 0 ∧ s.ucValid p h = false then s.set (UC_STAT.RESULT p) 4
  else { s.set (UC_STAT.SWPEND p) 1 with uc := { s.uc with sw := modNth s.uc.sw p (fun _ => some h) } }

/-- The value of a write of UC_CMD. -/
def ucCmdWord (op h : Nat) : Word := BitVec.ofNat 32 (op * 2 ^ 28 + h)

/-- UC_LOAD. -/
def execUcLoad (w : Who) (p half : Nat) (s : State) : Host.Outcome State Fault Refusal :=
  runs (wfUcLoad w p half) s (fun s => s.asWrite w (UC_CMD p) (ucCmdWord 1 half) (fun s => s.ucCommand p 1 half))

/-- UC_VERIFY. -/
def execUcVerify (w : Who) (p half : Nat) (s : State) : Host.Outcome State Fault Refusal :=
  runs (wfUcVerify w p half) s (fun s => s.asWrite w (UC_CMD p) (ucCmdWord 2 half) (fun s => s.ucCommand p 2 half))

/-- UC_SWITCH. -/
def execUcSwitch (w : Who) (p half : Nat) (s : State) : Host.Outcome State Fault Refusal :=
  runs (wfUcSwitch w p half) s (fun s => s.asWrite w (UC_CMD p) (ucCmdWord 3 half) (fun s => s.ucCommand p 3 half))

/-- UC_COPY. -/
def execUcCopy (w : Who) (p half : Nat) (s : State) : Host.Outcome State Fault Refusal :=
  runs (wfUcCopy w p half) s (fun s => s.asWrite w (UC_CMD p) (ucCmdWord 4 half) (fun s => s.ucCommand p 4 half))

/-- The command in progress of core `p` ends (R308). -/
def State.ucDone (s : State) (p : Nat) : State :=
  match nth s.uc.cmd p none with
  | none => s
  | some (op, h) =>
    let s := { s.set (UC_STAT.BUSY p) 0 with uc := { s.uc with cmd := modNth s.uc.cmd p (fun _ => none) } }
    if op = 1 then s.ucLoad p h (s.rd (UC_SRC p)).toNat (s.get (UC_LEN.COUNT p))
    else if op = 2 then s.ucVerify p h id
    else s.ucCopy p h

/-- UC_COMMAND_DONE. -/
def execUcCommandDone (p : Nat) (s : State) : Host.Outcome State Fault Refusal :=
  runs (wfUcCommandDone p) s (fun s => s.ucDone p)

/-- A pending SWITCH takes effect (R308), but not in Hold-on-dip (R414). -/
def State.ucTake (s : State) (p : Nat) : State :=
  match nth s.uc.sw p none with
  | none => s
  | some h =>
    if s.dip then s
    else
    let s := { s with uc := { s.uc with sw := modNth s.uc.sw p (fun _ => none) } }
    ((s.set (UC_STAT.SWPEND p) 0).set (UC_STAT.ACT p) h).set (UC_STAT.RESULT p) 0

/-- UC_SWITCH_TAKE. -/
def execUcSwitchTake (p : Nat) (s : State) : Host.Outcome State Fault Refusal :=
  runs (wfUcSwitchTake p) s (fun s => s.ucTake p)

/-- UC_FETCH_FAULT. A fetch by the current instruction or sequence meets failing parity, or an ILL word where one lies; where
no store lies it is always ILL (R300). -/
def execUcFetchFault (p a : Nat) (ill : Bool) (s : State) : Host.Outcome State Fault Refusal :=
  runs (wfUcFetchFault p a ill) s (fun s =>
    if s.on (DRV_STAT.LOCKED p) || nth s.pmu.held p true || (ill && !s.ucIll p a) then s
    else s.ucFault p a (ill || s.ucFetch p a == .ill))

/-- A write of UC_PATCH_DATA (R302, R311). -/
def State.patchData (s : State) (p : Nat) (v : Word) : State :=
  if s.on (UC_CTL.PLOCK p) then s
  else
    let i := s.get (UC_PATCH_IDX.IDX p)
    (s.setUcWord (ucKey p 3 i) (storedWord v.toNat)).set (UC_PATCH_IDX.IDX p) ((i + 1) % 128)

/-- PATCH_WRITE. -/
def execPatchWrite (w : Who) (p : Nat) (v : Word) (s : State) : Host.Outcome State Fault Refusal :=
  runs (wfPatchWrite w p v) s (fun s => s.asWrite w (UC_PATCH_DATA p) v (fun s => s.patchData p v))

/-- PATCH_LOCK. -/
def execPatchLock (w : Who) (p : Nat) (s : State) : Host.Outcome State Fault Refusal :=
  runs (wfPatchLock w p) s (fun s => s.asWrite w (UC_CTL p) 1 (fun s => s.set (UC_CTL.PLOCK p) 1))

/-- Writes of the UC registers of core `p` with rules of their own. -/
def State.ucWrite (s : State) (p a : Nat) (v : Word) : State :=
  if a = UC_CMD p then s.ucCommand p (getBits v 31 28) (getBits v 1 0)
  else if a = UC_PATCH_DATA p then s.patchData p v
  else if inFam a (UC_MATCH p 0) 32 4 then (if s.on (UC_CTL.PLOCK p) then s else s.plainWrite a v)
  else s.plainWrite a v

end Sys2Proof.Machine
end

