-- ==== Sys2Proof/Machine/Memsys.lean ====
section
/-! DEFINITION. The commands of the store buffer, the merge buffer, the long-operation units and error injection (R256, R281, R284, R291). -/

namespace Sys2Proof.Machine

/-- LONG_OP_COMPLETE. The oldest long operation of the unit finishes (R256). -/
def execLongOpComplete (p : Nat) (u : LUnit) (s : State) : Host.Outcome State Fault Refusal :=
  runs (wfLongOpComplete p u) s (fun s =>
    match (s.core p).long.find? (fun o => o.unit == u) with
    | some o => s.finishLong p o
    | none => s)

/-- STORE_BUFFER_RETIRE. -/
def execStoreBufferRetire (p : Nat) (s : State) : Host.Outcome State Fault Refusal :=
  runs (wfStoreBufferRetire p) s (fun s => s.retireStore p)

/-- MERGE_BUFFER_FLUSH. An imprecise machine check it raises is taken at once, unless the core stands inside an
instruction (R284, R288). -/
def execMergeBufferFlush (p : Nat) (s : State) : Host.Outcome State Fault Refusal :=
  runs (wfMergeBufferFlush p) s (fun s =>
    let s := s.flushMerge p
    if (s.core p).pload.isNone && !nth s.pmu.held p true then s.takeBoundary p else s)

/-- A write of MEM_INJ (R291). -/
def State.injWrite (s : State) (p : Nat) (v : Word) : State :=
  if wbit v 29 && getBits v 13 8 == getBits v 5 0 then s else s.plainWrite (MEM_INJ p) v

/-- MEM_INJECT. -/
def execMemInject (w : Who) (p : Nat) (v : Word) (s : State) : Host.Outcome State Fault Refusal :=
  runs (wfMemInject w p v) s (fun s => s.asWrite w (MEM_INJ p) v (fun s => s.injWrite p v))

end Sys2Proof.Machine
end

