-- ==== Sys2Proof/Machine/Rings.lean ====
section
/-! DEFINITION. The host's rings: doorbells, completions, event records, telemetry records and the capture buffer's dump (R345 to R348, R353, R356 to R366). -/

namespace Sys2Proof.Machine

/-- A 64-bit register pair. -/
def State.pair (s : State) (lo hi : Nat) : Nat := (s.rd lo).toNat + 2 ^ 32 * (s.rd hi).toNat

/-- The address bits of a ring's base pair, its low 12 bits clear (R372). -/
def State.ringBase (s : State) (lo hi : Nat) : Nat := s.pair lo hi / 4096 * 4096

/-- Command queue `q`. -/
def State.sqOf (s : State) (q : Nat) : Sq := nth s.hif.sq q {}

/-- That queue changed. -/
def State.modSq (s : State) (q : Nat) (f : Sq → Sq) : State :=
  { s with hif := { s.hif with sq := modNth s.hif.sq q f } }

/-- Completion queue `c`. -/
def State.cqOf (s : State) (c : Nat) : Cq := nth s.hif.cq c {}

/-- That queue changed. -/
def State.modCq (s : State) (c : Nat) (f : Cq → Cq) : State :=
  { s with hif := { s.hif with cq := modNth s.hif.cq c f } }

/-- The entries of command queue `q` (R346). -/
def State.sqCount (s : State) (q : Nat) : Nat := 2 ^ s.get (HIF_SQ_LO.LOG2 q)

/-- The entries of completion queue `c`. -/
def State.cqCount (s : State) (c : Nat) : Nat := 2 ^ s.get (HIF_CQ_LO.LOG2 c)

/-- The entries of the event ring. -/
def State.evCount (s : State) : Nat := 2 ^ s.get HIF_EVR_LO.LOG2

/-- A doorbell holds the value last written (R345). -/
def State.setDb (s : State) (o : Nat) (v : Word) : State :=
  { s with hif := { s.hif with db := spSet (fun _ => 0) s.hif.db o v } }

/-- A command queue stops with an error code (R351). -/
def State.sqStop (s : State) (q code : Nat) : State :=
  if s.on (HIF_SQ_STAT.ERR q) then s
  else ((s.set (HIF_SQ_STAT.ERR q) 1).set (HIF_SQ_STAT.ERRCODE q) code).fireHif 6

/-- A write of a command queue's tail doorbell (R345, R351). -/
def State.sqDoorbell (s : State) (q : Nat) (v : Word) : State :=
  let s := (s.setDb (8 * q) v).fire [hDb q]
  if v.toNat < s.sqCount q then s.modSq q (fun x => { x with tail := v.toNat }) else s.sqStop q 1

/-- SQ_DOORBELL. -/
def execSqDoorbell (q : Nat) (v : Word) (s : State) : Host.Outcome State Fault Refusal :=
  runs (wfSqDoorbell q v) s (fun s => s.hostMem false (fun s => s.sqDoorbell q v))

/-- A write of a completion queue's head doorbell (R348). -/
def State.cqDoorbell (s : State) (c : Nat) (v : Word) : State :=
  let s := s.setDb (0x80 + 8 * c) v
  if v.toNat < s.cqCount c then s.modCq c (fun x => { x with head := v.toNat })
  else (s.set (HIF_CQ_STAT.ERR c) 1).fireHif 6

/-- The slabs of telemetry ring `t` (R360). -/
def State.slabs (s : State) (t : Nat) : Nat := 2 ^ s.get (HIF_TR_GEO.SLOG2 t)

/-- The bytes of one slab. -/
def State.slabSize (s : State) (t : Nat) : Nat := 2 ^ s.get (HIF_TR_GEO.SLAB t)

/-- A write of a telemetry ring's head doorbell (R348, R360). -/
def State.trDoorbell (s : State) (t : Nat) (v : Word) : State :=
  let s := s.setDb (0x100 + 8 * t) v
  if v.toNat < s.slabs t then s.modTr t (fun x => { x with head := v.toNat })
  else (s.set HIF_STAT.TRERR (s.get HIF_STAT.TRERR ||| 2 ^ t)).fireHif 6

/-- TELEMETRY_HEAD_DOORBELL. -/
def execTelemetryHeadDoorbell (t : Nat) (v : Word) (s : State) : Host.Outcome State Fault Refusal :=
  runs (wfTelemetryHeadDoorbell t v) s (fun s => s.hostMem false (fun s => s.trDoorbell t v))

/-- A write of the event ring's head doorbell (R348). -/
def State.evDoorbell (s : State) (v : Word) : State :=
  let s := s.setDb 0x140 v
  if v.toNat < s.evCount then { s with hif := { s.hif with evHead := v.toNat } }
  else (s.set HIF_EVR_CTL.ERR 1).fireHif 6

/-- EVENT_HEAD_DOORBELL. -/
def execEventHeadDoorbell (v : Word) (s : State) : Host.Outcome State Fault Refusal :=
  runs (wfEventHeadDoorbell v) s (fun s => s.hostMem false (fun s => s.evDoorbell v))

/-- Telemetry ring `t` is stopped (R348). -/
def State.trStopped (s : State) (t : Nat) : Bool := nbit (s.get HIF_STAT.TRERR) t

/-- Completion queue `c` has no room for an entry, or is stopped (R347, R348). -/
def State.cqFull (s : State) (c : Nat) : Bool :=
  s.on (HIF_CQ_STAT.ERR c) || (s.get (HIF_CQ_STAT.TAIL c) + 1) % s.cqCount c == (s.cqOf c).head

/-- The device may write host memory and runs its rings, which are idle in Kindle (R341, R372, R405), and the host has made it
a bus master (R341). -/
def State.dmaOn (s : State) : Bool :=
  s.on HIF_CTL.EN && s.on HIF_STAT.LINK && !s.hif.d3hot && s.mode != modeKindle && s.busMaster

/-- The 16 bytes of a completion (R353). -/
def complBytes (c : Compl) (phase : Nat) : Bytes :=
  let b := leBytes 4 c.result.toNat ++ leBytes 2 c.sqHead ++ leBytes 2 c.cid ++ leBytes 1 c.queue ++ leBytes 1 c.status
    ++ [0] ++ leBytes 1 phase
  b ++ leBytes 4 (crc32c b)

/-- The oldest completion of queue `c` is written, if it may be (R347, R353, R367). -/
def State.postCompl (s : State) (c : Nat) : State :=
  match (s.cqOf c).held with
  | [] => s
  | e :: es =>
    if !s.dmaOn || !s.on (HIF_CQ_CTL.EN c) || s.cqFull c then s
    else
      let t := s.get (HIF_CQ_STAT.TAIL c)
      let ph := s.get (HIF_CQ_STAT.PHASE c)
      let s := s.modCq c (fun x => { x with held := es })
      let s := s.emit (.dma (s.ringBase (HIF_CQ_LO c) (HIF_CQ_HI c) + 16 * t) (complBytes e ph))
      let wrap := t + 1 == s.cqCount c
      let s := (s.set (HIF_CQ_STAT.TAIL c) (if wrap then 0 else t + 1)).set (HIF_CQ_STAT.PHASE c) (if wrap then 1 - ph else ph)
      if s.on (HIF_CQ_CTL.IEN c) then s.signal (s.get (HIF_CQ_CTL.VEC c)) else s

/-- The 32 bytes of an event record (R356). -/
def evBytes (r : EvRec) (phase : Bool) : Bytes :=
  let b := leBytes 1 r.ty ++ leBytes 1 (b2n phase + 2 * b2n r.held + 4 * b2n (r.lost != 0)) ++ leBytes 2 (min r.lost 0xFFFF)
    ++ leBytes 4 r.seq ++ leBytes 8 r.tbc.toNat ++ bytesAt r.payload 0 12
  b ++ leBytes 4 (crc32c b)

/-- The records lost with `r` count in the next one (R358). -/
def State.evLose (s : State) (r : EvRec) : State :=
  let n := r.lost + 1
  let h := match s.hif.evHeld with
    | [] => { s.hif with evLost := s.hif.evLost + n }
    | x :: xs => { s.hif with evHeld := { x with lost := x.lost + n } :: xs }
  { s with hif := h }.fireHif 7

/-- Record `r` goes to the event ring, or is lost where the ring is full (R347, R358). -/
def State.evWrite (s : State) (r : EvRec) : State :=
  let t := s.hif.evTail
  if (t + 1) % s.evCount = s.hif.evHead then s.evLose r
  else
    let s := s.emit (.dma (s.ringBase HIF_EVR_LO HIF_EVR_HI + 32 * t) (evBytes r s.hif.evPhase))
    let wrap := t + 1 == s.evCount
    let s := { s with hif := { s.hif with
      evTail := if wrap then 0 else t + 1
      evPhase := if wrap then !s.hif.evPhase else s.hif.evPhase } }
    s.signal (s.get HIF_EVR_CTL.VEC)

/-- EVENT_RECORD_WRITE. The record due first is written: that of a host interface reset, else the oldest held (R358, R370). -/
def execEventRecordWrite (s : State) : Host.Outcome State Fault Refusal :=
  runs wfEventRecordWrite s (fun s =>
    if !s.dmaOn || !s.on HIF_EVR_CTL.EN || s.on HIF_EVR_CTL.ERR then s
    else match s.hif.ev08, s.hif.evHeld with
      | some r, _ => { s with hif := { s.hif with ev08 := none } }.evWrite r
      | none, r :: rs => { s with hif := { s.hif with evHeld := rs } }.evWrite r
      | none, [] => s)

/-- A write of 1 to HIF_EVPOST_3.POST (R358). -/
def State.evPostCommand (s : State) : State :=
  s.evPost 9 ((List.range 3).flatMap (fun i => leBytes 4 (s.rd (HIF_EVPOST i)).toNat))

/-- EVENT_POST. -/
def execEventPost (w : Who) (s : State) : Host.Outcome State Fault Refusal :=
  runs (wfEventPost w) s (fun s => s.asWrite w HIF_EVPOST_3 1 State.evPostCommand)

/-- The header of a telemetry record without its CRC (R361). -/
def telHeader (ty t flags maskId seq : Nat) (first : BitVec 64) (count decim nch unc : Nat) : Bytes :=
  leBytes 1 ty ++ leBytes 1 t ++ leBytes 1 flags ++ leBytes 1 maskId ++ leBytes 4 seq ++ bytes64 first
    ++ leBytes 4 count ++ leBytes 2 decim ++ leBytes 2 nch ++ leBytes 4 unc

/-- A telemetry record: header, CRC over header and words, words (R361). -/
def telBytes (h : Bytes) (ws : List Word) : Bytes :=
  let b := ws.flatMap (fun w => leBytes 4 w.toNat)
  h ++ leBytes 4 (crc32c (h ++ b)) ++ b

/-- The index of the first uncorrectable word of the ticks of a record, 0xFFFF_FFFF where there is none (R361). -/
def uncIdx : List TTick → Nat → Nat
  | [], _ => 0xFFFFFFFF
  | x :: xs, n => match x.unc with
    | some u => n + u
    | none => uncIdx xs (n + x.words.length)

/-- The bytes a record of `n` bytes takes in its slab (R361). -/
def padLen (n : Nat) : Nat := (n + 31) / 32 * 32

/-- The next slab of ring `t` is the host's (R360). -/
def State.slabsOut (s : State) (t : Nat) : Bool := ((s.tr t).tail + 1) % s.slabs t == (s.tr t).head

/-- A record of `n` bytes has room in ring `t` (R348, R360). -/
def State.trRoom (s : State) (t n : Nat) : Bool :=
  !s.trStopped t && decide (padLen n ≤ s.slabSize t)
    && (decide ((s.tr t).off + padLen n ≤ s.slabSize t) || !s.slabsOut t)

/-- A slab of ring `t` is full: the ring signals after every IRQSLAB of them (R367). -/
def State.slabDone (s : State) (t : Nat) : State :=
  let n := (s.tr t).since + 1
  let k := s.get (HIF_TR_STAT.IRQSLAB t)
  if k ≠ 0 ∧ k ≤ n then (s.modTr t (fun x => { x with since := 0 })).signal (s.get (HIF_TR_STAT.VEC t))
  else s.modTr t (fun x => { x with since := n })

/-- Where ring `t` is written next: address and byte offset in the ring. -/
def State.trAt (s : State) (t : Nat) : Nat × Nat :=
  let o := (s.tr t).tail * s.slabSize t + (s.tr t).off
  (s.ringBase (HIF_TR_LO t) (HIF_TR_HI t) + o, o)

/-- The byte offset of the tail of ring `t` goes to the status block (R360). -/
def State.trStatus (s : State) (t : Nat) : State :=
  s.emit (.dma (s.pair HIF_SB_LO HIF_SB_HI + 8 * t) (leBytes 8 (s.trAt t).2))

/-- The channels that ring `t` selects. -/
def State.trChans (s : State) (t : Nat) : List Nat := s.maskChans (s.get (HIF_TR_CFG.MASK t))

/-- The rest of the slab of ring `t` is padded with a PAD record, and the next slab starts (R360); the PAD record's FIRST is
not given by the spec. The status block follows the PAD record as any other. -/
def State.trNext (s : State) (t : Nat) : State :=
  let pad := decide ((s.tr t).off < s.slabSize t)
  let s :=
    if pad then
      let first := BitVec.ofNat 64 (s.freeVal.toNat + 2 ^ 32 * s.drawn.freeVal.toNat)
      let s := s.drawn.drawn
      let h := telHeader 0 t 0 (s.get (HIF_TR_CFG.MASK t)) (s.tr t).seq first 0 (s.get (HIF_TR_CFG.DECIM t))
        (s.trChans t).length 0xFFFFFFFF
      let s := s.emit (.dma (s.trAt t).1 (telBytes h []))
      (s.modTr t (fun x => { x with seq := (x.seq + 1) % 2 ^ 32 })).slabDone t
    else s
  let s := s.modTr t (fun x => { x with tail := (x.tail + 1) % s.slabs t, off := 0 })
  s.when pad (fun s => s.trStatus t)

/-- A record is written to ring `t`, which has room for it, and the status block follows (R360). -/
def State.trPut (s : State) (t : Nat) (h : Nat → Bytes) (ws : List Word) : State :=
  let n := 32 + 4 * ws.length
  let s := if s.slabSize t < (s.tr t).off + padLen n then s.trNext t else s
  let s := s.emit (.dma (s.trAt t).1 (telBytes (h (s.tr t).seq) ws))
  let s := s.modTr t (fun x => { x with
    seq := (x.seq + 1) % 2 ^ 32
    off := x.off + padLen n
    gap := false })
  let s := s.trStatus t
  if (s.tr t).off = s.slabSize t then s.slabDone t else s

/-- A record of ring `t` is dropped: it consumes its SEQ, and the next one carries GAP (R364). -/
def State.trDrop (s : State) (t : Nat) : State :=
  ((s.modTr t (fun x => { x with seq := (x.seq + 1) % 2 ^ 32, gap := true })).bump (HIF_TR_STAT.DROP t)).icuRaise 43

/-- The record in progress of ring `t` is dropped, if there is one (R364). -/
def State.trAbandon (s : State) (t : Nat) : State :=
  if (s.tr t).ticks.isEmpty then s else (s.modTr t (fun x => { x with ticks := [] })).trDrop t

/-- TBC steps between consecutive selected ticks: DECIM in Run, of the ticks that coincide with it in Graze (R361, R362). -/
def tickStep (decim : Nat) (g : Bool) : Nat := if g then Nat.lcm (max 1 decim) 4 / 4 else max 1 decim

/-- How many of the ticks, oldest first, one record can hold: at most `n`, no change between Run and Graze, no gap (R361,
R362). -/
def runLength (decim : Nat) : List TTick → Nat → Nat
  | x :: y :: r, n + 1 =>
    if nbit x.flags 0 = nbit y.flags 0 ∧ y.tbc.toNat = x.tbc.toNat + tickStep decim (nbit x.flags 0) then
      1 + runLength decim (y :: r) n
    else 1
  | [_], _ + 1 => 1
  | _, _ => 0

/-- The FLAGS of a record of these ticks (R361). -/
def telFlags (xs : List TTick) (gap : Bool) : Nat :=
  xs.foldl (fun a x => a ||| x.flags) (2 * b2n gap)

/-- The length of the run of ticks that the next record of ring `t` holds. -/
def State.telRun (s : State) (t : Nat) : Nat := runLength (s.get (HIF_TR_CFG.DECIM t)) (s.tr t).ticks (s.get (HIF_TR_CFG.TPR t))

/-- The capture buffer still holds the frame of a tick (R104, R364). -/
def State.frameHeld (s : State) (tbc : Nat) : Bool :=
  s.sns.segs.any (fun g => decide (g.2.1 ≤ tbc) && decide (tbc < g.2.1 + g.2.2.2))

/-- Ring `t` is live, the device may write host memory, and the ring holds a full record, or a shorter one that a gap or a change of tick length ended (R362). -/
def State.telReady (s : State) (t : Nat) : Bool :=
  let n := s.telRun t
  s.liveRing t && s.dmaOn && n != 0 && !(n == (s.tr t).ticks.length && decide (n < s.get (HIF_TR_CFG.TPR t)))

/-- The next record of ring `t` is written, or lost where it finds no room or a frame of it has been overwritten (R360 to R362,
R364). -/
def State.telSend (s : State) (t : Nat) : State :=
  let xs := (s.tr t).ticks
  let d := s.get (HIF_TR_CFG.DECIM t)
  let n := s.telRun t
  let mine := xs.take n
  let jump := match xs.drop (n - 1) with
    | x :: y :: _ => nbit x.flags 0 == nbit y.flags 0 && y.tbc.toNat != x.tbc.toNat + tickStep d (nbit x.flags 0)
    | _ => false
  let s := s.modTr t (fun x => { x with ticks := xs.drop n })
  let ws := mine.flatMap (fun x => x.words)
  let s :=
    if s.trRoom t (32 + 4 * ws.length) && mine.all (fun x => s.frameHeld x.tbc.toNat) then
      let first := match mine with
        | x :: _ => x.tbc
        | [] => 0
      let fl := telFlags mine (s.tr t).gap
      s.trPut t (fun q => telHeader 1 t fl (s.get (HIF_TR_CFG.MASK t)) q first ws.length d (s.trChans t).length
        (uncIdx mine 0)) ws
    else s.trDrop t
  if jump then s.modTr t (fun x => { x with gap := true }) else s

/-- TELEMETRY_RECORD. Ring `t` closes the record in progress, if TPR ticks are together or the next selected tick cannot
join them, and writes or drops it (R361, R362, R364). -/
def execTelemetryRecord (t : Nat) (s : State) : Host.Outcome State Fault Refusal :=
  runs (wfTelemetryRecord t) s (fun s => if s.telReady t then s.telSend t else s)

/-- A dump of the frozen buffer starts, in FROZEN (R366). -/
def State.dumpStart (s : State) : State :=
  if s.get HIF_CAP_STAT.STATE = 3 then { s.set HIF_CAP_STAT.STATE 4 with hif := { s.hif with dump := some 0 } } else s

/-- A write of 1 to HIF_CAP_CTL.ARM (R366). -/
def State.capArm (s : State) : State :=
  let st := s.get HIF_CAP_STAT.STATE
  if st = 0 ∨ st = 3 ∨ st = 4 then
    { (s.set HIF_CAP_STAT.STATE 1).set SNS_CAP_STAT.FROZEN 0 with hif := { s.hif with dump := none } }
  else s

/-- CAPTURE_ARM. -/
def execCaptureArm (w : Who) (s : State) : Host.Outcome State Fault Refusal :=
  runs (wfCaptureArm w) s (fun s => s.asWrite w HIF_CAP_CTL 1 State.capArm)

/-- CAPTURE_DUMP. -/
def execCaptureDump (w : Who) (s : State) : Host.Outcome State Fault Refusal :=
  runs (wfCaptureDump w) s (fun s => s.asWrite w HIF_CAP_CTL 2 State.dumpStart)

/-- CAPTURE_TRIGGER. A trigger at HIF_CAPTRIG_k that comes by no event of the model (R366; log entry 134). -/
def execCaptureTrigger (k : Nat) (s : State) : Host.Outcome State Fault Refusal :=
  runs (wfCaptureTrigger k) s (fun s =>
    s.capTrigger k)

/-- The buffer freezes (R366): live streams stop, and their records in progress are dropped (R364). -/
def State.capFreeze (s : State) : State :=
  let k := s.get HIF_CAP_STAT.TSRC
  let t := s.pair HIF_CAP_TTRIG_LO HIF_CAP_TTRIG_HI
  let s := (s.set HIF_CAP_STAT.STATE 3).set SNS_CAP_STAT.FROZEN 1
  let s := (s.evPost 7 (leBytes 4 k ++ leBytes 8 t)).fireHif 3
  let s := s.each (List.range 8) State.trAbandon
  if s.on HIF_CAP_CFG.AUTODUMP then s.dumpStart else s

/-- CAPTURE_FREEZE. The frame of tick TTRIG + POST has been written. -/
def execCaptureFreeze (s : State) : Host.Outcome State Fault Refusal :=
  runs wfCaptureFreeze s (fun s =>
    if s.capFull then s.capFreeze else s)

/-- The `i`-th frame of the runs, oldest first: frame, TBC, FLAGS (R361). -/
def segFrame : List (Nat × Nat × Nat × Nat) → Nat → Option (Nat × Nat × Nat)
  | [], _ => none
  | (f, t, g, n) :: r, i => if i < n then some ((f + i) % capFrames, t + i, g) else segFrame r (i - n)

/-- The frames of the next dump record, from the `i`-th on: at most 16, consecutive, all in one tick length (R361, R366). -/
def dumpFrames (segs : List (Nat × Nat × Nat × Nat)) (i : Nat) : List (Nat × Nat × Nat) :=
  let fs := (List.range 16).filterMap (fun j => segFrame segs (i + j))
  match fs with
  | [] => []
  | x :: _ => ((List.range fs.length).zip fs).filterMap (fun e =>
      if (((List.range (e.1 + 1)).zip fs).all (fun y => y.2.2.1 == x.2.1 + y.1 && nbit y.2.2.2 0 == nbit x.2.2 0)) then
        some e.2 else none)

/-- The ticks of those frames as the DMA engine reads them (R363). -/
def State.dumpTicks (s : State) (fs : List (Nat × Nat × Nat)) : List TTick × State :=
  fs.foldl (fun (a : List TTick × State) f =>
    let r := a.2.frameWords f.1 (BitVec.ofNat 64 f.2.1) f.2.2 (List.range 184)
    (a.1 ++ [r.1], r.2)) ([], s)

/-- The dump ends (R366). -/
def State.dumpEnd (s : State) : State :=
  { s.set HIF_CAP_STAT.STATE 3 with hif := { s.hif with dump := none } }.fireHif 4

/-- The dump's next record, of the frames from place `i` of the runs, goes to its ring (R366). -/
def State.dumpSend (s : State) (i : Nat) : State :=
  let t := s.get HIF_CAP_CFG.RING
  let segs := s.sns.segs.reverse
  let fs := dumpFrames segs i
  if fs.isEmpty then s.dumpEnd
  else if !s.dmaOn || s.get (HIF_TR_CFG.MODE t) ≠ 2 || !s.trRoom t (32 + 736 * fs.length) then s
  else
    let r := s.dumpTicks fs
    let ws := r.1.flatMap (fun x => x.words)
    let first := match r.1 with
      | x :: _ => x.tbc
      | [] => 0
    let fl := telFlags r.1 (s.tr t).gap
    let s := r.2.trPut t (fun q => telHeader 2 t fl 0xFF q first ws.length 1 184 (uncIdx r.1 0)) ws
    let s := { s with hif := { s.hif with dump := some (i + fs.length) } }
    if (segFrame segs (i + fs.length)).isNone then s.dumpEnd else s

/-- DUMP_RECORD. The next record of the dump is written once its ring has room (R366). -/
def execDumpRecord (s : State) : Host.Outcome State Fault Refusal :=
  runs wfDumpRecord s (fun s => match s.hif.dump with
    | none => s
    | some i => s.dumpSend i)

end Sys2Proof.Machine
end

