-- ==== Sys2Proof/Machine/HostQueue.lean ====
section
/-! DEFINITION. The command queues: descriptor fetches, the checks of a descriptor, its completion, and the descriptors that write no register of another block (R345 to R354). -/

namespace Sys2Proof.Machine

/-- A byte of a descriptor. -/
def Desc.b (d : Desc) (i : Nat) : Nat := leAt d.bytes i 1

/-- A little-endian field of a descriptor. -/
def Desc.f (d : Desc) (i n : Nat) : Nat := leAt d.bytes i n

/-- Bytes `i` to `j - 1` of a descriptor are 0. -/
def Desc.zero (d : Desc) (i j : Nat) : Bool := (bytesAt d.bytes i (j - i)).all (· == 0)

/-- The descriptor's CRC passes (R349). -/
def Desc.crcOk (d : Desc) : Bool := d.f 60 4 == crc32c (bytesAt d.bytes 0 60)

/-- The register writes that a descriptor makes, core-view address and value, and whether each names a block (R350). -/
def regwWrites (d : Desc) : List (Nat × Word) :=
  (List.range (d.b 8)).map (fun i => (0x40000000 + d.f (12 + 8 * i) 4, BitVec.ofNat 32 (d.f (16 + 8 * i) 4)))

/-- BAR0 reaches a block at a core-view address (R343). -/
def barMapped (a : Nat) : Bool := decide (0x40100000 ≤ a) && decide (a < 0x41000000)

/-- The opcode, reserved bytes and operand ranges of a descriptor (R349, R350): 0 where they are well, else status 2. -/
def Desc.shape (d : Desc) : Nat :=
  let rsv := d.zero 4 8 && decide (d.b 1 < 2)
  let o := d.b 0
  let ok :=
    if 0x80 ≤ o then rsv
    else if o = 0x00 ∨ o = 0x21 ∨ o = 0x22 then rsv && d.zero 8 60
    else if o = 0x01 then
      rsv && decide (1 ≤ d.b 8) && decide (d.b 8 ≤ 5) && d.zero 9 12 && d.zero (12 + 8 * d.b 8) 60
        && (regwWrites d).all (fun w => w.1 % 4 == 0)
    else if o = 0x02 then rsv && d.zero 12 60 && d.f 8 4 % 4 == 0
    else if o = 0x10 then rsv && decide (d.b 8 < 32) && decide (d.b 9 < 2) && decide (d.f 10 2 < 0x4000) && d.zero 12 60
    else if o = 0x11 then rsv && decide (d.b 8 < 32) && decide (d.b 9 < 2) && d.zero 10 60
    else if o = 0x12 then rsv && decide (d.b 8 < 144) && decide (d.b 9 ≤ 4) && d.zero 10 60
    else if o = 0x13 then rsv && decide (d.b 8 < 32) && decide (d.b 9 ≤ 2) && d.zero 10 60
    else if o = 0x20 then rsv && decide (d.b 8 < 4) && d.zero 9 60
    else false
  if ok then 0 else 2

/-- The register writes a descriptor makes, whatever its opcode (R350). -/
def State.descWrites (s : State) (d : Desc) : List (Nat × Word) :=
  let o := d.b 0
  let r := d.b 8
  if o = 0x01 then regwWrites d
  else if o = 0x10 then [(RLC_RAIL_HREF r, putBits (BitVec.ofNat 32 (d.f 10 2)) 31 31 (d.b 9))]
  else if o = 0x11 then [(RLC_RAIL_CTL r, putBits (s.rd (RLC_RAIL_CTL r)) 31 31 (d.b 9))]
  else if o = 0x12 then [(PHA_PH_CMD, BitVec.ofNat 32 (d.b 9 * 2 ^ 16 + r))]
  else if o = 0x13 then [(BLW_QCMD, BitVec.ofNat 32 (d.b 9 * 2 ^ 30 + r))]
  else if o = 0x20 then [(EVF_CON_FIRE, BitVec.ofNat 32 (200 + r))]
  else if o = 0x21 then [(HIF_CAP_CTL, 2)]
  else if o = 0x22 then [(HIF_CAP_CTL, 1)]
  else []

/-- Why a register access of a descriptor is refused: 0 for none (R351). -/
def State.accessStatus (s : State) (a : Nat) (v : Word) : Nat :=
  if !barMapped a then 4 else if s.tenantWho .host && s.violates 6 a v then 3 else 0

/-- THE CHECKS of a descriptor (R351, steps 1 and 2): its status, 0 where it may execute. -/
def State.descStatus (s : State) (d : Desc) : Nat :=
  if !d.crcOk then 1
  else if d.shape ≠ 0 then 2
  else if d.b 0 = 0x02 then (if barMapped (0x40000000 + d.f 8 4) then 0 else 4)
  else (((s.descWrites d).map (fun w => s.accessStatus w.1 w.2)).find? (· ≠ 0)).getD 0

/-- The completion queue that queue `q` names. -/
def State.cqOfSq (s : State) (q : Nat) : Nat := s.get (HIF_SQ_CTL.CQ q)

/-- Queue `q` stalls: its completion queue is full or stopped and holds a completion back (R347, R348). -/
def State.sqStalled (s : State) (q : Nat) : Bool :=
  s.cqFull (s.cqOfSq q) && !(s.cqOf (s.cqOfSq q)).held.isEmpty

/-- The oldest descriptor of queue `q` completes with a status and result (R352, R353). -/
def State.complete (s : State) (q status : Nat) (result : Word) : State :=
  match (s.sqOf q).fetched with
  | [] => s
  | d :: ds =>
    let c : Compl := ⟨q, result, (d.idx + 1) % s.sqCount q, d.f 2 2, status⟩
    (s.modSq q (fun x => { x with fetched := ds })).modCq (s.cqOfSq q) (fun x => { x with held := x.held ++ [c] })

/-- Descriptors at the head of queue `q` that fail their checks complete without executing (R351). -/
def State.settleN (s : State) (q : Nat) : Nat → State
  | 0 => s
  | n + 1 => match (s.sqOf q).fetched with
    | [] => s
    | d :: _ =>
      if d.fw || s.sqStalled q || s.descStatus d == 0 then s else (s.complete q (s.descStatus d) 0).settleN q n

/-- The same of every queue. -/
def State.settle (s : State) : State :=
  s.each (List.range 16) (fun s q => s.settleN q (s.sqOf q).fetched.length)

/-- The descriptors that a fetch of queue `q` brings: at most 4 and what the host's read request size admits (R341), and none
beyond the tail or the ring's end (R352). -/
def State.fetchCount (s : State) (q : Nat) : Nat :=
  let n := s.sqCount q
  let h := s.get (HIF_SQ_STAT.HEAD q)
  min (min 4 (2 ^ (s.hif.cfg.mrrs + 1))) (min (((s.sqOf q).tail + n - h) % n) (n - h))

/-- Queue `q` may fetch (R351, R372). -/
def State.sqRuns (s : State) (q : Nat) : Bool := s.dmaOn && s.on (HIF_SQ_CTL.EN q) && !s.on (HIF_SQ_STAT.ERR q)

/-- DESCRIPTOR_FETCH. A read of queue `q` completes with its descriptors, which are checked, or fails (R351, R352). -/
def execDescriptorFetch (q : Nat) (f : FetchRes) (s : State) : Host.Outcome State Fault Refusal :=
  runs (wfDescriptorFetch q f) s (fun s =>
    let n := s.fetchCount q
    if !s.sqRuns q || n = 0 then s
    else
      let h := s.get (HIF_SQ_STAT.HEAD q)
      let at_ := s.ringBase (HIF_SQ_LO q) (HIF_SQ_HI q) + 64 * h
      match f with
      | .error => (s.emit (.dmaRead at_ (64 * n))).sqStop q 2
      | .data ds =>
        let k := min n ds.length
        let new := ((List.range k).zip ds).map (fun e => ({ idx := h + e.1, bytes := bytesAt e.2 0 64 } : Desc))
        let s := (s.emit (.dmaRead at_ (64 * k))).set (HIF_SQ_STAT.HEAD q) ((h + k) % s.sqCount q)
        (s.modSq q (fun x => { x with fetched := x.fetched ++ new })).settle)

/-- The firmware inbox has no free entry (R354). -/
def State.inboxFull (s : State) : Bool :=
  (s.get HIF_FWIN_HEAD.IDX + 1) % 2 ^ s.get HIF_FWIN_BASE.LOG2 == s.get HIF_FWIN_TAIL.IDX

/-- The oldest descriptor of queue `q` can be executed now (R347, R349, R351, R354). -/
def State.sqReady (s : State) (q : Nat) : Bool :=
  match (s.sqOf q).fetched with
  | [] => false
  | d :: _ =>
    s.on HIF_CTL.EN && s.mode != modeKindle && !d.fw && !s.sqStalled q && s.descStatus d == 0 && !(decide (0x80 ≤ d.b 0) && s.inboxFull)
      && !(nbit (d.b 1) 0 && (s.cqOf (s.cqOfSq q)).held.any (fun c => c.queue == q))

/-- The queue the command engine serves next: queue 0 first, then queues 1 to 15 in rotating order (R352). -/
def State.sqNext (s : State) : Option Nat :=
  if s.sqReady 0 then some 0
  else ((List.range 15).map (fun i => (s.hif.served - 1 + 1 + i) % 15 + 1)).find? s.sqReady

/-- A descriptor of queue `q` has executed: QHIST follows (R369). -/
def State.executed (s : State) (q : Nat) (d : Desc) : State :=
  ((s.set (HIF_QHIST.VALID q) 1).set (HIF_QHIST.IDX q) d.idx).modSq q (fun x => { x with lastCid := d.f 2 2 })

/-- The engine has served queue `q`: the rotation of queues 1 to 15 follows (R352). -/
def State.turn (s : State) (q : Nat) : State := if q = 0 then s else { s with hif := { s.hif with served := q } }

/-- The effect of a descriptor with one register access, unless its buffered copy or that access fails (R351). -/
def accessGuard (e : DescErr) (act : Desc → State → (Nat × Word) × State) (d : Desc) (s : State) : (Nat × Word) × State :=
  match e with
  | .sound => act d s
  | .buffer => ((1, 0), s)
  | .parity 0 => ((5, 0), s)
  | .parity (_ + 1) => act d s

/-- A descriptor of queue `q` with an opcode that the test accepts executes, if the engine serves it next (R351, R352): its
effect, then its completion with the status and result that the effect answers; status 1 says that it executed nothing. -/
def State.engine (s : State) (q : Nat) (f : Nat → Bool) (act : Desc → State → (Nat × Word) × State) : State :=
  let s := s.settle
  match (s.sqOf q).fetched with
  | [] => s
  | d :: _ =>
    if s.sqNext == some q && f (d.b 0) then
      let r := act d s
      (((if r.1.1 = 1 then r.2 else r.2.executed q d).turn q).complete q r.1.1 r.1.2).settle
    else s

/-- HOST_NOP. -/
def execHostNop (q : Nat) (s : State) : Host.Outcome State Fault Refusal :=
  runs (wfHostNop q) s (fun s => s.engine q (· == 0) (fun _ s => ((0, 0), s)))

/-- CAPTURE. -/
def execCapture (q : Nat) (e : DescErr) (s : State) : Host.Outcome State Fault Refusal :=
  runs (wfCapture q e) s (fun s => s.engine q (· == 0x20) (accessGuard e (fun d s => ((0, 0), s.fireConsumer (200 + d.b 8)))))

/-- CAP_DUMP. -/
def execCapDump (q : Nat) (e : DescErr) (s : State) : Host.Outcome State Fault Refusal :=
  runs (wfCapDump q e) s (fun s => s.engine q (· == 0x21) (accessGuard e (fun _ s => ((0, 0), s.dumpStart))))

/-- CAP_REARM. -/
def execCapRearm (q : Nat) (e : DescErr) (s : State) : Host.Outcome State Fault Refusal :=
  runs (wfCapRearm q e) s (fun s => s.engine q (· == 0x22) (accessGuard e (fun _ s => ((0, 0), s.capArm))))

/-- Descriptor `d` of queue `q` goes to the firmware inbox (R354). -/
def State.fwDeliver (s : State) (q : Nat) (d : Desc) : State :=
  let h := s.get HIF_FWIN_HEAD.IDX
  let a := s.get HIF_FWIN_BASE.ADDR * 128 + 128 * h
  let e := d.bytes ++ leBytes 2 q ++ leBytes 2 d.idx ++ List.replicate 60 0
  let s := s.each (List.range 32) (fun s i => s.engineWrite (a + 4 * i) (bytesAt e (4 * i) 4))
  let s := s.set HIF_FWIN_HEAD.IDX ((h + 1) % 2 ^ s.get HIF_FWIN_BASE.LOG2)
  let s := s.modSq q (fun x => { x with fetched := modNth x.fetched 0 (fun d => { d with fw := true }) })
  (s.fireHif 0).turn q

/-- FW_DESCRIPTOR. The descriptor goes to the firmware inbox, and its queue holds (R354). -/
def execFwDescriptor (q : Nat) (s : State) : Host.Outcome State Fault Refusal :=
  runs (wfFwDescriptor q) s (fun s =>
    let s := s.settle
    match (s.sqOf q).fetched with
    | [] => s
    | d :: _ => if s.sqNext == some q && decide (0x80 ≤ d.b 0) then s.fwDeliver q d else s)

/-- A write of HIF_FWCPL (R354, R372). -/
def State.fwComplete (s : State) (v : Word) : State :=
  let q := getBits v 31 28
  let st := getBits v 23 16
  match (s.sqOf q).fetched with
  | d :: _ =>
    if d.fw && (st == 0 || st == 6) then ((s.executed q d).complete q st (s.rd HIF_FWRES)).settle else s
  | [] => s

/-- FW_COMPLETION. -/
def execFwCompletion (w : Who) (v : Word) (s : State) : Host.Outcome State Fault Refusal :=
  runs (wfFwCompletion w v) s (fun s => s.asWrite w HIF_FWCPL v (fun s => s.fwComplete v))

/-- COMPLETION_POST. -/
def execCompletionPost (c : Nat) (s : State) : Host.Outcome State Fault Refusal :=
  runs (wfCompletionPost c) s (fun s => (s.postCompl c).settle)

/-- CQ_HEAD_DOORBELL. -/
def execCqHeadDoorbell (q : Nat) (v : Word) (s : State) : Host.Outcome State Fault Refusal :=
  runs (wfCqHeadDoorbell q v) s (fun s => s.hostMem false (fun s => (s.cqDoorbell q v).settle))

end Sys2Proof.Machine
end

