-- ==== Sys2Proof/Machine/Hif.lean ====
section
/-! DEFINITION. The host interface as a whole: its commit check, the link, the host interface reset and its registers (R341 to R344, R365, R368 to R373), and the restoring of fields by reset domain (R12, R13). -/

namespace Sys2Proof.Machine

/-- The register at address `a` with the fields that a test names at their reset values (R12). -/
def restoreWord (p : Nat → FieldSpec → Bool) (a : Nat) (v : Word) : Word :=
  match regAt a with
  | none => v
  | some r => r.fields.foldl (fun w f => if p a f then putBits w f.hi f.lo (getBits (resetVal a) f.hi f.lo) else w) v

/-- THE RESTORING OF FIELDS by a reset (R12, R13): those that the test names, in every register. -/
def State.restore (s : State) (p : Nat → FieldSpec → Bool) : State :=
  { s with regs := s.regs.filterMap (fun e =>
      let v := restoreWord p e.1 e.2
      if v = resetVal e.1 then none else some (e.1, v)) }

/-- The size of the Pasture window is a power of two in range (R359). -/
def State.pwLog (s : State) : Nat := s.get HIF_PW_BASE_LO.PWLOG2

/-- The base of the Pasture window. -/
def State.pwBase (s : State) : Nat := s.pair HIF_PW_BASE_LO HIF_PW_BASE_HI / 2 ^ 20 * 2 ^ 20

/-- The start of telemetry ring `t` in host memory and the byte after its end. -/
def State.trRange (s : State) (t : Nat) : Nat × Nat :=
  let b := s.ringBase (HIF_TR_LO t) (HIF_TR_HI t)
  (b, b + s.slabs t * s.slabSize t)

/-- The channels of ring `t`. -/
def State.nch (s : State) (t : Nat) : Nat := (s.trChans t).length

/-- The live rings (R362). -/
def State.liveRings (s : State) : List Nat := whichN 8 (fun t => s.get (HIF_TR_CFG.MODE t) == 1)

/-- THE LINK CEILING in bytes a second (R365). -/
def linkCeiling (gen width : Nat) : Nat :=
  if gen = 0 ∨ width = 0 then 0 else 6400000000 / 2 ^ (4 - gen) / (4 / width)

/-- The rates of rings fit a ceiling (R365): the sum of NCH × 4 B × 20 MHz / DECIM, over a common denominator. -/
def State.ratesFit (s : State) (ts : List Nat) (ceiling : Nat) : Bool :=
  let d (t : Nat) := max 1 (s.get (HIF_TR_CFG.DECIM t))
  let m := ts.foldl (fun a t => a * d t) 1
  decide ((ts.map (fun t => s.nch t * 80000000 * (m / d t))).sum ≤ ceiling * m)

/-- The ceiling of the link in force. -/
def State.ceiling (s : State) : Nat := linkCeiling (s.get HIF_STAT.SPEED) (s.get HIF_STAT.WIDTH)

/-- Something of queue or ring number `i` that is enabled has a reserved value or a base out of alignment (R373, code 1). -/
def State.ringShapeBad (s : State) (i : Nat) : Bool :=
  (s.on (HIF_SQ_CTL.EN i) && !inRange 4 16 (s.get (HIF_SQ_LO.LOG2 i)))
    || (s.on (HIF_CQ_CTL.EN i) && !inRange 4 16 (s.get (HIF_CQ_LO.LOG2 i)))
    || (i == 0 && s.on HIF_EVR_CTL.EN && !inRange 4 16 (s.get HIF_EVR_LO.LOG2))
    || (decide (i < 8) && s.get (HIF_TR_CFG.MODE i) != 0 &&
      (!inRange 4 16 (s.get (HIF_TR_GEO.SLOG2 i)) || !inRange 12 21 (s.get (HIF_TR_GEO.SLAB i))
        || !inRange 1 1024 (s.get (HIF_TR_CFG.TPR i)) || (s.trRange i).1 % s.slabSize i != 0
        || !inRange 20 37 s.pwLog || s.pwBase % 2 ^ s.pwLog != 0))

/-- The rings in use of number `i`, each with its kind (R346): start in host memory and the byte after the end. -/
def State.ringsAt (s : State) (i : Nat) : List (Nat × Nat × Nat) :=
  let ring (k : Nat) (on : Bool) (lo hi n : Nat) := if on then [(k, s.ringBase lo hi, s.ringBase lo hi + n)] else []
  ring 0 (s.on (HIF_SQ_CTL.EN i)) (HIF_SQ_LO i) (HIF_SQ_HI i) (64 * s.sqCount i)
    ++ ring 1 (s.on (HIF_CQ_CTL.EN i)) (HIF_CQ_LO i) (HIF_CQ_HI i) (16 * s.cqCount i)
    ++ ring 2 (i == 0 && s.on HIF_EVR_CTL.EN) HIF_EVR_LO HIF_EVR_HI (32 * s.evCount)
    ++ ring 3 (decide (i < 8) && s.get (HIF_TR_CFG.MODE i) != 0) (HIF_TR_LO i) (HIF_TR_HI i) (s.slabs i * s.slabSize i)

/-- Telemetry ring `i` lies outside the Pasture window, or a ring of that number overlaps another ring (R373, code 2). -/
def State.ringPlaceBad (s : State) (i : Nat) : Bool :=
  (s.ringsAt i).any (fun r =>
    (r.1 == 3 && (decide (r.2.1 < s.pwBase) || decide (s.pwBase + 2 ^ s.pwLog < r.2.2)))
      || (List.range 16).any (fun j => (s.ringsAt j).any (fun u =>
        !(j == i && u.1 == r.1) && decide (r.2.1 < u.2.2) && decide (u.2.1 < r.2.2))))

/-- The dump ring that HIF_CAP_CFG names is in use without MODE 2 or a slab of 16 KiB (R372, R373, code 4; log
entry 140). -/
def State.dumpRingBad (s : State) (t : Nat) : Bool :=
  s.get HIF_CAP_CFG.RING == t && s.get (HIF_TR_CFG.MODE t) != 0
    && (s.get (HIF_TR_CFG.MODE t) != 2 || decide (s.slabSize t < 16384))

/-- THE HIF COMMIT CHECK (R373, R464): the first refusal, code and number. -/
def State.hifCheck (s : State) : Option (Nat × Nat) :=
  firstOf [
    firstFail 16 1 s.ringShapeBad,
    firstFail 16 2 s.ringPlaceBad,
    firstFail 8 3 (fun t => s.get (HIF_TR_CFG.MODE t) == 1 && !s.ratesFit (s.liveRings.filter (· ≤ t)) s.ceiling),
    firstFail 8 4 (fun t =>
      (s.get (HIF_TR_CFG.MODE t) == 1 && decide (s.slabSize t < 32 + 4 * s.nch t * s.get (HIF_TR_CFG.TPR t)))
        || s.dumpRingBad t),
    firstFail 16 5 (fun q => s.on (HIF_SQ_CTL.EN q) &&
      (!s.on (HIF_CQ_CTL.EN (s.cqOfSq q)) || (s.cqOfSq q == 0 && q != 0)))]

/-- The live rings of an accepted commit (R365). -/
def State.committedLive (s : State) : List Nat := if s.on HIF_COMMIT.LOCK then s.liveRings else []

/-- The rings that the link of a rate allows: the highest-numbered go first (R365). -/
def State.fitting (s : State) (ceiling : Nat) : List Nat → List Nat
  | [] => []
  | t :: ts => if s.ratesFit (t :: ts).reverse ceiling then t :: ts else s.fitting ceiling ts

/-- SUSP follows what the link allows: committed live rings are suspended in descending number until the rest fits, and resumed
where the link allows it again; HIF_TRSUSP fires where a ring is newly suspended (R365). The record in progress of such a ring
is dropped (log entry 133). -/
def State.refit (s : State) : State :=
  let keep := s.fitting s.ceiling s.committedLive.reverse
  let lost := s.committedLive.filter (fun t => !keep.contains t && !s.on (HIF_TR_STAT.SUSP t))
  let s := s.each (List.range 8) (fun s t =>
    s.setb (HIF_TR_STAT.SUSP t) (s.committedLive.contains t && !keep.contains t))
  let s := s.each lost (fun s t => (s.trAbandon t).modTr t (fun x => { x with gap := true }))
  if lost.isEmpty then s else s.fireHif 5

/-- A write of 1 to HIF_COMMIT.LOCK (R373). -/
def State.hifLock (s : State) : State :=
  match s.hifCheck with
  | none => (((s.set HIF_COMMIT.RESULT 0).set HIF_COMMIT.WHERE 0).set HIF_COMMIT.LOCK 1).refit
  | some (c, i) =>
    (s.set HIF_COMMIT.RESULT c).set HIF_COMMIT.WHERE i

/-- HIF_COMMIT_LOCK. -/
def execHifCommitLock (w : Who) (s : State) : Host.Outcome State Fault Refusal :=
  runs (wfHifCommitLock w) s (fun s => s.asWrite w HIF_COMMIT 1 State.hifLock)

/-- HIF_LINKUP fires once the link is up and EN is set (R370). -/
def State.linkUpFire (s : State) : State :=
  if s.on HIF_STAT.LINK && s.on HIF_CTL.EN && !s.hif.upFired then
    { s with hif := { s.hif with upFired := true } }.fireHif 1
  else s

/-- LINK_RATE_CHANGE (R365). -/
def execLinkRateChange (gen width : Nat) (s : State) : Host.Outcome State Fault Refusal :=
  runs (wfLinkRateChange gen width) s (fun s =>
    if !s.on HIF_STAT.LINK then s else ((s.set HIF_STAT.SPEED gen).set HIF_STAT.WIDTH width).refit)

/-- LINK_UP. -/
def execLinkUp (gen width : Nat) (s : State) : Host.Outcome State Fault Refusal :=
  runs (wfLinkUp gen width) s (fun s =>
    if s.on HIF_STAT.LINK then s
    else
      let s := ((s.set HIF_STAT.LINK 1).set HIF_STAT.SPEED gen).set HIF_STAT.WIDTH width
      (s.linkUpFire).signalPending)

/-- A completion of queue `q` is held back in some completion queue. -/
def State.unposted (s : State) (q : Nat) : Bool :=
  (List.range 16).any (fun c => (s.cqOf c).held.any (fun e => e.queue == q))

/-- The queues that a host interface reset loses something of (R369). -/
def State.lostQueues (s : State) : Nat :=
  maskN 16 (fun q => !(s.sqOf q).fetched.isEmpty || s.unposted q)

/-- The rings and queues of the host are gone (R369): what the HIF keeps through a reset of kind H. -/
def Hif.cleared (h : Hif) : Hif :=
  { h with
    sq := h.sq.map (fun q => { lastCid := q.lastCid })
    cq := List.replicate 16 {}
    tr := List.replicate 8 {}
    db := []
    evHead := 0
    evTail := 0
    evPhase := true
    upFired := false
    dump := none }

/-- What outlives a hot reset and the loss of the link in configuration space: the sticky fields of the PCI Express
specification (R342; log entry 94). -/
def PciCfg.sticky (c : PciCfg) : PciCfg := {
  lnkCtl2 := c.lnkCtl2
  ecrcGen := c.ecrcGen
  ecrcChk := c.ecrcChk
  aer := c.aer
  aerMask := c.aerMask
  aerSev := c.aerSev
  cor := c.cor
  corMask := c.corMask
  fep := c.fep
  hdrLog := c.hdrLog }

/-- The PCI Express function as a reset of the kinds of R368 leaves it: configuration space, the MSI-X Table and the power
state at their defaults (R341, R369). -/
def Hif.functionReset (h : Hif) (kind : Nat) : Hif :=
  { h with
    msix := (List.replicate 32 [0, 0, 0, 1]).flatten
    pba := 0
    d3hot := false
    cfg := if kind = 2 ∨ kind = 3 then h.cfg.sticky else {} }

/-- The registers of domain H at their reset values, the rings gone, a dump aborted (R366, R369). -/
def State.hostClear (s : State) : State :=
  let s := s.restore (fun a f => a / 0x100000 == 0x409 && f.dom == .h)
  let s := { s with hif := s.hif.cleared }
  if s.get HIF_CAP_STAT.STATE = 4 then s.set HIF_CAP_STAT.STATE 3 else s

/-- THE HOST INTERFACE RESET of a kind, with the DMA bytes it drops (R368 to R370, R400). Its event record takes the place of
one that an earlier reset has left unwritten, which counts as lost (log entry 93). -/
def State.hostReset (s : State) (kind bytes : Nat) : State :=
  let m := s.lostQueues
  let st := s.rd HIF_STAT
  let s := s.each (whichN 16 (nbit m)) (fun s q => s.set (HIF_QHIST.LOST q) 1)
  let s := s.hostClear
  let s := { s with hif := s.hif.functionReset kind }
  let s := if kind = 4 then
      ((s.set HIF_STAT.LINK (getBits st 0 0)).set HIF_STAT.SPEED (getBits st 7 4)).set HIF_STAT.WIDTH (getBits st 11 8)
    else s
  let s := (s.mramCount 14).mrPost 8 (leBytes 4 kind ++ leBytes 4 bytes ++ leBytes 2 m)
  let r : EvRec := {
    ty := 8
    tbc := s.tbu.tbc
    payload := leBytes 4 kind ++ leBytes 4 bytes
    seq := s.hif.evSeq
    lost := s.hif.evLost + (match s.hif.ev08 with
      | some e => e.lost + 1
      | none => 0)
    held := true }
  let s := { s with hif := { s.hif with ev08 := some r, evSeq := (s.hif.evSeq + 1) % 2 ^ 32, evLost := 0 } }
  s.fireHif 2

/-- HOST_INTERFACE_RESET. -/
def execHostInterfaceReset (kind bytes : Nat) (s : State) : Host.Outcome State Fault Refusal :=
  runs (wfHostInterfaceReset kind bytes) s (fun s => s.hostReset kind bytes)

/-- The function's power state: D3hot stops DMA and interrupts; back in D0 the vectors that are pending signal (R341,
R367). -/
def State.setPower (s : State) (d3 : Bool) : State := { s with hif := { s.hif with d3hot := d3 } }.signalPending

/-- D3HOT. -/
def execD3hot (on : Bool) (s : State) : Host.Outcome State Fault Refusal :=
  runs (wfD3hot on) s (fun s => s.setPower on)

/-- An OTP word as its shadow holds it, the keys too (R384, R387). -/
def State.otpWord (s : State) (i : Nat) : Word := nth s.nvc.fuse i 0

/-- Where the model puts configuration space: a key space above the 32-bit addresses (R342). -/
def cfgSpace : Nat := 0x1A0000000

/-- A dword of configuration space (R341, R342). What the PCI Express specification leaves to the device, the places of the
capabilities among it, is log entry 94's: Power Management at 0x40, PCI Express at 0x50, MSI-X at 0x90, AER at 0x100, the
Device Serial Number at 0x148. -/
def State.cfgRead (s : State) (o : Nat) : Word :=
  let c := s.hif.cfg
  let n (v : Nat) : Word := BitVec.ofNat 32 v
  match o with
  | 0x00 => n (0x7144 * 2 ^ 16 + 0x1FA4)
  | 0x04 => n ((c.status.toNat + 0x0010) * 2 ^ 16 + c.command)
  | 0x08 => n (0x118000 * 2 ^ 8 + 0x02)
  | 0x0C => n c.cacheLine
  | 0x10 => c.bar0
  | 0x18 => c.bar2
  | 0x2C => s.otpWord 0x30
  | 0x34 => 0x40
  | 0x40 => n (0x0003 * 2 ^ 16 + 0x50 * 2 ^ 8 + 0x01)
  | 0x44 => n (2 ^ 3 + if s.hif.d3hot then 3 else 0)
  | 0x50 => n (0x0002 * 2 ^ 16 + 0x90 * 2 ^ 8 + 0x10)
  | 0x54 => n (2 ^ 28 + 2 ^ 15 + 2)
  | 0x58 => n (c.devSta.toNat * 2 ^ 16 + c.mrrs * 2 ^ 12 + b2n c.noSnoop * 2 ^ 11 + c.mps * 2 ^ 5 + b2n c.relaxed * 2 ^ 4 + c.errEn)
  | 0x5C => n (2 ^ 22 + 3 * 2 ^ 10 + 4 * 2 ^ 4 + 4)
  | 0x60 => n ((s.get HIF_STAT.WIDTH * 2 ^ 4 + s.get HIF_STAT.SPEED) * 2 ^ 16 + c.lnkCtl.toNat)
  | 0x74 => n (2 ^ 16 + 2 ^ 4 + 3)
  | 0x78 => n (b2n c.ctoOff * 2 ^ 4 + c.cto)
  | 0x7C => 0x1E
  | 0x80 => n c.lnkCtl2.toNat
  | 0x90 => n (b2n c.msixOn * 2 ^ 31 + b2n c.msixMask * 2 ^ 30 + 31 * 2 ^ 16 + 0x11)
  | 0x94 => 0x8002
  | 0x98 => 0xC002
  | 0x100 => n (0x148 * 2 ^ 20 + 2 * 2 ^ 16 + 0x0001)
  | 0x104 => c.aer
  | 0x108 => c.aerMask
  | 0x10C => c.aerSev
  | 0x110 => c.cor
  | 0x114 => c.corMask
  | 0x118 => n (b2n c.ecrcChk * 2 ^ 8 + 2 ^ 7 + b2n c.ecrcGen * 2 ^ 6 + 2 ^ 5 + c.fep)
  | 0x11C => nth c.hdrLog 0 0
  | 0x120 => nth c.hdrLog 1 0
  | 0x124 => nth c.hdrLog 2 0
  | 0x128 => nth c.hdrLog 3 0
  | 0x148 => n (1 * 2 ^ 16 + 0x0003)
  | 0x14C => s.otpWord 0
  | 0x150 => 0x1FA47144
  | _ => 0

/-- A dword with the bytes that the enables name replaced. -/
def enabledBytes (be : Nat) (old v : Word) : Word :=
  wordOfLe ((List.range 4).map (fun i => nth (leBytes 4 (if nbit be i then v else old).toNat) i 0))

/-- A field of configuration space takes a value in its range, else keeps what it holds. -/
def cfgField (old v hi : Nat) : Nat := if v ≤ hi then v else old

/-- A write of Device Control and Device Status (R341): Initiate FLR is a host interface reset of kind 4, whose count of dropped
bytes the write does not bring (log entry 94). -/
def State.devCtlWrite (s : State) (w clr : Word) : State :=
  if wbit clr 15 then s.drawn.hostReset 4 s.freeVal.toNat
  else
    let c := s.hif.cfg
    { s with hif := { s.hif with cfg := { c with
      devSta := c.devSta &&& ~~~(BitVec.ofNat 16 (getBits clr 31 16))
      mrrs := cfgField c.mrrs (getBits w 14 12) 2
      noSnoop := wbit w 11
      mps := cfgField c.mps (getBits w 7 5) 2
      relaxed := wbit w 4
      errEn := getBits w 3 0 } } }

/-- A write of configuration space (R341, R342): the fields a host writes; everything else is constant. A status bit clears where
a byte that the enables name writes 1 to it. -/
def State.cfgWrite (s : State) (o : Nat) (v : Word) (be : Nat) : State :=
  let c := s.hif.cfg
  let w := enabledBytes be (s.cfgRead o) v
  let clr := enabledBytes be 0 v
  let put (c : PciCfg) : State := { s with hif := { s.hif with cfg := c } }
  match o with
  | 0x04 => (put { c with command := (w &&& 0x0546).toNat, status := c.status &&& ~~~(BitVec.ofNat 16 (getBits clr 31 16)) }).signalPending
  | 0x0C => put { c with cacheLine := getBits w 7 0 }
  | 0x10 => put { c with bar0 := w &&& 0xFC000000 }
  | 0x18 => put { c with bar2 := w &&& 0xFFFF0000 }
  | 0x44 => if getBits w 1 0 = 0 then s.setPower false else if getBits w 1 0 = 3 then s.setPower true else s
  | 0x58 => s.devCtlWrite w clr
  | 0x60 => put { c with lnkCtl := BitVec.ofNat 16 (w &&& 0x02CB).toNat }
  | 0x78 => put { c with cto := if [0, 1, 2, 5, 6].contains (getBits w 3 0) then getBits w 3 0 else c.cto, ctoOff := wbit w 4 }
  | 0x80 => put { c with lnkCtl2 := BitVec.ofNat 16 (w &&& 0xFFBF).toNat }
  | 0x90 => (put { c with msixOn := wbit w 31, msixMask := wbit w 30 }).signalPending
  | 0x104 => put { c with aer := c.aer &&& ~~~clr }
  | 0x108 => put { c with aerMask := w &&& 0x001FF010 }
  | 0x10C => put { c with aerSev := w &&& 0x001FF010 }
  | 0x110 => put { c with cor := c.cor &&& ~~~clr }
  | 0x114 => put { c with corMask := w &&& 0x000031C1 }
  | 0x118 => put { c with ecrcGen := wbit w 6, ecrcChk := wbit w 8 }
  | _ => s

/-- The Status register notes a poisoned request (R341). -/
def State.poisonSeen (s : State) : State :=
  { s with hif := { s.hif with cfg := { s.hif.cfg with status := s.hif.cfg.status ||| 0x8000 } } }

/-- A poisoned write is dropped and reported through AER (R343): the advisory case of its receiver (R341). -/
def State.poisoned (s : State) : State := (s.aerSet 12 true).poisonSeen

/-- A write of HIF_SQ_CTL_q: EN going from 0 to 1 clears ERR and sets the head to 0 (R351). -/
def State.sqCtlWrite (s : State) (q : Nat) (v : Word) : State :=
  let was := s.on (HIF_SQ_CTL.EN q)
  let s := s.plainWrite (HIF_SQ_CTL q) v
  if !was && s.on (HIF_SQ_CTL.EN q) then
    ((s.set (HIF_SQ_STAT.ERR q) 0).set (HIF_SQ_STAT.ERRCODE q) 0).set (HIF_SQ_STAT.HEAD q) 0
  else s

/-- QUEUE_RESTART. EN is written 0 and then 1 (R351). -/
def execQueueRestart (w : Who) (q : Nat) (s : State) : Host.Outcome State Fault Refusal :=
  runs (wfQueueRestart w q) s (fun s =>
    let v := s.rd (HIF_SQ_CTL q)
    s.asWrite w (HIF_SQ_CTL q) v (fun s =>
      (s.sqCtlWrite q (putBits v 0 0 0)).sqCtlWrite q (putBits v 0 0 1)))

/-- A ring's ERR bit is written 1 (R348). -/
def State.restartRing (s : State) : RingId → State
  | .cq c => (s.set (HIF_CQ_STAT.ERR c) 0).settle
  | .tele t => s.set HIF_STAT.TRERR (s.get HIF_STAT.TRERR &&& (0xFF ^^^ 2 ^ t))
  | .event => s.set HIF_EVR_CTL.ERR 0

/-- The register and value of a write of 1 to a ring's ERR bit, every other field as it is. -/
def State.ringErrWrite (s : State) : RingId → Nat × Word
  | .cq c => (HIF_CQ_STAT c, 0x20000)
  | .tele t => (HIF_STAT, BitVec.ofNat 32 (2 ^ (16 + t)))
  | .event => (HIF_EVR_CTL, putBits (s.rd HIF_EVR_CTL) 1 1 1)

/-- RING_RESTART. -/
def execRingRestart (w : Who) (x : RingId) (s : State) : Host.Outcome State Fault Refusal :=
  runs (wfRingRestart w x) s (fun s =>
    s.asWrite w (s.ringErrWrite x).1 (s.ringErrWrite x).2 (fun s => s.restartRing x))

/-- A write of HIF_HPOL (R344). -/
def State.hpolWrite (s : State) (v : Word) : State :=
  let s := if s.on HIF_HPOL.LOCK then s else s.set HIF_HPOL.HW (getBits v 0 0)
  if wbit v 1 then s.set HIF_HPOL.LOCK 1 else s

/-- HOST_WORLD_LOCK. -/
def execHostWorldLock (w : Who) (s : State) : Host.Outcome State Fault Refusal :=
  runs (wfHostWorldLock w) s (fun s =>
    let v := s.rd HIF_HPOL ||| 2
    s.asWrite w HIF_HPOL v (fun s => s.hpolWrite v))

/-- A write of HIF_CTL: EN needs the commit lock (R372), and HIF_LINKUP may fire (R370). -/
def State.hifCtlWrite (s : State) (v : Word) : State :=
  let v := if s.on HIF_COMMIT.LOCK then v else putBits v 0 0 (min (getBits v 0 0) (s.get HIF_CTL.EN))
  (s.plainWrite HIF_CTL v).linkUpFire

/-- A write of HIF_CAP_CTL (R366). -/
def State.capCtlWrite (s : State) (v : Word) : State :=
  let s := if wbit v 0 then s.capArm else s
  if wbit v 1 then s.dumpStart else s

/-- Writes of HIF registers with rules of their own. -/
def State.hifWrite (s : State) (a : Nat) (v : Word) : State :=
  if a = HIF_COMMIT then (if wbit v 0 then s.hifLock else s)
  else if a = HIF_HPOL then s.hpolWrite v
  else if a = HIF_CTL then s.hifCtlWrite v
  else if a = HIF_CAP_CTL then s.capCtlWrite v
  else if a = HIF_EVPOST_3 then (if wbit v 0 then s.evPostCommand else s)
  else if a = HIF_FWCPL then s.fwComplete v
  else if inFam a (HIF_SQ_CTL 0) 16 32 then s.sqCtlWrite (famIdx a (HIF_SQ_CTL 0) 32) v
  else if inFam a (HIF_CQ_STAT 0) 16 32 then (s.plainWrite a v).settle
  else s.plainWrite a v

/-- Where the model puts BAR2: a key space above the 32-bit addresses (R345). -/
def bar2 : Nat := 0x180000000

/-- A write of the MSI-X Table or a doorbell through BAR2, at offset `o` (R345). -/
def State.bar2Write (s : State) (o : Nat) (v : Word) : State :=
  if o % 8 = 0 ∧ o < 0x80 then s.sqDoorbell (o / 8) v
  else if o % 8 = 0 ∧ o < 0x100 then (s.cqDoorbell ((o - 0x80) / 8) v).settle
  else if o % 8 = 0 ∧ o < 0x140 then s.trDoorbell ((o - 0x100) / 8) v
  else if o = 0x140 then s.evDoorbell v
  else if 0x8000 ≤ o ∧ o < 0x8200 ∧ o % 4 = 0 then
    { s with hif := { s.hif with msix := modNth s.hif.msix ((o - 0x8000) / 4) (fun _ => v) } }.signalPending
  else s

/-- A read of BAR2 at offset `o` (R345). -/
def State.bar2Read (s : State) (o : Nat) : Word :=
  if o ≤ 0x140 ∧ o % 8 = 0 then spGet (fun _ => 0) s.hif.db o
  else if 0x8000 ≤ o ∧ o < 0x8200 ∧ o % 4 = 0 then nth s.hif.msix ((o - 0x8000) / 4) 0
  else if o = 0xC000 then s.hif.pba
  else 0

end Sys2Proof.Machine
end

