-- ==== Sys2Proof/Machine/Image.lean ====
section
/-! DEFINITION. The Skentagal container in flash: header, sections, signatures and plaintexts, and the loading of its sections (R379, R382 to R386). -/

namespace Sys2Proof.Machine

/-- Flash bytes (R233, R379). -/
def State.fl (s : State) (off n : Nat) : Bytes := s.bytes (0x60000000 + off) n

/-- A container header (R382). -/
structure Hdr where
  bytes : Bytes
deriving DecidableEq, Repr

/-- A field of the header. -/
def Hdr.f (h : Hdr) (i n : Nat) : Nat := leAt h.bytes i n

/-- Bytes of the header. -/
def Hdr.at (h : Hdr) (i n : Nat) : Bytes := bytesAt h.bytes i n

/-- NSEC. -/
def Hdr.nsec (h : Hdr) : Nat := h.f 6 2
/-- IVER. -/
def Hdr.iver (h : Hdr) : Nat := h.f 8 4
/-- RBI. -/
def Hdr.rbi (h : Hdr) : Nat := h.f 12 1
/-- TLEN. -/
def Hdr.tlen (h : Hdr) : Nat := h.f 16 4
/-- JOFS. -/
def Hdr.jofs (h : Hdr) : Nat := h.f 20 4
/-- JSIZE. -/
def Hdr.jsize (h : Hdr) : Nat := h.f 24 4

/-- A section table entry (R383). -/
structure Sect where
  ty : Nat
  signer : Nat
  flags : Nat
  cores : Nat
  offset : Nat
  length : Nat
  load : Nat
  digest : Bytes
  /-- bytes 0 to 15 of the entry. -/
  aad : Bytes
deriving DecidableEq, Repr

/-- Entry `i` of the section table. -/
def Hdr.sect (h : Hdr) (i : Nat) : Sect :=
  let b := 224 + 64 * i
  ⟨h.f b 1, h.f (b + 1) 1, h.f (b + 2) 1, h.f (b + 3) 1, h.f (b + 4) 4, h.f (b + 8) 4, h.f (b + 12) 4,
    h.at (b + 16) 48, h.at b 16⟩

/-- The sections, in table order. -/
def Hdr.sects (h : Hdr) : List Sect := (List.range h.nsec).map h.sect

/-- The erase size of the flash found. -/
def State.eraseSize (s : State) : Nat := 2 ^ s.get NVC_FL_INFO.ERLOG2

/-- The header of slot `k` as it stands in flash. -/
def State.hdr (s : State) (k : Nat) : Hdr := ⟨s.fl (k * 0x1000000) 4096⟩

/-- The header keeps to the layout of R382. -/
def State.hdrShape (s : State) (h : Hdr) : Bool :=
  h.at 0 4 == [0x53, 0x4B, 0x54, 0x47] && h.f 4 2 == 1 && inRange 1 32 h.nsec && decide (h.rbi ≤ 128)
    && (h.at 13 3).all (· == 0) && (h.at 28 4).all (· == 0) && (h.at 2368 1728).all (· == 0)
    && h.tlen % 4096 == 0 && decide (h.tlen ≤ 0x1000000)
    && (h.at (224 + 64 * h.nsec) (64 * (32 - h.nsec))).all (· == 0)
    && decide (0x2000000 ≤ h.jofs) && h.jofs % s.eraseSize == 0
    && inRange 65536 8388608 h.jsize && h.jsize % s.eraseSize == 0 && decide (h.jofs + 2 * h.jsize ≤ s.density)

/-- The owner key hash (R387). -/
def State.ownerHash (s : State) : Bytes := (List.range 12).flatMap (fun i => leBytes 4 (s.otpWord (0x18 + i)).toNat)

/-- The device is open (R384). -/
def State.otpOpen (s : State) : Bool := !wbit (s.otpWord 0x31) 4 && s.ownerHash.all (· == 0)

/-- The rollback count (R387). -/
def State.rollback (s : State) : Nat :=
  ((List.range 4).map (fun i => countN 32 (wbit (s.otpWord (0x2C + i))))).sum

/-- A key of eight OTP words. -/
def State.otpKey (s : State) (w : Nat) : Nat := ofLe ((List.range 8).flatMap (fun i => leBytes 4 (s.otpWord (w + i)).toNat))

/-- The header passes steps 1 to 3 of R384. -/
def State.hdrSigned (s : State) (h : Hdr) : Bool :=
  (s.otpOpen || Config.sha384 (h.at 32 96) == s.ownerHash) && Config.sha384 (h.at 128 96) == Config.vendorHash
    && Config.ecdsaOk (h.at 32 96) (Config.sha384 (h.at 0 2272)) (h.at 2272 96)

/-- Slot `k` is valid (R385). -/
def State.imageValid (s : State) (k : Nat) : Bool :=
  let h := s.hdr k
  s.hdrShape h && s.hdrSigned h && decide (s.rollback ≤ h.rbi)

/-- Where the sections of each type stand in the order of R383. -/
def sectRank (ty : Nat) : Nat := if ty = 1 then 0 else if ty = 2 then 1 else if ty ≤ 4 then 2 else 3

/-- A section's entry keeps to R383 on its own. -/
def Sect.shape (e : Sect) (tlen : Nat) : Bool :=
  inRange 1 5 e.ty && e.signer == b2n (decide (e.ty ≤ 2)) && decide (e.flags < 4)
    && !(nbit e.flags 1 && e.signer == 1) && !(e.ty == 1 && !nbit e.flags 0)
    && (if e.ty = 3 then decide (e.cores < 64) else e.cores == 0)
    && e.offset % 4096 == 0 && decide (4096 ≤ e.offset) && decide (e.offset + e.length ≤ tlen)
    && (if e.ty = 3 ∨ e.ty = 4 then true else e.load == 0)

/-- The sections keep the order of R383: ranks do not fall, exactly one MCSTORE, at most one MCPATCH and one DEFAULTS. -/
def sectOrder (es : List Sect) : Bool :=
  let n (t : Nat) := (es.filter (fun e => e.ty == t)).length
  ((es.map (fun e => sectRank e.ty)).zip ((es.drop 1).map (fun e => sectRank e.ty))).all (fun p => decide (p.1 ≤ p.2))
    && n 2 == 1 && decide (n 1 ≤ 1) && decide (n 5 ≤ 1)

/-- No two sections overlap (R383). -/
def sectApart : List Sect → Bool
  | [] => true
  | e :: es =>
    es.all (fun f => decide (e.offset + e.length ≤ f.offset) || decide (f.offset + f.length ≤ e.offset)) && sectApart es

/-- The stored bytes of a section of slot `k`. -/
def State.stored (s : State) (k : Nat) (e : Sect) : Bytes := s.fl (k * 0x1000000 + e.offset) e.length

/-- The key of a section (R384). -/
def State.sectKey (s : State) (e : Sect) : Nat :=
  s.otpKey (if e.signer = 1 then 0x08 else if nbit e.flags 1 then 0x10 else 0x24)

/-- THE PLAINTEXT of a section, its digest, signature and tag checked in turn (R384); none where one fails. -/
def State.plain (s : State) (k : Nat) (h : Hdr) (e : Sect) : Option Bytes :=
  let st := s.stored k e
  if Config.sha384 st ≠ e.digest then none
  else
    let body := if e.signer = 1 then st.take (e.length - 96) else st
    if e.signer = 1 ∧ (e.length < 96
        ∨ Config.ecdsaOk (h.at 128 96) (Config.sha384 body) (st.drop (e.length - 96)) = false) then none
    else if nbit e.flags 0 then
      if body.length < 28 then none
      else Config.gcmOpen (s.sectKey e) (body.take 12) e.aad ((body.drop 12).take (body.length - 28))
        (body.drop (body.length - 16))
    else some body

/-- The plaintext fits the memory it goes to, and keeps to its layout (R383, R386). -/
def Sect.fits (e : Sect) (p : Bytes) : Bool :=
  if e.ty = 1 then
    decide (leAt p 0 2 ≤ 128) && decide (leAt p 2 2 ≤ 32) && decide (4 + 4 * (leAt p 0 2 + leAt p 2 2) ≤ p.length)
  else if e.ty = 2 then
    inRange 1 16384 (leAt p 2 2) && (bytesAt p 52 12).all (· == 0) && decide (64 + 4 * leAt p 2 2 ≤ p.length)
  else if e.ty = 3 then decide (e.load + p.length ≤ 0x40000)
  else if e.ty = 4 then decide (0x10000000 ≤ e.load) && decide (e.load + p.length ≤ 0x10400000)
  else true

/-- THE SECTIONS of slot `k` with their plaintexts, in table order (R383, R384); none where the container fails. -/
def State.sections (s : State) (k : Nat) : Option (List (Sect × Bytes)) :=
  let h := s.hdr k
  if s.imageValid k && h.sects.all (fun e => e.shape h.tlen) && sectOrder h.sects && sectApart h.sects then
    h.sects.foldl (fun a e =>
      match a, s.plain k h e with
      | some l, some p => if e.fits p then some (l ++ [(e, p)]) else none
      | _, _ => none) (some [])
  else none

/-- The FW sections of core `p`. -/
def fwOf (p : Nat) (l : List (Sect × Bytes)) : List (Sect × Bytes) := l.filter (fun e => e.1.ty == 3 && nbit e.1.cores p)

/-- The FW sections of core `p` go to its local RAM (R386). -/
def State.copyFw (s : State) (p : Nat) (l : List (Sect × Bytes)) : State :=
  s.each (fwOf p l) (fun s e => s.writeBlock (0x08000000 + 0x40000 * p + e.1.load) e.2)

/-- The DATA sections go to system SRAM (R386). -/
def State.copyData (s : State) (l : List (Sect × Bytes)) : State :=
  s.each (l.filter (fun e => e.1.ty == 4)) (fun s e => s.writeBlock e.1.load e.2)

/-- The control-store patches of an image go to every core, and PLOCK sets (R302, R374 step 6, R386). -/
def State.loadPatches (s : State) (l : List (Sect × Bytes)) : State :=
  s.each (List.range 6) (fun s c =>
    let s := s.each (l.filter (fun e => e.1.ty == 1)) (fun s e =>
      let np := leAt e.2 0 2
      let s := s.set (UC_PATCH_IDX.IDX c) 0
      let s := s.each (List.range np) (fun s i => s.patchData c (BitVec.ofNat 32 (leAt e.2 (4 + 4 * i) 4)))
      s.each (List.range (leAt e.2 2 2)) (fun s i =>
        s.ucWrite c (UC_MATCH c i) (BitVec.ofNat 32 (leAt e.2 (4 + 4 * np + 4 * i) 4))))
    s.set (UC_CTL.PLOCK c) 1)

/-- A place in system SRAM that the monitor chooses for `n` bytes, 128-byte aligned: the spec does not say where (R386,
R396). -/
def State.sramPlace (s : State) (n : Nat) : Nat × State :=
  (0x10000000 + 128 * (s.freeVal.toNat % ((0x400000 - min n 0x400000) / 128 + 1)), s.drawn)

/-- The control store of an image: LOAD into half A of every core, COPY to half B, SWITCH to A (R374 step 7, R386); whether
every result was 0. -/
def State.loadStores (s : State) (l : List (Sect × Bytes)) : Bool × State :=
  match (l.filter (fun e => e.1.ty == 2)).head? with
  | none => (false, s)
  | some e =>
    let n := leAt e.2 2 2
    let a := s.sramPlace (4 * n)
    let s := a.2.writeBlock a.1 (bytesAt e.2 64 (4 * n))
    (List.range 6).foldl (fun (r : Bool × State) c =>
      let s := r.2.each (List.range 12) (fun s i => s.wr (UC_DIGEST c i) (BitVec.ofNat 32 (leAt e.2 (4 + 4 * i) 4)))
      let s := ((s.wr (UC_SRC c) (BitVec.ofNat 32 a.1)).set (UC_LEN.VER c) (leAt e.2 0 2)).set (UC_LEN.COUNT c) n
      let s := (s.ucCommand c 1 1).ucDone c
      let ok := r.1 && s.get (UC_STAT.RESULT c) == 0
      let s := (s.ucCommand c 4 2).ucDone c
      let ok := ok && s.get (UC_STAT.RESULT c) == 0
      (ok, (s.ucCommand c 3 1).ucTake c)) (true, s)

end Sys2Proof.Machine
end

