-- ==== Sys2Proof/Machine/Nvc.lean ====
section
/-! DEFINITION. Flash operations, the settings journal, the OTP array and the MRAM record writer (R378 to R381, R387 to R395, R398 to R403). -/

namespace Sys2Proof.Machine

/-- Flash bytes as a program leaves them: bits only go from 1 to 0 (R381). -/
def State.flProgram (s : State) (off : Nat) (bs : Bytes) : State :=
  s.setBytes (0x60000000 + off) ((bs.zip (s.fl off bs.length)).map (fun e => e.1 &&& e.2))

/-- An area of flash is erased. -/
def State.flErase (s : State) (off n : Nat) : State := s.setBytes (0x60000000 + off) (List.replicate n 0xFF)

/-- A run of system SRAM bytes as the flash engine reads them (R286, R288): none where one is uncorrectable or outside. -/
def State.sramRead (s : State) (a n : Nat) : Option Bytes :=
  if 0x10000000 ≤ a ∧ a + n ≤ 0x10400000
      ∧ (List.range ((a % 4 + n + 3) / 4)).all (fun i => decide (flipCount (s.flipsAt (a / 4 * 4 + 4 * i)) ≤ 1)) = true
  then some (s.bytes a n) else none

/-- The bytes a journal record takes (R391). -/
def recSize (len : Nat) : Nat := 16 + 16 * ((len + 15) / 16)

/-- The start of journal half `h` in flash (R379). -/
def State.halfAt (s : State) (h : Nat) : Nat := (s.rd NVC_J_OFS).toNat + h * s.get NVC_J_SIZE.SIZE

/-- The fill offset of half `h`. -/
def State.jfill (s : State) (h : Nat) : Nat := nth s.nvc.jfill h 0

/-- It is replaced, and NVC_J_FILL_h follows. -/
def State.setFill (s : State) (h v : Nat) : State :=
  { s with nvc := { s.nvc with jfill := modNth s.nvc.jfill h (fun _ => v) } }.set (NVC_J_FILL.FILL h) v

/-- The active half. -/
def State.jact (s : State) : Nat := s.get NVC_J_STAT.ACT

/-- The active half's fill is at or above 75 % (R392). -/
def State.jHigh (s : State) : Bool :=
  decide (0 < s.get NVC_J_SIZE.SIZE) && decide (3 * s.get NVC_J_SIZE.SIZE ≤ 4 * s.jfill s.jact)

/-- NVC_J_STAT.FULL follows the active half's fill; NVC_JFULL becomes pending as it first reaches 75 % (R392). -/
def State.jfull (s : State) : State :=
  if s.jHigh then (if s.on NVC_J_STAT.FULL then s else (s.set NVC_J_STAT.FULL 1).icuRaise 65)
  else s.set NVC_J_STAT.FULL 0

/-- A journal record as it is programmed: SEQ and CRC filled in (R392). -/
def jrecBytes (r : Bytes) (seq : Nat) : Bytes :=
  let h := r.take 4 ++ leBytes 4 seq ++ bytesAt r 8 4
  let p := r.drop 16
  h ++ leBytes 4 (crc32c (h ++ p)) ++ p

/-- The record that a JAPPEND takes from system SRAM (R391, R392): its bytes, or the RESULT that refuses it. -/
def State.jrecord (s : State) (h a : Nat) : Except Nat Bytes :=
  match s.sramRead a 16 with
  | none => .error 7
  | some hd =>
    let len := leAt hd 2 2
    if leAt hd 0 1 ≠ 0xA5 ∨ inRange 1 4 (leAt hd 1 1) = false ∨ 4080 < len then .error 4
    else if s.get NVC_J_SIZE.SIZE < s.jfill h + recSize len then .error 5
    else match s.sramRead a (16 + len) with
      | none => .error 7
      | some r => .ok (jrecBytes r (s.rd (NVC_J_SEQ h)).toNat)

/-- A record has been programmed into half `h` (R390, R392). -/
def State.jappended (s : State) (h : Nat) (r : Bytes) : State :=
  let ty := leAt r 1 1
  let s := (s.setFill h (s.jfill h + recSize (leAt r 2 2))).wr (NVC_J_SEQ h) (s.rd (NVC_J_SEQ h) + 1)
  let s := if ty = 3 then s.wr (NVC_J_GEN h) (BitVec.ofNat 32 (leAt r 16 4)) else s
  let s := if ty = 4 ∧ h ≠ s.jact ∧ leAt r 16 4 = (s.rd (NVC_J_GEN h)).toNat then
      (s.set NVC_J_STAT.ACT h).set NVC_J_STAT.STALE 1
    else s
  s.jfull

/-- An area in flash covers the first byte of a journal half: that half is empty again (R394). -/
def State.jerased (s : State) (off n : Nat) : State :=
  (s.each ((List.range 2).filter (fun h => 0 < s.get NVC_J_SIZE.SIZE && decide (off ≤ s.halfAt h)
      && decide (s.halfAt h < off + n))) (fun s h =>
    let s := ((s.setFill h 0).wr (NVC_J_SEQ h) 0).wr (NVC_J_GEN h) 0
    if h = s.jact then s else s.set NVC_J_STAT.STALE 0)).jfull

/-- The source bytes of the next `n` bytes of a PROGRAM. -/
def State.progSource (s : State) (o : FlashOp) (n : Nat) : Option Bytes :=
  if o.rbuf then
    some (bytesAt ((List.range (min (o.len / 4) 1024)).flatMap (fun i => leBytes 4 (s.rd (NVC_RBUF i)).toNat)) o.done n)
  else s.sramRead (o.sram + o.done) n

/-- The next `n` bytes of a PROGRAM are programmed; a source word with a single error is corrected as it is read (R286). -/
def State.progBytes (s : State) (o : FlashOp) (n : Nat) (bs : Bytes) : State :=
  (if o.rbuf then s else s.scrub (o.sram + o.done) n).flProgram (o.addr + o.done) bs

/-- Why a flash operation is refused (R376, R381): 0 for none. -/
def State.flashRefuse (s : State) (o : FlashOp) : Nat :=
  let n := if o.op = 3 then s.eraseSize else o.len
  let writes := o.op == 2 || o.op == 3
  if o.op = 4 then 0
  else if s.density < o.addr + n ∨ (o.op = 2 ∧ o.rbuf = true ∧ 4096 < o.len) then 1
  else if (o.op = 2 ∧ (o.addr % 4 ≠ 0 ∨ o.len % 4 ≠ 0)) ∨ (o.op = 3 ∧ o.addr % s.eraseSize ≠ 0) then 2
  else if writes && s.on NVC_KSTAT.REC && wbit (s.rd OTP_LOCKS) 6 then 3
  else if writes && decide (o.addr < 0x2000000) && s.on NVC_KSTAT.KDONE && !s.on NVC_KCTL.SLOTWE then 6
  else 0

/-- The bytes of the page program in progress: those up to the next page boundary (R381). -/
def State.pageLen (s : State) (o : FlashOp) : Nat :=
  let z := 2 ^ s.get NVC_FL_INFO.PAGELOG2
  min (o.len - o.done) (z - (o.addr + o.done) % z)

/-- The page program in progress and its bytes, where a PROGRAM has a further page after it. -/
def State.pageNow (s : State) : Option (FlashOp × Bytes) :=
  match s.nvc.fop with
  | none => none
  | some o =>
    if o.op = 2 ∧ s.flashRefuse o = 0 ∧ o.done + s.pageLen o < o.len then (s.progSource o (s.pageLen o)).map (fun b => (o, b))
    else none

/-- A read of the flash window waits for the end of the program or erase in progress: the last page of a PROGRAM, a journal
append, or an erase that cannot be suspended (R380). -/
def State.flashWaits (s : State) (a : Nat) : Bool :=
  areaOf a == .flash && match s.nvc.fop with
    | some o => (o.op == 2 && s.pageNow.isNone) || o.op == 4 || (o.op == 3 && !s.on NVC_FL_INFO.SUSP)
    | none => false

/-- A read at an address is served: where it is a window read during a PROGRAM, the page program in progress has ended before it
(R380). -/
def State.flashServe (s : State) (a : Nat) : State :=
  if areaOf a = .flash then
    match s.pageNow with
    | some (o, bs) =>
      let t := s.progBytes o bs.length bs
      { t with nvc := { t.nvc with fop := some { o with done := o.done + bs.length } } }
    | none => s
  else s

/-- THE FLASH OPERATION ITSELF: its effect and its RESULT, where the flash reports no failure (R381, R392). -/
def State.flashRun (s : State) (o : FlashOp) : Nat × State :=
  let c := s.flashRefuse o
  if c ≠ 0 then (c, s)
  else if o.op = 1 then
    if 0x10000000 ≤ o.sram ∧ o.sram + o.len ≤ 0x10400000 then (0, s.writeBlock o.sram (s.fl o.addr o.len)) else (7, s)
  else if o.op = 2 then
    match s.progSource o (o.len - o.done) with
    | some bs => (0, s.progBytes o (o.len - o.done) bs)
    | none => (7, s)
  else if o.op = 3 then (0, (s.flErase o.addr s.eraseSize).jerased o.addr s.eraseSize)
  else match s.jrecord o.half o.sram with
    | .error e => (e, s)
    | .ok r => (0, ((s.scrub o.sram r.length).flProgram (s.halfAt o.half + s.jfill o.half) r).jappended o.half r)

/-- The flash engine begins an operation, or puts it off in Hold-on-dip (R381). -/
def State.flashStart (s : State) (o : FlashOp) : State :=
  if s.dip then { s.set NVC_FSTAT.DEFER 1 with nvc := { s.nvc with fdefer := some o } }
  else { s.set NVC_FSTAT.BUSY 1 with nvc := { s.nvc with fop := some o } }

/-- A write of NVC_FCMD (R381). -/
def State.flashCommand (s : State) (op : Nat) (rbuf : Bool) (half : Nat) : State :=
  if s.on NVC_FSTAT.BUSY || s.on NVC_FSTAT.DEFER || decide (5 ≤ op) then s.set NVC_FSTAT.WIGN 1
  else if op = 0 then s
  else s.flashStart {
    op := op
    rbuf := rbuf
    half := half
    addr := s.get NVC_FADDR.ADDR
    sram := (s.rd NVC_FSRAM).toNat
    len := s.get NVC_FLEN.LEN }

/-- The value of a write of NVC_FCMD. -/
def fcmdWord (op : Nat) (rbuf : Bool) (half : Nat) : Word := BitVec.ofNat 32 (op * 2 ^ 28 + b2n rbuf * 2 ^ 27 + half * 2 ^ 26)

/-- FLASH_READ. -/
def execFlashRead (w : Who) (s : State) : Host.Outcome State Fault Refusal :=
  runs (wfFlashRead w) s (fun s => s.asWrite w NVC_FCMD (fcmdWord 1 false 0) (fun s => s.flashCommand 1 false 0))

/-- FLASH_PROGRAM. -/
def execFlashProgram (w : Who) (rbuf : Bool) (s : State) : Host.Outcome State Fault Refusal :=
  runs (wfFlashProgram w rbuf) s (fun s => s.asWrite w NVC_FCMD (fcmdWord 2 rbuf 0) (fun s => s.flashCommand 2 rbuf 0))

/-- FLASH_ERASE. -/
def execFlashErase (w : Who) (s : State) : Host.Outcome State Fault Refusal :=
  runs (wfFlashErase w) s (fun s => s.asWrite w NVC_FCMD (fcmdWord 3 false 0) (fun s => s.flashCommand 3 false 0))

/-- JAPPEND. -/
def execJappend (w : Who) (half : Nat) (s : State) : Host.Outcome State Fault Refusal :=
  runs (wfJappend w half) s (fun s => s.asWrite w NVC_FCMD (fcmdWord 4 false half) (fun s => s.flashCommand 4 false half))

/-- FLASH_OP_DONE. The operation in progress completes; `err` is what the flash (3) or the interconnect (7) reports, 0
nothing (R381). -/
def execFlashOpDone (err : Nat) (s : State) : Host.Outcome State Fault Refusal :=
  runs (wfFlashOpDone err) s (fun s =>
    match s.nvc.fop with
    | none => s
    | some o =>
      if o.susp then s
      else
        let s := { s.set NVC_FSTAT.BUSY 0 with nvc := { s.nvc with fop := none } }
        let r := if err = 0 ∨ s.flashRefuse o ≠ 0 then s.flashRun o else (if err = 7 then 7 else 3, s)
        (r.2.set NVC_FSTAT.RESULT r.1).icuRaise 64)

/-- A fuse word that no register shows (R384, R387). -/
def keyWord (i : Nat) : Bool := inRange 0x08 0x17 i || inRange 0x24 0x2B i

/-- The shadow registers take what the fuses hold, at a reset of kind K or wider and at every Kindle (R387, R403); what a word
with bad check bits reads as the spec does not say. -/
def State.otpShadow (s : State) : State :=
  let s := s.each (List.range 256) (fun s i =>
    if keyWord i then s.wr (OTP_WORD i) 0
    else if s.nvc.fuseBad.contains i then s.drawn.wr (OTP_WORD i) s.freeVal
    else s.wr (OTP_WORD i) (s.otpWord i))
  ((s.wr OTP_LOCKS (s.otpWord 0x31)).wr OTP_UID (s.rd (OTP_WORD 0))).set OTP_RBC.COUNT s.rollback

/-- An OTP operation begins or, in Hold-on-dip, waits (R389). -/
def State.otpCommand (s : State) (op word : Nat) : State :=
  if s.on OTP_STAT.BUSY || decide (3 ≤ op) then s.set OTP_STAT.WIGN 1
  else if op = 0 then s
  else
    let o := (op, word, s.rd OTP_DATA)
    let s := s.set OTP_STAT.BUSY 1
    { s with nvc := if s.dip then { s.nvc with odefer := some o } else { s.nvc with oop := some o } }

/-- OTP_PROG. -/
def execOtpProg (w : Who) (word : Nat) (s : State) : Host.Outcome State Fault Refusal :=
  runs (wfOtpProg w word) s (fun s =>
    s.asWrite w OTP_CMD (BitVec.ofNat 32 (2 ^ 28 + word)) (fun s => s.otpCommand 1 word))

/-- OTP_ADVANCE. -/
def execOtpAdvance (w : Who) (s : State) : Host.Outcome State Fault Refusal :=
  runs (wfOtpAdvance w) s (fun s => s.asWrite w OTP_CMD 0x20000000 (fun s => s.otpCommand 2 0))

/-- Word `i` cannot be programmed (R388). -/
def State.otpLocked (s : State) (i : Nat) : Bool :=
  let l := s.otpWord 0x31
  (wbit l 0 && (decide (i < 0x18) || inRange 0x32 0x3F i)) || (wbit l 1 && inRange 0x18 0x2B i)
    || (wbit l 2 && i == 0x30) || (wbit l 3 && decide (0x40 ≤ i))

/-- A fuse word holds a value. -/
def State.setFuse (s : State) (i : Nat) (v : Word) : State :=
  { s with nvc := { s.nvc with fuse := modNth s.nvc.fuse i (fun _ => v) } }

/-- PROG of word `i` with bits `d`: RESULT and effect; a word that reads back wrong holds what the spec does not say
(R389). -/
def State.otpProgram (s : State) (i : Nat) (d : Word) (ok : Bool) : Nat × State :=
  let old := s.otpWord i
  if s.otpLocked i then (1, s)
  else if inRange 0x2C 0x2F i || (i == 0x31 && d &&& 0xFFFFFF80 != 0) || (i != 0x31 && old != 0) then (2, s)
  else if ok then (0, s.setFuse i (old ||| d))
  else
    let s' := s.drawn.setFuse i (old ||| (d &&& s.freeVal))
    (3, { s' with nvc := { s'.nvc with fuseBad := if i = 0x31 then s'.nvc.fuseBad else i :: s'.nvc.fuseBad } })

/-- ADVANCE: RESULT and effect (R389). -/
def State.otpAdvance (s : State) : Nat × State :=
  let n := s.rollback
  if 128 < n + 1 ∨ s.get NVC_KSTAT.RBI < n + 1 then (4, s)
  else (0, s.setFuse (0x2C + n / 32) (putBits (s.otpWord (0x2C + n / 32)) (n % 32) (n % 32) 1))

/-- OTP_OP_DONE. The operation completes; `ok` where the word reads back right (R389). -/
def execOtpOpDone (ok : Bool) (s : State) : Host.Outcome State Fault Refusal :=
  runs (wfOtpOpDone ok) s (fun s =>
    match s.nvc.oop with
    | none => s
    | some (op, i, d) =>
      let s := { s.set OTP_STAT.BUSY 0 with nvc := { s.nvc with oop := none } }
      let r := if op = 1 then s.otpProgram i d ok else s.otpAdvance
      (r.2.set OTP_STAT.RESULT r.1).icuRaise 68)

/-- The Kindle count of the MRAM header (R398). -/
def State.kindleCount (s : State) : Nat := (s.word 0x2000000C).toNat

/-- The 32 bytes of an MRAM record (R399). -/
def mrBytes (r : MrRec) (loss : Bool) (count seq : Nat) : Bytes :=
  let b := leBytes 1 r.ty ++ leBytes 1 (1 + 4 * b2n loss) ++ leBytes 2 count ++ leBytes 4 seq ++ bytes64 r.tbc
    ++ bytesAt r.payload 0 12
  b ++ leBytes 4 (crc32c b)

/-- The oldest waiting record is written at the ring head (R399). -/
def State.mrWrite (s : State) : State :=
  match s.nvc.mrq with
  | [] => s
  | r :: rs =>
    let h := s.get NVC_MR_HEAD.HEAD
    let s := s.setBytes (0x20000400 + 32 * h) (mrBytes r s.nvc.mrLoss s.kindleCount (s.rd NVC_MR_SEQ).toNat)
    let s := { s with nvc := { s.nvc with mrq := rs, mrLoss := false } }
    ((s.set NVC_MR_HEAD.HEAD ((h + 1) % 16384)).wr NVC_MR_SEQ (s.rd NVC_MR_SEQ + 1)).icuRaise 67

/-- MRAM_RECORD_WRITE. After a reset of kind C the writer has no ring position before Tlaell has rebuilt it (R398). -/
def execMramRecordWrite (s : State) : Host.Outcome State Fault Refusal :=
  runs wfMramRecordWrite s (fun s => if s.pmu.ember || s.pmu.rst.isSome || s.nvc.mrLost then s else s.mrWrite)

/-- A write of 1 to NVC_MR_POST_3.POST (R399). -/
def State.mrPostCommand (s : State) : State :=
  s.mrPost 9 ((List.range 3).flatMap (fun i => leBytes 4 (s.rd (NVC_MR_POST i)).toNat))

/-- MRAM_POST. -/
def execMramPost (w : Who) (s : State) : Host.Outcome State Fault Refusal :=
  runs (wfMramPost w) s (fun s => s.asWrite w NVC_MR_POST_3 1 State.mrPostCommand)

/-- RUN_SECOND. Another whole second has been spent in Run or Graze (R400). -/
def execRunSecond (s : State) : Host.Outcome State Fault Refusal :=
  runs wfRunSecond s (fun s => if s.mode == modeRun || s.mode == modeGraze then s.mramCount 6 else s)

/-- What a flash operation in progress leaves where a reset cuts it: the bits it had not yet changed are whatever they are
(R381, R393). -/
def State.flashCut (s : State) : State :=
  match s.nvc.fop with
  | none => s
  | some o =>
    let hit (s : State) (off : Nat) (bs : Bytes) : State :=
      s.each ((List.range bs.length).zip bs) (fun s e =>
        let old := s.byte (0x60000000 + off + e.1)
        let f := BitVec.ofNat 8 s.freeVal.toNat
        s.drawn.setByte (0x60000000 + off + e.1) (if o.op = 3 then old ||| f else old &&& (e.2 ||| f)))
    if s.flashRefuse o ≠ 0 then s
    else if o.op = 2 then
      match s.progSource o (o.len - o.done) with
      | some bs => hit s (o.addr + o.done) bs
      | none => s
    else if o.op = 3 then hit s o.addr (List.replicate s.eraseSize 0xFF)
    else if o.op = 4 then
      match s.jrecord o.half o.sram with
      | .ok r => hit s (s.halfAt o.half + s.jfill o.half) r
      | .error _ => s
    else s

/-- Writes of NVC registers with rules of their own, the reset key of NVC_KCTL apart. -/
def State.nvcWrite (s : State) (a : Nat) (v : Word) : State :=
  if a = NVC_FCMD then s.flashCommand (getBits v 31 28) (wbit v 27) (getBits v 26 26)
  else if a = NVC_MR_POST_3 then (if wbit v 0 then s.mrPostCommand else s)
  else s.plainWrite a v

/-- Writes of OTP registers with rules of their own. -/
def State.otpWrite (s : State) (a : Nat) (v : Word) : State :=
  if a = OTP_CMD then s.otpCommand (getBits v 31 28) (getBits v 7 0) else s.plainWrite a v

end Sys2Proof.Machine
end

