-- ==== Sys2Proof/Machine/Modes.lean ====
section
/-! DEFINITION. Modes, resets, Ember, Hold-on-dip and the watchdog (R404 to R424). -/

namespace Sys2Proof.Machine

/-- A request is refused (R406, R408, R409, R411). -/
def State.pmuRefuse (s : State) (c : Nat) : State := s.set PMU_STAT.REFUSE c

/-- The first failing condition of R408, 0 where all hold. -/
def State.holdExitCheck (s : State) : Nat :=
  if !(s.on FLK_COMMIT.LOCK && s.on PHA_COMMIT.LOCK && s.on ANV_COMMIT.LOCK && s.on RLC_COMMIT.LOCK && s.on ICU_COMMIT.LOCK) then 1
  else if s.on EVF_COMMIT.BUSY then 2
  else if (List.range 6).any (fun p => s.on (UC_STAT.SWPEND p)) then 3
  else 0

/-- A mode change waits for the next T0. -/
def State.putDue (s : State) (k : Nat) : State :=
  if s.pmu.due.contains k then s else { s with pmu := { s.pmu with due := s.pmu.due ++ [k] } }

/-- HOLD_REQ written (R406, R408): 1 asks for Hold; 0 asks for its end, or withdraws a request that has not been met. -/
def State.holdWrite (s : State) (v : Bool) : State :=
  if v then
    if s.mode = modeRun ∨ s.mode = modeGraze ∨ s.mode = modeQuench then (s.set PMU_CTL.HOLD_REQ 1).putDue 1
    else s.pmuRefuse 4
  else if s.mode = modeHold then
    let c := s.holdExitCheck
    if c = 0 then s.putDue 2 else s.pmuRefuse c
  else { s.set PMU_CTL.HOLD_REQ 0 with pmu := { s.pmu with due := s.pmu.due.filter (· != 1) } }

/-- QEXIT written 1 (R409). -/
def State.qexitWrite (s : State) : State :=
  if s.mode ≠ modeQuench then s.pmuRefuse 4
  else if s.on BLW_STAT.DQ then s.pmuRefuse 7
  else
    let c := s.holdExitCheck
    if c = 0 then s.putDue 4 else s.pmuRefuse c

/-- Why Ember is refused, 0 where it is not (R411). -/
def State.emberCheck (s : State) : Nat :=
  if !(s.mode == modeRun || s.mode == modeGraze || s.mode == modeQuench) then 4
  else if (List.range 32).any (fun r => s.railState r != railOff) then 5
  else if s.on PMU_ETMR_CTL.EN && decide ((s.rd PMU_ETMR_CMP - s.rd PMU_ETMR).toNat < 164) then 6
  else 0

/-- EMBER (R411, R41): the rings stop under a host interface reset of kind 3, the counters are saved, the MRAM records are
written, the ports go DOWN, the MFU outputs go low (R437) and everything outside the Ember domain loses its power. -/
def State.emberEnter (s : State) : State :=
  let s := s.hostReset 3 0
  let s := { s with pmu := { s.pmu with saved := (s.tbu.tbc, s.tbu.bgc, s.tbu.fofs) } }
  let s := s.each (List.range 64) (fun s _ => s.mrWrite)
  let s := s.each (List.range 3) State.portFall
  let s := s.each (List.range 8) (fun s m => s.modMf m (fun x => { x with high := 0, dir := false }))
  { s with pmu := { s.pmu with ember := true, held := List.replicate 6 true } }

/-- EMBER_REQ written 1. -/
def State.emberWrite (s : State) : State :=
  let c := s.emberCheck
  if c = 0 then s.emberEnter else s.pmuRefuse c

/-- A write of PMU_CTL acts (R406). -/
def State.ctlAct (s : State) (v : Word) : State :=
  let s := s.holdWrite (wbit v 0)
  let s := if wbit v 8 then s.qexitWrite else s
  if wbit v 4 then s.emberWrite else s

/-- A write of PMU_CTL: in Hold-on-dip it is held (R415). -/
def State.ctlWrite (s : State) (v : Word) : State :=
  if s.dip then { s.set PMU_STAT.DEFER 1 with pmu := { s.pmu with heldCtl := some v } } else s.ctlAct v

/-- HOLD_REQUEST. -/
def execHoldRequest (w : Who) (s : State) : Host.Outcome State Fault Refusal :=
  runs (wfHoldRequest w) s (fun s => s.asWrite w PMU_CTL 1 (fun s => s.ctlWrite 1))

/-- HOLD_EXIT_REQUEST. -/
def execHoldExitRequest (w : Who) (s : State) : Host.Outcome State Fault Refusal :=
  runs (wfHoldExitRequest w) s (fun s => s.asWrite w PMU_CTL 0 (fun s => s.ctlWrite 0))

/-- QEXIT, with HOLD_REQ as it stands. -/
def execQexit (w : Who) (s : State) : Host.Outcome State Fault Refusal :=
  runs (wfQexit w) s (fun s =>
    let v := putBits (s.rd PMU_CTL) 8 8 1
    s.asWrite w PMU_CTL v (fun s => s.ctlWrite v))

/-- EMBER_REQ, with HOLD_REQ as it stands. -/
def execEmberReq (w : Who) (s : State) : Host.Outcome State Fault Refusal :=
  runs (wfEmberReq w) s (fun s =>
    let v := putBits (s.rd PMU_CTL) 4 4 1
    s.asWrite w PMU_CTL v (fun s => s.ctlWrite v))

/-- HOLD_LIMIT. LIMIT ms have passed in Hold (R407). -/
def execHoldLimit (s : State) : Host.Outcome State Fault Refusal :=
  runs wfHoldLimit s (fun s =>
    if s.mode = modeHold ∧ s.get PMU_HOLD_LIM.LIMIT ≠ 0 then (s.set PMU_STAT.HOLDLIM 1).pmuFire 6 else s)

/-- ETIMER_MATCH. The Ember timer reaches its compare value and counts on (R412; log entry 85). -/
def execEtimerMatch (s : State) : Host.Outcome State Fault Refusal :=
  runsEver wfEtimerMatch s (fun s =>
    if s.on PMU_ETMR_CTL.EN then (s.wr PMU_ETMR (s.rd PMU_ETMR_CMP + 1)).pmuFire 7 else s)

/-- Warning level of a supply in mV, 0 for none (R413). -/
def warnMv (i : Nat) : Nat := nth [705, 1700, 1700] i 0

/-- Exit level of a supply in mV (R413). -/
def exitMv (i : Nat) : Nat := warnMv i + 15

/-- Reset level of a supply in mV (R413). -/
def resetMv (i : Nat) : Nat := nth [660, 1620, 1620, 1620, 2970, 700] i 0

/-- PMU_VMIN_s takes a level (R413). -/
def State.vmin (s : State) (i mv : Nat) : State := s.set (PMU_VMIN.MV i) (min mv (s.get (PMU_VMIN.MV i)))

/-- The payload of a type 0x06 record (R357, R399): exit, supply, lowest voltage. -/
def dipPayload (out : Bool) (i mv : Nat) : Bytes := payloadOf ([b2n out, i, 0, 0] ++ [mv % 256, mv / 256])

/-- A supply is seen back at or above its warning level: DIPSUP no longer shows it (R414); at or above its exit level it no
longer keeps the dip, but for the last supply that did (log entry 84). -/
def State.supplyBack (s : State) (sup mv : Nat) : State :=
  if warnMv sup = 0 then s
  else
  let s := s.set PMU_STAT.DIPSUP (putBits (BitVec.ofNat 32 (s.get PMU_STAT.DIPSUP)) sup sup 0).toNat
  if exitMv sup ≤ mv ∧ (List.range 6).any (fun i => i != sup && nth s.pmu.low i false) then
    { s with pmu := { s.pmu with low := modNth s.pmu.low sup (fun _ => false) } }
  else s

/-- SUPPLY_DIP. A supply has stayed below its warning level for FILT ns: the device enters Hold-on-dip (R413, R414). In a
reset wider than K, where no mode runs, only PMU_VMIN_s takes the level; in Ember only the monitor of VEMB is heard (R411). -/
def execSupplyDip (sup mv : Nat) (s : State) : Host.Outcome State Fault Refusal :=
  runsEver (wfSupplyDip sup mv && (!s.pmu.ember || sup == 5)) s (fun s =>
    let s := s.vmin sup mv
    if !s.alive then s
    else if warnMv sup ≤ mv then s.supplyBack sup mv
    else
      let was := s.dip
      let s := s.set PMU_STAT.DIPSUP (s.get PMU_STAT.DIPSUP ||| 2 ^ sup)
      let s := { s with pmu := { s.pmu with
        low := modNth s.pmu.low sup (fun _ => true)
        dipMin := if was then min mv s.pmu.dipMin else mv } }
      if was then s
      else
        let s := (s.set PMU_STAT.DIP 1).mramCount 7
        let s := (s.mrPost 6 (dipPayload false sup mv)).evPost 6 (payloadOf [0, sup])
        (s.setSusp true).pmuFire 0)

/-- What waited for the end of Hold-on-dip goes on: the event switch, the flash and the OTP operation (R210, R381, R389,
R416). -/
def State.dipOps (s : State) : State :=
  let s := if s.on EVF_COMMIT.DEFER then s.evfSwitch else s
  let s := s.flashResume
  let s := match s.nvc.fdefer with
    | some o => { s.set NVC_FSTAT.DEFER 0 with nvc := { s.nvc with fdefer := none } }.flashStart o
    | none => s
  match s.nvc.odefer with
  | some o => { s with nvc := { s.nvc with odefer := none, oop := some o } }
  | none => s

/-- The held write of PMU_CTL acts, as if it had been written now (R415). -/
def State.heldAct (s : State) : State :=
  match s.pmu.heldCtl with
  | some v => { s.set PMU_STAT.DEFER 0 with pmu := { s.pmu with heldCtl := none } }.ctlAct v
  | none => s

/-- DIP_EXIT. Every supply has stayed at or above its exit level for EXITDLY µs (R416). -/
def execDipExit (s : State) : Host.Outcome State Fault Refusal :=
  runs wfDipExit s (fun s =>
    if !s.dip then s
    else
      let i := ((List.range 6).find? (fun i => nth s.pmu.low i false)).getD 0
      let s := (s.set PMU_STAT.DIP 0).set PMU_STAT.DIPSUP 0
      let s := (s.mrPost 6 (dipPayload true i s.pmu.dipMin)).evPost 6 (payloadOf [1, i])
      let s := { s with pmu := { s.pmu with low := List.replicate 6 false, dipMin := 0xFFFF } }
      (s.pmuFire 1).dipOps.heldAct)

/-- A write of PMU_WDT_CTL (R422). -/
def State.wdtWrite (s : State) (v : Word) : State :=
  if s.on PMU_WDT_CTL.EN then s
  else
    let t := getBits v 15 0
    let s := if t = 0 then s else s.set PMU_WDT_CTL.TIMEOUT t
    if wbit v 31 then (s.set PMU_WDT_CTL.EN 1).set PMU_WDT_CNT.COUNT (s.get PMU_WDT_CTL.TIMEOUT) else s

/-- A write of PMU_WDT_KICK (R422). -/
def State.wdtKick (s : State) (key : Nat) : State :=
  if key = 0x5744 then s.set PMU_WDT_CNT.COUNT (s.get PMU_WDT_CTL.TIMEOUT) else s

/-- WATCHDOG_ENABLE, with TIMEOUT as it stands. -/
def execWatchdogEnable (w : Who) (s : State) : Host.Outcome State Fault Refusal :=
  runs (wfWatchdogEnable w) s (fun s =>
    let v := putBits (s.rd PMU_WDT_CTL) 31 31 1
    s.asWrite w PMU_WDT_CTL v (fun s => s.wdtWrite v))

/-- WATCHDOG_KICK. -/
def execWatchdogKick (w : Who) (key : Nat) (s : State) : Host.Outcome State Fault Refusal :=
  runs (wfWatchdogKick w key) s (fun s =>
    s.asWrite w PMU_WDT_KICK (BitVec.ofNat 32 key) (fun s => s.wdtKick key))

/-- WATCHDOG_WARN. The count has reached half of TIMEOUT (R422). -/
def execWatchdogWarn (s : State) : Host.Outcome State Fault Refusal :=
  runs wfWatchdogWarn s (fun s =>
    if s.on PMU_WDT_CTL.EN then (s.set PMU_WDT_CNT.COUNT (s.get PMU_WDT_CTL.TIMEOUT / 2)).pmuFire 5 else s)

/-- Writes of PMU registers with rules of their own. -/
def State.pmuWrite (s : State) (a : Nat) (v : Word) : State :=
  if a = PMU_CTL then s.ctlWrite v
  else if a = PMU_WDT_CTL then s.wdtWrite v
  else if a = PMU_WDT_KICK then s.wdtKick (getBits v 15 0)
  else s.plainWrite a v

/-- The widest reset kinds first: C, B, then P, W and the wake from Ember, then K (R13). -/
def kindRank (k : Nat) : Nat := if k = 1 then 0 else if k = 2 then 1 else if k = 5 then 3 else 2

/-- The wider of two reset kinds, the later of two that are as wide. -/
def widerKind (j k : Nat) : Nat := if kindRank j < kindRank k then j else k

/-- The reset in progress after one of kind `k` has come: the wider of the two (R418). -/
def State.widerReset (s : State) (k : Nat) : Nat :=
  match s.pmu.rst with
  | some j => widerKind j k
  | none => k

/-- What an OTP operation in progress leaves where a reset cuts it: the spec does not say which bits have set. -/
def State.otpCut (s : State) : State :=
  match s.nvc.oop with
  | none => s
  | some (op, i, d) =>
    if op = 1 then (if (s.otpProgram i d true).1 = 0 then s.drawn.setFuse i (s.otpWord i ||| (d &&& s.freeVal)) else s)
    else if wbit s.freeVal 0 then (s.drawn.otpAdvance).2 else s.drawn

/-- EVIO pins as a reset leaves them: inputs. The level of a pin that was one stays; that of a pin that was driven is the
board's (R421). -/
def State.evioReset (s old : State) : State :=
  s.each (List.range 32) (fun s k =>
    if old.on (EVF_EVIO.DIR k) then s.drawn.set (EVF_EVIO.LEVEL k) (getBits s.freeVal 0 0)
    else s.set (EVF_EVIO.LEVEL k) (old.get (EVF_EVIO.LEVEL k)))

/-- WHAT EVERY RESET OF KIND K OR WIDER DOES to the state behind the registers (R12, R13, R399, R420): cores and fabric
start anew, the capture controller, the event records and the flash, OTP and MRAM operations are gone. -/
def State.resetK (s : State) : State :=
  let s := s.flashCut.otpCut
  { s with
    cores := List.replicate 6 {}
    evf := {}
    hif := { s.hif.cleared with
      sq := List.replicate 16 {}
      evSeq := 0
      evLost := 0
      evHeld := []
      ev08 := none
      capEnd := 0 }
    sns := { s.sns with capTbc := 0 }
    nvc := { s.nvc with
      fop := none
      fdefer := none
      jfill := [0, 0]
      oop := none
      odefer := none
      mrq := []
      mrLoss := s.nvc.mrLoss || !s.nvc.mrq.isEmpty }
    pmu := { s.pmu with
      held := List.replicate 6 true
      due := s.pmu.due.filter (· == 3) } }

/-- PMU_RSTINFO after a reset (R424). -/
def State.rstInfo (s : State) (k : Nat) : State :=
  ((s.set PMU_RSTINFO.LAST k).set PMU_RSTINFO.WAKESRC 0).set PMU_RSTINFO.PERSTW 0

/-- A RESET OF KIND K (R410, R418, R420). -/
def State.resetKeeper (s : State) : State :=
  let old := s
  let rails := (List.range 32).any (fun r => s.railState r != railOff)
  let s := s.resetK
  let s := s.restore (fun _ f => f.dom == .k || f.dom == .x || f.dom == .h)
  let s := ((s.set HIF_STAT.LINK (old.get HIF_STAT.LINK)).set HIF_STAT.SPEED (old.get HIF_STAT.SPEED)).set
    HIF_STAT.WIDTH (old.get HIF_STAT.WIDTH)
  let s := s.evioReset old
  let s := s.rstInfo 5
  let s := if s.on PMU_KCFG.KRAIL then s.setb NVC_KSTAT.HELD rails
    else s.each (List.range 32) (fun s r => (s.disarm r).set (RLC_RAIL_CTL.ON r) 0)
  { s with pmu := { s.pmu with rst := some (s.widerReset 5) } }

/-- A RESET OF KIND B, P OR W, or the one a wake from Ember acts as (R418, R420): everything outside the Ember domain; P
and W leave the PLLs locked. -/
def State.resetPin (s : State) (k : Nat) : State :=
  let old := s
  let s := s.resetK
  let s := s.restore (fun _ f => f.dom != .c)
  let s := { s with
    tbu := {}
    flk := {}
    pha := {}
    sns := {}
    anv := {}
    blw := {}
    rlc := {}
    uc := { words := s.uc.words }
    hif := {}
    mfu := List.replicate 8 {}
    pmu := { rst := some (s.widerReset k), saved := s.pmu.saved } }
  let s := if k = 3 ∨ k = 4 then
      if old.pmu.ember then s
      else ((s.set TBU_STAT.ENG_PLL_LOCK (old.get TBU_STAT.ENG_PLL_LOCK)).set TBU_STAT.CORE_PLL_LOCK
        (old.get TBU_STAT.CORE_PLL_LOCK)).set TBU_STAT.FLOCK_PLL_LOCK (old.get TBU_STAT.FLOCK_PLL_LOCK)
    else s
  let s := (s.evioReset old).rstInfo k
  { s with tickRegs := s.regs }

/-- A RESET OF KIND C (R14, R418, R420): everything; what the flash, the fuses and the MRAM hold stays, with
the resets still to be counted there (R400, log entry 138). -/
def State.resetCold (s : State) : State :=
  let s := s.flashCut.otpCut
  { s with
    tbu := {}
    flk := {}
    pha := {}
    sns := {}
    anv := {}
    blw := {}
    rlc := {}
    evf := {}
    cores := List.replicate 6 {}
    uc := { words := s.uc.words }
    hif := {}
    nvc := { fuse := s.nvc.fuse, fuseBad := s.nvc.fuseBad, resets := s.nvc.resets }
    pmu := {}
    mfu := List.replicate 8 {}
    regs := []
    tickRegs := [] }

/-- A byte of the memories that a reset of kind C or B and a wake from Ember write to zero (R419). -/
def zeroed (k : Nat) : Bool :=
  (match areaOf k with
    | .peer _ => true
    | .sys => true
    | .cap => true
    | _ => false) || (decide (bitRamKey 0 0 ≤ k) && decide (k < bitRamKey 6 0))

/-- Those memories are zero with valid check bits (R419). -/
def State.zeroMem (s : State) : State := { s with mem := s.mem.filter (fun c => !zeroed c.1), flips := [] }

/-- The stores that the cores have issued reach memory before a reset of kind P or W: it includes X, whose buffers drain first,
and leaves the memories (R13, R281, R333, R419). -/
def State.drainMem (s : State) : State :=
  s.each (List.range 6) (fun s p => ((s.retireN p (s.core p).sb.length).flushMerge p).deliverMem p)

/-- A reset of kind `k` is noted for the MRAM counters (R400); a supply that crosses during a brown-out reset is of that reset
(R417). -/
def State.noteReset (s old : State) (k : Nat) : State :=
  if k = 2 ∧ old.pmu.rst = some 2 then s
  else { s with nvc := { s.nvc with resets := s.nvc.resets ++ [k] } }

/-- The reset starts (R418); the OTP shadow comes out of it as the fuses are (R403), and the JTAG port with IDCODE where it
had no power (R457). -/
def State.resetOf (s : State) (k : Nat) : State :=
  let s := if k = 1 || s.pmu.ember then { s with jtag := { testen := s.jtag.testen } } else s
  ((if k = 1 then s.resetCold else if k = 5 then s.resetKeeper else s.resetPin k).noteReset s k).otpShadow

/-- COLD_RESET. -/
def execColdReset (s : State) : Host.Outcome State Fault Refusal := runsEver wfColdReset s (fun s => s.resetOf 1)

/-- BROWN_OUT. A supply has stayed below its reset level for 5 ns (R413, R417): a reset of kind B, of kind C for VEMB; the
monitors other than VEMB's are idle in Ember (R411). -/
def execBrownOut (sup mv : Nat) (s : State) : Host.Outcome State Fault Refusal :=
  runsEver (wfBrownOut sup mv) s (fun s =>
    if resetMv sup ≤ mv then s
    else if sup = 5 then s.resetOf 1
    else if s.pmu.ember then s
    else
      let i := if s.pmu.rst = some 2 then min sup (s.get PMU_RSTINFO.BSUP) else sup
      ((s.vmin sup mv).resetOf 2).set PMU_RSTINFO.BSUP i)

/-- RESET_PIN. Out of Ember, whose domains had no power, the memories come back zero (R412, R419; log entry 97). -/
def execResetPin (s : State) : Host.Outcome State Fault Refusal :=
  runsEver wfResetPin s (fun s => (if s.pmu.ember then s.zeroMem else s.drainMem).resetOf 3)

/-- WATCHDOG_EXPIRY. The count has reached 0 (R422). -/
def execWatchdogExpiry (s : State) : Host.Outcome State Fault Refusal :=
  runs wfWatchdogExpiry s (fun s => if s.on PMU_WDT_CTL.EN then s.drainMem.resetOf 4 else s)

/-- The reset in progress ends and Kindle starts (R404, R406, R418, R419): the widest reset since a Kindle completed decides
what it does (log entry 138). -/
def State.release (s : State) (k : Nat) : State :=
  let s := if k = 1 ∨ k = 2 ∨ k = 6 then s.zeroMem else s
  { s.set PMU_STAT.MODE modeKindle with
    nvc := { s.nvc with kkind := if s.nvc.kopen then widerKind s.nvc.kkind k else k, kopen := true }
    pmu := { s.pmu with rst := none } }

/-- RESET_RELEASE. -/
def execResetRelease (s : State) : Host.Outcome State Fault Refusal :=
  runsEver wfResetRelease s (fun s => match s.pmu.rst with
    | some k => s.release k
    | none => s)

/-- The wake source is enabled; from the fabric an event has set PEND while it was (R412, R423). -/
def State.wakes (s : State) : WakeSrc → Bool
  | .fabric k => nth s.pmu.wakeReq k false && s.on (EVF_CON.PEND (1536 + k))
  | .perst => s.on PMU_WAKE_EN.PERST

/-- EMBER_WAKE. The domains get their power back; a reset of kind P follows, but the counters are restored (R41, R412). -/
def execEmberWake (src : WakeSrc) (s : State) : Host.Outcome State Fault Refusal :=
  runsEver (wfEmberWake src) s (fun s =>
    if s.pmu.ember && s.wakes src then
      let s := s.resetOf 6
      let s := match src with
        | .fabric k => s.set PMU_RSTINFO.WAKESRC (2 ^ k)
        | .perst => s.set PMU_RSTINFO.PERSTW 1
      { s with tbu := { s.tbu with
        tbc := s.pmu.saved.1
        bgc := s.pmu.saved.2.1
        fofs := s.pmu.saved.2.2 } }.release 6
    else s)

end Sys2Proof.Machine
end

