-- ==== Sys2Proof/Machine/Jtag.lean ====
section
/-! DEFINITION. The JTAG port (R457, R458). -/

namespace Sys2Proof.Machine

/-- The value of the IDCODE register (R457). -/
def idcodeValue : Nat := 0x27144573

/-- An instruction is in force; the port has no power in Ember (R405, R411). SEN goes low with boundary scan and its delay runs
again after it (R61, R458). -/
def State.jtagLoad (s : State) (ir : Nat) : State :=
  if s.pmu.ember then s else ({ s with jtag := { s.jtag with ir := ir } } : State).senEdges s

/-- `n` captured bits as they are shifted out: the levels of the pins, in the order of a file that is not in the spec, so
free (log entry 86). -/
def State.captured (s : State) (n : Nat) : Nat × State :=
  ((List.range ((n + 31) / 32)).foldl (fun v i => v + (Config.freeWord (s.free + i)).toNat * 2 ^ (32 * i)) 0 % 2 ^ n,
    { s with free := s.free + (n + 31) / 32 })

/-- An instruction that acts only while every rail slot is OFF; else BYPASS is loaded (R458). -/
def State.jtagGuarded (s : State) (ir : Nat) : State :=
  s.jtagLoad (if (List.range 32).all (fun r => s.railState r == railOff) then ir else 0x3F)

/-- IDCODE. -/
def execIdcode (s : State) : Host.Outcome State Fault Refusal :=
  runsEver wfIdcode s (fun s => if s.pmu.ember then s else (s.jtagLoad 1).emit (.tdo 32 idcodeValue))

/-- The boundary register is scanned: its cells capture the pins, whose levels are shifted out, and take the bits shifted in
(R457); under EXTEST the pins follow at once, SEN with its delay. -/
def State.boundaryScan (s : State) (cells : Bytes) : State :=
  let r := s.captured (8 * cells.length)
  let t := r.2.emit (.tdo (8 * cells.length) r.1)
  ({ t with jtag := { t.jtag with
    cells := ((List.range (8 * cells.length)).filter (nbit (ofLe cells))).map (fun i => (i, 1)) } } : State).senEdges s

/-- SAMPLE_PRELOAD. -/
def execSamplePreload (cells : Bytes) (s : State) : Host.Outcome State Fault Refusal :=
  runsEver (wfSamplePreload cells) s (fun s => if s.pmu.ember then s else (s.jtagLoad 2).boundaryScan cells)

/-- EXTEST, and the scan of data that follows it where there is one: of the boundary register, or of the bypass register where
BYPASS is what has been loaded (R458), whose one bit, 0 when captured, delays the data by one. -/
def execExtest (cells : Bytes) (s : State) : Host.Outcome State Fault Refusal :=
  runsEver (wfExtest cells) s (fun s =>
    let t := s.jtagGuarded 3
    let n := 8 * cells.length
    if s.pmu.ember || n == 0 then t
    else if t.jtag.ir = 3 then t.boundaryScan cells
    else t.emit (.tdo n (2 * ofLe cells % 2 ^ n)))

/-- HIGHZ. -/
def execHighz (s : State) : Host.Outcome State Fault Refusal := runsEver wfHighz s (fun s => s.jtagGuarded 4)

/-- CLAMP. -/
def execClamp (s : State) : Host.Outcome State Fault Refusal := runsEver wfClamp s (fun s => s.jtagGuarded 5)

/-- BYPASS. -/
def execBypass (s : State) : Host.Outcome State Fault Refusal := runsEver wfBypass s (fun s => s.jtagLoad 0x3F)

/-- An instruction code is a Waimond private one (R457). -/
def waimondCode (code : Nat) : Bool := code == 0 || (decide (6 ≤ code) && decide (code ≤ 0x3E))

/-- PRIVATE_INSTRUCTION. It acts only while TESTEN is high and JTAGDIS is 0, and the spec does not say what it does; else it
acts as BYPASS (R388, R457). -/
def execWaimondInstruction (code : Nat) (s : State) : Host.Outcome State Fault Refusal :=
  if wfWaimondInstruction code && waimondCode code && s.jtag.testen && !wbit (s.rd OTP_LOCKS) 5 && !s.pmu.ember then
    .refused .waimondPrivateJtag
  else runsEver (wfWaimondInstruction code && waimondCode code) s (fun s => s.jtagLoad 0x3F)

/-- The digital outputs of the device beside PWMn and SENg (R457). -/
inductive OutPin where
  | evio (k : Nat)
  | mfPwm (m : Nat)
  | mfDir (m : Nat)
  | pmbAlert (q : Nat)
  | avsSdata (p : Nat)
  | pmbSda (q : Nat)
deriving DecidableEq, Repr

/-- The model's number of an output pin, after the 144 PWM and 9 SEN pins (log entry 86). -/
def OutPin.number : OutPin → Nat
  | .evio k => 153 + k
  | .mfPwm m => 185 + m
  | .mfDir m => 193 + m
  | .pmbAlert q => 201 + q
  | .avsSdata p => 203 + p
  | .pmbSda q => 219 + q

/-- What the device's own logic drives on an output pin between frames and pulses, none where the pin is not driven (R190, R215,
R421, R435, R455, R456); MFn_PWM is high for `high` unit clocks of its period, of which the rows bring no more. -/
def State.logicDrives (s : State) : OutPin → Option Bool
  | .evio k => if s.unKindled || !s.on (EVF_EVIO.DIR k) then none else some (s.on (EVF_EVIO.LEVEL k))
  | .mfPwm m => some (!s.pinsIdle && decide (0 < (s.mf m).high))
  | .mfDir m => some (!s.pinsIdle && (s.mf m).dir)
  | .pmbAlert q => if !s.pinsIdle && nth s.rlc.alert q false then some false else none
  | .avsSdata p => if s.pinsIdle || !s.on (RLC_AVS_CFG.EN p) then none else some true
  | .pmbSda q => if !s.pinsIdle && nth s.rlc.sda q false then some false else none

/-- WHAT THE DEVICE DRIVES ON AN OUTPUT PIN (R457, R458): with EXTEST or CLAMP in force what its cells say, the second whether it
drives at all; with HIGHZ nothing; else what its logic drives. -/
def State.drives (s : State) (x : OutPin) : Option Bool :=
  if s.jtagHolds then
    if nbit (s.cellBits x.number) 1 then some (nbit (s.cellBits x.number) 0) else none
  else s.logicDrives x

end Sys2Proof.Machine
end

