-- ==== Sys2Proof/Machine/Bus.lean ====
section
/-! DEFINITION. The peripheral region as a whole: what a write and a read of any register do, the commit locks, the reset of a core and the rows for registers without a row of their own (R8 to R11, R233, R234, R333, R343, R345, R377, R407). -/

namespace Sys2Proof.Machine

/-- The COMMIT register of a block. -/
def commitAddr : LockBlk → Nat
  | .flk => FLK_COMMIT
  | .pha => PHA_COMMIT
  | .anv => ANV_COMMIT
  | .rlc => RLC_COMMIT
  | .icu => ICU_COMMIT
  | .hif => HIF_COMMIT

/-- Its LOCK field. -/
def commitLock : LockBlk → FRef
  | .flk => FLK_COMMIT.LOCK
  | .pha => PHA_COMMIT.LOCK
  | .anv => ANV_COMMIT.LOCK
  | .rlc => RLC_COMMIT.LOCK
  | .icu => ICU_COMMIT.LOCK
  | .hif => HIF_COMMIT.LOCK

/-- A write of 0 to a commit LOCK: it clears in Hold (R407); that of the host interface while HIF_CTL.EN and TEN are 0
(R373). -/
def State.unlock (s : State) (b : LockBlk) : State :=
  let free := match b with
    | .hif => !s.on HIF_CTL.EN && !s.on HIF_CTL.TEN
    | _ => s.mode == modeHold
  if free then s.set (commitLock b) 0 else match b with
    | .icu => s.set ICU_STAT.WIGN 1
    | .rlc => s.set RLC_STAT.WIGN 1
    | .pha => s.set PHA_STAT.WIGN 1
    | _ => s

/-- A write of 1 to a commit LOCK: the block's check. -/
def State.lockBlk (s : State) : LockBlk → State
  | .flk => s.flkLock
  | .pha => s.phaLock
  | .anv => s.anvLock
  | .rlc => s.rlcLock
  | .icu => s.icuLock
  | .hif => s.hifLock

/-- The block whose COMMIT register lies at an address. -/
def commitAt (a : Nat) : Option LockBlk :=
  [LockBlk.flk, .pha, .anv, .rlc, .icu, .hif].find? (fun b => commitAddr b == a)

/-- COMMIT_UNLOCK. -/
def execCommitUnlock (w : Who) (b : LockBlk) (s : State) : Host.Outcome State Fault Refusal :=
  runs (wfCommitUnlock w b) s (fun s => s.asWrite w (commitAddr b) 0 (fun s => s.unlock b))

/-- Bits of lanes from `i` on. -/
def lanesWord (i : Nat) (f : Nat → Bool) : Word := BitVec.ofNat 32 (maskN 32 (fun j => decide (i + j < 34) && f (i + j)))

/-- Some lane meets a test. -/
def anyLane (f : Nat → Bool) : Nat := b2n ((List.range 34).any f)

/-- ANV_LN_STAT_l as it reads: the inputs of the role that the lane ALIAS names serves, also where lane l itself has come to serve
another (R137; log entry 148), and lane l's own pre-lean counter (R123, R132, R142). -/
def State.laneStat (s : State) (l : Nat) : Word :=
  let m := s.shownLane l
  let put (w : Word) (f : FRef) (b : Bool) := putBits w f.hi f.lo (b2n b)
  let ovr (k : Nat → Nat) := (s.roles m).any (fun r => s.on (EVF_CON.OVR (k r)))
  put (put (put (put (put (s.rd (ANV_LN_STAT l)) (ANV_LN_STAT.SLPEND l) (s.roleIn kSload m)) (ANV_LN_STAT.SLOVR l) (ovr kSload))
    (ANV_LN_STAT.PLPEND l) (s.roleIn kPlean m)) (ANV_LN_STAT.PLOVR l) (ovr kPlean))
    (ANV_LN_STAT.PLACT l) (decide ((s.ln l).pl ≠ 0))

/-- Reads of ANV registers that mirror other state (R127, R142). -/
def State.anvView (s : State) (a : Nat) : Word :=
  let st (f : Nat → FRef) (i : Nat) := lanesWord i (fun l => s.on (f l))
  if a = ANV_STAT then
    let w := s.rd a
    let w := putBits w 4 4 (anyLane (fun l => s.on (ANV_LN_STAT.SHPAR l)))
    let w := putBits w 2 2 (anyLane (fun l => s.on (ANV_LN_STAT.REPAIRED l)))
    let w := putBits w 1 1 (anyLane (fun l => s.on (ANV_LN_STAT.FAULTED l)))
    putBits w 0 0 (anyLane (fun l => s.on (ANV_LN_STAT.WRAP l)))
  else if a = ANV_SWAP_PEND_0 then st ANV_LN_STAT.SWPEND 0
  else if a = ANV_SWAP_PEND_1 then st ANV_LN_STAT.SWPEND 32
  else if a = ANV_WRAP_SUM_0 then st ANV_LN_STAT.WRAP 0
  else if a = ANV_WRAP_SUM_1 then st ANV_LN_STAT.WRAP 32
  else if a = ANV_FLT_SUM_0 then st ANV_LN_STAT.FAULTED 0
  else if a = ANV_FLT_SUM_1 then st ANV_LN_STAT.FAULTED 32
  else if inFam a (ANV_LN_STAT 0) 34 0x40 then s.laneStat (famIdx a (ANV_LN_STAT 0) 0x40)
  else if inFam a (ANV_SH 0 0) 2176 4 then
    let i := famIdx a (ANV_SH 0 0) 4
    s.bankWord (bankKey (i / 64) (1 - s.activeBank (i / 64)) (i % 64))
  else if inFam a (ANV_ACT 0 0) 2176 4 then
    let i := famIdx a (ANV_ACT 0 0) 4
    s.bankWord (bankKey (i / 64) (s.activeBank (i / 64)) (i % 64))
  else s.rd a

/-- Reads of PHA registers that mirror other state (R87): the members of a rail by state. -/
def State.phaView (s : State) (a : Nat) : Word :=
  if inFam a (PHA_RAIL_STAT 0) 32 0x40 then
    let r := famIdx a (PHA_RAIL_STAT 0) 0x40
    let n (k : Nat) := ((s.members r).filter (fun j => s.phState j == k)).length
    BitVec.ofNat 32 (n phActive + 2 ^ 8 * n phBlend + 2 ^ 16 * n phParked + 2 ^ 24 * (n phFailed + n phAbsent))
  else s.rd a

/-- Bit r of a word is set where a field of rail r is not 0. -/
def State.railsWord (s : State) (f : Nat → FRef) : Word := BitVec.ofNat 32 (maskN 32 (fun r => s.on (f r)))

/-- Reads of SNS registers that mirror other state (R113). -/
def State.snsView (s : State) (a : Nat) : Word :=
  if a = SNS_STAT then
    putBits (putBits (s.rd a) 1 1 (b2n (s.railsWord SNS_VS_STAT.FR != 0))) 0 0 (s.get TBU_STAT.ENG_PLL_LOCK)
  else if a = SNS_VFR_SUM then s.railsWord SNS_VS_STAT.FR
  else s.rd a

/-- Reads of RLC registers that mirror other state (R171, R195). -/
def State.rlcView (s : State) (a : Nat) : Word :=
  if a = RLC_STAT then
    putBits (s.rd a) 2 2 (b2n (s.dip && (List.range 32).any (fun r => s.on (RLC_RAIL_STAT.PENDING r))))
  else if a = RLC_PG_SUM then s.railsWord RLC_RAIL_STAT.PG
  else if inFam a (RLC_RAIL_REF 0) 32 0x40 then BitVec.ofNat 32 (s.refOut (famIdx a (RLC_RAIL_REF 0) 0x40))
  else s.rd a

/-- Reads of EVF registers: what mirrors consumers, what VIEW selects, what is wired (R198, R207, R209, R216). -/
def State.evfView (s : State) (tenant : Bool) (a : Nat) : Word :=
  let con (f : Nat → FRef) (i : Nat) :=
    BitVec.ofNat 32 (maskN 32 (fun j => s.on (f (32 * i + j)))) &&& (if tenant then conMask i else 0xFFFFFFFF)
  if a = EVF_STAT then putBits (s.rd a) 0 0 (b2n s.dirty)
  else if inFam a (EVF_PEND 0) 64 4 then con EVF_CON.PEND (famIdx a (EVF_PEND 0) 4)
  else if inFam a (EVF_OVR 0) 64 4 then con EVF_CON.OVR (famIdx a (EVF_OVR 0) 4)
  else if inFam a (EVF_WATCH 0) 16 4 then
    s.rd a &&& (if tenant then s.watchMask (famIdx a (EVF_WATCH 0) 4) else 0xFFFFFFFF)
  else if a = EVF_CH_CFG 0 then 0xC0000000
  else if routeMask a ≠ 0 && s.on EVF_CTL.VIEW then (s.rd a &&& ~~~(routeMask a)) ||| (s.act a &&& routeMask a)
  else s.rd a

/-- Reads of ICU registers: the Tenant world sees the bits of its sources (R315). -/
def State.icuView (s : State) (tenant : Bool) (a : Nat) : Word :=
  let m (b : Nat) := if tenant then s.icuMask (famIdx a b 4) else 0xFFFFFFFF
  if inFam a (ICU_PEND 0) 40 4 then s.rd a &&& m (ICU_PEND 0)
  else if inFam a (ICU_OVR 0) 40 4 then s.rd a &&& m (ICU_OVR 0)
  else s.rd a

/-- What a register reads as, side effects of the read apart. -/
def State.view (s : State) (tenant : Bool) (a : Nat) : Word :=
  match a / 0x100000 with
  | 0x401 => s.phaView a
  | 0x402 => s.snsView a
  | 0x403 => s.anvView a
  | 0x404 => if a = BLW_LATCH_SUM then s.railsWord BLW_PROT_STAT.LATCH else s.rd a
  | 0x405 => s.rlcView a
  | 0x406 => s.evfView tenant a
  | 0x407 => s.icuView tenant a
  | 0x408 =>
    let p := (a - 0x40800000) / 0x10000
    if p < 6 ∧ a = DRV_READY p then s.readySlots p else s.rd a
  | 0x40E =>
    if a = TBU_SUB_SNAP then putBits (s.rd a) 31 31 (b2n s.modePend)
    else if a = TBU_STAT && s.isBw then putBits (s.rd a) 1 1 1
    else s.rd a
  | _ => s.rd a

/-- A READ OF ANY REGISTER of the peripheral region, with its side effects (R8, R9, R42, R105, R429): at no register it
reads 0 (R234). -/
def State.regRead (s : State) (tenant : Bool) (a : Nat) : Word × State :=
  match regAt a with
  | none => (0, s)
  | some r =>
    if tenant && r.keeper then (0, s)
    else if a = TBU_TBC_LO then s.drawn.readTbc (s.freeVal.toNat % s.tickCycles)
    else if a = TBU_BGC_LO then s.readBgc
    else if a = SNS_CAP_STAT then s.readCapStat
    else if inFam a (MFU_CH_POS 0) 8 0x100 then s.readPos (famIdx a (MFU_CH_POS 0) 0x100)
    else (s.view tenant a, s.plainRead a)

/-- The plaintexts of the FW sections of core p in the slot Kindle chose; none where a digest fails or one does not fit the
core's RAM: the slot may have been written since (R377, R381, R383). -/
def State.fwSections (s : State) (p : Nat) : Option (List (Sect × Bytes)) :=
  let k := s.get NVC_KSTAT.SLOT
  let h := s.hdr k
  (h.sects.filter (fun e => e.ty == 3 && nbit e.cores p)).foldl (fun a e =>
    match a, s.plain k h e with
    | some l, some b => if e.fits b then some (l ++ [(e, b)]) else none
    | _, _ => none) (some [])

/-- The payload of a record of type 0x0A (R375): slot, RESULT, the letter of the reset kind, IVER. -/
def kindlePayload (slot res letter iver : Nat) : Bytes := (payloadOf [slot, res, letter]).take 4 ++ leBytes 4 iver ++ leBytes 4 0

/-- Core p starts its base context at an address (R322, R374, R377). -/
def State.startCore (s : State) (p : Nat) (pc : Word) : State :=
  let s := s.modBank p 1 (fun k => { k with pc := pc })
  { s with pmu := { s.pmu with held := modNth s.pmu.held p (fun _ => false) } }.showCore p

/-- Core p is held in core reset. -/
def State.holdCore (s : State) (p : Nat) : State :=
  { s with pmu := { s.pmu with held := modNth s.pmu.held p (fun _ => true) } }.showCore p

/-- After a reset of kind X Tlaell recopies the FW sections of core p, checks their digests and starts it (R377); before
Kindle has completed the core stays held. -/
def State.restartCore (s : State) (p : Nat) : State :=
  if !s.on NVC_KSTAT.KDONE then s.holdCore p
  else match s.fwSections p with
    | none => (s.holdCore p).mrPost 0x0A (kindlePayload (s.get NVC_KSTAT.SLOT) 4 0x58 (s.get NVC_KIMG.IVER))
    | some [] => s.holdCore p
    | some (e :: es) => (s.copyFw p (e :: es)).startCore p (BitVec.ofNat 32 e.1.load)

/-- The registers that a reset of kind X restores: domain X in the window and the system registers of core p (R12, R333). -/
def xDomain (p a : Nat) : Bool := a / 0x10000 == 0x4080 + p || a / 0x1000 == 0x100000 + p

/-- The buffers of core p drain and its outstanding accesses complete, their data discarded (R333); `f` performs a register
write. -/
def State.drainCore (s : State) (f : State → Nat → Word → State) (p : Nat) : State :=
  let c := s.core p
  let s := s.retireN p c.sb.length
  let s := (s.flushMerge p).deliverMem p
  let es := (s.core p).posted
  let s := s.modCore p (fun c => { c with posted := [] })
  let s := s.each es (fun s e => f s e.addr (wordOfLe e.bytes))
  match c.pload with
  | none => s
  | some l => if areaOf l.addr = .periph then (s.regRead (s.tenantCore p) l.addr).2 else (s.portWord p l.addr).2

/-- THE RESET OF CORE P (R333, R377), its buffers drained first. -/
def State.coreReset (s : State) (f : State → Nat → Word → State) (p : Nat) : State :=
  let s := ((s.drainCore f p).modCore p (fun _ => {})).flashResume
  (s.restore (fun a f => f.dom == .x && xDomain p a)).restartCore p

/-- A write of NVC_KCTL (R376, R402). A reset of kind K includes X for every core, whose buffers drain first (R13, R333). -/
def State.kctlWrite (s : State) (f : State → Nat → Word → State) (v : Word) : State :=
  let s := s.plainWrite NVC_KCTL v
  if getBits v 31 16 = 0x4B49 then (s.each (List.range 6) (fun s p => s.drainCore f p)).resetOf 5 else s

/-- Writes of the window of core p: the control store, the error registers, the core reset and the Drover (R290, R311,
R333, R340). -/
def State.windowWrite (s : State) (f : State → Nat → Word → State) (p a : Nat) (v : Word) : State :=
  if 0xF100 ≤ a % 0x10000 then s.ucWrite p a v
  else if a = MEM_INJ p then s.injWrite p v
  else if 0xF000 ≤ a % 0x10000 then s.plainWrite a v
  else if a = DRV_RST p then (if getBits v 15 0 = 0x7144 then s.coreReset f p else s)
  else s.drvWrite p a v

/-- A WRITE OF ANY REGISTER of the peripheral region (R234): its block does what its rules say; where no register lies,
nothing. The number bounds how many core resets may nest, each emptying the writes its core has posted. -/
def regEffectN : Nat → State → Nat → Word → State
  | n, s, a, v =>
    let inner := match n with
      | 0 => fun s _ _ => s
      | n + 1 => regEffectN n
    match commitAt a with
    | some b => if wbit v 0 then s.lockBlk b else s.unlock b
    | none =>
      match a / 0x100000 with
      | 0x401 => s.phaWrite a v
      | 0x402 => s.snsWrite a v
      | 0x403 =>
        let s := s.anvWrite a v
        if inFam a (ANV_LN_CFG 0) 34 0x40 then s.each (List.range 8) (fun s m => s.mfuFallback m) else s
      | 0x404 => s.blwWrite a v
      | 0x405 => s.rlcWrite a v
      | 0x406 => s.evfWrite a v
      | 0x407 => s.icuWrite a v
      | 0x408 => if (a - 0x40800000) / 0x10000 < 6 then s.windowWrite inner ((a - 0x40800000) / 0x10000) a v else s
      | 0x409 => s.hifWrite a v
      | 0x40A => if a = NVC_KCTL then s.kctlWrite inner v else s.nvcWrite a v
      | 0x40B => s.pmuWrite a v
      | 0x40C => s.mfuWrite a v
      | 0x40D => s.flkWrite a v
      | 0x40F => s.otpWrite a v
      | 0x40E => (s.plainWrite a v).judgeIdle
      | _ => s.plainWrite a v

/-- The same, with room for every core to be reset. -/
def State.regEffect (s : State) (a : Nat) (v : Word) : State := regEffectN 8 s a v

/-- CORE_RESET. -/
def execCoreReset (w : Who) (p key : Nat) (s : State) : Host.Outcome State Fault Refusal :=
  runs (wfCoreReset w p key) s (fun s =>
    s.asWrite w (DRV_RST p) (BitVec.ofNat 32 key) (fun s => s.regEffect (DRV_RST p) (BitVec.ofNat 32 key)))

/-- KINDLE_RESET, with SLOTWE as it stands. -/
def execKindleReset (w : Who) (key : Nat) (s : State) : Host.Outcome State Fault Refusal :=
  runs (wfKindleReset w key) s (fun s =>
    let v := putBits (s.rd NVC_KCTL) 31 16 key
    s.asWrite w NVC_KCTL v (fun s => s.regEffect NVC_KCTL v))

/-- A core's access to an address where no block lies, or that is not a word's, raises its exception (R225, R228, R234; log entry
71). -/
def State.badAccess (s : State) (p a info : Nat) : State :=
  if s.userCore p && areaOf a == .periph then s.except p 2 info 0
  else if a % 4 ≠ 0 then s.except p 5 info (BitVec.ofNat 32 a)
  else s.except p 4 info (BitVec.ofNat 32 a)

/-- An address of the window the host sees through BAR0, as a core sees it (R343). -/
def inBar0 (a : Nat) : Bool := decide (0x40000000 ≤ a) && decide (a < 0x44000000)

/-- An address of BAR2 in the model's key space (R345). -/
def inBar2 (a : Nat) : Bool := decide (bar2 ≤ a) && decide (a < bar2 + 0x10000)

/-- An address of configuration space in the model's key space (R342). -/
def inCfg (a : Nat) : Bool := decide (cfgSpace ≤ a) && decide (a < cfgSpace + 0x1000)

/-- REGISTER_WRITE. A core or the host writes a register (R8, R234, R342, R343, R345). The byte enables of the
request and how it arrives are the host's: a poisoned write, and with ECRC checked one whose ECRC fails, is dropped and
reported, and so is one of part of a dword in BAR0. -/
def execRegisterWrite (w : Who) (a : Nat) (v : Word) (be : Nat) (tlp : Tlp) (s : State) :
    Host.Outcome State Fault Refusal :=
  runs (wfRegisterWrite w a v be tlp) s (fun s =>
    match w with
    | .core p =>
      if areaOf a = .periph ∧ a % 4 = 0 then s.asWrite w a v (fun s => s.regEffect a v)
      else if s.issuing p && inBar0 a then s.badAccess p a 1
      else s
    | .host =>
      if !(inBar0 a || inBar2 a || inCfg a) then s
      else if tlp = .poisoned then s.poisoned
      else if tlp = .badEcrc ∧ s.hif.cfg.ecrcChk = true then s.aerSet 19 false
      else if inCfg a then s.cfgWrite (a - cfgSpace) v be
      else s.hostMem false (fun s =>
        if inBar2 a then (if be = 15 then s.bar2Write (a - bar2) v else s)
        else if be ≠ 15 ∨ a % 4 ≠ 0 then s.set HIF_STAT.HPART 1
        else if areaOf a = .periph then s.asWrite w a v (fun s => s.regEffect a v)
        else s.set HIF_STAT.HUNMAP 1)
    | .tlaell => if areaOf a = .periph ∧ a % 4 = 0 then s.regEffect a v else s)

/-- READ_CLEAR. A register is read, with whatever a read does to it (R9, R42, R105, R343, R429). -/
def execReadClear (w : Who) (a : Nat) (s : State) : Host.Outcome State Fault Refusal :=
  runs (wfReadClear w a) s (fun s =>
    let go (s : State) (a : Nat) := s.asRead w a (fun s => s.regRead (s.tenantWho w) a)
    match w with
    | .core p =>
      if areaOf a = .periph ∧ a % 4 = 0 then go s a
      else if s.issuing p && inBar0 a then s.badAccess p a 0
      else s
    | .host =>
      if inCfg a then s.emit (.read w a (s.cfgRead (a - cfgSpace)))
      else if !(inBar0 a || inBar2 a) then s
      else s.hostMem true (fun s =>
        if inBar2 a then s.emit (.read w a (s.bar2Read (a - bar2)))
        else if areaOf a = .periph then go s (a / 4 * 4)
        else (s.set HIF_STAT.HUNMAP 1).emit (.read w a 0))
    | .tlaell => if areaOf a = .periph ∧ a % 4 = 0 then go s a else s)

/-- The register writes of a descriptor, in order (R350); one whose target finds a parity error is refused with those after
it, and the accesses already made stand (R351). -/
def State.descWrite (s : State) (e : DescErr) (d : Desc) : (Nat × Word) × State :=
  let ws := s.descWrites d
  let made (ws : List (Nat × Word)) := s.each ws (fun s w => s.regEffect w.1 w.2)
  match e with
  | .sound => ((0, 0), made ws)
  | .buffer => ((1, 0), s)
  | .parity k => if k < ws.length then ((5, 0), made (ws.take k)) else ((0, 0), made ws)

/-- REGW. -/
def execRegw (q : Nat) (e : DescErr) (s : State) : Host.Outcome State Fault Refusal :=
  runs (wfRegw q e) s (fun s => s.engine q (· == 0x01) (fun d s => s.descWrite e d))

/-- REGR. -/
def execRegr (q : Nat) (e : DescErr) (s : State) : Host.Outcome State Fault Refusal :=
  runs (wfRegr q e) s (fun s => s.engine q (· == 0x02) (accessGuard e (fun d s =>
    let r := s.regRead (s.tenantWho .host) (0x40000000 + d.f 8 4)
    ((0, r.1), r.2))))

/-- RAIL_VSET. -/
def execRailVset (q : Nat) (e : DescErr) (s : State) : Host.Outcome State Fault Refusal :=
  runs (wfRailVset q e) s (fun s => s.engine q (· == 0x10) (fun d s => s.descWrite e d))

/-- RAIL_ON. The field alone is written (R350). -/
def execRailOn (q : Nat) (e : DescErr) (s : State) : Host.Outcome State Fault Refusal :=
  runs (wfRailOn q e) s (fun s => s.engine q (· == 0x11) (accessGuard e (fun d s =>
    ((0, 0), (s.set (RLC_RAIL_CTL.ON (d.b 8)) (d.b 9)).arbitrate (d.b 8)))))

/-- PHASE_CMD. -/
def execPhaseCmd (q : Nat) (e : DescErr) (s : State) : Host.Outcome State Fault Refusal :=
  runs (wfPhaseCmd q e) s (fun s => s.engine q (· == 0x12) (fun d s => s.descWrite e d))

/-- QUENCH. -/
def execQuench (q : Nat) (e : DescErr) (s : State) : Host.Outcome State Fault Refusal :=
  runs (wfQuench q e) s (fun s => s.engine q (· == 0x13) (fun d s => s.descWrite e d))

end Sys2Proof.Machine
end

