-- ==== Sys2Proof/Machine/Kindle.lean ====
section
/-! DEFINITION. Kindle: what Tlaell does from the release of a reset to KDONE, or to recovery (R374 to R376, R378, R385, R393 to R398). -/

namespace Sys2Proof.Machine

/-- An uncorrectable word among the keys, hashes, locks or rollback bits (R375). -/
def State.otpKeyBad (s : State) : Bool := s.nvc.fuseBad.any (fun i => inRange 0x08 0x2F i || i == 0x31)

/-- Log2 of the erase size: the largest erase type of 64 KiB or less (R378), of those NVC_FL_INFO can report. -/
def flashErase (f : FlashId) : Option Nat := (f.erases.filter (inRange 12 16)).foldl (fun b e => some (max e (b.getD 0))) none

/-- The read mode chosen: 8D-8D-8D, else 1-4-4, else 1-1-1 (R378). -/
def flashMode (f : FlashId) : Nat := if f.read8D then 3 else if f.read144 then 2 else 1

/-- The clock of that mode in MHz, limited by what the flash reports (R378). -/
def flashClk (f : FlashId) : Nat := min (nth [0, 50, 133, 200] (flashMode f) 0) f.maxMHz

/-- The flash found is one the device supports (R378). -/
def flashUsable (f : FlashId) : Bool :=
  f.sfdp && inRange 26 29 f.densLog2 && (flashErase f).isSome && decide (f.pageLog2 < 32)

/-- Step 3: NVC_FL_INFO reports the flash (R378). -/
def State.flashFound (s : State) (f : FlashId) : State :=
  (((((s.set NVC_FL_INFO.DENSLOG2 f.densLog2).set NVC_FL_INFO.ERLOG2 ((flashErase f).getD 12)).set NVC_FL_INFO.PAGELOG2
    f.pageLog2).setb NVC_FL_INFO.SUSP f.susp).set NVC_FL_INFO.CLKMHZ (flashClk f)).set NVC_FL_INFO.MODE (flashMode f)

/-- Step 4: the first choice of a slot; none where no slot is valid (R374, R385). -/
def State.firstSlot (s : State) : Option Nat :=
  let v0 := s.imageValid 0
  let v1 := s.imageValid 1
  if !v0 && !v1 then none
  else if s.nvc.kkind = 5 then some (s.get NVC_KSTAT.SLOT)
  else if v0 && (!v1 || decide ((s.hdr 1).iver ≤ (s.hdr 0).iver)) then some 0
  else some 1

/-- Steps 5 to 8 for slot `k`: the container verified, patches and stores loaded unless a K reset kept them, FW and DATA
copied; RESULT, the DEFAULTS plaintext and the sections (R374, R375). -/
def State.loadImage (s : State) (k : Nat) : Nat × List (Sect × Bytes) × State :=
  match s.sections k with
  | none => (4, [], s)
  | some l =>
    let r := if s.nvc.kkind = 5 then (true, s) else (s.loadPatches l).loadStores l
    if !r.1 then (5, [], r.2)
    else
      let h := s.hdr k
      let s := ((r.2.set NVC_KSTAT.SLOT k).set NVC_KSTAT.RBI h.rbi).wr NVC_KIMG (BitVec.ofNat 32 h.iver)
      let s := s.wr NVC_J_OFS (BitVec.ofNat 32 h.jofs)
      let s := s.set NVC_J_SIZE.SIZE h.jsize
      let s := s.each (List.range 6) (fun s p => s.copyFw p l)
      (0, l, s.copyData l)

/-- The fallback to the other slot (R375, R385). -/
def State.loadEither (s : State) (k : Nat) : Nat × List (Sect × Bytes) × State :=
  let r := s.loadImage k
  if r.1 = 0 then r
  else if s.imageValid (1 - k) then
    let s := (r.2.2.set NVC_KSTAT.FALLBACK 1).set NVC_KSTAT.RESULT r.1
    s.loadImage (1 - k)
  else r

/-- What a scan of a journal half finds (R393). -/
structure JScan where
  /-- the accepted records as they are stored, padding included. -/
  recs : List Bytes
  fill : Nat
  torn : Bool

/-- The type of a record (R391). -/
def recType (r : Bytes) : Nat := leAt r 1 1
/-- Its key. -/
def recKey (r : Bytes) : Nat := leAt r 8 4
/-- Its payload. -/
def recPayload (r : Bytes) : Bytes := bytesAt r 16 (leAt r 2 2)

/-- The next offset after a torn record (R393). -/
def State.afterTorn (s : State) (base off : Nat) : Nat :=
  let last := ((List.range 4096).filter (fun i => s.byte (0x60000000 + base + off + i) != 0xFF)).getLastD 0
  let pg := 2 ^ s.get NVC_FL_INFO.PAGELOG2
  (off + last + 1 + pg - 1) / pg * pg

/-- THE SCAN of a journal half from an offset, with the sequence number expected there (R393). -/
def State.scanFrom (s : State) (base size : Nat) : Nat → Nat → Nat → List Bytes → JScan
  | 0, off, _, acc => ⟨acc.reverse, off, false⟩
  | n + 1, off, expect, acc =>
    if size < off + 16 then ⟨acc.reverse, off, false⟩
    else
      let h := s.fl (base + off) 16
      let len := leAt h 2 2
      if h.all (· == 0xFF) then ⟨acc.reverse, off, false⟩
      else if leAt h 0 1 ≠ 0xA5 ∨ 4080 < len ∨ size < off + recSize len
          ∨ crc32c (h.take 12 ++ s.fl (base + off + 16) len) ≠ leAt h 12 4 ∨ leAt h 4 4 ≠ expect
          ∨ (expect = 0 ∧ recType h ≠ 3) then
        ⟨acc.reverse, s.afterTorn base off, true⟩
      else s.scanFrom base size n (off + recSize len) (expect + 1) (s.fl (base + off) (recSize len) :: acc)

/-- The scan of half `h`. -/
def State.scanHalf (s : State) (h : Nat) : JScan :=
  let size := s.get NVC_J_SIZE.SIZE
  s.scanFrom (s.halfAt h) size (size / 16 + 1) 0 0 []

/-- The half is valid (R393). -/
def JScan.valid (j : JScan) : Bool := !j.recs.isEmpty
/-- Its generation. -/
def JScan.gen (j : JScan) : Nat := leAt (j.recs.headD []) 16 4
/-- It holds a COMMIT of its own generation (R395). -/
def JScan.committed (j : JScan) : Bool := j.recs.any (fun r => recType r == 4 && leAt r 16 4 == j.gen)

/-- What the scan of half `h` leaves in its registers (R393, R402). -/
def State.scanned (s : State) (h : Nat) (j : JScan) : State :=
  ((s.setFill h j.fill).wr (NVC_J_GEN h) (BitVec.ofNat 32 (if j.valid then j.gen else 0))).wr (NVC_J_SEQ h)
    (BitVec.ofNat 32 j.recs.length)

/-- Half `h` is erased (R395). -/
def State.halfErased (s : State) (h : Nat) : Bool :=
  let a := 0x60000000 + s.halfAt h
  !(s.mem.any (fun c => decide (a ≤ c.1) && decide (c.1 < a + s.get NVC_J_SIZE.SIZE)))

/-- A HALF_OPEN record of a generation (R391). -/
def halfOpen (gen : Nat) : Bytes := jrecBytes ([0xA5, 3, 4, 0] ++ List.replicate 12 0 ++ leBytes 4 gen) 0

/-- A journal error is shown and reported (R375, R395). -/
def State.jerr (s : State) : State := (s.set NVC_J_STAT.JERR 1).icuRaise 66

/-- THE CHOICE OF THE ACTIVE HALF (R395): the active half's records, and the state; RESULT 6 where the journal is unusable. -/
def State.chooseHalf (s : State) : List Bytes × State :=
  let j0 := s.scanHalf 0
  let j1 := s.scanHalf 1
  let s := (s.scanned 0 j0).scanned 1 j1
  let act (s : State) (h : Nat) (j : JScan) (stale : Bool) : List Bytes × State :=
    let s := (s.set NVC_J_STAT.ACT h).setb NVC_J_STAT.STALE stale
    let s := if j.torn then (s.set NVC_KSTAT.TORN 1).jerr else s
    (j.recs, s.jfull)
  if !j0.valid && !j1.valid then
    if s.halfErased 0 then
      let r := halfOpen 1
      let s := s.flProgram (s.halfAt 0) r
      ([r], ((s.setFill 0 32).wr (NVC_J_GEN 0) 1).wr (NVC_J_SEQ 0) 1)
    else
      let s := (s.set NVC_KSTAT.RESULT 6).jerr
      ([], (if j0.torn then s.set NVC_KSTAT.TORN 1 else s).jfull)
  else if j0.valid && j1.valid then
    if j0.gen = j1.gen then let r := act s 0 j0 true; (r.1, r.2.jerr)
    else
      let hi := if sext 32 (j0.gen + 2 ^ 32 - j1.gen) > 0 then 0 else 1
      let jh := if hi = 0 then j0 else j1
      let jl := if hi = 0 then j1 else j0
      if jh.committed then act s hi jh true else act s (1 - hi) jl true
  else if j0.valid then act s 0 j0 false
  else act s 1 j1 false

/-- The live records: for each key the last SET, unless a later DELETE follows (R396). -/
def liveRecs : List Bytes → List Bytes
  | [] => []
  | r :: rs =>
    if recType r = 1 ∧ rs.any (fun q => (recType q == 1 || recType q == 2) && recKey q == recKey r) = false then
      r :: liveRecs rs
    else liveRecs rs

/-- The records of the DEFAULTS plaintext, in stored order (R386, R391). -/
def defaultRecs : Nat → Bytes → List Bytes
  | 0, _ => []
  | n + 1, b =>
    let len := leAt b 2 2
    if b.length < 16 ∨ leAt b 0 1 ≠ 0xA5 ∨ 4080 < len ∨ b.length < 16 + len then []
    else bytesAt b 0 (recSize len) :: defaultRecs n (b.drop (recSize len))

/-- The addresses a register setting names (R392). -/
def setAddrs (r : Bytes) : List Nat :=
  (List.range (leAt r 2 2 / 4)).map (fun i => 0x40000000 + 4 * (recKey r % 2 ^ 22 + i))

/-- The setting names a register that replay skips (R396). -/
def skipAddr (held : Bool) (a : Nat) : Bool :=
  let b := a / 0x100000
  b == 0x409 || b == 0x40A || b == 0x40F || (b == 0x408 && decide (0xF000 ≤ a % 0x10000))
    || (held && (inRange 0x401 0x405 b || b == 0x40E || b == 0x40D))

/-- One setting is replayed (R392, R396). -/
def State.replayOne (s : State) (held : Bool) (r : Bytes) : State :=
  if recType r ≠ 1 ∨ recKey r / 2 ^ 24 ≠ 1 ∨ leAt r 2 2 = 0 ∨ leAt r 2 2 % 4 ≠ 0 then s
  else if (setAddrs r).any (skipAddr held) then s.bump NVC_KSKIP.COUNT
  else s.each ((setAddrs r).zip (List.range (leAt r 2 2 / 4))) (fun s e =>
    s.regEffect e.1 (BitVec.ofNat 32 (leAt r (16 + 4 * e.2) 4)))

/-- The merged live set: DEFAULTS, the journal's setting in place of a default of the same key (R396). -/
def mergedSet (ds js : List Bytes) : List Bytes :=
  (liveRecs ds).filter (fun d => !(js.any (fun j => recKey j == recKey d))) ++ js

/-- The settings table goes to system SRAM (R396). -/
def State.settingsTable (s : State) (rs : List Bytes) : State :=
  let body := rs.flatten
  let t : Bytes := [0x53, 0x54, 0x41, 0x42] ++ leBytes 4 rs.length ++ leBytes 4 body.length ++ leBytes 4 0 ++ body
  let a := s.sramPlace t.length
  (a.2.writeBlock a.1 t).set NVC_SETTAB.ADDR (a.1 / 16)

/-- The EXIT setting of the merged live set: 0 Run, 1 Graze, 2 Quench, which stands where there is none (R392). -/
def exitOf (rs : List Bytes) : Nat :=
  match (rs.filter (fun r => recKey r == 1)).getLast? with
  | some r => min 2 (leAt r 16 1)
  | none => 2

/-- THE COMMITS (R397): the first refusal stops them with RESULT 8 and names its block. -/
def State.kindleLocks (s : State) : List (Nat × LockBlk) → State
  | [] =>
    let s := s.evfGo.evfChecked
    if s.get EVF_COMMIT.RESULT = 0 then s else (s.set NVC_KSTAT.RESULT 8).set NVC_KSTAT.CBLK 6
  | (i, b) :: bs =>
    let s := if s.on (commitLock b) then s else s.lockBlk b
    if s.on (commitLock b) then s.kindleLocks bs else (s.set NVC_KSTAT.RESULT 8).set NVC_KSTAT.CBLK i

/-- The blocks of the commits (R374 step 10, R397). -/
def kindleBlocks (held : Bool) : List (Nat × LockBlk) :=
  if held then [(5, .icu)] else [(1, .flk), (2, .pha), (3, .anv), (4, .rlc), (5, .icu)]

/-- The MRAM header for a Kindle count (R398). -/
def mrHeader (count : Nat) : Bytes :=
  let b : Bytes := [0x4D, 0x52, 0x48, 0x44] ++ leBytes 4 1 ++ leBytes 4 16384 ++ leBytes 4 count ++ List.replicate 44 0
  b ++ leBytes 4 (crc32c b)

/-- The MRAM header passes its check (R398). -/
def State.mrHeaderOk (s : State) : Bool := s.bytes 0x20000000 64 == mrHeader s.kindleCount

/-- The header is checked and counts the Kindle; a failing one is written anew over cleared counters and ring (R398). -/
def State.mrKindle (s : State) : State :=
  if s.mrHeaderOk then s.setBytes 0x20000000 (mrHeader ((s.kindleCount + 1) % 2 ^ 32))
  else
    { s with mem := s.mem.filter (fun c => !(decide (0x20000040 ≤ c.1) && decide (c.1 < 0x20080400))) }.setBytes
      0x20000000 (mrHeader 1)

/-- The newest record of the ring: its index and SEQ (R398). -/
def State.mrNewest (s : State) : Option (Nat × Nat) :=
  (List.range 16384).foldl (fun best i =>
    let r := s.bytes (0x20000400 + 32 * i) 32
    if crc32c (r.take 28) ≠ leAt r 28 4 then best
    else match best with
      | none => some (i, leAt r 4 4)
      | some (j, q) => if sext 32 (leAt r 4 4 + 2 ^ 32 - q) > 0 then some (i, leAt r 4 4) else some (j, q)) none

/-- After a reset of kind C the ring position is rebuilt (R398). -/
def State.mrRebuild (s : State) : State :=
  if !s.nvc.mrLost then s
  else
    let s := { s with nvc := { s.nvc with mrLost := false } }
    match s.mrNewest with
    | none => (s.set NVC_MR_HEAD.HEAD 0).wr NVC_MR_SEQ 0
    | some (i, q) => (s.set NVC_MR_HEAD.HEAD ((i + 1) % 16384)).wr NVC_MR_SEQ (BitVec.ofNat 32 (q + 1))

/-- The MRAM counter of a reset kind; a wake from Ember counts as kind P (R400, R412). -/
def kindCounter (k : Nat) : Nat := if k = 6 then 3 else k

/-- The Kindle and the resets that led to it are counted (R400). -/
def State.countKindle (s : State) : State :=
  let s := (0 :: s.nvc.resets.map kindCounter).foldl State.mramCount s
  { s with nvc := { s.nvc with resets := [] } }

/-- The letter of a reset kind (R12, R399). -/
def kindLetter (k : Nat) : Nat := nth [0, 0x43, 0x42, 0x50, 0x57, 0x4B, 0x50] k 0

/-- RECOVERY (R376). -/
def State.recover (s : State) (res : Nat) : State := (s.set NVC_KSTAT.RESULT res).set NVC_KSTAT.REC 1

/-- Step 11: the record, the cores, the exit mode and KDONE (R374, R392, R406, R409); the EVIO pins follow their registers
(R421) and the stage enables rise where they may (R61). In Quench no comparator takes part (R144). -/
def State.kindleEnd (s : State) (l : List (Sect × Bytes)) (exit : Nat) : State :=
  let old := s
  let e := if s.get NVC_KSTAT.RESULT = 8 then 2 else exit
  let s := s.mrPost 0x0A (kindlePayload (s.get NVC_KSTAT.SLOT) (s.get NVC_KSTAT.RESULT)
    (kindLetter s.nvc.kkind) (s.get NVC_KIMG.IVER))
  let s := s.each (List.range 6) (fun s p => match fwOf p l with
    | [] => s
    | f :: _ => s.startCore p (BitVec.ofNat 32 f.1.load))
  let held := s.unKindled
  let s := { s.set NVC_KSTAT.KDONE 1 with nvc := { s.nvc with kopen := false } }
  let s := if held then s.each (whichN 32 (fun k => s.on (EVF_EVIO.DIR k))) (fun s k => s.evioDrive k false) else s
  let s :=
    if e = 2 then ((s.set PMU_STAT.MODE modeQuench).each (List.range 32) State.disarm).pmuFire 4
    else
      let s := s.set TBU_CTL.MODE_REQ e
      let s := if s.on NVC_KSTAT.HELD then s else s.set TBU_STAT.MODE e
      s.set PMU_STAT.MODE s.runMode
  (s.senEdges old).each (List.range 32) State.arbitrate

/-- Kindle can run to its end: its reset is released, the PLLs have locked, rails that a K reset sequences down are OFF (R36,
R374, R410), and no Hold-on-dip keeps the SWITCH of its step 7 pending (R414; log entry 139). -/
def State.kindleReady (s : State) : Bool :=
  s.pmu.rst.isNone && s.mode == modeKindle && !s.on NVC_KSTAT.KDONE && !s.on NVC_KSTAT.REC
    && s.on TBU_STAT.ENG_PLL_LOCK && s.on TBU_STAT.CORE_PLL_LOCK && s.on TBU_STAT.FLOCK_PLL_LOCK
    && (if s.nvc.kkind = 5 then s.on NVC_KSTAT.HELD || (List.range 32).all (fun r => s.railState r == railOff) else !s.dip)

/-- KINDLE. The steps of R374 from the release of the cores' reset to KDONE or recovery. -/
def State.kindle (s : State) (x : KindleIn) : State :=
  let s := s.mrKindle.mrRebuild.countKindle
  let s := s.otpShadow.setb OTP_STAT.UNC (!s.nvc.fuseBad.isEmpty)
  let s := if s.on PMU_WDT_CTL.EN then s.set PMU_WDT_CNT.COUNT (s.get PMU_WDT_CTL.TIMEOUT) else s
  if s.otpKeyBad then s.recover 1
  else match x.flash with
    | none => s.recover 2
    | some f =>
      if !flashUsable f then s.recover 2
      else
        let s := (s.flashFound f).setb NVC_KSTAT.OPEN s.otpOpen
        match s.firstSlot with
        | none => s.recover 3
        | some k =>
          let r := s.loadEither k
          if r.1 ≠ 0 then r.2.2.recover r.1
          else
            let l := r.2.1
            let j := r.2.2.chooseHalf
            let s := j.2
            let held := s.on NVC_KSTAT.HELD
            let ds := (l.filter (fun e => e.1.ty == 5)).flatMap (fun e => defaultRecs (e.2.length / 16 + 1) e.2)
            let js := if s.get NVC_KSTAT.RESULT = 6 then [] else liveRecs j.1
            let s := s.each (ds ++ js) (fun s r => s.replayOne held r)
            let rs := mergedSet ds js
            let s := (s.settingsTable rs).kindleLocks (kindleBlocks held)
            s.kindleEnd l (exitOf rs)

/-- KINDLE. -/
def execKindle (x : KindleIn) (s : State) : Host.Outcome State Fault Refusal :=
  runs (wfKindle x) s (fun s => if s.kindleReady then s.kindle x else s)

end Sys2Proof.Machine
end

