-- ==== Sys2Proof/Machine/Operands.lean ====
section
/-! DEFINITION. The forms of a Pyhorn instruction: what follows each opcode, which prefixes it accepts, which field values are legal, what it reads and writes, how long it is (R241 to R263). A code is the first opcode byte, or 0x100 more than the byte after 0xF0. -/

namespace Sys2Proof.Machine

/-- The parts that follow an opcode, in the order of R241. -/
structure Layout where
  /-- an M byte. -/
  m : Bool := false
  /-- bytes of displacement. -/
  disp : Nat := 0
  /-- a T byte. -/
  t : Bool := false
  /-- bytes of immediate. -/
  imm : Nat := 0
deriving DecidableEq, Repr

/-- The parts that follow an opcode (R244, R247, R248). -/
def layoutOf (c : Nat) : Layout :=
  if c < 0x40 then
    (if c % 4 = 1 then { m := true, imm := 1 } else if c % 4 = 2 then { m := true, imm := 4 } else { m := true })
  else if c < 0x50 then
    (if c = 0x41 then { m := true, imm := 1 } else if c = 0x42 then { m := true, imm := 4 }
     else if 0x4C ≤ c ∧ c ≤ 0x4E then { m := true, imm := 2 } else { m := true })
  else if c < 0x74 then { m := true, disp := if c % 4 = 3 then 4 else c % 4 }
  else if c = 0x74 ∨ c = 0x75 then { m := true, disp := 4 }
  else if c = 0x76 ∨ c = 0x77 then { m := true }
  else if c = 0x78 ∨ c = 0x79 then { m := true, imm := 2 }
  else if c = 0x80 ∨ c = 0x88 then { m := true, disp := 1 }
  else if c = 0x81 ∨ c = 0x89 then { m := true, disp := 2 }
  else if c = 0x82 then { m := true, disp := 4 }
  else if c = 0x84 then { disp := 4 }
  else if c = 0x85 ∨ c = 0x86 then { m := true }
  else if c = 0x90 ∨ c = 0x91 then { m := true, imm := 1 }
  else if c = 0x92 ∨ c = 0x98 then { imm := 1 }
  else if 0xA0 ≤ c ∧ c ≤ 0xAB then { m := true, imm := if c % 2 = 0 then 2 else 1 }
  else if 0xB0 ≤ c ∧ c ≤ 0xBC then { m := true }
  else if c = 0xBD ∨ c = 0xBE then { m := true, disp := 2 }
  else if c = 0xC5 then { m := true, imm := 1 }
  else if 0xC0 ≤ c ∧ c ≤ 0xC7 then { m := true }
  else if 0xD0 ≤ c ∧ c ≤ 0xD3 then { m := true, t := true }
  else if c = 0x105 then { m := true, disp := 2, t := true }
  else if c = 0x106 then { m := true, disp := 2, imm := 4 }
  else if 0x100 ≤ c ∧ c ≤ 0x104 then { m := true, disp := 2 }
  else {}

/-- The opcode is defined (R244, R246, R248). The reserved form 3 of the ALU group is among these; `legal` refuses it. -/
def codeOk (c : Nat) : Bool :=
  decide (c < 0x47) || (decide (0x48 ≤ c) && decide (c ≤ 0x79)) || [0x80, 0x81, 0x82].contains c
    || (decide (0x84 ≤ c) && decide (c ≤ 0x89)) || (decide (0x90 ≤ c) && decide (c ≤ 0x99))
    || (decide (0xA0 ≤ c) && decide (c ≤ 0xAB)) || (decide (0xB0 ≤ c) && decide (c ≤ 0xBE))
    || (decide (0xC0 ≤ c) && decide (c ≤ 0xC7)) || (decide (0xD0 ≤ c) && decide (c ≤ 0xD3))
    || (decide (0x100 ≤ c) && decide (c ≤ 0x106))

/-- The instruction's immediate is a signed number: the ALU forms and MUL (R245, R246), the indirect bit address (R249) and
STWI (R248). -/
def immSigned (c : Nat) : Bool :=
  decide (c < 0x43) || (decide (0xA0 ≤ c) && decide (c ≤ 0xAB) && c % 2 == 1) || c == 0x106

/-- A signed number fits `n` bytes. -/
def fitsS (n : Nat) (x : Int) : Bool :=
  if n = 0 then x == 0 else decide (-(2 ^ (8 * n - 1) : Int) ≤ x) && decide (x < (2 ^ (8 * n - 1) : Int))

/-- An unsigned number fits `n` bytes. -/
def fitsU (n : Nat) (x : Int) : Bool := decide (0 ≤ x) && decide (x < (2 ^ (8 * n) : Int))

/-- The operands can stand in the parts that the opcode has (R241). -/
def opFits (o : PyOp) (c : Nat) : Bool :=
  let l := layoutOf c
  (l.m || (o.d == 0 && o.s == 0)) && (l.t || (o.t == 0 && o.n == 0)) && fitsS l.disp o.disp
    && (if immSigned c then fitsS l.imm o.imm else fitsU l.imm o.imm)

/-- How many prefixes an instruction carries. -/
def pfxCount (x : Pfx) : Nat := b2n x.win + b2n x.sat + b2n x.rep + b2n x.bitx + b2n x.atom + b2n x.det

/-- The bytes of an instruction (R241). -/
def opLen (o : PyOp) (c : Nat) : Nat :=
  let l := layoutOf c
  pfxCount o.pfx + (if 0x100 ≤ c then 2 else 1) + b2n l.m + l.disp + b2n l.t + l.imm

/-- The system register an MFSR or MTSR names (R254). -/
def sysNo (o : PyOp) : Nat := o.s * 256 + o.imm.toNat

/-- Prefixes an opcode accepts (R242). -/
def pfxOk (o : PyOp) (c : Nat) : Bool :=
  let x := o.pfx
  let base := c / 4 * 4
  (!x.win || c == 0x2C || c == 0x2F || ((c == 0x90 || c == 0x91) && decide (sysNo o ≤ 1)))
    && (!x.sat || (decide (c < 0x40) && [0x00, 0x04, 0x14, 0x30, 0x34].contains base)
      || [0x40, 0x41, 0x42, 0x45, 0x46, 0x48, 0x49, 0xD1].contains c)
    && (!x.rep || (decide (c ≤ 0x4F) && c != 0x2F) || (decide (0x50 ≤ c) && decide (c ≤ 0x73))
      || (decide (0xA1 ≤ c) && decide (c ≤ 0xAB) && c % 2 == 1))
    && (!x.bitx || (decide (0xA0 ≤ c) && decide (c ≤ 0xAB)))
    && (!x.atom || (decide (0x100 ≤ c) && decide (c ≤ 0x105)) || (decide (0xA2 ≤ c) && decide (c ≤ 0xA7))
      || c == 0xAA || c == 0xAB)
    && decide (pfxCount x ≤ 4)

/-- The field values of an opcode are legal: fields it does not use are 0 (R241) and its own rules hold (R245 to R258). -/
def fieldsOk (o : PyOp) (c : Nat) : Bool :=
  if c < 0x40 then
    (if c % 4 = 3 then c == 0x2F && o.pfx.win
     else if c % 4 ≠ 0 ∧ (c / 4 = 9 ∨ c / 4 = 10 ∨ c / 4 = 11) then o.s == 0 else true)
  else if 0x4C ≤ c ∧ c ≤ 0x4E then
    let i := o.imm.toNat
    i / 32 % 8 == 0 && i / 16384 == 0 && decide (1 ≤ i / 256 % 64) && decide (i % 32 + i / 256 % 64 ≤ 32)
  else if 0x74 ≤ c ∧ c ≤ 0x76 then o.s == 0
  else if c = 0x77 then o.s == 0 && o.d != 15
  else if c = 0x78 ∨ c = 0x79 then o.d == 0 && o.s == 0 && decide (o.imm < 32768)
  else if 0x80 ≤ c ∧ c ≤ 0x82 then o.d == 0 && decide (o.s < 15)
  else if c = 0x85 ∨ c = 0x86 then o.d == 0
  else if c = 0x88 ∨ c = 0x89 then o.s == 0
  else if 0xA0 ≤ c ∧ c ≤ 0xAB then
    (decide (0xA8 ≤ c) || o.d == 0)
      && (if c % 2 = 0 then o.s == 0 && (o.pfx.bitx || decide (o.imm < 0x4000)) else true)
  else if c = 0xC5 then o.d % 2 == 0 && (o.imm == 0 || (o.imm == 1 && o.s % 2 == 0))
  else if c = 0xD0 then o.t == 0
  else if c = 0xD1 then o.d % 2 == 0 && !([o.s, o.t, o.n].any (fun r => r == o.d || r == o.d + 1))
  else if c = 0xD2 then o.t == 0 && o.s != o.d && o.n != o.d
  else if c = 0xD3 then decide (o.t ≤ 1) && o.s != o.d && o.n != o.d
  else if c = 0x105 then o.t == 0
  else if c = 0x106 then o.d == 0
  else true

/-- The registers that REP keeps for itself are not named (R262). -/
def repOk (o : PyOp) : Bool := !o.pfx.rep || !(o.d == 13 || o.s == 13 || o.t == 13 || o.n == 13 || o.s == 15)

/-- The instruction may stand in a delay slot (R252). -/
def slotOk (o : PyOp) (c : Nat) : Bool :=
  !((decide (0x80 ≤ c) && decide (c ≤ 0x89)) || (decide (0x92 ≤ c) && decide (c ≤ 0x96)) || c == 0x98
    || (decide (0xD0 ≤ c) && decide (c ≤ 0xD3)) || o.pfx.rep)

/-- The instruction raises no illegal-instruction exception (R243). -/
def legal (o : PyOp) (c : Nat) (inSlot : Bool) : Bool :=
  pfxOk o c && fieldsOk o c && repOk o && (!inSlot || slotOk o c)

/-- The instruction needs the floating-point set (R219): it reads or writes an F register or FPSR. -/
def needsFp (o : PyOp) (c : Nat) : Bool :=
  (decide (0xB0 ≤ c) && decide (c ≤ 0xBE)) || c == 0xC6 || c == 0xC7 || ((c == 0x90 || c == 0x91) && sysNo o == 3)

/-- The registers a mask names, ascending (R247). -/
def maskRegs (i : Nat) : List Nat := whichN 16 (nbit i)

/-- The G registers of its own bank that an instruction reads or writes (R256). -/
def gUsed (o : PyOp) (c : Nat) : List Nat :=
  (if o.pfx.rep then [13] else []) ++
  (if c = 0x2F then [o.s]
   else if c = 0x2C then (if o.pfx.win then [o.d] else [o.d, o.s])
   else if c < 0x74 then (if c < 0x40 ∧ c % 4 ≠ 0 ∧ (c / 4 = 9 ∨ c / 4 = 10 ∨ c / 4 = 11) then [o.d] else [o.d, o.s])
   else if c = 0x74 ∨ c = 0x75 then [o.d]
   else if c = 0x76 ∨ c = 0x77 then [o.d, 15]
   else if c = 0x78 ∨ c = 0x79 then maskRegs o.imm.toNat ++ [15]
   else if c = 0x84 ∨ c = 0x87 then [14]
   else if c = 0x85 then [o.s]
   else if c = 0x86 then [o.s, 14]
   else if c = 0x88 ∨ c = 0x89 ∨ c = 0x90 ∨ c = 0x91 then [o.d]
   else if 0xA0 ≤ c ∧ c ≤ 0xAB then (if 0xA8 ≤ c then [o.d] else []) ++ (if c % 2 = 1 then [o.s] else [])
   else if c = 0xB9 ∨ c = 0xBB then [o.d]
   else if c = 0xBA ∨ c = 0xBC ∨ c = 0xBD ∨ c = 0xBE then [o.s]
   else if 0xC0 ≤ c ∧ c ≤ 0xC4 then [o.d, o.s]
   else if c = 0xC5 then [o.d, o.d + 1, o.s] ++ (if o.imm = 1 then [o.s + 1] else [])
   else if c = 0xD0 ∨ c = 0xD2 ∨ c = 0xD3 then [o.d, o.s, o.n]
   else if c = 0xD1 then [o.d, o.d + 1, o.s, o.t, o.n]
   else if c = 0x105 then [o.d, o.s, o.n]
   else if c = 0x106 then [o.s]
   else if 0x100 ≤ c then [o.d, o.s]
   else [])

/-- The F registers an instruction reads or writes. -/
def fUsed (o : PyOp) (c : Nat) : List Nat :=
  if 0xB0 ≤ c ∧ c ≤ 0xB8 then [o.d, o.s]
  else if c = 0xB9 ∨ c = 0xBB then [o.s]
  else if c = 0xBA ∨ (0xBC ≤ c ∧ c ≤ 0xBE) then [o.d]
  else if c = 0xC6 ∨ c = 0xC7 then [o.d, o.s]
  else []

/-- The instruction reads or writes FPSR: its rounding mode or its flags (R256). -/
def fpsrUsed (o : PyOp) (c : Nat) : Bool :=
  (decide (0xB0 ≤ c) && decide (c ≤ 0xB5)) || c == 0xBB || c == 0xBC || c == 0xC6 || c == 0xC7
    || ((c == 0x90 || c == 0x91) && sysNo o == 3)

/-- The instruction reads or writes STATUS of its own bank. -/
def statusUsed (o : PyOp) (c : Nat) : Bool :=
  (decide (c < 0x40) && c / 4 != 11) || o.pfx.sat || (decide (0x80 ≤ c) && decide (c ≤ 0x82))
    || ((c == 0x90 || c == 0x91) && sysNo o == 0 && !o.pfx.win) || c == 0xA0 || c == 0xA1
    || (o.pfx.atom && decide (c < 0x100)) || c == 0xB5 || c == 0x105

/-- The instruction reads or writes PROG of its own bank. -/
def progUsed (o : PyOp) (c : Nat) : Bool :=
  ((c == 0x90 || c == 0x91) && sysNo o == 1 && !o.pfx.win) || (decide (0xD0 ≤ c) && decide (c ≤ 0xD3))

/-- The register of the window bank that a WIN access reaches (R260): a G register, STATUS or PROG. -/
def winReg (o : PyOp) (c : Nat) : Option (Option Nat × Bool) :=
  if !o.pfx.win then none
  else if c = 0x2C then some (some o.s, false)
  else if c = 0x2F then some (some o.d, false)
  else if c = 0x90 ∨ c = 0x91 then some (none, sysNo o == 1)
  else none

/-- The long-operation unit an instruction needs (R255). -/
def unitOf (o : PyOp) (c : Nat) : Option LUnit :=
  if o.pfx.win then some .window
  else if 0xC0 ≤ c ∧ c ≤ 0xC4 then some .divider
  else if c = 0xC5 then some .cordic
  else if c = 0xC6 ∨ c = 0xC7 then some .fpDivider
  else if c = 0xD1 then some .mac
  else none

end Sys2Proof.Machine
end

