-- ==== Sys2Proof/Machine/Port.lean ====
section
/-! DEFINITION. What an instruction uses of its core: registers and results, issue slots and landing, the advance of the program counter, loads, stores and fetches, system registers, long operations (R222 to R224, R230, R231, R252 to R256, R263 to R271, R280 to R288). -/

namespace Sys2Proof.Machine

/-- How an instruction ends. -/
inductive PyRes where
  /-- it completes after `n` issue slots and the program counter moves past it. -/
  | ok (n : Nat) (s : State)
  /-- a branch: two delay slots follow, then the target if it is taken (R252). -/
  | jump (target : Option Word) (s : State)
  /-- a precise exception at the instruction: code, INFO and fault address (R329). -/
  | exc (code info : Nat) (addr : Word) (s : State)
  /-- SYSCALL and BRK: an exception whose return address is the next instruction (R326). -/
  | trap (code info : Nat) (s : State)
  /-- the core stands at the instruction, frozen (R280), or has been reset meanwhile. -/
  | stay (s : State)
  /-- the core stands at an instruction boundary that the body has set itself. -/
  | left (s : State)

/-- G register r of the executing bank of core p. -/
def State.gNow (s : State) (p r : Nat) : Word := s.gReg p (s.core p).bank r

/-- F register r of core p. -/
def State.fNow (s : State) (p r : Nat) : Word := nth (s.core p).f r 0

/-- A result that becomes visible `lat` issue slots after the present one (R264, R265). -/
def State.result (s : State) (p lat : Nat) (d : Dest) (v : Word) : State :=
  s.modCore p (fun c => { c with land := c.land ++ [⟨c.slot + lat, d, v⟩] })

/-- The same for a G register of the executing bank. -/
def State.resultG (s : State) (p lat r : Nat) (v : Word) : State := s.result p lat (.g (s.core p).bank r) v

/-- The same for STATUS bits of the executing bank; none where no bit is named. -/
def State.resultFlags (s : State) (p lat : Nat) (mask v : Word) : State :=
  if mask = 0 then s else s.result p lat (.status (s.core p).bank mask) v

/-- The same for FPSR flags. -/
def State.resultFp (s : State) (p lat : Nat) (fl : Word) : State := if fl = 0 then s else s.result p lat .fpFlags fl

/-- `n` issue slots pass, each with the results that land in it (R265, R266); a write of MTH or DETM acts one slot later than
it is read, once its MTSR has left stage W (R223, R271). -/
def State.slots (s : State) (p : Nat) : Nat → State
  | 0 => s
  | n + 1 =>
    let s := s.modCore p (fun c => { c with slot := c.slot + 1 })
    let t := s.landAt p (s.core p).slot
    (t.modCore p (fun c => { c with
      mthWas := if stMth (t.status p) = stMth (s.status p) then none else some (stMth (s.status p))
      detWas := if t.on (CORE_CTL.DETM p) = s.on (CORE_CTL.DETM p) then none else some (s.on (CORE_CTL.DETM p)) })).slots p n

/-- The program counter of the executing bank. -/
def State.pcNow (s : State) (p : Nat) : Word := (s.bankOf p (s.core p).bank).pc

/-- The program counter of the executing bank, set. -/
def State.setPc (s : State) (p : Nat) (v : Word) : State := s.modBank p (s.core p).bank (fun k => { k with pc := v })

/-- The address after an instruction of `len` bytes. -/
def State.nextPc (s : State) (p len : Nat) : Word := s.pcNow p + BitVec.ofNat 32 len

/-- The instruction has issued in `n` slots and the core moves to the next: past it, or to the target of the branch whose
second delay slot it was (R252); a machine check that waits for the boundary is taken (R288, R307). -/
def State.advance (s : State) (p len n : Nat) : State :=
  let next := s.nextPc p len
  let s := match (s.core p).br with
    | some ⟨k, t⟩ =>
      if k ≤ 1 then (s.setPc p (t.getD next)).modCore p (fun c => { c with br := none })
      else (s.setPc p next).modCore p (fun c => { c with br := some ⟨k - 1, t⟩ })
    | none => s.setPc p next
  (s.slots p n).takeBoundary p

/-- Writes of core p to registers that the interconnect has accepted are performed, in order (R281). While they are, the
core has an access outstanding, so that a reset of it among them is seen: the answer is false then. -/
def State.deliverRegs (s : State) (p : Nat) : Bool × State :=
  let keep := (s.core p).pload
  let es := (s.core p).posted
  let s := s.modCore p (fun c => { c with
    posted := c.posted.filter (fun e => areaOf e.addr ≠ .periph)
    pload := some (keep.getD ⟨0xF0000000, 4, false, .g 0 0, 0⟩) })
  let s := s.each (es.filter (fun e => areaOf e.addr = .periph)) (fun s e => s.regEffect e.addr (wordOfLe e.bytes))
  if (s.core p).pload.isSome then (true, s.modCore p (fun c => { c with pload := keep })) else (false, s)

/-- What reading a word gives. -/
inductive Got where
  /-- the word. -/
  | val (w : Word)
  /-- an uncorrectable error (R288). -/
  | bad
  /-- the core was reset meanwhile (R333). -/
  | gone
  /-- the flash is busy and the read waits (R380). -/
  | waits
deriving DecidableEq, Repr

/-- The word of an access beyond the core's own buffers, with the writes that go before it performed: a read of a register or
of MRAM follows every older store of the core (R283). -/
def State.farWord (s : State) (p a : Nat) : Got × State :=
  if areaOf a = .periph then
    match s.deliverRegs p with
    | (false, s) => (.gone, s)
    | (true, s) =>
      let r := s.regRead (s.tenantCore p) a
      (.val r.1, r.2)
  else
    match (if areaOf a = .mram then s.deliverRegs p else (true, s)) with
    | (false, s) => (.gone, s)
    | (true, s) =>
      match (s.deliverMem p).portWord p a with
      | (some v, s) => (.val v, s)
      | (none, s) => (.bad, s)

/-- The `n` bytes at an address at once, from the youngest covering store where the access may take them from there
(R282, R283). -/
def State.readNow (s : State) (p a n : Nat) (forward : Bool) : Got × State :=
  let far := areaOf a = .periph ∨ areaOf a = .mram
  if s.flashWaits a then (.waits, s) else
  let s := s.flashServe a
  let s := if far then s.retireN p (s.core p).sb.length else s
  if far then
    match s.farWord p a with
    | (.val v, s) => (.val (BitVec.ofNat 32 (pickBytes v a n)), s)
    | r => r
  else if forward then
    match s.loadMem p a n with
    | (some v, s) => (.val (BitVec.ofNat 32 v), s)
    | (none, s) => (.bad, s)
  else
    match s.loadPort p a with
    | (some v, s) => (.val (BitVec.ofNat 32 (pickBytes v a n)), s)
    | (none, s) => (.bad, s)

/-- What a load of `n` bytes leaves in a register (R225). -/
def extended (v : Word) (n : Nat) (signed : Bool) : Word :=
  if signed then wordOf (sext (8 * n) v.toNat) else BitVec.ofNat 32 (v.toNat % 2 ^ (8 * n))

/-- The fault address of a code (R329): the address for alignment, access, machine-check and interconnect faults. -/
def faultAddr (code a : Nat) : Word := if [4, 5, 10, 11, 14].contains code then BitVec.ofNat 32 a else 0

/-- The response to the outstanding load of core p: the data land three slots after the load's (R264, R280), or the
exception the error raises (R288, R326); a read of the flash window waits for its operation (R380). False where the load
does not complete. -/
def State.finishLoad (s : State) (p : Nat) (good : Bool) : Bool × State :=
  match (s.core p).pload with
  | none => (true, s)
  | some l =>
    let drop (s : State) := s.modCore p (fun c => { c with pload := none })
    if !good then (false, (drop s).flashResume.takeException p 14 0 (BitVec.ofNat 32 l.addr) (s.pcNow p))
    else if s.flashWaits l.addr then (false, s)
    else match (s.flashServe l.addr).farWord p l.addr with
      | (.bad, s) => (false, (drop s).takeException p 10 0 (BitVec.ofNat 32 l.addr) (s.pcNow p))
      | (.val w, s) =>
        let v := extended (BitVec.ofNat 32 (pickBytes w l.addr l.width)) l.width l.signed
        (true, (((drop s).flashResume.result p 3 l.dest v).advance p l.len 1))
      | (_, s) => (false, s)

/-- A load into a register (R247, R250): at once from local RAM, the boot ROM or a buffered store; else the access goes out
and the core stands at the load until the response. With `now` the response is waited for at once. -/
def State.load (s : State) (p a n : Nat) (signed : Bool) (d : Dest) (len : Nat) (now : Bool) : PyRes :=
  let code := s.dataCheck p (s.tenantCore p) (s.userCore p) a n .load
  if code ≠ 0 then .exc code 0 (faultAddr code a) s
  else
    let ar := areaOf a
    let hit := match youngest (s.core p).sb a n with
      | some e => coversAll e a n
      | none => false
    let near := ar == .loc || ar == .rom || (hit && ar != .periph && ar != .mram)
    if near || now then
      match s.readNow p a n true with
      | (.val v, s) => .ok 1 (s.result p 3 d (extended v n signed))
      | (.bad, s) => .exc 10 0 (BitVec.ofNat 32 a) s
      | (_, s) => .stay s
    else
      let s := if ar == .flash then s.setSusp true else s
      let s := if ar == .periph || ar == .mram then s.retireN p (s.core p).sb.length else s.retireOverlap p a n
      .stay (s.modCore p (fun c => { c with pload := some ⟨a, n, signed, d, len⟩ }))

/-- The code that a store of `v` raises, 0 none, with the violation flag it sets (R8, R232): the checks of any store, then
the rights of the register written. -/
def State.storeCheck (s : State) (p a n : Nat) (v : Word) : Nat × State :=
  let code := s.dataCheck p (s.tenantCore p) (s.userCore p) a n .store
  if (code = 0 ∨ code = 2) ∧ areaOf a = .periph ∧ s.tenantCore p ∧ s.violates p a v then (3, s.secv a) else (code, s)

/-- A store of the low `n` bytes of a word (R247, R281). -/
def State.store (s : State) (p a n : Nat) (v : Word) : PyRes :=
  match s.storeCheck p a n v with
  | (0, s) => .ok 1 (s.pushStore p ⟨a, leBytes n v.toNat, s.tenantCore p⟩)
  | (code, s) => .exc code 1 (faultAddr code a) s

/-- The code and fault address of a stack access of `n` bytes, 0 none (R230, R239, R329). -/
def State.stackFault (s : State) (p : Nat) (push : Bool) (sp n : Nat) : Nat × Word :=
  let t := s.tenantCore p
  let u := s.userCore p
  let a := if push then sp - n else sp
  let c := s.stackCheck p t u push sp n
  if c = 6 then (6, BitVec.ofNat 32 sp)
  else if c ≠ 0 then (c, faultAddr c a)
  else
    let k : AccKind := if push then .store else .load
    match ((List.range (n / 4)).map (fun i => (s.dataCheck p t u (a + 4 * i) 4 k, a + 4 * i))).find? (fun x => x.1 ≠ 0) with
    | some x => (x.1, faultAddr x.1 x.2)
    | none => (0, 0)

/-- The code a fetch of the byte at an address raises, 0 none (R230, R231). -/
def State.fetchCode (s : State) (p a : Nat) : Nat :=
  let t := s.tenantCore p
  match areaOf a with
  | .peer _ => if t then 3 else 4
  | .rom => if t then 3 else if s.userCore p && !s.regionOk p t true a .fetch then 4 else 0
  | .loc => if (t || s.userCore p) && !s.regionOk p t (s.userCore p) a .fetch then 4 else 0
  | .sys => if (t || s.userCore p) && !s.regionOk p t (s.userCore p) a .fetch then 4 else 0
  | .flash => if (t || s.userCore p) && !s.regionOk p t (s.userCore p) a .fetch then 4 else 0
  | _ => 4

/-- A checked word as a fetch reads it: stores and merges of its bytes drain first (R268, R284); false where it is
uncorrectable. -/
def State.fetchWord (s : State) (p a : Nat) : Bool × State :=
  match areaOf a with
  | .loc =>
    match (s.retireOverlap p a 4).portWord p a with
    | (some _, s) => (true, s)
    | (none, s) => (false, s)
  | .sys =>
    let s := s.retireOverlap p a 4
    let s := if (s.core p).posted.any (fun e => overlaps e a 4) then s.deliverMem p else s
    match s.portWord p a with
    | (some _, s) => (true, s)
    | (none, s) => (false, s)
  | _ => (true, s)

/-- The fetch of `len` bytes at the program counter waits for the flash (R380). -/
def State.fetchWaits (s : State) (p len : Nat) : Bool := (List.range len).any (fun i => s.flashWaits ((s.pcNow p).toNat + i))

/-- The fetch of an instruction of `len` bytes at the program counter: the code and address of the fault it raises, 0 none.
Words are read in aligned pairs (R270); only a word that the instruction needs raises the machine check (R288). -/
def State.fetch (s : State) (p len : Nat) : Nat × Word × State :=
  let a := (s.pcNow p).toNat
  match (List.range len).find? (fun i => s.fetchCode p (a + i) ≠ 0) with
  | some i => (s.fetchCode p (a + i), faultAddr (s.fetchCode p (a + i)) (a + i), s)
  | none =>
    let s := s.flashServe a
    let lo := a / 8 * 8
    let words := (List.range (2 * ((a + len - 1) / 8 - a / 8 + 1))).map (fun i => lo + 4 * i)
    let r := words.foldl (fun (x : Option Nat × State) w =>
      let g := x.2.fetchWord p w
      (if g.1 || !(decide (w < a + len) && decide (a < w + 4)) || x.1.isSome then x.1 else some w, g.2)) (none, s)
    match r.1 with
    | some w => (11, BitVec.ofNat 32 w, r.2)
    | none => (0, 0, r.2)

/-- An instruction behaves as with DET (R263); a write of DETM counts once its MTSR has left stage W (R223). -/
def State.det (s : State) (o : PyOp) : Bool := o.pfx.det || (s.core o.p).detWas.getD (s.on (CORE_CTL.DETM o.p))

/-- A long operation starts; with DET it finishes before anything else issues (R255, R256, R263). -/
def State.startLong (s : State) (o : PyOp) (l : LongOp) : State :=
  let s := s.modCore o.p (fun c => { c with long := c.long ++ [l] })
  if s.det o then s.finishLong o.p l else s

/-- A system register of the Keeper world (R222, R338). -/
def sysKeeper (n : Nat) : Bool :=
  (decide (0x005 ≤ n) && decide (n ≤ 0x008)) || (decide (0x010 ≤ n) && decide (n ≤ 0x019))
    || (decide (0x020 ≤ n) && decide (n ≤ 0x043)) || [0x048, 0x049, 0x04A, 0x04C].contains n
    || (decide (0x050 ≤ n) && decide (n ≤ 0x056))

/-- XLINK of a bank (R338). -/
def linkWord (l : Link) : Word :=
  BitVec.ofNat 32 (b2n l.valid * 2 ^ 31 + l.rbank * 2 ^ 16 + b2n l.rw * 2 ^ 15 + b2n l.rl * 2 ^ 14 + l.rpri)

/-- A system register as its core reads it (R222, R338). -/
def State.sysRead (s : State) (p n : Nat) : Word :=
  let k := s.bankOf p (s.core p).bank
  let a := 0x100000000 + 0x1000 * p + n
  if n = 0x000 then k.status
  else if n = 0x001 then k.prog
  else if n = 0x003 then (s.core p).fpsr
  else if s.tenantCore p && sysKeeper n then 0
  else if n = 0x048 then k.cause
  else if n = 0x049 then k.xaddr
  else if n = 0x04A then k.link.dtgt
  else if n = 0x04C then linkWord k.link
  else if (regAt a).isSome then s.rd a
  else 0

/-- The bits of STATUS that a write changes and their value (R220, R221): the flags; at supervisor level FPEN and a legal
MTH too, which a Tenant write holds at the floor. -/
def State.statusWrite (s : State) (p : Nat) (v : Word) : Word × Word :=
  if s.userCore p then (0x1F, v)
  else if 16 < stMth v then (0x801F, v)
  else
    let fl := s.get (TFLOOR.FLOOR p)
    let m := if s.tenantCore p && decide (stMth v < fl) then fl else stMth v
    (0x1F801F, putBits v 20 16 m)

/-- The code that an MTSR of `v` to system register `n` raises, 0 none (R222, R224). -/
def State.mtsrCode (s : State) (p n : Nat) (v : Word) : Nat :=
  if s.tenantCore p && (sysKeeper n || (n == 0x002 && !s.bit (BANK_OWN p) (getBits v 3 0))) then 3
  else if s.userCore p && !(n == 0x000 || n == 0x003) then 2
  else 0

/-- A permitted MTSR: its result is due three slots on (R223, R264). -/
def State.mtsr (s : State) (p n : Nat) (v : Word) : State :=
  let b := (s.core p).bank
  if n = 0x000 then
    let m := s.statusWrite p v
    s.result p 3 (.status b m.1) m.2
  else if n = 0x001 then s.result p 3 (.prog b) v
  else if n = 0x003 then s.result p 3 .fpsr v
  else s.result p 3 (.sys n) v

/-- The code that an access to the window bank raises, 0 none (R224, R228). -/
def State.winCode (s : State) (p : Nat) : Nat :=
  if s.tenantCore p && !s.bit (BANK_OWN p) (s.get (BWIN.BANK p)) then 3
  else if s.userCore p then 2
  else 0

/-- A word of the frame of the context that a link returns to, as POP reads it (R306): in the peripheral region a register, read
only where the pop passes its check, else memory as a load of the core reads it. -/
def State.frameWord (s : State) (p : Nat) (lk : Link) (a : Nat) : Got × State :=
  if areaOf a = .periph then
    if (s.frameFault p lk.rw lk.rl false (s.gReg p lk.rbank 15).toNat).isSome then (.bad, s)
    else match (s.retireN p (s.core p).sb.length).deliverRegs p with
      | (false, s) => (.gone, s)
      | (true, s) =>
        let r := s.regRead lk.rw a
        (.val r.1, r.2)
  else s.readNow p a 4 true

/-- The exit sequence of core p waits for the flash: the frame lies in its window (R380). -/
def State.frameWaits (s : State) (p : Nat) : Bool :=
  let lk := (s.bankOf p (s.core p).bank).link
  let sp := (s.gReg p lk.rbank 15).toNat
  lk.valid && (s.flashWaits sp || s.flashWaits (sp + 4))

/-- THE EXIT SEQUENCE (R306, R324): CHECK reads MTH from the frame, and a request that would preempt the context returned to
is entered directly, with no pop and so no check of the frame; else the frame is checked and popped and the interrupted
context returns; without a valid link the core goes idle, and bank 1 holds the base context no longer. `at_` is the address
of the instruction that exits. A register read by the pop may reset the core, which then does nothing further (R333). -/
def State.leave (s : State) (p : Nat) (at_ : Word) : State :=
  let s := s.landAll p
  let c := s.core p
  let lk := (s.bankOf p c.bank).link
  if !lk.valid then
    let s := s.modCore p (fun c => { c with live := false, base := c.base && c.bank != 1 })
    match s.winner p 16 16 with
    | some rq => s.enterBest p 16 16 rq none
    | none => (s.modCore p (fun c => { c with br := none })).showCore p
  else
    let sp := (s.gReg p lk.rbank 15).toNat
    let (of, s) := s.frameWord p lk (sp + 4)
    let mth := match of with
      | .val v => stMth v
      | _ => 0
    match s.winner p lk.rpri mth with
    | some rq => s.enterBest p lk.rpri mth rq (some lk)
    | none =>
      let failed (s : State) (a : Nat) := s.escalate p 5 .exit lk.rbank at_ (BitVec.ofNat 32 a)
      match s.frameFault p lk.rw lk.rl false sp with
      | some a => failed s a
      | none =>
        let (op, s) := s.frameWord p lk sp
        match of, op with
        | .val fl, .val rpc =>
          let fp := s.on (FPOWN.VALID p) && s.get (FPOWN.BANK p) == lk.rbank
          let s := s.modBank p c.bank (fun k => { k with link := {} })
          let s := s.modBank p lk.rbank (fun k => { k with
            g := modNth k.g 15 (fun _ => BitVec.ofNat 32 (sp + 8))
            pc := rpc
            status := mkStatus lk.rw lk.rl lk.rbank lk.rpri (if stMth fl ≤ 16 then stMth fl else stMth k.status)
              ||| BitVec.ofNat 32 (b2n fp * 2 ^ 15 + getBits fl 4 0) })
          let s := s.slotMove p lk.rbank 5 4
          (s.modCore p (fun k => { k with
            bank := lk.rbank
            waiting := false
            br := if lk.dcnt = 0 then none else some ⟨lk.dcnt, some lk.dtgt⟩
            fq := [] })).showCore p
        | .bad, _ => failed s (sp + 4)
        | _, .bad => failed s sp
        | _, _ => s

end Sys2Proof.Machine
end

