-- ==== Sys2Proof/Machine/Softfloat.lean ====
section
/-! DEFINITION. IEEE 754 binary32 arithmetic on exact integers times powers of two, with rounding and the flags of FPSR (R227, R250, R255). -/

namespace Sys2Proof.Machine

/-- FPSR.NV (R227). -/
def fpNV : Word := 16
/-- FPSR.DZ. -/
def fpDZ : Word := 8
/-- FPSR.OF. -/
def fpOF : Word := 4
/-- FPSR.UF. -/
def fpUF : Word := 2
/-- FPSR.NX. -/
def fpNX : Word := 1

/-- The result of an invalid operation (R227). -/
def qNaN : Word := 0x7FC00000

/-- The exponent field. -/
def fExp (w : Word) : Nat := getBits w 30 23

/-- The fraction field. -/
def fFrac (w : Word) : Nat := getBits w 22 0

/-- The sign bit. -/
def fNeg (w : Word) : Bool := wbit w 31

/-- A NaN. -/
def fIsNaN (w : Word) : Bool := fExp w == 255 && fFrac w != 0

/-- A signalling NaN: the leading fraction bit is 0. -/
def fIsSNaN (w : Word) : Bool := fIsNaN w && !wbit w 22

/-- An infinity. -/
def fIsInf (w : Word) : Bool := fExp w == 255 && fFrac w == 0

/-- A zero. -/
def fIsZero (w : Word) : Bool := fExp w == 0 && fFrac w == 0

/-- The integer of a finite number, whose value is that times 2 to `fPow`. -/
def fMant (w : Word) : Nat := if fExp w = 0 then fFrac w else fFrac w + 2 ^ 23

/-- The power of two of a finite number. -/
def fPow (w : Word) : Int := if fExp w = 0 then -149 else (fExp w : Int) - 150

/-- The signed integer of a finite number. -/
def fInt (w : Word) : Int := if fNeg w then -(fMant w : Int) else (fMant w : Int)

/-- A sign bit. -/
def fSign (neg : Bool) : Word := if neg then 0x80000000 else 0

/-- An infinity with a sign. -/
def fInf (neg : Bool) : Word := fSign neg ||| 0x7F800000

/-- A zero with a sign. -/
def fZero (neg : Bool) : Word := fSign neg

/-- The quiet NaN that an operation on quiet NaNs returns: IEEE 754 leaves sign and payload open (R227; log entry 15). -/
def fPropagate (a b : Word) : Word := qNaN ||| (Config.nanPayload a b &&& 0x803FFFFF)

/-- Whether a magnitude with `rem` left out of `2 * half` rounds away from zero: modes 0 nearest-even, 1 towards zero,
2 towards plus infinity, 3 towards minus infinity (R227). -/
def roundsUp (rm : Nat) (neg odd : Bool) (rem half : Nat) : Bool :=
  match rm with
  | 0 => decide (half < rem) || (rem == half && odd)
  | 1 => false
  | 2 => !neg && rem != 0
  | _ => neg && rem != 0

/-- A magnitude m·2^e rounded to a multiple of 2^q, and whether that was inexact. -/
def roundTo (rm : Nat) (neg : Bool) (m : Nat) (e q : Int) : Nat × Bool :=
  if q ≤ e then (m * 2 ^ (e - q).toNat, false)
  else
    let k := (q - e).toNat
    let t := m / 2 ^ k
    let r := m % 2 ^ k
    (t + b2n (roundsUp rm neg (t % 2 == 1) r (2 ^ (k - 1))), r != 0)

/-- The power of two of the leading bit of m·2^e. -/
def leadPow (m : Nat) (e : Int) : Int := e + (Nat.log2 m : Int)

/-- A nonzero exact magnitude m·2^e, or one whose lowest bit stands for a remainder, rounded to binary32 (R227). -/
def roundPack (rm : Nat) (neg : Bool) (m : Nat) (e : Int) : Word × Word :=
  if m = 0 then (fZero neg, 0)
  else
    let lead := leadPow m e
    let q := max (lead - 23) (-149)
    let r := roundTo rm neg m e q
    let big := decide (2 ^ 24 ≤ r.1)
    let mm := if big then r.1 / 2 else r.1
    let ex := (if big then q + 1 else q) + 150
    if 255 ≤ ex ∧ 2 ^ 23 ≤ mm then
      let toInf := rm == 0 || (rm == 2 && !neg) || (rm == 3 && neg)
      (if toInf then fInf neg else fSign neg ||| 0x7F7FFFFF, fpOF ||| fpNX)
    else
      let v := if mm < 2 ^ 23 then mm else ex.toNat * 2 ^ 23 + (mm - 2 ^ 23)
      let tinyAfter := decide (lead < -126) && !(lead == -127 && decide (2 ^ 24 ≤ (roundTo rm neg m e (lead - 23)).1))
      let tiny := if Config.tinyBefore then decide (lead < -126) else tinyAfter
      (fSign neg ||| BitVec.ofNat 32 v, if r.2 then (if tiny then fpUF ||| fpNX else fpNX) else 0)

/-- The result where an operand is a NaN: invalid for a signalling one (R227). -/
def fNaNs (a b : Word) : Word × Word := if fIsSNaN a || fIsSNaN b then (qNaN, fpNV) else (fPropagate a b, 0)

/-- An invalid operation (R227). -/
def fInvalid : Word × Word := (qNaN, fpNV)

/-- FADD (R250). -/
def faddOf (rm : Nat) (a b : Word) : Word × Word :=
  if fIsNaN a || fIsNaN b then fNaNs a b
  else if fIsInf a && fIsInf b then (if fNeg a == fNeg b then (a, 0) else fInvalid)
  else if fIsInf a then (a, 0)
  else if fIsInf b then (b, 0)
  else
    let e := min (fPow a) (fPow b)
    let x := fInt a * 2 ^ (fPow a - e).toNat + fInt b * 2 ^ (fPow b - e).toNat
    if x = 0 then (fZero (if fNeg a == fNeg b then fNeg a else rm == 3), 0)
    else roundPack rm (decide (x < 0)) x.natAbs e

/-- FSUB (R250): a − b is a + (−b), but that a NaN is taken as it stands. -/
def fsubOf (rm : Nat) (a b : Word) : Word × Word :=
  if fIsNaN a || fIsNaN b then fNaNs a b else faddOf rm a (b ^^^ 0x80000000)

/-- FMUL (R250). -/
def fmulOf (rm : Nat) (a b : Word) : Word × Word :=
  let neg := fNeg a != fNeg b
  if fIsNaN a || fIsNaN b then fNaNs a b
  else if (fIsInf a && fIsZero b) || (fIsZero a && fIsInf b) then fInvalid
  else if fIsInf a || fIsInf b then (fInf neg, 0)
  else roundPack rm neg (fMant a * fMant b) (fPow a + fPow b)

/-- FDIV (R255): the quotient to 26 bits and more, with one bit for the remainder. -/
def fdivOf (rm : Nat) (a b : Word) : Word × Word :=
  let neg := fNeg a != fNeg b
  if fIsNaN a || fIsNaN b then fNaNs a b
  else if (fIsInf a && fIsInf b) || (fIsZero a && fIsZero b) then fInvalid
  else if fIsInf a then (fInf neg, 0)
  else if fIsInf b || fIsZero a then (fZero neg, 0)
  else if fIsZero b then (fInf neg, fpDZ)
  else
    let n := fMant a * 2 ^ 50
    roundPack rm neg (2 * (n / fMant b) + b2n (n % fMant b != 0)) (fPow a - fPow b - 51)

/-- FSQRT (R255). -/
def fsqrtOf (rm : Nat) (a : Word) : Word × Word :=
  if fIsNaN a then fNaNs a a
  else if fIsZero a then (a, 0)
  else if fNeg a then fInvalid
  else if fIsInf a then (a, 0)
  else
    let odd := fPow a % 2 == 1
    let m := (if odd then 2 * fMant a else fMant a) * 2 ^ 52
    let e := (if odd then fPow a - 1 else fPow a) - 52
    let r := isqrtFrom m 40 0
    roundPack rm false (2 * r + b2n (r * r != m)) (e / 2 - 1)

/-- a is below b, neither a NaN; −0 counts as below +0 where `zeros` says so. -/
def fBelow (zeros : Bool) (a b : Word) : Bool :=
  if fIsZero a && fIsZero b then zeros && fNeg a && !fNeg b
  else if fNeg a != fNeg b then fNeg a
  else if fNeg a then decide (b.toNat < a.toNat)
  else decide (a.toNat < b.toNat)

/-- FMIN and FMAX (R250): a single NaN yields the other operand. -/
def fminmaxOf (isMax : Bool) (a b : Word) : Word × Word :=
  let fl := flagIf (fIsSNaN a || fIsSNaN b) fpNV
  if fIsNaN a && fIsNaN b then fNaNs a b
  else if fIsNaN a then (b, fl)
  else if fIsNaN b then (a, fl)
  else (if fBelow true a b != isMax then a else b, 0)

/-- FCMP (R250): the STATUS flags N, Z, C, V and the FPSR flags. -/
def fcmpOf (a b : Word) : Word × Word :=
  if fIsNaN a || fIsNaN b then (stV, flagIf (fIsSNaN a || fIsSNaN b || Config.fcmpSignals) fpNV)
  else if fBelow false a b then (stN, 0)
  else if fBelow false b a then (stC, 0)
  else (stZ ||| stC, 0)

/-- FCVTI (R250): rounded under RM; out of range and NaN by sign, with NV. -/
def fcvtiOf (rm : Nat) (a : Word) : Word × Word :=
  let sat := (if fNeg a then (0x80000000 : Word) else 0x7FFFFFFF, fpNV)
  if fExp a = 255 then sat
  else
    let r := roundTo rm (fNeg a) (fMant a) (fPow a) 0
    let x : Int := if fNeg a then -(r.1 : Int) else (r.1 : Int)
    if fits32 x then (wordOf x, flagIf r.2 fpNX) else sat

/-- FCVTF (R250). -/
def fcvtfOf (rm : Nat) (v : Word) : Word × Word := roundPack rm (wbit v 31) (sword v).natAbs 0

end Sys2Proof.Machine
end

