-- ==== Sys2Proof/Machine/Microseq.lean ====
section
/-! DEFINITION. The microsequencer: operand selectors, what each microword does, the run of an instruction or a service sequence from its dispatch word, and the fallback after a word that is not executed (R293 to R301, R307; log entry 69). -/

namespace Sys2Proof.Machine

/-- A microprogram in progress. -/
structure Mseq where
  s : State
  /-- the instruction, and its core. -/
  o : PyOp
  /-- its code. -/
  c : Nat
  /-- the address of the next microword. -/
  at_ : Nat
  /-- the temporaries T0 to T7 (R294). -/
  t : List Word
  /-- the operand bank that OBANK has named (R294). -/
  ob : Option Nat := none
  /-- the micro-return stack, newest first (R293). -/
  stk : List Nat := []
  /-- port accesses so far, one issue slot each (R276). -/
  acc : Nat := 0
  /-- the program counter of the executing bank has been written. -/
  jumped : Bool := false
  /-- the fetch queue has been discarded. -/
  refetched : Bool := false
deriving DecidableEq, Repr

/-- How a microprogram leaves its last microword. -/
inductive MicroEnd where
  /-- SEQ END. -/
  | ended (m : Mseq)
  /-- an exception: code, INFO and fault address. -/
  | exc (code info : Nat) (addr : Word) (s : State)
  /-- one that records the next instruction (R326): code and INFO. -/
  | trap (code info : Nat) (s : State)
  /-- a word that is not executed, at its micro-address: ILL or failing parity (R307). -/
  | fault (a : Nat) (ill : Bool) (s : State)
  /-- the core stands at the instruction: a FABRIC wait goes on (R298), or the core has been reset meanwhile. -/
  | stand (s : State)

/-- After one microword. -/
inductive MicroStep where
  | go (m : Mseq)
  | stop (e : MicroEnd)

/-- The operand bank (R294). -/
def Mseq.bank (m : Mseq) : Nat := m.ob.getD (m.s.core m.o.p).bank

/-- The G register that selector 24 to 27 names (R294). -/
def Mseq.field (m : Mseq) (sel : Nat) : Nat :=
  if sel = 24 then m.o.d else if sel = 25 then m.o.s else if sel = 26 then m.o.t else m.o.n

/-- The operand that a selector names, of bank `b` (R294). -/
def Mseq.readIn (m : Mseq) (b sel : Nat) : Word :=
  if sel < 16 then m.s.gReg m.o.p b sel
  else if sel < 24 then nth m.t (sel - 16) 0
  else if sel < 28 then m.s.gReg m.o.p b (m.field sel)
  else if sel = 28 then wordOf (if (layoutOf m.c).disp = 0 then m.o.imm else m.o.disp)
  else if sel = 29 then (m.s.bankOf m.o.p b).pc
  else if sel = 30 then (m.s.bankOf m.o.p b).status
  else (m.s.bankOf m.o.p b).prog

/-- The operand that a selector names. -/
def Mseq.read (m : Mseq) (sel : Nat) : Word := m.readIn m.bank sel

/-- The state changed. -/
def Mseq.map (m : Mseq) (f : State → State) : Mseq := { m with s := f m.s }

/-- Where a result for a selector lands in a bank, if it lands outside the microsequencer. -/
def Mseq.destIn (m : Mseq) (b sel : Nat) : Option Dest :=
  if sel < 16 then some (.g b sel)
  else if sel < 24 then none
  else if sel < 28 then some (.g b (m.field sel))
  else if sel = 30 then some (.status b 0xFFFF801F)
  else if sel = 31 then some (.prog b)
  else none

/-- Where it lands in the operand bank (R294). -/
def Mseq.dest (m : Mseq) (sel : Nat) : Option Dest := m.destIn m.bank sel

/-- A long operation in flight writes what a selector names (R256). -/
def Mseq.busyAt (m : Mseq) (sel : Nat) (l : LongOp) : Bool :=
  match m.dest sel with
  | some (.g b r) => l.results.any (fun x => x.1 == .g b r)
  | some (.status b _) => l.results.any (fun x => match x.1 with
    | .status k _ => k == b
    | _ => false)
  | some d => l.results.any (fun x => x.1 == d)
  | none => false

/-- The microword waits for the registers that its selectors name (R256). -/
def Mseq.settled (m : Mseq) (sels : List Nat) : Mseq :=
  m.map (fun s => s.finishLongs m.o.p (fun l => sels.any (fun sel => m.busyAt sel l)))

/-- A bank holds the register that a result is for. -/
def Dest.inBank (b : Nat) : Dest → Bool
  | .g k _ => k == b
  | .status k _ => k == b
  | .prog k => k == b
  | _ => false

/-- A long operation in flight holds a register or a unit that a microword uses beside its selectors (R256): STATUS, PROG and FPSR
as MFSR and MTSR name them, the F registers of FDIV and FSQRT, and the window bank of a WIN access. -/
def Mseq.holds (m : Mseq) (l : LongOp) : Micro → Bool
  | .sys fn _ imm =>
    let b := (m.s.core m.o.p).bank
    decide (fn < 2) && ((imm == 3 && l.unit == .fpDivider) || (decide (imm < 2) && l.results.any (fun x => match x.1 with
      | .status k _ => imm == 0 && k == b
      | .prog k => imm == 1 && k == b
      | _ => false)))
  | .long fn _ _ _ =>
    (((fn == 6) || (fn == 7)) && l.unit == .fpDivider)
      || (fn == 9 && (l.unit == .window || l.results.any (fun x => x.1.inBank (m.s.get (BWIN.BANK m.o.p)))))
  | _ => false

/-- The selector of the register after the one a selector names, as a pair has it; 28, no register, where there is none. -/
def Mseq.mate (m : Mseq) (sel : Nat) : Nat :=
  if sel < 16 then (sel + 1) % 16
  else if sel < 23 then sel + 1
  else if 24 ≤ sel ∧ sel < 28 then (m.field sel + 1) % 16
  else 28

/-- A result written through a selector; the decoded displacement is no destination, and the result is lost. -/
def Mseq.write (m : Mseq) (sel : Nat) (v : Word) : Mseq :=
  match m.dest sel with
  | some d => m.map (fun s => s.modCore m.o.p (fun c => c.write d v))
  | none =>
    if sel < 24 then { m with t := modNth m.t (sel - 16) (fun _ => v) }
    else if sel = 29 then
      { m.map (fun s => s.modBank m.o.p m.bank (fun k => { k with pc := v })) with
        jumped := m.jumped || m.bank == (m.s.core m.o.p).bank }
    else m

/-- ALU (R245, R293): CMP and TST write no result. -/
def Mseq.alu (m : Mseq) (fn dst sa sb : Nat) (fl : Bool) : Mseq :=
  let b := (m.s.core m.o.p).bank
  let r := aluOp fn false (m.read sa) (m.read sb) (wbit (m.s.status m.o.p) 1)
  let m := if fn = 9 ∨ fn = 10 then m else m.write dst r.res
  if fl then m.map (fun s => s.modCore m.o.p (fun c => c.write (.status b r.mask) r.flags)) else m

/-- The stack-limit check of a MEM word with CHK (R239), and then the checks of the access (R230, R231): code and fault
address. -/
def Mseq.memCode (m : Mseq) (chk push : Bool) (sp a n : Nat) (store : Bool) : Nat × Word :=
  let p := m.o.p
  let t := m.s.tenantCore p
  let u := m.s.userCore p
  let c := if chk then m.s.stackCheck p t u push sp n else 0
  if c = 6 then (6, BitVec.ofNat 32 sp)
  else if c ≠ 0 then (c, faultAddr c a)
  else
    let d := m.s.dataCheck p t u a n (if store then .store else .load)
    (d, faultAddr d a)

/-- A MEM read of `n` bytes (R293): `k` takes what it leaves. -/
def Mseq.memRead (m : Mseq) (chk : Bool) (sp a n : Nat) (sx : Bool) (k : Mseq → Word → Mseq) : MicroStep :=
  let c := m.memCode chk false sp a n false
  if c.1 ≠ 0 then .stop (.exc c.1 0 c.2 m.s)
  else match m.s.readNow m.o.p a n true with
    | (.val v, s) => .go (k { m with s := s, acc := m.acc + 1 } (extended v n sx))
    | (.bad, s) => .stop (.exc 10 0 (BitVec.ofNat 32 a) s)
    | (_, s) => .stop (.stand s)

/-- A MEM write of `n` bytes. -/
def Mseq.memWrite (m : Mseq) (chk push : Bool) (sp a n : Nat) (v : Word) (k : Mseq → Mseq) : MicroStep :=
  let p := m.o.p
  let c := m.memCode chk push sp a n true
  if c.1 ≠ 0 then .stop (.exc c.1 1 c.2 m.s)
  else match m.s.storeCheck p a n v with
    | (0, s) =>
      .go (k { m with s := s.pushStoreAt p m.acc ⟨a, leBytes n v.toNat, s.tenantCore p⟩, acc := m.acc + 1 })
    | (code, s) => .stop (.exc code 1 (faultAddr code a) s)

/-- A condition of BR (R295). -/
def Mseq.cond (m : Mseq) (c : Nat) : Bool := m.s.microCond m.o.p c

/-- The long-operation unit of a number, in the order of R255. -/
def unitNo : Nat → LUnit
  | 0 => .divider
  | 1 => .cordic
  | 2 => .fpDivider
  | 3 => .mac
  | _ => .window

/-- WAIT (R298). -/
def Mseq.wait (m : Mseq) (wc arg : Nat) : MicroStep :=
  let p := m.o.p
  let drained (s : State) := (s.retireN p (s.core p).sb.length).flushMerge p
  match wc with
  | 0 => .go (m.map (fun s => s.finishLongs p (fun l => l.unit == unitNo arg)))
  | 1 => .go (m.map drained)
  | 2 => match ((drained m.s).deliverMem p).deliverRegs p with
    | (true, s) => .go { m with s := s }
    | (false, s) => .stop (.stand s)
  | 3 => if m.s.on (EVF_CON.PEND (drvIn p (arg / 4 + 1) (arg % 4))) then .go m else .stop (.stand m.s)
  | 4 => .go (m.map (fun s => s.finishLongs p (fun l => l.bank == arg)))
  | _ => .go (m.map (fun s => s.landAll p))

/-- The link in the layout of XLINK (R338). -/
def linkOf (v : Word) (old : Link) : Link :=
  { old with
    valid := wbit v 31
    rbank := getBits v 19 16
    rw := wbit v 15
    rl := wbit v 14
    rpri := getBits v 4 0 }

/-- SYS MFSR and MTSR: the checks of R222 as the instructions have them, no window. -/
def Mseq.sysReg (m : Mseq) (write : Bool) (reg n : Nat) : MicroStep :=
  let p := m.o.p
  let s := m.s
  let v := m.read reg
  let n := n % 0x1000
  if !write then
    if s.userCore p && !([0x000, 0x001, 0x003, 0x004].contains n) then .stop (.exc 2 3 0 s)
    else .go (m.write reg (s.sysRead p n))
  else
    let code := s.mtsrCode p n v
    if code ≠ 0 then .stop (.exc code 3 0 s) else .go (m.map (fun s => s.mtsr p n v))

/-- LATCH (R296): the highest eligible request is latched, its vector into T6, its world, level, bank and priority into T7
in the places they have in STATUS; with none the sequence ends (R305). -/
def Mseq.latch (m : Mseq) : MicroStep :=
  let p := m.o.p
  match m.s.eligible p with
  | none => .stop (.ended m)
  | some rq =>
    let e := m.s.entryOf p rq
    let vec := e.pc.getD (m.s.bankOf p e.bank).pc
    let m := m.map (fun s => s.latch p rq)
    .go { m with t := modNth (modNth m.t 6 (fun _ => vec)) 7 (fun _ => mkStatus e.w e.l e.bank e.pri 0) }

/-- SYS (R296). EXC 6 records G15 of the faulting context (R329). -/
def Mseq.sys (m : Mseq) (fn reg imm : Nat) : MicroStep :=
  let p := m.o.p
  match fn with
  | 0 => m.sysReg false reg imm
  | 1 => m.sysReg true reg imm
  | 2 => m.latch
  | 3 =>
    let b := (m.read reg).toNat % 16
    .go (m.map (fun s => ((s.modCore p (fun c => { c with bank := b })).modBank p b (fun k => { k with
      status := k.status &&& 0xFFFF7FFF })).showCore p))
  | 4 => .go (m.write reg (linkWord (m.s.bankOf p m.bank).link))
  | 5 =>
    let v := m.read reg
    .go (m.map (fun s => s.modBank p m.bank (fun k => { k with link := linkOf v k.link })))
  | 6 => .go { m with ob := some ((m.read reg).toNat % 16) }
  | 7 => .go { m.map (fun s => s.modCore p (fun c => { c with fq := [] })) with refetched := true }
  | _ =>
    if imm = 8 ∨ imm = 9 then .stop (.trap imm m.o.imm.toNat m.s)
    else if imm = 12 ∨ imm = 13 then .stop (.trap imm 3 m.s)
    else if imm = 6 then .stop (.exc 6 3 (m.s.gNow p 15) m.s)
    else .stop (.exc imm 3 0 m.s)

/-- A long operation's results: through the unit into registers of the operand bank with busy bits, else into temporaries at
once (R256, R298). -/
def Mseq.startLong (m : Mseq) (u : LUnit) (rs : List (Nat × Word)) : Mseq :=
  let b := m.bank
  let land := rs.filterMap (fun r => (m.dest r.1).map (fun d => (d, r.2)))
  let m := rs.foldl (fun m r => if (m.dest r.1).isNone then m.write r.1 r.2 else m) m
  m.map (fun s => (s.finishLongs m.o.p (fun l => l.unit == u)).startLong m.o ⟨u, b, land, 0⟩)

/-- A WIN access of LONG (R255, R260): that of the instruction the microprogram belongs to: a write of the window register that the
destination names under MOV form 3, of STATUS or PROG of the window bank under MTSR, a read of them under MFSR, else a read of the
window register that the operand names (log entry 69). -/
def Mseq.win (m : Mseq) (dst sb : Nat) : MicroStep :=
  let p := m.o.p
  let code := m.s.winCode p
  let w := m.s.get (BWIN.BANK p)
  let v := m.read sb
  let put (d : Dest) (v : Word) : MicroStep :=
    .go (m.map (fun s => s.startLong m.o ⟨.window, (s.core p).bank, [(d, v)], 0⟩))
  if code ≠ 0 then .stop (.exc code 3 0 m.s)
  else if m.c = 0x2F then (match m.destIn w dst with
    | some d => put d v
    | none => .go (m.startLong .window [(dst, v)]))
  else if m.c = 0x91 then
    if sysNo m.o = 0 then put (.status w (m.s.statusWrite p v).1) (m.s.statusWrite p v).2 else put (.prog w) v
  else if m.c = 0x90 then
    .go (m.startLong .window [(dst, if sysNo m.o = 0 then (m.s.bankOf p w).status else (m.s.bankOf p w).prog)])
  else .go (m.startLong .window [(dst, m.readIn w sb)])

/-- LONG (R255, R293): the operations in the order of R255's table; that of VMAC adds the product of its operands to the pair
of its destination (log entry 69). -/
def Mseq.long (m : Mseq) (fn dst sa sb : Nat) : MicroStep :=
  let p := m.o.p
  let a := m.read sa
  let b := m.read sb
  let rm := getBits (m.s.core p).fpsr 9 8
  let fp (r : Word × Word) : MicroStep :=
    .go (m.map (fun s => (s.finishLongs p (fun l => l.unit == .fpDivider)).startLong m.o
      ⟨.fpDivider, (s.core p).bank, [(.f m.o.d, r.1)], r.2⟩))
  let pair (u : LUnit) (r : Word × Word) : MicroStep := .go (m.startLong u [(dst, r.1), (m.mate dst, r.2)])
  match fn with
  | 0 => .go (m.startLong .divider [(dst, divOf a b)])
  | 1 => .go (m.startLong .divider [(dst, divuOf a b)])
  | 2 => .go (m.startLong .divider [(dst, remOf a b)])
  | 3 => .go (m.startLong .divider [(dst, remuOf a b)])
  | 4 => .go (m.startLong .divider [(dst, sqrtOf b)])
  | 5 => pair .cordic (if m.o.imm = 0 then cordicSincos b else cordicAtan2 b (m.read (m.mate sb)))
  | 6 => fp (fdivOf rm (m.s.fNow p m.o.d) (m.s.fNow p m.o.s))
  | 7 => fp (fsqrtOf rm (m.s.fNow p m.o.s))
  | 8 =>
    let r := macStep m.o.pfx.sat (sext 64 ((m.read (m.mate dst)).toNat * 2 ^ 32 + (m.read dst).toNat)) a b
    let m := if r.2 then m.map (fun s => s.modCore p (fun c => c.write (.status c.bank stQ) stQ)) else m
    .go (m.startLong .mac [(dst, BitVec.ofNat 32 (wrapN 64 r.1)), (m.mate dst, BitVec.ofNat 32 (wrapN 64 r.1 / 2 ^ 32))])
  | _ => m.win dst sb

/-- The selectors of what a microword reads or writes, STATUS for the flags (R294). -/
def Mseq.sels (m : Mseq) : Micro → List Nat
  | .alu _ dst sa sb fl => [dst, sa, sb] ++ (if fl then [30] else [])
  | .lit dst _ => [dst]
  | .load _ ar dr _ _ _ => [ar, dr]
  | .store _ ar dr _ _ => [ar, dr]
  | .push _ ar dr _ _ => [ar, dr]
  | .pop _ ar dr _ _ _ => [ar, dr]
  | .br _ _ _ => [30, 31]
  | .sys _ reg _ => [reg]
  | .long _ dst sa sb => [dst, m.mate dst, sa, sb, m.mate sb]
  | _ => []

/-- WHAT A MICROWORD DOES (R293 to R298), fetched from address `a`, once the registers it uses are free. -/
def Mseq.act (m : Mseq) (a : Nat) : Micro → MicroStep
  | .ill => .stop (.fault a true m.s)
  | .alu fn dst sa sb fl => .go (m.alu fn dst sa sb fl)
  | .lit dst v => .go (m.write dst (BitVec.ofNat 32 v))
  | .load n ar dr sx _ chk =>
    let x := (m.read ar).toNat
    m.memRead chk x x n sx (fun m v => m.write dr v)
  | .store n ar dr _ chk =>
    let x := (m.read ar).toNat
    m.memWrite chk false x x n (m.read dr) id
  | .push n ar dr _ chk =>
    let sp := m.read ar
    let x := sp - BitVec.ofNat 32 n
    m.memWrite chk true sp.toNat x.toNat n (m.read dr) (fun m => m.write ar x)
  | .pop n ar dr sx _ chk =>
    let sp := m.read ar
    m.memRead chk sp.toNat sp.toNat n sx (fun m v => (m.write ar (sp + BitVec.ofNat 32 n)).write dr v)
  | .br c neg target => .go (if m.cond c != neg then { m with at_ := target } else m)
  | .wait wc arg => m.wait wc arg
  | .done => .stop (.ended m)
  | .call target =>
    if 4 ≤ m.stk.length then .stop (.fault a true m.s) else .go { m with stk := m.at_ :: m.stk, at_ := target }
  | .ret => match m.stk with
    | [] => .stop (.fault a true m.s)
    | r :: rs => .go { m with at_ := r, stk := rs }
  | .sys fn reg imm => m.sys fn reg imm
  | .long fn dst sa sb => m.long fn dst sa sb

/-- A microword with its waits (R256). -/
def Mseq.exec (m : Mseq) (a : Nat) (w : Micro) : MicroStep :=
  ((m.settled (m.sels w)).map (fun s => s.finishLongs m.o.p (fun l => m.holds l w))).act a w

/-- Microwords one after another (R297), at most as many as the number says: a program that never ends leaves the core
standing. -/
def Mseq.run : Nat → Mseq → MicroEnd
  | 0, m => .stand m.s
  | n + 1, m =>
    match m.s.ucFetch m.o.p m.at_ with
    | .bad => .fault m.at_ false m.s
    | .ill => .fault m.at_ true m.s
    | .word v =>
      match ({ m with at_ := (m.at_ + 1) % 2 ^ 15 }).exec m.at_ (microOf v) with
      | .go m => m.run n
      | .stop e => e

/-- THE RUN from dispatch offset `off` of the active store (R301): the dispatch word, then the program it points at. The
temporaries hold nothing the spec states, so they are free. -/
def State.microRun (s : State) (o : PyOp) (c off : Nat) : MicroEnd :=
  let a := s.dispatchAt o.p off
  match s.ucFetch o.p a with
  | .bad => .fault a false s
  | .ill => .fault a true s
  | .word v =>
    match dispatchOf v with
    | none => .fault a true s
    | some t =>
      Mseq.run (2 ^ 26) {
        s := { s with free := s.free + 8 }
        o := o
        c := c
        at_ := t
        t := (List.range 8).map (fun i => Config.freeWord (s.free + i)) }

/-- How the instruction ends whose microprogram has run: past it; at the target written, after two delay slots; or, with
the fetch queue discarded or the bank switched, where the microprogram has put the core (R252, R296). -/
def MicroEnd.res (p bank : Nat) (pc : Word) : MicroEnd → PyRes
  | .ended m =>
    let n := max 1 m.acc
    if m.refetched || (m.s.core p).bank != bank then .left (m.s.slots p n)
    else if m.jumped then .jump (some (m.s.pcNow p)) (m.s.setPc p pc)
    else .ok n m.s
  | .exc code info a s => .exc code info a s
  | .trap code info s => .trap code info s
  | .fault _ _ s => .stay s
  | .stand s => .stay s

/-- The active store holds microcode that Waimond signed: the ROM, with no patch or those that the boot monitor has locked, or
a half with a signed digest (R292, R302). -/
def State.ucSigned (s : State) (p : Nat) : Bool :=
  let act := s.get (UC_STAT.ACT p)
  if act = 0 then s.on (UC_CTL.PLOCK p) || !s.patched p else Config.ucSigned (s.ucDig p act).2

/-- The microprogram from an offset runs without a fault; that of the ROM does, but for its patch words (R302, log entry
69). -/
def State.ucClean (s : State) (o : PyOp) (c off : Nat) : Bool :=
  (s.get (UC_STAT.ACT o.p) == 0 && !s.patched o.p) || match s.microRun o c off with
    | .fault a _ _ => s.inRom o.p a
    | _ => true

/-- The instruction has the meaning this manual gives it (R292): its microcode is Waimond's, and no word of it fails. -/
def State.asManual (s : State) (o : PyOp) (c : Nat) : Bool := s.ucSigned o.p && s.ucClean o c c

/-- THE INSTRUCTION UNDER ITS MICROCODE (R292, R301, R307): the manual's meaning under signed microcode, else what the
stored microprogram does; after a word that is not executed the instruction restarts from the store that takes over. The
number bounds the restarts. -/
def State.perform (o : PyOp) (c : Nat) (body : State → PyRes) : Nat → State → PyRes
  | 0, s => .stay s
  | n + 1, s =>
    if s.asManual o c then body s
    else match s.microRun o c c with
      | .fault a ill t =>
        let u := (if s.ucSigned o.p then s else t).ucFault o.p a ill
        if u.on (DRV_STAT.LOCKED o.p) then .stay u else State.perform o c body n u
      | e => e.res o.p (s.core o.p).bank (s.pcNow o.p)

end Sys2Proof.Machine
end

