-- ==== Sys2Proof/Machine/Issue.lean ====
section
/-! DEFINITION. Issuing an instruction on a Pyhorn core: legality, busy registers, microcode, repetition, how it ends, and the entry of requests (R243, R256, R262, R267, R301, R305, R307, R312). -/

namespace Sys2Proof.Machine

/-- A long operation in flight holds a register that an instruction uses, or the unit it needs (R256). -/
def State.conflicts (s : State) (o : PyOp) (c : Nat) (l : LongOp) : Bool :=
  let b := (s.core o.p).bank
  let w := s.get (BWIN.BANK o.p)
  let wr := winReg o c
  let busy (d : Dest) : Bool := match d with
    | .g k r => (k == b && (gUsed o c).contains r) || (match wr with
      | some (some r', _) => k == w && r == r'
      | _ => false)
    | .f r => (fUsed o c).contains r
    | .status k _ => (k == b && statusUsed o c) || (match wr with
      | some (none, false) => k == w
      | _ => false)
    | .prog k => (k == b && progUsed o c) || (match wr with
      | some (none, true) => k == w
      | _ => false)
    | _ => false
  l.results.any (fun r => busy r.1) || (l.unit == .fpDivider && fpsrUsed o c) || unitOf o c == some l.unit

/-- The units the instruction waits for have finished before it issues (R256, R263). -/
def State.waitUnits (s : State) (o : PyOp) (c : Nat) : State :=
  let s := s.finishLongs o.p (s.conflicts o c)
  if s.det o then s.finishLongs o.p (fun l => l.bank == (s.core o.p).bank) else s

/-- An instruction's end takes effect. -/
def PyRes.finish (p len : Nat) : PyRes → State
  | .ok n s => s.advance p len n
  | .jump t s => (s.setPc p (s.nextPc p len)).modCore p (fun c => { c with br := some ⟨2, t⟩ }) |>.slots p 1
  | .exc code info a s => s.takeException p code info a (s.pcNow p)
  | .trap code info s => (s.slots p 1).takeException p code info 0 (s.nextPc p len)
  | .stay s => s
  | .left s => s.takeBoundary p

/-- THE ISSUE OF AN INSTRUCTION with code `c` by its core: nothing where the core issues nothing (R312, R332); an outstanding
load completes first (R280); then the fetch, which may wait for the flash (R380), legality, busy registers, the floating-point set and the instruction itself
under its microcode. -/
def State.issue (s : State) (o : PyOp) (c : Nat) (body : State → PyRes) : State :=
  let p := o.p
  if !s.issuing p then s
  else match s.finishLoad p true with
    | (false, s) => s
    | (true, s) =>
      if s.fetchWaits p (opLen o c) then s
      else match s.fetch p (opLen o c) with
      | (0, _, s) =>
        if !legal o c (s.core p).br.isSome then (PyRes.exc 1 3 0 s).finish p 0
        else
          let s := s.waitUnits o c
          if needsFp o c && !wbit (s.status p) 15 then (PyRes.exc 7 3 0 s).finish p 0
          else
            let s := s.modCore p (fun k => { k with fresh := false })
            (State.perform o c body restarts s).finish p (opLen o c)
      | (code, a, s) => (PyRes.exc code 2 a s).finish p 0

/-- An instruction of a mnemonic whose `forms` codes start at `base`: no change where its form or operands have no
encoding (R241; log entry 11). -/
def pyRun (ok : Bool) (o : PyOp) (base forms : Nat) (s : State) (body : Nat → State → PyRes) :
    Host.Outcome State Fault Refusal :=
  runs ok s (fun s =>
    if o.form < forms && opFits o (base + o.form) then s.issue o (base + o.form) (body (base + o.form)) else s)

/-- The repetitions of REP (R262): each executes the instruction, counts G13 down and adds `step` to Gs; `n` bounds them.
A machine check that waits for a boundary ends them there. -/
def State.repeat (s : State) (o : PyOp) (step : Nat) (body : State → PyRes) : Nat → PyRes
  | 0 => if s.gNow o.p 13 = 0 then .ok 0 s else .left s
  | n + 1 =>
    if s.gNow o.p 13 = 0 then .ok 0 s
    else if (s.core o.p).boundary ≠ [] then .left s
    else match body s with
      | .ok k s =>
        let s := s.resultG o.p 1 13 (s.gNow o.p 13 - 1)
        let s := if step = 0 then s else s.resultG o.p 1 o.s (s.gNow o.p o.s + BitVec.ofNat 32 step)
        (s.slots o.p k).repeat o step body n
      | r => r

/-- An instruction that may carry REP (R262): with G13 = 0 one slot and no effect; else as many repetitions as run before
a request is taken. -/
def State.rep (s : State) (o : PyOp) (step : Nat) (body : State → PyRes) : PyRes :=
  if !o.pfx.rep then body s
  else
    let n := (s.gNow o.p 13).toNat
    if n = 0 then .ok 1 s
    else s.repeat o step body (match o.stop with
      | some k => min k n
      | none => n)

/-- ILLEGAL_INSTRUCTION (R243). Bytes that are no instruction are fetched and raise the exception; a fetch that fails raises its own
first (R231, R288; the word that the first byte lies in, log entry 152). -/
def execIllegalInstruction (p : Nat) (s : State) : Host.Outcome State Fault Refusal :=
  runs (wfIllegalInstruction p) s (fun s =>
    if !s.issuing p then s
    else match s.finishLoad p true with
      | (false, s) => s
      | (true, s) =>
        if s.fetchWaits p 1 then s
        else match s.fetch p 1 with
        | (0, _, s) => s.except p 1 3 0
        | (code, a, s) => (PyRes.exc code 2 a s).finish p 0)

/-- A write of core p that the interconnect has accepted leaves it and is performed at its target: every store that has
reached the buffer is written (R281, R284). -/
def State.deliverOne (s : State) (p : Nat) (e : StEntry) : State :=
  let s := s.modCore p (fun c => { c with posted := c.posted.erase e })
  if areaOf e.addr = .periph then s.regEffect e.addr (wordOfLe e.bytes) else s.performFar p e

/-- INTERCONNECT_RESPONSE (R280, R281, R326): the outstanding load of core p is answered, or refused by its target; or else
its oldest accepted write is performed. -/
def execInterconnectResponse (p : Nat) (good : Bool) (s : State) : Host.Outcome State Fault Refusal :=
  runs (wfInterconnectResponse p good) s (fun s =>
    if (s.core p).pload.isSome then (s.finishLoad p good).2
    else match (s.core p).posted with
      | e :: _ => s.deliverOne p e
      | [] => s)

/-- REMOTE_ACCESS (R279): the port of core q grants the access that another core has outstanding through the peer window: its
load, or its oldest accepted write to that port. -/
def execRemoteAccess (q : Nat) (x : PortReq) (s : State) : Host.Outcome State Fault Refusal :=
  runs (wfRemoteAccess q x) s (fun s =>
    if areaOf x.addr ≠ .peer q then s
    else match x.store with
      | none =>
        match (s.core x.asker).pload with
        | some l => if l.addr = x.addr ∧ l.width = x.width then (s.finishLoad x.asker true).2 else s
        | none => s
      | some v =>
        match (s.core x.asker).posted.find? (fun e => areaOf e.addr = .peer q) with
        | some e =>
          if e.addr = x.addr ∧ e.bytes = leBytes x.width v.toNat then s.deliverOne x.asker e else s
        | none => s)

/-- Core `p` can begin an entry (R305, R312): not in a branch group, not frozen, neither held nor locked, and the first
instruction after an entry done (R329, R334). -/
def State.canEnter (s : State) (p : Nat) : Bool :=
  (s.core p).br.isNone && (s.core p).pload.isNone && !(s.core p).fresh && !s.on (DRV_STAT.LOCKED p)
    && !nth s.pmu.held p true

/-- The entry of the highest eligible request, if the test names it (R305): an eligible request starts the sequence, STOP
completes every instruction issued, and LATCH takes the highest request eligible then; with none the sequence ends. A machine
check that waits for the boundary is taken there before any request (R312). -/
def State.enterIf (s : State) (p off : Nat) (f : Req → Bool) : State :=
  if !s.canEnter p || (s.eligible p).isNone then s
  else if !(s.core p).boundary.isEmpty then s.takeBoundary p
  else
    let t := s.landAll p
    match t.eligible p with
    | none => t
    | some rq =>
      if f rq then
        t.service p off (fun t => match t.eligible p with
          | some rq => t.enterRequest p rq none
          | none => t)
      else s

/-- INTERRUPT_ENTRY. -/
def execInterruptEntry (p : Nat) (s : State) : Host.Outcome State Fault Refusal :=
  runs (wfInterruptEntry p) s (fun s => s.enterIf p 0x200 (fun rq => match rq with
    | .source _ => true
    | _ => false))

/-- TASK_ACTIVATION. -/
def execTaskActivation (p : Nat) (s : State) : Host.Outcome State Fault Refusal :=
  runs (wfTaskActivation p) s (fun s => s.enterIf p 0x201 (fun rq => match rq with
    | .slot _ => true
    | _ => false))

end Sys2Proof.Machine
end

