-- ==== Sys2Proof/Machine/Arith.lean ====
section
/-! DEFINITION. The integer, fixed-point and register bit instructions (R245, R246, R260, R261). -/

namespace Sys2Proof.Machine

/-- The operands a and b of an ALU form (R245); CMP, TST and MOV take a from Gd in forms 1 and 2. -/
def State.aluArgs (s : State) (o : PyOp) (c : Nat) : Word × Word :=
  let d := s.gNow o.p o.d
  let r := s.gNow o.p o.s
  let onD := c / 4 == 9 || c / 4 == 10 || c / 4 == 11
  match c % 4 with
  | 0 => (d, r)
  | _ => (if onD then d else r, wordOf o.imm)

/-- A result and its flags, one slot on (R264); CMP and TST write no register. -/
def State.aluWrite (s : State) (o : PyOp) (lat : Nat) (write : Bool) (a : Alu) : State :=
  let s := if write then s.resultG o.p lat o.d a.res else s
  s.resultFlags o.p lat a.mask a.flags

/-- An ALU instruction (R245). -/
def aluBody (o : PyOp) (c : Nat) (s : State) : PyRes :=
  s.rep o 0 (fun s =>
    let x := s.aluArgs o c
    let a := aluOp (c / 4) o.pfx.sat x.1 x.2 (wbit (s.status o.p) 1)
    .ok 1 (s.aluWrite o 1 (c / 4 != 9 && c / 4 != 10) a))

/-- A window access: a long operation of the window port (R255, R260). -/
def State.window (s : State) (o : PyOp) (d : Dest) (v : Word) : PyRes :=
  .ok 1 (s.startLong o ⟨.window, (s.core o.p).bank, [(d, v)], 0⟩)

/-- MOV with its two forms under WIN (R245, R260); each repetition of one under REP waits for the window port and for the registers
that the one before it has made busy (R255, R256). -/
def movBody (o : PyOp) (c : Nat) (s : State) : PyRes :=
  if !o.pfx.win then aluBody o c s
  else s.rep o 0 (fun s =>
    let s := if o.pfx.rep then s.waitUnits o c else s
    let code := s.winCode o.p
    let w := s.get (BWIN.BANK o.p)
    if code ≠ 0 then .exc code 3 0 s
    else if c = 0x2F then s.window o (.g w o.d) (s.gNow o.p o.s)
    else s.window o (.g (s.core o.p).bank o.d) (s.gReg o.p w o.s))

/-- An instruction on Gd and Gs of the multiply group, with its latency (R246, R264). -/
def mulBody (o : PyOp) (lat : Nat) (f : Word → Word → Alu) (s : State) : PyRes :=
  s.rep o 0 (fun s => .ok 1 (s.aluWrite o lat true (f (s.gNow o.p o.d) (s.gNow o.p o.s))))

/-- ADD. -/
def execAddOp (o : PyOp) (s : State) : Host.Outcome State Fault Refusal := pyRun (wfAddOp o) o 0x00 4 s (aluBody o)

/-- SUB. -/
def execSubOp (o : PyOp) (s : State) : Host.Outcome State Fault Refusal := pyRun (wfSubOp o) o 0x04 4 s (aluBody o)

/-- AND. -/
def execAndOp (o : PyOp) (s : State) : Host.Outcome State Fault Refusal := pyRun (wfAndOp o) o 0x08 4 s (aluBody o)

/-- OR. -/
def execOrOp (o : PyOp) (s : State) : Host.Outcome State Fault Refusal := pyRun (wfOrOp o) o 0x0C 4 s (aluBody o)

/-- XOR. -/
def execXorOp (o : PyOp) (s : State) : Host.Outcome State Fault Refusal := pyRun (wfXorOp o) o 0x10 4 s (aluBody o)

/-- SHL. -/
def execShl (o : PyOp) (s : State) : Host.Outcome State Fault Refusal := pyRun (wfShl o) o 0x14 4 s (aluBody o)

/-- SHR. -/
def execShr (o : PyOp) (s : State) : Host.Outcome State Fault Refusal := pyRun (wfShr o) o 0x18 4 s (aluBody o)

/-- SAR. -/
def execSar (o : PyOp) (s : State) : Host.Outcome State Fault Refusal := pyRun (wfSar o) o 0x1C 4 s (aluBody o)

/-- ROR. -/
def execRor (o : PyOp) (s : State) : Host.Outcome State Fault Refusal := pyRun (wfRor o) o 0x20 4 s (aluBody o)

/-- CMP. -/
def execCmp (o : PyOp) (s : State) : Host.Outcome State Fault Refusal := pyRun (wfCmp o) o 0x24 4 s (aluBody o)

/-- TST. -/
def execTst (o : PyOp) (s : State) : Host.Outcome State Fault Refusal := pyRun (wfTst o) o 0x28 4 s (aluBody o)

/-- MOV. -/
def execMov (o : PyOp) (s : State) : Host.Outcome State Fault Refusal := pyRun (wfMov o) o 0x2C 4 s (movBody o)

/-- ADC. -/
def execAdc (o : PyOp) (s : State) : Host.Outcome State Fault Refusal := pyRun (wfAdc o) o 0x30 4 s (aluBody o)

/-- SBC. -/
def execSbc (o : PyOp) (s : State) : Host.Outcome State Fault Refusal := pyRun (wfSbc o) o 0x34 4 s (aluBody o)

/-- MIN. -/
def execMinOp (o : PyOp) (s : State) : Host.Outcome State Fault Refusal := pyRun (wfMinOp o) o 0x38 4 s (aluBody o)

/-- MAX. -/
def execMaxOp (o : PyOp) (s : State) : Host.Outcome State Fault Refusal := pyRun (wfMaxOp o) o 0x3C 4 s (aluBody o)

/-- MUL: form 0 takes Gd and Gs, forms 1 and 2 Gs and the immediate (R246). -/
def execMul (o : PyOp) (s : State) : Host.Outcome State Fault Refusal :=
  pyRun (wfMul o) o 0x40 3 s (fun c s =>
    s.rep o 0 (fun s =>
      let r := s.gNow o.p o.s
      let x := if c = 0x40 then (s.gNow o.p o.d, r) else (r, wordOf o.imm)
      .ok 1 (s.aluWrite o 3 true (mulLow o.pfx.sat x.1 x.2))))

/-- MULH. -/
def execMulh (o : PyOp) (s : State) : Host.Outcome State Fault Refusal :=
  pyRun (wfMulh o) o 0x43 1 s (fun _ => mulBody o 3 (fun a b => ⟨mulHigh a b, 0, 0⟩))

/-- MULHU. -/
def execMulhu (o : PyOp) (s : State) : Host.Outcome State Fault Refusal :=
  pyRun (wfMulhu o) o 0x44 1 s (fun _ => mulBody o 3 (fun a b => ⟨mulHighU a b, 0, 0⟩))

/-- QMUL. -/
def execQmul (o : PyOp) (s : State) : Host.Outcome State Fault Refusal :=
  pyRun (wfQmul o) o 0x45 1 s (fun _ => mulBody o 3 (qmul31 o.pfx.sat))

/-- QMUL15. -/
def execQmul15 (o : PyOp) (s : State) : Host.Outcome State Fault Refusal :=
  pyRun (wfQmul15 o) o 0x46 1 s (fun _ => mulBody o 3 (qmul15Of o.pfx.sat))

/-- ADD15. -/
def execAdd15 (o : PyOp) (s : State) : Host.Outcome State Fault Refusal :=
  pyRun (wfAdd15 o) o 0x48 1 s (fun _ => mulBody o 1 (add15Of o.pfx.sat))

/-- SUB15. -/
def execSub15 (o : PyOp) (s : State) : Host.Outcome State Fault Refusal :=
  pyRun (wfSub15 o) o 0x49 1 s (fun _ => mulBody o 1 (sub15Of o.pfx.sat))

/-- CLZ. -/
def execClz (o : PyOp) (s : State) : Host.Outcome State Fault Refusal :=
  pyRun (wfClz o) o 0x4A 1 s (fun _ => mulBody o 1 (fun _ b => ⟨clzOf b, 0, 0⟩))

/-- POPC. -/
def execPopc (o : PyOp) (s : State) : Host.Outcome State Fault Refusal :=
  pyRun (wfPopc o) o 0x4B 1 s (fun _ => mulBody o 1 (fun _ b => ⟨popcOf b, 0, 0⟩))

/-- BFX. -/
def execBfx (o : PyOp) (s : State) : Host.Outcome State Fault Refusal :=
  pyRun (wfBfx o) o 0x4C 1 s (fun _ => mulBody o 1 (fun _ b => ⟨bfxOf b o.imm.toNat, 0, 0⟩))

/-- BFXS. -/
def execBfxs (o : PyOp) (s : State) : Host.Outcome State Fault Refusal :=
  pyRun (wfBfxs o) o 0x4D 1 s (fun _ => mulBody o 1 (fun _ b => ⟨bfxsOf b o.imm.toNat, 0, 0⟩))

/-- BFI. -/
def execBfi (o : PyOp) (s : State) : Host.Outcome State Fault Refusal :=
  pyRun (wfBfi o) o 0x4E 1 s (fun _ => mulBody o 1 (fun a b => ⟨bfiOf a b o.imm.toNat, 0, 0⟩))

/-- REV. -/
def execRev (o : PyOp) (s : State) : Host.Outcome State Fault Refusal :=
  pyRun (wfRev o) o 0x4F 1 s (fun _ => mulBody o 1 (fun _ b => ⟨revOf b, 0, 0⟩))

end Sys2Proof.Machine
end

