-- ==== Sys2Proof/Machine/BitSpace.lean ====
section
/-! DEFINITION. The bit space and its instructions (R235 to R237, R249). -/

namespace Sys2Proof.Machine

/-- What a bit write does to a peripheral flag (R235). -/
inductive FlagKind where
  | readOnly | clearBy0 | icu
deriving DecidableEq, Repr

/-- A peripheral flag: the register and bit it mirrors (R235). -/
structure Flag where
  reg : Nat
  bit : Nat
  kind : FlagKind
deriving DecidableEq, Repr

/-- The flag at a bit address, if one lies there (R235). -/
def flagAt (b : Nat) : Option Flag :=
  let words (base n : Nat) (r : Nat → Nat) (k : FlagKind) : Option Flag :=
    if base ≤ b ∧ b < base + n then some ⟨r ((b - base) / 32), (b - base) % 32, k⟩ else none
  ((words 0x4000 512 EVF_WATCH .clearBy0).orElse fun _ =>
   (words 0x4200 2048 EVF_PEND .readOnly).orElse fun _ =>
   (words 0x4A00 2048 EVF_OVR .clearBy0).orElse fun _ =>
   (words 0x5200 1280 ICU_PEND .icu).orElse fun _ =>
   (words 0x5800 184 SNS_TERR_SUM .clearBy0).orElse fun _ =>
   (words 0x5900 144 PHA_FAIL_SUM .readOnly).orElse fun _ =>
   (words 0x5A00 144 PHA_OC_SUM .clearBy0).orElse fun _ =>
   (if 0x5B00 ≤ b ∧ b < 0x5B22 then some ⟨ANV_LN_STAT (b - 0x5B00), 26, .clearBy0⟩ else none).orElse fun _ =>
   (words 0x5B40 32 (fun _ => BLW_RQ_SUM) .readOnly).orElse fun _ =>
   (words 0x5B60 32 (fun _ => BLW_LATCH_SUM) .clearBy0).orElse fun _ =>
   (words 0x5B80 32 (fun _ => RLC_PG_SUM) .readOnly).orElse fun _ =>
   words 0x5BA0 32 (fun _ => SNS_VFR_SUM) .readOnly)

/-- The register write that a bit write of `v` makes, if it makes one (R207, R235, R315). -/
def Flag.write (f : Flag) (v : Bool) : Option (Nat × Word) :=
  let m := BitVec.ofNat 32 (2 ^ f.bit)
  match f.kind with
  | .readOnly => none
  | .clearBy0 => if v then none else some (f.reg, m)
  | .icu => if v then some (ICU_SET ((f.reg - ICU_PEND 0) / 4), m) else some (f.reg, m)

/-- The flag as core p reads it: a Keeper bit as 0 in the Tenant world (R237). -/
def State.flagView (s : State) (p : Nat) (f : Flag) : Bool :=
  let t := s.tenantCore p
  let blind := t && (match regAt f.reg with
    | some r => r.keeper
    | none => false)
  !blind && wbit (s.view t f.reg) f.bit

/-- How a bit access ends. -/
inductive BitRes where
  /-- the bit and the state. -/
  | got (b : Bool) (s : State)
  /-- an exception: code and fault address. -/
  | fault (code : Nat) (addr : Word) (s : State)

/-- The rights of a bit access that writes `v`, or reads (R228, R236, R237): the code, 0 none. -/
def State.bitCode (s : State) (p b : Nat) (v : Option Bool) : Nat :=
  let t := s.tenantCore p
  if b < 0x4000 then (if t && decide (b < 256 * s.get (BITSPLIT.SPLIT p)) then 3 else 0)
  else match flagAt b with
    | none => 0
    | some f =>
      let bad := match v with
        | none => false
        | some v => t && (match f.write v with
          | some (a, w) => s.violates p a w
          | none => s.violates p f.reg 0)
      if bad then 3 else if s.userCore p then 2 else 0

/-- A bit as it stands: the bit RAM by a checked read of its word (R236), a flag as it is mirrored. -/
def State.bitNow (s : State) (p b : Nat) : BitRes :=
  if b < 0x4000 then
    match s.readEcc p (bitRamKey p (b / 32 * 4)) with
    | (some w, s) => .got (wbit w (b % 32)) s
    | (none, s) => .fault 10 (BitVec.ofNat 32 b) s
  else match flagAt b with
    | some f => .got (s.flagView p f) s
    | none => .got false s

/-- A bit read (R236, R237): within 8 slots of this core's write of a flag it gives the value before or after, which is
free. -/
def State.bitRead (s : State) (p b : Nat) : BitRes :=
  let code := s.bitCode p b none
  if code ≠ 0 then .fault code 0 s
  else match s.bitNow p b with
    | .got v s =>
      match ((s.core p).flagW.filter (fun e => e.1 == b && decide ((s.core p).slot < e.2.1 + 8))).getLast? with
      | some e => if e.2.2 = v then .got v s else .got (if wbit s.freeVal 0 then v else e.2.2) s.drawn
      | none => .got v s
    | r => r

/-- A bit write, of the value `f` makes of the bit (R236, R237, R249): the old bit. -/
def State.bitWrite (s : State) (p b : Nat) (f : Bool → Bool) : BitRes :=
  if b < 0x4000 ∧ s.bitCode p b none ≠ 0 then .fault (s.bitCode p b none) 0 s
  else match s.bitNow p b with
  | .fault code a s => .fault code a s
  | .got old s' =>
    let v := f old
    let code := s.bitCode p b (some v)
    if code ≠ 0 then
      (match flagAt b with
       | some g => .fault code 0 (if code = 3 then s.secv g.reg else s)
       | none => .fault code 0 s)
    else if b < 0x4000 then
      let k := bitRamKey p (b / 32 * 4)
      .got old (s'.writeEcc p k true (putBits (s'.word k) (b % 32) (b % 32) (b2n v)))
    else match flagAt b with
      | none => .got old s'
      | some g =>
        match g.write v with
        | none => .got old s'
        | some (a, w) =>
          let s := s'.regEffect a w
          .got old (s.modCore p (fun c => { c with
            flagW := c.flagW.filter (fun e => decide (c.slot < e.2.1 + 8)) ++ [(b, c.slot, old)] }))

/-- The bit address of an instruction (R249). -/
def State.bitAddr (s : State) (o : PyOp) (c : Nat) : Nat :=
  if c % 2 = 0 then o.imm.toNat
  else
    let a := (s.gNow o.p o.s + wordOf o.imm).toNat % 2 ^ 16
    if o.pfx.bitx then a else a % 2 ^ 14

/-- A bit instruction that reads: `f` takes the bit (R249). -/
def bitReads (o : PyOp) (f : Bool → State → State) (c : Nat) (s : State) : PyRes :=
  s.rep o 1 (fun s => match s.bitRead o.p (s.bitAddr o c) with
    | .got b s => .ok 1 (f b s)
    | .fault code a s => .exc code 0 a s)

/-- A bit instruction that writes; with ATOM C receives the bit before (R249). -/
def bitWrites (o : PyOp) (f : State → Bool → Bool) (c : Nat) (s : State) : PyRes :=
  s.rep o 1 (fun s => match s.bitWrite o.p (s.bitAddr o c) (f s) with
    | .got b s => .ok 1 (if o.pfx.atom then s.resultFlags o.p 3 stC (flagIf b stC) else s)
    | .fault code a s => .exc code (if code = 10 then 0 else 1) a s)

/-- BTST. -/
def execBtst (o : PyOp) (s : State) : Host.Outcome State Fault Refusal :=
  pyRun (wfBtst o) o 0xA0 2 s
    (bitReads o (fun b s => s.resultFlags o.p 3 (stZ ||| stC) (flagIf (!b) stZ ||| flagIf b stC)))

/-- BSET. -/
def execBset (o : PyOp) (s : State) : Host.Outcome State Fault Refusal :=
  pyRun (wfBset o) o 0xA2 2 s (bitWrites o (fun _ _ => true))

/-- BCLR. -/
def execBclr (o : PyOp) (s : State) : Host.Outcome State Fault Refusal :=
  pyRun (wfBclr o) o 0xA4 2 s (bitWrites o (fun _ _ => false))

/-- BNOT. -/
def execBnot (o : PyOp) (s : State) : Host.Outcome State Fault Refusal :=
  pyRun (wfBnot o) o 0xA6 2 s (bitWrites o (fun _ b => !b))

/-- BLD. -/
def execBld (o : PyOp) (s : State) : Host.Outcome State Fault Refusal :=
  pyRun (wfBld o) o 0xA8 2 s (bitReads o (fun b s => s.resultG o.p 3 o.d (if b then 1 else 0)))

/-- BST. -/
def execBst (o : PyOp) (s : State) : Host.Outcome State Fault Refusal :=
  pyRun (wfBst o) o 0xAA 2 s (bitWrites o (fun s _ => wbit (s.gNow o.p o.d) 0))

end Sys2Proof.Machine
end

