-- ==== Sys2Proof/Machine/Control.lean ====
section
/-! DEFINITION. Branches with their delay slots, the system registers and the system instructions (R221 to R224, R251 to R254, R269, R306, R320 to R322, R331). -/

namespace Sys2Proof.Machine

/-- The bytes of an instruction from memory, as the length predecode of stage D finds them: prefixes, opcode and the parts
that follow (R241, R244, R270). -/
def lengthOf : List Byte → Nat
  | [] => 1
  | b :: bs =>
    let c := b.toNat
    if 0xE0 ≤ c ∧ c ≤ 0xE5 then 1 + lengthOf bs
    else
      let code := if c = 0xF0 then 0x100 + (nth bs 0 0).toNat else c
      let l := layoutOf code
      (if c = 0xF0 then 2 else 1) + b2n l.m + l.disp + b2n l.t + l.imm

/-- The bytes from a core-view address on, in the form that the instruction in issue slot `t` has them (R268). -/
def State.codeAt (s : State) (p t a : Nat) : Bytes := (List.range 15).map (fun i => s.codeByte p t (a + i))

/-- The length of the instruction that lies at an address and issues in slot `t`. -/
def State.lengthAt (s : State) (p t a : Nat) : Nat := lengthOf (s.codeAt p t a)

/-- The issue slots that the bytes of an instruction take in a delay slot (R276): PUSHM and POPM one for each register, page
0xF0 two. -/
def slotsOf : List Byte → Nat
  | [] => 1
  | b :: bs =>
    if 0xE0 ≤ b.toNat ∧ b.toNat ≤ 0xE5 then slotsOf bs
    else if b = 0xF0 then 2
    else if b = 0x78 ∨ b = 0x79 then max 1 (maskRegs (leAt bs 1 2)).length
    else 1

/-- The address that follows the second delay slot of a call (R251). -/
def State.linkAddr (s : State) (p len : Nat) : Word :=
  let a := (s.nextPc p len).toNat
  let t := (s.core p).slot + 1
  let bs := s.codeAt p t a
  let b := a + lengthOf bs
  BitVec.ofNat 32 (b + s.lengthAt p (t + slotsOf bs) b)

/-- BCC. -/
def execBcc (o : PyOp) (s : State) : Host.Outcome State Fault Refusal :=
  pyRun (wfBcc o) o 0x80 3 s (fun c s =>
    .jump (if condHolds (s.status o.p) o.s then some (s.nextPc o.p (opLen o c) + wordOf o.disp) else none) s)

/-- CALL. -/
def execCall (o : PyOp) (s : State) : Host.Outcome State Fault Refusal :=
  pyRun (wfCall o) o 0x84 1 s (fun c s =>
    .jump (some (s.nextPc o.p (opLen o c) + wordOf o.disp)) (s.resultG o.p 1 14 (s.linkAddr o.p (opLen o c))))

/-- JMP. -/
def execJmp (o : PyOp) (s : State) : Host.Outcome State Fault Refusal :=
  pyRun (wfJmp o) o 0x85 1 s (fun _ s => .jump (some (s.gNow o.p o.s)) s)

/-- CALLR. -/
def execCallr (o : PyOp) (s : State) : Host.Outcome State Fault Refusal :=
  pyRun (wfCallr o) o 0x86 1 s (fun c s =>
    .jump (some (s.gNow o.p o.s)) (s.resultG o.p 1 14 (s.linkAddr o.p (opLen o c))))

/-- RET. -/
def execRet (o : PyOp) (s : State) : Host.Outcome State Fault Refusal :=
  pyRun (wfRet o) o 0x87 1 s (fun _ s => .jump (some (s.gNow o.p 14)) s)

/-- DBNZ. -/
def execDbnz (o : PyOp) (s : State) : Host.Outcome State Fault Refusal :=
  pyRun (wfDbnz o) o 0x88 2 s (fun c s =>
    let v := s.gNow o.p o.d - 1
    .jump (if v = 0 then none else some (s.nextPc o.p (opLen o c) + wordOf o.disp)) (s.resultG o.p 1 o.d v))

/-- MFSR (R221, R222, R224, R254, R260). -/
def mfsrBody (o : PyOp) (s : State) : PyRes :=
  let n := sysNo o
  if o.pfx.win then
    let code := s.winCode o.p
    let k := s.bankOf o.p (s.get (BWIN.BANK o.p))
    if code ≠ 0 then .exc code 3 0 s
    else s.window o (.g (s.core o.p).bank o.d) (if n = 0 then k.status else k.prog)
  else if s.userCore o.p && !([0x000, 0x001, 0x003, 0x004].contains n) then .exc 2 3 0 s
  else .ok 1 (s.resultG o.p 3 o.d (s.sysRead o.p n))

/-- MTSR (R221 to R224, R254, R260). -/
def mtsrBody (o : PyOp) (s : State) : PyRes :=
  let n := sysNo o
  let p := o.p
  let v := s.gNow p o.d
  if o.pfx.win then
    let code := s.winCode p
    let w := s.get (BWIN.BANK p)
    if code ≠ 0 then .exc code 3 0 s
    else if n = 0 then
      let m := s.statusWrite p v
      s.window o (.status w m.1) m.2
    else s.window o (.prog w) v
  else
    let code := s.mtsrCode p n v
    if code ≠ 0 then .exc code 3 0 s else .ok 1 (s.mtsr p n v)

/-- MFSR. -/
def execMfsr (o : PyOp) (s : State) : Host.Outcome State Fault Refusal :=
  pyRun (wfMfsr o) o 0x90 1 s (fun _ => mfsrBody o)

/-- MTSR. -/
def execMtsr (o : PyOp) (s : State) : Host.Outcome State Fault Refusal :=
  pyRun (wfMtsr o) o 0x91 1 s (fun _ => mtsrBody o)

/-- SYSCALL. -/
def execSyscall (o : PyOp) (s : State) : Host.Outcome State Fault Refusal :=
  pyRun (wfSyscall o) o 0x92 1 s (fun _ s => .trap 8 o.imm.toNat s)

/-- BRK. -/
def execBrk (o : PyOp) (s : State) : Host.Outcome State Fault Refusal :=
  pyRun (wfBrk o) o 0x98 1 s (fun _ s => .trap 9 o.imm.toNat s)

/-- RETE: the exit sequence, or the return from escalation (R254, R306, R325, R331); a frame in the flash window may have to wait
(R380). -/
def execRete (o : PyOp) (s : State) : Host.Outcome State Fault Refusal :=
  pyRun (wfRete o) o 0x93 1 s (fun _ s =>
    if s.userCore o.p then .exc 2 3 0 s
    else if (s.core o.p).bank ≠ 0 && s.frameWaits o.p then .stay s
    else
      let pc := s.pcNow o.p
      let s := s.slots o.p 1
      .left (s.service o.p 0x204 (fun s =>
        if (s.core o.p).bank = 0 then s.leaveEscalation o.p else s.leave o.p pc)))

/-- The executing context ends its activation through the service sequence at an offset: the program counter stands at the
next instruction, the slot takes a state and the exit sequence runs (R320, R321, R325). -/
def State.endActivation (s : State) (p len off : Nat) (f : State → State) : PyRes :=
  if s.frameWaits p then .stay s
  else
    let pc := s.pcNow p
    let s := (s.setPc p (s.nextPc p len)).slots p 1
    .left (s.service p off (fun s => (f s).leave p pc))

/-- WAIT (R320, R322): a running task, or the base context of an enabled slot 1, ends its activation; any other context
stays in use and issues nothing further. -/
def execWaitOp (o : PyOp) (s : State) : Host.Outcome State Fault Refusal :=
  pyRun (wfWaitOp o) o 0x94 1 s (fun c s =>
    let p := o.p
    let b := (s.core p).bank
    let st := if 1 ≤ b then s.get (DRV_SLOT_STAT.STATE p b) else 0
    if st = 4 ∨ (st = 1 ∧ b = 1 ∧ (s.core p).base) then
      s.endActivation p (opLen o c) 0x205 (fun s =>
        let s := s.modCore p (fun k => { k with base := k.base && b != 1 })
        (s.set (DRV_SLOT_STAT.STATE p b) 2).slotReady p b)
    else
      let s := (s.setPc p (s.nextPc p (opLen o c))).slots p 1
      .left (s.service p 0x205 (fun s => (s.modCore p (fun k => { k with waiting := true })).showCore p)))

/-- YIELD (R318, R321): a running task gives way to a READY slot of the priority it was entered with; else no effect. -/
def execYield (o : PyOp) (s : State) : Host.Outcome State Fault Refusal :=
  pyRun (wfYield o) o 0x95 1 s (fun c s =>
    let p := o.p
    let b := (s.core p).bank
    let rival := (List.range 16).any (fun k => decide (1 ≤ k) && k != b && s.on (DRV_SLOT_CFG.EN p k)
      && s.get (DRV_SLOT_STAT.STATE p k) == 3 && s.get (DRV_SLOT_CFG.PRI p k) == stPri (s.status p))
    if 1 ≤ b ∧ s.get (DRV_SLOT_STAT.STATE p b) = 4 ∧ rival then
      s.endActivation p (opLen o c) 0x206 (fun s =>
        ((s.set (DRV_SLOT_STAT.STATE p b) 3).set (DRV_SLOT_STAT.YLD p b) 1).modCore p (fun c => { c with
          resumes := b :: c.resumes }))
    else .ok 1 s)

/-- Core p's store buffer and merge buffer drain (R269, R284). -/
def State.drain (s : State) (p : Nat) : State := (s.retireN p (s.core p).sb.length).flushMerge p

/-- FETCHSYNC: the buffers drain and the fetch queue is discarded (R269). -/
def execFetchsync (o : PyOp) (s : State) : Host.Outcome State Fault Refusal :=
  pyRun (wfFetchsync o) o 0x96 1 s (fun _ s => .ok 1 ((s.drain o.p).modCore o.p (fun c => { c with fq := [] })))

/-- SYNC: every store of the core is written at its target (R254, R283). -/
def execSync (o : PyOp) (s : State) : Host.Outcome State Fault Refusal :=
  pyRun (wfSync o) o 0x97 1 s (fun _ s =>
    match ((s.drain o.p).deliverMem o.p).deliverRegs o.p with
    | (true, s) => .ok 1 s
    | (false, s) => .stay s)

/-- NOP (R254). -/
def execNopOp (o : PyOp) (s : State) : Host.Outcome State Fault Refusal :=
  pyRun (wfNopOp o) o 0x99 1 s (fun _ s => .ok 1 s)

end Sys2Proof.Machine
end

