-- ==== Sys2Proof/Machine/LoadStore.lean ====
section
/-! DEFINITION. Loads, stores, address formation, the stack instructions and the read-modify-write instructions of page 0xF0 (R225, R239, R247, R248, R285). -/

namespace Sys2Proof.Machine

/-- The address Gs + displacement (R247). -/
def State.ea (s : State) (o : PyOp) : Nat := (s.gNow o.p o.s + wordOf o.disp).toNat

/-- A load of `n` bytes into Gd (R247). -/
def loadBody (n : Nat) (signed : Bool) (o : PyOp) (c : Nat) (s : State) : PyRes :=
  s.rep o n (fun s => s.load o.p (s.ea o) n signed (.g (s.core o.p).bank o.d) (opLen o c) o.pfx.rep)

/-- A store of the low `n` bytes of Gd (R247). -/
def storeBody (n : Nat) (o : PyOp) (_c : Nat) (s : State) : PyRes :=
  s.rep o n (fun s => s.store o.p (s.ea o) n (s.gNow o.p o.d))

/-- LDW. -/
def execLdw (o : PyOp) (s : State) : Host.Outcome State Fault Refusal := pyRun (wfLdw o) o 0x50 4 s (loadBody 4 false o)

/-- LDH. -/
def execLdh (o : PyOp) (s : State) : Host.Outcome State Fault Refusal := pyRun (wfLdh o) o 0x54 4 s (loadBody 2 true o)

/-- LDHU. -/
def execLdhu (o : PyOp) (s : State) : Host.Outcome State Fault Refusal := pyRun (wfLdhu o) o 0x58 4 s (loadBody 2 false o)

/-- LDB. -/
def execLdb (o : PyOp) (s : State) : Host.Outcome State Fault Refusal := pyRun (wfLdb o) o 0x5C 4 s (loadBody 1 true o)

/-- LDBU. -/
def execLdbu (o : PyOp) (s : State) : Host.Outcome State Fault Refusal := pyRun (wfLdbu o) o 0x60 4 s (loadBody 1 false o)

/-- STW. -/
def execStw (o : PyOp) (s : State) : Host.Outcome State Fault Refusal := pyRun (wfStw o) o 0x64 4 s (storeBody 4 o)

/-- STH. -/
def execSth (o : PyOp) (s : State) : Host.Outcome State Fault Refusal := pyRun (wfSth o) o 0x68 4 s (storeBody 2 o)

/-- STB. -/
def execStb (o : PyOp) (s : State) : Host.Outcome State Fault Refusal := pyRun (wfStb o) o 0x6C 4 s (storeBody 1 o)

/-- LEA. -/
def execLea (o : PyOp) (s : State) : Host.Outcome State Fault Refusal :=
  pyRun (wfLea o) o 0x70 4 s (fun _ s =>
    s.rep o 0 (fun s => .ok 1 (s.resultG o.p 1 o.d (s.gNow o.p o.s + wordOf o.disp))))

/-- The address of the next instruction plus the displacement (R247, R251). -/
def State.pcRel (s : State) (o : PyOp) (c : Nat) : Word := s.nextPc o.p (opLen o c) + wordOf o.disp

/-- LDWPC. -/
def execLdwpc (o : PyOp) (s : State) : Host.Outcome State Fault Refusal :=
  pyRun (wfLdwpc o) o 0x74 1 s (fun c s =>
    s.load o.p (s.pcRel o c).toNat 4 false (.g (s.core o.p).bank o.d) (opLen o c) false)

/-- LEAPC. -/
def execLeapc (o : PyOp) (s : State) : Host.Outcome State Fault Refusal :=
  pyRun (wfLeapc o) o 0x75 1 s (fun c s => .ok 1 (s.resultG o.p 1 o.d (s.pcRel o c)))

/-- A push of registers, the lowest-numbered at the lowest address: checked as one access, one slot each (R239, R247,
R276). -/
def pushRegs (o : PyOp) (rs : List Nat) (s : State) : PyRes :=
  let sp := s.gNow o.p 15
  let n := 4 * rs.length
  let f := s.stackFault o.p true sp.toNat n
  if f.1 ≠ 0 then .exc f.1 1 f.2 s
  else
    let base := sp.toNat - n
    let at_ := (List.range rs.length).map (fun i => (base + 4 * i, s.gNow o.p (nth rs i 0)))
    match at_.find? (fun e => (s.storeCheck o.p e.1 4 e.2).1 ≠ 0) with
    | some e => .exc 3 1 0 (s.storeCheck o.p e.1 4 e.2).2
    | none =>
      let t := s.tenantCore o.p
      let s := s.each ((List.range rs.length).zip at_) (fun s e => s.pushStoreAt o.p e.1 ⟨e.2.1, leBytes 4 e.2.2.toNat, t⟩)
      let k := max 1 rs.length
      .ok k (s.resultG o.p k 15 (BitVec.ofNat 32 base))

/-- The words of a pop, lowest address first; none of them where one is uncorrectable (R288). -/
def State.popWords (s : State) (p : Nat) : List Nat → List Word → (Got × Nat × List Word) × State
  | [], ws => ((.val 0, 0, ws.reverse), s)
  | a :: as, ws =>
    match s.readNow p a 4 true with
    | (.val v, s) => s.popWords p as (v :: ws)
    | (g, s) => ((g, a, []), s)

/-- A pop into registers, all written three slots after the last (R247, R264, R276). -/
def popRegs (o : PyOp) (rs : List Nat) (s : State) : PyRes :=
  let sp := s.gNow o.p 15
  let n := 4 * rs.length
  let f := s.stackFault o.p false sp.toNat n
  if f.1 ≠ 0 then .exc f.1 0 f.2 s
  else
    match s.popWords o.p ((List.range rs.length).map (fun i => sp.toNat + 4 * i)) [] with
    | ((.bad, a, _), s) => .exc 10 0 (BitVec.ofNat 32 a) s
    | ((.val _, _, ws), s) =>
      let k := max 1 rs.length
      let s := s.each (rs.zip ws) (fun s e => s.resultG o.p (k + 2) e.1 e.2)
      .ok k (s.resultG o.p k 15 (sp + BitVec.ofNat 32 n))
    | (_, s) => .stay s

/-- PUSH. -/
def execPush (o : PyOp) (s : State) : Host.Outcome State Fault Refusal :=
  pyRun (wfPush o) o 0x76 1 s (fun _ => pushRegs o [o.d])

/-- POP. -/
def execPop (o : PyOp) (s : State) : Host.Outcome State Fault Refusal :=
  pyRun (wfPop o) o 0x77 1 s (fun _ => popRegs o [o.d])

/-- PUSHM. -/
def execPushm (o : PyOp) (s : State) : Host.Outcome State Fault Refusal :=
  pyRun (wfPushm o) o 0x78 1 s (fun _ => pushRegs o (maskRegs o.imm.toNat))

/-- POPM. -/
def execPopm (o : PyOp) (s : State) : Host.Outcome State Fault Refusal :=
  pyRun (wfPopm o) o 0x79 1 s (fun _ => popRegs o (maskRegs o.imm.toNat))

/-- The code of a page 0xF0 access (R248): aligned, in an area that holds words, and permitted; with `reads` for the read
as well as the write. -/
def State.pageCode (s : State) (p a : Nat) (reads : Bool) : Nat × Nat :=
  let t := s.tenantCore p
  let u := s.userCore p
  let l := if reads then s.dataCheck p t u a 4 .load else 0
  let w := s.dataCheck p t u a 4 .store
  if l ≠ 0 then (l, 0)
  else if areaOf a = .periph ∧ w = 0 then (4, b2n (!reads))
  else (w, 1)

/-- A word written at its port, without the store buffer (R285). -/
def State.writePort (s : State) (p a : Nat) (v : Word) : State :=
  let s := s.noteCode p 1 a 4
  match areaOf a with
  | .loc => s.writeEcc p (physOf p a) false v
  | _ => s.storeFar p a (leBytes 4 v.toNat)

/-- A read-modify-write instruction of page 0xF0 (R248, R285): `f` answers the new word, if one is written; the old one
goes to Gd. Two slots. -/
def rmwBody (o : PyOp) (f : Word → Option Word) (fl : Word → Word × Word) (s : State) : PyRes :=
  let a := s.ea o
  let c := s.pageCode o.p a true
  if c.1 ≠ 0 then .exc c.1 c.2 (faultAddr c.1 a) s
  else match s.loadPort o.p a with
    | (none, s) => .exc 10 0 (BitVec.ofNat 32 a) s
    | (some w, s) =>
      let s := match f w with
        | some v => s.writePort o.p a v
        | none => s
      let s := s.resultG o.p 4 o.d w
      .ok 2 (s.resultFlags o.p 4 (fl w).1 (fl w).2)

/-- No flag. -/
def noFlags (_w : Word) : Word × Word := (0, 0)

/-- ADDM. -/
def execAddm (o : PyOp) (s : State) : Host.Outcome State Fault Refusal :=
  pyRun (wfAddm o) o 0x100 1 s (fun _ s => rmwBody o (fun w => some (w + s.gNow o.p o.d)) noFlags s)

/-- ANDM. -/
def execAndm (o : PyOp) (s : State) : Host.Outcome State Fault Refusal :=
  pyRun (wfAndm o) o 0x101 1 s (fun _ s => rmwBody o (fun w => some (w &&& s.gNow o.p o.d)) noFlags s)

/-- ORM. -/
def execOrm (o : PyOp) (s : State) : Host.Outcome State Fault Refusal :=
  pyRun (wfOrm o) o 0x102 1 s (fun _ s => rmwBody o (fun w => some (w ||| s.gNow o.p o.d)) noFlags s)

/-- XORM. -/
def execXorm (o : PyOp) (s : State) : Host.Outcome State Fault Refusal :=
  pyRun (wfXorm o) o 0x103 1 s (fun _ s => rmwBody o (fun w => some (w ^^^ s.gNow o.p o.d)) noFlags s)

/-- XCHG. -/
def execXchg (o : PyOp) (s : State) : Host.Outcome State Fault Refusal :=
  pyRun (wfXchg o) o 0x104 1 s (fun _ s => rmwBody o (fun _ => some (s.gNow o.p o.d)) noFlags s)

/-- CASW: Z says whether the store took place (R248). -/
def execCasw (o : PyOp) (s : State) : Host.Outcome State Fault Refusal :=
  pyRun (wfCasw o) o 0x105 1 s (fun _ s =>
    rmwBody o (fun w => if w = s.gNow o.p o.d then some (s.gNow o.p o.n) else none)
      (fun w => (stZ, flagIf (w == s.gNow o.p o.d) stZ)) s)

/-- STWI: a page 0xF0 instruction whose word is read as by the others, and then written whole (R248, R276, R285). -/
def execStwi (o : PyOp) (s : State) : Host.Outcome State Fault Refusal :=
  pyRun (wfStwi o) o 0x106 1 s (fun _ s =>
    let a := s.ea o
    let c := s.pageCode o.p a false
    if c.1 ≠ 0 then .exc c.1 c.2 (faultAddr c.1 a) s
    else match s.loadPort o.p a with
      | (none, s) => .exc 10 0 (BitVec.ofNat 32 a) s
      | (some _, s) => .ok 2 (s.writePort o.p a (wordOf o.imm)))

end Sys2Proof.Machine
end

