-- ==== Sys2Proof/Machine/Float.lean ====
section
/-! DEFINITION. The floating-point instructions (R227, R250, R264). -/

namespace Sys2Proof.Machine

/-- The rounding mode in force (R227). -/
def State.rm (s : State) (p : Nat) : Nat := getBits (s.core p).fpsr 9 8

/-- A result into Fd with its FPSR flags (R264). -/
def State.resultF (s : State) (o : PyOp) (lat : Nat) (r : Word × Word) : State :=
  (s.result o.p lat (.f o.d) r.1).resultFp o.p lat r.2

/-- An instruction on Fd and Fs that rounds: four slots (R264). -/
def fpBody (o : PyOp) (f : Nat → Word → Word → Word × Word) (_c : Nat) (s : State) : PyRes :=
  .ok 1 (s.resultF o 4 (f (s.rm o.p) (s.fNow o.p o.d) (s.fNow o.p o.s)))

/-- An instruction on Fd and Fs of one slot (R264). -/
def fpShort (o : PyOp) (f : Word → Word → Word × Word) (_c : Nat) (s : State) : PyRes :=
  .ok 1 (s.resultF o 1 (f (s.fNow o.p o.d) (s.fNow o.p o.s)))

/-- FADD. -/
def execFadd (o : PyOp) (s : State) : Host.Outcome State Fault Refusal := pyRun (wfFadd o) o 0xB0 1 s (fpBody o faddOf)

/-- FSUB. -/
def execFsub (o : PyOp) (s : State) : Host.Outcome State Fault Refusal := pyRun (wfFsub o) o 0xB1 1 s (fpBody o fsubOf)

/-- FMUL. -/
def execFmul (o : PyOp) (s : State) : Host.Outcome State Fault Refusal := pyRun (wfFmul o) o 0xB2 1 s (fpBody o fmulOf)

/-- FMIN. -/
def execFmin (o : PyOp) (s : State) : Host.Outcome State Fault Refusal :=
  pyRun (wfFmin o) o 0xB3 1 s (fpShort o (fminmaxOf false))

/-- FMAX. -/
def execFmax (o : PyOp) (s : State) : Host.Outcome State Fault Refusal :=
  pyRun (wfFmax o) o 0xB4 1 s (fpShort o (fminmaxOf true))

/-- FCMP. -/
def execFcmp (o : PyOp) (s : State) : Host.Outcome State Fault Refusal :=
  pyRun (wfFcmp o) o 0xB5 1 s (fun _ s =>
    let r := fcmpOf (s.fNow o.p o.d) (s.fNow o.p o.s)
    .ok 1 ((s.resultFlags o.p 1 (stN ||| stZ ||| stC ||| stV) r.1).resultFp o.p 1 r.2))

/-- FMOV. -/
def execFmov (o : PyOp) (s : State) : Host.Outcome State Fault Refusal :=
  pyRun (wfFmov o) o 0xB6 1 s (fpShort o (fun _ b => (b, 0)))

/-- FNEG. -/
def execFneg (o : PyOp) (s : State) : Host.Outcome State Fault Refusal :=
  pyRun (wfFneg o) o 0xB7 1 s (fpShort o (fun _ b => (b ^^^ 0x80000000, 0)))

/-- FABS. -/
def execFabs (o : PyOp) (s : State) : Host.Outcome State Fault Refusal :=
  pyRun (wfFabs o) o 0xB8 1 s (fpShort o (fun _ b => (b &&& 0x7FFFFFFF, 0)))

/-- FMTG. -/
def execFmtg (o : PyOp) (s : State) : Host.Outcome State Fault Refusal :=
  pyRun (wfFmtg o) o 0xB9 1 s (fun _ s => .ok 1 (s.resultG o.p 1 o.d (s.fNow o.p o.s)))

/-- FMFG. -/
def execFmfg (o : PyOp) (s : State) : Host.Outcome State Fault Refusal :=
  pyRun (wfFmfg o) o 0xBA 1 s (fun _ s => .ok 1 (s.resultF o 1 (s.gNow o.p o.s, 0)))

/-- FCVTI. -/
def execFcvti (o : PyOp) (s : State) : Host.Outcome State Fault Refusal :=
  pyRun (wfFcvti o) o 0xBB 1 s (fun _ s =>
    let r := fcvtiOf (s.rm o.p) (s.fNow o.p o.s)
    .ok 1 ((s.resultG o.p 4 o.d r.1).resultFp o.p 4 r.2))

/-- FCVTF. -/
def execFcvtf (o : PyOp) (s : State) : Host.Outcome State Fault Refusal :=
  pyRun (wfFcvtf o) o 0xBC 1 s (fun _ s => .ok 1 (s.resultF o 4 (fcvtfOf (s.rm o.p) (s.gNow o.p o.s))))

/-- FLD. -/
def execFld (o : PyOp) (s : State) : Host.Outcome State Fault Refusal :=
  pyRun (wfFld o) o 0xBD 1 s (fun c s => s.load o.p (s.ea o) 4 false (.f o.d) (opLen o c) false)

/-- FST. -/
def execFst (o : PyOp) (s : State) : Host.Outcome State Fault Refusal :=
  pyRun (wfFst o) o 0xBE 1 s (fun _ s => s.store o.p (s.ea o) 4 (s.fNow o.p o.d))

end Sys2Proof.Machine
end

