-- ==== Sys2Proof/Machine/Long.lean ====
section
/-! DEFINITION. The long operations and the resumable block instructions (R255 to R259). -/

namespace Sys2Proof.Machine

/-- A long operation that writes G registers of its bank (R255). -/
def longG (o : PyOp) (u : LUnit) (rs : List (Nat × Word)) (s : State) : PyRes :=
  let b := (s.core o.p).bank
  .ok 1 (s.startLong o ⟨u, b, rs.map (fun r => (.g b r.1, r.2)), 0⟩)

/-- One on Gd and Gs in the divider. -/
def divBody (o : PyOp) (f : Word → Word → Word) (_c : Nat) (s : State) : PyRes :=
  longG o .divider [(o.d, f (s.gNow o.p o.d) (s.gNow o.p o.s))] s

/-- DIV. -/
def execDivOp (o : PyOp) (s : State) : Host.Outcome State Fault Refusal := pyRun (wfDivOp o) o 0xC0 1 s (divBody o divOf)

/-- DIVU. -/
def execDivu (o : PyOp) (s : State) : Host.Outcome State Fault Refusal := pyRun (wfDivu o) o 0xC1 1 s (divBody o divuOf)

/-- REM. -/
def execRem (o : PyOp) (s : State) : Host.Outcome State Fault Refusal := pyRun (wfRem o) o 0xC2 1 s (divBody o remOf)

/-- REMU. -/
def execRemu (o : PyOp) (s : State) : Host.Outcome State Fault Refusal := pyRun (wfRemu o) o 0xC3 1 s (divBody o remuOf)

/-- SQRT. -/
def execSqrt (o : PyOp) (s : State) : Host.Outcome State Fault Refusal :=
  pyRun (wfSqrt o) o 0xC4 1 s (divBody o (fun _ b => sqrtOf b))

/-- CORDIC (R257). -/
def execCordic (o : PyOp) (s : State) : Host.Outcome State Fault Refusal :=
  pyRun (wfCordic o) o 0xC5 1 s (fun _ s =>
    let a := s.gNow o.p o.s
    let r := if o.imm = 0 then cordicSincos a else cordicAtan2 a (s.gNow o.p (o.s + 1))
    longG o .cordic [(o.d, r.1), (o.d + 1, r.2)] s)

/-- A long operation of the floating-point divider. -/
def fpLong (o : PyOp) (r : Word × Word) (s : State) : PyRes :=
  .ok 1 (s.startLong o ⟨.fpDivider, (s.core o.p).bank, [(.f o.d, r.1)], r.2⟩)

/-- FDIV. -/
def execFdiv (o : PyOp) (s : State) : Host.Outcome State Fault Refusal :=
  pyRun (wfFdiv o) o 0xC6 1 s (fun _ s => fpLong o (fdivOf (s.rm o.p) (s.fNow o.p o.d) (s.fNow o.p o.s)) s)

/-- FSQRT. -/
def execFsqrt (o : PyOp) (s : State) : Host.Outcome State Fault Refusal :=
  pyRun (wfFsqrt o) o 0xC7 1 s (fun _ s => fpLong o (fsqrtOf (s.rm o.p) (s.fNow o.p o.s)) s)

/-- PROG of the executing bank, replaced. -/
def State.setProg (s : State) (p : Nat) (v : Nat) : State :=
  s.modBank p (s.core p).bank (fun k => { k with prog := BitVec.ofNat 32 v })

/-- What an element of a block instruction does (R258). -/
inductive ElemRes where
  /-- it completes, with what the instruction carries from element to element. -/
  | next (acc : Int) (s : State)
  /-- an exception: code, INFO and fault address. -/
  | fault (code info : Nat) (addr : Word) (s : State)
  /-- the core was reset meanwhile (R333). -/
  | gone (s : State)
  /-- its read waits for the flash (R380). -/
  | waits (s : State)

/-- A read of an element (R258, R230): `n` bytes, from the store buffer where `forward`. -/
def State.elemRead (s : State) (p a n : Nat) (forward : Bool) (k : Word → State → ElemRes) : ElemRes :=
  let code := s.dataCheck p (s.tenantCore p) (s.userCore p) a n .load
  if code ≠ 0 then .fault code 0 (faultAddr code a) s
  else match s.readNow p a n forward with
    | (.val v, s) => k v s
    | (.bad, s) => .fault 10 0 (BitVec.ofNat 32 a) s
    | (.gone, s) => .gone s
    | (.waits, s) => .waits s

/-- A block instruction in progress (R258, R259). -/
structure Block where
  /-- issue slots of an element: one for each port access (R276). -/
  slots : Nat
  /-- element k, from what is carried. -/
  elem : Nat → Int → State → ElemRes
  /-- what is carried, written back where the instruction stops before its end. -/
  save : Int → State → State
  /-- the end. -/
  close : Int → State → State

/-- The elements from `k` on (R259): at an exception or a taken request PROG records the elements completed; at the end PROG
becomes 0. `n` elements run before a request is taken; at an element that waits the core stands. -/
def Block.run (b : Block) (o : PyOp) (total : Nat) : Nat → Nat → Int → State → PyRes
  | n, k, acc, s =>
    if total ≤ k then .ok 0 ((b.close acc s).setProg o.p 0)
    else match n with
      | 0 => .left ((b.save acc s).setProg o.p (2 ^ 31 + k))
      | n + 1 =>
        match b.elem k acc s with
        | .next acc s => b.run o total n (k + 1) acc (s.slots o.p b.slots)
        | .fault code info a s => .exc code info a ((b.save acc s).setProg o.p (2 ^ 31 + k))
        | .gone s => .stay s
        | .waits s => .stay ((b.save acc s).setProg o.p (2 ^ 31 + k))

/-- A BLOCK INSTRUCTION (R258, R259): the count in GN[23:0], from element PROG.ELEM where it was interrupted. -/
def blockBody (o : PyOp) (acc : Int) (b : Block) (s : State) : PyRes :=
  let total := (s.gNow o.p o.n).toNat % 2 ^ 24
  let prog := (s.bankOf o.p (s.core o.p).bank).prog
  let k := if wbit prog 31 then getBits prog 23 0 else 0
  if total ≤ k then .ok 1 ((b.close acc s).setProg o.p 0)
  else b.run o total (match o.stop with
    | some n => min n (total - k)
    | none => total - k) k acc s

/-- BMOV (R258): words copied in ascending order. -/
def execBmov (o : PyOp) (s : State) : Host.Outcome State Fault Refusal :=
  pyRun (wfBmov o) o 0xD0 1 s (fun _ s =>
    let from_ := s.gNow o.p o.s
    let to_ := s.gNow o.p o.d
    blockBody o 0 {
      slots := 2
      elem := fun k _ s =>
        s.elemRead o.p (from_ + BitVec.ofNat 32 (4 * k)).toNat 4 true (fun v s =>
          let a := (to_ + BitVec.ofNat 32 (4 * k)).toNat
          match s.storeCheck o.p a 4 v with
          | (0, s) => .next 0 (s.pushStoreAt o.p 1 ⟨a, leBytes 4 v.toNat, s.tenantCore o.p⟩)
          | (code, s) => .fault code 1 (faultAddr code a) s)
      save := fun _ s => s
      close := fun _ s => s } s)

/-- VMAC (R258, R259, R261): the accumulator pair is written at the end by the MAC unit, and at once where the instruction
stops before; Q sets with the element that saturates. -/
def execVmac (o : PyOp) (s : State) : Host.Outcome State Fault Refusal :=
  pyRun (wfVmac o) o 0xD1 1 s (fun _ s =>
    let a0 := s.gNow o.p o.s
    let b0 := s.gNow o.p o.t
    let acc := sext 64 ((s.gNow o.p (o.d + 1)).toNat * 2 ^ 32 + (s.gNow o.p o.d).toNat)
    let bank := (s.core o.p).bank
    let pair (x : Int) := (BitVec.ofNat 32 (wrapN 64 x), BitVec.ofNat 32 (wrapN 64 x / 2 ^ 32))
    blockBody o acc {
      slots := 2
      elem := fun k acc s =>
        s.elemRead o.p (a0 + BitVec.ofNat 32 (4 * k)).toNat 4 true (fun x s =>
          s.elemRead o.p (b0 + BitVec.ofNat 32 (4 * k)).toNat 4 true (fun y s =>
            let r := macStep o.pfx.sat acc x y
            .next r.1 (if r.2 then s.modCore o.p (fun c => c.write (.status bank stQ) stQ) else s)))
      save := fun acc s => (s.setG o.p bank o.d (pair acc).1).setG o.p bank (o.d + 1) (pair acc).2
      close := fun acc s =>
        s.startLong o ⟨.mac, bank, [(.g bank o.d, (pair acc).1), (.g bank (o.d + 1), (pair acc).2)], 0⟩ } s)

/-- Buffered stores over a word and every accepted write to memory are performed before the word is read (R282). -/
def State.settled (s : State) (p a : Nat) : State := (s.retireOverlap p a 4).deliverMem p

/-- The stored word at an address has a single error, which a read corrects (R286). -/
def State.correctable (s : State) (p a : Nat) : Bool :=
  let k := physOf p (a / 4 * 4)
  (match areaOf k with
   | .peer _ => true
   | .sys => true
   | .cap => true
   | _ => false) && flipCount (s.flipsAt k) == 1

/-- BSCAN (R258, R289): each word is read, never from the store buffer, and the words corrected are counted. -/
def execBscan (o : PyOp) (s : State) : Host.Outcome State Fault Refusal :=
  pyRun (wfBscan o) o 0xD2 1 s (fun _ s =>
    let a0 := s.gNow o.p o.s
    let bank := (s.core o.p).bank
    blockBody o 0 {
      slots := 1
      elem := fun k _ s =>
        let a := (a0 + BitVec.ofNat 32 (4 * k)).toNat
        let s := if s.dataCheck o.p (s.tenantCore o.p) (s.userCore o.p) a 4 .load = 0 then s.settled o.p a else s
        let n := s.correctable o.p a
        s.elemRead o.p a 4 false (fun _ s =>
          .next 0 (if n then s.setG o.p bank o.d (s.gNow o.p o.d + 1) else s))
      save := fun _ s => s
      close := fun _ s => s } s)

/-- CRCB (R258): a byte an element; Gd holds the CRC after each. -/
def execCrcb (o : PyOp) (s : State) : Host.Outcome State Fault Refusal :=
  pyRun (wfCrcb o) o 0xD3 1 s (fun _ s =>
    let a0 := s.gNow o.p o.s
    let bank := (s.core o.p).bank
    blockBody o 0 {
      slots := 1
      elem := fun k _ s =>
        s.elemRead o.p (a0 + BitVec.ofNat 32 k).toNat 1 true (fun v s =>
          .next 0 (s.setG o.p bank o.d (crcStep o.t (s.gNow o.p o.d) (BitVec.ofNat 8 v.toNat))))
      save := fun _ s => s
      close := fun _ s => s } s)

end Sys2Proof.Machine
end

