-- ==== Sys2Proof/Machine/Dispatch.lean ====
section
/-! DEFINITION. Dispatch: one arm for each command. -/

namespace Sys2Proof.Machine

/-- A command's effect on everything but the queue. -/
def exec (i : Instr) (s : State) : Host.Outcome State Fault Refusal :=
  match i with
  | .tick t => Sys2Proof.Machine.execTick t s
  | .swapWindow => Sys2Proof.Machine.execSwapWindow s
  | .modeSwitch => Sys2Proof.Machine.execModeSwitch s
  | .baseGridInstant => Sys2Proof.Machine.execBaseGridInstant s
  | .carrierPeriodStart n => Sys2Proof.Machine.execCarrierPeriodStart n s
  | .pllLock k => Sys2Proof.Machine.execPllLock k s
  | .dlcalDone => Sys2Proof.Machine.execDlcalDone s
  | .xinLoss => Sys2Proof.Machine.execXinLoss s
  | .xinReturn => Sys2Proof.Machine.execXinReturn s
  | .holdoverLimit => Sys2Proof.Machine.execHoldoverLimit s
  | .enginePllFault => Sys2Proof.Machine.execEnginePllFault s
  | .tbuCompare n => Sys2Proof.Machine.execTbuCompare n s
  | .tbcRead w sub => Sys2Proof.Machine.execTbcRead w sub s
  | .bgcRead w => Sys2Proof.Machine.execBgcRead w s
  | .portSymbolsDetected p => Sys2Proof.Machine.execPortSymbolsDetected p s
  | .portTrained p => Sys2Proof.Machine.execPortTrained p s
  | .portMeasured p trips turn => Sys2Proof.Machine.execPortMeasured p trips turn s
  | .portDown p miss viol => Sys2Proof.Machine.execPortDown p miss viol s
  | .tickMarkerRx p lag => Sys2Proof.Machine.execTickMarkerRx p lag s
  | .announceTimer => Sys2Proof.Machine.execAnnounceTimer s
  | .announceRx p frame => Sys2Proof.Machine.execAnnounceRx p frame s
  | .announceTimeout p => Sys2Proof.Machine.execAnnounceTimeout p s
  | .timeFrameRx p frame => Sys2Proof.Machine.execTimeFrameRx p frame s
  | .dutyFrameRx p frame => Sys2Proof.Machine.execDutyFrameRx p frame s
  | .dutyApply n ofs => Sys2Proof.Machine.execDutyApply n ofs s
  | .dutyFrameTimeout n => Sys2Proof.Machine.execDutyFrameTimeout n s
  | .spanlossRx p frame => Sys2Proof.Machine.execSpanlossRx p frame s
  | .rejoin w n => Sys2Proof.Machine.execRejoin w n s
  | .messageQueue w tail => Sys2Proof.Machine.execMessageQueue w tail s
  | .messageRx p frame => Sys2Proof.Machine.execMessageRx p frame s
  | .ackRx p seq src => Sys2Proof.Machine.execAckRx p seq src s
  | .ackTimeout p => Sys2Proof.Machine.execAckTimeout p s
  | .flkCommitLock w => Sys2Proof.Machine.execFlkCommitLock w s
  | .phaCommitLock w => Sys2Proof.Machine.execPhaCommitLock w s
  | .anvCommitLock w => Sys2Proof.Machine.execAnvCommitLock w s
  | .rlcCommitLock w => Sys2Proof.Machine.execRlcCommitLock w s
  | .icuCommitLock w => Sys2Proof.Machine.execIcuCommitLock w s
  | .hifCommitLock w => Sys2Proof.Machine.execHifCommitLock w s
  | .commitUnlock w b => Sys2Proof.Machine.execCommitUnlock w b s
  | .senDelayEnd g => Sys2Proof.Machine.execSenDelayEnd g s
  | .stageAbsent n => Sys2Proof.Machine.execStageAbsent n s
  | .stagePresent n => Sys2Proof.Machine.execStagePresent n s
  | .stageFault n above => Sys2Proof.Machine.execStageFault n above s
  | .ocTrip n since => Sys2Proof.Machine.execOcTrip n since s
  | .phaseAdd w n => Sys2Proof.Machine.execPhaseAdd w n s
  | .phaseShed w n => Sys2Proof.Machine.execPhaseShed w n s
  | .phaseRemove w n => Sys2Proof.Machine.execPhaseRemove w n s
  | .phaseRestore w n => Sys2Proof.Machine.execPhaseRestore w n s
  | .governorAdd r => Sys2Proof.Machine.execGovernorAdd r s
  | .governorShed r => Sys2Proof.Machine.execGovernorShed r s
  | .readd r ch => Sys2Proof.Machine.execReadd r ch s
  | .readdHoldEnd r => Sys2Proof.Machine.execReaddHoldEnd r s
  | .blendEnd n => Sys2Proof.Machine.execBlendEnd n s
  | .tempConversion k raw st => Sys2Proof.Machine.execTempConversion k raw st s
  | .tallyInject w c => Sys2Proof.Machine.execTallyInject w c s
  | .capStatRead w => Sys2Proof.Machine.execCapStatRead w s
  | .calUpdate => Sys2Proof.Machine.execCalUpdate s
  | .offsetEstimate k => Sys2Proof.Machine.execOffsetEstimate k s
  | .zofsLearn n => Sys2Proof.Machine.execZofsLearn n s
  | .domainGainWindow d => Sys2Proof.Machine.execDomainGainWindow d s
  | .lrEstimate n => Sys2Proof.Machine.execLrEstimate n s
  | .pleanEvent l ch => Sys2Proof.Machine.execPleanEvent l ch s
  | .preleanEnd l => Sys2Proof.Machine.execPreleanEnd l s
  | .sloadEvent l ch => Sys2Proof.Machine.execSloadEvent l ch s
  | .trigPlean w l => Sys2Proof.Machine.execTrigPlean w l s
  | .trigSload w l => Sys2Proof.Machine.execTrigSload w l s
  | .swapRequest w l ld => Sys2Proof.Machine.execSwapRequest w l ld s
  | .swapAllbound w ld => Sys2Proof.Machine.execSwapAllbound w ld s
  | .swapCancel w l all => Sys2Proof.Machine.execSwapCancel w l all s
  | .shadowWrite w l k v => Sys2Proof.Machine.execShadowWrite w l k v s
  | .bankCheck => Sys2Proof.Machine.execBankCheck s
  | .faultedClear w l => Sys2Proof.Machine.execFaultedClear w l s
  | .snapshotRequest w l => Sys2Proof.Machine.execSnapshotRequest w l s
  | .droopCrossing r => Sys2Proof.Machine.execDroopCrossing r s
  | .releaseCrossing r => Sys2Proof.Machine.execReleaseCrossing r s
  | .maxonExpiry n => Sys2Proof.Machine.execMaxonExpiry n s
  | .lockoutEnd r => Sys2Proof.Machine.execLockoutEnd r s
  | .overshootCrossing r => Sys2Proof.Machine.execOvershootCrossing r s
  | .overshootRelease r => Sys2Proof.Machine.execOvershootRelease r s
  | .ovmaxExpiry r => Sys2Proof.Machine.execOvmaxExpiry r s
  | .warnAssert k => Sys2Proof.Machine.execWarnAssert k s
  | .plarm r => Sys2Proof.Machine.execPlarm r s
  | .plarmEnd r => Sys2Proof.Machine.execPlarmEnd r s
  | .protectionAction x => Sys2Proof.Machine.execProtectionAction x s
  | .protectionWarn x => Sys2Proof.Machine.execProtectionWarn x s
  | .blwQuench r => Sys2Proof.Machine.execBlwQuench r s
  | .blwQuenchDev => Sys2Proof.Machine.execBlwQuenchDev s
  | .quenchRailCommand w r => Sys2Proof.Machine.execQuenchRailCommand w r s
  | .quenchDeviceCommand w => Sys2Proof.Machine.execQuenchDeviceCommand w s
  | .hiccupEnd r => Sys2Proof.Machine.execHiccupEnd r s
  | .retryCountClear r => Sys2Proof.Machine.execRetryCountClear r s
  | .phaseHiccupEnd n => Sys2Proof.Machine.execPhaseHiccupEnd n s
  | .phaseRetryClear n => Sys2Proof.Machine.execPhaseRetryClear n s
  | .latchClear w v => Sys2Proof.Machine.execLatchClear w v s
  | .tonDelayEnd r => Sys2Proof.Machine.execTonDelayEnd r s
  | .toffDelayEnd r => Sys2Proof.Machine.execToffDelayEnd r s
  | .groupOn w g => Sys2Proof.Machine.execGroupOn w g s
  | .groupOff w g => Sys2Proof.Machine.execGroupOff w g s
  | .frefWrite w r v => Sys2Proof.Machine.execFrefWrite w r v s
  | .frefAtRelease r => Sys2Proof.Machine.execFrefAtRelease r s
  | .hrefWrite w r v => Sys2Proof.Machine.execHrefWrite w r v s
  | .avsTargetVoltageWrite o => Sys2Proof.Machine.execAvsTargetVoltageWrite o s
  | .avsWriteAndHold o => Sys2Proof.Machine.execAvsWriteAndHold o s
  | .avsTargetVoltageRead o => Sys2Proof.Machine.execAvsTargetVoltageRead o s
  | .avsTransitionRate o => Sys2Proof.Machine.execAvsTransitionRate o s
  | .avsRailCurrent o => Sys2Proof.Machine.execAvsRailCurrent o s
  | .avsRailTemperature o => Sys2Proof.Machine.execAvsRailTemperature o s
  | .avsResetVoltage o => Sys2Proof.Machine.execAvsResetVoltage o s
  | .avsStatus o => Sys2Proof.Machine.execAvsStatus o s
  | .avsVersion o => Sys2Proof.Machine.execAvsVersion o s
  | .avsUnsupported o => Sys2Proof.Machine.execAvsUnsupported o s
  | .pageCmd o => Sys2Proof.Machine.execPageCmd o s
  | .operationOn o => Sys2Proof.Machine.execOperationOn o s
  | .operationOff o => Sys2Proof.Machine.execOperationOff o s
  | .operationImmediateOff o => Sys2Proof.Machine.execOperationImmediateOff o s
  | .operationMarginLow o => Sys2Proof.Machine.execOperationMarginLow o s
  | .operationMarginHigh o => Sys2Proof.Machine.execOperationMarginHigh o s
  | .onOffConfig o => Sys2Proof.Machine.execOnOffConfig o s
  | .clearFaults o => Sys2Proof.Machine.execClearFaults o s
  | .writeProtect o => Sys2Proof.Machine.execWriteProtect o s
  | .storeUserAll o => Sys2Proof.Machine.execStoreUserAll o s
  | .restoreUserAll o => Sys2Proof.Machine.execRestoreUserAll o s
  | .capability o => Sys2Proof.Machine.execCapability o s
  | .voutMode o => Sys2Proof.Machine.execVoutMode o s
  | .voutCommand o => Sys2Proof.Machine.execVoutCommand o s
  | .voutMax o => Sys2Proof.Machine.execVoutMax o s
  | .voutMin o => Sys2Proof.Machine.execVoutMin o s
  | .voutMarginHigh o => Sys2Proof.Machine.execVoutMarginHigh o s
  | .voutMarginLow o => Sys2Proof.Machine.execVoutMarginLow o s
  | .voutTransitionRate o => Sys2Proof.Machine.execVoutTransitionRate o s
  | .voutDroop o => Sys2Proof.Machine.execVoutDroop o s
  | .voutScaleLoop o => Sys2Proof.Machine.execVoutScaleLoop o s
  | .voutOvFaultLimit o => Sys2Proof.Machine.execVoutOvFaultLimit o s
  | .voutUvFaultLimit o => Sys2Proof.Machine.execVoutUvFaultLimit o s
  | .voutOvWarnLimit o => Sys2Proof.Machine.execVoutOvWarnLimit o s
  | .voutUvWarnLimit o => Sys2Proof.Machine.execVoutUvWarnLimit o s
  | .voutOvFaultResponse o => Sys2Proof.Machine.execVoutOvFaultResponse o s
  | .voutUvFaultResponse o => Sys2Proof.Machine.execVoutUvFaultResponse o s
  | .ioutOcFaultLimit o => Sys2Proof.Machine.execIoutOcFaultLimit o s
  | .ioutOcWarnLimit o => Sys2Proof.Machine.execIoutOcWarnLimit o s
  | .ioutOcFaultResponse o => Sys2Proof.Machine.execIoutOcFaultResponse o s
  | .otFaultLimit o => Sys2Proof.Machine.execOtFaultLimit o s
  | .otWarnLimit o => Sys2Proof.Machine.execOtWarnLimit o s
  | .otFaultResponse o => Sys2Proof.Machine.execOtFaultResponse o s
  | .vinOvFaultLimit o => Sys2Proof.Machine.execVinOvFaultLimit o s
  | .vinUvFaultLimit o => Sys2Proof.Machine.execVinUvFaultLimit o s
  | .tonDelay o => Sys2Proof.Machine.execTonDelay o s
  | .tonRise o => Sys2Proof.Machine.execTonRise o s
  | .toffDelay o => Sys2Proof.Machine.execToffDelay o s
  | .toffFall o => Sys2Proof.Machine.execToffFall o s
  | .statusByte o => Sys2Proof.Machine.execStatusByte o s
  | .statusWord o => Sys2Proof.Machine.execStatusWord o s
  | .statusVout o => Sys2Proof.Machine.execStatusVout o s
  | .statusIout o => Sys2Proof.Machine.execStatusIout o s
  | .statusInput o => Sys2Proof.Machine.execStatusInput o s
  | .statusTemperature o => Sys2Proof.Machine.execStatusTemperature o s
  | .statusCml o => Sys2Proof.Machine.execStatusCml o s
  | .statusMfrSpecific o => Sys2Proof.Machine.execStatusMfrSpecific o s
  | .readVin o => Sys2Proof.Machine.execReadVin o s
  | .readVout o => Sys2Proof.Machine.execReadVout o s
  | .readIout o => Sys2Proof.Machine.execReadIout o s
  | .readTemperature1 o => Sys2Proof.Machine.execReadTemperature1 o s
  | .readTemperature2 o => Sys2Proof.Machine.execReadTemperature2 o s
  | .readPout o => Sys2Proof.Machine.execReadPout o s
  | .pmbusRevision o => Sys2Proof.Machine.execPmbusRevision o s
  | .mfrId o => Sys2Proof.Machine.execMfrId o s
  | .mfrModel o => Sys2Proof.Machine.execMfrModel o s
  | .mfrRevision o => Sys2Proof.Machine.execMfrRevision o s
  | .mfrPhaseCmd o => Sys2Proof.Machine.execMfrPhaseCmd o s
  | .mfrPhaseCount o => Sys2Proof.Machine.execMfrPhaseCount o s
  | .mfrBellowsCount o => Sys2Proof.Machine.execMfrBellowsCount o s
  | .mfrLatchClear o => Sys2Proof.Machine.execMfrLatchClear o s
  | .mfrRefInForce o => Sys2Proof.Machine.execMfrRefInForce o s
  | .mfrTbc o => Sys2Proof.Machine.execMfrTbc o s
  | .mfrFaultLog o => Sys2Proof.Machine.execMfrFaultLog o s
  | .alertResponse q => Sys2Proof.Machine.execAlertResponse q s
  | .pmbusUnsupported o => Sys2Proof.Machine.execPmbusUnsupported o s
  | .pmbusSclTimeout q => Sys2Proof.Machine.execPmbusSclTimeout q s
  | .channelForward g => Sys2Proof.Machine.execChannelForward g s
  | .delayElementFire n => Sys2Proof.Machine.execDelayElementFire n s
  | .oneShotEnd n => Sys2Proof.Machine.execOneShotEnd n s
  | .consumerFire w k => Sys2Proof.Machine.execConsumerFire w k s
  | .evfCommitGo w => Sys2Proof.Machine.execEvfCommitGo w s
  | .evfCommitCheck => Sys2Proof.Machine.execEvfCommitCheck s
  | .evioInputEdge k lvl => Sys2Proof.Machine.execEvioInputEdge k lvl s
  | .evioOutput k => Sys2Proof.Machine.execEvioOutput k s
  | .evioPulseEnd k => Sys2Proof.Machine.execEvioPulseEnd k s
  | .icuSourceEdge src => Sys2Proof.Machine.execIcuSourceEdge src s
  | .icuSoftwareSet w k1 v => Sys2Proof.Machine.execIcuSoftwareSet w k1 v s
  | .interruptEntry p => Sys2Proof.Machine.execInterruptEntry p s
  | .taskActivation p => Sys2Proof.Machine.execTaskActivation p s
  | .slotEnable w p sl => Sys2Proof.Machine.execSlotEnable w p sl s
  | .coreReset w p key => Sys2Proof.Machine.execCoreReset w p key s
  | .dozeWake p => Sys2Proof.Machine.execDozeWake p s
  | .longOpComplete p u => Sys2Proof.Machine.execLongOpComplete p u s
  | .storeBufferRetire p => Sys2Proof.Machine.execStoreBufferRetire p s
  | .mergeBufferFlush p => Sys2Proof.Machine.execMergeBufferFlush p s
  | .remoteAccess q x => Sys2Proof.Machine.execRemoteAccess q x s
  | .interconnectResponse p ok => Sys2Proof.Machine.execInterconnectResponse p ok s
  | .ucFetchFault p a ill => Sys2Proof.Machine.execUcFetchFault p a ill s
  | .ucLoad w p half => Sys2Proof.Machine.execUcLoad w p half s
  | .ucVerify w p half => Sys2Proof.Machine.execUcVerify w p half s
  | .ucSwitch w p half => Sys2Proof.Machine.execUcSwitch w p half s
  | .ucCopy w p half => Sys2Proof.Machine.execUcCopy w p half s
  | .ucCommandDone p => Sys2Proof.Machine.execUcCommandDone p s
  | .ucSwitchTake p => Sys2Proof.Machine.execUcSwitchTake p s
  | .patchWrite w p v => Sys2Proof.Machine.execPatchWrite w p v s
  | .patchLock w p => Sys2Proof.Machine.execPatchLock w p s
  | .memInject w p v => Sys2Proof.Machine.execMemInject w p v s
  | .addOp o => Sys2Proof.Machine.execAddOp o s
  | .subOp o => Sys2Proof.Machine.execSubOp o s
  | .andOp o => Sys2Proof.Machine.execAndOp o s
  | .orOp o => Sys2Proof.Machine.execOrOp o s
  | .xorOp o => Sys2Proof.Machine.execXorOp o s
  | .shl o => Sys2Proof.Machine.execShl o s
  | .shr o => Sys2Proof.Machine.execShr o s
  | .sar o => Sys2Proof.Machine.execSar o s
  | .ror o => Sys2Proof.Machine.execRor o s
  | .cmp o => Sys2Proof.Machine.execCmp o s
  | .tst o => Sys2Proof.Machine.execTst o s
  | .mov o => Sys2Proof.Machine.execMov o s
  | .adc o => Sys2Proof.Machine.execAdc o s
  | .sbc o => Sys2Proof.Machine.execSbc o s
  | .minOp o => Sys2Proof.Machine.execMinOp o s
  | .maxOp o => Sys2Proof.Machine.execMaxOp o s
  | .mul o => Sys2Proof.Machine.execMul o s
  | .mulh o => Sys2Proof.Machine.execMulh o s
  | .mulhu o => Sys2Proof.Machine.execMulhu o s
  | .qmul o => Sys2Proof.Machine.execQmul o s
  | .qmul15 o => Sys2Proof.Machine.execQmul15 o s
  | .add15 o => Sys2Proof.Machine.execAdd15 o s
  | .sub15 o => Sys2Proof.Machine.execSub15 o s
  | .clz o => Sys2Proof.Machine.execClz o s
  | .popc o => Sys2Proof.Machine.execPopc o s
  | .bfx o => Sys2Proof.Machine.execBfx o s
  | .bfxs o => Sys2Proof.Machine.execBfxs o s
  | .bfi o => Sys2Proof.Machine.execBfi o s
  | .rev o => Sys2Proof.Machine.execRev o s
  | .ldw o => Sys2Proof.Machine.execLdw o s
  | .ldh o => Sys2Proof.Machine.execLdh o s
  | .ldhu o => Sys2Proof.Machine.execLdhu o s
  | .ldb o => Sys2Proof.Machine.execLdb o s
  | .ldbu o => Sys2Proof.Machine.execLdbu o s
  | .stw o => Sys2Proof.Machine.execStw o s
  | .sth o => Sys2Proof.Machine.execSth o s
  | .stb o => Sys2Proof.Machine.execStb o s
  | .lea o => Sys2Proof.Machine.execLea o s
  | .ldwpc o => Sys2Proof.Machine.execLdwpc o s
  | .leapc o => Sys2Proof.Machine.execLeapc o s
  | .push o => Sys2Proof.Machine.execPush o s
  | .pop o => Sys2Proof.Machine.execPop o s
  | .pushm o => Sys2Proof.Machine.execPushm o s
  | .popm o => Sys2Proof.Machine.execPopm o s
  | .addm o => Sys2Proof.Machine.execAddm o s
  | .andm o => Sys2Proof.Machine.execAndm o s
  | .orm o => Sys2Proof.Machine.execOrm o s
  | .xorm o => Sys2Proof.Machine.execXorm o s
  | .xchg o => Sys2Proof.Machine.execXchg o s
  | .casw o => Sys2Proof.Machine.execCasw o s
  | .stwi o => Sys2Proof.Machine.execStwi o s
  | .btst o => Sys2Proof.Machine.execBtst o s
  | .bset o => Sys2Proof.Machine.execBset o s
  | .bclr o => Sys2Proof.Machine.execBclr o s
  | .bnot o => Sys2Proof.Machine.execBnot o s
  | .bld o => Sys2Proof.Machine.execBld o s
  | .bst o => Sys2Proof.Machine.execBst o s
  | .fadd o => Sys2Proof.Machine.execFadd o s
  | .fsub o => Sys2Proof.Machine.execFsub o s
  | .fmul o => Sys2Proof.Machine.execFmul o s
  | .fmin o => Sys2Proof.Machine.execFmin o s
  | .fmax o => Sys2Proof.Machine.execFmax o s
  | .fcmp o => Sys2Proof.Machine.execFcmp o s
  | .fmov o => Sys2Proof.Machine.execFmov o s
  | .fneg o => Sys2Proof.Machine.execFneg o s
  | .fabs o => Sys2Proof.Machine.execFabs o s
  | .fmtg o => Sys2Proof.Machine.execFmtg o s
  | .fmfg o => Sys2Proof.Machine.execFmfg o s
  | .fcvti o => Sys2Proof.Machine.execFcvti o s
  | .fcvtf o => Sys2Proof.Machine.execFcvtf o s
  | .fld o => Sys2Proof.Machine.execFld o s
  | .fst o => Sys2Proof.Machine.execFst o s
  | .bcc o => Sys2Proof.Machine.execBcc o s
  | .call o => Sys2Proof.Machine.execCall o s
  | .jmp o => Sys2Proof.Machine.execJmp o s
  | .callr o => Sys2Proof.Machine.execCallr o s
  | .ret o => Sys2Proof.Machine.execRet o s
  | .dbnz o => Sys2Proof.Machine.execDbnz o s
  | .mfsr o => Sys2Proof.Machine.execMfsr o s
  | .mtsr o => Sys2Proof.Machine.execMtsr o s
  | .syscall o => Sys2Proof.Machine.execSyscall o s
  | .brk o => Sys2Proof.Machine.execBrk o s
  | .rete o => Sys2Proof.Machine.execRete o s
  | .waitOp o => Sys2Proof.Machine.execWaitOp o s
  | .yield o => Sys2Proof.Machine.execYield o s
  | .fetchsync o => Sys2Proof.Machine.execFetchsync o s
  | .sync o => Sys2Proof.Machine.execSync o s
  | .nopOp o => Sys2Proof.Machine.execNopOp o s
  | .divOp o => Sys2Proof.Machine.execDivOp o s
  | .divu o => Sys2Proof.Machine.execDivu o s
  | .rem o => Sys2Proof.Machine.execRem o s
  | .remu o => Sys2Proof.Machine.execRemu o s
  | .sqrt o => Sys2Proof.Machine.execSqrt o s
  | .cordic o => Sys2Proof.Machine.execCordic o s
  | .fdiv o => Sys2Proof.Machine.execFdiv o s
  | .fsqrt o => Sys2Proof.Machine.execFsqrt o s
  | .bmov o => Sys2Proof.Machine.execBmov o s
  | .vmac o => Sys2Proof.Machine.execVmac o s
  | .bscan o => Sys2Proof.Machine.execBscan o s
  | .crcb o => Sys2Proof.Machine.execCrcb o s
  | .sqDoorbell q v => Sys2Proof.Machine.execSqDoorbell q v s
  | .descriptorFetch q f => Sys2Proof.Machine.execDescriptorFetch q f s
  | .hostNop q => Sys2Proof.Machine.execHostNop q s
  | .regw q e => Sys2Proof.Machine.execRegw q e s
  | .regr q e => Sys2Proof.Machine.execRegr q e s
  | .railVset q e => Sys2Proof.Machine.execRailVset q e s
  | .railOn q e => Sys2Proof.Machine.execRailOn q e s
  | .phaseCmd q e => Sys2Proof.Machine.execPhaseCmd q e s
  | .quench q e => Sys2Proof.Machine.execQuench q e s
  | .capture q e => Sys2Proof.Machine.execCapture q e s
  | .capDump q e => Sys2Proof.Machine.execCapDump q e s
  | .capRearm q e => Sys2Proof.Machine.execCapRearm q e s
  | .fwDescriptor q => Sys2Proof.Machine.execFwDescriptor q s
  | .fwCompletion w v => Sys2Proof.Machine.execFwCompletion w v s
  | .completionPost c => Sys2Proof.Machine.execCompletionPost c s
  | .cqHeadDoorbell q v => Sys2Proof.Machine.execCqHeadDoorbell q v s
  | .telemetryHeadDoorbell t v => Sys2Proof.Machine.execTelemetryHeadDoorbell t v s
  | .eventHeadDoorbell v => Sys2Proof.Machine.execEventHeadDoorbell v s
  | .ringRestart w x => Sys2Proof.Machine.execRingRestart w x s
  | .queueRestart w q => Sys2Proof.Machine.execQueueRestart w q s
  | .hostWorldLock w => Sys2Proof.Machine.execHostWorldLock w s
  | .eventRecordWrite => Sys2Proof.Machine.execEventRecordWrite s
  | .eventPost w => Sys2Proof.Machine.execEventPost w s
  | .telemetryRecord t => Sys2Proof.Machine.execTelemetryRecord t s
  | .linkRateChange gen width => Sys2Proof.Machine.execLinkRateChange gen width s
  | .captureTrigger k => Sys2Proof.Machine.execCaptureTrigger k s
  | .captureArm w => Sys2Proof.Machine.execCaptureArm w s
  | .captureDump w => Sys2Proof.Machine.execCaptureDump w s
  | .captureFreeze => Sys2Proof.Machine.execCaptureFreeze s
  | .dumpRecord => Sys2Proof.Machine.execDumpRecord s
  | .hostInterfaceReset kind bytes => Sys2Proof.Machine.execHostInterfaceReset kind bytes s
  | .linkUp gen width => Sys2Proof.Machine.execLinkUp gen width s
  | .coldReset => Sys2Proof.Machine.execColdReset s
  | .brownOut sup mv => Sys2Proof.Machine.execBrownOut sup mv s
  | .resetPin => Sys2Proof.Machine.execResetPin s
  | .watchdogExpiry => Sys2Proof.Machine.execWatchdogExpiry s
  | .kindleReset w key => Sys2Proof.Machine.execKindleReset w key s
  | .resetRelease => Sys2Proof.Machine.execResetRelease s
  | .kindle x => Sys2Proof.Machine.execKindle x s
  | .flashRead w => Sys2Proof.Machine.execFlashRead w s
  | .flashProgram w rbuf => Sys2Proof.Machine.execFlashProgram w rbuf s
  | .flashErase w => Sys2Proof.Machine.execFlashErase w s
  | .jappend w half => Sys2Proof.Machine.execJappend w half s
  | .flashOpDone err => Sys2Proof.Machine.execFlashOpDone err s
  | .otpProg w word => Sys2Proof.Machine.execOtpProg w word s
  | .otpAdvance w => Sys2Proof.Machine.execOtpAdvance w s
  | .otpOpDone ok => Sys2Proof.Machine.execOtpOpDone ok s
  | .mramRecordWrite => Sys2Proof.Machine.execMramRecordWrite s
  | .mramPost w => Sys2Proof.Machine.execMramPost w s
  | .runSecond => Sys2Proof.Machine.execRunSecond s
  | .holdRequest w => Sys2Proof.Machine.execHoldRequest w s
  | .holdExitRequest w => Sys2Proof.Machine.execHoldExitRequest w s
  | .holdLimit => Sys2Proof.Machine.execHoldLimit s
  | .qexit w => Sys2Proof.Machine.execQexit w s
  | .emberReq w => Sys2Proof.Machine.execEmberReq w s
  | .emberWake src => Sys2Proof.Machine.execEmberWake src s
  | .etimerMatch => Sys2Proof.Machine.execEtimerMatch s
  | .supplyDip sup mv => Sys2Proof.Machine.execSupplyDip sup mv s
  | .dipExit => Sys2Proof.Machine.execDipExit s
  | .watchdogEnable w => Sys2Proof.Machine.execWatchdogEnable w s
  | .watchdogKick w key => Sys2Proof.Machine.execWatchdogKick w key s
  | .watchdogWarn => Sys2Proof.Machine.execWatchdogWarn s
  | .mfuEdge m lv time => Sys2Proof.Machine.execMfuEdge m lv time s
  | .probeEdge m lvl sub => Sys2Proof.Machine.execProbeEdge m lvl sub s
  | .posRead w m => Sys2Proof.Machine.execPosRead w m s
  | .posWrite w m v => Sys2Proof.Machine.execPosWrite w m v s
  | .speedUpdate m time => Sys2Proof.Machine.execSpeedUpdate m time s
  | .pwmPeriodStart m => Sys2Proof.Machine.execPwmPeriodStart m s
  | .idcode => Sys2Proof.Machine.execIdcode s
  | .samplePreload cells => Sys2Proof.Machine.execSamplePreload cells s
  | .extest cells => Sys2Proof.Machine.execExtest cells s
  | .highz => Sys2Proof.Machine.execHighz s
  | .clamp => Sys2Proof.Machine.execClamp s
  | .bypass => Sys2Proof.Machine.execBypass s
  | .waimondInstruction code => Sys2Proof.Machine.execWaimondInstruction code s
  | .readClear w a => Sys2Proof.Machine.execReadClear w a s
  | .registerWrite w a v be poison => Sys2Proof.Machine.execRegisterWrite w a v be poison s
  | .delayreqRx p frame turn => Sys2Proof.Machine.execDelayreqRx p frame turn s
  | .illegalInstruction p => Sys2Proof.Machine.execIllegalInstruction p s
  | .d3hot on => Sys2Proof.Machine.execD3hot on s

end Sys2Proof.Machine
end

