-- ==== Sys2Proof/Machine/Codec.lean ====
section
/-! DEFINITION. The bytes of a Pyhorn instruction and their decoding (R241 to R244): prefixes, opcode, M byte, displacement, T byte, immediate. -/

namespace Sys2Proof.Machine

/-- The form that a code selects of its mnemonic (R244 to R251). -/
def formOf (c : Nat) : Nat :=
  if c < 0x40 then c % 4
  else if c ≤ 0x42 then c - 0x40
  else if c < 0x50 then 0
  else if c < 0x74 then c % 4
  else if 0x80 ≤ c ∧ c ≤ 0x82 then c - 0x80
  else if c = 0x89 then 1
  else if 0xA0 ≤ c ∧ c ≤ 0xAB then c % 2
  else 0

/-- The prefix bytes (R242), in one order of those allowed. -/
def pfxBytes (x : Pfx) : List Byte :=
  (if x.win then [0xE0] else []) ++ (if x.sat then [0xE1] else []) ++ (if x.rep then [0xE2] else [])
    ++ (if x.bitx then [0xE3] else []) ++ (if x.atom then [0xE4] else []) ++ (if x.det then [0xE5] else [])

/-- A number as `n` bytes, lowest first, in two's complement. -/
def intBytes (n : Nat) (x : Int) : List Byte := leBytes n (wrapN (8 * n) x)

/-- The bytes of an instruction (R241, R244, R248). -/
def encodePy (c : Nat) (o : PyOp) : List Byte :=
  let l := layoutOf c
  pfxBytes o.pfx
    ++ (if 0x100 ≤ c then [0xF0, BitVec.ofNat 8 (c - 0x100)] else [BitVec.ofNat 8 c])
    ++ (if l.m then [BitVec.ofNat 8 (o.d * 16 + o.s)] else [])
    ++ intBytes l.disp o.disp
    ++ (if l.t then [BitVec.ofNat 8 (o.t * 16 + o.n)] else [])
    ++ intBytes l.imm o.imm

/-- A prefix with one more byte counted in (R242); none for a repeated one (R243). -/
def addPfx (x : Pfx) (b : Nat) : Option Pfx :=
  match b with
  | 0xE0 => if x.win then none else some { x with win := true }
  | 0xE1 => if x.sat then none else some { x with sat := true }
  | 0xE2 => if x.rep then none else some { x with rep := true }
  | 0xE3 => if x.bitx then none else some { x with bitx := true }
  | 0xE4 => if x.atom then none else some { x with atom := true }
  | 0xE5 => if x.det then none else some { x with det := true }
  | _ => none

/-- The prefixes at the head of a byte string, and the rest (R242). -/
def takePfx : Pfx → List Byte → Option (Pfx × List Byte)
  | _, [] => none
  | x, b :: bs =>
    if 0xE0 ≤ b.toNat ∧ b.toNat ≤ 0xE5 then
      match addPfx x b.toNat with
      | some x => takePfx x bs
      | none => none
    else some (x, b :: bs)

/-- `n` bytes at the head of a byte string, and the rest. -/
def takeBytes : Nat → List Byte → Option (List Byte × List Byte)
  | 0, bs => some ([], bs)
  | _ + 1, [] => none
  | n + 1, b :: bs => (takeBytes n bs).map (fun r => (b :: r.1, r.2))

/-- A number that `n` bytes spell, signed where `sg`. -/
def intOf (sg : Bool) (n : Nat) (bs : List Byte) : Int := if sg then (if n = 0 then 0 else sext (8 * n) (ofLe bs)) else ofLe bs

/-- The opcode at the head of a byte string: its code, and the rest (R244, R248). -/
def takeCode : List Byte → Option (Nat × List Byte)
  | [] => none
  | b :: bs =>
    if b.toNat = 0xF0 then
      match bs with
      | [] => none
      | q :: qs => some (0x100 + q.toNat, qs)
    else some (b.toNat, bs)

/-- THE DECODER (R241 to R244): code, operands and the bytes that follow; none for a repeated prefix, more than four
prefixes, an undefined opcode or page byte, or too few bytes. Reserved forms and field rules are `legal`. -/
def decodePy (bs : List Byte) : Option ((Nat × PyOp) × List Byte) :=
  match takePfx {} bs with
  | none => none
  | some (x, bs) =>
    if 4 < pfxCount x then none
    else match takeCode bs with
      | none => none
      | some (c, bs) =>
        if !codeOk c then none
        else
          let l := layoutOf c
          match takeBytes (b2n l.m) bs with
          | none => none
          | some (m, bs) => match takeBytes l.disp bs with
            | none => none
            | some (dv, bs) => match takeBytes (b2n l.t) bs with
              | none => none
              | some (t, bs) => match takeBytes l.imm bs with
                | none => none
                | some (iv, bs) =>
                  let o : PyOp := {
                    pfx := x
                    form := formOf c
                    d := ofLe m / 16
                    s := ofLe m % 16
                    t := ofLe t / 16
                    n := ofLe t % 16
                    disp := intOf true l.disp dv
                    imm := intOf (immSigned c) l.imm iv }
                  some ((c, o), bs)

end Sys2Proof.Machine
end

