-- ==== Sys2Proof/Safety.lean ====
section
/-! DEFINITION. Safe runs: what a run that neither faults nor refuses means, and when a command meets nothing that turns it away, in the terms the statements use. -/

namespace Sys2Proof.Machine

/-- The command takes effect: exec answers a next state. -/
def Completes (i : Instr) (s : State) : Prop := ∃ t, exec i s = .next t

/-- Every sparse map of the state is in its canonical form. -/
def State.mapsWf (s : State) : Bool :=
  memWf s.mem && spWf resetVal s.regs && spWf (fun _ => (0 : BitVec 39)) s.flips

/-- The lists of the machine have their lengths: 6 cores of 16 banks of 16 G registers with 16 F registers, 32 rail slots, 256
fuses; and its maps are in canonical form. -/
def State.shaped (s : State) : Bool :=
  s.mapsWf && s.cores.length == 6
    && s.cores.all (fun c => c.banks.length == 16 && c.banks.all (fun k => k.g.length == 16) && c.f.length == 16)
    && s.rlc.rails.length == 32 && s.nvc.fuse.length == 256

/-- `t` with the queue of `s`. -/
def State.keep (t s : State) : State := t.withPending s.pending

/-- The world rules let a register write through (R8, R228, R232, R343). -/
def State.may (s : State) (w : Who) (a : Nat) (v : Word) : Bool :=
  match w with
  | .tlaell => true
  | .host => s.memOn && !(s.tenantWho .host && s.violates 6 a v)
  | .core p => s.issuing p && !(s.tenantCore p && s.violates p a v) && !s.userCore p

/-- The world rules let a register read through with its true answer (R8, R228). -/
def State.mayRead (s : State) (w : Who) (a : Nat) : Bool :=
  !(s.tenantWho w && (match regAt a with | some r => r.keeper | none => false))
    && (match w with | .core p => s.issuing p && !s.userCore p | .host => s.memOn | .tlaell => true)

/-- An AVSBus frame reaches rail `r` and no other with a good CRC (R181). -/
def State.avsOne (s : State) (o : AvsOp) (r : Nat) : Bool :=
  s.alive && o.wf && s.on (RLC_AVS_CFG.EN o.port) && !s.pinsIdle && o.crcOk
    && ((s.bump (RLC_AVS_STAT.FRAMES o.port)).avsRails o.port o.sel == [r])

/-- A PMBus transaction reaches a live port whose page is rail `r` (R184). -/
def State.pmbOn (s : State) (o : PmbOp) (r : Nat) : Bool :=
  s.alive && o.wf && s.on (RLC_PMB_CFG.EN o.q) && !s.pinsIdle && decide (r < 32) && s.get (RLC_PMB_STAT.PAGE o.q) == r

/-- A write of `width` data bytes that packet error check and WRITE_PROTECT let through gives page `r` what `f` answers, as
one instant of the device (R184). -/
def WritesPmb (i : PmbOp → Instr) (level width : Nat) (f : State → Nat → Nat → Option State) : Prop :=
  ∀ (o : PmbOp) (s t : State) (r : Nat), s.pmbOn o r = true → o.write = true → o.pec ≠ .bad →
    (o.pec = .absent → s.on (RLC_PMB_CFG.PECREQ o.q) = false) → s.wpAllows o.q level = true → o.data.length = width →
    f s r (ofLe o.data) = some t →
    exec (i o) s = .next (((s.instant (fun x => (f x r (ofLe o.data)).getD x)).tickClock).keep s)

/-- The command engine serves queue `q` next, whose oldest descriptor is `d` (R352). -/
def State.serves (s : State) (q : Nat) (d : Desc) : Bool :=
  s.settle.sqNext == some q && ((s.settle.sqOf q).fetched.head? == some d)

/-- Descriptor `d` of queue `q` has executed and completes with a status and result (R352, R353). -/
def State.finished (s : State) (q : Nat) (d : Desc) (status : Nat) (result : Word) : State :=
  (((s.executed q d).turn q).complete q status result).settle

/-- The state in which instruction `o`, of code `c`, issues: after its fetch and the waits for busy units (R256, R268). -/
def State.atIssue (s : State) (o : PyOp) (c : Nat) : State := (s.fetch o.p (opLen o c)).2.2.waitUnits o c

/-- The state in which it executes: the first instruction after an entry is no longer to come (R329). -/
def State.entered (s : State) (o : PyOp) (c : Nat) : State :=
  (s.atIssue o c).modCore o.p (fun k => { k with fresh := false })

/-- Service sequences of core `p` from an offset of the dispatch table run their words without a fault (R301, R307). -/
def State.serviceOk (s : State) (p off : Nat) : Bool := (s.seqFault p off).isNone

/-- Instruction `o`, of code `c`, is dispatched: its core may issue (R312, R332), no load is outstanding (R280), the fetch
waits for nothing and raises nothing (R268, R380), the encoding is legal where it stands (R243), and the floating-point set is on if it needs it (R219). -/
def State.reaches (s : State) (o : PyOp) (c : Nat) : Bool :=
  s.alive && o.wf && opFits o c && s.issuing o.p && (s.core o.p).pload.isNone && !s.fetchWaits o.p (opLen o c)
    && (s.fetch o.p (opLen o c)).1 == 0
    && legal o c ((s.fetch o.p (opLen o c)).2.2.core o.p).br.isSome
    && (!needsFp o c || wbit ((s.atIssue o c).status o.p) 15)

/-- The instruction executes as this manual says: it is dispatched, and the active microcode is Waimond's, with no word of it
that fails (R292). -/
def State.enters (s : State) (o : PyOp) (c : Nat) : Bool := s.reaches o c && (s.entered o c).asManual o c

end Sys2Proof.Machine
end

