-- ==== Sys2Proof/Certificates/Slice0/Obligations.lean ====
section
/-! DEFINITION. The statements for the provers, each a proposition over the model. -/

open Sys2Proof Sys2Proof.Machine

/-- In a live device a PLL lock sets its bit, and that of the engine PLL counts every power stage as absent; the loss of XIN sets HOLDOVER and XLOSS, fires its producer and judges the bellwether again, and its return ends HOLDOVER; a base-grid instant with the engine PLL locked advances the base-grid count by one, ends the servo correction, sends the markers, runs the master boundaries and starts the masters that wait for the grid; a captured mode change is taken at an allowed boundary; a compare unit that is enabled and reached clears its enable, fires in one instant with the units that fire in its base period, and has the idle depth of the cores judged again; reads of TBU_TBC_LO and TBU_BGC_LO latch and answer; the delay-line calibration sets DLCAL_OK and rearms the rails. Each equation gives the whole next state. -/
def Obligations.TimebaseRowsComplete : Prop :=
  (∀ s : State, s.alive = true →
    (s.on TBU_STAT.ENG_PLL_LOCK = false → exec (.pllLock 0) s = .next (((s.set TBU_STAT.ENG_PLL_LOCK 1).each
      (List.range 144) (fun x n => x.set (PHA_CH_STAT.PRESENT n) 0)).keep s))
    ∧ (s.on TBU_STAT.ENG_PLL_LOCK = true → exec (.pllLock 0) s = .next s)
    ∧ exec (.pllLock 1) s = .next ((s.set TBU_STAT.CORE_PLL_LOCK 1).keep s)
    ∧ exec (.pllLock 2) s = .next ((s.set TBU_STAT.FLOCK_PLL_LOCK 1).keep s)
    ∧ exec .dlcalDone s = .next (((s.set PHA_STAT.DLCAL_OK 1).each (List.range 32) State.rearm).keep s))
  ∧ (∀ s : State, s.alive = true → s.on TBU_STAT.HOLDOVER = false →
    exec .xinLoss s
      = .next (((((s.set TBU_STAT.HOLDOVER 1).set TBU_STAT.XLOSS 1).fire [hXloss]).choose).keep s))
  ∧ (∀ s : State, s.alive = true → s.on TBU_STAT.HOLDOVER = true →
    exec .xinReturn s = .next (((s.set TBU_STAT.HOLDOVER 0).choose).keep s))
  ∧ (∀ s : State, s.alive = true → s.on TBU_STAT.ENG_PLL_LOCK = true →
    ∃ t u v : State, exec .baseGridInstant s = .next t
      ∧ u = { s with evf := { s.evf with cmps := [] }, tbu := { s.tbu with
          now := s.tbu.now + (3200 + s.tbu.corr).toNat, corr := 0, bgc := s.tbu.bgc + 1 } }
      ∧ v = u.each u.upPorts (fun x p => x.emit (.marker p))
      ∧ t = ((v.each (List.range 32) (fun x r => x.masterBoundary r s.tbu.now v.tbu.now)).gridMasters).keep s)
  ∧ (∀ (s : State) (g : Bool), s.alive = true → s.tbu.modeCap = some g → s.flockTime % 4 = 0 →
    (g = true ∨ s.tbu.windowOpen = true) → s.mode ≠ modeHold → spWf resetVal s.regs = true →
    ∀ u : State, u = { s.setb TBU_STAT.MODE g with tbu := { s.tbu with modeCap := none } } →
    exec .modeSwitch s = .next ((if s.mode = modeRun ∨ s.mode = modeGraze
      then u.set PMU_STAT.MODE (if g then modeGraze else modeRun) else u).keep s))
  ∧ (∀ (s : State) (n : Nat), s.alive = true → n < 8 → s.bit TBU_CMP_CTL n = true → s.cmpReached n = true →
    exec (.tbuCompare n) s = .next ((((s.setBit TBU_CMP_CTL n false).fireCmp n).judgeIdle).keep s))
  ∧ (∀ (s : State) (w : Who) (sub : Nat), s.alive = true → w.wf = true → sub < s.tickCycles → s.mayRead w TBU_TBC_LO = true →
    exec (.tbcRead w sub) s
      = .next (((s.readTbc sub).2.emit (.read w TBU_TBC_LO (s.readTbc sub).1)).keep s))
  ∧ (∀ (s : State) (w : Who), s.alive = true → wfBgcRead w = true → s.mayRead w TBU_BGC_LO = true →
    exec (.bgcRead w) s = .next ((s.readBgc.2.emit (.read w TBU_BGC_LO s.readBgc.1)).keep s))

/-- A DOWN port that is enabled trains, measures and comes up with the delay of its sixteen round trips; four missing markers, more than eight violations or PORT_EN 0 take it down, and each violation counts; the loss of a PHY supply takes down a port in any state; a port that enters MEASURE sends its first delay request and each answer brings the next until the sixteenth round trip; a good delay request is answered; a good tick marker on the upstream port gives the phase error and drives the servo; ANNOUNCE is sent by timer, judged when received and forgotten at its timeout; a control frame that fails its check counts; the first good TIME frame after joining sets the flock offset; an acknowledge removes the frame at the head of its port and the next one goes out; a timeout resends the head up to three times, then drops and counts it. Of the model, not of the spec: the places of the fields in control frames (log entry 98); the delay rounded down, the request answered in MEASURE and PORT_EN 0 in TRAIN and MEASURE (log entry 18); one request at a time (log entry 141); no correction at a phase error of 0 (log entry 19); the phase error of a marker (log entry 99); and the next message frame only after the acknowledge (log entry 100). -/
def Obligations.FlockPortRowsComplete : Prop :=
  (∀ (s : State) (p : Nat), s.alive = true → p < 3 → s.portState p = 0 → nbit (s.get FLK_CTL.PORT_EN) p = true →
    exec (.portSymbolsDetected p) s = .next ((s.set (FLK_PORT_STAT.LSTATE p) 1).keep s))
  ∧ (∀ (s : State) (p : Nat), s.alive = true → p < 3 → s.portState p = 1 →
    exec (.portTrained p) s
      = .next ((((s.set (FLK_PORT_STAT.LSTATE p) 2).modFp p (fun x => { x with trips := 0 })).emit
        (.ctl p (ctlBytes ctlDelayreq []))).keep s))
  ∧ (∀ (s : State) (p trips turn : Nat), s.alive = true → wfPortMeasured p trips turn = true → s.portState p = 2 →
    exec (.portMeasured p trips turn) s
      = .next (((s.set (FLK_PORT_STAT.DELAY p) ((trips - 16 * turn) / 32)).set (FLK_PORT_STAT.LSTATE p) 3).keep s))
  ∧ (∀ (s : State) (p miss viol : Nat) (u : State), s.alive = true → p < 3 → u = s.bumpBy (FLK_PORT_ERR.CODE p) viol →
    u.portUp p = true → nbit (u.get FLK_CTL.PORT_EN) p = true →
    (4 ≤ miss ∨ 8 < viol → exec (.portDown p miss (some viol)) s = .next ((u.portFall p).keep s))
    ∧ (miss < 4 → viol ≤ 8 → exec (.portDown p miss (some viol)) s = .next (u.keep s)))
  ∧ (∀ (s : State) (p miss viol : Nat) (u : State), s.alive = true → p < 3 → u = s.bumpBy (FLK_PORT_ERR.CODE p) viol →
    u.portState p ≠ 0 → nbit (u.get FLK_CTL.PORT_EN) p = false →
    exec (.portDown p miss (some viol)) s = .next ((u.portFall p).keep s))
  ∧ (∀ (s : State) (p miss : Nat), s.alive = true → p < 3 → (s.bumpBy (FLK_PORT_ERR.CODE p) 0).portState p ≠ 0 →
    exec (.portDown p miss none) s = .next (((s.bumpBy (FLK_PORT_ERR.CODE p) 0).portFall p).keep s))
  ∧ (∀ (s : State) (p turn : Nat) (frame body : Bytes), s.alive = true → p < 3 → turn < 65536 → 2 ≤ s.portState p →
    ctlOfBytes frame = some (ctlDelayreq, body) → nbit (nth body 0 0).toNat 0 = false →
    exec (.delayreqRx p frame turn) s = .next ((s.emit (.ctl p (ctlBytes ctlDelayreq (1 :: beBytes 2 turn)))).keep s))
  ∧ (∀ (s u : State) (p turn : Nat) (frame body : Bytes), s.alive = true → p < 3 → turn < 65536 → 2 ≤ s.portState p →
    ctlOfBytes frame = some (ctlDelayreq, body) → nbit (nth body 0 0).toNat 0 = true →
    u = s.modFp p (fun x => { x with trips := x.trips + 1 }) →
    (s.portState p = 2 → (s.fp p).trips < 16 → (u.fp p).trips < 16 →
      exec (.delayreqRx p frame turn) s = .next ((u.emit (.ctl p (ctlBytes ctlDelayreq []))).keep s))
    ∧ (s.portState p = 2 → (s.fp p).trips < 16 → 16 ≤ (u.fp p).trips → exec (.delayreqRx p frame turn) s = .next (u.keep s))
    ∧ ((s.portState p ≠ 2 ∨ 16 ≤ (s.fp p).trips) → exec (.delayreqRx p frame turn) s = .next s))
  ∧ (∀ (s : State) (p lag : Nat) (err : Int), s.alive = true → p < 3 → lag < 3200 → s.portUp p = true →
    s.isUpstream p = true → err = s.phaseErr p lag → absI err < 16 → s.anyEnabled = true →
    ∃ t : State, exec (.tickMarkerRx p lag) s = .next t
      ∧ t.tbu.goodPeriods = min 64 (s.tbu.goodPeriods + 1) ∧ t.tbu.badPeriods = 0
      ∧ t.tbu.corr = (if 0 < err then -1 else if err < 0 then 1 else 0)
      ∧ t.regs = (if min 64 (s.tbu.goodPeriods + 1) = 64 then (s.seti TBU_PHERR.ERR err).set TBU_STAT.LOCK 1
          else s.seti TBU_PHERR.ERR err).regs)
  ∧ (∀ s : State, s.alive = true → exec .announceTimer s = .next (s.sendAnnounce.keep s))
  ∧ (∀ (s : State) (p : Nat) (frame body : Bytes), s.alive = true → p < 3 → s.portUp p = true →
    ctlOfBytes frame = some (ctlAnnounce, body) →
    exec (.announceRx p frame) s = .next ((s.heard p (announceOf body)).keep s)
    ∧ ((announceOf body).sender ≠ s.ownId →
      (∀ q b, q ∈ s.upPorts → q ≠ p → (s.fp q).ann = some b → b.sender = (announceOf body).sender →
        b.uniq = (announceOf body).uniq) →
      s.heard p (announceOf body) = (s.modFp p (fun x => { x with ann := some (announceOf body) })).choose))
  ∧ (∀ (s : State) (p : Nat) (frame : Bytes), s.alive = true → p < 3 → s.portUp p = true → ctlOfBytes frame = none →
    exec (.announceRx p frame) s = .next ((s.bump (FLK_PORT_ERR.CODE p)).keep s)
    ∧ exec (.timeFrameRx p frame) s = .next ((s.bump (FLK_PORT_ERR.CODE p)).keep s)
    ∧ exec (.spanlossRx p frame) s = .next ((s.bump (FLK_PORT_ERR.CODE p)).keep s)
    ∧ (∀ turn : Nat, turn < 65536 →
      exec (.delayreqRx p frame turn) s = .next ((s.bump (FLK_PORT_ERR.CODE p)).keep s)))
  ∧ (∀ (s : State) (p : Nat), s.alive = true → p < 3 → s.isUpstream p = true →
    exec (.announceTimeout p) s = .next (((s.modFp p (fun x => { x with ann := none })).choose).keep s))
  ∧ (∀ (s : State) (p : Nat) (frame body : Bytes), s.alive = true → p < 3 → s.portUp p = true →
    ctlOfBytes frame = some (ctlTime, body) → s.isUpstream p = true → s.tbu.needTime = true →
    ∃ t : State, exec (.timeFrameRx p frame) s = .next t
      ∧ t = (({ s with tbu := { s.tbu with
          fofs := BitVec.ofNat 64 (ofBe (bytesAt body 0 8)) - s.tbu.bgc, needTime := false } } : State).judgeIdle).keep s)
  ∧ (∀ (s : State) (p seq src : Nat) (f : MsgFrame) (k : Nat) (rest : List (MsgFrame × Nat)), s.alive = true →
    wfAckRx p seq src = true → (s.fp p).unacked = (f, k) :: rest → f.seq = seq → f.src = src →
    exec (.ackRx p seq src) s = .next (((s.modFp p (fun x => { x with unacked := x.unacked.drop 1 })).sendHead p).keep s))
  ∧ (∀ (s : State) (p : Nat) (f : MsgFrame) (k : Nat) (rest : List (MsgFrame × Nat)), s.alive = true → p < 3 →
    (s.fp p).unacked = (f, k) :: rest →
    exec (.ackTimeout p) s = .next ((if k < 3
      then (s.modFp p (fun x => { x with unacked := (f, k + 1) :: rest })).sendHead p
      else ((s.modFp p (fun x => { x with unacked := x.unacked.drop 1 })).sendHead p).msgDrop).keep s))

/-- On an UP port a frame whose CRC fails is counted and one for a follower span is kept; applying a duty frame of a live span takes it out, commits its on-time on an enabled follower rail, or with Q 1 puts the follower at mid level, and sends the frame on with h one higher while h is below 3; a missing frame of a live follower is counted, and the fourth in a row takes the rail to span loss; SPANLOSS on a port that is UP reaches the spans it names; REJOIN, the message queue and the two commit rows act under the world rules; a message that fails its check is counted. Of the model, not of the spec: a frame with h 3 is applied and not sent on, and missing frames count after the first good one (log entry 20); SPANLOSS goes out whatever the state of IN_PORT (log entry 136). -/
def Obligations.FlockFrameRowsComplete : Prop :=
  (∀ (s : State) (p : Nat) (f : Bytes), s.alive = true → wfDutyFrameRx p f = true → s.portUp p = true →
    (dutyOfBytes f = none → exec (.dutyFrameRx p f) s = .next ((s.bump (FLK_PORT_ERR.CODE p)).keep s))
    ∧ (∀ (d : DutyFrame) (n : Nat), dutyOfBytes f = some d → s.followerEntry p d.span = some n →
      exec (.dutyFrameRx p f) s = .next ((s.modFs n (fun x => { x with rx := some d })).keep s)))
  ∧ (∀ (s : State) (n ofs r : Nat) (f : DutyFrame) (u : State), s.alive = true → n < 6 →
    (s.fs n).rx = some f → u = s.modFs n (fun x => { x with rx := none, missing := 0, lastG := some f.g }) →
    r = u.get (FLK_SPAN.RAIL n) →
    (u.spanLive n = true → f.q = false → (u.rl r).toTon = false →
      ∀ v w : State, v = u.modRl r (fun x => { x with goodFrame := true }) →
        w = (if v.enabled r && v.follower r then v.commitRail r (min f.duty (v.railPer r)) (v.tbu.now + ofs) else v) →
        exec (.dutyApply n ofs) s = .next ((if f.h < 3
          then w.sendDuty (w.get (FLK_SPAN.OUT_MASK n)) { f with h := f.h + 1 } else w).keep s))
    ∧ (u.spanLive n = true → f.q = false → (u.rl r).toTon = true →
      exec (.dutyApply n ofs) s = .next ((if f.h < 3
        then u.sendDuty (u.get (FLK_SPAN.OUT_MASK n)) { f with h := f.h + 1 } else u).keep s))
    ∧ (u.spanLive n = true → f.q = true →
      ∀ w : State, w = u.followerMid r →
        exec (.dutyApply n ofs) s = .next ((if f.h < 3
          then w.sendDuty (w.get (FLK_SPAN.OUT_MASK n)) { f with h := f.h + 1 } else w).keep s))
    ∧ (u.spanLive n = false → exec (.dutyApply n ofs) s = .next (u.keep s)))
  ∧ (∀ (s : State) (n : Nat), s.alive = true → n < 6 → s.spanLive n = true → s.on (FLK_SPAN.ROLE n) = true →
    (s.fs n).lastG.isSome = true → (s.fs n).missing < 3 →
    exec (.dutyFrameTimeout n) s
      = .next (((s.bump (FLK_PORT_ERR.DUTY (s.get (FLK_SPAN.IN_PORT n)))).modFs n
          (fun x => { x with missing := (s.fs n).missing + 1, rx := none })).keep s))
  ∧ (∀ (s : State) (n : Nat), s.alive = true → n < 6 → s.spanLive n = true → s.on (FLK_SPAN.ROLE n) = true →
    (s.fs n).lastG.isSome = true → (s.fs n).missing = 3 →
    exec (.dutyFrameTimeout n) s
      = .next ((((s.bump (FLK_PORT_ERR.DUTY (s.get (FLK_SPAN.IN_PORT n)))).modFs n
          (fun x => { x with missing := 4, rx := none })).spanLost n).keep s))
  ∧ (∀ (s : State) (p span : Nat) (frame body : Bytes), s.alive = true → p < 3 → s.portUp p = true →
    ctlOfBytes frame = some (ctlSpanloss, body) → span = (nth body 0 0).toNat →
    exec (.spanlossRx p frame) s
      = .next ((s.each ((List.range 6).filter (fun n => s.spanLive n && s.get (FLK_SPAN.SPAN_ID n) == span
          && nbit (s.get (FLK_SPAN.OUT_MASK n)) p)) (fun x n =>
          if x.on (FLK_SPAN.ROLE n) then x.sendSpanloss (x.get (FLK_SPAN.IN_PORT n)) span else x.spanLost n)).keep s))
  ∧ (∀ (s : State) (w : Who) (n : Nat), s.alive = true → wfRejoin w n = true →
    s.may w (FLK_SPAN n) (s.rd (FLK_SPAN n) ||| 0x2000) = true → s.on (FLK_SPAN.LOST n) = true →
    exec (.rejoin w n) s
      = .next (((s.set (FLK_SPAN.LOST n) 0).modFs n (fun x => { x with missing := 0, lastG := none, rx := none })).keep s))
  ∧ (∀ (s : State) (w : Who) (tail : Nat), s.alive = true → wfMessageQueue w tail = true →
    s.may w FLK_TX_TAIL (BitVec.ofNat 32 tail) = true →
    exec (.messageQueue w tail) s = .next (((s.set FLK_TX_TAIL.IDX tail).serveTx).keep s))
  ∧ (∀ (s : State) (p : Nat) (f : Bytes), s.alive = true → wfMessageRx p f = true → s.portUp p = true →
    (msgOfBytes f = none → exec (.messageRx p f) s = .next ((s.bump (FLK_PORT_ERR.CODE p)).keep s))
    ∧ (∀ m : MsgFrame, msgOfBytes f = some m → s.treePort p = true → m.dest = s.ownId → nbit m.queue 7 = false →
      s.on FLK_CTL.MSG_EN = true → s.rxFull = false → s.flk.conflicts.contains m.dest = false →
      exec (.messageRx p f) s = .next ((({ s with flk := { s.flk with
        routes := spIns s.flk.routes m.src p } }.emit (.ack p m.seq m.src)).deliverMsg m).keep s)))
  ∧ (∀ (s : State) (w : Who), s.alive = true → w.wf = true → s.may w FLK_COMMIT 1 = true →
    exec (.flkCommitLock w) s = .next (s.flkLock.keep s))
  ∧ (∀ (s : State) (w : Who) (b : LockBlk), s.alive = true → wfCommitUnlock w b = true → s.may w (commitAddr b) 0 = true →
    (b ≠ .hif → s.mode = modeHold → exec (.commitUnlock w b) s = .next ((s.set (commitLock b) 0).keep s))
    ∧ (b = .hif → s.on HIF_CTL.EN = false → s.on HIF_CTL.TEN = false →
      exec (.commitUnlock w b) s = .next ((s.set HIF_COMMIT.LOCK 0).keep s)))

/-- A carrier period that is due starts on a switching phase; the end of a group enable delay, stage presence and absence act on their group or phase; the four phase commands leave the command pending on the phase under the world rules; the governor decides an add or a shed once its dwell has passed; a re-add event reaches its consumer and its hold ends; a blend whose last period is reached ends in ACTIVE; the commit row checks the settings. What a period does with a PHOFS written while none was in progress, and with the first word of a rail, are the choices of log entries 143 and 111. -/
def Obligations.PhaseRowsComplete : Prop :=
  (∀ (s : State) (n t : Nat), s.alive = true → n < 144 → (s.ph n).next = some t → s.switching n = true →
    exec (.carrierPeriodStart n) s = .next ((s.startPeriod n t).keep s))
  ∧ (∀ (s : State) (g : Nat), s.alive = true → wfSenDelayEnd g = true →
    ∃ t : State, exec (.senDelayEnd g) s = .next t
      ∧ t = { s with pha := { s.pha with senDelay := modNth s.pha.senDelay g (fun _ => false) } })
  ∧ (∀ (s : State) (n : Nat), s.alive = true → n < 144 →
    exec (.stagePresent n) s = .next (((s.set (PHA_CH_STAT.PRESENT n) 1).set (PHA_CH_STAT.TFAULT n) 0).keep s))
  ∧ (∀ (s : State) (n : Nat) (u : State), s.alive = true → n < 144 →
    u = (s.set (PHA_CH_STAT.PRESENT n) 0).set (PHA_CH_STAT.TFAULT n) 0 →
    exec (.stageAbsent n) s = .next ((if u.switching n then u.instant (fun v => v.failPhase n 2) else u).keep s))
  ∧ (∀ (s : State) (w : Who) (n : Nat), s.alive = true → w.wf = true → n < 144 →
    (s.may w PHA_PH_CMD (phCmdWord 1 n) = true → exec (.phaseAdd w n) s
      = .next (((s.set (PHA_CH_STAT.CMDPEND n) 1).modPh n (fun p => { p with cmd := 1 })).keep s))
    ∧ (s.may w PHA_PH_CMD (phCmdWord 2 n) = true → exec (.phaseShed w n) s
      = .next (((s.set (PHA_CH_STAT.CMDPEND n) 1).modPh n (fun p => { p with cmd := 2 })).keep s))
    ∧ (s.may w PHA_PH_CMD (phCmdWord 3 n) = true → exec (.phaseRemove w n) s
      = .next (((s.set (PHA_CH_STAT.CMDPEND n) 1).modPh n (fun p => { p with cmd := 3 })).keep s))
    ∧ (s.may w PHA_PH_CMD (phCmdWord 4 n) = true → exec (.phaseRestore w n) s
      = .next (((s.set (PHA_CH_STAT.CMDPEND n) 1).modPh n (fun p => { p with cmd := 4 })).keep s)))
  ∧ (∀ (s : State) (r n : Nat) (ns : List Nat), s.alive = true → r < 32 → s.byOrder (s.inState r phParked) = n :: ns →
    s.govOff r = false → s.getT (PHA_GOV_DW.ADD_DWELL r) ≤ (s.rx r).addCnt →
    exec (.governorAdd r) s
      = .next (((s.modPh n (fun p => { p with gov := 1 })).modRx r (fun x => { x with addCnt := 0, shedCnt := 0 })).keep s))
  ∧ (∀ (s : State) (r n : Nat), s.alive = true → r < 32 → (s.byOrder (s.inState r phActive)).getLast? = some n →
    s.govOff r = false → s.getT (PHA_GOV_DW.SHED_DWELL r) ≤ (s.rx r).shedCnt → (s.rx r).hold = 0 → s.shedHeld r = false →
    exec (.governorShed r) s
      = .next (((s.modPh n (fun p => { p with gov := 2 })).modRx r (fun x => { x with addCnt := 0, shedCnt := 0 })).keep s))
  ∧ (∀ (s : State) (r ch : Nat), s.alive = true → wfReadd r ch = true →
    exec (.readd r ch) s = .next ((s.consumerEvent r ch).keep s))
  ∧ (∀ (s : State) (r : Nat), s.alive = true → r < 32 → (s.rx r).hold = 1 →
    exec (.readdHoldEnd r) s = .next ((s.modRx r (fun x => { x with hold := 0 })).keep s))
  ∧ (∀ (s : State) (n : Nat), s.alive = true → n < 144 → s.phState n = phBlend → (s.ph n).blendM = (s.ph n).blendN →
    exec (.blendEnd n) s = .next ((s.set (PHA_CH_STAT.STATE n) phActive).keep s))
  ∧ (∀ (s : State) (w : Who), s.alive = true → w.wf = true → s.may w PHA_COMMIT 1 = true →
    exec (.phaCommitLock w) s = .next (s.phaLock.keep s))

/-- A temperature conversion writes its status, 1 below 0.1 V and 2 above 2.5 V of a TFLT line and 3 of a disabled diode, and a valid one its value, which the protection then judges; arming SNS_TINJ writes the register under the world rules; a read of SNS_CAP_STAT latches the tick of frame LAST and answers; a calibration update at an update instant takes the domains of the phases and steps every phase and then every domain; offset, zero-current, domain-gain and slope estimates are written when their data is complete, and a large offset or a gain out of its limit is a calibration fault. Of the model, not of the spec: the roundings of estimates (log entry 27) and of a temperature (log entry 115), and the operand of a conversion, a code or a temperature (log entry 28). -/
def Obligations.SensingRowsComplete : Prop :=
  (∀ (s : State) (k : Nat) (raw e : Int), s.alive = true → k < 144 →
    e = 3200 + floorDiv (128 * (raw * 3300000 - ((409600 * s.get (SNS_TFLT_CFG.V0 (k / 16)) : Nat) : Int)))
      ((4096 * s.get (SNS_TFLT_CFG.SLOPE (k / 16)) : Nat) : Int) →
    (raw * 33 < 4096 → exec (.tempConversion k raw 0) s = .next (((s.set (SNS_TEMP.STATUS k) 1).judgeTemp k).keep s))
    ∧ (25 * 4096 < raw * 33 → exec (.tempConversion k raw 0) s = .next (((s.set (SNS_TEMP.STATUS k) 2).judgeTemp k).keep s))
    ∧ (4096 ≤ raw * 33 → raw * 33 ≤ 25 * 4096 → -32768 ≤ e → e < 32768 →
      ∀ u : State, u = (s.set (SNS_TEMP.STATUS k) 0).set (SNS_TEMP.VALUE k) (wrapN 16 e) →
        exec (.tempConversion k raw 0) s = .next ((({ u with sns := { u.sns with
          tflt := modNth u.sns.tflt k (fun _ => some (sext 16 (wrapN 16 e))) } }).judgeTemp k).keep s)))
  ∧ (∀ (s : State) (k : Nat) (raw : Int), s.alive = true → 144 ≤ k → k < 153 → -32768 ≤ raw → raw < 32768 →
    exec (.tempConversion k raw 0) s
      = .next ((((s.set (SNS_TEMP.STATUS k) 0).set (SNS_TEMP.VALUE k) (wrapN 16 raw)).judgeTemp k).keep s))
  ∧ (∀ (s : State) (k st : Nat) (raw : Int), s.alive = true → 153 ≤ k → k < 157 → st < 3 →
    (s.on (SNS_TDIO_CFG.EN (k - 153)) = false → exec (.tempConversion k raw st) s
      = .next ((((s.set (SNS_TEMP.STATUS k) 3).set (SNS_TEMP.VALUE k) 0).judgeTemp k).keep s))
    ∧ (s.on (SNS_TDIO_CFG.EN (k - 153)) = true → st ≠ 0 → exec (.tempConversion k raw st) s
      = .next (((s.set (SNS_TEMP.STATUS k) st).judgeTemp k).keep s))
    ∧ (∀ (n : Nat) (e : Int), n = s.get (SNS_TDIO_CFG.IDEAL (k - 153)) → e = floorDiv (raw * 81920 - 174816 * (n : Int)) (5 * (n : Int)) →
      s.on (SNS_TDIO_CFG.EN (k - 153)) = true → n ≠ 0 → -32768 ≤ e → e < 32768 → exec (.tempConversion k raw 0) s
        = .next ((((s.set (SNS_TEMP.STATUS k) 0).set (SNS_TEMP.VALUE k) (wrapN 16 e)).judgeTemp k).keep s)))
  ∧ (∀ (s : State) (w : Who) (c : Nat), s.alive = true → wfTallyInject w c = true →
    s.may w SNS_TINJ (BitVec.ofNat 32 (2 ^ 31 + c)) = true →
    exec (.tallyInject w c) s = .next ((s.plainWrite SNS_TINJ (BitVec.ofNat 32 (2 ^ 31 + c))).keep s))
  ∧ (∀ (s : State) (w : Who), s.alive = true → w.wf = true → s.mayRead w SNS_CAP_STAT = true →
    exec (.capStatRead w) s
      = .next ((((s.wr SNS_CAP_TBC_LO (loWord s.sns.capTbc)).wr SNS_CAP_TBC_HI (hiWord s.sns.capTbc)).emit
          (.read w SNS_CAP_STAT (s.rd SNS_CAP_STAT))).keep s))
  ∧ (∀ s : State, s.alive = true → s.flockTime % 2000 = 0 → s.on SNS_CTL.FREEZE = false → s.mode ≠ modeHold → s.dip = false →
    ∀ u : State, u = { s with sns := { s.sns with domOf := (List.range 144).map (fun n => s.get (SNS_CS_CFG.DOM n)) } } →
    exec .calUpdate s = .next (((u.gainTargets.2.each (List.range 144) (fun x n =>
      x.calPhase n (nth u.gainTargets.1 n 0))).each (List.range 8) State.calDomain).keep s))
  ∧ (∀ (s : State) (k : Nat) (o : Int × Nat) (e : Int) (u : State), s.alive = true → k < 144 →
    o = nth s.sns.ofs k (0, 0) → 65536 ≤ o.2 → e = roundDiv (8 * o.1) 65536 → -32768 ≤ e → e < 32768 →
    u = { s.set (SNS_CS_OFSEST.OFS k) (wrapN 16 e) with sns := { s.sns with ofs := modNth s.sns.ofs k (fun _ => (0, 0)) } } →
    exec (.offsetEstimate k) s = .next ((if 256 < absI e then u.calFault else u).keep s))
  ∧ (∀ (s : State) (r : Nat) (o : Int × Nat) (e : Int) (u : State), s.alive = true → r < 32 →
    o = nth s.sns.vofs r (0, 0) → 65536 ≤ o.2 → e = roundDiv o.1 65536 → -32768 ≤ e → e < 32768 →
    u = { s.set (SNS_VS_OFSEST.OFS r) (wrapN 16 e) with sns := { s.sns with vofs := modNth s.sns.vofs r (fun _ => (0, 0)) } } →
    exec (.offsetEstimate (144 + r)) s = .next ((if 256 < absI e then u.calFault else u).keep s))
  ∧ (∀ (s : State) (n : Nat) (o : Int × Nat) (e : Int), s.alive = true → n < 144 → o = nth s.sns.zlearn n (0, 0) →
    4096 ≤ o.2 → e = floorDiv o.1 4096 → -(2 ^ 31) ≤ e → e < 2 ^ 31 →
    exec (.zofsLearn n) s = .next ({ s.set (SNS_CS_ZOFS.ZOFS n) (wrapN 32 e) with
      sns := { s.sns with zlearn := modNth s.sns.zlearn n (fun _ => (0, 0)) } }.keep s))
  ∧ (∀ (s u : State) (d dg ticks : Nat) (o : Int × Int × Nat × Bool) (e : Int), s.alive = true → d < 8 →
    o = nth s.sns.dom d (0, 0, 0, false) → ticks = o.2.2.1 → 2 ^ s.get (SNS_DOM_CFG.AVGLOG2 d) ≤ ticks →
    s.on (SNS_DOM_CFG.EN d) = true → o.2.2.2 = false → ticks * 65536 ≤ absI o.1 →
    dg = s.get (SNS_DOM_GEFF.GEFF d) →
    e = floorDiv ((dg : Int) * (1000 * o.2.1 - ((s.get (SNS_DOM_CFG.IQ d) * 65536 * ticks : Nat) : Int)) * 65536)
      (1000 * ((65536 + s.get (SNS_DOM_LOSS.LOSS d) : Nat) : Int) * o.1) → 0 ≤ e → e < 2 ^ 32 →
    u = ({ s with sns := { s.sns with dom := modNth s.sns.dom d (fun _ => (0, 0, 0, false)) } }).set (SNS_DOM_EST.EST d) e.toNat →
    exec (.domainGainWindow d) s = .next ((if 1000 * absI (e - (dg : Int)) ≤ s.get (SNS_DOM_LOSS.GLIM d) * dg
      then (if s.on SNS_CTL.AUTO = true then u.set (SNS_DOM_GTGT.GTGT d) e.toNat else u) else u.calFault).keep s))
  ∧ (∀ (s u : State) (n : Nat) (q : SlopeSums) (dl l r : Int), s.alive = true → n < 144 → q = nth s.sns.lr n {} →
    4096 ≤ q.nOn → 4096 ≤ q.nOff → u = { s with sns := { s.sns with lr := modNth s.sns.lr n (fun _ => {}) } } →
    dl = q.sOn - q.sOff →
    (absI q.cur < 131072 * 8192 → exec (.lrEstimate n) s = .next (u.keep s))
    ∧ (131072 * 8192 ≤ absI q.cur → dl ≠ 0 → l = floorDiv (250 * q.vIn) (512 * dl) → 0 ≤ l → l < 65536 →
      r = floorDiv (1000000 * (-(q.vIn * q.sOff) - q.vOut * dl)) (dl * 256 * q.cur) → 0 ≤ r → r < 65536 →
      exec (.lrEstimate n) s = .next (((u.set (SNS_CS_LEST.L_EST n) l.toNat).set (SNS_CS_LEST.R_EST n) r.toNat).keep s)))

/-- Events and software triggers reach the pre-lean and state-load inputs of a lane; a running pre-lean ends; swap requests set SWPEND (and SWPLD with LOADST), ALLBOUND for every enabled lane, CANCEL clears both, of the lane named or with ALLBOUND of every enabled lane; a shadow word is stored with SHPAR cleared, or held while a swap is captured; the bank checker makes its pass; FAULTED of a disabled lane clears with banks and states; a snapshot request sets REQ and clears RDY; the commit row runs the check. -/
def Obligations.AnvilRowsComplete : Prop :=
  (∀ (s : State) (l ch : Nat), s.alive = true → wfPleanEvent l ch = true →
    exec (.pleanEvent l ch) s = .next ((s.consumerEvent (kPlean l) ch).keep s)
    ∧ exec (.sloadEvent l ch) s = .next ((s.consumerEvent (kSload l) ch).keep s))
  ∧ (∀ (s : State) (l : Nat), s.alive = true → l < 34 → (s.ln l).pl = 1 →
    exec (.preleanEnd l) s = .next ((s.modLn l (fun x => { x with pl := 0 })).keep s))
  ∧ (∀ (s : State) (w : Who) (l : Nat), s.alive = true → w.wf = true → l < 34 →
    (s.may w (ANV_LN_TRIG l) 2 = true → exec (.trigPlean w l) s = .next ((s.consumerEvent (kPlean l) 512).keep s))
    ∧ (s.may w (ANV_LN_TRIG l) 1 = true → exec (.trigSload w l) s = .next ((s.consumerEvent (kSload l) 512).keep s)))
  ∧ (∀ (s : State) (w : Who) (l : Nat), s.alive = true → w.wf = true → l < 34 →
    (s.may w ANV_LN_SWAP (swapWord false false false l) = true →
      exec (.swapRequest w l false) s = .next ((s.set (ANV_LN_STAT.SWPEND l) 1).keep s))
    ∧ (s.may w ANV_LN_SWAP (swapWord false false true l) = true →
      exec (.swapRequest w l true) s
        = .next (((s.set (ANV_LN_STAT.SWPEND l) 1).set (ANV_LN_STAT.SWPLD l) 1).keep s))
    ∧ (s.may w ANV_LN_SWAP (swapWord false true false l) = true →
      exec (.swapCancel w l false) s
        = .next (((s.set (ANV_LN_STAT.SWPEND l) 0).set (ANV_LN_STAT.SWPLD l) 0).keep s)))
  ∧ (∀ (s : State) (w : Who), s.alive = true → w.wf = true →
    (s.may w ANV_LN_SWAP (swapWord true false false 0) = true → exec (.swapAllbound w false) s
      = .next ((s.each (whichN 34 s.laneEn) (fun x l => x.set (ANV_LN_STAT.SWPEND l) 1)).keep s))
    ∧ (s.may w ANV_LN_SWAP (swapWord true false true 0) = true → exec (.swapAllbound w true) s
      = .next ((s.each (whichN 34 s.laneEn) (fun x l =>
          (x.set (ANV_LN_STAT.SWPEND l) 1).set (ANV_LN_STAT.SWPLD l) 1)).keep s)))
  ∧ (∀ (s : State) (w : Who) (l : Nat), s.alive = true → w.wf = true → l < 64 →
    s.may w ANV_LN_SWAP (swapWord true true false l) = true → exec (.swapCancel w l true) s
      = .next ((s.each (whichN 34 s.laneEn) (fun x k =>
          (x.set (ANV_LN_STAT.SWPEND k) 0).set (ANV_LN_STAT.SWPLD k) 0)).keep s))
  ∧ (∀ (s : State) (w : Who) (l k : Nat) (v : Word), s.alive = true → wfShadowWrite w l k v = true →
    s.may w (ANV_SH l k) v = true →
    ((s.ln l).cap = none → exec (.shadowWrite w l k v) s
      = .next (((s.setBankWord (bankKey l (1 - s.activeBank l) k) v).set (ANV_LN_STAT.SHPAR l) 0).keep s))
    ∧ ((s.ln l).cap.isSome = true → exec (.shadowWrite w l k v) s
      = .next ({ s with anv := { s.anv with held := s.anv.held ++ [(l, k, v)] } })))
  ∧ (∀ s : State, s.alive = true → exec .bankCheck s = .next (s.bankPass.keep s))
  ∧ (∀ (s u : State) (w : Who) (l : Nat), s.alive = true → w.wf = true → l < 34 → s.may w (ANV_LN_STAT l) 0x40000000 = true →
    u = s.wr (ANV_LN_STAT l) (s.rd (ANV_LN_STAT l)) → u.laneEn l = false → u.on (ANV_LN_STAT.FAULTED l) = true →
    exec (.faultedClear w l) s
      = .next (((u.set (ANV_LN_STAT.FAULTED l) 0).zeroLane l).keep s))
  ∧ (∀ (s : State) (w : Who) (l : Nat), s.alive = true → w.wf = true → l < 34 → s.may w (ANV_LN_SNAP l) 1 = true →
    exec (.snapshotRequest w l) s = .next (((s.set (ANV_LN_SNAP.REQ l) 1).set (ANV_LN_SNAP.RDY l) 0).keep s))
  ∧ (∀ (s : State) (w : Who), s.alive = true → w.wf = true → s.may w ANV_COMMIT 1 = true →
    exec (.anvCommitLock w) s = .next (s.anvLock.keep s))

/-- A droop crossing of an ARMED rail fixes the forced set, counts, sets DROOP and fires; a release drops the force into LOCKOUT and fires; MAXON takes a phase out of the set; LOCKOUT ends in ARMED; an overshoot acts while armed, ends at its release and waits after OVMAX; an enabled warning input fires; a pre-lean event arms and its counter disarms; a comparator trip of a switching phase latches, counts once in a period, acts on a POC ladder that its trips have met, and is reported, with the end of a force as one instant, and does nothing within the blanking. -/
def Obligations.BellowsRowsComplete : Prop :=
  (∀ (s u : State) (r : Nat), s.alive = true → r < 32 → s.get (BLW_BW_STAT.STATE r) = 1 →
    u = s.each ((s.running r).filter (fun n => s.onT (BLW_PH.FM n) || (s.on (BLW_BW_STAT.PLARM r) && s.onT (BLW_PH.FMPL n))))
      (fun x n => x.modPh n (fun p => { p with forced := true, acted := true })) →
    exec (.droopCrossing r) s
      = .next (((((u.set (BLW_BW_STAT.STATE r) 2).bump (BLW_BW_CNT.DCNT r)).raiseBit (BLW_BW_STAT r) 5).fire [hDroop r]).keep s))
  ∧ (∀ (s : State) (r : Nat), s.alive = true → r < 32 → s.get (BLW_BW_STAT.STATE r) = 2 →
    exec (.releaseCrossing r) s
      = .next (((((s.dropForce r).set (BLW_BW_STAT.STATE r) 3).set (BLW_BW_STAT.RTIME r) 0).fire [hRel r]).keep s))
  ∧ (∀ (s : State) (n : Nat), s.alive = true → n < 144 → (s.ph n).forced = true →
    exec (.maxonExpiry n) s = .next ((s.leaveForce n).keep s))
  ∧ (∀ (s : State) (r : Nat), s.alive = true → r < 32 → s.get (BLW_BW_STAT.STATE r) = 3 →
    exec (.lockoutEnd r) s = .next ((s.set (BLW_BW_STAT.STATE r) 1).keep s))
  ∧ (∀ (s : State) (r : Nat), s.alive = true → r < 32 → s.overArmed r = true → s.on (BLW_BW_STAT.OVACT r) = false →
    (s.bl r).ovExpired = false →
    exec (.overshootCrossing r) s
      = .next ((((((s.each (s.running r) (fun x n => x.modPh n (fun p => { p with acted := true }))).set (BLW_BW_STAT.OVACT r) 1).set (BLW_BW_STAT.OVS r) 1).bump (BLW_BW_CNT.OCNT r)).fire [hOvs r]).keep s))
  ∧ (∀ (s : State) (r : Nat), s.alive = true → r < 32 →
    exec (.overshootRelease r) s
      = .next (((s.set (BLW_BW_STAT.OVACT r) 0).modBl r (fun b => { b with ovExpired := false })).keep s)
    ∧ (s.on (BLW_BW_STAT.OVACT r) = true → exec (.ovmaxExpiry r) s
      = .next (((s.set (BLW_BW_STAT.OVACT r) 0).modBl r (fun b => { b with ovExpired := true })).keep s)))
  ∧ (∀ (s : State) (k : Nat), s.alive = true → k < 16 → s.on (BLW_WARN.EN k) = true →
    exec (.warnAssert k) s = .next ((s.fire [hWarn k]).keep s))
  ∧ (∀ (s : State) (r : Nat), s.alive = true → r < 32 → s.on (EVF_CON.PEND (kPlarm r)) = true → s.onT (BLW_PL.DUR r) = true →
    exec (.plarm r) s
      = .next ((((s.takeEvent (kPlarm r)).set (BLW_BW_STAT.PLARM r) 1).modBl r (fun b => { b with plLoad := true })).keep s))
  ∧ (∀ (s : State) (r : Nat), s.alive = true → r < 32 → (s.bl r).plCnt = 1 → (s.bl r).plLoad = false →
    exec (.plarmEnd r) s
      = .next (((s.set (BLW_BW_STAT.PLARM r) 0).modBl r (fun b => { b with plCnt := 0 })).keep s))
  ∧ (∀ (s : State) (n since : Nat) (v w g : State → State), s.alive = true → n < 144 → s.switching n = true → s.onT (PHA_CH_OC.OC_TH n) = true →
    64 * s.getT (PHA_CH_OC.OC_BLANK n) ≤ since →
    (∀ t, v t = (((t.leaveForce n).modPh n (fun p => { p with ocLatch := true, tripped := true, acted := true })).set (PHA_CH_STAT.OC n) 1).setBit
      (PHA_OC_SUM (n / 32)) (n % 32) true) →
    (∀ t, w t = if ((t.leaveForce n).ph n).tripped then v t
      else (v t).set (PHA_CH_STAT.OCCNT n) (satInc 15 ((v t).get (PHA_CH_STAT.OCCNT n)))) →
    (∀ t, g t = if ((t.leaveForce n).ph n).tripped = false ∧ ((w t).ph n).pocActed = true ∧ (w t).watches (.poc n) = true
      ∧ (w t).ladAction (.poc n) ≠ 0 then (w t).raiseFault (.poc n) else w t) →
    exec (.ocTrip n since) s = .next ((s.instant (fun t => (g t).fire [hPhaOc (n / 16)])).keep s))
  ∧ (∀ (s : State) (n since : Nat), s.alive = true → n < 144 → since < 64 * s.getT (PHA_CH_OC.OC_BLANK n) →
    exec (.ocTrip n since) s = .next s)

/-- A protection whose filter has reached FILT acts and one whose warn filter has warns and fires, where protection is alive; quench events, commands, the holdover limit and the engine clock fault quench the rail or the device with causes 11, 12 and 13; the ends of a hiccup and of a phase hiccup restart the rail and restore the phase; retry counts clear; LATCH clears bit by bit; a stage fault of a switching or parked phase fails it with cause 1 and, where the rail's protection is alive, is counted and acts, and TFAULT ends with the fault. Of the model, not of the spec: the operand of a stage fault (log entry 114) and the retries of ACTION 2 from the stage fault itself (log entry 42). -/
def Obligations.ProtectionRowsComplete : Prop :=
  (∀ (s : State) (x : Prot), s.alive = true → x.wf = true → s.protDue x = true →
    exec (.protectionAction x) s = .next ((s.instant State.protAct).keep s))
  ∧ (∀ (s : State) (x : Prot), s.alive = true → x.wf = true → (s.reached x (s.filts x).2 = false ∨ s.watches x = false) → protPhase x = none →
    exec (.protectionWarn x) s = .next s)
  ∧ (∀ (s : State) (x : Prot), s.alive = true → x.wf = true → s.reached x (s.filts x).2 = true → s.watches x = true → protPhase x = none →
    ∃ u : State, u = (s.setFilts x ((s.filts x).1, { (s.filts x).2 with acted := true })).raiseWarn x
      ∧ exec (.protectionWarn x) s = .next ((u.fire [match u.protRail x with
        | some r => hPwarn r
        | none => hDwarn]).keep s))
  ∧ (∀ (s : State) (r : Nat), s.alive = true → r < 32 → s.on (EVF_CON.PEND (kQuench r)) = true →
    exec (.blwQuench r) s = .next (((s.takeEvent (kQuench r)).quenchRail r 11 none 0).keep s))
  ∧ (∀ s : State, s.alive = true →
    (s.on (EVF_CON.PEND kQuenchDev) = true →
      exec .blwQuenchDev s = .next (((s.takeEvent kQuenchDev).quenchDevice 11 false).keep s))
    ∧ exec .enginePllFault s = .next ((s.quenchDevice 13 false).keep s)
    ∧ (s.on TBU_STAT.HOLDOVER = true → exec .holdoverLimit s = .next ((s.quenchDevice 13 false).keep s)))
  ∧ (∀ (s : State) (w : Who) (r : Nat), s.alive = true → w.wf = true → r < 32 →
    s.may w BLW_QCMD (BitVec.ofNat 32 (2 ^ 30 + r)) = true →
    exec (.quenchRailCommand w r) s = .next ((s.quenchRail r 12 none 0).keep s))
  ∧ (∀ (s : State) (w : Who), s.alive = true → w.wf = true → s.may w BLW_QCMD 0x80000000 = true →
    exec (.quenchDeviceCommand w) s = .next ((s.quenchDevice 12 false).keep s))
  ∧ (∀ (s : State) (r : Nat), s.alive = true → r < 32 → s.on (BLW_PROT_STAT.HICCUP r) = true → s.hiccupWaits r = false →
    exec (.hiccupEnd r) s
      = .next ((((s.bump (BLW_PROT_STAT.RTRY r)).set (BLW_PROT_STAT.HICCUP r) 0).modRl r (fun x => { x with restart := true })).keep s))
  ∧ (∀ (s : State) (r : Nat), s.alive = true → r < 32 → s.enabled r = true → s.quenched r = false →
    exec (.retryCountClear r) s = .next ((s.set (BLW_PROT_STAT.RTRY r) 0).keep s))
  ∧ (∀ (s : State) (n : Nat), s.alive = true → n < 144 →
    ((s.ph n).hiccup = true → s.phState n = phFailed → ((s.ph n).tooHot && s.phaseHot n) = false → exec (.phaseHiccupEnd n) s
      = .next (((s.bump (BLW_PH.RCNT n)).modPh n (fun p => { p with hiccup := false, gov := 3 })).keep s))
    ∧ (s.phState n = phActive → exec (.phaseRetryClear n) s = .next ((s.set (BLW_PH.RCNT n) 0).keep s)))
  ∧ (∀ (s : State) (w : Who) (v : Word), s.alive = true → w.wf = true → s.may w BLW_LATCH_SUM v = true →
    exec (.latchClear w v) s
      = .next ((s.each (List.range 32) (fun x r => if wbit v r then x.set (BLW_PROT_STAT.LATCH r) 0 else x)).keep s))
  ∧ (∀ (s u : State) (n : Nat) (again : State → Bool) (f g : State → State), s.alive = true → n < 144 → u = s.setb (PHA_CH_STAT.TFAULT n) true →
    (u.switching n = true ∨ u.phState n = phParked) →
    (∀ t, again t = (t.watches (.sf (t.railOf n)) && t.ladAction (.sf (t.railOf n)) == 2 && t.dropRetry n (t.ladRetry (.sf (t.railOf n))))) →
    (∀ t, f t = (t.failPhase n 1).modPh n (fun p => { p with hiccup := again t })) →
    (∀ (t : State) (x : Prot), x = .sf (t.railOf n) →
      (t.watches x = false → g t = f t)
      ∧ (t.watches x = true → ∀ y : State, y = (f t).setFilts x ({ ((f t).filts x).1 with cnt := satInc 255 ((f t).filts x).1.cnt }, ((f t).filts x).2) →
        ((((f t).filts x).1.acted = false ∨ y.ladAction x = 0) → g t = y)
        ∧ (((f t).filts x).1.acted = true → y.ladAction x ≠ 0 → g t = y.raiseFault x))) →
    exec (.stageFault n true) s = .next ((u.instant g).keep s))
  ∧ (∀ (s : State) (n : Nat), s.alive = true → n < 144 →
    exec (.stageFault n false) s = .next ((s.set (PHA_CH_STAT.TFAULT n) 0).keep s))

/-- The ends of the turn-on and turn-off delays are kept for the next T0; group commands set or clear ON of the rails of a group; FW and HOST reference writes that are accepted go into their slots and arbitrate, a held FW write waits for its time and is released by the window before it; the commit row runs the check; the window captures swaps, targets and the mode requested, if it differs from the one in force; a T0 that may come takes the fixed schedule. Of the model, not of the spec: a held FW write is accepted and fires at the write and is stamped at its release (log entry 45), and one TICK takes the whole schedule (log entry 23). -/
def Obligations.RailRowsComplete : Prop :=
  (∀ (s : State) (r : Nat), s.alive = true → r < 32 →
    (s.railState r = railTonDly → exec (.tonDelayEnd r) s
      = .next ((s.modRl r (fun x => { x with delayDone := true })).keep s))
    ∧ (s.railState r = railToffDly → exec (.toffDelayEnd r) s
      = .next ((s.modRl r (fun x => { x with delayDone := true })).keep s)))
  ∧ (∀ (s : State) (w : Who) (g : Nat), s.alive = true → w.wf = true → 0 < g → g < 8 →
    (s.may w RLC_GRP_CMD (BitVec.ofNat 32 (2 ^ 30 + g)) = true → exec (.groupOn w g) s
      = .next ((s.each (List.range 32) (fun x r =>
          if x.get (RLC_RAIL_CTL.GRP r) = g then x.set (RLC_RAIL_CTL.ON r) 1 else x)).keep s))
    ∧ (s.may w RLC_GRP_CMD (BitVec.ofNat 32 (2 ^ 31 + g)) = true → exec (.groupOff w g) s
      = .next ((s.each (List.range 32) (fun x r =>
          if x.get (RLC_RAIL_CTL.GRP r) = g then x.set (RLC_RAIL_CTL.ON r) 0 else x)).keep s)))
  ∧ (∀ (s u : State) (w : Who) (r : Nat) (v : Word), s.alive = true → w.wf = true → r < 32 →
    s.may w (RLC_RAIL_FREF r) v = true →
    (wbit v 31 = false → u = (s.set (RLC_RAIL_FREF.ATEN r) 0).set (RLC_RAIL_STAT.ATPEND r) 0 →
      u.refused r slotFw (getBits v 13 0) = none →
      exec (.frefWrite w r v) s = .next (((u.acceptSlot r slotFw (getBits v 13 0)).tickClock).keep s))
    ∧ (wbit v 31 = true → s.refused r slotFw (getBits v 13 0) = none →
      exec (.frefWrite w r v) s
        = .next (((((s.set (RLC_RAIL_FREF.VSET r) (getBits v 13 0)).set (RLC_RAIL_FREF.ATEN r) 1).set
            (RLC_RAIL_STAT.ATPEND r) 1).fire [hVreq r]).keep s)))
  ∧ (∀ (s u v : State) (r : Nat), s.alive = true → r < 32 → s.on (RLC_RAIL_FREF.ATEN r) = true → s.atDue r = true →
    u = (s.set (RLC_RAIL_FREF.ATEN r) 0).set (RLC_RAIL_STAT.ATPEND r) 0 →
    v = (((u.putSlot r slotFw (s.get (RLC_RAIL_FREF.VSET r))).stamp r slotFw u.rlc.clock).arbitrate r).tickClock →
    exec (.frefAtRelease r) s = .next ((if v.dip = true then v else v.captureTarget r).keep s))
  ∧ (∀ (s : State) (w : Who) (r : Nat) (v : Word), s.alive = true → w.wf = true → r < 32 → s.may w (RLC_RAIL_HREF r) v = true →
    (wbit v 31 = true → s.refused r slotHost (getBits v 13 0) = none →
      exec (.hrefWrite w r v) s = .next (((s.acceptSlot r slotHost (getBits v 13 0)).tickClock).keep s))
    ∧ (wbit v 31 = false → exec (.hrefWrite w r v) s
      = .next ((((s.set (RLC_RAIL_HREF.VSET r) (getBits v 13 0)).set (RLC_RAIL_HREF.VALID r) 0).arbitrate r).keep s)))
  ∧ (∀ (s : State) (w : Who), s.alive = true → w.wf = true → s.may w RLC_COMMIT 1 = true →
    exec (.rlcCommitLock w) s = .next (s.rlcLock.keep s))
  ∧ (∀ s : State, s.alive = true →
    (s.dip = true → exec .swapWindow s = .next { s with tbu := { s.tbu with windowOpen := true } })
    ∧ (s.dip = false → s.on TBU_CTL.MODE_REQ = s.graze →
      exec .swapWindow s = .next ((({ s with tbu := { s.tbu with windowOpen := true, modeCap := none } }.captureSwaps).each
        (List.range 32) State.captureTarget).keep s))
    ∧ (s.dip = false → s.on TBU_CTL.MODE_REQ ≠ s.graze →
      exec .swapWindow s = .next ((({ s with tbu := { s.tbu with
        windowOpen := true, modeCap := some (s.on TBU_CTL.MODE_REQ) } }.captureSwaps).each
        (List.range 32) State.captureTarget).keep s)))
  ∧ (∀ (s : State) (t : TickIn), s.tickMay = true →
    exec (.tick t) s = .next (((((s.instant (fun x => x.tickStart t)).instant (fun x => x.tickSense t)).instant
      State.tickCompute).instant (fun x => x.tickEnd t)).keep s))

/-- A frame that reaches one rail of an enabled port with a good CRC is counted and answered: a read with the reference in force, the rates, the mean current, the temperature, the status or the version; a write-and-commit that its check allows applies the held values and its own; a write-and-hold keeps the value; an unsupported frame is answered 0b11 without effect. Of the model, not of R181 and R182: which codes the check answers (log entry 46), that a commit applies the held values and empties them (log entry 47), and the places of the status bits, the 256-tick means with ticks before the first counted as 0, and the free values of a rate between two steps, a current below 0 and a temperature without a sensor (log entry 48). -/
def Obligations.AvsRowsComplete : Prop :=
  (∀ (s u : State) (o : AvsOp) (r : Nat), s.avsOne o r = true → u = s.bump (RLC_AVS_STAT.FRAMES o.port) →
    exec (.avsTargetVoltageRead o) s
      = .next ((u.avsAnswer o 0 (((u.rl r).rout * 1000 + 2 ^ 31) / 2 ^ 32)).keep s)
    ∧ (u.avsCheck r 0 o.data = 0 →
      exec (.avsTargetVoltageWrite o) s = .next (((u.avsCommit o 0).avsAnswer o 0 0).keep s)
      ∧ exec (.avsWriteAndHold o) s = .next (((u.avsHoldValue o 0).avsAnswer o 0 0).keep s))
    ∧ (o.cmd = 3 →
      exec (.avsTransitionRate o) s = .next (((u.avsReadRate r).2.avsAnswer o 0 (u.avsReadRate r).1).keep s)
      ∧ exec (.avsRailCurrent o) s = .next (((u.avsReadCurrent r).2.avsAnswer o 0 (u.avsReadCurrent r).1).keep s)
      ∧ exec (.avsRailTemperature o) s = .next (((u.avsReadTemp r).2.avsAnswer o 0 (u.avsReadTemp r).1).keep s)
      ∧ exec (.avsStatus o) s = .next ((u.avsAnswer o 0 (u.avsStatus r)).keep s)
      ∧ exec (.avsVersion o) s = .next ((u.avsAnswer o 0 1).keep s))
    ∧ (o.cmd = 0 → u.avsCheck r 1 o.data = 0 →
      exec (.avsTransitionRate o) s = .next (((u.avsCommit o 1).avsAnswer o 0 0).keep s))
    ∧ (o.cmd = 0 → u.avsCheck r 4 o.data = 0 →
      exec (.avsResetVoltage o) s = .next (((u.avsCommit o 4).avsAnswer o 0 0).keep s)))
  ∧ (∀ (s : State) (o : AvsOp), s.alive = true → o.wf = true → s.on (RLC_AVS_CFG.EN o.port) = true → s.pinsIdle = false →
    (o.crcOk = true → exec (.avsUnsupported o) s
      = .next (((s.bump (RLC_AVS_STAT.FRAMES o.port)).avsAnswer o 3 0).keep s)))

/-- A read on a live port whose page is a rail answers the bytes of the setting its command names: PAGE, OPERATION, ON_OFF_CONFIG and WRITE_PROTECT as they stand; references, limits and margins in ULINEAR16; rates, load line, scale, currents, delays, temperatures and the thresholds of the input of the page in LINEAR11; the fault-response byte of a ladder; the absolute and relative output limits of a rail whose SCALE is not 0 where the value fits 16 bits. Nothing changes but the answer (and the free-value counter where a LINEAR11 value has no form). An exact half rounds upwards: the choice of log entry 125. -/
def Obligations.PmbusReadsComplete : Prop :=
  ∀ (o : PmbOp) (s : State) (r : Nat), s.pmbOn o r = true → o.write = false →
    exec (.pageCmd o) s = .next ((s.emit (.pmb o.q (leBytes 1 r))).keep s)
    ∧ exec (.operationOn o) s = .next ((s.emit (.pmb o.q (leBytes 1 (s.get (RLC_RAIL_PMB.OPER r))))).keep s)
    ∧ exec (.operationOff o) s = .next ((s.emit (.pmb o.q (leBytes 1 (s.get (RLC_RAIL_PMB.OPER r))))).keep s)
    ∧ exec (.operationImmediateOff o) s = .next ((s.emit (.pmb o.q (leBytes 1 (s.get (RLC_RAIL_PMB.OPER r))))).keep s)
    ∧ exec (.operationMarginLow o) s = .next ((s.emit (.pmb o.q (leBytes 1 (s.get (RLC_RAIL_PMB.OPER r))))).keep s)
    ∧ exec (.operationMarginHigh o) s = .next ((s.emit (.pmb o.q (leBytes 1 (s.get (RLC_RAIL_PMB.OPER r))))).keep s)
    ∧ exec (.onOffConfig o) s = .next ((s.emit (.pmb o.q (leBytes 1 (s.get (RLC_RAIL_PMB.ONCFG r))))).keep s)
    ∧ exec (.writeProtect o) s = .next ((s.emit (.pmb o.q (leBytes 1 (s.get (RLC_PMB_CFG.WPROT o.q))))).keep s)
    ∧ exec (.voutCommand o) s = .next ((s.emit (.pmb o.q (leBytes 2 (voutEnc (s.get (RLC_RAIL_REQ.PMB r)))))).keep s)
    ∧ exec (.voutMax o) s = .next ((s.emit (.pmb o.q (leBytes 2 (voutEnc (s.get (RLC_RAIL_LIM.VMAX r)))))).keep s)
    ∧ exec (.voutMin o) s = .next ((s.emit (.pmb o.q (leBytes 2 (voutEnc (s.get (RLC_RAIL_LIM.VMIN r)))))).keep s)
    ∧ exec (.voutMarginHigh o) s = .next ((s.emit (.pmb o.q (leBytes 2 (voutEnc (s.get (RLC_RAIL_MARG.HIGH r)))))).keep s)
    ∧ exec (.voutMarginLow o) s = .next ((s.emit (.pmb o.q (leBytes 2 (voutEnc (s.get (RLC_RAIL_MARG.LOW r)))))).keep s)
    ∧ (∀ x : Nat × State, x = s.l11Enc ((s.get (RLC_RAIL_SLEW.UP r) : Nat) * (1 : Int)) (10) →
      exec (.voutTransitionRate o) s = .next ((x.2.emit (.pmb o.q (leBytes 2 x.1))).keep s))
    ∧ (∀ x : Nat × State, x = s.l11Enc ((s.get (RLC_RAIL_LL.LLR r) : Nat) * (1000 : Int)) (2 ^ 32) →
      exec (.voutDroop o) s = .next ((x.2.emit (.pmb o.q (leBytes 2 x.1))).keep s))
    ∧ (∀ x : Nat × State, x = s.l11Enc ((s.get (RLC_RAIL_SCALE.SCALE r) : Nat) * (1 : Int)) (2 ^ 24) →
      exec (.voutScaleLoop o) s = .next ((x.2.emit (.pmb o.q (leBytes 2 x.1))).keep s))
    ∧ (∀ x : Nat × State, x = s.l11Enc ((s.get (BLW_ROC.FTH r) : Nat) * (1 : Int)) (8) →
      exec (.ioutOcFaultLimit o) s = .next ((x.2.emit (.pmb o.q (leBytes 2 x.1))).keep s))
    ∧ (∀ x : Nat × State, x = s.l11Enc ((s.get (BLW_ROC.WTH r) : Nat) * (1 : Int)) (8) →
      exec (.ioutOcWarnLimit o) s = .next ((x.2.emit (.pmb o.q (leBytes 2 x.1))).keep s))
    ∧ (∀ x : Nat × State, x = s.l11Enc ((s.get (RLC_RAIL_TON.DLY r) : Nat) * (1 : Int)) (1000) →
      exec (.tonDelay o) s = .next ((x.2.emit (.pmb o.q (leBytes 2 x.1))).keep s))
    ∧ (∀ x : Nat × State, x = s.l11Enc ((s.get (RLC_RAIL_TON.RISE r) : Nat) * (1 : Int)) (1000) →
      exec (.tonRise o) s = .next ((x.2.emit (.pmb o.q (leBytes 2 x.1))).keep s))
    ∧ (∀ x : Nat × State, x = s.l11Enc ((s.get (RLC_RAIL_TOFF.DLY r) : Nat) * (1 : Int)) (1000) →
      exec (.toffDelay o) s = .next ((x.2.emit (.pmb o.q (leBytes 2 x.1))).keep s))
    ∧ (∀ x : Nat × State, x = s.l11Enc ((s.get (RLC_RAIL_TOFF.FALL r) : Nat) * (1 : Int)) (1000) →
      exec (.toffFall o) s = .next ((x.2.emit (.pmb o.q (leBytes 2 x.1))).keep s))
    ∧ exec (.voutOvFaultResponse o) s = .next ((s.emit (.pmb o.q (leBytes 1 (responseOf (s.rd (BLW_LAD_OV r)))))).keep s)
    ∧ exec (.voutUvFaultResponse o) s = .next ((s.emit (.pmb o.q (leBytes 1 (responseOf (s.rd (BLW_LAD_UV r)))))).keep s)
    ∧ exec (.ioutOcFaultResponse o) s = .next ((s.emit (.pmb o.q (leBytes 1 (responseOf (s.rd (BLW_LAD_ROC r)))))).keep s)
    ∧ exec (.otFaultResponse o) s = .next ((s.emit (.pmb o.q (leBytes 1 (responseOf (s.rd (BLW_LAD_POT r)))))).keep s)
    ∧ (∀ x : Nat × State, x = s.l11Enc (s.geti BLW_OT_PH.FAULT) 128 →
      exec (.otFaultLimit o) s = .next ((x.2.emit (.pmb o.q (leBytes 2 x.1))).keep s))
    ∧ (∀ x : Nat × State, x = s.l11Enc (s.geti BLW_OT_PH.WARN) 128 →
      exec (.otWarnLimit o) s = .next ((x.2.emit (.pmb o.q (leBytes 2 x.1))).keep s))
    ∧ (0 < s.get (RLC_RAIL_SCALE.SCALE r) → (2 * s.get (BLW_OV.FABS r) * 2621440 + s.get (RLC_RAIL_SCALE.SCALE r)) / (2 * s.get (RLC_RAIL_SCALE.SCALE r)) < 65536 →
      exec (.voutOvFaultLimit o) s = .next ((s.emit (.pmb o.q (leBytes 2 ((2 * s.get (BLW_OV.FABS r) * 2621440 + s.get (RLC_RAIL_SCALE.SCALE r)) / (2 * s.get (RLC_RAIL_SCALE.SCALE r)))))).keep s))
    ∧ (0 < s.get (RLC_RAIL_SCALE.SCALE r) → (2 * s.get (BLW_UV.FABS r) * 2621440 + s.get (RLC_RAIL_SCALE.SCALE r)) / (2 * s.get (RLC_RAIL_SCALE.SCALE r)) < 65536 →
      exec (.voutUvFaultLimit o) s = .next ((s.emit (.pmb o.q (leBytes 2 ((2 * s.get (BLW_UV.FABS r) * 2621440 + s.get (RLC_RAIL_SCALE.SCALE r)) / (2 * s.get (RLC_RAIL_SCALE.SCALE r)))))).keep s))
    ∧ (∀ e : Int, 0 < s.get (RLC_RAIL_SCALE.SCALE r) →
      e = roundDiv (2048 * (s.get (RLC_RAIL_REQ.PMB r) * s.get (RLC_RAIL_SCALE.SCALE r) : Nat)
        + 1 * (4096 * s.get (BLW_OV.WREL r) * 2 ^ 24 : Nat)) ((1000 * s.get (RLC_RAIL_SCALE.SCALE r) : Nat) : Int) → 0 ≤ e → e < 65536 →
      exec (.voutOvWarnLimit o) s = .next ((s.emit (.pmb o.q (leBytes 2 (e.toNat)))).keep s))
    ∧ (∀ e : Int, 0 < s.get (RLC_RAIL_SCALE.SCALE r) →
      e = roundDiv (2048 * (s.get (RLC_RAIL_REQ.PMB r) * s.get (RLC_RAIL_SCALE.SCALE r) : Nat)
        + (-1) * (4096 * s.get (BLW_UV.WREL r) * 2 ^ 24 : Nat)) ((1000 * s.get (RLC_RAIL_SCALE.SCALE r) : Nat) : Int) → 0 ≤ e → e < 65536 →
      exec (.voutUvWarnLimit o) s = .next ((s.emit (.pmb o.q (leBytes 2 (e.toNat)))).keep s))
    ∧ (∀ (c : Nat) (x : Nat × State), s.pageInput r = some c → x = s.l11Enc (s.get (BLW_VIN_TH.OV c) : Nat) 1000 →
      exec (.vinOvFaultLimit o) s = .next ((x.2.emit (.pmb o.q (leBytes 2 x.1))).keep s))
    ∧ (∀ (c : Nat) (x : Nat × State), s.pageInput r = some c → x = s.l11Enc (s.get (BLW_VIN_TH.UV c) : Nat) 1000 →
      exec (.vinUvFaultLimit o) s = .next ((x.2.emit (.pmb o.q (leBytes 2 x.1))).keep s))

/-- A read on a live port whose page is a rail answers CAPABILITY 0xD4, VOUT_MODE 0x14, PMBUS_REVISION 0x44, the three identification texts, and each status byte and the status word as they stand for the page; nothing changes but the answer. A block read has no count byte: log entry 50, a reading of the model. The places of the bits of STATUS_BYTE and STATUS_WORD are those of log entry 49. -/
def Obligations.PmbusStatusReadsComplete : Prop :=
  ∀ (o : PmbOp) (s : State) (r : Nat), s.pmbOn o r = true → o.write = false →
    exec (.capability o) s = .next ((s.emit (.pmb o.q [0xD4])).keep s)
    ∧ exec (.voutMode o) s = .next ((s.emit (.pmb o.q [0x14])).keep s)
    ∧ exec (.statusByte o) s = .next ((s.emit (.pmb o.q (leBytes 1 (s.stByte r)))).keep s)
    ∧ exec (.statusVout o) s = .next ((s.emit (.pmb o.q (leBytes 1 (s.stVout r)))).keep s)
    ∧ exec (.statusIout o) s = .next ((s.emit (.pmb o.q (leBytes 1 (s.stIout r)))).keep s)
    ∧ exec (.statusInput o) s = .next ((s.emit (.pmb o.q (leBytes 1 (s.stInput r)))).keep s)
    ∧ exec (.statusTemperature o) s = .next ((s.emit (.pmb o.q (leBytes 1 (s.stTemp r)))).keep s)
    ∧ exec (.statusCml o) s = .next ((s.emit (.pmb o.q (leBytes 1 ((s.rl r).cml)))).keep s)
    ∧ exec (.statusMfrSpecific o) s = .next ((s.emit (.pmb o.q (leBytes 1 (s.mfrStatus r)))).keep s)
    ∧ exec (.statusWord o) s = .next ((s.emit (.pmb o.q (leBytes 2 (s.stWord r)))).keep s)
    ∧ exec (.pmbusRevision o) s = .next ((s.emit (.pmb o.q [0x44])).keep s)
    ∧ exec (.mfrId o) s = .next ((s.emit (.pmb o.q [0x57, 0x41, 0x49, 0x4D, 0x4F, 0x4E, 0x44])).keep s)
    ∧ exec (.mfrModel o) s = .next ((s.emit (.pmb o.q [0x4D, 0x59, 0x4E, 0x37, 0x31, 0x34, 0x34])).keep s)
    ∧ exec (.mfrRevision o) s = .next ((s.emit (.pmb o.q [0x42])).keep s)

/-- A read on a live port whose page is a rail answers the means over the last 256 ticks of current, of temperature, of output voltage and power where SCALE is not 0, and of the voltage of the input that feeds the page, each in its format; the phase counts, the droop count, the reference in force, the tick count and the newest fault record of the rail. Nothing changes but the answer (and the free-value counter where a LINEAR11 value has no form). Of the model, not of the spec: a temperature mean is over the ticks that had a reading (log entry 120), a mean is the sum over 256 (log entry 48), an exact half rounds upwards (log entry 125) and the fault log has no count byte (log entry 50). -/
def Obligations.PmbusMeasuredReadsComplete : Prop :=
  ∀ (o : PmbOp) (s : State) (r : Nat), s.pmbOn o r = true → o.write = false →
    (∀ x : Nat × State, x = s.l11Enc (s.sumCurrent r) (256 * 65536) →
      exec (.readIout o) s = .next ((x.2.emit (.pmb o.q (leBytes 2 x.1))).keep s))
    ∧ (∀ x : Nat × State, x = s.l11TempMean (s.rl r).temps →
      exec (.readTemperature1 o) s = .next ((x.2.emit (.pmb o.q (leBytes 2 x.1))).keep s))
    ∧ (∀ x : Nat × State, x = s.l11TempMean s.rlc.dieHist →
      exec (.readTemperature2 o) s = .next ((x.2.emit (.pmb o.q (leBytes 2 x.1))).keep s))
    ∧ (∀ e : Int, 0 < s.get (RLC_RAIL_SCALE.SCALE r) → e = roundDiv ((s.sumVout r * 640 * 4096 : Nat) : Int) ((256 * s.get (RLC_RAIL_SCALE.SCALE r) : Nat) : Int) →
      0 ≤ e → e < 65536 → exec (.readVout o) s = .next ((s.emit (.pmb o.q (leBytes 2 (e.toNat)))).keep s))
    ∧ (∀ x : Nat × State, 0 < s.get (RLC_RAIL_SCALE.SCALE r) →
      x = s.l11Enc (((s.sumVout r * 640 : Nat) : Int) * s.sumCurrent r) (256 * s.get (RLC_RAIL_SCALE.SCALE r) * 256 * 65536) →
      exec (.readPout o) s = .next ((x.2.emit (.pmb o.q (leBytes 2 x.1))).keep s))
    ∧ (∀ (c : Nat) (x : Nat × State), s.pageInput r = some c → s.onT (SNS_VIN_CFG.MODE c) = false →
      x = s.l11Enc ((s.sumVin c * 640 * s.get (SNS_VIN_RATIO.RATIO c) : Nat) : Int) (256 * 2 ^ 48) →
      exec (.readVin o) s = .next ((x.2.emit (.pmb o.q (leBytes 2 x.1))).keep s))
    ∧ exec (.mfrPhaseCount o) s = .next ((s.emit (.pmb o.q (leBytes 2 (256 * (s.inState r phActive).length + (s.inState r phParked).length)))).keep s)
    ∧ exec (.mfrBellowsCount o) s = .next ((s.emit (.pmb o.q (leBytes 2 (s.get (BLW_BW_CNT.DCNT r))))).keep s)
    ∧ exec (.mfrRefInForce o) s = .next ((s.emit (.pmb o.q (leBytes 2 (((s.rl r).rout + 2 ^ 19) / 2 ^ 20)))).keep s)
    ∧ exec (.mfrTbc o) s = .next ((s.emit (.pmb o.q (bytes64 s.tbu.tbc))).keep s)
    ∧ (∀ bs, s.faultLog r = some bs → exec (.mfrFaultLog o) s = .next ((s.emit (.pmb o.q bs)).keep s))

/-- A write that the packet error check and WRITE_PROTECT let through and whose value the command allows sets what the command names: operation, references, limits, margins, rates, load line, scale, thresholds, ladders, delays, a phase command, LATCH, the page, the write protection; CLEAR_FAULTS clears the page and releases the alert of the port; STORE and RESTORE fire RLC_PMBSTORE; an unsupported command sets STATUS_CML bit 7; the alert response answers and releases the line; a clock timeout releases SDA. Of the model, not of the spec: the WRITE_PROTECT level of each command (log entry 49), CLEAR_FAULTS releasing the alert of its own port (log entry 50), an exact half rounding upwards (log entry 125), the margin as a request (log entry 119) and the alert response byte 2 × ADDR (log entry 137). Writes at PAGE 0xFF are not spoken of here. -/
def Obligations.PmbusWritesComplete : Prop :=
  WritesPmb .operationOn 2 1 (fun s r d => if d = 0x80 then some (s.setOper r 0x80) else none)
  ∧ WritesPmb .operationOff 2 1 (fun s r d => if d = 0x40 then some (s.setOper r 0x40) else none)
  ∧ WritesPmb .operationImmediateOff 2 1 (fun s r d => if d = 0 then some (s.setOper r 0) else none)
  ∧ WritesPmb .operationMarginLow 2 1 (fun s r d => if d = 0x98 ∨ d = 0x94 then some (s.setOper r d) else none)
  ∧ WritesPmb .operationMarginHigh 2 1 (fun s r d => if d = 0xA8 ∨ d = 0xA4 then some (s.setOper r d) else none)
  ∧ WritesPmb .onOffConfig 1 1 (fun s r d => if d = 0x10 ∨ d = 0x18 then some (s.set (RLC_RAIL_PMB.ONCFG r) d) else none)
  ∧ WritesPmb .voutCommand 1 2 (fun s r d => if s.refused r slotPmb (voutDec d) = none then some (s.acceptSlot r slotPmb (voutDec d)) else none)
  ∧ WritesPmb .voutMax 0 2 (fun s r d => if voutDec d < 16384 ∧ s.get (RLC_RAIL_LIM.VMIN r) ≤ voutDec d ∧ (s.on RLC_COMMIT.LOCK = false ∨ voutDec d * s.get (RLC_RAIL_SCALE.SCALE r) / 2 ^ 24 ≤ 5000)
      then some ((s.set (RLC_RAIL_LIM.VMAX r) (voutDec d)).arbitrate r) else none)
  ∧ WritesPmb .voutMin 0 2 (fun s r d => if 500 ≤ voutDec d ∧ voutDec d ≤ s.get (RLC_RAIL_LIM.VMAX r)
      then some ((s.set (RLC_RAIL_LIM.VMIN r) (voutDec d)).arbitrate r) else none)
  ∧ WritesPmb .voutMarginHigh 0 2 (fun s r d => if 500 ≤ voutDec d ∧ voutDec d ≤ 10000
      then some ((s.set (RLC_RAIL_MARG.HIGH r) (voutDec d)).remargin r) else none)
  ∧ WritesPmb .voutMarginLow 0 2 (fun s r d => if 500 ≤ voutDec d ∧ voutDec d ≤ 10000
      then some ((s.set (RLC_RAIL_MARG.LOW r) (voutDec d)).remargin r) else none)
  ∧ WritesPmb .voutTransitionRate 0 2 (fun s r d => if (1 : Int) ≤ l11Dec d (10) (1) ∧ l11Dec d (10) (1) ≤ 1000
      then some ((s.set (RLC_RAIL_SLEW.UP r) (l11Dec d (10) (1)).toNat).set (RLC_RAIL_SLEW.DN r) (l11Dec d (10) (1)).toNat) else none)
  ∧ WritesPmb .voutDroop 0 2 (fun s r d => if (0 : Int) ≤ l11Dec d (2 ^ 32) (1000) ∧ l11Dec d (2 ^ 32) (1000) ≤ 8589935
      then some (s.set (RLC_RAIL_LL.LLR r) (l11Dec d (2 ^ 32) (1000)).toNat) else none)
  ∧ WritesPmb .voutScaleLoop 0 2 (fun s r d => if (0x400000 : Int) ≤ l11Dec d (2 ^ 24) 1 ∧ l11Dec d (2 ^ 24) 1 ≤ 0x1000000 ∧ s.on RLC_COMMIT.LOCK = false
      then some (s.set (RLC_RAIL_SCALE.SCALE r) (l11Dec d (2 ^ 24) 1).toNat) else none)
  ∧ WritesPmb .ioutOcFaultLimit 0 2 (fun s r d => if (0 : Int) ≤ l11Dec d (8) (1) ∧ l11Dec d (8) (1) ≤ 65535
      then some (s.set (BLW_ROC.FTH r) (l11Dec d (8) (1)).toNat) else none)
  ∧ WritesPmb .ioutOcWarnLimit 0 2 (fun s r d => if (0 : Int) ≤ l11Dec d (8) (1) ∧ l11Dec d (8) (1) ≤ 65535
      then some (s.set (BLW_ROC.WTH r) (l11Dec d (8) (1)).toNat) else none)
  ∧ WritesPmb .tonDelay 0 2 (fun s r d => if (0 : Int) ≤ l11Dec d (1000) (1) ∧ l11Dec d (1000) (1) ≤ 65535
      then some (s.set (RLC_RAIL_TON.DLY r) (l11Dec d (1000) (1)).toNat) else none)
  ∧ WritesPmb .tonRise 0 2 (fun s r d => if (0 : Int) ≤ l11Dec d (1000) (1) ∧ l11Dec d (1000) (1) ≤ 65535
      then some (s.set (RLC_RAIL_TON.RISE r) (l11Dec d (1000) (1)).toNat) else none)
  ∧ WritesPmb .toffDelay 0 2 (fun s r d => if (0 : Int) ≤ l11Dec d (1000) (1) ∧ l11Dec d (1000) (1) ≤ 65535
      then some (s.set (RLC_RAIL_TOFF.DLY r) (l11Dec d (1000) (1)).toNat) else none)
  ∧ WritesPmb .toffFall 0 2 (fun s r d => if (0 : Int) ≤ l11Dec d (1000) (1) ∧ l11Dec d (1000) (1) ≤ 65535
      then some (s.set (RLC_RAIL_TOFF.FALL r) (l11Dec d (1000) (1)).toNat) else none)
  ∧ WritesPmb .voutOvFaultLimit 0 2 (fun s r d => if (2 * d * s.get (RLC_RAIL_SCALE.SCALE r) + 2621440) / 5242880 < 65536
      then some (s.set (BLW_OV.FABS r) ((2 * d * s.get (RLC_RAIL_SCALE.SCALE r) + 2621440) / 5242880)) else none)
  ∧ WritesPmb .voutUvFaultLimit 0 2 (fun s r d => if (2 * d * s.get (RLC_RAIL_SCALE.SCALE r) + 2621440) / 5242880 < 65536
      then some (s.set (BLW_UV.FABS r) ((2 * d * s.get (RLC_RAIL_SCALE.SCALE r) + 2621440) / 5242880)) else none)
  ∧ WritesPmb .voutOvWarnLimit 0 2 (fun s r d => if 1 ≤ roundDiv (1 * ((d * 1000 : Nat) - (s.get (RLC_RAIL_REQ.PMB r) * 2048 : Nat)) * (s.get (RLC_RAIL_SCALE.SCALE r) : Nat))
        ((4096 * 2 ^ 24 : Nat) : Int) ∧ roundDiv (1 * ((d * 1000 : Nat) - (s.get (RLC_RAIL_REQ.PMB r) * 2048 : Nat)) * (s.get (RLC_RAIL_SCALE.SCALE r) : Nat))
        ((4096 * 2 ^ 24 : Nat) : Int) ≤ 255
      then some (s.set (BLW_OV.WREL r) (roundDiv (1 * ((d * 1000 : Nat) - (s.get (RLC_RAIL_REQ.PMB r) * 2048 : Nat)) * (s.get (RLC_RAIL_SCALE.SCALE r) : Nat))
        ((4096 * 2 ^ 24 : Nat) : Int)).toNat) else none)
  ∧ WritesPmb .voutUvWarnLimit 0 2 (fun s r d => if 1 ≤ roundDiv ((-1) * ((d * 1000 : Nat) - (s.get (RLC_RAIL_REQ.PMB r) * 2048 : Nat)) * (s.get (RLC_RAIL_SCALE.SCALE r) : Nat))
        ((4096 * 2 ^ 24 : Nat) : Int) ∧ roundDiv ((-1) * ((d * 1000 : Nat) - (s.get (RLC_RAIL_REQ.PMB r) * 2048 : Nat)) * (s.get (RLC_RAIL_SCALE.SCALE r) : Nat))
        ((4096 * 2 ^ 24 : Nat) : Int) ≤ 255
      then some (s.set (BLW_UV.WREL r) (roundDiv ((-1) * ((d * 1000 : Nat) - (s.get (RLC_RAIL_REQ.PMB r) * 2048 : Nat)) * (s.get (RLC_RAIL_SCALE.SCALE r) : Nat))
        ((4096 * 2 ^ 24 : Nat) : Int)).toNat) else none)
  ∧ WritesPmb .voutOvFaultResponse 0 1 (fun s r d => if d / 64 ≠ 1 then some (s.wr (BLW_LAD_OV r) (ladderFor (s.rd (BLW_LAD_OV r)) d)) else none)
  ∧ WritesPmb .voutUvFaultResponse 0 1 (fun s r d => if d / 64 ≠ 1 then some (s.wr (BLW_LAD_UV r) (ladderFor (s.rd (BLW_LAD_UV r)) d)) else none)
  ∧ WritesPmb .ioutOcFaultResponse 0 1 (fun s r d => if d / 64 ≠ 1 ∧ d / 64 ≠ 0 then some (s.wr (BLW_LAD_ROC r) (ladderFor (s.rd (BLW_LAD_ROC r)) d)) else none)
  ∧ WritesPmb .otFaultResponse 0 1 (fun s r d => if d / 64 ≠ 1 then some (s.wr (BLW_LAD_POT r) (ladderFor (s.rd (BLW_LAD_POT r)) d)) else none)
  ∧ WritesPmb .otFaultLimit 0 2 (fun s _ d => if -32768 ≤ l11Dec d 128 1 ∧ l11Dec d 128 1 ≤ 32767 then some (s.seti BLW_OT_PH.FAULT (l11Dec d 128 1)) else none)
  ∧ WritesPmb .otWarnLimit 0 2 (fun s _ d => if -32768 ≤ l11Dec d 128 1 ∧ l11Dec d 128 1 ≤ 32767 then some (s.seti BLW_OT_PH.WARN (l11Dec d 128 1)) else none)
  ∧ WritesPmb .vinOvFaultLimit 0 2 (fun s r d => match s.pageInput r with
      | some k => if 0 ≤ l11Dec d 1000 1 ∧ l11Dec d 1000 1 ≤ 65535 then some (s.set (BLW_VIN_TH.OV k) (l11Dec d 1000 1).toNat) else none
      | none => none)
  ∧ WritesPmb .vinUvFaultLimit 0 2 (fun s r d => match s.pageInput r with
      | some k => if 0 ≤ l11Dec d 1000 1 ∧ l11Dec d 1000 1 ≤ 65535 then some (s.set (BLW_VIN_TH.UV k) (l11Dec d 1000 1).toNat) else none
      | none => none)
  ∧ WritesPmb .mfrPhaseCmd 0 2 (fun s r d => if 1 ≤ d / 4096 ∧ d / 4096 ≤ 4 ∧ d / 256 % 16 = 0 ∧ s.memberOf (d % 256) r = true
      then some (s.phaseCommand (d / 4096) (d % 256)) else none)
  ∧ WritesPmb .mfrLatchClear 0 0 (fun s r _ => some (s.set (BLW_PROT_STAT.LATCH r) 0))
  ∧ (∀ (o : PmbOp) (s : State) (r : Nat), s.pmbOn o r = true → o.write = true → o.pec ≠ .bad →
    (o.pec = .absent → s.on (RLC_PMB_CFG.PECREQ o.q) = false) →
    exec (.pmbusUnsupported o) s = .next ((s.setCml 7 r).keep s)
    ∧ (s.wpAllows o.q 2 = true → o.data.length = 1 → (ofLe o.data < 32 ∨ ofLe o.data = 0xFF) →
      exec (.pageCmd o) s = .next ((s.set (RLC_PMB_STAT.PAGE o.q) (ofLe o.data)).keep s))
    ∧ (s.wpAllows o.q 3 = true → o.data.length = 1 → ofLe o.data ∈ [0, 0x20, 0x40, 0x80] →
      exec (.writeProtect o) s = .next ((s.set (RLC_PMB_CFG.WPROT o.q) (ofLe o.data)).keep s))
    ∧ (s.wpAllows o.q 0 = true → o.data = [] →
      exec (.clearFaults o) s = .next (((s.clearPage r).unalert o.q).keep s)
      ∧ exec (.storeUserAll o) s = .next ((s.fire [hPmbstore]).keep s)
      ∧ exec (.restoreUserAll o) s = .next ((s.fire [hPmbstore]).keep s)))
  ∧ (∀ (s : State) (q : Nat), s.alive = true → q < 2 →
    exec (.pmbusSclTimeout q) s = .next ({ s with rlc := { s.rlc with sda := modNth s.rlc.sda q (fun _ => false) } })
    ∧ (s.on (RLC_PMB_CFG.EN q) = true → nth s.rlc.alert q false = true → s.pinsIdle = false →
      exec (.alertResponse q) s
        = .next (((s.emit (.pmb q [BitVec.ofNat 8 (2 * s.get (RLC_PMB_CFG.ADDR q))])).unalert q).keep s)))

/-- A group forwards the waiting event of the channel that comes next; outside Ember a delay fires its output and a one-shot or a counter becomes free; a software fire of a consumer that exists is an event with channel 512 and of one that does not is ignored; GO starts a commit and the check ends it; an input pin follows its edge and fires on the edge chosen; an output event toggles or pulses its pin once Kindle has completed, and the pulse ends at the idle level. ONE_SHOT_END as the end of a counter’s busy time is the choice of log entry 53. -/
def Obligations.FabricRowsComplete : Prop :=
  (∀ (s : State) (g n : Nat), g < 8 → (s.groupOrder g).find? (fun k => decide (0 < s.waitingAt k)) = some n →
    exec (.channelForward g) s = .next ((s.forwardFrom n).keep s))
  ∧ (∀ (s u : State) (n : Nat), n < 512 → s.pmu.ember = false → s.on (EVF_CH_STAT.BUSY n) = true → u = s.set (EVF_CH_STAT.BUSY n) 0 →
    (s.chElem n = 3 → exec (.delayElementFire n) s = .next ((if u.chOn n = true then u.chanOut n else u).keep s))
    ∧ (s.chElem n = 1 ∨ s.chElem n = 2 → exec (.oneShotEnd n) s = .next (u.keep s)))
  ∧ (∀ (s : State) (w : Who) (k : Nat), s.alive = true → w.wf = true → k < 2048 →
    s.may w EVF_CON_FIRE (BitVec.ofNat 32 k) = true →
    (consumerOk k = true → exec (.consumerFire w k) s = .next ((s.consumerEvent k 512).keep s))
    ∧ (consumerOk k = false → exec (.consumerFire w k) s = .next ((s.set EVF_STAT.WIGN 1).keep s)))
  ∧ (∀ (s : State) (w : Who), s.alive = true → w.wf = true → s.may w EVF_COMMIT 1 = true →
    (s.on EVF_COMMIT.BUSY = false → exec (.evfCommitGo w) s = .next ((s.set EVF_COMMIT.BUSY 1).keep s)))
  ∧ (∀ s : State, s.alive = true → s.on EVF_COMMIT.BUSY = true → s.on EVF_COMMIT.DEFER = false →
    exec .evfCommitCheck s = .next (s.evfChecked.keep s))
  ∧ (∀ (s u : State) (k : Nat) (lvl : Bool), k < 32 → s.on (EVF_EVIO.DIR k) = false → u = s.setb (EVF_EVIO.LEVEL k) lvl →
    exec (.evioInputEdge k lvl) s = .next ((if s.get (EVF_EVIO.EDGE k) = 2 ∨ (s.get (EVF_EVIO.EDGE k) = 0 ∧ lvl = true)
      ∨ (s.get (EVF_EVIO.EDGE k) = 1 ∧ lvl = false) then u.fire [hEvioIn k] else u).keep s))
  ∧ (∀ (s u : State) (k : Nat), k < 32 → s.pmu.ember = false → s.on (EVF_CON.PEND (208 + k)) = true → u = s.takeEvent (208 + k) →
    u.on (EVF_EVIO.DIR k) = true → u.unKindled = false →
    (u.on (EVF_EVIO.OMODE k) = true → exec (.evioOutput k) s = .next ((u.evioTo k (!u.on (EVF_EVIO.LEVEL k))).keep s))
    ∧ (u.on (EVF_EVIO.OMODE k) = false →
      exec (.evioOutput k) s = .next (((u.evioTo k (!u.evioIdle k)).setPulse k true).keep s)))
  ∧ (∀ (s : State) (k : Nat), k < 32 → nth s.evf.pulse k false = true →
    exec (.evioPulseEnd k) s
      = .next (((s.setPulse k false).evioTo k ((s.setPulse k false).evioIdle k)).keep s))

/-- An edge of an existing source sets its pending bit (through its consumer where one drives it); a software set sets the bits of sources that exist; where a request is eligible and every older result has landed, the highest request then is entered, an interrupt source or a task slot, unless a word of the entry sequence fails; with none left the sequence ends; enabling a slot under the world rules writes its configuration; DOZE wakes; a core reset acts as its register write; the commit row runs the check. A machine check that waits at the boundary is taken before the request (R312). -/
def Obligations.InterruptRowsComplete : Prop :=
  (∀ (s : State) (n : Nat), s.alive = true →
    (n < 512 → sourceOk n = true → sourceConsumer n = none → exec (.icuSourceEdge n) s = .next ((s.icuRaise n).keep s))
    ∧ (∀ k, n < 1280 → sourceConsumer n = some k → s.on (EVF_CON.PEND k) = true →
      exec (.icuSourceEdge n) s = .next (((s.takeEvent k).icuRaise n).keep s)))
  ∧ (∀ (s : State) (w : Who) (i : Nat) (v : Word), s.alive = true → w.wf = true → i < 40 → s.may w (ICU_SET i) v = true →
    exec (.icuSoftwareSet w i v) s = .next ((s.each ((List.range 32).filter (fun j => wbit v j && sourceOk (32 * i + j)))
      (fun x j => x.setBit (ICU_PEND i) j true)).keep s))
  ∧ (∀ (s : State) (p : Nat), s.alive = true → p < 6 → s.canEnter p = true → (s.eligible p).isSome = true → (s.core p).boundary ≠ [] →
    exec (.interruptEntry p) s = .next ((s.takeBoundary p).keep s) ∧ exec (.taskActivation p) s = .next ((s.takeBoundary p).keep s))
  ∧ (∀ (s t : State) (p : Nat), s.alive = true → p < 6 → s.canEnter p = true → (s.eligible p).isSome = true → (s.core p).boundary = [] →
    t = s.landAll p →
    (∀ n, t.eligible p = some (.source n) → t.serviceOk p 0x200 = true →
      exec (.interruptEntry p) s = .next ((t.enterRequest p (.source n) none).keep s))
    ∧ (∀ sl, t.eligible p = some (.slot sl) → t.serviceOk p 0x201 = true →
      exec (.taskActivation p) s = .next ((t.enterRequest p (.slot sl) none).keep s))
    ∧ (t.eligible p = none → exec (.interruptEntry p) s = .next (t.keep s) ∧ exec (.taskActivation p) s = .next (t.keep s)))
  ∧ (∀ (s : State) (w : Who) (p sl : Nat), s.alive = true → wfSlotEnable w p sl = true →
    s.may w (DRV_SLOT_CFG p sl) (s.rd (DRV_SLOT_CFG p sl) ||| 0x80000000) = true →
    exec (.slotEnable w p sl) s = .next ((s.slotWrite p sl (s.rd (DRV_SLOT_CFG p sl) ||| 0x80000000)).keep s))
  ∧ (∀ (s : State) (p : Nat), s.alive = true → p < 6 → s.get (DRV_STAT.IDLE p) = 2 →
    exec (.dozeWake p) s = .next ((s.set (DRV_STAT.IDLE p) 1).keep s))
  ∧ (∀ (s : State) (w : Who) (p key : Nat), s.alive = true → wfCoreReset w p key = true →
    s.may w (DRV_RST p) (BitVec.ofNat 32 key) = true →
    exec (.coreReset w p key) s = .next ((s.regEffect (DRV_RST p) (BitVec.ofNat 32 key)).keep s))
  ∧ (∀ (s : State) (w : Who), s.alive = true → w.wf = true → s.may w ICU_COMMIT 1 = true →
    exec (.icuCommitLock w) s = .next (s.icuLock.keep s))

/-- A long operation in flight completes; the oldest store retires; the merge buffer flushes and the boundary is taken unless a load waits; a control-store fault of a running core acts, with the ILL flag where the word it meets is ILL; LOAD and COPY of a half that is not active and VERIFY of any half start the engine; SWITCH of a valid half in Hold or during Kindle, and of the ROM in any mode, waits; both complete; a command that fails its check gives its RESULT, and one while BUSY, of HALF 3 or of the ROM (but SWITCH) sets WIGN; patch words are written and locked, an error injection is written, under the world rules. -/
def Obligations.CoreStoreRowsComplete : Prop :=
  (∀ (s : State) (p : Nat) (u : LUnit) (l : LongOp), s.alive = true → p < 6 →
    (s.core p).long.find? (fun x => x.unit == u) = some l →
    exec (.longOpComplete p u) s = .next ((s.finishLong p l).keep s))
  ∧ (∀ (s : State) (p : Nat), s.alive = true → p < 6 →
    exec (.storeBufferRetire p) s = .next ((s.retireStore p).keep s)
    ∧ (((s.flushMerge p).core p).pload.isSome = true →
      exec (.mergeBufferFlush p) s = .next ((s.flushMerge p).keep s)))
  ∧ (∀ (s : State) (p : Nat), s.alive = true → p < 6 → ((s.flushMerge p).core p).pload = none →
    nth (s.flushMerge p).pmu.held p true = false →
    exec (.mergeBufferFlush p) s = .next (((s.flushMerge p).takeBoundary p).keep s))
  ∧ (∀ (s : State) (p a : Nat), s.alive = true → p < 6 → a < 32768 → s.on (DRV_STAT.LOCKED p) = false →
    nth s.pmu.held p true = false →
    (s.ucFetch p a ≠ .ill → exec (.ucFetchFault p a false) s = .next ((s.ucFault p a false).keep s))
    ∧ (s.ucIll p a = true → exec (.ucFetchFault p a true) s = .next ((s.ucFault p a true).keep s)))
  ∧ (∀ (s : State) (w : Who) (p h : Nat), s.alive = true → w.wf = true → p < 6 → h < 3 → s.on (UC_STAT.BUSY p) = false →
    (s.may w (UC_CMD p) (ucCmdWord 1 h) = true → h ≠ 0 →
      (h ≠ s.get (UC_STAT.ACT p) → exec (.ucLoad w p h) s = .next (((s.setUcValid p h false).ucBusy p 1 h).keep s))
      ∧ (h = s.get (UC_STAT.ACT p) → exec (.ucLoad w p h) s = .next ((s.set (UC_STAT.RESULT p) 2).keep s)))
    ∧ (s.may w (UC_CMD p) (ucCmdWord 2 h) = true → h ≠ 0 → exec (.ucVerify w p h) s = .next ((s.ucBusy p 2 h).keep s))
    ∧ (s.may w (UC_CMD p) (ucCmdWord 4 h) = true → h ≠ 0 →
      (h ≠ s.get (UC_STAT.ACT p) → exec (.ucCopy w p h) s = .next ((s.ucBusy p 4 h).keep s))
      ∧ (h = s.get (UC_STAT.ACT p) → exec (.ucCopy w p h) s = .next ((s.set (UC_STAT.RESULT p) 2).keep s)))
    ∧ (s.may w (UC_CMD p) (ucCmdWord 3 h) = true →
      (h = 0 ∨ ((s.mode = modeHold ∨ s.mode = modeKindle) ∧ s.ucValid p h = true) →
        exec (.ucSwitch w p h) s = .next ({ s.set (UC_STAT.SWPEND p) 1 with
          uc := { s.uc with sw := modNth s.uc.sw p (fun _ => some h) } }.keep s))
      ∧ (h ≠ 0 → s.mode ≠ modeHold → s.mode ≠ modeKindle →
        exec (.ucSwitch w p h) s = .next ((s.set (UC_STAT.RESULT p) 3).keep s))
      ∧ (h ≠ 0 → (s.mode = modeHold ∨ s.mode = modeKindle) → s.ucValid p h = false →
        exec (.ucSwitch w p h) s = .next ((s.set (UC_STAT.RESULT p) 4).keep s))))
  ∧ (∀ (s : State) (w : Who) (p h op : Nat) (i : Instr), s.alive = true → w.wf = true → p < 6 → h < 4 →
    (op, i) ∈ [(1, .ucLoad w p h), (2, .ucVerify w p h), (3, .ucSwitch w p h), (4, .ucCopy w p h)] →
    s.may w (UC_CMD p) (ucCmdWord op h) = true → (s.on (UC_STAT.BUSY p) = true ∨ h = 3 ∨ (h = 0 ∧ op ≠ 3)) →
    exec i s = .next ((s.set (UC_STAT.WIGN p) 1).keep s))
  ∧ (∀ (s : State) (p : Nat), s.alive = true → p < 6 →
    exec (.ucCommandDone p) s = .next ((s.ucDone p).keep s)
    ∧ exec (.ucSwitchTake p) s = .next ((s.ucTake p).keep s))
  ∧ (∀ (s : State) (w : Who) (p : Nat) (v : Word), s.alive = true → w.wf = true → p < 6 →
    (s.may w (UC_PATCH_DATA p) v = true → exec (.patchWrite w p v) s = .next ((s.patchData p v).keep s))
    ∧ (s.may w (UC_CTL p) 1 = true → exec (.patchLock w p) s = .next ((s.set (UC_CTL.PLOCK p) 1).keep s))
    ∧ (s.may w (MEM_INJ p) v = true → exec (.memInject w p v) s = .next ((s.injWrite p v).keep s)))

/-- A descriptor read appends the descriptors it brings, settles those that fail their checks and advances HEAD, or stops the queue with error 2; the descriptor the engine serves next executes its opcode and completes with status 0 (REGR with the value read); a parity error of its buffered copy completes it with status 1 without executing, one that refuses an access with status 5, the accesses before it standing; firmware opcodes go to the inbox and complete through HIF_FWCPL. Of the model, not of the spec: failing descriptors complete without a row of their own, and whether a buffered copy fails its second check and which access meets a parity error are operands of the rows (log entry 90); a firmware descriptor counts as executed at its completion (log entry 91). -/
def Obligations.HostCommandRowsComplete : Prop :=
  (∀ (s : State) (q n h : Nat), s.alive = true → q < 16 → s.sqRuns q = true → n = s.fetchCount q → 0 < n →
    h = s.get (HIF_SQ_STAT.HEAD q) →
    exec (.descriptorFetch q .error) s
      = .next (((s.emit (.dmaRead (s.ringBase (HIF_SQ_LO q) (HIF_SQ_HI q) + 64 * h) (64 * n))).sqStop q 2).keep s)
    ∧ (∀ ds : List Bytes, ds.length = n → exec (.descriptorFetch q (.data ds)) s
      = .next (((((s.emit (.dmaRead (s.ringBase (HIF_SQ_LO q) (HIF_SQ_HI q) + 64 * h) (64 * n))).set (HIF_SQ_STAT.HEAD q)
          ((h + n) % (s.emit (.dmaRead (s.ringBase (HIF_SQ_LO q) (HIF_SQ_HI q) + 64 * h) (64 * n))).sqCount q)).modSq q (fun x =>
            { x with fetched := x.fetched ++ ((List.range n).zip ds).map (fun e => { idx := h + e.1, bytes := bytesAt e.2 0 64 }) })).settle).keep s)))
  ∧ (∀ (s u : State) (q : Nat) (d : Desc), s.alive = true → q < 16 → s.serves q d = true → u = s.settle →
    (d.b 0 = 0x00 → exec (.hostNop q) s = .next ((u.finished q d 0 0).keep s))
    ∧ (d.b 0 = 0x01 → exec (.regw q .sound) s
      = .next (((u.each (regwWrites d) (fun x w => x.regEffect w.1 w.2)).finished q d 0 0).keep s))
    ∧ (d.b 0 = 0x02 → exec (.regr q .sound) s
      = .next (((u.regRead (u.tenantWho .host) (0x40000000 + d.f 8 4)).2.finished q d 0
          (u.regRead (u.tenantWho .host) (0x40000000 + d.f 8 4)).1).keep s))
    ∧ (d.b 0 = 0x10 → exec (.railVset q .sound) s
      = .next (((u.regEffect (RLC_RAIL_HREF (d.b 8)) (putBits (BitVec.ofNat 32 (d.f 10 2)) 31 31 (d.b 9))).finished q d 0 0).keep s))
    ∧ (d.b 0 = 0x11 → exec (.railOn q .sound) s
      = .next ((((u.set (RLC_RAIL_CTL.ON (d.b 8)) (d.b 9)).arbitrate (d.b 8)).finished q d 0 0).keep s))
    ∧ (d.b 0 = 0x12 → exec (.phaseCmd q .sound) s
      = .next (((u.regEffect PHA_PH_CMD (BitVec.ofNat 32 (d.b 9 * 2 ^ 16 + d.b 8))).finished q d 0 0).keep s))
    ∧ (d.b 0 = 0x13 → exec (.quench q .sound) s
      = .next (((u.regEffect BLW_QCMD (BitVec.ofNat 32 (d.b 9 * 2 ^ 30 + d.b 8))).finished q d 0 0).keep s))
    ∧ (d.b 0 = 0x20 → exec (.capture q .sound) s = .next (((u.fireConsumer (200 + d.b 8)).finished q d 0 0).keep s))
    ∧ (d.b 0 = 0x21 → exec (.capDump q .sound) s = .next ((u.dumpStart.finished q d 0 0).keep s))
    ∧ (d.b 0 = 0x22 → exec (.capRearm q .sound) s = .next ((u.capArm.finished q d 0 0).keep s))
    ∧ (0x80 ≤ d.b 0 → exec (.fwDescriptor q) s = .next ((u.fwDeliver q d).keep s))
    ∧ (∀ (i : DescErr → Instr) (op : Nat), d.b 0 = op → (op, i) ∈ [(0x01, .regw q), (0x02, .regr q), (0x10, .railVset q), (0x11, .railOn q),
        (0x12, .phaseCmd q), (0x13, .quench q), (0x20, .capture q), (0x21, .capDump q), (0x22, .capRearm q)] →
      exec (i .buffer) s = .next ((((u.turn q).complete q 1 0).settle).keep s)
      ∧ exec (i (.parity 0)) s = .next ((u.finished q d 5 0).keep s))
    ∧ (∀ k, d.b 0 = 0x01 → k < d.b 8 → exec (.regw q (.parity k)) s
      = .next (((u.each ((regwWrites d).take k) (fun x w => x.regEffect w.1 w.2)).finished q d 5 0).keep s)))
  ∧ (∀ (s : State) (w : Who) (v : Word) (d : Desc) (ds : List Desc), s.alive = true → w.wf = true → s.may w HIF_FWCPL v = true →
    (s.sqOf (getBits v 31 28)).fetched = d :: ds → d.fw = true → (getBits v 23 16 = 0 ∨ getBits v 23 16 = 6) →
    exec (.fwCompletion w v) s = .next (((((s.executed (getBits v 31 28) d).complete (getBits v 31 28) (getBits v 23 16)
        (s.rd HIF_FWRES)).settle)).keep s))

/-- While the function answers memory requests, a doorbell in range moves its tail or head (and a queue doorbell fires its producer), one out of range stops the queue or ring; a held completion is posted; a ring or a queue restarts by its register write; the host world locks; the oldest held event record is written when its ring is on; a post goes to the event ring; a telemetry record that is ready is sent; the commit row runs the check. -/
def Obligations.HostRingRowsComplete : Prop :=
  (∀ (s u : State) (q : Nat) (v : Word), s.alive = true → s.memOn = true → q < 16 → u = (s.setDb (8 * q) v).fire [hDb q] →
    (v.toNat < u.sqCount q → exec (.sqDoorbell q v) s = .next ((u.modSq q (fun x => { x with tail := v.toNat })).keep s))
    ∧ (u.sqCount q ≤ v.toNat → exec (.sqDoorbell q v) s = .next ((u.sqStop q 1).keep s)))
  ∧ (∀ (s u : State) (c : Nat) (v : Word), s.alive = true → s.memOn = true → c < 16 → u = s.setDb (0x80 + 8 * c) v →
    (v.toNat < u.cqCount c → exec (.cqHeadDoorbell c v) s
      = .next (((u.modCq c (fun x => { x with head := v.toNat })).settle).keep s))
    ∧ (u.cqCount c ≤ v.toNat → exec (.cqHeadDoorbell c v) s
      = .next (((((u.set (HIF_CQ_STAT.ERR c) 1).fireHif 6)).settle).keep s))
    ∧ exec (.completionPost c) s = .next (((s.postCompl c).settle).keep s))
  ∧ (∀ (s u : State) (t : Nat) (v : Word), s.alive = true → s.memOn = true → t < 8 → u = s.setDb (0x100 + 8 * t) v →
    (v.toNat < u.slabs t → exec (.telemetryHeadDoorbell t v) s = .next ((u.modTr t (fun x => { x with head := v.toNat })).keep s))
    ∧ (u.slabs t ≤ v.toNat → exec (.telemetryHeadDoorbell t v) s
      = .next (((u.set HIF_STAT.TRERR (u.get HIF_STAT.TRERR ||| 2 ^ t)).fireHif 6).keep s))
    ∧ (s.telReady t = true → exec (.telemetryRecord t) s = .next ((s.telSend t).keep s)))
  ∧ (∀ (s u : State) (v : Word), s.alive = true → s.memOn = true → u = s.setDb 0x140 v →
    (v.toNat < u.evCount → exec (.eventHeadDoorbell v) s = .next ({ u with hif := { u.hif with evHead := v.toNat } }.keep s))
    ∧ (u.evCount ≤ v.toNat → exec (.eventHeadDoorbell v) s = .next (((u.set HIF_EVR_CTL.ERR 1).fireHif 6).keep s)))
  ∧ (∀ (s : State) (w : Who) (x : RingId), s.alive = true → w.wf = true → x.wf = true →
    s.may w (s.ringErrWrite x).1 (s.ringErrWrite x).2 = true →
    exec (.ringRestart w x) s = .next ((s.restartRing x).keep s))
  ∧ (∀ (s : State) (w : Who) (q : Nat), s.alive = true → w.wf = true → q < 16 → s.may w (HIF_SQ_CTL q) (s.rd (HIF_SQ_CTL q)) = true →
    exec (.queueRestart w q) s = .next (((s.sqCtlWrite q (putBits (s.rd (HIF_SQ_CTL q)) 0 0 0)).sqCtlWrite q
      (putBits (s.rd (HIF_SQ_CTL q)) 0 0 1)).keep s))
  ∧ (∀ (s : State) (w : Who), s.alive = true → w.wf = true →
    (s.may w HIF_HPOL (s.rd HIF_HPOL ||| 2) = true →
      exec (.hostWorldLock w) s = .next ((s.hpolWrite (s.rd HIF_HPOL ||| 2)).keep s))
    ∧ (s.may w HIF_EVPOST_3 1 = true → exec (.eventPost w) s
      = .next ((s.evPost 9 ((List.range 3).flatMap (fun i => leBytes 4 (s.rd (HIF_EVPOST i)).toNat))).keep s))
    ∧ (s.may w HIF_COMMIT 1 = true → exec (.hifCommitLock w) s = .next (s.hifLock.keep s)))
  ∧ (∀ s : State, s.alive = true → s.dmaOn = true → s.on HIF_EVR_CTL.EN = true → s.on HIF_EVR_CTL.ERR = false →
    (∀ r, s.hif.ev08 = some r → exec .eventRecordWrite s
      = .next (({ s with hif := { s.hif with ev08 := none } }.evWrite r).keep s))
    ∧ (∀ r rs, s.hif.ev08 = none → s.hif.evHeld = r :: rs → exec .eventRecordWrite s
      = .next (({ s with hif := { s.hif with evHeld := rs } }.evWrite r).keep s)))

/-- A capture trigger that arrives on its own acts at once; ARM and DUMP act by their register under the world rules; the buffer freezes once the frames after the trigger are written; the dump sends its next record; the link comes up and signals what is pending; a rate change of an up link suspends the committed live rings that no longer fit, their records in progress dropped and the next marked GAP, resumes those that fit again, and fires HIF event 5 where a ring goes; D3hot is entered and left; a host-interface reset acts by its kind. Of the model, not of the spec: a suspended ring drops the record in progress (log entry 133), and CAPTURE_TRIGGER is the arrival of the event (log entry 134). -/
def Obligations.CaptureLinkRowsComplete : Prop :=
  (∀ (s : State) (k : Nat), s.alive = true → k < 4 →
    exec (.captureTrigger k) s = .next ((s.capTrigger k).keep s))
  ∧ (∀ (s : State) (w : Who), s.alive = true → w.wf = true →
    (s.may w HIF_CAP_CTL 1 = true → exec (.captureArm w) s = .next (s.capArm.keep s))
    ∧ (s.may w HIF_CAP_CTL 2 = true → exec (.captureDump w) s = .next (s.dumpStart.keep s)))
  ∧ (∀ s : State, s.alive = true → s.get HIF_CAP_STAT.STATE = 2 → s.capFull = true →
    exec .captureFreeze s = .next (s.capFreeze.keep s))
  ∧ (∀ (s : State) (i : Nat), s.alive = true → s.hif.dump = some i → exec .dumpRecord s = .next ((s.dumpSend i).keep s))
  ∧ (∀ (s : State) (gen width : Nat), s.alive = true → wfLinkUp gen width = true → s.on HIF_STAT.LINK = false →
    exec (.linkUp gen width) s = .next ((((((s.set HIF_STAT.LINK 1).set HIF_STAT.SPEED gen).set HIF_STAT.WIDTH width).linkUpFire).signalPending).keep s))
  ∧ (∀ (s u x : State) (gen width : Nat) (keep lost : List Nat), s.alive = true → wfLinkRateChange gen width = true →
    s.on HIF_STAT.LINK = true → u = (s.set HIF_STAT.SPEED gen).set HIF_STAT.WIDTH width →
    keep = u.fitting u.ceiling u.committedLive.reverse →
    lost = u.committedLive.filter (fun t => !keep.contains t && !u.on (HIF_TR_STAT.SUSP t)) →
    x = u.each (List.range 8) (fun x t => x.setb (HIF_TR_STAT.SUSP t) (u.committedLive.contains t && !keep.contains t)) →
    (lost = [] → exec (.linkRateChange gen width) s = .next (x.keep s))
    ∧ (lost ≠ [] → exec (.linkRateChange gen width) s
      = .next (((x.each lost (fun x t => (x.trAbandon t).modTr t (fun r => { r with gap := true }))).fireHif 5).keep s)))
  ∧ (∀ (s : State) (on : Bool), s.alive = true →
    exec (.d3hot on) s = .next (({ s with hif := { s.hif with d3hot := on } }.signalPending).keep s))
  ∧ (∀ (s : State) (kind bytes : Nat), s.alive = true → 1 ≤ kind → kind ≤ 4 →
    exec (.hostInterfaceReset kind bytes) s = .next ((s.hostReset kind bytes).keep s))

/-- A cold reset, the reset pin and an expired watchdog start a reset of kind C, P and W; a supply below its reset level starts one of kind B, VEMB one of kind C; the key of NVC_KCTL starts one of kind K once the buffers of every core have drained; the memories come back zero from a reset pin in Ember, and the stores on their way reach them before a reset of kind P or W; the release of a reset in progress enters Kindle mode; Kindle runs its steps once its reset is released and the PLLs have locked. That buffers drain before a reset of kind P, W or K is a reading of the model (log entry 82), and that memory is zero after a reset pin in Ember (log entry 97). -/
def Obligations.ResetRowsComplete : Prop :=
  (∀ s : State, exec .coldReset s = .next ((s.resetOf 1).keep s) ∧ exec .resetPin s
    = .next (((if s.pmu.ember then s.zeroMem else s.drainMem).resetOf 3).keep s))
  ∧ (∀ (s : State) (sup mv : Nat), sup < 6 → mv < 65536 → mv < resetMv sup →
    (sup = 5 → exec (.brownOut sup mv) s = .next ((s.resetOf 1).keep s))
    ∧ (sup ≠ 5 → s.pmu.ember = false → s.pmu.rst ≠ some 2 → exec (.brownOut sup mv) s
      = .next ((((s.vmin sup mv).resetOf 2).set PMU_RSTINFO.BSUP sup).keep s)))
  ∧ (∀ s : State, s.alive = true → s.on PMU_WDT_CTL.EN = true → exec .watchdogExpiry s = .next ((s.drainMem.resetOf 4).keep s))
  ∧ (∀ (s : State) (w : Who) (v : Word), s.alive = true → w.wf = true → v = putBits (s.rd NVC_KCTL) 31 16 0x4B49 →
    getBits v 31 16 = 0x4B49 → s.may w NVC_KCTL v = true →
    exec (.kindleReset w 0x4B49) s = .next (((((s.plainWrite NVC_KCTL v).each (List.range 6) (fun s p =>
      s.drainCore (regEffectN 7) p))).resetOf 5).keep s))
  ∧ (∀ (s : State) (k : Nat), s.pmu.rst = some k → exec .resetRelease s = .next ((s.release k).keep s))
  ∧ (∀ (s : State) (x : KindleIn), s.alive = true → s.kindleReady = true → exec (.kindle x) s = .next ((s.kindle x).keep s))

/-- A flash command accepted outside Hold-on-dip makes the engine busy with the operation, in Hold-on-dip it waits; its end clears BUSY, sets RESULT to what the operation answers and raises the interrupt; an OTP command makes the fuses busy, to begin at once or, in Hold-on-dip, to wait, and takes effect at its end (log entry 80); the oldest MRAM record is written at the ring head, a post queues a record of type 9, and each second in Run or Graze counts. -/
def Obligations.StorageRowsComplete : Prop :=
  (∀ (s : State) (w : Who) (op half : Nat) (rbuf : Bool) (i : Instr), s.alive = true → w.wf = true → half < 2 →
    s.may w NVC_FCMD (fcmdWord op rbuf half) = true → s.on NVC_FSTAT.BUSY = false → s.on NVC_FSTAT.DEFER = false →
    ((op = 1 ∧ rbuf = false ∧ half = 0 ∧ i = .flashRead w) ∨ (op = 2 ∧ half = 0 ∧ i = .flashProgram w rbuf)
      ∨ (op = 3 ∧ rbuf = false ∧ half = 0 ∧ i = .flashErase w) ∨ (op = 4 ∧ rbuf = false ∧ i = .jappend w half)) →
    (s.dip = false → exec i s = .next ({ s.set NVC_FSTAT.BUSY 1 with nvc := { s.nvc with fop := some {
      op := op, rbuf := rbuf, half := half, addr := s.get NVC_FADDR.ADDR, sram := (s.rd NVC_FSRAM).toNat,
      len := s.get NVC_FLEN.LEN } } }.keep s))
    ∧ (s.dip = true → exec i s = .next ({ s.set NVC_FSTAT.DEFER 1 with nvc := { s.nvc with fdefer := some {
      op := op, rbuf := rbuf, half := half, addr := s.get NVC_FADDR.ADDR, sram := (s.rd NVC_FSRAM).toNat,
      len := s.get NVC_FLEN.LEN } } }.keep s)))
  ∧ (∀ (s u : State) (o : FlashOp), s.alive = true → s.nvc.fop = some o → o.susp = false →
    u = { s.set NVC_FSTAT.BUSY 0 with nvc := { s.nvc with fop := none } } →
    exec (.flashOpDone 0) s = .next ((((u.flashRun o).2.set NVC_FSTAT.RESULT (u.flashRun o).1).icuRaise 64).keep s)
    ∧ (u.flashRefuse o = 0 → exec (.flashOpDone 3) s = .next (((u.set NVC_FSTAT.RESULT 3).icuRaise 64).keep s)
      ∧ exec (.flashOpDone 7) s = .next (((u.set NVC_FSTAT.RESULT 7).icuRaise 64).keep s)))
  ∧ (∀ (s u : State) (w : Who) (n : Nat), s.alive = true → w.wf = true → n < 256 → s.on OTP_STAT.BUSY = false → u = s.set OTP_STAT.BUSY 1 →
    (s.may w OTP_CMD (BitVec.ofNat 32 (2 ^ 28 + n)) = true → exec (.otpProg w n) s
      = .next ({ u with nvc := if u.dip then { u.nvc with odefer := some (1, n, s.rd OTP_DATA) }
          else { u.nvc with oop := some (1, n, s.rd OTP_DATA) } }.keep s))
    ∧ (s.may w OTP_CMD 0x20000000 = true → exec (.otpAdvance w) s
      = .next ({ u with nvc := if u.dip then { u.nvc with odefer := some (2, 0, s.rd OTP_DATA) }
          else { u.nvc with oop := some (2, 0, s.rd OTP_DATA) } }.keep s)))
  ∧ (∀ (s u : State) (n : Nat) (d : Word) (ok : Bool), s.alive = true →
    u = { s.set OTP_STAT.BUSY 0 with nvc := { s.nvc with oop := none } } →
    (s.nvc.oop = some (1, n, d) → exec (.otpOpDone ok) s
      = .next ((((u.otpProgram n d ok).2.set OTP_STAT.RESULT (u.otpProgram n d ok).1).icuRaise 68).keep s))
    ∧ (s.nvc.oop = some (2, n, d) → exec (.otpOpDone ok) s
      = .next ((((u.otpAdvance).2.set OTP_STAT.RESULT u.otpAdvance.1).icuRaise 68).keep s)))
  ∧ (∀ (s u x : State) (r : MrRec) (rs : List MrRec), s.alive = true → s.pmu.ember = false → s.pmu.rst = none →
    s.nvc.mrLost = false → s.nvc.mrq = r :: rs →
    u = s.setBytes (0x20000400 + 32 * s.get NVC_MR_HEAD.HEAD) (mrBytes r s.nvc.mrLoss s.kindleCount (s.rd NVC_MR_SEQ).toNat) →
    x = { u with nvc := { u.nvc with mrq := rs, mrLoss := false } } →
    exec .mramRecordWrite s = .next ((((x.set NVC_MR_HEAD.HEAD ((s.get NVC_MR_HEAD.HEAD + 1) % 16384)).wr NVC_MR_SEQ
      (x.rd NVC_MR_SEQ + 1)).icuRaise 67).keep s))
  ∧ (∀ (s : State) (w : Who), s.alive = true → w.wf = true → s.may w NVC_MR_POST_3 1 = true →
    exec (.mramPost w) s = .next ((s.mrPost 9 ((List.range 3).flatMap (fun i => leBytes 4 (s.rd (NVC_MR_POST i)).toNat))).keep s))
  ∧ (∀ s : State, s.alive = true → (s.mode = modeRun ∨ s.mode = modeGraze) →
    exec .runSecond s = .next ((s.mramCount 6).keep s))

/-- Outside Hold-on-dip a request for Hold sets HOLD_REQ and waits for the next T0, one for its end or for the end of Quench waits where the checks pass, and Ember is entered where nothing refuses it; an enabled wake source ends Ember; the Ember timer fires at its compare value; a supply below its warning level enters Hold-on-dip, or while a reset wider than K holds the device only lowers PMU_VMIN, as VEMB does in Ember; one back above its exit level clears its bit, and DIP_EXIT leaves Hold-on-dip; the watchdog loads, reloads and warns. The exit record names the lowest-numbered low supply (log entry 84), the counts that the watchdog and timer rows leave are those of log entry 85, and entry and wake act at once (log entry 97). -/
def Obligations.ModeRowsComplete : Prop :=
  (∀ (s : State) (w : Who), s.alive = true → w.wf = true → s.dip = false →
    (s.may w PMU_CTL 1 = true → (s.mode = modeRun ∨ s.mode = modeGraze ∨ s.mode = modeQuench) →
      exec (.holdRequest w) s = .next (((s.set PMU_CTL.HOLD_REQ 1).putDue 1).keep s))
    ∧ (s.may w PMU_CTL 0 = true → s.mode = modeHold → s.holdExitCheck = 0 →
      exec (.holdExitRequest w) s = .next ((s.putDue 2).keep s))
    ∧ (∀ v u, v = putBits (s.rd PMU_CTL) 8 8 1 → s.may w PMU_CTL v = true → wbit v 4 = false → wbit v 8 = true →
      u = s.holdWrite (wbit v 0) → u.mode = modeQuench → u.on BLW_STAT.DQ = false → u.holdExitCheck = 0 →
      exec (.qexit w) s = .next ((u.putDue 4).keep s))
    ∧ (∀ v u, v = putBits (s.rd PMU_CTL) 4 4 1 → s.may w PMU_CTL v = true → wbit v 8 = false → wbit v 4 = true →
      u = s.holdWrite (wbit v 0) → u.emberCheck = 0 → exec (.emberReq w) s = .next (u.emberEnter.keep s)))
  ∧ (∀ s : State, s.alive = true →
    (s.mode = modeHold → s.get PMU_HOLD_LIM.LIMIT ≠ 0 → exec .holdLimit s = .next (((s.set PMU_STAT.HOLDLIM 1).pmuFire 6).keep s))
    ∧ (s.on PMU_WDT_CTL.EN = true → exec .watchdogWarn s
      = .next (((s.set PMU_WDT_CNT.COUNT (s.get PMU_WDT_CTL.TIMEOUT / 2)).pmuFire 5).keep s)))
  ∧ (∀ s : State, s.on PMU_ETMR_CTL.EN = true →
    exec .etimerMatch s = .next (((s.wr PMU_ETMR (s.rd PMU_ETMR_CMP + 1)).pmuFire 7).keep s))
  ∧ (∀ (s : State) (k : Nat), s.pmu.ember = true → k < 8 → nth s.pmu.wakeReq k false = true →
    s.on (EVF_CON.PEND (1536 + k)) = true →
    ∃ t, exec (.emberWake (.fabric k)) s = .next t ∧ t.pmu.ember = false ∧ t.tbu.tbc = s.pmu.saved.1
      ∧ t.tbu.bgc = s.pmu.saved.2.1 ∧ t.pending = s.pending)
  ∧ (∀ s : State, s.pmu.ember = true → s.on PMU_WAKE_EN.PERST = true →
    ∃ t, exec (.emberWake .perst) s = .next t ∧ t.pmu.ember = false ∧ t.tbu.tbc = s.pmu.saved.1
      ∧ t.tbu.bgc = s.pmu.saved.2.1 ∧ t.pending = s.pending)
  ∧ (∀ (s u : State) (sup mv : Nat), s.alive = true → sup < 6 → mv < warnMv sup → mv < 65536 → s.dip = false →
    u = s.vmin sup mv → u.dip = false →
    ∃ x : State, exec (.supplyDip sup mv) s = .next (((x.setSusp true).pmuFire 0).keep s)
      ∧ x = (((({ u.set PMU_STAT.DIPSUP (u.get PMU_STAT.DIPSUP ||| 2 ^ sup) with
          pmu := { u.pmu with low := modNth u.pmu.low sup (fun _ => true), dipMin := mv } }.set PMU_STAT.DIP 1).mramCount 7).mrPost 6
            (dipPayload false sup mv)).evPost 6 (payloadOf [0, sup])))
  ∧ (∀ (s : State) (sup mv : Nat), sup < 6 → mv < 65536 →
    (s.pmu.ember = true → sup ≠ 5 → exec (.supplyDip sup mv) s = .next s)
    ∧ (s.pmu.ember = true → sup = 5 → exec (.supplyDip sup mv) s = .next ((s.vmin sup mv).keep s))
    ∧ (∀ k, s.pmu.ember = false → s.pmu.rst = some k → k ≠ 5 → exec (.supplyDip sup mv) s = .next ((s.vmin sup mv).keep s)))
  ∧ (∀ (s u : State) (sup mv : Nat), s.alive = true → sup < 6 → mv < 65536 → 0 < warnMv sup → exitMv sup ≤ mv → u = s.vmin sup mv →
    ∃ t : State, exec (.supplyDip sup mv) s = .next (t.keep s)
      ∧ t = (let x := u.set PMU_STAT.DIPSUP (putBits (BitVec.ofNat 32 (u.get PMU_STAT.DIPSUP)) sup sup 0).toNat
          if (List.range 6).any (fun i => i != sup && nth x.pmu.low i false) then
            { x with pmu := { x.pmu with low := modNth x.pmu.low sup (fun _ => false) } }
          else x))
  ∧ (∀ (s : State) (i : Nat), s.alive = true → s.dip = true → (List.range 6).find? (fun i => nth s.pmu.low i false) = some i →
    ∃ x : State, exec .dipExit s = .next ((({ x with pmu := { x.pmu with low := List.replicate 6 false, dipMin := 0xFFFF } }.pmuFire 1).dipOps.heldAct).keep s)
      ∧ x = (((s.set PMU_STAT.DIP 0).set PMU_STAT.DIPSUP 0).mrPost 6 (dipPayload true i s.pmu.dipMin)).evPost 6 (payloadOf [1, i]))
  ∧ (∀ (s : State) (w : Who), s.alive = true → w.wf = true →
    (∀ v, v = putBits (s.rd PMU_WDT_CTL) 31 31 1 → s.may w PMU_WDT_CTL v = true → s.on PMU_WDT_CTL.EN = false →
      exec (.watchdogEnable w) s = .next ((s.wdtWrite v).keep s))
    ∧ (s.may w PMU_WDT_KICK (BitVec.ofNat 32 0x5744) = true →
      exec (.watchdogKick w 0x5744) s = .next ((s.set PMU_WDT_CNT.COUNT (s.get PMU_WDT_CTL.TIMEOUT)).keep s)))

/-- New levels are a sequence error or count by the rule of the mode, or under HYST in Quadrature and Hall modes are absorbed when their sign differs from DIR; C/IDX as the latch source captures before any count. An edge of the latch source with FUNC 0, MFm_PRB being it where LATSRC is 0, captures position and time or sets LATOVR. POS reads with its wrap tally and is written. The first speed update of a channel gives 0 with STALL judged as at every update, and a later one follows R433: counts over the time between them, a stall after STALL_US, else at most the speed at which no count has come. A period takes the command of register, lane or fallback, held at MAXD and PWMPER, at or above 0 in unipolar drive; where the outputs idle it drives none. Each command raises the interrupt source of the channel where its flags rise. That latch and speed update need EN, that a speed without a counted interval is free, the round of the last line of R433 and a half of its first are the choices of the model (log entries 87 and 125). -/
def Obligations.MotionRowsComplete : Prop :=
  (∀ (m lv : Nat) (time : MfuTime) (g : State → State), m < 8 → lv < 8 → time.sub < 200 → (∀ s u w : State,
    u = (s.modMf m (fun x => { x with lv := lv })).set (MFU_CH_STAT.HALL m) lv →
    w = (if u.on (MFU_CH_CFG.LATSRC m) = true ∧ nbit (s.mf m).lv 2 ≠ nbit lv 2 then u.mfuLatch m (nbit lv 2) time.sub else u) →
    ∀ (v : Int × Bool) (c : Int) (x : State), v = mfuRule (s.get (MFU_CH_CFG.MODE m)) (s.mf m).lv lv →
    c = (if w.on (MFU_CH_CFG.DIRINV m) then - v.1 else v.1) →
    (w.on (MFU_CH_CFG.EN m) = false ∧ x = w
      ∨ w.on (MFU_CH_CFG.EN m) = true ∧ v.2 = true
        ∧ x = (w.set (if s.get (MFU_CH_CFG.MODE m) = 1 then MFU_CH_STAT.QERR m else MFU_CH_STAT.HALLERR m) 1).fire [hMfu m 2]
      ∨ w.on (MFU_CH_CFG.EN m) = true ∧ v.2 = false ∧ v.1 = 0 ∧ x = w
      ∨ w.on (MFU_CH_CFG.EN m) = true ∧ v.2 = false ∧ v.1 ≠ 0 ∧ w.on (MFU_CH_CFG.HYST m) = true
        ∧ (s.get (MFU_CH_CFG.MODE m) = 1 ∨ s.get (MFU_CH_CFG.MODE m) = 4) ∧ w.on (MFU_CH_STAT.DIR m) ≠ decide (0 < c)
        ∧ x = w.setb (MFU_CH_STAT.DIR m) (decide (0 < c))
      ∨ w.on (MFU_CH_CFG.EN m) = true ∧ v.2 = false ∧ v.1 ≠ 0 ∧ (w.on (MFU_CH_CFG.HYST m) = false
        ∨ (s.get (MFU_CH_CFG.MODE m) ≠ 1 ∧ s.get (MFU_CH_CFG.MODE m) ≠ 4) ∨ w.on (MFU_CH_STAT.DIR m) = decide (0 < c))
        ∧ x = w.mfuCount m c time.clock) →
    g s = if s.mfuFlag m = false ∧ x.mfuFlag m = true then x.icuRaise (88 + m) else x) →
    ∀ s : State, s.alive = true → exec (.mfuEdge m lv time) s = .next ((s.instant g).keep s))
  ∧ (∀ (s x : State) (m sub : Nat) (lvl : Bool), s.alive = true → m < 8 → sub < 200 →
    (s.on (MFU_CH_CFG.LATSRC m) = true → exec (.probeEdge m lvl sub) s = .next (s.keep s))
    ∧ (s.on (MFU_CH_CFG.LATSRC m) = false → x = s.mfuLatch m lvl sub → exec (.probeEdge m lvl sub) s
      = .next ((if s.mfuFlag m = false ∧ x.mfuFlag m = true then x.icuRaise (88 + m) else x).keep s)))
  ∧ (∀ (s x : State) (m sub : Nat) (lvl : Bool), s.on (MFU_CH_CFG.EN m) = true → s.on (MFU_CH_CFG.FUNC m) = false →
    (s.get (MFU_CH_CFG.LATEDGE m) = 0 ∧ lvl = false ∨ s.get (MFU_CH_CFG.LATEDGE m) = 1 ∧ lvl = true →
      s.mfuLatch m lvl sub = s)
    ∧ (s.get (MFU_CH_CFG.LATEDGE m) = 2 ∨ s.get (MFU_CH_CFG.LATEDGE m) = 0 ∧ lvl = true
        ∨ s.get (MFU_CH_CFG.LATEDGE m) = 1 ∧ lvl = false →
      (s.on (MFU_CH_STAT.LATV m) = true → s.mfuLatch m lvl sub = s.set (MFU_CH_STAT.LATOVR m) 1)
      ∧ (s.on (MFU_CH_STAT.LATV m) = false → x = s.wr (MFU_CH_LATPOS m) (s.rd (MFU_CH_POS m)) →
        s.mfuLatch m lvl sub = (((x.set (MFU_CH_LATTBC.TBC m) (x.tbu.tbc.toNat % 2 ^ 24)).set (MFU_CH_LATTBC.SUB m) (sub / 10 * 10)).set
          (MFU_CH_STAT.LATV m) 1).fire [hMfu m 1])))
  ∧ (∀ (s : State) (w : Who) (m : Nat) (v : Word), s.alive = true → w.wf = true → m < 8 →
    (s.mayRead w (MFU_CH_POS m) = true → exec (.posRead w m) s
      = .next ((((s.seti (MFU_CH_WRAPS.NET m) (s.mf m).tally).modMf m (fun x => { x with tally := 0 })).emit
          (.read w (MFU_CH_POS m) (s.rd (MFU_CH_POS m)))).keep s))
    ∧ (s.may w (MFU_CH_POS m) v = true → exec (.posWrite w m v) s = .next ((s.wr (MFU_CH_POS m) v).keep s)))
  ∧ (∀ (s u x : State) (m time : Nat), s.alive = true → m < 8 →
    (s.on (MFU_CH_CFG.EN m) = false ∨ s.get (MFU_CH_CFG.MODE m) = 0 ∨ s.tbu.tbc.toNat % s.get (MFU_CH_SPDCFG.UPDT m) ≠ 0 →
      exec (.speedUpdate m time) s = .next (s.keep s))
    ∧ (s.on (MFU_CH_CFG.EN m) = true → s.get (MFU_CH_CFG.MODE m) ≠ 0 → s.tbu.tbc.toNat % s.get (MFU_CH_SPDCFG.UPDT m) = 0 →
      u = s.modMf m (fun x => { x with e1 := x.e2, n := 0, upd := true }) →
      ((∃ b, (s.mf m).upd = false ∧ (s.mf m).n = 0 ∧ (s.mf m).e2 = some b ∧ time ≤ b + u.get (MFU_CH_SPDCFG.STALL_US m) * 100
          ∧ x = u.seti (MFU_CH_SPD.SPD m) 0)
        ∨ ((s.mf m).n = 0 ∧ (s.mf m).e2 = none ∧ x = (u.drawn.setb (MFU_CH_STAT.STALL m) (wbit u.freeVal 0)).seti (MFU_CH_SPD.SPD m) 0)
        ∨ (∃ b, (s.mf m).upd = true ∧ (s.mf m).n = 0 ∧ (s.mf m).e2 = some b ∧ time ≤ b
          ∧ x = u.drawn.seti (MFU_CH_SPD.SPD m) (sword u.freeVal))
        ∨ (s.mf m).upd = false ∧ (s.mf m).n ≠ 0 ∧ x = (u.set (MFU_CH_STAT.STALL m) 0).seti (MFU_CH_SPD.SPD m) 0
        ∨ (∃ a b, (s.mf m).upd = true ∧ (s.mf m).n ≠ 0 ∧ (s.mf m).e1 = some a ∧ (s.mf m).e2 = some b ∧ a < b
          ∧ x = (u.set (MFU_CH_STAT.STALL m) 0).seti (MFU_CH_SPD.SPD m)
            (clampI (-2147483647) 2147483647 (roundAway ((s.mf m).n * 1600000000) (b - a))))
        ∨ ((s.mf m).upd = true ∧ (s.mf m).n ≠ 0 ∧ (∀ a b, (s.mf m).e1 = some a → (s.mf m).e2 = some b → b ≤ a)
          ∧ x = ((u.set (MFU_CH_STAT.STALL m) 0).drawn).seti (MFU_CH_SPD.SPD m) (sword (u.set (MFU_CH_STAT.STALL m) 0).freeVal))
        ∨ (∃ b, (s.mf m).n = 0 ∧ (s.mf m).e2 = some b ∧ b + u.get (MFU_CH_SPDCFG.STALL_US m) * 100 < time
          ∧ x = (u.set (MFU_CH_STAT.STALL m) 1).seti (MFU_CH_SPD.SPD m) 0)
        ∨ (∃ b, (s.mf m).upd = true ∧ (s.mf m).n = 0 ∧ (s.mf m).e2 = some b ∧ b < time
          ∧ time ≤ b + u.get (MFU_CH_SPDCFG.STALL_US m) * 100 ∧ x = u.seti (MFU_CH_SPD.SPD m)
            ((s.geti (MFU_CH_SPD.SPD m)).sign * ((min (absI (s.geti (MFU_CH_SPD.SPD m))) (1600000000 / (time - b)) : Nat) : Int)))) →
      exec (.speedUpdate m time) s = .next ((if s.mfuFlag m = false ∧ (x.fire [hMfu m 3]).mfuFlag m = true then
        (x.fire [hMfu m 3]).icuRaise (88 + m) else x.fire [hMfu m 3]).keep s)))
  ∧ (∀ (s u : State) (m : Nat), s.alive = true → m < 8 →
    (s.pinsIdle = true → exec (.pwmPeriodStart m) s = .next ((s.modMf m (fun x => { x with high := 0, dir := false })).keep s))
    ∧ (∀ (c d top : Int), s.pinsIdle = false → u = s.mfuFallback m →
      (u.on (MFU_CH_DRV.OSRC m) = false ∧ c = u.geti (MFU_CH_CMD.CMD m)
        ∨ u.on (MFU_CH_DRV.OSRC m) = true ∧ u.on (MFU_CH_STAT.FBACT m) = true ∧ c = u.geti (MFU_CH_FB.FBD m)
        ∨ u.on (MFU_CH_DRV.OSRC m) = true ∧ u.on (MFU_CH_STAT.FBACT m) = false
          ∧ c = floorDiv (u.mf m).laneOut ((2 ^ u.get (MFU_CH_DRV.OSHIFT m) : Nat) : Int)) →
      top = ((min (u.get (MFU_CH_MAXD.MAXD m)) (u.get (MFU_CH_DRV.PWMPER m)) : Nat) : Int) →
      (u.on (MFU_CH_DRV.BIPOLAR m) = true ∧ d = clampI (-top) top c ∨ u.on (MFU_CH_DRV.BIPOLAR m) = false ∧ d = max 0 (min top c)) →
      exec (.pwmPeriodStart m) s = .next (((u.seti (MFU_CH_DUTY.D m) d).modMf m (fun x => { x with
          c := c
          high := absI d
          dir := if u.on (MFU_CH_DRV.BIPOLAR m) then (decide (d < 0) != u.on (MFU_CH_DRV.DIRPOL m))
            else u.on (MFU_CH_DRV.DIRREG m) })).keep s)))
  ∧ (∀ (s : State) (m : Nat), (s.on (MFU_CH_DRV.OSRC m) = false ∨ (s.mfuLane m).isSome = true → s.mfuFallback m = s)
    ∧ (s.on (MFU_CH_DRV.OSRC m) = true → s.mfuLane m = none → s.mfuFallback m
      = (let x := s.set (MFU_CH_STAT.FBACT m) 1
         if s.mfuFlag m = false ∧ x.mfuFlag m = true then x.icuRaise (88 + m) else x)))

/-- With the port powered, IDCODE loads its register and shifts out 0x2714_4573; SAMPLE/PRELOAD loads the boundary cells with the bits shifted in and shifts out as many captured ones, free values (log entry 86), and so does the scan of an EXTEST in force; EXTEST, HIGHZ and CLAMP take effect while every rail slot is OFF and load BYPASS otherwise, through which a scan is delayed by one bit; with EXTEST or CLAMP in force the pins follow the cells at the places log entry 86 leaves open, PWM only to mid or low and SEN only low without TESTEN, and with HIGHZ nothing is driven; BYPASS loads BYPASS; a private instruction outside test mode is BYPASS. SEN goes low with boundary scan and its delay runs again after it. That a level shorter than 0.5 ns does not show, with the instant of a change from the observer, is log entry 145. -/
def Obligations.JtagRowsComplete : Prop :=
  ∀ s : State, s.pmu.ember = false →
    ∀ l : Nat → State, (∀ n, l n = ({ s with jtag := { s.jtag with ir := n } } : State).senEdges s) →
    exec .idcode s = .next (((l 1).emit (.tdo 32 0x27144573)).keep s)
    ∧ exec .bypass s = .next ((l 0x3F).keep s)
    ∧ (∀ scan : State → Bytes → State, (∀ (u : State) (cells : Bytes) (v : Nat) (x y : State), u.captured (8 * cells.length) = (v, x) →
        y = x.emit (.tdo (8 * cells.length) v) → scan u cells = ({ y with jtag := { y.jtag with
          cells := ((List.range (8 * cells.length)).filter (nbit (ofLe cells))).map (fun i => (i, 1)) } } : State).senEdges u) →
      (∀ cells, exec (.samplePreload cells) s = .next ((scan (l 2) cells).keep s))
      ∧ ((List.range 32).all (fun r => s.railState r == railOff) = true →
        (∀ cells, cells ≠ [] → exec (.extest cells) s = .next ((scan (l 3) cells).keep s))))
    ∧ ((List.range 32).all (fun r => s.railState r == railOff) = true →
      exec (.extest []) s = .next ((l 3).keep s) ∧ exec .highz s = .next ((l 4).keep s) ∧ exec .clamp s = .next ((l 5).keep s))
    ∧ ((List.range 32).all (fun r => s.railState r == railOff) = false →
      (∀ i ∈ [Instr.extest [], .highz, .clamp], exec i s = .next ((l 0x3F).keep s))
      ∧ (∀ cells, cells ≠ [] → exec (.extest cells) s
        = .next (((l 0x3F).emit (.tdo (8 * cells.length) (2 * ofLe cells % 2 ^ (8 * cells.length)))).keep s)))
    ∧ (∀ (bit : Nat → Nat → Bool) (n c t : Nat) (x : OutPin) (g : Nat) (old : State), (s.jtag.ir = 3 ∨ s.jtag.ir = 5) →
      (∀ p k, bit p k = (spGet (fun _ => 0) s.jtag.cells (Config.padCell p k) != 0)) →
      s.level n t = (if bit n 0 then .low else if s.jtag.testen && bit n 1 then .high else .mid)
      ∧ s.senHigh g = (s.jtag.testen && bit (144 + g) 0)
      ∧ s.drives x = (if bit x.number 1 then some (bit x.number 0) else none)
      ∧ (s.jtag.testen = false → (∀ u, u < c → old.level n u ≠ .high) → s.pwm old c n t ≠ .high))
    ∧ (s.jtag.ir = 4 → ∀ n t x g, s.level n t = .mid ∧ s.senHigh g = false ∧ s.drives x = none)
    ∧ (∀ code, code < 64 → waimondCode code = true →
      ((s.jtag.testen = false ∨ wbit (s.rd OTP_LOCKS) 5 = true) →
        exec (.waimondInstruction code) s = .next ((l 0x3F).keep s))
      ∧ (s.jtag.testen = true → wbit (s.rd OTP_LOCKS) 5 = false →
        exec (.waimondInstruction code) s = .refused .waimondPrivateJtag))

/-- At an aligned address of the peripheral region, a write the world rules let through has the effect of its register, and a read answers the value of the register with the effect of the read; a host write of part of a word, by its address or its byte enables, is flagged in HPART, and a host access to an unmapped place of its window in HUNMAP, reading 0. Whole dwords of BAR2 and any part of a dword of configuration space are written and read by the host; a poisoned write, and one whose ECRC fails while ECRC is checked, is dropped and reported in AER, and a request to memory that the function does not answer is reported there as unsupported; a non-fatal advisory error is reported as a correctable one, with the uncorrectable bit where advisory errors are not masked; Initiate FLR is a host interface reset of kind 4. The key of BAR2 and of configuration space and its layout are log entry 94, what a partial access is log entry 71. -/
def Obligations.RegisterBusRowsComplete : Prop :=
  (∀ (s : State) (w : Who) (a be : Nat) (v : Word), s.alive = true → w.wf = true → be < 16 → areaOf a = .periph → a % 4 = 0 →
    inBar0 a = true → inBar2 a = false → inCfg a = false →
    (s.may w a v = true → (w = .host → be = 15 ∧ s.memOn = true) → exec (.registerWrite w a v be .sound) s = .next ((s.regEffect a v).keep s))
    ∧ (s.mayRead w a = true → (w = .host → s.memOn = true) → exec (.readClear w a) s
      = .next (((s.regRead (s.tenantWho w) a).2.emit (.read w a (s.regRead (s.tenantWho w) a).1)).keep s)))
  ∧ (∀ (s : State) (a be : Nat) (v : Word), s.alive = true → s.memOn = true → be < 16 → inBar0 a = true → inBar2 a = false → inCfg a = false →
    ((a % 4 ≠ 0 ∨ be ≠ 15) → exec (.registerWrite .host a v be .sound) s = .next ((s.set HIF_STAT.HPART 1).keep s))
    ∧ (a % 4 = 0 → be = 15 → areaOf a ≠ .periph → exec (.registerWrite .host a v be .sound) s
      = .next ((s.set HIF_STAT.HUNMAP 1).keep s))
    ∧ (areaOf a ≠ .periph → exec (.readClear .host a) s = .next (((s.set HIF_STAT.HUNMAP 1).emit (.read .host a 0)).keep s)))
  ∧ (∀ (s : State) (a : Nat) (v : Word), s.alive = true → s.memOn = false → inCfg a = false → (inBar0 a = true ∨ inBar2 a = true) →
    exec (.registerWrite .host a v 15 .sound) s = .next ((s.aerSet 20 false).keep s)
    ∧ exec (.readClear .host a) s = .next ((s.aerSet 20 true).keep s))
  ∧ (∀ (s : State) (a : Nat) (v : Word), s.alive = true → s.memOn = true → inBar2 a = true →
    exec (.registerWrite .host a v 15 .sound) s = .next ((s.bar2Write (a - 0x180000000) v).keep s)
    ∧ exec (.readClear .host a) s = .next ((s.emit (.read .host a (s.bar2Read (a - 0x180000000)))).keep s))
  ∧ (∀ (s : State) (a be : Nat) (v : Word), s.alive = true → be < 16 → inCfg a = true →
    exec (.registerWrite .host a v be .sound) s = .next ((s.cfgWrite (a - 0x1A0000000) v be).keep s)
    ∧ exec (.readClear .host a) s = .next ((s.emit (.read .host a (s.cfgRead (a - 0x1A0000000)))).keep s))
  ∧ (∀ (s : State) (a be : Nat) (v : Word), s.alive = true → be < 16 → (inBar0 a = true ∨ inBar2 a = true ∨ inCfg a = true) →
    exec (.registerWrite .host a v be .poisoned) s = .next ((s.aerSet 12 true).poisonSeen.keep s)
    ∧ (s.hif.cfg.ecrcChk = true → exec (.registerWrite .host a v be .badEcrc) s = .next ((s.aerSet 19 false).keep s)))
  ∧ (∀ (s : State) (i : Nat), i < 32 → wbit (s.aerSet i false).hif.cfg.aer i = true
    ∧ (wbit s.hif.cfg.aerSev i = false → wbit (s.aerSet i true).hif.cfg.cor 13 = true
      ∧ (wbit s.hif.cfg.corMask 13 = false → wbit (s.aerSet i true).hif.cfg.aer i = true)))
  ∧ (∀ (s : State) (v : Word), s.alive = true → wbit v 15 = true →
    exec (.registerWrite .host 0x1A0000058 v 15 .sound) s = .next ((s.drawn.hostReset 4 s.freeVal.toNat).keep s))

/-- An ALU instruction that executes issues in one slot: a is Gd and b is Gs in form 0, a is Gs (Gd for CMP, TST and MOV) and b the immediate in forms 1 and 2; the result goes to Gd one slot later, except for CMP and TST, and the flags the operation writes go to STATUS. Under WIN, MOV reads or writes the window bank as a long operation of the window port, or raises the exception its rights call for. Under REP with G13 = 0 the instruction takes one slot and has no other effect; else it is executed again and again, each time with G13 one less (a MOV under WIN waiting each time for the window port and its registers), until G13 is 0, or until a request or a machine check at the boundary ends it there. -/
def Obligations.AluRowsComplete : Prop :=
  (∀ (s u : State) (o : PyOp) (i : Instr) (b c : Nat) (x : Word × Word) (a : Alu),
    (i, b) ∈ [(.addOp o, 0x00), (.subOp o, 0x04), (.andOp o, 0x08), (.orOp o, 0x0C), (.xorOp o, 0x10), (.shl o, 0x14),
      (.shr o, 0x18), (.sar o, 0x1C), (.ror o, 0x20), (.cmp o, 0x24), (.tst o, 0x28), (.mov o, 0x2C), (.adc o, 0x30),
      (.sbc o, 0x34), (.minOp o, 0x38), (.maxOp o, 0x3C)] →
    c = b + o.form → s.enters o c = true → u = s.entered o c → o.pfx.win = false →
    (o.pfx.rep = true → u.gNow o.p 13 = 0 → exec i s = .next ((u.advance o.p (opLen o c) 1).keep s))
    ∧ (o.pfx.rep = false → x = (if o.form = 0 then (u.gNow o.p o.d, u.gNow o.p o.s)
        else (if b = 0x24 ∨ b = 0x28 ∨ b = 0x2C then u.gNow o.p o.d else u.gNow o.p o.s, wordOf o.imm)) →
      a = aluOp (b / 4) o.pfx.sat x.1 x.2 (wbit (u.status o.p) 1) →
      exec i s = .next ((((if b = 0x24 ∨ b = 0x28 then u else u.resultG o.p 1 o.d a.res).resultFlags o.p 1 a.mask a.flags).advance
        o.p (opLen o c) 1).keep s)))
  ∧ (∀ (s u : State) (o : PyOp) (c w k : Nat), c = 0x2C + o.form → s.enters o c = true → u = s.entered o c →
    o.pfx.win = true → o.pfx.rep = false → w = u.get (BWIN.BANK o.p) → k = u.winCode o.p →
    (k ≠ 0 → exec (.mov o) s = .next ((u.takeException o.p k 3 0 (u.pcNow o.p)).keep s))
    ∧ (k = 0 → o.form = 0 → exec (.mov o) s = .next (((u.startLong o ⟨.window, (u.core o.p).bank,
        [(.g (u.core o.p).bank o.d, u.gReg o.p w o.s)], 0⟩).advance o.p (opLen o c) 1).keep s))
    ∧ (k = 0 → o.form = 3 → exec (.mov o) s = .next (((u.startLong o ⟨.window, (u.core o.p).bank,
        [(.g w o.d, u.gNow o.p o.s)], 0⟩).advance o.p (opLen o c) 1).keep s)))
  ∧ (∀ (s u : State) (o : PyOp) (i : Instr) (b c n : Nat) (v w : Nat → State) (x : Nat → Word × Word) (a : Nat → Alu),
    (i, b) ∈ [(.addOp o, 0x00), (.subOp o, 0x04), (.andOp o, 0x08), (.orOp o, 0x0C), (.xorOp o, 0x10), (.shl o, 0x14),
      (.shr o, 0x18), (.sar o, 0x1C), (.ror o, 0x20), (.cmp o, 0x24), (.tst o, 0x28), (.mov o, 0x2C), (.adc o, 0x30),
      (.sbc o, 0x34), (.minOp o, 0x38), (.maxOp o, 0x3C)] →
    c = b + o.form → s.enters o c = true → u = s.entered o c → o.pfx.win = false → o.pfx.rep = true →
    (∀ k, x k = (if o.form = 0 then ((v k).gNow o.p o.d, (v k).gNow o.p o.s)
        else (if b = 0x24 ∨ b = 0x28 ∨ b = 0x2C then (v k).gNow o.p o.d else (v k).gNow o.p o.s, wordOf o.imm))
      ∧ a k = aluOp (b / 4) o.pfx.sat (x k).1 (x k).2 (wbit ((v k).status o.p) 1)
      ∧ w k = (if b = 0x24 ∨ b = 0x28 then v k else (v k).resultG o.p 1 o.d (a k).res).resultFlags o.p 1 (a k).mask (a k).flags
      ∧ v (k + 1) = ((w k).resultG o.p 1 13 ((w k).gNow o.p 13 - 1)).slots o.p 1) →
    v 0 = u → n ≤ (u.gNow o.p 13).toNat →
    (∀ k, k < n → (v k).gNow o.p 13 ≠ 0 ∧ ((v k).core o.p).boundary = []) → (∀ m, o.stop = some m → n ≤ m) →
    (0 < n → (v n).gNow o.p 13 = 0 → exec i s = .next (((v n).advance o.p (opLen o c) 0).keep s))
    ∧ ((v n).gNow o.p 13 ≠ 0 → (o.stop = some n ∨ ((v n).core o.p).boundary ≠ []) →
      exec i s = .next (((v n).takeBoundary o.p).keep s)))
  ∧ (∀ (s u : State) (o : PyOp) (i : Instr) (n : Nat) (v w : Nat → State), i = .mov o → o.form = 0 →
    s.enters o 0x2C = true → u = s.entered o 0x2C → o.pfx.win = true → o.pfx.rep = true →
    (∀ k, w k = ((v k).waitUnits o 0x2C).startLong o ⟨.window, (((v k).waitUnits o 0x2C).core o.p).bank,
        [(.g (((v k).waitUnits o 0x2C).core o.p).bank o.d,
          ((v k).waitUnits o 0x2C).gReg o.p (((v k).waitUnits o 0x2C).get (BWIN.BANK o.p)) o.s)], 0⟩
      ∧ v (k + 1) = ((w k).resultG o.p 1 13 ((w k).gNow o.p 13 - 1)).slots o.p 1) →
    (∀ k, k < n → ((v k).waitUnits o 0x2C).winCode o.p = 0) →
    v 0 = u → n ≤ (u.gNow o.p 13).toNat →
    (∀ k, k < n → (v k).gNow o.p 13 ≠ 0 ∧ ((v k).core o.p).boundary = []) → (∀ m, o.stop = some m → n ≤ m) →
    (0 < n → (v n).gNow o.p 13 = 0 → exec i s = .next (((v n).advance o.p (opLen o 0x2C) 0).keep s))
    ∧ ((v n).gNow o.p 13 ≠ 0 → (o.stop = some n ∨ ((v n).core o.p).boundary ≠ []) →
      exec i s = .next (((v n).takeBoundary o.p).keep s))
    ∧ (∀ z, z = (v n).waitUnits o 0x2C → (v n).gNow o.p 13 ≠ 0 → ((v n).core o.p).boundary = [] → n < (u.gNow o.p 13).toNat →
      (∀ m, o.stop = some m → n < m) → z.winCode o.p ≠ 0 →
      exec i s = .next ((z.takeException o.p (z.winCode o.p) 3 0 (z.pcNow o.p)).keep s)))

/-- Each issues in one slot and its result goes to Gd, three slots later for the multiplies and one for the others, with Q where it saturated; MUL multiplies Gd and Gs in form 0, Gs and the immediate in forms 1 and 2. Under REP with G13 = 0 it takes one slot and has no other effect; else it is executed again and again, each time with G13 one less, until G13 is 0, or until a request or a machine check at the boundary ends it there. -/
def Obligations.MultiplyRowsComplete : Prop :=
  ∀ (s u : State) (o : PyOp) (i : Instr) (c lat nf : Nat) (f : Word → Word → Alu) (a : Alu),
    s.enters o (c + o.form) = true → u = s.entered o (c + o.form) → o.form < nf →
    (i, nf, c, lat, f) ∈ [
      (.mul o, 3, 0x40, 3, fun g h => mulLow o.pfx.sat (if o.form = 0 then g else h) (if o.form = 0 then h else wordOf o.imm)),
      (.mulh o, 1, 0x43, 3, fun g h => { res := mulHigh g h }), (.mulhu o, 1, 0x44, 3, fun g h => { res := mulHighU g h }),
      (.qmul o, 1, 0x45, 3, qmul31 o.pfx.sat), (.qmul15 o, 1, 0x46, 3, qmul15Of o.pfx.sat),
      (.add15 o, 1, 0x48, 1, add15Of o.pfx.sat), (.sub15 o, 1, 0x49, 1, sub15Of o.pfx.sat),
      (.clz o, 1, 0x4A, 1, fun _ h => { res := clzOf h }), (.popc o, 1, 0x4B, 1, fun _ h => { res := popcOf h }),
      (.bfx o, 1, 0x4C, 1, fun _ h => { res := bfxOf h o.imm.toNat }), (.bfxs o, 1, 0x4D, 1, fun _ h => { res := bfxsOf h o.imm.toNat }),
      (.bfi o, 1, 0x4E, 1, fun g h => { res := bfiOf g h o.imm.toNat }), (.rev o, 1, 0x4F, 1, fun _ h => { res := revOf h })] →
    a = f (u.gNow o.p o.d) (u.gNow o.p o.s) →
    (o.pfx.rep = true → u.gNow o.p 13 = 0 → exec i s = .next ((u.advance o.p (opLen o (c + o.form)) 1).keep s))
    ∧ (o.pfx.rep = false → exec i s
      = .next ((((u.resultG o.p lat o.d a.res).resultFlags o.p lat a.mask a.flags).advance o.p (opLen o (c + o.form)) 1).keep s))
    ∧ (∀ (n : Nat) (v w : Nat → State) (b : Nat → Alu), o.pfx.rep = true →
      (∀ k, b k = f ((v k).gNow o.p o.d) ((v k).gNow o.p o.s)
        ∧ w k = ((v k).resultG o.p lat o.d (b k).res).resultFlags o.p lat (b k).mask (b k).flags
        ∧ v (k + 1) = ((w k).resultG o.p 1 13 ((w k).gNow o.p 13 - 1)).slots o.p 1) →
    v 0 = u → n ≤ (u.gNow o.p 13).toNat →
    (∀ k, k < n → (v k).gNow o.p 13 ≠ 0 ∧ ((v k).core o.p).boundary = []) → (∀ m, o.stop = some m → n ≤ m) →
    (0 < n → (v n).gNow o.p 13 = 0 → exec i s = .next (((v n).advance o.p (opLen o (c + o.form)) 0).keep s))
    ∧ ((v n).gNow o.p 13 ≠ 0 → (o.stop = some n ∨ ((v n).core o.p).boundary ≠ []) →
      exec i s = .next (((v n).takeBoundary o.p).keep s)))

/-- A load whose checks pass and which local RAM, the boot ROM (log entry 58) or a buffered store that covers it answers issues in one slot and its value lands three slots later, an uncorrectable word taking exception 10; one through a port leaves the core at the instruction with the access outstanding, older stores having drained and, for the flash window, an erase suspended; one whose checks fail takes its exception with the address. A store whose checks pass enters the store buffer with its low bytes; one whose checks fail takes its exception. LEA and LEAPC write the address one slot later. Under REP with G13 = 0 they take one slot and have no other effect; otherwise a repetition loads or stores, counts G13 down and moves Gs on by the width, and the instruction ends with G13 at 0 or stays where a request stops it. -/
def Obligations.LoadStoreRowsComplete : Prop :=
  (∀ (s u : State) (o : PyOp) (i : Instr) (c a n k nf : Nat) (sg h : Bool) (d : Dest),
    s.enters o (c + o.form) = true → u = s.entered o (c + o.form) → o.form < nf → o.pfx.rep = false →
    (i, nf, c, a, n, sg, d) ∈ [
      (.ldw o, 4, 0x50, u.ea o, 4, false, .g (u.core o.p).bank o.d), (.ldh o, 4, 0x54, u.ea o, 2, true, .g (u.core o.p).bank o.d),
      (.ldhu o, 4, 0x58, u.ea o, 2, false, .g (u.core o.p).bank o.d), (.ldb o, 4, 0x5C, u.ea o, 1, true, .g (u.core o.p).bank o.d),
      (.ldbu o, 4, 0x60, u.ea o, 1, false, .g (u.core o.p).bank o.d),
      (.ldwpc o, 1, 0x74, (u.pcRel o 0x74).toNat, 4, false, .g (u.core o.p).bank o.d), (.fld o, 1, 0xBD, u.ea o, 4, false, .f o.d)] →
    k = u.dataCheck o.p (u.tenantCore o.p) (u.userCore o.p) a n .load →
    h = (match youngest (u.core o.p).sb a n with | some e => coversAll e a n | none => false) →
    (k ≠ 0 → exec i s = .next ((u.takeException o.p k 0 (faultAddr k a) (u.pcNow o.p)).keep s))
    ∧ (k = 0 → (areaOf a = .loc ∨ areaOf a = .rom ∨ (h = true ∧ areaOf a ≠ .periph ∧ areaOf a ≠ .mram)) → ∀ x,
      (∀ v, u.readNow o.p a n true = (.val v, x) →
        exec i s = .next (((x.result o.p 3 d (extended v n sg)).advance o.p (opLen o (c + o.form)) 1).keep s))
      ∧ (u.readNow o.p a n true = (.bad, x) →
        exec i s = .next ((x.takeException o.p 10 0 (BitVec.ofNat 32 a) (x.pcNow o.p)).keep s)))
    ∧ (k = 0 → (areaOf a = .periph ∨ areaOf a = .mram) → exec i s
      = .next (((u.retireN o.p (u.core o.p).sb.length).modCore o.p (fun q => { q with
          pload := some ⟨a, n, sg, d, opLen o (c + o.form)⟩ })).keep s))
    ∧ (k = 0 → areaOf a ≠ .loc → areaOf a ≠ .rom → areaOf a ≠ .periph → areaOf a ≠ .mram → h = false →
      exec i s = .next ((((if areaOf a = .flash then u.setSusp true else u).retireOverlap o.p a n).modCore o.p (fun q => { q with
          pload := some ⟨a, n, sg, d, opLen o (c + o.form)⟩ })).keep s)))
  ∧ (∀ (s u : State) (o : PyOp) (i : Instr) (c n k nf : Nat) (v : Word),
    s.enters o (c + o.form) = true → u = s.entered o (c + o.form) → o.form < nf → o.pfx.rep = false →
    (i, nf, c, n, v) ∈ [(.stw o, 4, 0x64, 4, u.gNow o.p o.d), (.sth o, 4, 0x68, 2, u.gNow o.p o.d),
      (.stb o, 4, 0x6C, 1, u.gNow o.p o.d), (.fst o, 1, 0xBE, 4, u.fNow o.p o.d)] →
    k = (u.storeCheck o.p (u.ea o) n v).1 →
    (k = 0 → exec i s = .next (((u.pushStore o.p ⟨u.ea o, leBytes n v.toNat, u.tenantCore o.p⟩).advance o.p (opLen o (c + o.form)) 1).keep s))
    ∧ (k ≠ 0 → ∀ x, x = (u.storeCheck o.p (u.ea o) n v).2 → exec i s = .next ((x.takeException o.p k 1 (faultAddr k (u.ea o)) (x.pcNow o.p)).keep s)))
  ∧ (∀ (s u : State) (o : PyOp), o.pfx.rep = false →
    (s.enters o (0x70 + o.form) = true → u = s.entered o (0x70 + o.form) → exec (.lea o) s
      = .next (((u.resultG o.p 1 o.d (u.gNow o.p o.s + wordOf o.disp)).advance o.p (opLen o (0x70 + o.form)) 1).keep s))
    ∧ (o.form = 0 → s.enters o 0x75 = true → u = s.entered o 0x75 → exec (.leapc o) s
      = .next (((u.resultG o.p 1 o.d (u.pcNow o.p + BitVec.ofNat 32 (opLen o 0x75) + wordOf o.disp)).advance o.p (opLen o 0x75) 1).keep s)))
  ∧ (∀ (s u : State) (o : PyOp) (i : Instr) (c : Nat), s.enters o (c + o.form) = true → u = s.entered o (c + o.form) →
    o.pfx.rep = true → u.gNow o.p 13 = 0 →
    (i, c) ∈ [(.ldw o, 0x50), (.ldh o, 0x54), (.ldhu o, 0x58), (.ldb o, 0x5C), (.ldbu o, 0x60), (.stw o, 0x64), (.sth o, 0x68),
      (.stb o, 0x6C), (.lea o, 0x70)] →
    exec i s = .next ((u.advance o.p (opLen o (c + o.form)) 1).keep s))
  ∧ (∀ (s u : State) (o : PyOp) (i : Instr) (c : Nat), s.enters o (c + o.form) = true → u = s.entered o (c + o.form) →
    o.pfx.rep = true → u.gNow o.p 13 ≠ 0 → o.stop = some 0 →
    (i, c) ∈ [(.ldw o, 0x50), (.ldh o, 0x54), (.ldhu o, 0x58), (.ldb o, 0x5C), (.ldbu o, 0x60), (.stw o, 0x64), (.sth o, 0x68),
      (.stb o, 0x6C), (.lea o, 0x70)] →
    exec i s = .next ((u.takeBoundary o.p).keep s))
  ∧ (∀ (s u x y z : State) (o : PyOp) (i : Instr) (c n : Nat) (sg : Bool) (v : Word), s.enters o (c + o.form) = true →
    u = s.entered o (c + o.form) → o.pfx.rep = true → u.gNow o.p 13 ≠ 0 → (o.stop = some 1 ∨ o.stop = none ∧ u.gNow o.p 13 = 1) →
    (u.core o.p).boundary = [] →
    ((i, c, n, sg) ∈ [(.ldw o, 0x50, 4, false), (.ldh o, 0x54, 2, true), (.ldhu o, 0x58, 2, false), (.ldb o, 0x5C, 1, true),
          (.ldbu o, 0x60, 1, false)] ∧ u.dataCheck o.p (u.tenantCore o.p) (u.userCore o.p) (u.ea o) n .load = 0
        ∧ u.readNow o.p (u.ea o) n true = (.val v, x) ∧ y = x.resultG o.p 3 o.d (extended v n sg)
      ∨ (i, c, n) ∈ [(.stw o, 0x64, 4), (.sth o, 0x68, 2), (.stb o, 0x6C, 1)]
        ∧ (u.storeCheck o.p (u.ea o) n (u.gNow o.p o.d)).1 = 0
        ∧ y = u.pushStore o.p ⟨u.ea o, leBytes n (u.gNow o.p o.d).toNat, u.tenantCore o.p⟩) →
    z = ((y.resultG o.p 1 13 (y.gNow o.p 13 - 1)).resultG o.p 1 o.s (y.gNow o.p o.s + BitVec.ofNat 32 n)).slots o.p 1 →
    (z.gNow o.p 13 = 0 → exec i s = .next ((z.advance o.p (opLen o (c + o.form)) 0).keep s))
    ∧ (z.gNow o.p 13 ≠ 0 → exec i s = .next ((z.takeBoundary o.p).keep s)))

/-- A push whose checks pass enters its registers into the store buffer, the lowest-numbered at the lowest address, and moves G15 down; a pop whose checks pass and whose words read moves them into its registers two slots after its last and G15 up; a failed stack check takes its exception. A read-modify-write of page 0xF0 takes two slots, writes the new word, if any, at its port, and gives the old one to Gd four slots later (CASW with Z); STWI reads its word likewise and writes its immediate. A word that cannot be corrected takes exception 10 before any write, and an access whose checks fail takes its exception. That a push or pop of no register takes one slot is log entry 61. -/
def Obligations.StackPageRowsComplete : Prop :=
  (∀ (s u : State) (o : PyOp) (i : Instr) (c n : Nat) (rs : List Nat) (es : List (Nat × Word)), o.form = 0 →
    s.enters o c = true → u = s.entered o c → (i, c, rs) ∈ [(.push o, 0x76, [o.d]), (.pushm o, 0x78, maskRegs o.imm.toNat)] →
    n = 4 * rs.length → es = (List.range rs.length).map (fun j => ((u.gNow o.p 15).toNat - n + 4 * j, u.gNow o.p (nth rs j 0))) →
    ((u.stackFault o.p true (u.gNow o.p 15).toNat n).1 = 0 → (∀ e ∈ es, (u.storeCheck o.p e.1 4 e.2).1 = 0) →
      exec i s = .next ((((u.each ((List.range rs.length).zip es) (fun x e =>
        x.pushStoreAt o.p e.1 ⟨e.2.1, leBytes 4 e.2.2.toNat, u.tenantCore o.p⟩)).resultG o.p
        (max 1 rs.length) 15 (BitVec.ofNat 32 ((u.gNow o.p 15).toNat - n))).advance o.p (opLen o c) (max 1 rs.length)).keep s))
    ∧ (∀ k a, u.stackFault o.p true (u.gNow o.p 15).toNat n = (k, a) → k ≠ 0 → exec i s = .next ((u.takeException o.p k 1 a (u.pcNow o.p)).keep s)))
  ∧ (∀ (s u x : State) (o : PyOp) (i : Instr) (c n : Nat) (rs : List Nat) (ws : List Word), o.form = 0 →
    s.enters o c = true → u = s.entered o c → (i, c, rs) ∈ [(.pop o, 0x77, [o.d]), (.popm o, 0x79, maskRegs o.imm.toNat)] →
    n = 4 * rs.length →
    ((u.stackFault o.p false (u.gNow o.p 15).toNat n).1 = 0 →
      (∃ v a, u.popWords o.p ((List.range rs.length).map (fun j => (u.gNow o.p 15).toNat + 4 * j)) [] = ((.val v, a, ws), x)) →
      exec i s = .next ((((x.each (rs.zip ws) (fun y e => y.resultG o.p (max 1 rs.length + 2) e.1 e.2)).resultG o.p
        (max 1 rs.length) 15 (u.gNow o.p 15 + BitVec.ofNat 32 n)).advance o.p (opLen o c) (max 1 rs.length)).keep s))
    ∧ (∀ k a, u.stackFault o.p false (u.gNow o.p 15).toNat n = (k, a) → k ≠ 0 → exec i s = .next ((u.takeException o.p k 0 a (u.pcNow o.p)).keep s)))
  ∧ (∀ (s u x : State) (o : PyOp) (i : Instr) (c : Nat) (w g : Word) (v : Option Word) (m fl : Word), o.form = 0 →
    s.enters o c = true → u = s.entered o c → (u.pageCode o.p (u.ea o) true).1 = 0 → u.loadPort o.p (u.ea o) = (some w, x) →
    g = u.gNow o.p o.d →
    (i, c, v, m, fl) ∈ [(.addm o, 0x100, some (w + g), 0, 0), (.andm o, 0x101, some (w &&& g), 0, 0), (.orm o, 0x102, some (w ||| g), 0, 0),
      (.xorm o, 0x103, some (w ^^^ g), 0, 0), (.xchg o, 0x104, some g, 0, 0),
      (.casw o, 0x105, if w = g then some (u.gNow o.p o.n) else none, stZ, if w = g then stZ else 0)] →
    exec i s = .next (((((match v with | some v => x.writePort o.p (u.ea o) v | none => x).resultG o.p 4 o.d w).resultFlags o.p 4 m fl).advance
      o.p (opLen o c) 2).keep s))
  ∧ (∀ (s u : State) (o : PyOp) (i : Instr) (c : Nat) (k : Nat × Nat), o.form = 0 → s.enters o c = true → u = s.entered o c →
    (i, c, k) ∈ [(.addm o, 0x100, u.pageCode o.p (u.ea o) true), (.andm o, 0x101, u.pageCode o.p (u.ea o) true),
      (.orm o, 0x102, u.pageCode o.p (u.ea o) true), (.xorm o, 0x103, u.pageCode o.p (u.ea o) true),
      (.xchg o, 0x104, u.pageCode o.p (u.ea o) true), (.casw o, 0x105, u.pageCode o.p (u.ea o) true),
      (.stwi o, 0x106, u.pageCode o.p (u.ea o) false)] → k.1 ≠ 0 → exec i s = .next ((u.takeException o.p k.1 k.2 (faultAddr k.1 (u.ea o)) (u.pcNow o.p)).keep s))
  ∧ (∀ (s u x : State) (o : PyOp) (a : Nat), o.form = 0 → s.enters o 0x106 = true → u = s.entered o 0x106 → a = u.ea o →
    (u.pageCode o.p a false).1 = 0 → ∀ w, u.loadPort o.p a = (some w, x) →
    exec (.stwi o) s = .next (((x.writePort o.p a (wordOf o.imm)).advance o.p (opLen o 0x106) 2).keep s))
  ∧ (∀ (s u x : State) (o : PyOp) (i : Instr) (c : Nat), o.form = 0 → s.enters o c = true → u = s.entered o c →
    (i, c) ∈ [(.addm o, 0x100), (.andm o, 0x101), (.orm o, 0x102), (.xorm o, 0x103), (.xchg o, 0x104), (.casw o, 0x105), (.stwi o, 0x106)] →
    (u.pageCode o.p (u.ea o) (c != 0x106)).1 = 0 → u.loadPort o.p (u.ea o) = (none, x) →
    exec i s = .next ((x.takeException o.p 10 0 (BitVec.ofNat 32 (u.ea o)) (x.pcNow o.p)).keep s))

/-- The bit address is the immediate in form 0, and Gs plus the immediate modulo 2^16 in form 1, modulo 2^14 without BITX. BTST puts the inverted bit into Z and the bit into C, and BLD the bit into Gd, three slots later; BSET, BCLR, BNOT and BST write 1, 0, the inverted bit and bit 0 of Gd, and with ATOM C receives the old bit. An access that its rights or a bit-RAM error stop takes its exception. Under REP with G13 = 0 they take one slot and have no other effect; else an indirect one is executed again and again, each time with G13 one less and Gs one more, until G13 is 0, an access fails, or a request or a machine check at the boundary ends it there. -/
def Obligations.BitRowsComplete : Prop :=
  (∀ (s u x : State) (o : PyOp) (i : Instr) (c a : Nat) (b : Bool), s.enters o (c + o.form) = true → u = s.entered o (c + o.form) →
    o.form < 2 → o.pfx.rep = false →
    a = (if o.form = 0 then o.imm.toNat else (u.gNow o.p o.s + wordOf o.imm).toNat % 2 ^ (if o.pfx.bitx then 16 else 14)) →
    ((i, c) ∈ [(.btst o, 0xA0), (.bld o, 0xA8)] → u.bitRead o.p a = .got b x →
      exec i s = .next (((if c = 0xA0 then x.resultFlags o.p 3 (stZ ||| stC) (flagIf (!b) stZ ||| flagIf b stC)
        else x.resultG o.p 3 o.d (if b then 1 else 0)).advance o.p (opLen o (c + o.form)) 1).keep s))
    ∧ (∀ k w, (i, c) ∈ [(.btst o, 0xA0), (.bld o, 0xA8)] → u.bitRead o.p a = .fault k w x → exec i s = .next ((x.takeException o.p k 0 w (x.pcNow o.p)).keep s))
    ∧ (∀ f : Bool → Bool, (i, c, f) ∈ [(.bset o, 0xA2, fun _ => true), (.bclr o, 0xA4, fun _ => false), (.bnot o, 0xA6, not),
        (.bst o, 0xAA, fun _ => wbit (u.gNow o.p o.d) 0)] →
      (u.bitWrite o.p a f = .got b x →
        exec i s = .next (((if o.pfx.atom then x.resultFlags o.p 3 stC (flagIf b stC) else x).advance o.p (opLen o (c + o.form)) 1).keep s))
      ∧ (∀ k w, u.bitWrite o.p a f = .fault k w x → exec i s = .next ((x.takeException o.p k (if k = 10 then 0 else 1) w (x.pcNow o.p)).keep s))))
  ∧ (∀ (s u : State) (o : PyOp) (i : Instr) (c : Nat), s.enters o (c + o.form) = true → u = s.entered o (c + o.form) →
    o.form < 2 → o.pfx.rep = true → u.gNow o.p 13 = 0 →
    (i, c) ∈ [(.btst o, 0xA0), (.bset o, 0xA2), (.bclr o, 0xA4), (.bnot o, 0xA6), (.bld o, 0xA8), (.bst o, 0xAA)] →
    exec i s = .next ((u.advance o.p (opLen o (c + o.form)) 1).keep s))
  ∧ (∀ (s u : State) (o : PyOp) (i : Instr) (c n : Nat) (v w x y : Nat → State) (a : Nat → Nat) (b : Nat → Bool),
    (i, c) ∈ [(.btst o, 0xA0), (.bld o, 0xA8)] → o.form = 1 → s.enters o (c + 1) = true → u = s.entered o (c + 1) → o.pfx.rep = true →
    (∀ k, a k = ((v k).gNow o.p o.s + wordOf o.imm).toNat % 2 ^ (if o.pfx.bitx then 16 else 14)
      ∧ w k = (if c = 0xA0 then (x k).resultFlags o.p 3 (stZ ||| stC) (flagIf (!b k) stZ ||| flagIf (b k) stC)
        else (x k).resultG o.p 3 o.d (if b k then 1 else 0))
      ∧ y k = (w k).resultG o.p 1 13 ((w k).gNow o.p 13 - 1)
      ∧ v (k + 1) = ((y k).resultG o.p 1 o.s ((y k).gNow o.p o.s + 1)).slots o.p 1) →
    (∀ k, k < n → (v k).bitRead o.p (a k) = .got (b k) (x k)) →
    v 0 = u → n ≤ (u.gNow o.p 13).toNat →
    (∀ k, k < n → (v k).gNow o.p 13 ≠ 0 ∧ ((v k).core o.p).boundary = []) → (∀ m, o.stop = some m → n ≤ m) →
    (0 < n → (v n).gNow o.p 13 = 0 → exec i s = .next (((v n).advance o.p (opLen o (c + 1)) 0).keep s))
    ∧ ((v n).gNow o.p 13 ≠ 0 → (o.stop = some n ∨ ((v n).core o.p).boundary ≠ []) →
      exec i s = .next (((v n).takeBoundary o.p).keep s))
    ∧ (∀ k r z, (v n).bitRead o.p (a n) = .fault k r z → (v n).gNow o.p 13 ≠ 0 → ((v n).core o.p).boundary = [] →
      n < (u.gNow o.p 13).toNat → (∀ m, o.stop = some m → n < m) → exec i s = .next ((z.takeException o.p k 0 r (z.pcNow o.p)).keep s)))
  ∧ (∀ (s u : State) (o : PyOp) (i : Instr) (c n : Nat) (f : State → Bool → Bool) (v w x y : Nat → State) (a : Nat → Nat) (b : Nat → Bool),
    (i, c, f) ∈ [(.bset o, 0xA2, fun _ _ => true), (.bclr o, 0xA4, fun _ _ => false), (.bnot o, 0xA6, fun _ e => !e),
      (.bst o, 0xAA, fun q _ => wbit (q.gNow o.p o.d) 0)] →
    o.form = 1 → s.enters o (c + 1) = true → u = s.entered o (c + 1) → o.pfx.rep = true →
    (∀ k, a k = ((v k).gNow o.p o.s + wordOf o.imm).toNat % 2 ^ (if o.pfx.bitx then 16 else 14)
      ∧ w k = (if o.pfx.atom then (x k).resultFlags o.p 3 stC (flagIf (b k) stC) else x k)
      ∧ y k = (w k).resultG o.p 1 13 ((w k).gNow o.p 13 - 1)
      ∧ v (k + 1) = ((y k).resultG o.p 1 o.s ((y k).gNow o.p o.s + 1)).slots o.p 1) →
    (∀ k, k < n → (v k).bitWrite o.p (a k) (f (v k)) = .got (b k) (x k)) →
    v 0 = u → n ≤ (u.gNow o.p 13).toNat →
    (∀ k, k < n → (v k).gNow o.p 13 ≠ 0 ∧ ((v k).core o.p).boundary = []) → (∀ m, o.stop = some m → n ≤ m) →
    (0 < n → (v n).gNow o.p 13 = 0 → exec i s = .next (((v n).advance o.p (opLen o (c + 1)) 0).keep s))
    ∧ ((v n).gNow o.p 13 ≠ 0 → (o.stop = some n ∨ ((v n).core o.p).boundary ≠ []) →
      exec i s = .next (((v n).takeBoundary o.p).keep s))
    ∧ (∀ k r z, (v n).bitWrite o.p (a n) (f (v n)) = .fault k r z → (v n).gNow o.p 13 ≠ 0 → ((v n).core o.p).boundary = [] →
      n < (u.gNow o.p 13).toNat → (∀ m, o.stop = some m → n < m) →
      exec i s = .next ((z.takeException o.p k (if k = 10 then 0 else 1) r (z.pcNow o.p)).keep s)))

/-- Each issues in one slot; FADD, FSUB, FMUL and the conversions land their result and flags four slots later, FMIN, FMAX, FCMP and the moves one slot later, FCMP with N, Z, C and V; FNEG and FABS change the sign bit alone; FDIV and FSQRT start a long operation of the floating-point divider. Results round by FPSR.RM. -/
def Obligations.FloatRowsComplete : Prop :=
  ∀ (s u : State) (o : PyOp) (c rm : Nat) (a b g : Word), o.form = 0 → s.enters o c = true → u = s.entered o c →
    rm = u.rm o.p → a = u.fNow o.p o.d → b = u.fNow o.p o.s → g = u.gNow o.p o.s →
    (∀ (i : Instr) (lat : Nat) (r : Word × Word), (i, c, lat, r) ∈ [
        (.fadd o, 0xB0, 4, faddOf rm a b), (.fsub o, 0xB1, 4, fsubOf rm a b), (.fmul o, 0xB2, 4, fmulOf rm a b),
        (.fmin o, 0xB3, 1, fminmaxOf false a b), (.fmax o, 0xB4, 1, fminmaxOf true a b), (.fmov o, 0xB6, 1, (b, 0)),
        (.fneg o, 0xB7, 1, (b ^^^ 0x80000000, 0)), (.fabs o, 0xB8, 1, (b &&& 0x7FFFFFFF, 0)), (.fmfg o, 0xBA, 1, (g, 0)),
        (.fcvtf o, 0xBC, 4, fcvtfOf rm g)] →
      exec i s = .next ((((u.result o.p lat (.f o.d) r.1).resultFp o.p lat r.2).advance o.p (opLen o c) 1).keep s))
    ∧ (c = 0xB5 → exec (.fcmp o) s = .next ((((u.resultFlags o.p 1 (stN ||| stZ ||| stC ||| stV) (fcmpOf a b).1).resultFp o.p 1
        (fcmpOf a b).2).advance o.p (opLen o c) 1).keep s))
    ∧ (c = 0xB9 → exec (.fmtg o) s = .next (((u.resultG o.p 1 o.d b).advance o.p (opLen o c) 1).keep s))
    ∧ (c = 0xBB → exec (.fcvti o) s = .next ((((u.resultG o.p 4 o.d (fcvtiOf rm b).1).resultFp o.p 4 (fcvtiOf rm b).2).advance o.p
        (opLen o c) 1).keep s))
    ∧ (∀ (i : Instr) (r : Word × Word), (i, c, r) ∈ [(.fdiv o, 0xC6, fdivOf rm a b), (.fsqrt o, 0xC7, fsqrtOf rm b)] →
      exec i s = .next (((u.startLong o ⟨.fpDivider, (u.core o.p).bank, [(.f o.d, r.1)], r.2⟩).advance o.p (opLen o c) 1).keep s))

/-- A branch leaves the core at the next instruction with two delay slots and its target recorded, if it is taken; CALL and CALLR give G14 the address after the second slot; DBNZ counts down. MFSR and MTSR move a system register three slots later where the world and level may, else they raise their exception; under WIN they move STATUS or PROG of the window bank as a long operation of the window port. SYSCALL and BRK take exceptions 8 and 9 with the immediate as INFO at the next instruction. RETE runs the exit sequence, or returns from escalation. WAIT ends the activation of a task or of the base context with slot 1, and stops any other context; YIELD gives way to a READY slot of its priority, FETCHSYNC drains the buffers and discards the fetch queue, SYNC waits until every store is written, NOP only passes. WAIT in escalation that waits on, YIELD outside a running task as NOP and the queue of FETCHSYNC are readings of the model (log entry 65), and so is what the bytes after a call take (log entry 56). A frame that lies in flash waits while an operation holds it. -/
def Obligations.BranchSystemRowsComplete : Prop :=
  (∀ (s u : State) (o : PyOp) (i : Instr) (nf c : Nat) (t : Option Word) (x : State),
    s.enters o (c + o.form) = true → u = s.entered o (c + o.form) → o.form < nf →
    (i, nf, c, t, x) ∈ [
      (.bcc o, 3, 0x80, if condHolds (u.status o.p) o.s then some (u.nextPc o.p (opLen o (c + o.form)) + wordOf o.disp) else none, u),
      (.call o, 1, 0x84, some (u.nextPc o.p (opLen o c) + wordOf o.disp), u.resultG o.p 1 14 (u.linkAddr o.p (opLen o c))),
      (.jmp o, 1, 0x85, some (u.gNow o.p o.s), u),
      (.callr o, 1, 0x86, some (u.gNow o.p o.s), u.resultG o.p 1 14 (u.linkAddr o.p (opLen o c))),
      (.ret o, 1, 0x87, some (u.gNow o.p 14), u),
      (.dbnz o, 2, 0x88, if u.gNow o.p o.d - 1 = 0 then none else some (u.nextPc o.p (opLen o (c + o.form)) + wordOf o.disp),
        u.resultG o.p 1 o.d (u.gNow o.p o.d - 1))] →
    exec i s = .next ((((x.setPc o.p (x.nextPc o.p (opLen o (c + o.form)))).modCore o.p (fun q => { q with br := some ⟨2, t⟩ })).slots o.p 1).keep s))
  ∧ (∀ (s u : State) (o : PyOp), o.form = 0 → s.enters o 0x90 = true → u = s.entered o 0x90 → o.pfx.win = false →
    ((u.userCore o.p = false ∨ sysNo o ∈ [0, 1, 3, 4]) →
      exec (.mfsr o) s = .next (((u.resultG o.p 3 o.d (u.sysRead o.p (sysNo o))).advance o.p (opLen o 0x90) 1).keep s))
    ∧ (u.userCore o.p = true → sysNo o ∉ [0, 1, 3, 4] → exec (.mfsr o) s = .next ((u.takeException o.p 2 3 0 (u.pcNow o.p)).keep s)))
  ∧ (∀ (s u : State) (o : PyOp) (k w : Nat) (v : Word), o.form = 0 → o.pfx.win = true → k = u.winCode o.p → w = u.get (BWIN.BANK o.p) →
    v = u.gNow o.p o.d →
    (s.enters o 0x90 = true → u = s.entered o 0x90 →
      (k ≠ 0 → exec (.mfsr o) s = .next ((u.takeException o.p k 3 0 (u.pcNow o.p)).keep s))
      ∧ (k = 0 → exec (.mfsr o) s = .next (((u.startLong o ⟨.window, (u.core o.p).bank, [(.g (u.core o.p).bank o.d,
        if sysNo o = 0 then (u.bankOf o.p w).status else (u.bankOf o.p w).prog)], 0⟩).advance o.p (opLen o 0x90) 1).keep s)))
    ∧ (s.enters o 0x91 = true → u = s.entered o 0x91 →
      (k ≠ 0 → exec (.mtsr o) s = .next ((u.takeException o.p k 3 0 (u.pcNow o.p)).keep s))
      ∧ (k = 0 → exec (.mtsr o) s = .next (((u.startLong o ⟨.window, (u.core o.p).bank,
        [if sysNo o = 0 then (.status w (u.statusWrite o.p v).1, (u.statusWrite o.p v).2) else (.prog w, v)], 0⟩).advance
          o.p (opLen o 0x91) 1).keep s))))
  ∧ (∀ (s u : State) (o : PyOp), o.form = 0 → s.enters o 0x91 = true → u = s.entered o 0x91 → o.pfx.win = false →
    u.tenantCore o.p = true →
    (sysKeeper (sysNo o) = true ∨ (sysNo o = 2 ∧ u.bit (BANK_OWN o.p) (getBits (u.gNow o.p o.d) 3 0) = false)) →
    exec (.mtsr o) s = .next ((u.takeException o.p 3 3 0 (u.pcNow o.p)).keep s))
  ∧ (∀ (s u : State) (o : PyOp) (v : Word), o.form = 0 → s.enters o 0x91 = true → u = s.entered o 0x91 → o.pfx.win = false →
    (u.tenantCore o.p = true → sysKeeper (sysNo o) = false ∧
      (sysNo o = 2 → u.bit (BANK_OWN o.p) (getBits (u.gNow o.p o.d) 3 0) = true)) → v = u.gNow o.p o.d →
    (sysNo o = 0 → exec (.mtsr o) s
      = .next (((u.result o.p 3 (.status (u.core o.p).bank (u.statusWrite o.p v).1) (u.statusWrite o.p v).2).advance o.p (opLen o 0x91) 1).keep s))
    ∧ (u.userCore o.p = false → sysNo o = 1 → exec (.mtsr o) s
      = .next (((u.result o.p 3 (.prog (u.core o.p).bank) v).advance o.p (opLen o 0x91) 1).keep s))
    ∧ (sysNo o = 3 → exec (.mtsr o) s = .next (((u.result o.p 3 .fpsr v).advance o.p (opLen o 0x91) 1).keep s))
    ∧ (u.userCore o.p = false → sysNo o ∉ [0, 1, 3] → exec (.mtsr o) s
      = .next (((u.result o.p 3 (.sys (sysNo o)) v).advance o.p (opLen o 0x91) 1).keep s))
    ∧ (u.userCore o.p = true → sysNo o ∉ [0, 3] → exec (.mtsr o) s = .next ((u.takeException o.p 2 3 0 (u.pcNow o.p)).keep s)))
  ∧ (∀ (s u x : State) (o : PyOp) (c : Nat), o.form = 0 → s.enters o c = true → u = s.entered o c →
    (c = 0x92 → exec (.syscall o) s = .next (((u.slots o.p 1).takeException o.p 8 o.imm.toNat 0 (u.nextPc o.p (opLen o c))).keep s))
    ∧ (c = 0x98 → exec (.brk o) s = .next (((u.slots o.p 1).takeException o.p 9 o.imm.toNat 0 (u.nextPc o.p (opLen o c))).keep s))
    ∧ (c = 0x93 → u.userCore o.p = true → exec (.rete o) s = .next ((u.takeException o.p 2 3 0 (u.pcNow o.p)).keep s))
    ∧ (c = 0x93 → u.userCore o.p = false → (u.core o.p).bank ≠ 0 → u.frameWaits o.p = true → exec (.rete o) s = .next (u.keep s))
    ∧ (c = 0x93 → u.userCore o.p = false → ((u.core o.p).bank = 0 ∨ u.frameWaits o.p = false) → x = u.slots o.p 1 → x.serviceOk o.p 0x204 = true →
      ((x.core o.p).bank = 0 → exec (.rete o) s = .next (((x.leaveEscalation o.p).takeBoundary o.p).keep s))
      ∧ ((x.core o.p).bank ≠ 0 → exec (.rete o) s = .next (((x.leave o.p (u.pcNow o.p)).takeBoundary o.p).keep s)))
    ∧ (∀ b, c = 0x94 → b = (u.core o.p).bank → (b = 0 ∨ (u.get (DRV_SLOT_STAT.STATE o.p b) ≠ 4
        ∧ (u.get (DRV_SLOT_STAT.STATE o.p b) ≠ 1 ∨ b ≠ 1 ∨ (u.core o.p).base = false))) → x = (u.setPc o.p (u.nextPc o.p (opLen o c))).slots o.p 1 →
      x.serviceOk o.p 0x205 = true →
      exec (.waitOp o) s = .next ((((x.modCore o.p (fun k => { k with waiting := true })).showCore o.p).takeBoundary o.p).keep s))
    ∧ (∀ b, c = 0x94 → b = (u.core o.p).bank → 1 ≤ b → (u.get (DRV_SLOT_STAT.STATE o.p b) = 4
        ∨ (u.get (DRV_SLOT_STAT.STATE o.p b) = 1 ∧ b = 1 ∧ (u.core o.p).base = true)) → u.frameWaits o.p = false →
      x = (u.setPc o.p (u.nextPc o.p (opLen o c))).slots o.p 1 → x.serviceOk o.p 0x205 = true →
      exec (.waitOp o) s = .next ((((((x.modCore o.p (fun k => { k with base := k.base && b != 1 })).set
        (DRV_SLOT_STAT.STATE o.p b) 2).slotReady o.p b).leave o.p (u.pcNow o.p)).takeBoundary o.p).keep s))
    ∧ (∀ b, c = 0x95 → b = (u.core o.p).bank → (b = 0 ∨ u.get (DRV_SLOT_STAT.STATE o.p b) ≠ 4
        ∨ ∀ k, 1 ≤ k → k < 16 → k ≠ b → u.on (DRV_SLOT_CFG.EN o.p k) = true → u.get (DRV_SLOT_STAT.STATE o.p k) = 3 →
          u.get (DRV_SLOT_CFG.PRI o.p k) ≠ stPri (u.status o.p)) →
      exec (.yield o) s = .next ((u.advance o.p (opLen o c) 1).keep s))
    ∧ (∀ b k, c = 0x95 → b = (u.core o.p).bank → 1 ≤ b → u.get (DRV_SLOT_STAT.STATE o.p b) = 4 → 1 ≤ k → k < 16 → k ≠ b →
      u.on (DRV_SLOT_CFG.EN o.p k) = true → u.get (DRV_SLOT_STAT.STATE o.p k) = 3 →
      u.get (DRV_SLOT_CFG.PRI o.p k) = stPri (u.status o.p) → u.frameWaits o.p = false →
      x = (u.setPc o.p (u.nextPc o.p (opLen o c))).slots o.p 1 → x.serviceOk o.p 0x206 = true →
      exec (.yield o) s = .next ((((((x.set (DRV_SLOT_STAT.STATE o.p b) 3).set (DRV_SLOT_STAT.YLD o.p b) 1).modCore o.p
        (fun q => { q with resumes := b :: q.resumes })).leave o.p (u.pcNow o.p)).takeBoundary o.p).keep s))
    ∧ (c = 0x96 → exec (.fetchsync o) s
      = .next (((((u.retireN o.p (u.core o.p).sb.length).flushMerge o.p).modCore o.p (fun q => { q with fq := [] })).advance
        o.p (opLen o c) 1).keep s))
    ∧ (c = 0x97 → (((u.drain o.p).deliverMem o.p).deliverRegs o.p) = (true, x) →
      exec (.sync o) s = .next ((x.advance o.p (opLen o c) 1).keep s))
    ∧ (c = 0x99 → exec (.nopOp o) s = .next ((u.advance o.p (opLen o c) 1).keep s)))

/-- A division, remainder or square root starts the divider and CORDIC its unit with a pair of results; a block instruction of no element left clears PROG (VMAC starts the write of its accumulator); one whose one remaining element passes its checks copies the word, accumulates the product, counts a corrected word or steps the CRC, and clears PROG; one stopped by a request before its first element (log entry 63) records the element reached in PROG, VMAC writing its accumulator pair first. One of several elements does so element after element, at ascending addresses, and at its end, at a request after n elements or at an element whose access its rights refuse ends in the same way, with the elements done in PROG. Under SAT the sum of VMAC is clamped at 64 bits and Q sets where it was. -/
def Obligations.LongBlockRowsComplete : Prop :=
  (∀ (s u : State) (o : PyOp) (i : Instr) (c : Nat) (r g h : Word), o.form = 0 → s.enters o c = true → u = s.entered o c →
    g = u.gNow o.p o.d → h = u.gNow o.p o.s →
    (i, c, r) ∈ [(.divOp o, 0xC0, divOf g h), (.divu o, 0xC1, divuOf g h), (.rem o, 0xC2, remOf g h), (.remu o, 0xC3, remuOf g h),
      (.sqrt o, 0xC4, sqrtOf h)] →
    exec i s = .next (((u.startLong o ⟨.divider, (u.core o.p).bank, [(.g (u.core o.p).bank o.d, r)], 0⟩).advance o.p (opLen o c) 1).keep s))
  ∧ (∀ (s u : State) (o : PyOp) (r : Word × Word), o.form = 0 → s.enters o 0xC5 = true → u = s.entered o 0xC5 →
    r = (if o.imm = 0 then cordicSincos (u.gNow o.p o.s) else cordicAtan2 (u.gNow o.p o.s) (u.gNow o.p (o.s + 1))) →
    exec (.cordic o) s = .next (((u.startLong o ⟨.cordic, (u.core o.p).bank,
      [(.g (u.core o.p).bank o.d, r.1), (.g (u.core o.p).bank (o.d + 1), r.2)], 0⟩).advance o.p (opLen o 0xC5) 1).keep s))
  ∧ (∀ (s u : State) (o : PyOp) (i : Instr) (c : Nat) (prog : Word), o.form = 0 → s.enters o c = true → u = s.entered o c →
    (i, c) ∈ [(.bmov o, 0xD0), (.bscan o, 0xD2), (.crcb o, 0xD3)] → prog = (u.bankOf o.p (u.core o.p).bank).prog →
    ((u.gNow o.p o.n).toNat % 2 ^ 24 ≤ (if wbit prog 31 then getBits prog 23 0 else 0) →
      exec i s = .next (((u.setProg o.p 0).advance o.p (opLen o c) 1).keep s))
    ∧ (∀ k, k = (if wbit prog 31 then getBits prog 23 0 else 0) → k < (u.gNow o.p o.n).toNat % 2 ^ 24 → o.stop = some 0 →
      exec i s = .next (((u.setProg o.p (2 ^ 31 + k)).takeBoundary o.p).keep s)))
  ∧ (∀ (s u : State) (o : PyOp) (prog : Word) (k r : Nat) (lo hi : Word), o.form = 0 → s.enters o 0xD1 = true → u = s.entered o 0xD1 →
    prog = (u.bankOf o.p (u.core o.p).bank).prog → k = (if wbit prog 31 then getBits prog 23 0 else 0) →
    r = wrapN 64 (sext 64 ((u.gNow o.p (o.d + 1)).toNat * 2 ^ 32 + (u.gNow o.p o.d).toNat)) →
    lo = BitVec.ofNat 32 r → hi = BitVec.ofNat 32 (r / 2 ^ 32) →
    ((u.gNow o.p o.n).toNat % 2 ^ 24 ≤ k →
      exec (.vmac o) s = .next ((((u.startLong o ⟨.mac, (u.core o.p).bank, [(.g (u.core o.p).bank o.d, lo),
        (.g (u.core o.p).bank (o.d + 1), hi)], 0⟩).setProg o.p 0).advance o.p (opLen o 0xD1) 1).keep s))
    ∧ (k < (u.gNow o.p o.n).toNat % 2 ^ 24 → o.stop = some 0 →
      exec (.vmac o) s = .next (((((u.setG o.p (u.core o.p).bank o.d lo).setG o.p (u.core o.p).bank (o.d + 1) hi).setProg o.p
        (2 ^ 31 + k)).takeBoundary o.p).keep s)))
  ∧ (∀ (s u : State) (o : PyOp) (k : Nat) (prog : Word), o.form = 0 → o.stop = none → prog = (u.bankOf o.p (u.core o.p).bank).prog →
    k = (if wbit prog 31 then getBits prog 23 0 else 0) → (u.gNow o.p o.n).toNat % 2 ^ 24 = k + 1 →
    (∀ a b v x, s.enters o 0xD0 = true → u = s.entered o 0xD0 → a = (u.gNow o.p o.s + BitVec.ofNat 32 (4 * k)).toNat →
      b = (u.gNow o.p o.d + BitVec.ofNat 32 (4 * k)).toNat →
      u.dataCheck o.p (u.tenantCore o.p) (u.userCore o.p) a 4 .load = 0 → u.readNow o.p a 4 true = (.val v, x) →
      (x.storeCheck o.p b 4 v).1 = 0 →
      exec (.bmov o) s = .next (((((x.pushStoreAt o.p 1 ⟨b, leBytes 4 v.toNat, x.tenantCore o.p⟩).slots o.p 2).setProg o.p 0).advance
        o.p (opLen o 0xD0) 0).keep s))
    ∧ (∀ a b v w x y z q acc r, s.enters o 0xD1 = true → u = s.entered o 0xD1 →
      a = (u.gNow o.p o.s + BitVec.ofNat 32 (4 * k)).toNat → b = (u.gNow o.p o.t + BitVec.ofNat 32 (4 * k)).toNat →
      u.dataCheck o.p (u.tenantCore o.p) (u.userCore o.p) a 4 .load = 0 → u.readNow o.p a 4 true = (.val v, x) →
      x.dataCheck o.p (x.tenantCore o.p) (x.userCore o.p) b 4 .load = 0 → x.readNow o.p b 4 true = (.val w, y) →
      acc = sext 64 ((u.gNow o.p (o.d + 1)).toNat * 2 ^ 32 + (u.gNow o.p o.d).toNat) →
      z = (if o.pfx.sat then clampI (-9223372036854775808) 9223372036854775807 (acc + sword v * sword w)
        else sext 64 (wrapN 64 (acc + sword v * sword w))) →
      q = (if o.pfx.sat = true ∧ (acc + sword v * sword w < -9223372036854775808 ∨ 9223372036854775807 < acc + sword v * sword w)
        then y.modCore o.p (fun c => c.write (.status (u.core o.p).bank stQ) stQ) else y) →
      r = wrapN 64 z →
      exec (.vmac o) s = .next (((((q.slots o.p 2).startLong o ⟨.mac, (u.core o.p).bank, [(.g (u.core o.p).bank o.d, BitVec.ofNat 32 r),
        (.g (u.core o.p).bank (o.d + 1), BitVec.ofNat 32 (r / 2 ^ 32))], 0⟩).setProg o.p 0).advance o.p (opLen o 0xD1) 0).keep s))
    ∧ (∀ a v x y, s.enters o 0xD2 = true → u = s.entered o 0xD2 → a = (u.gNow o.p o.s + BitVec.ofNat 32 (4 * k)).toNat →
      u.dataCheck o.p (u.tenantCore o.p) (u.userCore o.p) a 4 .load = 0 → x = u.settled o.p a →
      x.dataCheck o.p (x.tenantCore o.p) (x.userCore o.p) a 4 .load = 0 → x.readNow o.p a 4 false = (.val v, y) →
      exec (.bscan o) s = .next (((((if x.correctable o.p a then y.setG o.p (u.core o.p).bank o.d (y.gNow o.p o.d + 1) else y).slots
        o.p 1).setProg o.p 0).advance o.p (opLen o 0xD2) 0).keep s))
    ∧ (∀ a v x, s.enters o 0xD3 = true → u = s.entered o 0xD3 → a = (u.gNow o.p o.s + BitVec.ofNat 32 k).toNat →
      u.dataCheck o.p (u.tenantCore o.p) (u.userCore o.p) a 1 .load = 0 → u.readNow o.p a 1 true = (.val v, x) →
      exec (.crcb o) s = .next (((((x.setG o.p (u.core o.p).bank o.d (crcStep o.t (x.gNow o.p o.d) (BitVec.ofNat 8 v.toNat))).slots
        o.p 1).setProg o.p 0).advance o.p (opLen o 0xD3) 0).keep s)))
  ∧ (∀ (s u : State) (o : PyOp) (i : Instr) (c k total n sz : Nat) (prog : Word) (v : Nat → State) (a b : Nat → Nat)
      (elem : Nat → State → State → Prop),
    o.form = 0 → s.enters o c = true → u = s.entered o c → prog = (u.bankOf o.p (u.core o.p).bank).prog →
    k = (if wbit prog 31 then getBits prog 23 0 else 0) → total = (u.gNow o.p o.n).toNat % 2 ^ 24 → k < total → k + n ≤ total →
    (∀ j, a j = (u.gNow o.p o.s + BitVec.ofNat 32 (sz * (k + j))).toNat ∧ b j = (u.gNow o.p o.d + BitVec.ofNat 32 (4 * (k + j))).toNat) →
    (i, c, sz, elem) ∈ [
      (.bmov o, 0xD0, 4, fun j y z => ∃ w x, y.readNow o.p (a j) 4 true = (.val w, x) ∧ (x.storeCheck o.p (b j) 4 w).1 = 0
        ∧ z = (x.pushStoreAt o.p 1 ⟨b j, leBytes 4 w.toNat, x.tenantCore o.p⟩).slots o.p 2),
      (.bscan o, 0xD2, 4, fun j y z => ∃ q w x, q = y.settled o.p (a j)
        ∧ q.dataCheck o.p (q.tenantCore o.p) (q.userCore o.p) (a j) 4 .load = 0 ∧ q.readNow o.p (a j) 4 false = (.val w, x)
        ∧ z = (if q.correctable o.p (a j) then x.setG o.p (u.core o.p).bank o.d (x.gNow o.p o.d + 1) else x).slots o.p 1),
      (.crcb o, 0xD3, 1, fun j y z => ∃ w x, y.readNow o.p (a j) 1 true = (.val w, x)
        ∧ z = (x.setG o.p (u.core o.p).bank o.d (crcStep o.t (x.gNow o.p o.d) (BitVec.ofNat 8 w.toNat))).slots o.p 1)] →
    v 0 = u → (∀ j, j < n → (v j).dataCheck o.p ((v j).tenantCore o.p) ((v j).userCore o.p) (a j) sz .load = 0 ∧ elem j (v j) (v (j + 1))) →
    (∀ m, o.stop = some m → n ≤ m) →
    (k + n = total → exec i s = .next ((((v n).setProg o.p 0).advance o.p (opLen o c) 0).keep s))
    ∧ (k + n < total → o.stop = some n → exec i s = .next ((((v n).setProg o.p (2 ^ 31 + (k + n))).takeBoundary o.p).keep s))
    ∧ (∀ code z, k + n < total → o.stop ≠ some n → z = (v n).setProg o.p (2 ^ 31 + (k + n)) →
      code = (v n).dataCheck o.p ((v n).tenantCore o.p) ((v n).userCore o.p) (a n) sz .load → code ≠ 0 →
      exec i s = .next ((z.takeException o.p code 0 (faultAddr code (a n)) (z.pcNow o.p)).keep s)))
  ∧ (∀ (s u : State) (o : PyOp) (k total n bank : Nat) (prog : Word) (v : Nat → State) (a b r : Nat → Nat) (acc x : Nat → Int)
      (saved : State),
    o.form = 0 → s.enters o 0xD1 = true → u = s.entered o 0xD1 → bank = (u.core o.p).bank → prog = (u.bankOf o.p bank).prog →
    k = (if wbit prog 31 then getBits prog 23 0 else 0) → total = (u.gNow o.p o.n).toNat % 2 ^ 24 → k < total → k + n ≤ total →
    (∀ j, a j = (u.gNow o.p o.s + BitVec.ofNat 32 (4 * (k + j))).toNat ∧ b j = (u.gNow o.p o.t + BitVec.ofNat 32 (4 * (k + j))).toNat
      ∧ r j = wrapN 64 (acc j)) →
    v 0 = u → acc 0 = sext 64 ((u.gNow o.p (o.d + 1)).toNat * 2 ^ 32 + (u.gNow o.p o.d).toNat) →
    (∀ j, j < n → (v j).dataCheck o.p ((v j).tenantCore o.p) ((v j).userCore o.p) (a j) 4 .load = 0 ∧ ∃ p q y z,
      (v j).readNow o.p (a j) 4 true = (.val p, y) ∧ y.dataCheck o.p (y.tenantCore o.p) (y.userCore o.p) (b j) 4 .load = 0
      ∧ y.readNow o.p (b j) 4 true = (.val q, z) ∧ x j = acc j + sword p * sword q
      ∧ acc (j + 1) = (if o.pfx.sat then clampI (-9223372036854775808) 9223372036854775807 (x j) else sext 64 (wrapN 64 (x j)))
      ∧ v (j + 1) = (if o.pfx.sat = true ∧ (x j < -9223372036854775808 ∨ 9223372036854775807 < x j)
        then z.modCore o.p (fun c => c.write (.status bank stQ) stQ) else z).slots o.p 2) →
    (∀ m, o.stop = some m → n ≤ m) →
    saved = (((v n).setG o.p bank o.d (BitVec.ofNat 32 (r n))).setG o.p bank (o.d + 1) (BitVec.ofNat 32 (r n / 2 ^ 32))).setProg o.p
      (2 ^ 31 + (k + n)) →
    (k + n = total → exec (.vmac o) s = .next (((((v n).startLong o ⟨.mac, bank, [(.g bank o.d, BitVec.ofNat 32 (r n)),
        (.g bank (o.d + 1), BitVec.ofNat 32 (r n / 2 ^ 32))], 0⟩).setProg o.p 0).advance o.p (opLen o 0xD1) 0).keep s))
    ∧ (k + n < total → o.stop = some n → exec (.vmac o) s = .next ((saved.takeBoundary o.p).keep s))
    ∧ (∀ code, k + n < total → o.stop ≠ some n →
      code = (v n).dataCheck o.p ((v n).tenantCore o.p) ((v n).userCore o.p) (a n) 4 .load → code ≠ 0 →
      exec (.vmac o) s = .next ((saved.takeException o.p code 0 (faultAddr code (a n)) (saved.pcNow o.p)).keep s)))

/-- A good response lets the outstanding load read its word and land three slots later, with the core moving past the load; a bad one takes exception 14 at it; without an outstanding load the oldest accepted write is performed, at a register or in memory. The port of another core grants the load or write it names. Bytes that are no instruction take exception 1. A read of flash waits for an operation there, of a PROGRAM for the page in progress, and lets an erase go on when it is done. That a response performs a write whatever it says is a reading of the model (log entry 59). Illegal bytes are fetched first, and a fetch that fails raises its own exception. -/
def Obligations.PortRowsComplete : Prop :=
  (∀ (s x : State) (p : Nat) (l : PLoad) (w v : Word), s.alive = true → p < 6 → (s.core p).pload = some l →
    exec (.interconnectResponse p false) s
      = .next (((s.modCore p (fun c => { c with pload := none })).flashResume.takeException p 14 0 (BitVec.ofNat 32 l.addr) (s.pcNow p)).keep s)
    ∧ (s.flashWaits l.addr = false → (s.flashServe l.addr).farWord p l.addr = (.val w, x) → v = extended (BitVec.ofNat 32 (pickBytes w l.addr l.width)) l.width l.signed →
      exec (.interconnectResponse p true) s
        = .next ((((x.modCore p (fun c => { c with pload := none })).flashResume.result p 3 l.dest v).advance p l.len 1).keep s)
      ∧ (∀ q r, q < 6 → r = ({ asker := p, addr := l.addr, width := l.width, store := none } : PortReq) → areaOf l.addr = .peer q →
        exec (.remoteAccess q r) s
          = .next ((((x.modCore p (fun c => { c with pload := none })).flashResume.result p 3 l.dest v).advance p l.len 1).keep s))))
  ∧ (∀ (s x : State) (p : Nat) (e : StEntry) (es : List StEntry) (good : Bool), s.alive = true → p < 6 → (s.core p).pload = none →
    (s.core p).posted = e :: es → x = s.modCore p (fun c => { c with posted := es }) →
    (areaOf e.addr = .periph → exec (.interconnectResponse p good) s = .next ((x.regEffect e.addr (wordOfLe e.bytes)).keep s))
    ∧ (areaOf e.addr ≠ .periph → exec (.interconnectResponse p good) s = .next ((x.performFar p e).keep s)))
  ∧ (∀ (s x : State) (p q : Nat) (e : StEntry) (r : PortReq) (v : Word), s.alive = true → q < 6 → areaOf e.addr = .peer q →
    (s.core p).posted.find? (fun e => areaOf e.addr = .peer q) = some e →
    r = ({ asker := p, addr := e.addr, width := r.width, store := some v } : PortReq) → e.bytes = leBytes r.width v.toNat →
    x = s.modCore p (fun c => { c with posted := c.posted.erase e }) →
    exec (.remoteAccess q r) s = .next (((x.flushHit q (e.addr / 4 * 4)).storeFar p e.addr e.bytes).keep s))
  ∧ (∀ (s : State) (p : Nat), s.alive = true → p < 6 → s.issuing p = true → (s.core p).pload = none → s.fetchWaits p 1 = false →
    ∀ (code : Nat) (a : Word) (u : State), s.fetch p 1 = (code, a, u) →
    (code = 0 → exec (.illegalInstruction p) s = .next ((u.takeException p 1 3 0 (u.pcNow p)).keep s))
    ∧ (code ≠ 0 → exec (.illegalInstruction p) s = .next ((u.takeException p code 2 a (u.pcNow p)).keep s)))

/-- For every command and state: a step with that command at the front of the queue answers what exec answers for it on the same state with the rest of the queue. -/
def Obligations.StepTakesFront : Prop :=
  ∀ (c : Instr) (cs : List Instr) (s : State), s.pending = c :: cs → step s = exec c { s with pending := cs }

/-- A step on an empty queue answers the state unchanged. This is the model’s choice (log entry 1): what happens at a clock happens by the commands that stand for it. -/
def Obligations.EmptyQueueIdles : Prop :=
  ∀ s : State, s.pending = [] → step s = .next s

/-- No command faults. Every command answers a next state whose queue is the queue it was given, except a private JTAG instruction while TESTEN is high, JTAGDIS is 0 and the port has power, which is refused. -/
def Obligations.EveryCommandAnswers : Prop :=
  ∀ (c : Instr) (s : State),
    (∃ t, exec c s = .next t ∧ t.pending = s.pending)
    ∨ (∃ code, c = .waimondInstruction code ∧ waimondCode code = true ∧ code < 64 ∧ s.jtag.testen = true
        ∧ wbit (s.rd OTP_LOCKS) 5 = false ∧ s.pmu.ember = false ∧ exec c s = .refused .waimondPrivateJtag)

/-- If every waiting command names things the device has, a step answers a next state in which the same holds of the commands still waiting, one fewer than before unless none was; the one other answer is the refusal of a private JTAG instruction at the front. No step faults. -/
def Obligations.QueueInvariant : Prop :=
  ∀ s : State, (∀ c ∈ s.pending, c.wf = true) →
    (∃ t, step s = .next t ∧ (∀ c ∈ t.pending, c.wf = true) ∧ t.pending = s.pending.tail)
    ∨ (∃ code, s.pending.head? = some (.waimondInstruction code) ∧ s.jtag.testen = true
        ∧ step s = .refused .waimondPrivateJtag)

/-- After reset the queue is empty, so every waiting command is well formed; memory, registers and check-bit flips are in their canonical form and the lists of cores, banks, registers, rails and fuses have their lengths; every register reads its reset value; the tick counter is 0; and the cold reset is in progress with every core held. -/
def Obligations.ResetInvariant : Prop :=
  State.reset.pending = [] ∧ State.reset.mapsWf = true ∧ State.reset.shaped = true ∧ (∀ a, State.reset.rd a = resetVal a) ∧ State.reset.tbu.tbc = 0
    ∧ State.reset.pmu.rst = some 1 ∧ State.reset.pmu.held = List.replicate 6 true ∧ State.reset.alive = false

/-- For every defined opcode and all operands its parts can hold, at most four prefixes: the bytes that encode the instruction decode to the same opcode, prefixes, register fields, displacement and immediate, and what follows them is left. The core and the request that stops a repetition are not in the bytes. -/
def Obligations.InstructionCodecAgrees : Prop :=
  ∀ (c : Nat) (o : PyOp) (rest : List Byte), codeOk c = true → opFits o c = true → pfxCount o.pfx ≤ 4 →
    o.d < 16 → o.s < 16 → o.t < 16 → o.n < 16 → o.form = formOf c → o.p = 0 → o.stop = none →
    decodePy (encodePy c o ++ rest) = some ((c, o), rest) ∧ (encodePy c o).length = opLen o c

/-- One or more instructions of each group, written out byte by byte: opcode, M byte with D above S, displacement and immediate little-endian, T byte with T above N, page byte after 0xF0; repeated and fifth prefixes, and undefined opcodes, do not decode. -/
def Obligations.InstructionWordsDecode : Prop :=
  decodePy [0x01, 0x25, 0x04] = some ((0x01, { form := 1, d := 2, s := 5, imm := 4 }), [])
    ∧ decodePy [0xE1, 0x42, 0x1F, 0xFE, 0xFF, 0xFF, 0xFF]
      = some ((0x42, { pfx := { sat := true }, form := 2, d := 1, s := 15, imm := -2 }), [])
    ∧ decodePy [0x4D, 0x3A, 0x05, 0x08] = some ((0x4D, { d := 3, s := 10, imm := 0x805 }), [])
    ∧ decodePy [0x52, 0x42, 0x08, 0x80] = some ((0x52, { form := 2, d := 4, s := 2, disp := -32760 }), [])
    ∧ decodePy [0x78, 0x00, 0xFF, 0x7F, 0x99] = some ((0x78, { imm := 0x7FFF }), [0x99])
    ∧ decodePy [0x80, 0x0D, 0xFE] = some ((0x80, { s := 13, disp := -2 }), [])
    ∧ decodePy [0xE4, 0xE3, 0xAA, 0x70, 0x34, 0x12] = some ((0xAA, { pfx := { atom := true, bitx := true }, d := 7, imm := 0x1234 }), [])
    ∧ decodePy [0xB0, 0x12] = some ((0xB0, { d := 1, s := 2 }), [])
    ∧ decodePy [0xC5, 0x24, 0x01] = some ((0xC5, { d := 2, s := 4, imm := 1 }), [])
    ∧ decodePy [0xD1, 0x24, 0x56] = some ((0xD1, { d := 2, s := 4, t := 5, n := 6 }), [])
    ∧ decodePy [0xF0, 0x05, 0x12, 0x04, 0x00, 0x03] = some ((0x105, { d := 1, s := 2, disp := 4, n := 3 }), [])
    ∧ decodePy [0x91, 0x70, 0x05] = some ((0x91, { d := 7, imm := 5 }), [])
    ∧ decodePy [0xE0, 0xE0, 0x2C, 0x12] = none ∧ decodePy [0xE0, 0xE1, 0xE2, 0xE4, 0xE5, 0x00, 0x12] = none
    ∧ decodePy [0x47, 0x00] = none ∧ decodePy [0xF0, 0x07, 0x00] = none ∧ decodePy [0x9A] = none

/-- DIVU by zero gives 0xFFFF_FFFF, DIV −1 for a non-negative dividend and 1 for a negative one, REM and REMU the dividend; DIV of 0x8000_0000 by −1 gives 0x8000_0000 and REM 0. By any other divisor DIV and DIVU give the quotient truncated towards zero, and REM and REMU the remainder with the sign of the dividend. -/
def Obligations.DivisionCorners : Prop :=
  (∀ a : Word, divuOf a 0 = 0xFFFFFFFF ∧ remOf a 0 = a ∧ remuOf a 0 = a
    ∧ (wbit a 31 = false → divOf a 0 = 0xFFFFFFFF) ∧ (wbit a 31 = true → divOf a 0 = 1))
  ∧ divOf 0x80000000 0xFFFFFFFF = 0x80000000 ∧ remOf 0x80000000 0xFFFFFFFF = 0
  ∧ (∀ a b : Word, b ≠ 0 → (divuOf a b).toNat = a.toNat / b.toNat ∧ (remuOf a b).toNat = a.toNat % b.toNat)
  ∧ (∀ a b : Word, b ≠ 0 → (a ≠ 0x80000000 ∨ b ≠ 0xFFFFFFFF) →
    (divOf a b).toInt = Int.tdiv a.toInt b.toInt ∧ (remOf a b).toInt = Int.tmod a.toInt b.toInt)

/-- ADD and ADC give the 32-bit sum with the carry out in C and the signed overflow in V; SUB, CMP and SBC the difference with C set when there is no borrow; N and Z follow the result. Under SAT a result of ADD, SUB, ADC or SBC that overflows is clamped to the signed range by its true sign, V reports it and Q sets; one that does not is as without SAT; N and Z follow the clamped result and C is as without SAT (log entry 61). The count of a shift is the low byte of b. SHL, SHR and SAR by less than 32 shift; from 32 on SHL and SHR give 0 and SAR the sign; ROR rotates by the count modulo 32. V is 0 and N and Z follow the result. C is the last bit shifted out, 0 for SHL and SHR and the sign for SAR above 32, bit 31 of the result for ROR, for every count of 1 to 255, and is not written for a count of 0. SHL under SAT gives the shifted value where it keeps sign and significant bits, else the limit of the sign of a, and Q sets. AND, OR, XOR, TST, signed MIN and MAX give their result with V 0 and C not written; MOV gives b and no flag. MUL gives the low word, MULH and MULHU the high word of the signed and unsigned product, QMUL the exact product shifted right by 31, QMUL15, ADD15 and SUB15 the same of each halfword by 15, the sum and the difference; they write no flag, but under SAT a value out of its range is clamped and Q sets. CLZ, POPC, REV, BFX, BFXS and BFI are given bit by bit. -/
def Obligations.AluResultsAndFlags : Prop :=
  (∀ (a b : Word) (cin : Bool) (x : Alu), x = aluAdd false a b cin →
    x.res = a + b + (if cin then 1 else 0)
    ∧ x.mask = 0xF
    ∧ wbit x.flags 3 = wbit x.res 31 ∧ (wbit x.flags 2 = true ↔ x.res = 0)
    ∧ (wbit x.flags 1 = true ↔ 2 ^ 32 ≤ a.toNat + b.toNat + (if cin then 1 else 0))
    ∧ (wbit x.flags 0 = true ↔ (a.toInt + b.toInt + (if cin then 1 else 0) < -2 ^ 31
      ∨ 2 ^ 31 ≤ a.toInt + b.toInt + (if cin then 1 else 0))))
  ∧ (∀ (a b : Word) (cin : Bool) (x : Alu), x = aluSub false a b cin →
    x.res = a - b - (if cin then 0 else 1)
    ∧ x.mask = 0xF
    ∧ wbit x.flags 3 = wbit x.res 31 ∧ (wbit x.flags 2 = true ↔ x.res = 0)
    ∧ (wbit x.flags 1 = true ↔ b.toNat + (if cin then 0 else 1) ≤ a.toNat)
    ∧ (wbit x.flags 0 = true ↔ (a.toInt - b.toInt - (if cin then 0 else 1) < -2 ^ 31
      ∨ 2 ^ 31 ≤ a.toInt - b.toInt - (if cin then 0 else 1))))
  ∧ (∀ (a b : Word) (cin : Bool) (x y : Alu) (e : Int),
    (x = aluAdd true a b cin ∧ y = aluAdd false a b cin ∧ e = a.toInt + b.toInt + (if cin then 1 else 0)
      ∨ x = aluSub true a b cin ∧ y = aluSub false a b cin ∧ e = a.toInt - b.toInt - (if cin then 0 else 1)) →
    (-2 ^ 31 ≤ e → e < 2 ^ 31 → x = y)
    ∧ (2 ^ 31 ≤ e → x.res = 0x7FFFFFFF) ∧ (e < -2 ^ 31 → x.res = 0x80000000)
    ∧ (e < -2 ^ 31 ∨ 2 ^ 31 ≤ e → x.mask = 0x1F ∧ wbit x.flags 4 = true ∧ wbit x.flags 0 = true
      ∧ wbit x.flags 3 = wbit x.res 31 ∧ wbit x.flags 2 = false ∧ wbit x.flags 1 = wbit y.flags 1))
  ∧ (∀ (a b : Word) (n : Nat), n = b.toNat % 256 →
    (aluShl false a b).res = (if n < 32 then a <<< n else 0)
    ∧ (aluShr a b).res = (if n < 32 then a >>> n else 0)
    ∧ (aluSar a b).res = (if n < 32 then a.sshiftRight n else if wbit a 31 then 0xFFFFFFFF else 0)
    ∧ (aluRor a b).res = a.rotateRight n
    ∧ (∀ x ∈ [aluShl false a b, aluShr a b, aluSar a b, aluRor a b],
      x.mask = (if n = 0 then 0xD else 0xF) ∧ wbit x.flags 0 = false ∧ wbit x.flags 3 = wbit x.res 31 ∧ (wbit x.flags 2 = true ↔ x.res = 0))
    ∧ (1 ≤ n → n ≤ 32 → wbit (aluShl false a b).flags 1 = wbit a (32 - n) ∧ wbit (aluShr a b).flags 1 = wbit a (n - 1)
      ∧ wbit (aluSar a b).flags 1 = wbit a (n - 1))
    ∧ (32 < n → wbit (aluShl false a b).flags 1 = false ∧ wbit (aluShr a b).flags 1 = false
      ∧ wbit (aluSar a b).flags 1 = wbit a 31)
    ∧ (1 ≤ n → wbit (aluRor a b).flags 1 = wbit (aluRor a b).res 31)
    ∧ (-2 ^ 31 ≤ a.toInt * 2 ^ n → a.toInt * 2 ^ n < 2 ^ 31 → aluShl true a b = aluShl false a b)
    ∧ (a.toInt * 2 ^ n < -2 ^ 31 ∨ 2 ^ 31 ≤ a.toInt * 2 ^ n →
      (aluShl true a b).res = (if wbit a 31 then 0x80000000 else 0x7FFFFFFF) ∧ wbit (aluShl true a b).flags 4 = true
      ∧ wbit (aluShl true a b).mask 4 = true))
  ∧ (∀ (sat : Bool) (a b : Word) (cin : Bool),
    aluOp 0 sat a b cin = aluAdd sat a b false ∧ aluOp 1 sat a b cin = aluSub sat a b true
    ∧ aluOp 5 sat a b cin = aluShl sat a b ∧ aluOp 6 sat a b cin = aluShr a b ∧ aluOp 7 sat a b cin = aluSar a b
    ∧ aluOp 8 sat a b cin = aluRor a b ∧ aluOp 9 sat a b cin = aluSub false a b true ∧ aluOp 11 sat a b cin = ⟨b, 0, 0⟩
    ∧ aluOp 12 sat a b cin = aluAdd sat a b cin ∧ aluOp 13 sat a b cin = aluSub sat a b cin
    ∧ (∀ (op : Nat) (r : Word) (x : Alu), x = aluOp op sat a b cin → (op, r) ∈ [(2, a &&& b), (3, a ||| b), (4, a ^^^ b), (10, a &&& b),
        (14, if a.toInt ≤ b.toInt then a else b), (15, if a.toInt ≤ b.toInt then b else a)] →
      x.res = r ∧ x.mask = 0xD ∧ wbit x.flags 0 = false ∧ wbit x.flags 3 = wbit r 31 ∧ (wbit x.flags 2 = true ↔ r = 0)))
  ∧ (∀ (a b : Word) (m : Int), m = a.toInt * b.toInt →
    mulLow false a b = ⟨a * b, 0, 0⟩ ∧ mulHigh a b = BitVec.ofInt 32 (m / 2 ^ 32)
    ∧ (mulHighU a b).toNat = a.toNat * b.toNat / 2 ^ 32 ∧ qmul31 false a b = ⟨BitVec.ofInt 32 (m / 2 ^ 31), 0, 0⟩
    ∧ (-2 ^ 31 ≤ m → m < 2 ^ 31 → mulLow true a b = mulLow false a b)
    ∧ (2 ^ 31 ≤ m → mulLow true a b = ⟨0x7FFFFFFF, 16, 16⟩) ∧ (m < -2 ^ 31 → mulLow true a b = ⟨0x80000000, 16, 16⟩)
    ∧ (m < 2 ^ 62 → qmul31 true a b = qmul31 false a b) ∧ (m = 2 ^ 62 → qmul31 true a b = ⟨0x7FFFFFFF, 16, 16⟩))
  ∧ (∀ (f : Bool → Word → Word → Alu) (e : Int → Int → Int) (a b : Word) (v : Nat → Int),
    (f, e) ∈ [(qmul15Of, fun x y => x * y / 2 ^ 15), (add15Of, fun x y => x + y), (sub15Of, fun x y => x - y)] →
    (∀ i, v i = e (a.extractLsb' (16 * i) 16).toInt (b.extractLsb' (16 * i) 16).toInt) →
    (∀ i, i < 2 → (f false a b).res.extractLsb' (16 * i) 16 = BitVec.ofInt 16 (v i)
      ∧ (f true a b).res.extractLsb' (16 * i) 16 = BitVec.ofInt 16 (max (-32768) (min 32767 (v i))))
    ∧ (f false a b).mask = 0
    ∧ ((∀ i, i < 2 → -32768 ≤ v i ∧ v i ≤ 32767) → (f true a b).mask = 0)
    ∧ (∀ i, i < 2 → (v i < -32768 ∨ 32767 < v i) → (f true a b).mask = 16 ∧ (f true a b).flags = 16))
  ∧ (clzOf 0 = 32 ∧ ∀ (w d : Word) (i p l : Nat),
    (w ≠ 0 → (clzOf w).toNat < 32 ∧ wbit w (31 - (clzOf w).toNat) = true ∧ ∀ j, j < (clzOf w).toNat → wbit w (31 - j) = false)
    ∧ (popcOf w).toNat = ((List.range 32).map (fun j => w.toNat / 2 ^ j % 2)).sum
    ∧ (∀ j, j < 32 → wbit (revOf w) j = wbit w (24 - 8 * (j / 8) + j % 8))
    ∧ (p = i % 32 → l = i / 256 % 64 → 1 ≤ l → p + l ≤ 32 → ∀ j, j < 32 →
      wbit (bfxOf w i) j = (decide (j < l) && wbit w (p + j)) ∧ wbit (bfxsOf w i) j = wbit w (p + min j (l - 1))
      ∧ wbit (bfiOf d w i) j = (if p ≤ j ∧ j < p + l then wbit w (j - p) else wbit d j)))

/-- Where memory, registers and check-bit flips are in their canonical form, the device has 6 cores of 16 banks with 16 G registers and 16 F registers each, 32 rail slots and 256 fuses, the same holds after any step that answers a next state. -/
def Obligations.StepKeepsTheShape : Prop :=
  ∀ s t : State, s.shaped = true → step s = .next t → t.shaped = true

/-- When an issue slot passes on a core, a G register of any bank takes the value of the last of the writes to it that are due in that slot, in issue order, and an F register likewise; a register with no write due keeps its value. A write due later lands later: it stays queued. -/
def Obligations.ResultsLandInTheirSlot : Prop :=
  ∀ (s : State) (p b r t : Nat), p < 6 → s.cores.length = 6 → b < 16 → r < 16 → t = (s.core p).slot + 1 →
    (s.core p).banks.length = 16 → (∀ k ∈ (s.core p).banks, k.g.length = 16) → (s.core p).f.length = 16 →
    (s.slots p 1).gReg p b r
      = (match ((s.core p).land.filter (fun l => l.due == t && l.dest == .g b r)).getLast? with
        | some l => l.val
        | none => s.gReg p b r)
    ∧ (s.slots p 1).fNow p r
      = (match ((s.core p).land.filter (fun l => l.due == t && l.dest == .f r)).getLast? with
        | some l => l.val
        | none => s.fNow p r)
    ∧ ((s.slots p 1).core p).land = (s.core p).land.filter (fun l => l.due ≠ t)

/-- Bcc is taken when its condition code holds on N, Z, C and V of STATUS, code by code, and code 15 raises the illegal-instruction exception; its target is the address of the next instruction plus the displacement. CALL branches relative in the same way, JMP and CALLR to Gs, RET to G14; CALL and CALLR give G14 the address after the second delay slot, found by predecode of the bytes the two slots would fetch, each in the slot in which it would issue (log entry 56); DBNZ counts Gd down and branches when the result is not 0. D is 0 for Bcc, JMP and CALLR, else the exception is raised. -/
def Obligations.BranchesAndTheirTargets : Prop :=
  (∀ (s u : State) (o : PyOp) (n z c v : Bool) (code : Nat), code = 0x80 + o.form → o.form < 3 → s.enters o code = true →
    u = s.entered o code → n = wbit (u.status o.p) 3 → z = wbit (u.status o.p) 2 → c = wbit (u.status o.p) 1 → v = wbit (u.status o.p) 0 →
    o.d = 0 ∧ o.s < 15
    ∧ exec (.bcc o) s = .next ((((u.setPc o.p (u.nextPc o.p (opLen o code))).modCore o.p (fun q => { q with br := some ⟨2,
      if nth [z, !z, c, !c, n, !n, v, !v, c && !z, !c || z, n == v, n != v, !z && n == v, z || n != v, true] o.s false then
        some (u.nextPc o.p (opLen o code) + wordOf o.disp) else none⟩ })).slots o.p 1).keep s))
  ∧ (∀ (s u : State) (o : PyOp) (i : Instr) (c : Nat), (i, c) ∈ [(.bcc o, 0x80 + o.form), (.jmp o, 0x85), (.callr o, 0x86)] →
    o.form < 3 → (c = 0x85 ∨ c = 0x86 → o.form = 0) → s.alive = true → o.wf = true → opFits o c = true → s.issuing o.p = true →
    (s.core o.p).pload = none → s.fetchWaits o.p (opLen o c) = false → (s.fetch o.p (opLen o c)).1 = 0 → u = (s.fetch o.p (opLen o c)).2.2 →
    (o.d ≠ 0 ∨ (o.s = 15 ∧ c ≤ 0x82)) → exec i s = .next ((u.takeException o.p 1 3 0 (u.pcNow o.p)).keep s))
  ∧ (∀ (s u : State) (o : PyOp) (i : Instr) (a b c : Nat) (bs : Bytes) (t : Word), o.form = 0 → s.enters o c = true → u = s.entered o c →
    a = (u.nextPc o.p (opLen o c)).toNat →
    bs = (List.range 15).map (fun j => u.codeByte o.p ((u.core o.p).slot + 1) (a + j)) → b = a + lengthOf bs →
    (i, c, t) ∈ [(.call o, 0x84, u.nextPc o.p (opLen o c) + wordOf o.disp), (.jmp o, 0x85, u.gNow o.p o.s),
      (.callr o, 0x86, u.gNow o.p o.s), (.ret o, 0x87, u.gNow o.p 14)] →
    ∃ x, exec i s = .next ((((x.setPc o.p (x.nextPc o.p (opLen o c))).modCore o.p (fun q => { q with br := some ⟨2, some t⟩ })).slots
        o.p 1).keep s)
      ∧ x = (if c = 0x84 ∨ c = 0x86 then u.resultG o.p 1 14 (BitVec.ofNat 32
          (b + lengthOf ((List.range 15).map (fun j => u.codeByte o.p ((u.core o.p).slot + 1 + slotsOf bs) (b + j))))) else u))
  ∧ (∀ (s u x : State) (o : PyOp) (c : Nat) (g : Word), c = 0x88 + o.form → o.form < 2 → s.enters o c = true → u = s.entered o c →
    g = u.gNow o.p o.d - 1 → x = u.resultG o.p 1 o.d g →
    exec (.dbnz o) s = .next ((((x.setPc o.p (x.nextPc o.p (opLen o c))).modCore o.p (fun q => { q with br := some ⟨2,
      if g = 0 then none else some (u.nextPc o.p (opLen o c) + wordOf o.disp)⟩ })).slots o.p 1).keep s))

/-- While DIP is 1, a write of PMU_CTL that the world rules let through only sets DEFER and becomes the held write, whatever was held before, by a register write or by the request rows. At DIP_EXIT, once the other deferred operations have gone on, the held write acts as a write outside Hold-on-dip does, and DEFER clears; without a held write nothing of the kind happens. Which supply the exit record names is left open here. -/
def Obligations.HeldModeRequests : Prop :=
  (∀ (s t : State) (w : Who) (v : Word), s.alive = true → w.wf = true → s.dip = true → s.may w PMU_CTL v = true →
    t = { s.set PMU_STAT.DEFER 1 with pmu := { s.pmu with heldCtl := some v } } →
    exec (.registerWrite w PMU_CTL v 15 .sound) s = .next (t.keep s)
    ∧ (v = 1 → exec (.holdRequest w) s = .next (t.keep s)) ∧ (v = 0 → exec (.holdExitRequest w) s = .next (t.keep s))
    ∧ (v = putBits (s.rd PMU_CTL) 8 8 1 → exec (.qexit w) s = .next (t.keep s))
    ∧ (v = putBits (s.rd PMU_CTL) 4 4 1 → exec (.emberReq w) s = .next (t.keep s)))
  ∧ (∀ s : State, s.alive = true → s.dip = true → ∃ (i : Nat) (x y : State),
    x = (((s.set PMU_STAT.DIP 0).set PMU_STAT.DIPSUP 0).mrPost 6 (dipPayload true i s.pmu.dipMin)).evPost 6 (payloadOf [1, i])
    ∧ y = ({ x with pmu := { x.pmu with low := List.replicate 6 false, dipMin := 0xFFFF } }.pmuFire 1).dipOps
    ∧ (∀ v, y.pmu.heldCtl = some v →
      exec .dipExit s = .next (({ y.set PMU_STAT.DEFER 0 with pmu := { y.pmu with heldCtl := none } }.ctlAct v).keep s))
    ∧ (y.pmu.heldCtl = none → exec .dipExit s = .next (y.keep s)))
  ∧ (∀ (s : State) (w : Who) (v : Word), s.alive = true → w.wf = true → s.dip = false → s.may w PMU_CTL v = true →
    exec (.registerWrite w PMU_CTL v 15 .sound) s = .next ((s.ctlAct v).keep s))

/-- In a memory in canonical form, writing bytes from an address up makes each of them read back, whatever each value is, and leaves every byte outside them as it was; a word reads back little-endian. -/
def Obligations.MemoryReadsBack : Prop :=
  (∀ (s : State) (k : Nat) (bs : Bytes), memWf s.mem = true →
    (∀ i, i < bs.length → (s.setBytes k bs).byte (k + i) = nth bs i 0)
    ∧ (∀ a, (a < k ∨ k + bs.length ≤ a) → (s.setBytes k bs).byte a = s.byte a))
  ∧ (∀ (s : State) (k : Nat) (v : Word), memWf s.mem = true → (s.setWord k v).word k = v)

/-- The oldest store of a core, a whole aligned word to its local RAM, retires into memory: its four bytes hold it and every other byte of memory reads as before. A narrow one enters the empty merge buffer and memory stays as it is; one to another target is handed to the interconnect and memory stays. A flush of the merge buffer over a word without errors changes the held bytes of that word and no other byte. -/
def Obligations.StoresRetireToTheirBytes : Prop :=
  (∀ (s : State) (p k : Nat) (e : StEntry) (es : List StEntry), s.alive = true → p < 6 → memWf s.mem = true → s.cores.length = 6 →
    (s.core p).sb = e :: es →
    (areaOf e.addr = .loc → e.bytes.length = 4 → e.addr % 4 = 0 → k = physOf p e.addr →
      ∃ t, exec (.storeBufferRetire p) s = .next t ∧ (∀ i, i < 4 → t.byte (k + i) = nth e.bytes i 0)
        ∧ (∀ a, (a < k ∨ k + 4 ≤ a) → t.byte a = s.byte a) ∧ (t.core p).sb = es)
    ∧ (areaOf e.addr = .loc → e.bytes.length < 4 → (s.core p).mb = none →
      ∃ t, exec (.storeBufferRetire p) s = .next t ∧ t.mem = s.mem ∧ (t.core p).sb = es ∧ (t.core p).mb.isSome = true)
    ∧ (areaOf e.addr ≠ .loc →
      ∃ t, exec (.storeBufferRetire p) s = .next t ∧ t.mem = s.mem ∧ (t.core p).sb = es ∧ (t.core p).posted = (s.core p).posted ++ [e]))
  ∧ (∀ (s : State) (p k : Nat) (bs : List (Option Byte)), memWf s.mem = true → p < 6 → s.cores.length = 6 →
    (s.core p).mb = some (k, bs) → s.flipsAt k = 0 →
    (∀ i, i < 4 → (s.flushMerge p).byte (k + i) = (match nth bs i none with | some b => b | none => s.byte (k + i)))
    ∧ (∀ a, (a < k ∨ k + 4 ≤ a) → (s.flushMerge p).byte a = s.byte a) ∧ ((s.flushMerge p).core p).mb = none)

/-- A Tenant host’s write of a Keeper register changes nothing but the violation flags and the interrupt of the host interface, and its read answers 0; a Tenant core’s write of a Keeper register raises the world-violation exception, and a user-level access of a Keeper-world core raises the privilege exception: the register keeps its value up to that exception. -/
def Obligations.WorldsAndLevels : Prop :=
  (∀ (s : State) (a : Nat) (v : Word) (r : RegSpec), s.alive = true → s.memOn = true → s.tenantWho .host = true → areaOf a = .periph → a % 4 = 0 →
    inBar0 a = true → inBar2 a = false → inCfg a = false → regAt a = some r → r.keeper = true →
    exec (.registerWrite .host a v 15 .sound) s = .next ((((s.secv a).set HIF_STAT.HSECV 1).icuRaise 40).keep s)
    ∧ exec (.readClear .host a) s = .next ((s.emit (.read .host a 0)).keep s))
  ∧ (∀ (s : State) (p a : Nat) (v : Word) (r : RegSpec), s.alive = true → p < 6 → s.issuing p = true → areaOf a = .periph → a % 4 = 0 →
    regAt a = some r →
    (s.tenantCore p = true → r.keeper = true → exec (.registerWrite (.core p) a v 15 .sound) s
      = .next (((s.secv a).takeException p 3 1 0 (((s.secv a).bankOf p ((s.secv a).core p).bank).pc)).keep s))
    ∧ (s.tenantCore p = true → r.keeper = true → s.userCore p = false →
      exec (.readClear (.core p) a) s = .next ((s.emit (.read (.core p) a 0)).keep s))
    ∧ (s.tenantCore p = false → s.userCore p = true → exec (.registerWrite (.core p) a v 15 .sound) s
      = .next ((s.takeException p 2 1 0 (s.bankOf p (s.core p).bank).pc).keep s))
    ∧ (s.userCore p = true → exec (.readClear (.core p) a) s
      = .next ((s.takeException p 2 0 0 (s.bankOf p (s.core p).bank).pc).keep s)))

/-- Whatever the state, after a cold reset every register reads its reset value, those of the OTP shadow what the fuses hold and 0 for a key word, the tick counter is 0, the cores are as after reset and held, no operation is in progress, the fuses are those an operation cut short leaves, and the queue is as it was. Of the model, not of the spec: that the JTAG port is at IDCODE with empty cells (log entry 86), and which bits the fuses of a cut operation keep, free values (log entry 78). -/
def Obligations.ColdResetState : Prop :=
  ∀ s : State, ∃ t, exec .coldReset s = .next t
    ∧ (∀ a, a ≠ OTP_LOCKS → a ≠ OTP_UID → a ≠ OTP_RBC → (∀ i, i < 256 → a ≠ OTP_WORD i) → t.rd a = resetVal a)
    ∧ (∀ i, i < 256 → (keyWord i = true → t.rd (OTP_WORD i) = 0)
      ∧ (keyWord i = false → t.nvc.fuseBad.contains i = false → t.rd (OTP_WORD i) = t.otpWord i))
    ∧ t.rd OTP_LOCKS = t.otpWord 0x31 ∧ t.jtag.ir = 1 ∧ t.jtag.cells = [] ∧ t.tbu.tbc = 0 ∧ t.cores = List.replicate 6 {}
    ∧ t.pmu.held = List.replicate 6 true ∧ t.pmu.rst = some 1 ∧ t.nvc.fop = none ∧ t.nvc.oop = none
    ∧ t.nvc.fuse = s.flashCut.otpCut.nvc.fuse ∧ t.pending = s.pending

/-- A calibration update where flock time is no multiple of 2,000, or under FREEZE, in Hold or in Hold-on-dip, changes nothing. At an update instant it steps every phase and then every domain. The gain of a phase, or of a domain, at its target stays; else it moves towards it by the smaller of the distance and max(floor(v / 10,000), 1). The offset of a phase moves by at most 1,024 and never passes its target. A phase that is OFF, and a domain of which no phase is ACTIVE or BLEND, takes its targets. A step of one phase or domain changes no other register. The estimation at the end of a tick asks for none of these states. -/
def Obligations.CalibrationStepsAreBounded : Prop :=
  (∀ s : State, s.alive = true →
    (s.flockTime % 2000 ≠ 0 ∨ s.on SNS_CTL.FREEZE = true ∨ s.mode = modeHold ∨ s.dip = true → exec .calUpdate s = .next s)
    ∧ (s.flockTime % 2000 = 0 → s.on SNS_CTL.FREEZE = false → s.mode ≠ modeHold → s.dip = false →
      ∃ (u : State) (tg : List Nat), tg = u.gainTargets.1
        ∧ u = { s with sns := { s.sns with domOf := (List.range 144).map (fun n => s.get (SNS_CS_CFG.DOM n)) } }
        ∧ exec .calUpdate s = .next (((u.gainTargets.2.each (List.range 144) (fun x n => x.calPhase n (nth tg n 0))).each
          (List.range 8) State.calDomain).keep s)))
  ∧ (∀ (s : State) (n t : Nat), spWf resetVal s.regs = true → n < 144 → t < 2 ^ 32 →
    (s.calPhase n t).get (SNS_CS_GEFF.GEFF n)
      = (if s.phState n = phOff then t else gainStep (s.get (SNS_CS_GEFF.GEFF n)) t)
    ∧ (s.calPhase n t).geti (SNS_CS_ZEFF.ZEFF n)
      = (if s.phState n = phOff then s.geti (SNS_CS_ZOFS.ZOFS n)
        else stepTo (s.geti (SNS_CS_ZEFF.ZEFF n)) (s.geti (SNS_CS_ZOFS.ZOFS n)) 1024)
    ∧ (∀ a, a ≠ SNS_CS_GEFF n → a ≠ SNS_CS_ZEFF n → (s.calPhase n t).rd a = s.rd a))
  ∧ (∀ (s : State) (d : Nat), spWf resetVal s.regs = true → d < 8 →
    ((∀ n, n < 144 → (s.phState n = phActive ∨ s.phState n = phBlend) → s.domain n ≠ d) →
      (s.calDomain d).get (SNS_DOM_GEFF.GEFF d) = s.get (SNS_DOM_GTGT.GTGT d))
    ∧ (∀ n, n < 144 → (s.phState n = phActive ∨ s.phState n = phBlend) → s.domain n = d →
      (s.calDomain d).get (SNS_DOM_GEFF.GEFF d) = gainStep (s.get (SNS_DOM_GEFF.GEFF d)) (s.get (SNS_DOM_GTGT.GTGT d)))
    ∧ (∀ a, a ≠ SNS_DOM_GEFF d → (s.calDomain d).rd a = s.rd a))
  ∧ (∀ v t : Nat, gainStep t t = t
    ∧ (v < t → gainStep v t = min t (v + max (v / 10000) 1)) ∧ (t < v → gainStep v t = max t (v - max (v / 10000) 1)))
  ∧ (∀ v t : Int, (v ≤ t → v ≤ stepTo v t 1024 ∧ stepTo v t 1024 ≤ t ∧ stepTo v t 1024 ≤ v + 1024)
    ∧ (t ≤ v → t ≤ stepTo v t 1024 ∧ stepTo v t 1024 ≤ v ∧ v - 1024 ≤ stepTo v t 1024))
  ∧ (∀ (s u : State) (t : TickIn),
    u = s.setCentres (fun r => s.refPin r - (if s.onT (SNS_VS_CFG.LLTRACK r) then s.llPin r else 0)) →
    s.tickEnd t = ((u.each (List.range 32) (fun x r => x.dwell r x.amps)).estimate t).pushHist)

/-- In REG, at one T0, R_out moves towards the target by round(S × 21,474.83648), four times that in Graze, with S the UP slew when rising and the DN slew when falling, or reaches the target if it is nearer; at the target it stays. -/
def Obligations.ReferenceNeverPassesItsTarget : Prop :=
  ∀ (s : State) (r cur tgt d : Nat), r < 32 → s.rlc.rails.length = 32 → s.railState r = railReg → cur = (s.rl r).rout → tgt = s.target r →
    d = ((if cur < tgt then s.getT (RLC_RAIL_SLEW.UP r) else s.getT (RLC_RAIL_SLEW.DN r)) * 2147483648 + 50000) / 100000
      * (if s.graze then 4 else 1) →
    ((s.advanceRef r).rl r).rout = (if cur < tgt then min tgt (cur + d) else max tgt (cur - d))

/-- IDCODE, SAMPLE/PRELOAD, EXTEST, HIGHZ, CLAMP, BYPASS and a private instruction that runs change only the instruction register and boundary cells of the port and, where SENg changes level with them, the delay of that group; the boundary cells change only where SAMPLE/PRELOAD or EXTEST scans data into them, which draws free values for what it captures, and those scans and IDCODE alone shift bits out: every register, memory byte, core, queue and counter stays. -/
def Obligations.JtagTouchesOnlyThePort : Prop :=
  ∀ (s t : State) (i : Instr) (cells : Bytes) (code : Nat),
    i ∈ [.idcode, .samplePreload cells, .extest cells, .highz, .clamp, .bypass, .waimondInstruction code] → exec i s = .next t →
    t = { s with jtag := t.jtag, out := t.out, free := t.free, pha := { s.pha with senDelay := t.pha.senDelay } }
    ∧ t.jtag.testen = s.jtag.testen
    ∧ (i ≠ .idcode → i ≠ .samplePreload cells → (i = .extest cells → cells = []) → t.out = s.out ∧ t.free = s.free)
    ∧ (i ≠ .samplePreload cells → (i = .extest cells → cells = [] ∨ t.jtag.ir ≠ 3) → t.jtag.cells = s.jtag.cells)
    ∧ ((i = .extest cells → cells = [] ∨ t.jtag.ir ≠ 3) → (∀ g, g < 9 → s.senHigh g = t.senHigh g) → t.pha = s.pha)

/-- For every ALU instruction without WIN and REP that executes outside delay slots with no result in flight and no machine check waiting: the next state has the memory, the registers and the other cores of the state it entered; on its own core every G register but Gd of the executing bank is unchanged, Gd holds the result (all G registers for CMP and TST), STATUS differs at most in the flags, and the program counter is past the instruction. -/
def Obligations.RegisterInstructionsTouchOnlyTheirDestination : Prop :=
  ∀ (s u : State) (o : PyOp) (i : Instr) (b c : Nat) (a : Alu) (x : Word × Word),
    (i, b) ∈ [(.addOp o, 0x00), (.subOp o, 0x04), (.andOp o, 0x08), (.orOp o, 0x0C), (.xorOp o, 0x10), (.shl o, 0x14),
      (.shr o, 0x18), (.sar o, 0x1C), (.ror o, 0x20), (.cmp o, 0x24), (.tst o, 0x28), (.mov o, 0x2C), (.adc o, 0x30),
      (.sbc o, 0x34), (.minOp o, 0x38), (.maxOp o, 0x3C)] →
    c = b + o.form → s.enters o c = true → u = s.entered o c → o.pfx.win = false → o.pfx.rep = false →
    (u.core o.p).land = [] → (u.core o.p).br = none → (u.core o.p).boundary = [] →
    u.cores.length = 6 → (u.core o.p).banks.length = 16 → (u.core o.p).bank < 16 → (∀ k ∈ (u.core o.p).banks, k.g.length = 16) →
    x = (if o.form = 0 then (u.gNow o.p o.d, u.gNow o.p o.s)
      else (if b = 0x24 ∨ b = 0x28 ∨ b = 0x2C then u.gNow o.p o.d else u.gNow o.p o.s, wordOf o.imm)) →
    a = aluOp (b / 4) o.pfx.sat x.1 x.2 (wbit (u.status o.p) 1) →
    ∃ t, exec i s = .next t ∧ t.mem = u.mem ∧ t.flips = u.flips ∧ t.regs = u.regs ∧ (∀ q, q ≠ o.p → t.core q = u.core q)
      ∧ (∀ k r, (k ≠ (u.core o.p).bank ∨ r ≠ o.d) → t.gReg o.p k r = u.gReg o.p k r)
      ∧ t.gNow o.p o.d = (if b = 0x24 ∨ b = 0x28 then u.gNow o.p o.d else a.res)
      ∧ t.status o.p = ((u.status o.p &&& ~~~a.mask) ||| (a.flags &&& a.mask))
      ∧ t.pcNow o.p = u.pcNow o.p + BitVec.ofNat 32 (opLen o c)
      ∧ (t.core o.p).sb = (u.core o.p).sb ∧ (t.core o.p).f = (u.core o.p).f ∧ (t.core o.p).fpsr = (u.core o.p).fpsr
      ∧ (t.core o.p).bank = (u.core o.p).bank

/-- WATCHDOG_KICK with a key other than 0x5744 and CORE_RESET with a key other than 0x7144 leave the state unchanged; KINDLE_RESET with a key other than 0x4B49 is only the plain write of NVC_KCTL; a watchdog that is not enabled neither warns nor expires, and one that runs ignores writes of its control register. -/
def Obligations.WrongKeysDoNothing : Prop :=
  ∀ s : State, s.alive = true →
    (∀ (w : Who) (key : Nat), w.wf = true → key < 65536 → key ≠ 0x5744 → s.may w PMU_WDT_KICK (BitVec.ofNat 32 key) = true →
      exec (.watchdogKick w key) s = .next s)
    ∧ (∀ (w : Who) (p key : Nat), w.wf = true → p < 6 → key < 65536 → key ≠ 0x7144 → s.may w (DRV_RST p) (BitVec.ofNat 32 key) = true →
      exec (.coreReset w p key) s = .next s)
    ∧ (∀ (w : Who) (key : Nat) (v : Word), w.wf = true → key < 65536 → v = putBits (s.rd NVC_KCTL) 31 16 key → getBits v 31 16 ≠ 0x4B49 →
      s.may w NVC_KCTL v = true → exec (.kindleReset w key) s = .next ((s.plainWrite NVC_KCTL v).keep s))
    ∧ (s.on PMU_WDT_CTL.EN = false → exec .watchdogExpiry s = .next s ∧ exec .watchdogWarn s = .next s)
    ∧ (∀ w : Who, w.wf = true → s.on PMU_WDT_CTL.EN = true → s.may w PMU_WDT_CTL (putBits (s.rd PMU_WDT_CTL) 31 31 1) = true →
      exec (.watchdogEnable w) s = .next s)

/-- An operation takes effect at its end (log entry 80), with its RESULT and the interrupt. PROG of a locked word gives RESULT 1; of a word of the rollback count, of a word that already holds a value, or of the lock word with a reserved bit, RESULT 2; each leaves every fuse as before. Else the word gains the bits of OTP_DATA and no other word changes, with RESULT 0; where it reads back wrong it gains some of them, a free value, with RESULT 3. The lock word gains its bits whatever it holds. ADVANCE past 128 or past the RBI of the image gives RESULT 4 with every fuse as before; else it sets the next bit of the count with RESULT 0. That a PROG which reads back wrong leaves a free value is the choice of log entry 78. -/
def Obligations.FusesOnlySet : Prop :=
  ∀ (s u : State) (n : Nat) (d : Word) (done : Bool → Nat → State → Prop), s.alive = true → n < 256 → s.nvc.fuse.length = 256 →
    u = { s.set OTP_STAT.BUSY 0 with nvc := { s.nvc with oop := none } } →
    (∀ ok r x, done ok r x ↔ exec (.otpOpDone ok) s = .next (((x.set OTP_STAT.RESULT r).icuRaise 68).keep s)) →
    (s.nvc.oop = some (1, n, d) →
      (∀ ok, u.otpLocked n = true → done ok 1 u)
      ∧ (∀ ok, u.otpLocked n = false → ((0x2C ≤ n ∧ n ≤ 0x2F) ∨ (n = 0x31 ∧ d &&& 0xFFFFFF80 ≠ 0) ∨ (n ≠ 0x31 ∧ u.otpWord n ≠ 0)) → done ok 2 u)
      ∧ (u.otpLocked n = false → (n < 0x2C ∨ 0x2F < n) → (n = 0x31 ∧ d &&& 0xFFFFFF80 = 0 ∨ n ≠ 0x31 ∧ u.otpWord n = 0) →
        (∃ x : State, done true 0 x ∧ x.otpWord n = u.otpWord n ||| d ∧ (∀ j, j ≠ n → x.otpWord j = s.otpWord j) ∧ x.regs = u.regs)
        ∧ (∃ x : State, done false 3 x ∧ x.otpWord n = u.otpWord n ||| (d &&& u.freeVal) ∧ (∀ j, j ≠ n → x.otpWord j = s.otpWord j))))
    ∧ (s.nvc.oop = some (2, n, d) →
      (∀ ok, (128 ≤ u.rollback ∨ u.get NVC_KSTAT.RBI < u.rollback + 1) → done ok 4 u)
      ∧ (∀ ok k, k = 0x2C + u.rollback / 32 → u.rollback < 128 → u.rollback + 1 ≤ u.get NVC_KSTAT.RBI →
        ∃ x : State, done ok 0 x ∧ x.otpWord k = putBits (u.otpWord k) (u.rollback % 32) (u.rollback % 32) 1
          ∧ (∀ j, j ≠ k → x.otpWord j = s.otpWord j)))

/-- Of a 24-bit microword: OP 0 and 9 to 15, MEM with W = 3 or bits [2:0] not 0, BR with COND 10 to 15, WAIT with WC 6 to 15, with bits [14:10] not 0, with INT for a condition other than FABRIC or FABRIC without it, SEQ with SOP 4 to 7, SYS with SFN 9 to 15 and LONG with bit 0 set are ILL. ALU, LIT, BR and SEQ CALL words with the fields given decode to those fields. A selector names a G register of the operand bank, a temporary, the G register of the D, S, T or N field, or PC, STATUS and PROG of that bank. LIT and ALU write their destination, read back; BR goes to TARGET when its condition, inverted under NEG, holds; CALL pushes the address of the next word, the fifth is not executed; RET pops it, and is not executed on an empty stack (log entry 69); END ends the program; OBANK names the operand bank; ILL is not executed. A microword waits for the registers its selectors name and for the other registers and units it uses. A dispatch word with one of bits [23:15] set is not executed. That a reserved format, field or bit is ILL (MEM W, MEM [2:0], WAIT [14:10] and INT, SOP 4 to 7, LONG [0]) is log entry 69 as well. -/
def Obligations.MicrowordsDoWhatTheirFormatSays : Prop :=
  (∀ v : Nat, v < 2 ^ 24 →
    (v / 2 ^ 20 = 0 ∨ 9 ≤ v / 2 ^ 20 → microOf v = .ill)
    ∧ (v / 2 ^ 20 = 3 → (v / 2 ^ 16 % 4 = 3 ∨ v % 8 ≠ 0) → microOf v = .ill)
    ∧ (v / 2 ^ 20 = 4 → 10 ≤ v / 2 ^ 16 % 16 → microOf v = .ill)
    ∧ (v / 2 ^ 20 = 5 → (6 ≤ v / 2 ^ 16 % 16 ∨ v / 2 ^ 10 % 32 ≠ 0 ∨ (v / 2 ^ 16 % 16 = 3 ∧ v / 2 ^ 15 % 2 = 0)
      ∨ (v / 2 ^ 16 % 16 ≠ 3 ∧ v / 2 ^ 15 % 2 = 1)) → microOf v = .ill)
    ∧ (v / 2 ^ 20 = 6 → 4 ≤ v / 2 ^ 17 % 8 → microOf v = .ill)
    ∧ (v / 2 ^ 20 = 7 → 9 ≤ v / 2 ^ 16 % 16 → microOf v = .ill)
    ∧ (v / 2 ^ 20 = 8 → v % 2 = 1 → microOf v = .ill))
  ∧ (∀ fn dst sa sb fl : Nat, fn < 16 → dst < 32 → sa < 32 → sb < 32 → fl < 2 →
    microOf (2 ^ 20 + fn * 2 ^ 16 + dst * 2 ^ 11 + sa * 2 ^ 6 + sb * 2 + fl) = .alu fn dst sa sb (fl == 1))
  ∧ (∀ dst n : Nat, dst < 32 → n < 2 ^ 15 → microOf (2 * 2 ^ 20 + dst * 2 ^ 15 + n) = .lit dst n)
  ∧ (∀ k n : Nat, n < 2 ^ 15 → (k < 20 → microOf (4 * 2 ^ 20 + k * 2 ^ 15 + n) = .br (k / 2) (k % 2 == 1) n)
    ∧ microOf (6 * 2 ^ 20 + 2 ^ 17 + n) = .call n)
  ∧ (∀ m : Mseq, ∀ r, (r < 16 → m.read r = m.s.gReg m.o.p m.bank r) ∧ (r < 8 → m.read (16 + r) = nth m.t r 0)
    ∧ m.read 24 = m.s.gReg m.o.p m.bank m.o.d ∧ m.read 25 = m.s.gReg m.o.p m.bank m.o.s
    ∧ m.read 26 = m.s.gReg m.o.p m.bank m.o.t ∧ m.read 27 = m.s.gReg m.o.p m.bank m.o.n
    ∧ m.read 29 = (m.s.bankOf m.o.p m.bank).pc ∧ m.read 30 = (m.s.bankOf m.o.p m.bank).status
    ∧ m.read 31 = (m.s.bankOf m.o.p m.bank).prog)
  ∧ (∀ (m : Mseq) (a : Nat) (w : Micro), m.exec a w
      = ((m.settled (m.sels w)).map (fun s => s.finishLongs m.o.p (fun l => m.holds l w))).act a w
    ∧ ((m.s.core m.o.p).long = [] → m.exec a w = m.act a w))
  ∧ (∀ (m n : Mseq) (a dst v : Nat), m.act a (.lit dst v) = .go n →
    (16 ≤ dst → dst < 24 → m.t.length = 8 → n.read dst = BitVec.ofNat 32 v ∧ n.s = m.s)
    ∧ (dst < 16 → m.o.p < 6 → m.s.cores.length = 6 → (m.s.core m.o.p).banks.length = 16 → m.bank < 16 →
      (m.s.bankOf m.o.p m.bank).g.length = 16 → n.read dst = BitVec.ofNat 32 v ∧ n.t = m.t))
  ∧ (∀ (m n : Mseq) (a fn dst sa sb : Nat), fn < 16 → fn ≠ 9 → fn ≠ 10 → 16 ≤ dst → dst < 24 → m.t.length = 8 →
    m.act a (.alu fn dst sa sb false) = .go n →
    n.read dst = (aluOp fn false (m.read sa) (m.read sb) (wbit (m.s.status m.o.p) 1)).res ∧ n.s = m.s)
  ∧ (∀ (m : Mseq) (a c target : Nat) (neg : Bool),
    m.act a (.br c neg target) = .go (if m.cond c = neg then m else { m with at_ := target }))
  ∧ (∀ m : Mseq, m.cond 0 = true ∧ m.cond 1 = wbit (m.s.status m.o.p) 2 ∧ m.cond 2 = wbit (m.s.status m.o.p) 3
    ∧ m.cond 3 = wbit (m.s.status m.o.p) 1 ∧ m.cond 4 = wbit (m.s.status m.o.p) 0 ∧ m.cond 8 = wbit (m.s.status m.o.p) 15
    ∧ m.cond 7 = (m.s.core m.o.p).br.isSome ∧ m.cond 9 = (m.s.bankOf m.o.p (m.s.core m.o.p).bank).link.valid)
  ∧ (∀ (m : Mseq) (a target : Nat), (m.stk.length < 4 →
      m.act a (.call target) = .go { m with stk := m.at_ :: m.stk, at_ := target })
    ∧ (4 ≤ m.stk.length → m.act a (.call target) = .stop (.fault a true m.s))
    ∧ (m.stk = [] → m.act a .ret = .stop (.fault a true m.s))
    ∧ (∀ r rs, m.stk = r :: rs → m.act a .ret = .go { m with at_ := r, stk := rs })
    ∧ m.act a .done = .stop (.ended m) ∧ m.act a .ill = .stop (.fault a true m.s)
    ∧ (∀ reg, m.act a (.sys 6 reg 0) = .go { m with ob := some ((m.read reg).toNat % 16) }))
  ∧ (∀ v : Nat, (v < 2 ^ 15 → dispatchOf v = some v) ∧ (2 ^ 15 ≤ v → dispatchOf v = none))

/-- NOP under microcode that Waimond signed and whose words do not fail only passes. Under other microcode that ends it takes the slots of its program and leaves what that has written. Where a word of the active half is not executed (ILL or failing parity): the fault is recorded with its address and source in UC_PAR, PARCNT counts up to its largest value, the ICU source UC_PAR_p becomes pending, a SWITCH that waits is cancelled with RESULT 6, the store becomes the other half where SAME is 1 and the ROM otherwise, the instruction restarts there with the manual’s meaning, and machine check 12 waits for the boundary; in the ROM’s range or in patch memory the core locks up with cause 5. The entry of an exception, a service sequence, does the same with its own words, and the reserved entries of the ROM are ILL. What counts as signed is opaque, and the words of a sequence that count are those its control flow fetches (log entry 69). -/
def Obligations.MicrocodeDecidesTheInstruction : Prop :=
  (∀ (s u : State) (o : PyOp), o.form = 0 → s.reaches o 0x99 = true → u = s.entered o 0x99 →
    (u.ucSigned o.p = true → u.ucClean o 0x99 0x99 = true → exec (.nopOp o) s = .next ((u.advance o.p (opLen o 0x99) 1).keep s))
    ∧ (∀ m, u.get (UC_STAT.ACT o.p) ≠ 0 → u.microRun o 0x99 0x99 = .ended m → m.refetched = false → m.jumped = false →
      (m.s.core o.p).bank = (u.core o.p).bank →
      exec (.nopOp o) s = .next (((if u.ucSigned o.p then u.advance o.p (opLen o 0x99) 1
        else m.s.advance o.p (opLen o 0x99) (max 1 m.acc)).keep s)))
    ∧ (∀ (a : Nat) (ill : Bool) (t x : State), u.microRun o 0x99 0x99 = .fault a ill t → u.ucClean o 0x99 0x99 = false →
      x = (if u.ucSigned o.p then u else t).ucFault o.p a ill →
      (x.on (DRV_STAT.LOCKED o.p) = true → exec (.nopOp o) s = .next (x.keep s))
      ∧ (x.on (DRV_STAT.LOCKED o.p) = false → x.asManual o 0x99 = true →
        exec (.nopOp o) s = .next ((x.advance o.p (opLen o 0x99) 1).keep s))))
  ∧ (∀ (s : State) (p a : Nat) (ill : Bool) (t : State), p < 6 → spWf resetVal s.regs = true → s.cores.length = 6 → a < 2 ^ 15 →
    t = s.ucFault p a ill → s.uc.sw.length = 6 →
    (s.get (UC_STAT.ACT p) ≠ 0 → (a < 0x4000 ∨ 0x5880 ≤ a) →
      t.get (UC_PAR.ADDR p) = a ∧ t.on (UC_PAR.ILL p) = ill ∧ t.get (UC_PAR.SRC p) = (s.ucSource p a).1
      ∧ t.bit (ICU_PEND 0) (14 + p) = true
      ∧ t.get (UC_STAT.PARCNT p) = min 65535 (s.get (UC_STAT.PARCNT p) + 1)
      ∧ (s.on (UC_STAT.SWPEND p) = true → t.on (UC_STAT.SWPEND p) = false ∧ t.get (UC_STAT.RESULT p) = 6 ∧ nth t.uc.sw p none = none)
      ∧ t.get (UC_STAT.ACT p) = (if s.on (UC_STAT.SAME p) then 3 - s.get (UC_STAT.ACT p) else 0)
      ∧ (t.core p).boundary = (s.core p).boundary ++ [12])
    ∧ ((s.get (UC_STAT.ACT p) = 0 ∨ (0x4000 ≤ a ∧ a < 0x5880)) → ∃ x : State, t = x.lockUp p 5
      ∧ x.get (UC_PAR.ADDR p) = a ∧ x.on (UC_PAR.ILL p) = ill ∧ x.get (UC_PAR.SRC p) = (s.ucSource p a).1
      ∧ x.bit (ICU_PEND 0) (14 + p) = true
      ∧ x.get (UC_STAT.PARCNT p) = min 65535 (s.get (UC_STAT.PARCNT p) + 1)
      ∧ (s.on (UC_STAT.SWPEND p) = true → x.on (UC_STAT.SWPEND p) = false ∧ x.get (UC_STAT.RESULT p) = 6)))
  ∧ (∀ (s : State) (p a : Nat), s.get (UC_STAT.ACT p) = 0 → (a < 0x4000 ∨ (0x5880 ≤ a ∧ a < 0x8000)) → s.ucFetch p a = .ill)
  ∧ (∀ (s : State) (p a : Nat), 0x4208 ≤ a → a < 0x4240 → s.ucMatch p a = none → s.ucIll p a = true)
  ∧ (∀ (s u : State) (p code info : Nat) (addr rpc : Word),
    (s.seqFault p 0x202 = none → s.takeException p code info addr rpc = s.exceptNow p code info addr rpc)
    ∧ (∀ a ill, s.seqFault p 0x202 = some (a, ill) → u = s.ucFault p a ill →
      (u.on (DRV_STAT.LOCKED p) = true → s.takeException p code info addr rpc = u)
      ∧ (u.on (DRV_STAT.LOCKED p) = false → u.seqFault p 0x202 = none →
        s.takeException p code info addr rpc = u.exceptNow p code info addr rpc)))
end

