-- ==== Sys2Proof/Laws/Bits.lean ====
section
/-! SUPPORT. Bit fields: what a field reads after a field is replaced, and bytes put together and taken apart. -/

namespace Sys2Proof.Machine

theorem getBits_testBit (w : Word) (hi lo i : Nat) :
    (getBits w hi lo).testBit i = (decide (i < hi + 1 - lo) && w.toNat.testBit (i + lo)) := by
  simp [getBits, Nat.testBit_mod_two_pow, Nat.testBit_div_two_pow]

theorem getBits_lt (w : Word) (hi lo : Nat) : getBits w hi lo < 2 ^ (hi + 1 - lo) := Nat.mod_lt _ (Nat.two_pow_pos _)

/-- The number behind `putBits`, cut at the field's ends. -/
theorem putBits_split (w : Word) (hi lo v : Nat) :
    w.toNat - getBits w hi lo * 2 ^ lo + v % 2 ^ (hi + 1 - lo) * 2 ^ lo
      = 2 ^ lo * (2 ^ (hi + 1 - lo) * (w.toNat / 2 ^ lo / 2 ^ (hi + 1 - lo)) + v % 2 ^ (hi + 1 - lo)) + w.toNat % 2 ^ lo := by
  have h1 := Nat.div_add_mod w.toNat (2 ^ lo)
  have h2 := Nat.div_add_mod (w.toNat / 2 ^ lo) (2 ^ (hi + 1 - lo))
  unfold getBits
  generalize w.toNat / 2 ^ lo / 2 ^ (hi + 1 - lo) = q at *
  generalize w.toNat / 2 ^ lo % 2 ^ (hi + 1 - lo) = g at *
  generalize w.toNat / 2 ^ lo = u at *
  generalize v % 2 ^ (hi + 1 - lo) = r
  generalize 2 ^ (hi + 1 - lo) = n at *
  generalize 2 ^ lo = l at *
  generalize w.toNat % l = c at *
  have h3 : w.toNat = l * (n * q) + g * l + c := by rw [← h1, ← h2]; ring
  rw [h3]
  have h4 : l * (n * q) + g * l + c - g * l = l * (n * q) + c := by omega
  rw [h4]
  ring

theorem putBits_bound (w : Word) {hi lo : Nat} (v : Nat) (h : hi < 32) (hl : lo ≤ hi) :
    w.toNat - getBits w hi lo * 2 ^ lo + v % 2 ^ (hi + 1 - lo) * 2 ^ lo < 2 ^ 32 := by
  rw [putBits_split]
  have hw := w.isLt
  have e : (2 : Nat) ^ 32 = 2 ^ lo * (2 ^ (hi + 1 - lo) * 2 ^ (31 - hi)) := by
    rw [← pow_add, ← pow_add]; congr 1; omega
  have hq : w.toNat / 2 ^ lo / 2 ^ (hi + 1 - lo) < 2 ^ (31 - hi) := by
    rw [Nat.div_lt_iff_lt_mul (Nat.two_pow_pos _), Nat.div_lt_iff_lt_mul (Nat.two_pow_pos _)]
    calc w.toNat < 2 ^ 32 := hw
      _ = _ := by rw [e]; ring
  have hr : v % 2 ^ (hi + 1 - lo) < 2 ^ (hi + 1 - lo) := Nat.mod_lt _ (Nat.two_pow_pos _)
  have hc : w.toNat % 2 ^ lo < 2 ^ lo := Nat.mod_lt _ (Nat.two_pow_pos _)
  rw [e]
  generalize w.toNat / 2 ^ lo / 2 ^ (hi + 1 - lo) = q at *
  generalize v % 2 ^ (hi + 1 - lo) = r at *
  generalize w.toNat % 2 ^ lo = c at *
  generalize 2 ^ (hi + 1 - lo) = n at *
  generalize 2 ^ lo = l at *
  have h1 : n * q + r + 1 ≤ n * 2 ^ (31 - hi) := by
    calc n * q + r + 1 ≤ n * q + n := by omega
      _ = n * (q + 1) := by ring
      _ ≤ _ := Nat.mul_le_mul_left _ hq
  calc l * (n * q + r) + c < l * (n * q + r) + l := by omega
    _ = l * (n * q + r + 1) := by ring
    _ ≤ _ := Nat.mul_le_mul_left _ h1

/-- The bits of a word with a field replaced: the value's inside the field, the word's outside. -/
theorem putBits_testBit (w : Word) {hi lo : Nat} (v i : Nat) (h : hi < 32) (hl : lo ≤ hi) :
    (putBits w hi lo v).toNat.testBit i
      = if lo ≤ i ∧ i ≤ hi then v.testBit (i - lo) else w.toNat.testBit i := by
  unfold putBits
  rw [BitVec.toNat_ofNat, Nat.mod_eq_of_lt (putBits_bound w v h hl), putBits_split,
    Nat.testBit_two_pow_mul_add _ (Nat.mod_lt _ (Nat.two_pow_pos _))]
  by_cases h1 : i < lo
  · rw [if_pos h1, if_neg (by omega), Nat.testBit_mod_two_pow]; simp [h1]
  · rw [if_neg h1, Nat.testBit_two_pow_mul_add _ (Nat.mod_lt _ (Nat.two_pow_pos _))]
    by_cases h2 : i ≤ hi
    · rw [if_pos (by omega), if_pos (by omega), Nat.testBit_mod_two_pow]
      simp; intro h3; omega
    · rw [if_neg (by omega), if_neg (by omega), Nat.testBit_div_two_pow, Nat.testBit_div_two_pow]
      congr 1; omega

/-- A field reads what was put into it. -/
theorem getBits_putBits_same (w : Word) {hi lo : Nat} (v : Nat) (h : hi < 32) (hl : lo ≤ hi) :
    getBits (putBits w hi lo v) hi lo = v % 2 ^ (hi + 1 - lo) := by
  refine Nat.eq_of_testBit_eq (fun i => ?_)
  rw [getBits_testBit, putBits_testBit w v _ h hl, Nat.testBit_mod_two_pow]
  by_cases h1 : i < hi + 1 - lo
  · rw [if_pos (by omega)]; simp
  · simp [h1]

/-- A field apart from the one replaced reads as before. -/
theorem getBits_putBits_apart (w : Word) {hi lo hi' lo' : Nat} (v : Nat) (h : hi < 32) (hl : lo ≤ hi)
    (ha : hi' < lo ∨ hi < lo') : getBits (putBits w hi lo v) hi' lo' = getBits w hi' lo' := by
  refine Nat.eq_of_testBit_eq (fun i => ?_)
  rw [getBits_testBit, getBits_testBit, putBits_testBit w v _ h hl]
  by_cases h1 : i < hi' + 1 - lo'
  · rw [if_neg (by omega)]
  · simp [h1]

theorem getBits_whole (w : Word) : getBits w 31 0 = w.toNat := by
  simp [getBits, Nat.mod_eq_of_lt w.isLt]

theorem putBits_whole (w v : Word) : putBits w 31 0 v.toNat = v := by
  simp [putBits, getBits_whole, Nat.mod_eq_of_lt v.isLt]

theorem leBytes_length (n v : Nat) : (leBytes n v).length = n := by
  induction n generalizing v with
  | zero => rfl
  | succ n ih => simp [leBytes, ih]

/-- Bytes taken from a number spell it again. -/
theorem ofLe_leBytes (n v : Nat) : ofLe (leBytes n v) = v % 256 ^ n := by
  induction n generalizing v with
  | zero => simp [leBytes, ofLe, Nat.mod_one]
  | succ n ih =>
    have h := @Nat.mod_mul 256 (256 ^ n) v
    rw [leBytes, ofLe, ih, BitVec.toNat_ofNat, pow_succ' 256 n, h]

theorem ofLe_lt (bs : List Byte) : ofLe bs < 256 ^ bs.length := by
  induction bs with
  | nil => simp [ofLe]
  | cons b bs ih =>
    have hb := b.isLt
    simp only [ofLe, List.length_cons, pow_succ']
    omega

theorem wordOfLe_leBytes (v : Word) : wordOfLe (leBytes 4 v.toNat) = v := by
  have h := v.isLt
  apply BitVec.eq_of_toNat_eq
  rw [wordOfLe, ofLe_leBytes, BitVec.toNat_ofNat, Nat.mod_eq_of_lt (by omega : v.toNat < 256 ^ 4), Nat.mod_eq_of_lt h]

/-- A number within range has its own two's-complement reading back. -/
theorem sext_wrapN {n : Nat} {x : Int} (hn : 0 < n) (h1 : -(2 : Int) ^ (n - 1) ≤ x) (h2 : x < (2 : Int) ^ (n - 1)) :
    sext n (wrapN n x) = x := by
  obtain ⟨m, rfl⟩ : ∃ m, n = m + 1 := ⟨n - 1, by omega⟩
  simp only [Nat.add_sub_cancel] at h1 h2
  have e : ((2 ^ (m + 1) : Nat) : Int) = 2 * 2 ^ m := by push_cast; ring
  have e2 : ((2 ^ m : Nat) : Int) = 2 ^ m := by push_cast; rfl
  have hp : (0 : Int) < 2 ^ m := by positivity
  have hle : (wrapN (m + 1) x : Int) = x % (2 * 2 ^ m) := by
    rw [wrapN, e, Int.toNat_of_nonneg (Int.emod_nonneg _ (by omega))]
  have hlt : wrapN (m + 1) x < 2 ^ (m + 1) := by
    have := Int.emod_lt_of_pos x (show (0 : Int) < 2 * 2 ^ m by omega)
    have : (wrapN (m + 1) x : Int) < ((2 ^ (m + 1) : Nat) : Int) := by rw [hle, e]; exact this
    exact_mod_cast this
  unfold sext
  rw [Nat.mod_eq_of_lt hlt, hle, e]
  simp only [Nat.add_sub_cancel]
  have hc : (wrapN (m + 1) x < 2 ^ m) ↔ x % (2 * 2 ^ m) < 2 ^ m := by
    rw [← hle, ← e2]; norm_cast
  simp only [hc]
  by_cases hx : 0 ≤ x
  · have h3 : x % (2 * 2 ^ m) = x := Int.emod_eq_of_lt hx (by omega)
    rw [h3, if_pos h2]
  · have h3 : x % (2 * 2 ^ m) = x + 2 * 2 ^ m := by
      rw [← Int.add_emod_right, Int.emod_eq_of_lt (by omega) (by omega)]
    rw [h3, if_neg (by omega)]
    omega

end Sys2Proof.Machine
end

