-- ==== Sys2Proof/Laws/Dispatch.lean ====
section
/-! SUPPORT. Which meaning each command has: one rewrite rule for each constructor, so that no proof opens the dispatch. -/

namespace Sys2Proof.Machine

@[simp] theorem exec_tick (t : TickIn) (s : State) : exec (.tick t) s = execTick t s := rfl
@[simp] theorem exec_swapWindow (s : State) : exec .swapWindow s = execSwapWindow s := rfl
@[simp] theorem exec_modeSwitch (s : State) : exec .modeSwitch s = execModeSwitch s := rfl
@[simp] theorem exec_baseGridInstant (s : State) : exec .baseGridInstant s = execBaseGridInstant s := rfl
@[simp] theorem exec_carrierPeriodStart (n : Nat) (s : State) : exec (.carrierPeriodStart n) s = execCarrierPeriodStart n s := rfl
@[simp] theorem exec_pllLock (k : Nat) (s : State) : exec (.pllLock k) s = execPllLock k s := rfl
@[simp] theorem exec_dlcalDone (s : State) : exec .dlcalDone s = execDlcalDone s := rfl
@[simp] theorem exec_xinLoss (s : State) : exec .xinLoss s = execXinLoss s := rfl
@[simp] theorem exec_xinReturn (s : State) : exec .xinReturn s = execXinReturn s := rfl
@[simp] theorem exec_holdoverLimit (s : State) : exec .holdoverLimit s = execHoldoverLimit s := rfl
@[simp] theorem exec_enginePllFault (s : State) : exec .enginePllFault s = execEnginePllFault s := rfl
@[simp] theorem exec_tbuCompare (n : Nat) (s : State) : exec (.tbuCompare n) s = execTbuCompare n s := rfl
@[simp] theorem exec_tbcRead (w : Who) (sub : Nat) (s : State) : exec (.tbcRead w sub) s = execTbcRead w sub s := rfl
@[simp] theorem exec_bgcRead (w : Who) (s : State) : exec (.bgcRead w) s = execBgcRead w s := rfl
@[simp] theorem exec_portSymbolsDetected (p : Nat) (s : State) : exec (.portSymbolsDetected p) s = execPortSymbolsDetected p s := rfl
@[simp] theorem exec_portTrained (p : Nat) (s : State) : exec (.portTrained p) s = execPortTrained p s := rfl
@[simp] theorem exec_portMeasured (p : Nat) (trips : Nat) (turn : Nat) (s : State) : exec (.portMeasured p trips turn) s = execPortMeasured p trips turn s := rfl
@[simp] theorem exec_portDown (p : Nat) (miss : Nat) (viol : Option Nat) (s : State) : exec (.portDown p miss viol) s = execPortDown p miss viol s := rfl
@[simp] theorem exec_tickMarkerRx (p : Nat) (lag : Nat) (s : State) : exec (.tickMarkerRx p lag) s = execTickMarkerRx p lag s := rfl
@[simp] theorem exec_announceTimer (s : State) : exec .announceTimer s = execAnnounceTimer s := rfl
@[simp] theorem exec_announceRx (p : Nat) (frame : Bytes) (s : State) : exec (.announceRx p frame) s = execAnnounceRx p frame s := rfl
@[simp] theorem exec_announceTimeout (p : Nat) (s : State) : exec (.announceTimeout p) s = execAnnounceTimeout p s := rfl
@[simp] theorem exec_timeFrameRx (p : Nat) (frame : Bytes) (s : State) : exec (.timeFrameRx p frame) s = execTimeFrameRx p frame s := rfl
@[simp] theorem exec_dutyFrameRx (p : Nat) (frame : Bytes) (s : State) : exec (.dutyFrameRx p frame) s = execDutyFrameRx p frame s := rfl
@[simp] theorem exec_dutyApply (n : Nat) (ofs : Nat) (s : State) : exec (.dutyApply n ofs) s = execDutyApply n ofs s := rfl
@[simp] theorem exec_dutyFrameTimeout (n : Nat) (s : State) : exec (.dutyFrameTimeout n) s = execDutyFrameTimeout n s := rfl
@[simp] theorem exec_spanlossRx (p : Nat) (frame : Bytes) (s : State) : exec (.spanlossRx p frame) s = execSpanlossRx p frame s := rfl
@[simp] theorem exec_rejoin (w : Who) (n : Nat) (s : State) : exec (.rejoin w n) s = execRejoin w n s := rfl
@[simp] theorem exec_messageQueue (w : Who) (tail : Nat) (s : State) : exec (.messageQueue w tail) s = execMessageQueue w tail s := rfl
@[simp] theorem exec_messageRx (p : Nat) (frame : Bytes) (s : State) : exec (.messageRx p frame) s = execMessageRx p frame s := rfl
@[simp] theorem exec_ackRx (p : Nat) (seq : Nat) (src : Nat) (s : State) : exec (.ackRx p seq src) s = execAckRx p seq src s := rfl
@[simp] theorem exec_ackTimeout (p : Nat) (s : State) : exec (.ackTimeout p) s = execAckTimeout p s := rfl
@[simp] theorem exec_flkCommitLock (w : Who) (s : State) : exec (.flkCommitLock w) s = execFlkCommitLock w s := rfl
@[simp] theorem exec_phaCommitLock (w : Who) (s : State) : exec (.phaCommitLock w) s = execPhaCommitLock w s := rfl
@[simp] theorem exec_anvCommitLock (w : Who) (s : State) : exec (.anvCommitLock w) s = execAnvCommitLock w s := rfl
@[simp] theorem exec_rlcCommitLock (w : Who) (s : State) : exec (.rlcCommitLock w) s = execRlcCommitLock w s := rfl
@[simp] theorem exec_icuCommitLock (w : Who) (s : State) : exec (.icuCommitLock w) s = execIcuCommitLock w s := rfl
@[simp] theorem exec_hifCommitLock (w : Who) (s : State) : exec (.hifCommitLock w) s = execHifCommitLock w s := rfl
@[simp] theorem exec_commitUnlock (w : Who) (b : LockBlk) (s : State) : exec (.commitUnlock w b) s = execCommitUnlock w b s := rfl
@[simp] theorem exec_senDelayEnd (g : Nat) (s : State) : exec (.senDelayEnd g) s = execSenDelayEnd g s := rfl
@[simp] theorem exec_stageAbsent (n : Nat) (s : State) : exec (.stageAbsent n) s = execStageAbsent n s := rfl
@[simp] theorem exec_stagePresent (n : Nat) (s : State) : exec (.stagePresent n) s = execStagePresent n s := rfl
@[simp] theorem exec_stageFault (n : Nat) (above : Bool) (s : State) : exec (.stageFault n above) s = execStageFault n above s := rfl
@[simp] theorem exec_ocTrip (n : Nat) (since : Nat) (s : State) : exec (.ocTrip n since) s = execOcTrip n since s := rfl
@[simp] theorem exec_phaseAdd (w : Who) (n : Nat) (s : State) : exec (.phaseAdd w n) s = execPhaseAdd w n s := rfl
@[simp] theorem exec_phaseShed (w : Who) (n : Nat) (s : State) : exec (.phaseShed w n) s = execPhaseShed w n s := rfl
@[simp] theorem exec_phaseRemove (w : Who) (n : Nat) (s : State) : exec (.phaseRemove w n) s = execPhaseRemove w n s := rfl
@[simp] theorem exec_phaseRestore (w : Who) (n : Nat) (s : State) : exec (.phaseRestore w n) s = execPhaseRestore w n s := rfl
@[simp] theorem exec_governorAdd (r : Nat) (s : State) : exec (.governorAdd r) s = execGovernorAdd r s := rfl
@[simp] theorem exec_governorShed (r : Nat) (s : State) : exec (.governorShed r) s = execGovernorShed r s := rfl
@[simp] theorem exec_readd (r : Nat) (ch : Nat) (s : State) : exec (.readd r ch) s = execReadd r ch s := rfl
@[simp] theorem exec_readdHoldEnd (r : Nat) (s : State) : exec (.readdHoldEnd r) s = execReaddHoldEnd r s := rfl
@[simp] theorem exec_blendEnd (n : Nat) (s : State) : exec (.blendEnd n) s = execBlendEnd n s := rfl
@[simp] theorem exec_tempConversion (k : Nat) (raw : Int) (st : Nat) (s : State) : exec (.tempConversion k raw st) s = execTempConversion k raw st s := rfl
@[simp] theorem exec_tallyInject (w : Who) (c : Nat) (s : State) : exec (.tallyInject w c) s = execTallyInject w c s := rfl
@[simp] theorem exec_capStatRead (w : Who) (s : State) : exec (.capStatRead w) s = execCapStatRead w s := rfl
@[simp] theorem exec_calUpdate (s : State) : exec .calUpdate s = execCalUpdate s := rfl
@[simp] theorem exec_offsetEstimate (k : Nat) (s : State) : exec (.offsetEstimate k) s = execOffsetEstimate k s := rfl
@[simp] theorem exec_zofsLearn (n : Nat) (s : State) : exec (.zofsLearn n) s = execZofsLearn n s := rfl
@[simp] theorem exec_domainGainWindow (d : Nat) (s : State) : exec (.domainGainWindow d) s = execDomainGainWindow d s := rfl
@[simp] theorem exec_lrEstimate (n : Nat) (s : State) : exec (.lrEstimate n) s = execLrEstimate n s := rfl
@[simp] theorem exec_pleanEvent (l : Nat) (ch : Nat) (s : State) : exec (.pleanEvent l ch) s = execPleanEvent l ch s := rfl
@[simp] theorem exec_preleanEnd (l : Nat) (s : State) : exec (.preleanEnd l) s = execPreleanEnd l s := rfl
@[simp] theorem exec_sloadEvent (l : Nat) (ch : Nat) (s : State) : exec (.sloadEvent l ch) s = execSloadEvent l ch s := rfl
@[simp] theorem exec_trigPlean (w : Who) (l : Nat) (s : State) : exec (.trigPlean w l) s = execTrigPlean w l s := rfl
@[simp] theorem exec_trigSload (w : Who) (l : Nat) (s : State) : exec (.trigSload w l) s = execTrigSload w l s := rfl
@[simp] theorem exec_swapRequest (w : Who) (l : Nat) (ld : Bool) (s : State) : exec (.swapRequest w l ld) s = execSwapRequest w l ld s := rfl
@[simp] theorem exec_swapAllbound (w : Who) (ld : Bool) (s : State) : exec (.swapAllbound w ld) s = execSwapAllbound w ld s := rfl
@[simp] theorem exec_swapCancel (w : Who) (l : Nat) (all : Bool) (s : State) : exec (.swapCancel w l all) s = execSwapCancel w l all s := rfl
@[simp] theorem exec_shadowWrite (w : Who) (l : Nat) (k : Nat) (v : Word) (s : State) : exec (.shadowWrite w l k v) s = execShadowWrite w l k v s := rfl
@[simp] theorem exec_bankCheck (s : State) : exec .bankCheck s = execBankCheck s := rfl
@[simp] theorem exec_faultedClear (w : Who) (l : Nat) (s : State) : exec (.faultedClear w l) s = execFaultedClear w l s := rfl
@[simp] theorem exec_snapshotRequest (w : Who) (l : Nat) (s : State) : exec (.snapshotRequest w l) s = execSnapshotRequest w l s := rfl
@[simp] theorem exec_droopCrossing (r : Nat) (s : State) : exec (.droopCrossing r) s = execDroopCrossing r s := rfl
@[simp] theorem exec_releaseCrossing (r : Nat) (s : State) : exec (.releaseCrossing r) s = execReleaseCrossing r s := rfl
@[simp] theorem exec_maxonExpiry (n : Nat) (s : State) : exec (.maxonExpiry n) s = execMaxonExpiry n s := rfl
@[simp] theorem exec_lockoutEnd (r : Nat) (s : State) : exec (.lockoutEnd r) s = execLockoutEnd r s := rfl
@[simp] theorem exec_overshootCrossing (r : Nat) (s : State) : exec (.overshootCrossing r) s = execOvershootCrossing r s := rfl
@[simp] theorem exec_overshootRelease (r : Nat) (s : State) : exec (.overshootRelease r) s = execOvershootRelease r s := rfl
@[simp] theorem exec_ovmaxExpiry (r : Nat) (s : State) : exec (.ovmaxExpiry r) s = execOvmaxExpiry r s := rfl
@[simp] theorem exec_warnAssert (k : Nat) (s : State) : exec (.warnAssert k) s = execWarnAssert k s := rfl
@[simp] theorem exec_plarm (r : Nat) (s : State) : exec (.plarm r) s = execPlarm r s := rfl
@[simp] theorem exec_plarmEnd (r : Nat) (s : State) : exec (.plarmEnd r) s = execPlarmEnd r s := rfl
@[simp] theorem exec_protectionAction (x : Prot) (s : State) : exec (.protectionAction x) s = execProtectionAction x s := rfl
@[simp] theorem exec_protectionWarn (x : Prot) (s : State) : exec (.protectionWarn x) s = execProtectionWarn x s := rfl
@[simp] theorem exec_blwQuench (r : Nat) (s : State) : exec (.blwQuench r) s = execBlwQuench r s := rfl
@[simp] theorem exec_blwQuenchDev (s : State) : exec .blwQuenchDev s = execBlwQuenchDev s := rfl
@[simp] theorem exec_quenchRailCommand (w : Who) (r : Nat) (s : State) : exec (.quenchRailCommand w r) s = execQuenchRailCommand w r s := rfl
@[simp] theorem exec_quenchDeviceCommand (w : Who) (s : State) : exec (.quenchDeviceCommand w) s = execQuenchDeviceCommand w s := rfl
@[simp] theorem exec_hiccupEnd (r : Nat) (s : State) : exec (.hiccupEnd r) s = execHiccupEnd r s := rfl
@[simp] theorem exec_retryCountClear (r : Nat) (s : State) : exec (.retryCountClear r) s = execRetryCountClear r s := rfl
@[simp] theorem exec_phaseHiccupEnd (n : Nat) (s : State) : exec (.phaseHiccupEnd n) s = execPhaseHiccupEnd n s := rfl
@[simp] theorem exec_phaseRetryClear (n : Nat) (s : State) : exec (.phaseRetryClear n) s = execPhaseRetryClear n s := rfl
@[simp] theorem exec_latchClear (w : Who) (v : Word) (s : State) : exec (.latchClear w v) s = execLatchClear w v s := rfl
@[simp] theorem exec_tonDelayEnd (r : Nat) (s : State) : exec (.tonDelayEnd r) s = execTonDelayEnd r s := rfl
@[simp] theorem exec_toffDelayEnd (r : Nat) (s : State) : exec (.toffDelayEnd r) s = execToffDelayEnd r s := rfl
@[simp] theorem exec_groupOn (w : Who) (g : Nat) (s : State) : exec (.groupOn w g) s = execGroupOn w g s := rfl
@[simp] theorem exec_groupOff (w : Who) (g : Nat) (s : State) : exec (.groupOff w g) s = execGroupOff w g s := rfl
@[simp] theorem exec_frefWrite (w : Who) (r : Nat) (v : Word) (s : State) : exec (.frefWrite w r v) s = execFrefWrite w r v s := rfl
@[simp] theorem exec_frefAtRelease (r : Nat) (s : State) : exec (.frefAtRelease r) s = execFrefAtRelease r s := rfl
@[simp] theorem exec_hrefWrite (w : Who) (r : Nat) (v : Word) (s : State) : exec (.hrefWrite w r v) s = execHrefWrite w r v s := rfl
@[simp] theorem exec_avsTargetVoltageWrite (o : AvsOp) (s : State) : exec (.avsTargetVoltageWrite o) s = execAvsTargetVoltageWrite o s := rfl
@[simp] theorem exec_avsWriteAndHold (o : AvsOp) (s : State) : exec (.avsWriteAndHold o) s = execAvsWriteAndHold o s := rfl
@[simp] theorem exec_avsTargetVoltageRead (o : AvsOp) (s : State) : exec (.avsTargetVoltageRead o) s = execAvsTargetVoltageRead o s := rfl
@[simp] theorem exec_avsTransitionRate (o : AvsOp) (s : State) : exec (.avsTransitionRate o) s = execAvsTransitionRate o s := rfl
@[simp] theorem exec_avsRailCurrent (o : AvsOp) (s : State) : exec (.avsRailCurrent o) s = execAvsRailCurrent o s := rfl
@[simp] theorem exec_avsRailTemperature (o : AvsOp) (s : State) : exec (.avsRailTemperature o) s = execAvsRailTemperature o s := rfl
@[simp] theorem exec_avsResetVoltage (o : AvsOp) (s : State) : exec (.avsResetVoltage o) s = execAvsResetVoltage o s := rfl
@[simp] theorem exec_avsStatus (o : AvsOp) (s : State) : exec (.avsStatus o) s = execAvsStatus o s := rfl
@[simp] theorem exec_avsVersion (o : AvsOp) (s : State) : exec (.avsVersion o) s = execAvsVersion o s := rfl
@[simp] theorem exec_avsUnsupported (o : AvsOp) (s : State) : exec (.avsUnsupported o) s = execAvsUnsupported o s := rfl
@[simp] theorem exec_pageCmd (o : PmbOp) (s : State) : exec (.pageCmd o) s = execPageCmd o s := rfl
@[simp] theorem exec_operationOn (o : PmbOp) (s : State) : exec (.operationOn o) s = execOperationOn o s := rfl
@[simp] theorem exec_operationOff (o : PmbOp) (s : State) : exec (.operationOff o) s = execOperationOff o s := rfl
@[simp] theorem exec_operationImmediateOff (o : PmbOp) (s : State) : exec (.operationImmediateOff o) s = execOperationImmediateOff o s := rfl
@[simp] theorem exec_operationMarginLow (o : PmbOp) (s : State) : exec (.operationMarginLow o) s = execOperationMarginLow o s := rfl
@[simp] theorem exec_operationMarginHigh (o : PmbOp) (s : State) : exec (.operationMarginHigh o) s = execOperationMarginHigh o s := rfl
@[simp] theorem exec_onOffConfig (o : PmbOp) (s : State) : exec (.onOffConfig o) s = execOnOffConfig o s := rfl
@[simp] theorem exec_clearFaults (o : PmbOp) (s : State) : exec (.clearFaults o) s = execClearFaults o s := rfl
@[simp] theorem exec_writeProtect (o : PmbOp) (s : State) : exec (.writeProtect o) s = execWriteProtect o s := rfl
@[simp] theorem exec_storeUserAll (o : PmbOp) (s : State) : exec (.storeUserAll o) s = execStoreUserAll o s := rfl
@[simp] theorem exec_restoreUserAll (o : PmbOp) (s : State) : exec (.restoreUserAll o) s = execRestoreUserAll o s := rfl
@[simp] theorem exec_capability (o : PmbOp) (s : State) : exec (.capability o) s = execCapability o s := rfl
@[simp] theorem exec_voutMode (o : PmbOp) (s : State) : exec (.voutMode o) s = execVoutMode o s := rfl
@[simp] theorem exec_voutCommand (o : PmbOp) (s : State) : exec (.voutCommand o) s = execVoutCommand o s := rfl
@[simp] theorem exec_voutMax (o : PmbOp) (s : State) : exec (.voutMax o) s = execVoutMax o s := rfl
@[simp] theorem exec_voutMin (o : PmbOp) (s : State) : exec (.voutMin o) s = execVoutMin o s := rfl
@[simp] theorem exec_voutMarginHigh (o : PmbOp) (s : State) : exec (.voutMarginHigh o) s = execVoutMarginHigh o s := rfl
@[simp] theorem exec_voutMarginLow (o : PmbOp) (s : State) : exec (.voutMarginLow o) s = execVoutMarginLow o s := rfl
@[simp] theorem exec_voutTransitionRate (o : PmbOp) (s : State) : exec (.voutTransitionRate o) s = execVoutTransitionRate o s := rfl
@[simp] theorem exec_voutDroop (o : PmbOp) (s : State) : exec (.voutDroop o) s = execVoutDroop o s := rfl
@[simp] theorem exec_voutScaleLoop (o : PmbOp) (s : State) : exec (.voutScaleLoop o) s = execVoutScaleLoop o s := rfl
@[simp] theorem exec_voutOvFaultLimit (o : PmbOp) (s : State) : exec (.voutOvFaultLimit o) s = execVoutOvFaultLimit o s := rfl
@[simp] theorem exec_voutUvFaultLimit (o : PmbOp) (s : State) : exec (.voutUvFaultLimit o) s = execVoutUvFaultLimit o s := rfl
@[simp] theorem exec_voutOvWarnLimit (o : PmbOp) (s : State) : exec (.voutOvWarnLimit o) s = execVoutOvWarnLimit o s := rfl
@[simp] theorem exec_voutUvWarnLimit (o : PmbOp) (s : State) : exec (.voutUvWarnLimit o) s = execVoutUvWarnLimit o s := rfl
@[simp] theorem exec_voutOvFaultResponse (o : PmbOp) (s : State) : exec (.voutOvFaultResponse o) s = execVoutOvFaultResponse o s := rfl
@[simp] theorem exec_voutUvFaultResponse (o : PmbOp) (s : State) : exec (.voutUvFaultResponse o) s = execVoutUvFaultResponse o s := rfl
@[simp] theorem exec_ioutOcFaultLimit (o : PmbOp) (s : State) : exec (.ioutOcFaultLimit o) s = execIoutOcFaultLimit o s := rfl
@[simp] theorem exec_ioutOcWarnLimit (o : PmbOp) (s : State) : exec (.ioutOcWarnLimit o) s = execIoutOcWarnLimit o s := rfl
@[simp] theorem exec_ioutOcFaultResponse (o : PmbOp) (s : State) : exec (.ioutOcFaultResponse o) s = execIoutOcFaultResponse o s := rfl
@[simp] theorem exec_otFaultLimit (o : PmbOp) (s : State) : exec (.otFaultLimit o) s = execOtFaultLimit o s := rfl
@[simp] theorem exec_otWarnLimit (o : PmbOp) (s : State) : exec (.otWarnLimit o) s = execOtWarnLimit o s := rfl
@[simp] theorem exec_otFaultResponse (o : PmbOp) (s : State) : exec (.otFaultResponse o) s = execOtFaultResponse o s := rfl
@[simp] theorem exec_vinOvFaultLimit (o : PmbOp) (s : State) : exec (.vinOvFaultLimit o) s = execVinOvFaultLimit o s := rfl
@[simp] theorem exec_vinUvFaultLimit (o : PmbOp) (s : State) : exec (.vinUvFaultLimit o) s = execVinUvFaultLimit o s := rfl
@[simp] theorem exec_tonDelay (o : PmbOp) (s : State) : exec (.tonDelay o) s = execTonDelay o s := rfl
@[simp] theorem exec_tonRise (o : PmbOp) (s : State) : exec (.tonRise o) s = execTonRise o s := rfl
@[simp] theorem exec_toffDelay (o : PmbOp) (s : State) : exec (.toffDelay o) s = execToffDelay o s := rfl
@[simp] theorem exec_toffFall (o : PmbOp) (s : State) : exec (.toffFall o) s = execToffFall o s := rfl
@[simp] theorem exec_statusByte (o : PmbOp) (s : State) : exec (.statusByte o) s = execStatusByte o s := rfl
@[simp] theorem exec_statusWord (o : PmbOp) (s : State) : exec (.statusWord o) s = execStatusWord o s := rfl
@[simp] theorem exec_statusVout (o : PmbOp) (s : State) : exec (.statusVout o) s = execStatusVout o s := rfl
@[simp] theorem exec_statusIout (o : PmbOp) (s : State) : exec (.statusIout o) s = execStatusIout o s := rfl
@[simp] theorem exec_statusInput (o : PmbOp) (s : State) : exec (.statusInput o) s = execStatusInput o s := rfl
@[simp] theorem exec_statusTemperature (o : PmbOp) (s : State) : exec (.statusTemperature o) s = execStatusTemperature o s := rfl
@[simp] theorem exec_statusCml (o : PmbOp) (s : State) : exec (.statusCml o) s = execStatusCml o s := rfl
@[simp] theorem exec_statusMfrSpecific (o : PmbOp) (s : State) : exec (.statusMfrSpecific o) s = execStatusMfrSpecific o s := rfl
@[simp] theorem exec_readVin (o : PmbOp) (s : State) : exec (.readVin o) s = execReadVin o s := rfl
@[simp] theorem exec_readVout (o : PmbOp) (s : State) : exec (.readVout o) s = execReadVout o s := rfl
@[simp] theorem exec_readIout (o : PmbOp) (s : State) : exec (.readIout o) s = execReadIout o s := rfl
@[simp] theorem exec_readTemperature1 (o : PmbOp) (s : State) : exec (.readTemperature1 o) s = execReadTemperature1 o s := rfl
@[simp] theorem exec_readTemperature2 (o : PmbOp) (s : State) : exec (.readTemperature2 o) s = execReadTemperature2 o s := rfl
@[simp] theorem exec_readPout (o : PmbOp) (s : State) : exec (.readPout o) s = execReadPout o s := rfl
@[simp] theorem exec_pmbusRevision (o : PmbOp) (s : State) : exec (.pmbusRevision o) s = execPmbusRevision o s := rfl
@[simp] theorem exec_mfrId (o : PmbOp) (s : State) : exec (.mfrId o) s = execMfrId o s := rfl
@[simp] theorem exec_mfrModel (o : PmbOp) (s : State) : exec (.mfrModel o) s = execMfrModel o s := rfl
@[simp] theorem exec_mfrRevision (o : PmbOp) (s : State) : exec (.mfrRevision o) s = execMfrRevision o s := rfl
@[simp] theorem exec_mfrPhaseCmd (o : PmbOp) (s : State) : exec (.mfrPhaseCmd o) s = execMfrPhaseCmd o s := rfl
@[simp] theorem exec_mfrPhaseCount (o : PmbOp) (s : State) : exec (.mfrPhaseCount o) s = execMfrPhaseCount o s := rfl
@[simp] theorem exec_mfrBellowsCount (o : PmbOp) (s : State) : exec (.mfrBellowsCount o) s = execMfrBellowsCount o s := rfl
@[simp] theorem exec_mfrLatchClear (o : PmbOp) (s : State) : exec (.mfrLatchClear o) s = execMfrLatchClear o s := rfl
@[simp] theorem exec_mfrRefInForce (o : PmbOp) (s : State) : exec (.mfrRefInForce o) s = execMfrRefInForce o s := rfl
@[simp] theorem exec_mfrTbc (o : PmbOp) (s : State) : exec (.mfrTbc o) s = execMfrTbc o s := rfl
@[simp] theorem exec_mfrFaultLog (o : PmbOp) (s : State) : exec (.mfrFaultLog o) s = execMfrFaultLog o s := rfl
@[simp] theorem exec_alertResponse (q : Nat) (s : State) : exec (.alertResponse q) s = execAlertResponse q s := rfl
@[simp] theorem exec_pmbusUnsupported (o : PmbOp) (s : State) : exec (.pmbusUnsupported o) s = execPmbusUnsupported o s := rfl
@[simp] theorem exec_pmbusSclTimeout (q : Nat) (s : State) : exec (.pmbusSclTimeout q) s = execPmbusSclTimeout q s := rfl
@[simp] theorem exec_channelForward (g : Nat) (s : State) : exec (.channelForward g) s = execChannelForward g s := rfl
@[simp] theorem exec_delayElementFire (n : Nat) (s : State) : exec (.delayElementFire n) s = execDelayElementFire n s := rfl
@[simp] theorem exec_oneShotEnd (n : Nat) (s : State) : exec (.oneShotEnd n) s = execOneShotEnd n s := rfl
@[simp] theorem exec_consumerFire (w : Who) (k : Nat) (s : State) : exec (.consumerFire w k) s = execConsumerFire w k s := rfl
@[simp] theorem exec_evfCommitGo (w : Who) (s : State) : exec (.evfCommitGo w) s = execEvfCommitGo w s := rfl
@[simp] theorem exec_evfCommitCheck (s : State) : exec .evfCommitCheck s = execEvfCommitCheck s := rfl
@[simp] theorem exec_evioInputEdge (k : Nat) (lvl : Bool) (s : State) : exec (.evioInputEdge k lvl) s = execEvioInputEdge k lvl s := rfl
@[simp] theorem exec_evioOutput (k : Nat) (s : State) : exec (.evioOutput k) s = execEvioOutput k s := rfl
@[simp] theorem exec_evioPulseEnd (k : Nat) (s : State) : exec (.evioPulseEnd k) s = execEvioPulseEnd k s := rfl
@[simp] theorem exec_icuSourceEdge (src : Nat) (s : State) : exec (.icuSourceEdge src) s = execIcuSourceEdge src s := rfl
@[simp] theorem exec_icuSoftwareSet (w : Who) (i : Nat) (v : Word) (s : State) : exec (.icuSoftwareSet w i v) s = execIcuSoftwareSet w i v s := rfl
@[simp] theorem exec_interruptEntry (p : Nat) (s : State) : exec (.interruptEntry p) s = execInterruptEntry p s := rfl
@[simp] theorem exec_taskActivation (p : Nat) (s : State) : exec (.taskActivation p) s = execTaskActivation p s := rfl
@[simp] theorem exec_slotEnable (w : Who) (p : Nat) (sl : Nat) (s : State) : exec (.slotEnable w p sl) s = execSlotEnable w p sl s := rfl
@[simp] theorem exec_coreReset (w : Who) (p : Nat) (key : Nat) (s : State) : exec (.coreReset w p key) s = execCoreReset w p key s := rfl
@[simp] theorem exec_dozeWake (p : Nat) (s : State) : exec (.dozeWake p) s = execDozeWake p s := rfl
@[simp] theorem exec_longOpComplete (p : Nat) (u : LUnit) (s : State) : exec (.longOpComplete p u) s = execLongOpComplete p u s := rfl
@[simp] theorem exec_storeBufferRetire (p : Nat) (s : State) : exec (.storeBufferRetire p) s = execStoreBufferRetire p s := rfl
@[simp] theorem exec_mergeBufferFlush (p : Nat) (s : State) : exec (.mergeBufferFlush p) s = execMergeBufferFlush p s := rfl
@[simp] theorem exec_remoteAccess (q : Nat) (x : PortReq) (s : State) : exec (.remoteAccess q x) s = execRemoteAccess q x s := rfl
@[simp] theorem exec_interconnectResponse (p : Nat) (ok : Bool) (s : State) : exec (.interconnectResponse p ok) s = execInterconnectResponse p ok s := rfl
@[simp] theorem exec_ucFetchFault (p : Nat) (a : Nat) (ill : Bool) (s : State) : exec (.ucFetchFault p a ill) s = execUcFetchFault p a ill s := rfl
@[simp] theorem exec_ucLoad (w : Who) (p : Nat) (half : Nat) (s : State) : exec (.ucLoad w p half) s = execUcLoad w p half s := rfl
@[simp] theorem exec_ucVerify (w : Who) (p : Nat) (half : Nat) (s : State) : exec (.ucVerify w p half) s = execUcVerify w p half s := rfl
@[simp] theorem exec_ucSwitch (w : Who) (p : Nat) (half : Nat) (s : State) : exec (.ucSwitch w p half) s = execUcSwitch w p half s := rfl
@[simp] theorem exec_ucCopy (w : Who) (p : Nat) (half : Nat) (s : State) : exec (.ucCopy w p half) s = execUcCopy w p half s := rfl
@[simp] theorem exec_ucCommandDone (p : Nat) (s : State) : exec (.ucCommandDone p) s = execUcCommandDone p s := rfl
@[simp] theorem exec_ucSwitchTake (p : Nat) (s : State) : exec (.ucSwitchTake p) s = execUcSwitchTake p s := rfl
@[simp] theorem exec_patchWrite (w : Who) (p : Nat) (v : Word) (s : State) : exec (.patchWrite w p v) s = execPatchWrite w p v s := rfl
@[simp] theorem exec_patchLock (w : Who) (p : Nat) (s : State) : exec (.patchLock w p) s = execPatchLock w p s := rfl
@[simp] theorem exec_memInject (w : Who) (p : Nat) (v : Word) (s : State) : exec (.memInject w p v) s = execMemInject w p v s := rfl
@[simp] theorem exec_addOp (o : PyOp) (s : State) : exec (.addOp o) s = execAddOp o s := rfl
@[simp] theorem exec_subOp (o : PyOp) (s : State) : exec (.subOp o) s = execSubOp o s := rfl
@[simp] theorem exec_andOp (o : PyOp) (s : State) : exec (.andOp o) s = execAndOp o s := rfl
@[simp] theorem exec_orOp (o : PyOp) (s : State) : exec (.orOp o) s = execOrOp o s := rfl
@[simp] theorem exec_xorOp (o : PyOp) (s : State) : exec (.xorOp o) s = execXorOp o s := rfl
@[simp] theorem exec_shl (o : PyOp) (s : State) : exec (.shl o) s = execShl o s := rfl
@[simp] theorem exec_shr (o : PyOp) (s : State) : exec (.shr o) s = execShr o s := rfl
@[simp] theorem exec_sar (o : PyOp) (s : State) : exec (.sar o) s = execSar o s := rfl
@[simp] theorem exec_ror (o : PyOp) (s : State) : exec (.ror o) s = execRor o s := rfl
@[simp] theorem exec_cmp (o : PyOp) (s : State) : exec (.cmp o) s = execCmp o s := rfl
@[simp] theorem exec_tst (o : PyOp) (s : State) : exec (.tst o) s = execTst o s := rfl
@[simp] theorem exec_mov (o : PyOp) (s : State) : exec (.mov o) s = execMov o s := rfl
@[simp] theorem exec_adc (o : PyOp) (s : State) : exec (.adc o) s = execAdc o s := rfl
@[simp] theorem exec_sbc (o : PyOp) (s : State) : exec (.sbc o) s = execSbc o s := rfl
@[simp] theorem exec_minOp (o : PyOp) (s : State) : exec (.minOp o) s = execMinOp o s := rfl
@[simp] theorem exec_maxOp (o : PyOp) (s : State) : exec (.maxOp o) s = execMaxOp o s := rfl
@[simp] theorem exec_mul (o : PyOp) (s : State) : exec (.mul o) s = execMul o s := rfl
@[simp] theorem exec_mulh (o : PyOp) (s : State) : exec (.mulh o) s = execMulh o s := rfl
@[simp] theorem exec_mulhu (o : PyOp) (s : State) : exec (.mulhu o) s = execMulhu o s := rfl
@[simp] theorem exec_qmul (o : PyOp) (s : State) : exec (.qmul o) s = execQmul o s := rfl
@[simp] theorem exec_qmul15 (o : PyOp) (s : State) : exec (.qmul15 o) s = execQmul15 o s := rfl
@[simp] theorem exec_add15 (o : PyOp) (s : State) : exec (.add15 o) s = execAdd15 o s := rfl
@[simp] theorem exec_sub15 (o : PyOp) (s : State) : exec (.sub15 o) s = execSub15 o s := rfl
@[simp] theorem exec_clz (o : PyOp) (s : State) : exec (.clz o) s = execClz o s := rfl
@[simp] theorem exec_popc (o : PyOp) (s : State) : exec (.popc o) s = execPopc o s := rfl
@[simp] theorem exec_bfx (o : PyOp) (s : State) : exec (.bfx o) s = execBfx o s := rfl
@[simp] theorem exec_bfxs (o : PyOp) (s : State) : exec (.bfxs o) s = execBfxs o s := rfl
@[simp] theorem exec_bfi (o : PyOp) (s : State) : exec (.bfi o) s = execBfi o s := rfl
@[simp] theorem exec_rev (o : PyOp) (s : State) : exec (.rev o) s = execRev o s := rfl
@[simp] theorem exec_ldw (o : PyOp) (s : State) : exec (.ldw o) s = execLdw o s := rfl
@[simp] theorem exec_ldh (o : PyOp) (s : State) : exec (.ldh o) s = execLdh o s := rfl
@[simp] theorem exec_ldhu (o : PyOp) (s : State) : exec (.ldhu o) s = execLdhu o s := rfl
@[simp] theorem exec_ldb (o : PyOp) (s : State) : exec (.ldb o) s = execLdb o s := rfl
@[simp] theorem exec_ldbu (o : PyOp) (s : State) : exec (.ldbu o) s = execLdbu o s := rfl
@[simp] theorem exec_stw (o : PyOp) (s : State) : exec (.stw o) s = execStw o s := rfl
@[simp] theorem exec_sth (o : PyOp) (s : State) : exec (.sth o) s = execSth o s := rfl
@[simp] theorem exec_stb (o : PyOp) (s : State) : exec (.stb o) s = execStb o s := rfl
@[simp] theorem exec_lea (o : PyOp) (s : State) : exec (.lea o) s = execLea o s := rfl
@[simp] theorem exec_ldwpc (o : PyOp) (s : State) : exec (.ldwpc o) s = execLdwpc o s := rfl
@[simp] theorem exec_leapc (o : PyOp) (s : State) : exec (.leapc o) s = execLeapc o s := rfl
@[simp] theorem exec_push (o : PyOp) (s : State) : exec (.push o) s = execPush o s := rfl
@[simp] theorem exec_pop (o : PyOp) (s : State) : exec (.pop o) s = execPop o s := rfl
@[simp] theorem exec_pushm (o : PyOp) (s : State) : exec (.pushm o) s = execPushm o s := rfl
@[simp] theorem exec_popm (o : PyOp) (s : State) : exec (.popm o) s = execPopm o s := rfl
@[simp] theorem exec_addm (o : PyOp) (s : State) : exec (.addm o) s = execAddm o s := rfl
@[simp] theorem exec_andm (o : PyOp) (s : State) : exec (.andm o) s = execAndm o s := rfl
@[simp] theorem exec_orm (o : PyOp) (s : State) : exec (.orm o) s = execOrm o s := rfl
@[simp] theorem exec_xorm (o : PyOp) (s : State) : exec (.xorm o) s = execXorm o s := rfl
@[simp] theorem exec_xchg (o : PyOp) (s : State) : exec (.xchg o) s = execXchg o s := rfl
@[simp] theorem exec_casw (o : PyOp) (s : State) : exec (.casw o) s = execCasw o s := rfl
@[simp] theorem exec_stwi (o : PyOp) (s : State) : exec (.stwi o) s = execStwi o s := rfl
@[simp] theorem exec_btst (o : PyOp) (s : State) : exec (.btst o) s = execBtst o s := rfl
@[simp] theorem exec_bset (o : PyOp) (s : State) : exec (.bset o) s = execBset o s := rfl
@[simp] theorem exec_bclr (o : PyOp) (s : State) : exec (.bclr o) s = execBclr o s := rfl
@[simp] theorem exec_bnot (o : PyOp) (s : State) : exec (.bnot o) s = execBnot o s := rfl
@[simp] theorem exec_bld (o : PyOp) (s : State) : exec (.bld o) s = execBld o s := rfl
@[simp] theorem exec_bst (o : PyOp) (s : State) : exec (.bst o) s = execBst o s := rfl
@[simp] theorem exec_fadd (o : PyOp) (s : State) : exec (.fadd o) s = execFadd o s := rfl
@[simp] theorem exec_fsub (o : PyOp) (s : State) : exec (.fsub o) s = execFsub o s := rfl
@[simp] theorem exec_fmul (o : PyOp) (s : State) : exec (.fmul o) s = execFmul o s := rfl
@[simp] theorem exec_fmin (o : PyOp) (s : State) : exec (.fmin o) s = execFmin o s := rfl
@[simp] theorem exec_fmax (o : PyOp) (s : State) : exec (.fmax o) s = execFmax o s := rfl
@[simp] theorem exec_fcmp (o : PyOp) (s : State) : exec (.fcmp o) s = execFcmp o s := rfl
@[simp] theorem exec_fmov (o : PyOp) (s : State) : exec (.fmov o) s = execFmov o s := rfl
@[simp] theorem exec_fneg (o : PyOp) (s : State) : exec (.fneg o) s = execFneg o s := rfl
@[simp] theorem exec_fabs (o : PyOp) (s : State) : exec (.fabs o) s = execFabs o s := rfl
@[simp] theorem exec_fmtg (o : PyOp) (s : State) : exec (.fmtg o) s = execFmtg o s := rfl
@[simp] theorem exec_fmfg (o : PyOp) (s : State) : exec (.fmfg o) s = execFmfg o s := rfl
@[simp] theorem exec_fcvti (o : PyOp) (s : State) : exec (.fcvti o) s = execFcvti o s := rfl
@[simp] theorem exec_fcvtf (o : PyOp) (s : State) : exec (.fcvtf o) s = execFcvtf o s := rfl
@[simp] theorem exec_fld (o : PyOp) (s : State) : exec (.fld o) s = execFld o s := rfl
@[simp] theorem exec_fst (o : PyOp) (s : State) : exec (.fst o) s = execFst o s := rfl
@[simp] theorem exec_bcc (o : PyOp) (s : State) : exec (.bcc o) s = execBcc o s := rfl
@[simp] theorem exec_call (o : PyOp) (s : State) : exec (.call o) s = execCall o s := rfl
@[simp] theorem exec_jmp (o : PyOp) (s : State) : exec (.jmp o) s = execJmp o s := rfl
@[simp] theorem exec_callr (o : PyOp) (s : State) : exec (.callr o) s = execCallr o s := rfl
@[simp] theorem exec_ret (o : PyOp) (s : State) : exec (.ret o) s = execRet o s := rfl
@[simp] theorem exec_dbnz (o : PyOp) (s : State) : exec (.dbnz o) s = execDbnz o s := rfl
@[simp] theorem exec_mfsr (o : PyOp) (s : State) : exec (.mfsr o) s = execMfsr o s := rfl
@[simp] theorem exec_mtsr (o : PyOp) (s : State) : exec (.mtsr o) s = execMtsr o s := rfl
@[simp] theorem exec_syscall (o : PyOp) (s : State) : exec (.syscall o) s = execSyscall o s := rfl
@[simp] theorem exec_brk (o : PyOp) (s : State) : exec (.brk o) s = execBrk o s := rfl
@[simp] theorem exec_rete (o : PyOp) (s : State) : exec (.rete o) s = execRete o s := rfl
@[simp] theorem exec_waitOp (o : PyOp) (s : State) : exec (.waitOp o) s = execWaitOp o s := rfl
@[simp] theorem exec_yield (o : PyOp) (s : State) : exec (.yield o) s = execYield o s := rfl
@[simp] theorem exec_fetchsync (o : PyOp) (s : State) : exec (.fetchsync o) s = execFetchsync o s := rfl
@[simp] theorem exec_sync (o : PyOp) (s : State) : exec (.sync o) s = execSync o s := rfl
@[simp] theorem exec_nopOp (o : PyOp) (s : State) : exec (.nopOp o) s = execNopOp o s := rfl
@[simp] theorem exec_divOp (o : PyOp) (s : State) : exec (.divOp o) s = execDivOp o s := rfl
@[simp] theorem exec_divu (o : PyOp) (s : State) : exec (.divu o) s = execDivu o s := rfl
@[simp] theorem exec_rem (o : PyOp) (s : State) : exec (.rem o) s = execRem o s := rfl
@[simp] theorem exec_remu (o : PyOp) (s : State) : exec (.remu o) s = execRemu o s := rfl
@[simp] theorem exec_sqrt (o : PyOp) (s : State) : exec (.sqrt o) s = execSqrt o s := rfl
@[simp] theorem exec_cordic (o : PyOp) (s : State) : exec (.cordic o) s = execCordic o s := rfl
@[simp] theorem exec_fdiv (o : PyOp) (s : State) : exec (.fdiv o) s = execFdiv o s := rfl
@[simp] theorem exec_fsqrt (o : PyOp) (s : State) : exec (.fsqrt o) s = execFsqrt o s := rfl
@[simp] theorem exec_bmov (o : PyOp) (s : State) : exec (.bmov o) s = execBmov o s := rfl
@[simp] theorem exec_vmac (o : PyOp) (s : State) : exec (.vmac o) s = execVmac o s := rfl
@[simp] theorem exec_bscan (o : PyOp) (s : State) : exec (.bscan o) s = execBscan o s := rfl
@[simp] theorem exec_crcb (o : PyOp) (s : State) : exec (.crcb o) s = execCrcb o s := rfl
@[simp] theorem exec_sqDoorbell (q : Nat) (v : Word) (s : State) : exec (.sqDoorbell q v) s = execSqDoorbell q v s := rfl
@[simp] theorem exec_descriptorFetch (q : Nat) (f : FetchRes) (s : State) : exec (.descriptorFetch q f) s = execDescriptorFetch q f s := rfl
@[simp] theorem exec_hostNop (q : Nat) (s : State) : exec (.hostNop q) s = execHostNop q s := rfl
@[simp] theorem exec_regw (q : Nat) (e : DescErr) (s : State) : exec (.regw q e) s = execRegw q e s := rfl
@[simp] theorem exec_regr (q : Nat) (e : DescErr) (s : State) : exec (.regr q e) s = execRegr q e s := rfl
@[simp] theorem exec_railVset (q : Nat) (e : DescErr) (s : State) : exec (.railVset q e) s = execRailVset q e s := rfl
@[simp] theorem exec_railOn (q : Nat) (e : DescErr) (s : State) : exec (.railOn q e) s = execRailOn q e s := rfl
@[simp] theorem exec_phaseCmd (q : Nat) (e : DescErr) (s : State) : exec (.phaseCmd q e) s = execPhaseCmd q e s := rfl
@[simp] theorem exec_quench (q : Nat) (e : DescErr) (s : State) : exec (.quench q e) s = execQuench q e s := rfl
@[simp] theorem exec_capture (q : Nat) (e : DescErr) (s : State) : exec (.capture q e) s = execCapture q e s := rfl
@[simp] theorem exec_capDump (q : Nat) (e : DescErr) (s : State) : exec (.capDump q e) s = execCapDump q e s := rfl
@[simp] theorem exec_capRearm (q : Nat) (e : DescErr) (s : State) : exec (.capRearm q e) s = execCapRearm q e s := rfl
@[simp] theorem exec_fwDescriptor (q : Nat) (s : State) : exec (.fwDescriptor q) s = execFwDescriptor q s := rfl
@[simp] theorem exec_fwCompletion (w : Who) (v : Word) (s : State) : exec (.fwCompletion w v) s = execFwCompletion w v s := rfl
@[simp] theorem exec_completionPost (c : Nat) (s : State) : exec (.completionPost c) s = execCompletionPost c s := rfl
@[simp] theorem exec_cqHeadDoorbell (q : Nat) (v : Word) (s : State) : exec (.cqHeadDoorbell q v) s = execCqHeadDoorbell q v s := rfl
@[simp] theorem exec_telemetryHeadDoorbell (t : Nat) (v : Word) (s : State) : exec (.telemetryHeadDoorbell t v) s = execTelemetryHeadDoorbell t v s := rfl
@[simp] theorem exec_eventHeadDoorbell (v : Word) (s : State) : exec (.eventHeadDoorbell v) s = execEventHeadDoorbell v s := rfl
@[simp] theorem exec_ringRestart (w : Who) (x : RingId) (s : State) : exec (.ringRestart w x) s = execRingRestart w x s := rfl
@[simp] theorem exec_queueRestart (w : Who) (q : Nat) (s : State) : exec (.queueRestart w q) s = execQueueRestart w q s := rfl
@[simp] theorem exec_hostWorldLock (w : Who) (s : State) : exec (.hostWorldLock w) s = execHostWorldLock w s := rfl
@[simp] theorem exec_eventRecordWrite (s : State) : exec .eventRecordWrite s = execEventRecordWrite s := rfl
@[simp] theorem exec_eventPost (w : Who) (s : State) : exec (.eventPost w) s = execEventPost w s := rfl
@[simp] theorem exec_telemetryRecord (t : Nat) (s : State) : exec (.telemetryRecord t) s = execTelemetryRecord t s := rfl
@[simp] theorem exec_linkRateChange (gen : Nat) (width : Nat) (s : State) : exec (.linkRateChange gen width) s = execLinkRateChange gen width s := rfl
@[simp] theorem exec_captureTrigger (k : Nat) (s : State) : exec (.captureTrigger k) s = execCaptureTrigger k s := rfl
@[simp] theorem exec_captureArm (w : Who) (s : State) : exec (.captureArm w) s = execCaptureArm w s := rfl
@[simp] theorem exec_captureDump (w : Who) (s : State) : exec (.captureDump w) s = execCaptureDump w s := rfl
@[simp] theorem exec_captureFreeze (s : State) : exec .captureFreeze s = execCaptureFreeze s := rfl
@[simp] theorem exec_dumpRecord (s : State) : exec .dumpRecord s = execDumpRecord s := rfl
@[simp] theorem exec_hostInterfaceReset (kind : Nat) (bytes : Nat) (s : State) : exec (.hostInterfaceReset kind bytes) s = execHostInterfaceReset kind bytes s := rfl
@[simp] theorem exec_linkUp (gen : Nat) (width : Nat) (s : State) : exec (.linkUp gen width) s = execLinkUp gen width s := rfl
@[simp] theorem exec_coldReset (s : State) : exec .coldReset s = execColdReset s := rfl
@[simp] theorem exec_brownOut (sup : Nat) (mv : Nat) (s : State) : exec (.brownOut sup mv) s = execBrownOut sup mv s := rfl
@[simp] theorem exec_resetPin (s : State) : exec .resetPin s = execResetPin s := rfl
@[simp] theorem exec_watchdogExpiry (s : State) : exec .watchdogExpiry s = execWatchdogExpiry s := rfl
@[simp] theorem exec_kindleReset (w : Who) (key : Nat) (s : State) : exec (.kindleReset w key) s = execKindleReset w key s := rfl
@[simp] theorem exec_resetRelease (s : State) : exec .resetRelease s = execResetRelease s := rfl
@[simp] theorem exec_kindle (x : KindleIn) (s : State) : exec (.kindle x) s = execKindle x s := rfl
@[simp] theorem exec_flashRead (w : Who) (s : State) : exec (.flashRead w) s = execFlashRead w s := rfl
@[simp] theorem exec_flashProgram (w : Who) (rbuf : Bool) (s : State) : exec (.flashProgram w rbuf) s = execFlashProgram w rbuf s := rfl
@[simp] theorem exec_flashErase (w : Who) (s : State) : exec (.flashErase w) s = execFlashErase w s := rfl
@[simp] theorem exec_jappend (w : Who) (half : Nat) (s : State) : exec (.jappend w half) s = execJappend w half s := rfl
@[simp] theorem exec_flashOpDone (err : Nat) (s : State) : exec (.flashOpDone err) s = execFlashOpDone err s := rfl
@[simp] theorem exec_otpProg (w : Who) (word : Nat) (s : State) : exec (.otpProg w word) s = execOtpProg w word s := rfl
@[simp] theorem exec_otpAdvance (w : Who) (s : State) : exec (.otpAdvance w) s = execOtpAdvance w s := rfl
@[simp] theorem exec_otpOpDone (ok : Bool) (s : State) : exec (.otpOpDone ok) s = execOtpOpDone ok s := rfl
@[simp] theorem exec_mramRecordWrite (s : State) : exec .mramRecordWrite s = execMramRecordWrite s := rfl
@[simp] theorem exec_mramPost (w : Who) (s : State) : exec (.mramPost w) s = execMramPost w s := rfl
@[simp] theorem exec_runSecond (s : State) : exec .runSecond s = execRunSecond s := rfl
@[simp] theorem exec_holdRequest (w : Who) (s : State) : exec (.holdRequest w) s = execHoldRequest w s := rfl
@[simp] theorem exec_holdExitRequest (w : Who) (s : State) : exec (.holdExitRequest w) s = execHoldExitRequest w s := rfl
@[simp] theorem exec_holdLimit (s : State) : exec .holdLimit s = execHoldLimit s := rfl
@[simp] theorem exec_qexit (w : Who) (s : State) : exec (.qexit w) s = execQexit w s := rfl
@[simp] theorem exec_emberReq (w : Who) (s : State) : exec (.emberReq w) s = execEmberReq w s := rfl
@[simp] theorem exec_emberWake (src : WakeSrc) (s : State) : exec (.emberWake src) s = execEmberWake src s := rfl
@[simp] theorem exec_etimerMatch (s : State) : exec .etimerMatch s = execEtimerMatch s := rfl
@[simp] theorem exec_supplyDip (sup : Nat) (mv : Nat) (s : State) : exec (.supplyDip sup mv) s = execSupplyDip sup mv s := rfl
@[simp] theorem exec_dipExit (s : State) : exec .dipExit s = execDipExit s := rfl
@[simp] theorem exec_watchdogEnable (w : Who) (s : State) : exec (.watchdogEnable w) s = execWatchdogEnable w s := rfl
@[simp] theorem exec_watchdogKick (w : Who) (key : Nat) (s : State) : exec (.watchdogKick w key) s = execWatchdogKick w key s := rfl
@[simp] theorem exec_watchdogWarn (s : State) : exec .watchdogWarn s = execWatchdogWarn s := rfl
@[simp] theorem exec_mfuEdge (m : Nat) (lv : Nat) (time : MfuTime) (s : State) : exec (.mfuEdge m lv time) s = execMfuEdge m lv time s := rfl
@[simp] theorem exec_probeEdge (m : Nat) (lvl : Bool) (sub : Nat) (s : State) : exec (.probeEdge m lvl sub) s = execProbeEdge m lvl sub s := rfl
@[simp] theorem exec_posRead (w : Who) (m : Nat) (s : State) : exec (.posRead w m) s = execPosRead w m s := rfl
@[simp] theorem exec_posWrite (w : Who) (m : Nat) (v : Word) (s : State) : exec (.posWrite w m v) s = execPosWrite w m v s := rfl
@[simp] theorem exec_speedUpdate (m : Nat) (time : Nat) (s : State) : exec (.speedUpdate m time) s = execSpeedUpdate m time s := rfl
@[simp] theorem exec_pwmPeriodStart (m : Nat) (s : State) : exec (.pwmPeriodStart m) s = execPwmPeriodStart m s := rfl
@[simp] theorem exec_idcode (s : State) : exec .idcode s = execIdcode s := rfl
@[simp] theorem exec_samplePreload (cells : Bytes) (s : State) : exec (.samplePreload cells) s = execSamplePreload cells s := rfl
@[simp] theorem exec_extest (cells : Bytes) (s : State) : exec (.extest cells) s = execExtest cells s := rfl
@[simp] theorem exec_highz (s : State) : exec .highz s = execHighz s := rfl
@[simp] theorem exec_clamp (s : State) : exec .clamp s = execClamp s := rfl
@[simp] theorem exec_bypass (s : State) : exec .bypass s = execBypass s := rfl
@[simp] theorem exec_waimondInstruction (code : Nat) (s : State) : exec (.waimondInstruction code) s = execWaimondInstruction code s := rfl
@[simp] theorem exec_readClear (w : Who) (a : Nat) (s : State) : exec (.readClear w a) s = execReadClear w a s := rfl
@[simp] theorem exec_registerWrite (w : Who) (a : Nat) (v : Word) (be : Nat) (tlp : Tlp) (s : State) : exec (.registerWrite w a v be tlp) s = execRegisterWrite w a v be tlp s := rfl
@[simp] theorem exec_delayreqRx (p : Nat) (frame : Bytes) (turn : Nat) (s : State) : exec (.delayreqRx p frame turn) s = execDelayreqRx p frame turn s := rfl
@[simp] theorem exec_illegalInstruction (p : Nat) (s : State) : exec (.illegalInstruction p) s = execIllegalInstruction p s := rfl
@[simp] theorem exec_d3hot (on : Bool) (s : State) : exec (.d3hot on) s = execD3hot on s := rfl

end Sys2Proof.Machine
end

