-- ==== Sys2Proof/Laws/Runs.lean ====
section
/-! SUPPORT. The shared operations around a meaning: what a command that runs answers, and what the world rules let through. -/

namespace Sys2Proof.Machine

theorem keep_pending (t s : State) : (t.keep s).pending = s.pending := rfl

theorem keep_self (s : State) : s.keep s = s := rfl

theorem runs_eq {ok : Bool} {s : State} (h : ok = true) (ha : s.alive = true) (f : State → State) :
    runs ok s f = .next ((f s).keep s) := by
  simp [runs, h, ha, State.keep, State.withPending]

theorem runsEver_eq {ok : Bool} {s : State} (h : ok = true) (f : State → State) :
    runsEver ok s f = .next ((f s).keep s) := by
  simp [runsEver, h, State.keep, State.withPending]

/-- A command that runs answers a next state, and its queue is the queue it was given. -/
theorem runs_pending (ok : Bool) (s : State) (f : State → State) :
    ∃ t, runs ok s f = .next t ∧ t.pending = s.pending := by
  unfold runs
  split <;> exact ⟨_, rfl, rfl⟩

theorem runsEver_pending (ok : Bool) (s : State) (f : State → State) :
    ∃ t, runsEver ok s f = .next t ∧ t.pending = s.pending := by
  unfold runsEver
  split <;> exact ⟨_, rfl, rfl⟩

theorem asWrite_may {s : State} {w : Who} {a : Nat} {v : Word} (h : s.may w a v = true) (f : State → State) :
    s.asWrite w a v f = f s := by
  cases w <;> simp_all [State.may, State.asWrite, State.hostMem]
  all_goals
    intro h1 h2
    simp_all

theorem asRead_may {s : State} {w : Who} {a : Nat} (h : s.mayRead w a = true) (f : State → Word × State) :
    s.asRead w a f = (f s).2.emit (.read w a (f s).1) := by
  unfold State.mayRead at h
  unfold State.asRead
  generalize (s.tenantWho w && (match regAt a with | some r => r.keeper | none => false)) = blind at h
  cases blind
  · cases w <;> simp_all [State.hostMem]
  · simp at h

end Sys2Proof.Machine
end

