-- ==== Sys2Proof/Laws/Host.lean ====
section
/-! SUPPORT. The command engine of the host interface: what serving a descriptor does, said once. -/

namespace Sys2Proof.Machine

/-- A queue that serves a descriptor has it at its head. -/
theorem serves_cases {s : State} {q : Nat} {d : Desc} (h : s.serves q d = true) :
    s.settle.sqNext = some q ∧ ∃ tl, (s.settle.sqOf q).fetched = d :: tl := by
  simp only [State.serves, Bool.and_eq_true, beq_iff_eq] at h
  refine ⟨h.1, ?_⟩
  have h2 := h.2
  cases hf : (s.settle.sqOf q).fetched with
  | nil => simp [hf] at h2
  | cons a tl => simp [hf] at h2; subst h2; exact ⟨tl, rfl⟩

/-- A descriptor that is served next, of an opcode the row takes, has its effect and completes with what the effect answers
(R351, R352). -/
theorem engine_serves {s : State} {q : Nat} {d : Desc} (h : s.serves q d = true) (f : Nat → Bool)
    (hf : f (d.b 0) = true) (act : Desc → State → (Nat × Word) × State) :
    s.engine q f act = (let r := act d s.settle
      (((if r.1.1 = 1 then r.2 else r.2.executed q d).turn q).complete q r.1.1 r.1.2).settle) := by
  have h1 := serves_cases h
  cases h1 with
  | intro h1 h2 =>
  cases h2 with
  | intro tl h2 =>
  unfold State.engine
  dsimp only
  rw [h2]
  dsimp only
  rw [h1, hf]
  simp only [beq_self_eq_true, Bool.and_self, if_true]

end Sys2Proof.Machine
end

