-- ==== Sys2Proof/Laws/Sparse.lean ====
section
/-! SUPPORT. Sparse maps: a read after a write, and the canonical form that every operation keeps. -/

namespace Sys2Proof.Machine

variable {α : Type}

theorem spGet_spIns_same (d : Nat → α) (m : List (Nat × α)) (k : Nat) (v : α) : spGet d (spIns m k v) k = v := by
  induction m with
  | nil => simp [spIns, spGet]
  | cons e m ih =>
    obtain ⟨k', v'⟩ := e
    simp only [spIns]
    split
    · simp [spGet]
    · split
      · simp [spGet]
      · simp_all [spGet]

theorem spGet_spIns_ne (d : Nat → α) (m : List (Nat × α)) {k j : Nat} (v : α) (h : j ≠ k) :
    spGet d (spIns m k v) j = spGet d m j := by
  induction m with
  | nil => simp [spIns, spGet, h]
  | cons e m ih =>
    obtain ⟨k', v'⟩ := e
    simp only [spIns]
    split
    · subst_vars; simp [spGet, h]
    · split
      · simp only [spGet, h, if_false]
        split
        · rw [if_neg (by omega), if_pos (by omega)]
        · rfl
      · simp only [spGet, ih]

section
variable [DecidableEq α]

theorem spWfFrom_mono {d : Nat → α} {lo lo' : Nat} {m : List (Nat × α)} (h : lo' ≤ lo) (hm : spWfFrom d lo m = true) :
    spWfFrom d lo' m = true := by
  cases m with
  | nil => rfl
  | cons e m => simp only [spWfFrom, Bool.and_eq_true, decide_eq_true_eq] at hm ⊢; exact ⟨⟨by omega, hm.1.2⟩, hm.2⟩

/-- Below the lowest key every key reads as unlisted. -/
theorem spGet_below {d : Nat → α} {lo k : Nat} {m : List (Nat × α)} (hm : spWfFrom d lo m = true) (h : k < lo) :
    spGet d m k = d k := by
  cases m with
  | nil => rfl
  | cons e m =>
    simp only [spWfFrom, Bool.and_eq_true, decide_eq_true_eq] at hm
    rw [spGet, if_neg (by omega), if_pos (by omega)]

theorem spGet_spDel {d : Nat → α} {lo : Nat} {m : List (Nat × α)} (hm : spWfFrom d lo m = true) (k j : Nat) :
    spGet d (spDel m k) j = if j = k then d k else spGet d m j := by
  induction m generalizing lo with
  | nil => simp only [spDel, spGet]; split <;> simp_all
  | cons e m ih =>
    obtain ⟨k', v'⟩ := e
    simp only [spWfFrom, Bool.and_eq_true, decide_eq_true_eq] at hm
    have ih := ih hm.2
    simp only [spDel]
    by_cases h1 : k = k'
    · subst h1
      rw [if_pos rfl]
      by_cases h2 : j = k
      · subst h2; rw [if_pos rfl, spGet_below hm.2 (by omega)]
      · rw [if_neg h2, spGet, if_neg h2]
        by_cases h3 : j < k
        · rw [if_pos h3, spGet_below hm.2 (by omega)]
        · rw [if_neg h3]
    · rw [if_neg h1]
      by_cases h2 : k < k'
      · rw [if_pos h2]
        by_cases h3 : j = k
        · subst h3; rw [if_pos rfl, spGet, if_neg (by omega), if_pos (by omega)]
        · rw [if_neg h3]
      · rw [if_neg h2]
        by_cases h3 : j = k
        · subst h3; rw [if_pos rfl, spGet, if_neg h1, if_neg h2, ih, if_pos rfl]
        · rw [if_neg h3, spGet, spGet, ih, if_neg h3]

theorem spWfFrom_spDel {d : Nat → α} {lo : Nat} {m : List (Nat × α)} (hm : spWfFrom d lo m = true) (k : Nat) :
    spWfFrom d lo (spDel m k) = true := by
  induction m generalizing lo with
  | nil => rfl
  | cons e m ih =>
    have h0 := hm
    simp only [spWfFrom, Bool.and_eq_true, decide_eq_true_eq] at hm
    simp only [spDel]
    split
    · exact spWfFrom_mono (by omega) hm.2
    · split
      · exact h0
      · simp only [spWfFrom, Bool.and_eq_true, decide_eq_true_eq]; exact ⟨hm.1, ih hm.2⟩

theorem spWfFrom_spIns {d : Nat → α} {lo : Nat} {m : List (Nat × α)} (hm : spWfFrom d lo m = true) {k : Nat} {v : α}
    (hk : lo ≤ k) (hv : v ≠ d k) : spWfFrom d lo (spIns m k v) = true := by
  induction m generalizing lo with
  | nil => simp [spIns, spWfFrom, hk, hv]
  | cons e m ih =>
    obtain ⟨k', v'⟩ := e
    simp only [spWfFrom, Bool.and_eq_true, decide_eq_true_eq] at hm
    simp only [spIns]
    split
    · subst_vars; simp [spWfFrom, hk, hv, hm.2]
    · split
      · simp only [spWfFrom, Bool.and_eq_true, decide_eq_true_eq]
        exact ⟨⟨hk, hv⟩, ⟨⟨by omega, hm.1.2⟩, hm.2⟩⟩
      · simp only [spWfFrom, Bool.and_eq_true, decide_eq_true_eq]
        exact ⟨hm.1, ih hm.2 (by omega)⟩

theorem spWfFrom_filter {d : Nat → α} {lo : Nat} {m : List (Nat × α)} (hm : spWfFrom d lo m = true) (p : Nat × α → Bool) :
    spWfFrom d lo (m.filter p) = true := by
  induction m generalizing lo with
  | nil => rfl
  | cons e m ih =>
    simp only [spWfFrom, Bool.and_eq_true, decide_eq_true_eq] at hm
    simp only [List.filter_cons]
    split
    · simp only [spWfFrom, Bool.and_eq_true, decide_eq_true_eq]; exact ⟨hm.1, ih hm.2⟩
    · exact spWfFrom_mono (by omega) (ih hm.2)

/-- The keys of a well-formed map from `lo` are all at least `lo`, and a filter below them takes nothing away. -/
theorem spGet_filter {d : Nat → α} {lo : Nat} {m : List (Nat × α)} (hm : spWfFrom d lo m = true) (p : Nat → Bool) (k : Nat) :
    spGet d (m.filter (fun e => p e.1)) k = if p k then spGet d m k else d k := by
  induction m generalizing lo with
  | nil => simp [spGet]
  | cons e m ih =>
    obtain ⟨k', v'⟩ := e
    simp only [spWfFrom, Bool.and_eq_true, decide_eq_true_eq] at hm
    have ih := ih hm.2
    have hb : k < k' + 1 → spGet d (m.filter (fun e => p e.1)) k = d k := fun h =>
      spGet_below (spWfFrom_filter hm.2 _) h
    simp only [List.filter_cons]
    by_cases h1 : k = k'
    · subst h1
      by_cases h2 : p k = true
      · simp [h2, spGet]
      · simp [h2, hb (by omega)]
    · by_cases h3 : k < k'
      · have h4 : spGet d ((k', v') :: m) k = d k := by rw [spGet, if_neg h1, if_pos h3]
        rw [h4]
        split
        · rw [spGet, if_neg h1, if_pos h3]; simp
        · rw [hb (by omega)]; simp
      · have h4 : spGet d ((k', v') :: m) k = spGet d m k := by rw [spGet, if_neg h1, if_neg h3]
        rw [h4]
        split
        · rw [spGet, if_neg h1, if_neg h3, ih]
        · exact ih

/-- A write is read back. -/
theorem spGet_spSet_same {d : Nat → α} {m : List (Nat × α)} (hm : spWf d m = true) (k : Nat) (v : α) :
    spGet d (spSet d m k v) k = v := by
  unfold spSet
  split
  · subst_vars; rw [spGet_spDel hm]; simp
  · exact spGet_spIns_same d m k v

/-- A write leaves every other key alone. -/
theorem spGet_spSet_ne {d : Nat → α} {m : List (Nat × α)} (hm : spWf d m = true) {k j : Nat} (v : α) (h : j ≠ k) :
    spGet d (spSet d m k v) j = spGet d m j := by
  unfold spSet
  split
  · rw [spGet_spDel hm, if_neg h]
  · exact spGet_spIns_ne d m v h

/-- A write keeps the canonical form. -/
theorem spWf_spSet {d : Nat → α} {m : List (Nat × α)} (hm : spWf d m = true) (k : Nat) (v : α) :
    spWf d (spSet d m k v) = true := by
  unfold spSet
  split
  · exact spWfFrom_spDel hm k
  · exact spWfFrom_spIns hm (by omega) ‹_›

theorem spWf_spDel {d : Nat → α} {m : List (Nat × α)} (hm : spWf d m = true) (k : Nat) : spWf d (spDel m k) = true :=
  spWfFrom_spDel hm k

theorem spWf_filter {d : Nat → α} {m : List (Nat × α)} (hm : spWf d m = true) (p : Nat × α → Bool) :
    spWf d (m.filter p) = true := spWfFrom_filter hm p

/-- Equal readings are equal maps: the form is canonical. -/
theorem spWfFrom_ext {d : Nat → α} {lo lo' : Nat} {m n : List (Nat × α)} (hm : spWfFrom d lo m = true)
    (hn : spWfFrom d lo' n = true) (h : ∀ k, spGet d m k = spGet d n k) : m = n := by
  induction m generalizing lo lo' n with
  | nil =>
    cases n with
    | nil => rfl
    | cons e n =>
      have h1 := h e.1
      simp only [spWfFrom, Bool.and_eq_true, decide_eq_true_eq] at hn
      simp only [spGet, if_true] at h1
      exact absurd h1.symm hn.1.2
  | cons e m ih =>
    obtain ⟨k, v⟩ := e
    simp only [spWfFrom, Bool.and_eq_true, decide_eq_true_eq] at hm
    cases n with
    | nil => have h1 := h k; simp only [spGet, if_true] at h1; exact absurd h1 hm.1.2
    | cons e' n =>
      obtain ⟨k', v'⟩ := e'
      simp only [spWfFrom, Bool.and_eq_true, decide_eq_true_eq] at hn
      have hkk : k = k' := by
        by_contra hne
        rcases Nat.lt_or_gt_of_ne hne with hlt | hgt
        · have h1 := h k
          simp only [spGet, if_true, if_neg hne, if_pos hlt] at h1
          exact hm.1.2 h1
        · have h1 := h k'
          simp only [spGet, if_true, if_neg (Ne.symm hne), if_pos hgt] at h1
          exact hn.1.2 h1.symm
      subst hkk
      have hv : v = v' := by have h1 := h k; simpa only [spGet, if_true] using h1
      subst hv
      congr 1
      refine ih hm.2 hn.2 (fun j => ?_)
      by_cases hj : k < j
      · have h1 := h j
        simpa only [spGet, if_neg (show ¬ j = k by omega), if_neg (show ¬ j < k by omega)] using h1
      · rw [spGet_below hm.2 (by omega), spGet_below hn.2 (by omega)]

end

end Sys2Proof.Machine
end

