-- ==== Sys2Proof/Laws/State.lean ====
section
/-! SUPPORT. What each named update leaves in each field of the state: true by definition, so that no proof opens a record update. -/

namespace Sys2Proof.Machine

variable (s : State)

@[simp] theorem State.withPending_tbu (q : List Instr) : (s.withPending q).tbu = s.tbu := rfl
@[simp] theorem State.withPending_flk (q : List Instr) : (s.withPending q).flk = s.flk := rfl
@[simp] theorem State.withPending_pha (q : List Instr) : (s.withPending q).pha = s.pha := rfl
@[simp] theorem State.withPending_sns (q : List Instr) : (s.withPending q).sns = s.sns := rfl
@[simp] theorem State.withPending_anv (q : List Instr) : (s.withPending q).anv = s.anv := rfl
@[simp] theorem State.withPending_blw (q : List Instr) : (s.withPending q).blw = s.blw := rfl
@[simp] theorem State.withPending_rlc (q : List Instr) : (s.withPending q).rlc = s.rlc := rfl
@[simp] theorem State.withPending_evf (q : List Instr) : (s.withPending q).evf = s.evf := rfl
@[simp] theorem State.withPending_cores (q : List Instr) : (s.withPending q).cores = s.cores := rfl
@[simp] theorem State.withPending_uc (q : List Instr) : (s.withPending q).uc = s.uc := rfl
@[simp] theorem State.withPending_hif (q : List Instr) : (s.withPending q).hif = s.hif := rfl
@[simp] theorem State.withPending_nvc (q : List Instr) : (s.withPending q).nvc = s.nvc := rfl
@[simp] theorem State.withPending_pmu (q : List Instr) : (s.withPending q).pmu = s.pmu := rfl
@[simp] theorem State.withPending_mfu (q : List Instr) : (s.withPending q).mfu = s.mfu := rfl
@[simp] theorem State.withPending_jtag (q : List Instr) : (s.withPending q).jtag = s.jtag := rfl
@[simp] theorem State.withPending_regs (q : List Instr) : (s.withPending q).regs = s.regs := rfl
@[simp] theorem State.withPending_tickRegs (q : List Instr) : (s.withPending q).tickRegs = s.tickRegs := rfl
@[simp] theorem State.withPending_mem (q : List Instr) : (s.withPending q).mem = s.mem := rfl
@[simp] theorem State.withPending_flips (q : List Instr) : (s.withPending q).flips = s.flips := rfl
@[simp] theorem State.withPending_free (q : List Instr) : (s.withPending q).free = s.free := rfl
@[simp] theorem State.withPending_out (q : List Instr) : (s.withPending q).out = s.out := rfl
@[simp] theorem State.withPending_pending (q : List Instr) : (s.withPending q).pending = q := rfl

@[simp] theorem State.wr_tbu (a : Nat) (v : Word) : (s.wr a v).tbu = s.tbu := rfl
@[simp] theorem State.wr_flk (a : Nat) (v : Word) : (s.wr a v).flk = s.flk := rfl
@[simp] theorem State.wr_pha (a : Nat) (v : Word) : (s.wr a v).pha = s.pha := rfl
@[simp] theorem State.wr_sns (a : Nat) (v : Word) : (s.wr a v).sns = s.sns := rfl
@[simp] theorem State.wr_anv (a : Nat) (v : Word) : (s.wr a v).anv = s.anv := rfl
@[simp] theorem State.wr_blw (a : Nat) (v : Word) : (s.wr a v).blw = s.blw := rfl
@[simp] theorem State.wr_rlc (a : Nat) (v : Word) : (s.wr a v).rlc = s.rlc := rfl
@[simp] theorem State.wr_evf (a : Nat) (v : Word) : (s.wr a v).evf = s.evf := rfl
@[simp] theorem State.wr_cores (a : Nat) (v : Word) : (s.wr a v).cores = s.cores := rfl
@[simp] theorem State.wr_uc (a : Nat) (v : Word) : (s.wr a v).uc = s.uc := rfl
@[simp] theorem State.wr_hif (a : Nat) (v : Word) : (s.wr a v).hif = s.hif := rfl
@[simp] theorem State.wr_nvc (a : Nat) (v : Word) : (s.wr a v).nvc = s.nvc := rfl
@[simp] theorem State.wr_pmu (a : Nat) (v : Word) : (s.wr a v).pmu = s.pmu := rfl
@[simp] theorem State.wr_mfu (a : Nat) (v : Word) : (s.wr a v).mfu = s.mfu := rfl
@[simp] theorem State.wr_jtag (a : Nat) (v : Word) : (s.wr a v).jtag = s.jtag := rfl
@[simp] theorem State.wr_regs (a : Nat) (v : Word) : (s.wr a v).regs = spSet resetVal s.regs a v := rfl
@[simp] theorem State.wr_tickRegs (a : Nat) (v : Word) : (s.wr a v).tickRegs = s.tickRegs := rfl
@[simp] theorem State.wr_mem (a : Nat) (v : Word) : (s.wr a v).mem = s.mem := rfl
@[simp] theorem State.wr_flips (a : Nat) (v : Word) : (s.wr a v).flips = s.flips := rfl
@[simp] theorem State.wr_free (a : Nat) (v : Word) : (s.wr a v).free = s.free := rfl
@[simp] theorem State.wr_out (a : Nat) (v : Word) : (s.wr a v).out = s.out := rfl
@[simp] theorem State.wr_pending (a : Nat) (v : Word) : (s.wr a v).pending = s.pending := rfl

@[simp] theorem State.set_tbu (f : FRef) (v : Nat) : (s.set f v).tbu = s.tbu := rfl
@[simp] theorem State.set_flk (f : FRef) (v : Nat) : (s.set f v).flk = s.flk := rfl
@[simp] theorem State.set_pha (f : FRef) (v : Nat) : (s.set f v).pha = s.pha := rfl
@[simp] theorem State.set_sns (f : FRef) (v : Nat) : (s.set f v).sns = s.sns := rfl
@[simp] theorem State.set_anv (f : FRef) (v : Nat) : (s.set f v).anv = s.anv := rfl
@[simp] theorem State.set_blw (f : FRef) (v : Nat) : (s.set f v).blw = s.blw := rfl
@[simp] theorem State.set_rlc (f : FRef) (v : Nat) : (s.set f v).rlc = s.rlc := rfl
@[simp] theorem State.set_evf (f : FRef) (v : Nat) : (s.set f v).evf = s.evf := rfl
@[simp] theorem State.set_cores (f : FRef) (v : Nat) : (s.set f v).cores = s.cores := rfl
@[simp] theorem State.set_uc (f : FRef) (v : Nat) : (s.set f v).uc = s.uc := rfl
@[simp] theorem State.set_hif (f : FRef) (v : Nat) : (s.set f v).hif = s.hif := rfl
@[simp] theorem State.set_nvc (f : FRef) (v : Nat) : (s.set f v).nvc = s.nvc := rfl
@[simp] theorem State.set_pmu (f : FRef) (v : Nat) : (s.set f v).pmu = s.pmu := rfl
@[simp] theorem State.set_mfu (f : FRef) (v : Nat) : (s.set f v).mfu = s.mfu := rfl
@[simp] theorem State.set_jtag (f : FRef) (v : Nat) : (s.set f v).jtag = s.jtag := rfl
@[simp] theorem State.set_regs (f : FRef) (v : Nat) : (s.set f v).regs = spSet resetVal s.regs f.addr (putBits (s.rd f.addr) f.hi f.lo v) := rfl
@[simp] theorem State.set_tickRegs (f : FRef) (v : Nat) : (s.set f v).tickRegs = s.tickRegs := rfl
@[simp] theorem State.set_mem (f : FRef) (v : Nat) : (s.set f v).mem = s.mem := rfl
@[simp] theorem State.set_flips (f : FRef) (v : Nat) : (s.set f v).flips = s.flips := rfl
@[simp] theorem State.set_free (f : FRef) (v : Nat) : (s.set f v).free = s.free := rfl
@[simp] theorem State.set_out (f : FRef) (v : Nat) : (s.set f v).out = s.out := rfl
@[simp] theorem State.set_pending (f : FRef) (v : Nat) : (s.set f v).pending = s.pending := rfl

@[simp] theorem State.seti_tbu (f : FRef) (v : Int) : (s.seti f v).tbu = s.tbu := rfl
@[simp] theorem State.seti_flk (f : FRef) (v : Int) : (s.seti f v).flk = s.flk := rfl
@[simp] theorem State.seti_pha (f : FRef) (v : Int) : (s.seti f v).pha = s.pha := rfl
@[simp] theorem State.seti_sns (f : FRef) (v : Int) : (s.seti f v).sns = s.sns := rfl
@[simp] theorem State.seti_anv (f : FRef) (v : Int) : (s.seti f v).anv = s.anv := rfl
@[simp] theorem State.seti_blw (f : FRef) (v : Int) : (s.seti f v).blw = s.blw := rfl
@[simp] theorem State.seti_rlc (f : FRef) (v : Int) : (s.seti f v).rlc = s.rlc := rfl
@[simp] theorem State.seti_evf (f : FRef) (v : Int) : (s.seti f v).evf = s.evf := rfl
@[simp] theorem State.seti_cores (f : FRef) (v : Int) : (s.seti f v).cores = s.cores := rfl
@[simp] theorem State.seti_uc (f : FRef) (v : Int) : (s.seti f v).uc = s.uc := rfl
@[simp] theorem State.seti_hif (f : FRef) (v : Int) : (s.seti f v).hif = s.hif := rfl
@[simp] theorem State.seti_nvc (f : FRef) (v : Int) : (s.seti f v).nvc = s.nvc := rfl
@[simp] theorem State.seti_pmu (f : FRef) (v : Int) : (s.seti f v).pmu = s.pmu := rfl
@[simp] theorem State.seti_mfu (f : FRef) (v : Int) : (s.seti f v).mfu = s.mfu := rfl
@[simp] theorem State.seti_jtag (f : FRef) (v : Int) : (s.seti f v).jtag = s.jtag := rfl
@[simp] theorem State.seti_tickRegs (f : FRef) (v : Int) : (s.seti f v).tickRegs = s.tickRegs := rfl
@[simp] theorem State.seti_mem (f : FRef) (v : Int) : (s.seti f v).mem = s.mem := rfl
@[simp] theorem State.seti_flips (f : FRef) (v : Int) : (s.seti f v).flips = s.flips := rfl
@[simp] theorem State.seti_free (f : FRef) (v : Int) : (s.seti f v).free = s.free := rfl
@[simp] theorem State.seti_out (f : FRef) (v : Int) : (s.seti f v).out = s.out := rfl
@[simp] theorem State.seti_pending (f : FRef) (v : Int) : (s.seti f v).pending = s.pending := rfl

@[simp] theorem State.setb_tbu (f : FRef) (b : Bool) : (s.setb f b).tbu = s.tbu := rfl
@[simp] theorem State.setb_flk (f : FRef) (b : Bool) : (s.setb f b).flk = s.flk := rfl
@[simp] theorem State.setb_pha (f : FRef) (b : Bool) : (s.setb f b).pha = s.pha := rfl
@[simp] theorem State.setb_sns (f : FRef) (b : Bool) : (s.setb f b).sns = s.sns := rfl
@[simp] theorem State.setb_anv (f : FRef) (b : Bool) : (s.setb f b).anv = s.anv := rfl
@[simp] theorem State.setb_blw (f : FRef) (b : Bool) : (s.setb f b).blw = s.blw := rfl
@[simp] theorem State.setb_rlc (f : FRef) (b : Bool) : (s.setb f b).rlc = s.rlc := rfl
@[simp] theorem State.setb_evf (f : FRef) (b : Bool) : (s.setb f b).evf = s.evf := rfl
@[simp] theorem State.setb_cores (f : FRef) (b : Bool) : (s.setb f b).cores = s.cores := rfl
@[simp] theorem State.setb_uc (f : FRef) (b : Bool) : (s.setb f b).uc = s.uc := rfl
@[simp] theorem State.setb_hif (f : FRef) (b : Bool) : (s.setb f b).hif = s.hif := rfl
@[simp] theorem State.setb_nvc (f : FRef) (b : Bool) : (s.setb f b).nvc = s.nvc := rfl
@[simp] theorem State.setb_pmu (f : FRef) (b : Bool) : (s.setb f b).pmu = s.pmu := rfl
@[simp] theorem State.setb_mfu (f : FRef) (b : Bool) : (s.setb f b).mfu = s.mfu := rfl
@[simp] theorem State.setb_jtag (f : FRef) (b : Bool) : (s.setb f b).jtag = s.jtag := rfl
@[simp] theorem State.setb_tickRegs (f : FRef) (b : Bool) : (s.setb f b).tickRegs = s.tickRegs := rfl
@[simp] theorem State.setb_mem (f : FRef) (b : Bool) : (s.setb f b).mem = s.mem := rfl
@[simp] theorem State.setb_flips (f : FRef) (b : Bool) : (s.setb f b).flips = s.flips := rfl
@[simp] theorem State.setb_free (f : FRef) (b : Bool) : (s.setb f b).free = s.free := rfl
@[simp] theorem State.setb_out (f : FRef) (b : Bool) : (s.setb f b).out = s.out := rfl
@[simp] theorem State.setb_pending (f : FRef) (b : Bool) : (s.setb f b).pending = s.pending := rfl

@[simp] theorem State.bump_tbu (f : FRef) : (s.bump f).tbu = s.tbu := rfl
@[simp] theorem State.bump_flk (f : FRef) : (s.bump f).flk = s.flk := rfl
@[simp] theorem State.bump_pha (f : FRef) : (s.bump f).pha = s.pha := rfl
@[simp] theorem State.bump_sns (f : FRef) : (s.bump f).sns = s.sns := rfl
@[simp] theorem State.bump_anv (f : FRef) : (s.bump f).anv = s.anv := rfl
@[simp] theorem State.bump_blw (f : FRef) : (s.bump f).blw = s.blw := rfl
@[simp] theorem State.bump_rlc (f : FRef) : (s.bump f).rlc = s.rlc := rfl
@[simp] theorem State.bump_evf (f : FRef) : (s.bump f).evf = s.evf := rfl
@[simp] theorem State.bump_cores (f : FRef) : (s.bump f).cores = s.cores := rfl
@[simp] theorem State.bump_uc (f : FRef) : (s.bump f).uc = s.uc := rfl
@[simp] theorem State.bump_hif (f : FRef) : (s.bump f).hif = s.hif := rfl
@[simp] theorem State.bump_nvc (f : FRef) : (s.bump f).nvc = s.nvc := rfl
@[simp] theorem State.bump_pmu (f : FRef) : (s.bump f).pmu = s.pmu := rfl
@[simp] theorem State.bump_mfu (f : FRef) : (s.bump f).mfu = s.mfu := rfl
@[simp] theorem State.bump_jtag (f : FRef) : (s.bump f).jtag = s.jtag := rfl
@[simp] theorem State.bump_tickRegs (f : FRef) : (s.bump f).tickRegs = s.tickRegs := rfl
@[simp] theorem State.bump_mem (f : FRef) : (s.bump f).mem = s.mem := rfl
@[simp] theorem State.bump_flips (f : FRef) : (s.bump f).flips = s.flips := rfl
@[simp] theorem State.bump_free (f : FRef) : (s.bump f).free = s.free := rfl
@[simp] theorem State.bump_out (f : FRef) : (s.bump f).out = s.out := rfl
@[simp] theorem State.bump_pending (f : FRef) : (s.bump f).pending = s.pending := rfl

@[simp] theorem State.bumpBy_tbu (f : FRef) (n : Nat) : (s.bumpBy f n).tbu = s.tbu := rfl
@[simp] theorem State.bumpBy_flk (f : FRef) (n : Nat) : (s.bumpBy f n).flk = s.flk := rfl
@[simp] theorem State.bumpBy_pha (f : FRef) (n : Nat) : (s.bumpBy f n).pha = s.pha := rfl
@[simp] theorem State.bumpBy_sns (f : FRef) (n : Nat) : (s.bumpBy f n).sns = s.sns := rfl
@[simp] theorem State.bumpBy_anv (f : FRef) (n : Nat) : (s.bumpBy f n).anv = s.anv := rfl
@[simp] theorem State.bumpBy_blw (f : FRef) (n : Nat) : (s.bumpBy f n).blw = s.blw := rfl
@[simp] theorem State.bumpBy_rlc (f : FRef) (n : Nat) : (s.bumpBy f n).rlc = s.rlc := rfl
@[simp] theorem State.bumpBy_evf (f : FRef) (n : Nat) : (s.bumpBy f n).evf = s.evf := rfl
@[simp] theorem State.bumpBy_cores (f : FRef) (n : Nat) : (s.bumpBy f n).cores = s.cores := rfl
@[simp] theorem State.bumpBy_uc (f : FRef) (n : Nat) : (s.bumpBy f n).uc = s.uc := rfl
@[simp] theorem State.bumpBy_hif (f : FRef) (n : Nat) : (s.bumpBy f n).hif = s.hif := rfl
@[simp] theorem State.bumpBy_nvc (f : FRef) (n : Nat) : (s.bumpBy f n).nvc = s.nvc := rfl
@[simp] theorem State.bumpBy_pmu (f : FRef) (n : Nat) : (s.bumpBy f n).pmu = s.pmu := rfl
@[simp] theorem State.bumpBy_mfu (f : FRef) (n : Nat) : (s.bumpBy f n).mfu = s.mfu := rfl
@[simp] theorem State.bumpBy_jtag (f : FRef) (n : Nat) : (s.bumpBy f n).jtag = s.jtag := rfl
@[simp] theorem State.bumpBy_tickRegs (f : FRef) (n : Nat) : (s.bumpBy f n).tickRegs = s.tickRegs := rfl
@[simp] theorem State.bumpBy_mem (f : FRef) (n : Nat) : (s.bumpBy f n).mem = s.mem := rfl
@[simp] theorem State.bumpBy_flips (f : FRef) (n : Nat) : (s.bumpBy f n).flips = s.flips := rfl
@[simp] theorem State.bumpBy_free (f : FRef) (n : Nat) : (s.bumpBy f n).free = s.free := rfl
@[simp] theorem State.bumpBy_out (f : FRef) (n : Nat) : (s.bumpBy f n).out = s.out := rfl
@[simp] theorem State.bumpBy_pending (f : FRef) (n : Nat) : (s.bumpBy f n).pending = s.pending := rfl

@[simp] theorem State.setBit_tbu (a i : Nat) (b : Bool) : (s.setBit a i b).tbu = s.tbu := rfl
@[simp] theorem State.setBit_flk (a i : Nat) (b : Bool) : (s.setBit a i b).flk = s.flk := rfl
@[simp] theorem State.setBit_pha (a i : Nat) (b : Bool) : (s.setBit a i b).pha = s.pha := rfl
@[simp] theorem State.setBit_sns (a i : Nat) (b : Bool) : (s.setBit a i b).sns = s.sns := rfl
@[simp] theorem State.setBit_anv (a i : Nat) (b : Bool) : (s.setBit a i b).anv = s.anv := rfl
@[simp] theorem State.setBit_blw (a i : Nat) (b : Bool) : (s.setBit a i b).blw = s.blw := rfl
@[simp] theorem State.setBit_rlc (a i : Nat) (b : Bool) : (s.setBit a i b).rlc = s.rlc := rfl
@[simp] theorem State.setBit_evf (a i : Nat) (b : Bool) : (s.setBit a i b).evf = s.evf := rfl
@[simp] theorem State.setBit_cores (a i : Nat) (b : Bool) : (s.setBit a i b).cores = s.cores := rfl
@[simp] theorem State.setBit_uc (a i : Nat) (b : Bool) : (s.setBit a i b).uc = s.uc := rfl
@[simp] theorem State.setBit_hif (a i : Nat) (b : Bool) : (s.setBit a i b).hif = s.hif := rfl
@[simp] theorem State.setBit_nvc (a i : Nat) (b : Bool) : (s.setBit a i b).nvc = s.nvc := rfl
@[simp] theorem State.setBit_pmu (a i : Nat) (b : Bool) : (s.setBit a i b).pmu = s.pmu := rfl
@[simp] theorem State.setBit_mfu (a i : Nat) (b : Bool) : (s.setBit a i b).mfu = s.mfu := rfl
@[simp] theorem State.setBit_jtag (a i : Nat) (b : Bool) : (s.setBit a i b).jtag = s.jtag := rfl
@[simp] theorem State.setBit_tickRegs (a i : Nat) (b : Bool) : (s.setBit a i b).tickRegs = s.tickRegs := rfl
@[simp] theorem State.setBit_mem (a i : Nat) (b : Bool) : (s.setBit a i b).mem = s.mem := rfl
@[simp] theorem State.setBit_flips (a i : Nat) (b : Bool) : (s.setBit a i b).flips = s.flips := rfl
@[simp] theorem State.setBit_free (a i : Nat) (b : Bool) : (s.setBit a i b).free = s.free := rfl
@[simp] theorem State.setBit_out (a i : Nat) (b : Bool) : (s.setBit a i b).out = s.out := rfl
@[simp] theorem State.setBit_pending (a i : Nat) (b : Bool) : (s.setBit a i b).pending = s.pending := rfl

@[simp] theorem State.emit_tbu (o : Out) : (s.emit o).tbu = s.tbu := rfl
@[simp] theorem State.emit_flk (o : Out) : (s.emit o).flk = s.flk := rfl
@[simp] theorem State.emit_pha (o : Out) : (s.emit o).pha = s.pha := rfl
@[simp] theorem State.emit_sns (o : Out) : (s.emit o).sns = s.sns := rfl
@[simp] theorem State.emit_anv (o : Out) : (s.emit o).anv = s.anv := rfl
@[simp] theorem State.emit_blw (o : Out) : (s.emit o).blw = s.blw := rfl
@[simp] theorem State.emit_rlc (o : Out) : (s.emit o).rlc = s.rlc := rfl
@[simp] theorem State.emit_evf (o : Out) : (s.emit o).evf = s.evf := rfl
@[simp] theorem State.emit_cores (o : Out) : (s.emit o).cores = s.cores := rfl
@[simp] theorem State.emit_uc (o : Out) : (s.emit o).uc = s.uc := rfl
@[simp] theorem State.emit_hif (o : Out) : (s.emit o).hif = s.hif := rfl
@[simp] theorem State.emit_nvc (o : Out) : (s.emit o).nvc = s.nvc := rfl
@[simp] theorem State.emit_pmu (o : Out) : (s.emit o).pmu = s.pmu := rfl
@[simp] theorem State.emit_mfu (o : Out) : (s.emit o).mfu = s.mfu := rfl
@[simp] theorem State.emit_jtag (o : Out) : (s.emit o).jtag = s.jtag := rfl
@[simp] theorem State.emit_regs (o : Out) : (s.emit o).regs = s.regs := rfl
@[simp] theorem State.emit_tickRegs (o : Out) : (s.emit o).tickRegs = s.tickRegs := rfl
@[simp] theorem State.emit_mem (o : Out) : (s.emit o).mem = s.mem := rfl
@[simp] theorem State.emit_flips (o : Out) : (s.emit o).flips = s.flips := rfl
@[simp] theorem State.emit_free (o : Out) : (s.emit o).free = s.free := rfl
@[simp] theorem State.emit_out (o : Out) : (s.emit o).out = o :: s.out := rfl
@[simp] theorem State.emit_pending (o : Out) : (s.emit o).pending = s.pending := rfl

@[simp] theorem State.drawn_tbu : (s.drawn).tbu = s.tbu := rfl
@[simp] theorem State.drawn_flk : (s.drawn).flk = s.flk := rfl
@[simp] theorem State.drawn_pha : (s.drawn).pha = s.pha := rfl
@[simp] theorem State.drawn_sns : (s.drawn).sns = s.sns := rfl
@[simp] theorem State.drawn_anv : (s.drawn).anv = s.anv := rfl
@[simp] theorem State.drawn_blw : (s.drawn).blw = s.blw := rfl
@[simp] theorem State.drawn_rlc : (s.drawn).rlc = s.rlc := rfl
@[simp] theorem State.drawn_evf : (s.drawn).evf = s.evf := rfl
@[simp] theorem State.drawn_cores : (s.drawn).cores = s.cores := rfl
@[simp] theorem State.drawn_uc : (s.drawn).uc = s.uc := rfl
@[simp] theorem State.drawn_hif : (s.drawn).hif = s.hif := rfl
@[simp] theorem State.drawn_nvc : (s.drawn).nvc = s.nvc := rfl
@[simp] theorem State.drawn_pmu : (s.drawn).pmu = s.pmu := rfl
@[simp] theorem State.drawn_mfu : (s.drawn).mfu = s.mfu := rfl
@[simp] theorem State.drawn_jtag : (s.drawn).jtag = s.jtag := rfl
@[simp] theorem State.drawn_regs : (s.drawn).regs = s.regs := rfl
@[simp] theorem State.drawn_tickRegs : (s.drawn).tickRegs = s.tickRegs := rfl
@[simp] theorem State.drawn_mem : (s.drawn).mem = s.mem := rfl
@[simp] theorem State.drawn_flips : (s.drawn).flips = s.flips := rfl
@[simp] theorem State.drawn_free : (s.drawn).free = s.free + 1 := rfl
@[simp] theorem State.drawn_out : (s.drawn).out = s.out := rfl
@[simp] theorem State.drawn_pending : (s.drawn).pending = s.pending := rfl

@[simp] theorem State.modPh_tbu (n : Nat) (f : PhaseX → PhaseX) : (s.modPh n f).tbu = s.tbu := rfl
@[simp] theorem State.modPh_flk (n : Nat) (f : PhaseX → PhaseX) : (s.modPh n f).flk = s.flk := rfl
@[simp] theorem State.modPh_sns (n : Nat) (f : PhaseX → PhaseX) : (s.modPh n f).sns = s.sns := rfl
@[simp] theorem State.modPh_anv (n : Nat) (f : PhaseX → PhaseX) : (s.modPh n f).anv = s.anv := rfl
@[simp] theorem State.modPh_blw (n : Nat) (f : PhaseX → PhaseX) : (s.modPh n f).blw = s.blw := rfl
@[simp] theorem State.modPh_rlc (n : Nat) (f : PhaseX → PhaseX) : (s.modPh n f).rlc = s.rlc := rfl
@[simp] theorem State.modPh_evf (n : Nat) (f : PhaseX → PhaseX) : (s.modPh n f).evf = s.evf := rfl
@[simp] theorem State.modPh_cores (n : Nat) (f : PhaseX → PhaseX) : (s.modPh n f).cores = s.cores := rfl
@[simp] theorem State.modPh_uc (n : Nat) (f : PhaseX → PhaseX) : (s.modPh n f).uc = s.uc := rfl
@[simp] theorem State.modPh_hif (n : Nat) (f : PhaseX → PhaseX) : (s.modPh n f).hif = s.hif := rfl
@[simp] theorem State.modPh_nvc (n : Nat) (f : PhaseX → PhaseX) : (s.modPh n f).nvc = s.nvc := rfl
@[simp] theorem State.modPh_pmu (n : Nat) (f : PhaseX → PhaseX) : (s.modPh n f).pmu = s.pmu := rfl
@[simp] theorem State.modPh_mfu (n : Nat) (f : PhaseX → PhaseX) : (s.modPh n f).mfu = s.mfu := rfl
@[simp] theorem State.modPh_jtag (n : Nat) (f : PhaseX → PhaseX) : (s.modPh n f).jtag = s.jtag := rfl
@[simp] theorem State.modPh_regs (n : Nat) (f : PhaseX → PhaseX) : (s.modPh n f).regs = s.regs := rfl
@[simp] theorem State.modPh_tickRegs (n : Nat) (f : PhaseX → PhaseX) : (s.modPh n f).tickRegs = s.tickRegs := rfl
@[simp] theorem State.modPh_mem (n : Nat) (f : PhaseX → PhaseX) : (s.modPh n f).mem = s.mem := rfl
@[simp] theorem State.modPh_flips (n : Nat) (f : PhaseX → PhaseX) : (s.modPh n f).flips = s.flips := rfl
@[simp] theorem State.modPh_free (n : Nat) (f : PhaseX → PhaseX) : (s.modPh n f).free = s.free := rfl
@[simp] theorem State.modPh_out (n : Nat) (f : PhaseX → PhaseX) : (s.modPh n f).out = s.out := rfl
@[simp] theorem State.modPh_pending (n : Nat) (f : PhaseX → PhaseX) : (s.modPh n f).pending = s.pending := rfl

@[simp] theorem State.modRx_tbu (r : Nat) (f : RailX → RailX) : (s.modRx r f).tbu = s.tbu := rfl
@[simp] theorem State.modRx_flk (r : Nat) (f : RailX → RailX) : (s.modRx r f).flk = s.flk := rfl
@[simp] theorem State.modRx_sns (r : Nat) (f : RailX → RailX) : (s.modRx r f).sns = s.sns := rfl
@[simp] theorem State.modRx_anv (r : Nat) (f : RailX → RailX) : (s.modRx r f).anv = s.anv := rfl
@[simp] theorem State.modRx_blw (r : Nat) (f : RailX → RailX) : (s.modRx r f).blw = s.blw := rfl
@[simp] theorem State.modRx_rlc (r : Nat) (f : RailX → RailX) : (s.modRx r f).rlc = s.rlc := rfl
@[simp] theorem State.modRx_evf (r : Nat) (f : RailX → RailX) : (s.modRx r f).evf = s.evf := rfl
@[simp] theorem State.modRx_cores (r : Nat) (f : RailX → RailX) : (s.modRx r f).cores = s.cores := rfl
@[simp] theorem State.modRx_uc (r : Nat) (f : RailX → RailX) : (s.modRx r f).uc = s.uc := rfl
@[simp] theorem State.modRx_hif (r : Nat) (f : RailX → RailX) : (s.modRx r f).hif = s.hif := rfl
@[simp] theorem State.modRx_nvc (r : Nat) (f : RailX → RailX) : (s.modRx r f).nvc = s.nvc := rfl
@[simp] theorem State.modRx_pmu (r : Nat) (f : RailX → RailX) : (s.modRx r f).pmu = s.pmu := rfl
@[simp] theorem State.modRx_mfu (r : Nat) (f : RailX → RailX) : (s.modRx r f).mfu = s.mfu := rfl
@[simp] theorem State.modRx_jtag (r : Nat) (f : RailX → RailX) : (s.modRx r f).jtag = s.jtag := rfl
@[simp] theorem State.modRx_regs (r : Nat) (f : RailX → RailX) : (s.modRx r f).regs = s.regs := rfl
@[simp] theorem State.modRx_tickRegs (r : Nat) (f : RailX → RailX) : (s.modRx r f).tickRegs = s.tickRegs := rfl
@[simp] theorem State.modRx_mem (r : Nat) (f : RailX → RailX) : (s.modRx r f).mem = s.mem := rfl
@[simp] theorem State.modRx_flips (r : Nat) (f : RailX → RailX) : (s.modRx r f).flips = s.flips := rfl
@[simp] theorem State.modRx_free (r : Nat) (f : RailX → RailX) : (s.modRx r f).free = s.free := rfl
@[simp] theorem State.modRx_out (r : Nat) (f : RailX → RailX) : (s.modRx r f).out = s.out := rfl
@[simp] theorem State.modRx_pending (r : Nat) (f : RailX → RailX) : (s.modRx r f).pending = s.pending := rfl

@[simp] theorem State.modLn_tbu (l : Nat) (f : Lane → Lane) : (s.modLn l f).tbu = s.tbu := rfl
@[simp] theorem State.modLn_flk (l : Nat) (f : Lane → Lane) : (s.modLn l f).flk = s.flk := rfl
@[simp] theorem State.modLn_pha (l : Nat) (f : Lane → Lane) : (s.modLn l f).pha = s.pha := rfl
@[simp] theorem State.modLn_sns (l : Nat) (f : Lane → Lane) : (s.modLn l f).sns = s.sns := rfl
@[simp] theorem State.modLn_blw (l : Nat) (f : Lane → Lane) : (s.modLn l f).blw = s.blw := rfl
@[simp] theorem State.modLn_rlc (l : Nat) (f : Lane → Lane) : (s.modLn l f).rlc = s.rlc := rfl
@[simp] theorem State.modLn_evf (l : Nat) (f : Lane → Lane) : (s.modLn l f).evf = s.evf := rfl
@[simp] theorem State.modLn_cores (l : Nat) (f : Lane → Lane) : (s.modLn l f).cores = s.cores := rfl
@[simp] theorem State.modLn_uc (l : Nat) (f : Lane → Lane) : (s.modLn l f).uc = s.uc := rfl
@[simp] theorem State.modLn_hif (l : Nat) (f : Lane → Lane) : (s.modLn l f).hif = s.hif := rfl
@[simp] theorem State.modLn_nvc (l : Nat) (f : Lane → Lane) : (s.modLn l f).nvc = s.nvc := rfl
@[simp] theorem State.modLn_pmu (l : Nat) (f : Lane → Lane) : (s.modLn l f).pmu = s.pmu := rfl
@[simp] theorem State.modLn_mfu (l : Nat) (f : Lane → Lane) : (s.modLn l f).mfu = s.mfu := rfl
@[simp] theorem State.modLn_jtag (l : Nat) (f : Lane → Lane) : (s.modLn l f).jtag = s.jtag := rfl
@[simp] theorem State.modLn_regs (l : Nat) (f : Lane → Lane) : (s.modLn l f).regs = s.regs := rfl
@[simp] theorem State.modLn_tickRegs (l : Nat) (f : Lane → Lane) : (s.modLn l f).tickRegs = s.tickRegs := rfl
@[simp] theorem State.modLn_mem (l : Nat) (f : Lane → Lane) : (s.modLn l f).mem = s.mem := rfl
@[simp] theorem State.modLn_flips (l : Nat) (f : Lane → Lane) : (s.modLn l f).flips = s.flips := rfl
@[simp] theorem State.modLn_free (l : Nat) (f : Lane → Lane) : (s.modLn l f).free = s.free := rfl
@[simp] theorem State.modLn_out (l : Nat) (f : Lane → Lane) : (s.modLn l f).out = s.out := rfl
@[simp] theorem State.modLn_pending (l : Nat) (f : Lane → Lane) : (s.modLn l f).pending = s.pending := rfl

@[simp] theorem State.modBl_tbu (r : Nat) (f : BlwRail → BlwRail) : (s.modBl r f).tbu = s.tbu := rfl
@[simp] theorem State.modBl_flk (r : Nat) (f : BlwRail → BlwRail) : (s.modBl r f).flk = s.flk := rfl
@[simp] theorem State.modBl_pha (r : Nat) (f : BlwRail → BlwRail) : (s.modBl r f).pha = s.pha := rfl
@[simp] theorem State.modBl_sns (r : Nat) (f : BlwRail → BlwRail) : (s.modBl r f).sns = s.sns := rfl
@[simp] theorem State.modBl_anv (r : Nat) (f : BlwRail → BlwRail) : (s.modBl r f).anv = s.anv := rfl
@[simp] theorem State.modBl_rlc (r : Nat) (f : BlwRail → BlwRail) : (s.modBl r f).rlc = s.rlc := rfl
@[simp] theorem State.modBl_evf (r : Nat) (f : BlwRail → BlwRail) : (s.modBl r f).evf = s.evf := rfl
@[simp] theorem State.modBl_cores (r : Nat) (f : BlwRail → BlwRail) : (s.modBl r f).cores = s.cores := rfl
@[simp] theorem State.modBl_uc (r : Nat) (f : BlwRail → BlwRail) : (s.modBl r f).uc = s.uc := rfl
@[simp] theorem State.modBl_hif (r : Nat) (f : BlwRail → BlwRail) : (s.modBl r f).hif = s.hif := rfl
@[simp] theorem State.modBl_nvc (r : Nat) (f : BlwRail → BlwRail) : (s.modBl r f).nvc = s.nvc := rfl
@[simp] theorem State.modBl_pmu (r : Nat) (f : BlwRail → BlwRail) : (s.modBl r f).pmu = s.pmu := rfl
@[simp] theorem State.modBl_mfu (r : Nat) (f : BlwRail → BlwRail) : (s.modBl r f).mfu = s.mfu := rfl
@[simp] theorem State.modBl_jtag (r : Nat) (f : BlwRail → BlwRail) : (s.modBl r f).jtag = s.jtag := rfl
@[simp] theorem State.modBl_regs (r : Nat) (f : BlwRail → BlwRail) : (s.modBl r f).regs = s.regs := rfl
@[simp] theorem State.modBl_tickRegs (r : Nat) (f : BlwRail → BlwRail) : (s.modBl r f).tickRegs = s.tickRegs := rfl
@[simp] theorem State.modBl_mem (r : Nat) (f : BlwRail → BlwRail) : (s.modBl r f).mem = s.mem := rfl
@[simp] theorem State.modBl_flips (r : Nat) (f : BlwRail → BlwRail) : (s.modBl r f).flips = s.flips := rfl
@[simp] theorem State.modBl_free (r : Nat) (f : BlwRail → BlwRail) : (s.modBl r f).free = s.free := rfl
@[simp] theorem State.modBl_out (r : Nat) (f : BlwRail → BlwRail) : (s.modBl r f).out = s.out := rfl
@[simp] theorem State.modBl_pending (r : Nat) (f : BlwRail → BlwRail) : (s.modBl r f).pending = s.pending := rfl

@[simp] theorem State.modRl_tbu (r : Nat) (f : RlcRail → RlcRail) : (s.modRl r f).tbu = s.tbu := rfl
@[simp] theorem State.modRl_flk (r : Nat) (f : RlcRail → RlcRail) : (s.modRl r f).flk = s.flk := rfl
@[simp] theorem State.modRl_pha (r : Nat) (f : RlcRail → RlcRail) : (s.modRl r f).pha = s.pha := rfl
@[simp] theorem State.modRl_sns (r : Nat) (f : RlcRail → RlcRail) : (s.modRl r f).sns = s.sns := rfl
@[simp] theorem State.modRl_anv (r : Nat) (f : RlcRail → RlcRail) : (s.modRl r f).anv = s.anv := rfl
@[simp] theorem State.modRl_blw (r : Nat) (f : RlcRail → RlcRail) : (s.modRl r f).blw = s.blw := rfl
@[simp] theorem State.modRl_evf (r : Nat) (f : RlcRail → RlcRail) : (s.modRl r f).evf = s.evf := rfl
@[simp] theorem State.modRl_cores (r : Nat) (f : RlcRail → RlcRail) : (s.modRl r f).cores = s.cores := rfl
@[simp] theorem State.modRl_uc (r : Nat) (f : RlcRail → RlcRail) : (s.modRl r f).uc = s.uc := rfl
@[simp] theorem State.modRl_hif (r : Nat) (f : RlcRail → RlcRail) : (s.modRl r f).hif = s.hif := rfl
@[simp] theorem State.modRl_nvc (r : Nat) (f : RlcRail → RlcRail) : (s.modRl r f).nvc = s.nvc := rfl
@[simp] theorem State.modRl_pmu (r : Nat) (f : RlcRail → RlcRail) : (s.modRl r f).pmu = s.pmu := rfl
@[simp] theorem State.modRl_mfu (r : Nat) (f : RlcRail → RlcRail) : (s.modRl r f).mfu = s.mfu := rfl
@[simp] theorem State.modRl_jtag (r : Nat) (f : RlcRail → RlcRail) : (s.modRl r f).jtag = s.jtag := rfl
@[simp] theorem State.modRl_regs (r : Nat) (f : RlcRail → RlcRail) : (s.modRl r f).regs = s.regs := rfl
@[simp] theorem State.modRl_tickRegs (r : Nat) (f : RlcRail → RlcRail) : (s.modRl r f).tickRegs = s.tickRegs := rfl
@[simp] theorem State.modRl_mem (r : Nat) (f : RlcRail → RlcRail) : (s.modRl r f).mem = s.mem := rfl
@[simp] theorem State.modRl_flips (r : Nat) (f : RlcRail → RlcRail) : (s.modRl r f).flips = s.flips := rfl
@[simp] theorem State.modRl_free (r : Nat) (f : RlcRail → RlcRail) : (s.modRl r f).free = s.free := rfl
@[simp] theorem State.modRl_out (r : Nat) (f : RlcRail → RlcRail) : (s.modRl r f).out = s.out := rfl
@[simp] theorem State.modRl_pending (r : Nat) (f : RlcRail → RlcRail) : (s.modRl r f).pending = s.pending := rfl

@[simp] theorem State.modCore_tbu (p : Nat) (f : PyCore → PyCore) : (s.modCore p f).tbu = s.tbu := rfl
@[simp] theorem State.modCore_flk (p : Nat) (f : PyCore → PyCore) : (s.modCore p f).flk = s.flk := rfl
@[simp] theorem State.modCore_pha (p : Nat) (f : PyCore → PyCore) : (s.modCore p f).pha = s.pha := rfl
@[simp] theorem State.modCore_sns (p : Nat) (f : PyCore → PyCore) : (s.modCore p f).sns = s.sns := rfl
@[simp] theorem State.modCore_anv (p : Nat) (f : PyCore → PyCore) : (s.modCore p f).anv = s.anv := rfl
@[simp] theorem State.modCore_blw (p : Nat) (f : PyCore → PyCore) : (s.modCore p f).blw = s.blw := rfl
@[simp] theorem State.modCore_rlc (p : Nat) (f : PyCore → PyCore) : (s.modCore p f).rlc = s.rlc := rfl
@[simp] theorem State.modCore_evf (p : Nat) (f : PyCore → PyCore) : (s.modCore p f).evf = s.evf := rfl
@[simp] theorem State.modCore_cores (p : Nat) (f : PyCore → PyCore) : (s.modCore p f).cores = modNth s.cores p f := rfl
@[simp] theorem State.modCore_uc (p : Nat) (f : PyCore → PyCore) : (s.modCore p f).uc = s.uc := rfl
@[simp] theorem State.modCore_hif (p : Nat) (f : PyCore → PyCore) : (s.modCore p f).hif = s.hif := rfl
@[simp] theorem State.modCore_nvc (p : Nat) (f : PyCore → PyCore) : (s.modCore p f).nvc = s.nvc := rfl
@[simp] theorem State.modCore_pmu (p : Nat) (f : PyCore → PyCore) : (s.modCore p f).pmu = s.pmu := rfl
@[simp] theorem State.modCore_mfu (p : Nat) (f : PyCore → PyCore) : (s.modCore p f).mfu = s.mfu := rfl
@[simp] theorem State.modCore_jtag (p : Nat) (f : PyCore → PyCore) : (s.modCore p f).jtag = s.jtag := rfl
@[simp] theorem State.modCore_regs (p : Nat) (f : PyCore → PyCore) : (s.modCore p f).regs = s.regs := rfl
@[simp] theorem State.modCore_tickRegs (p : Nat) (f : PyCore → PyCore) : (s.modCore p f).tickRegs = s.tickRegs := rfl
@[simp] theorem State.modCore_mem (p : Nat) (f : PyCore → PyCore) : (s.modCore p f).mem = s.mem := rfl
@[simp] theorem State.modCore_flips (p : Nat) (f : PyCore → PyCore) : (s.modCore p f).flips = s.flips := rfl
@[simp] theorem State.modCore_free (p : Nat) (f : PyCore → PyCore) : (s.modCore p f).free = s.free := rfl
@[simp] theorem State.modCore_out (p : Nat) (f : PyCore → PyCore) : (s.modCore p f).out = s.out := rfl
@[simp] theorem State.modCore_pending (p : Nat) (f : PyCore → PyCore) : (s.modCore p f).pending = s.pending := rfl

@[simp] theorem State.modMf_tbu (m : Nat) (f : MfuCh → MfuCh) : (s.modMf m f).tbu = s.tbu := rfl
@[simp] theorem State.modMf_flk (m : Nat) (f : MfuCh → MfuCh) : (s.modMf m f).flk = s.flk := rfl
@[simp] theorem State.modMf_pha (m : Nat) (f : MfuCh → MfuCh) : (s.modMf m f).pha = s.pha := rfl
@[simp] theorem State.modMf_sns (m : Nat) (f : MfuCh → MfuCh) : (s.modMf m f).sns = s.sns := rfl
@[simp] theorem State.modMf_anv (m : Nat) (f : MfuCh → MfuCh) : (s.modMf m f).anv = s.anv := rfl
@[simp] theorem State.modMf_blw (m : Nat) (f : MfuCh → MfuCh) : (s.modMf m f).blw = s.blw := rfl
@[simp] theorem State.modMf_rlc (m : Nat) (f : MfuCh → MfuCh) : (s.modMf m f).rlc = s.rlc := rfl
@[simp] theorem State.modMf_evf (m : Nat) (f : MfuCh → MfuCh) : (s.modMf m f).evf = s.evf := rfl
@[simp] theorem State.modMf_cores (m : Nat) (f : MfuCh → MfuCh) : (s.modMf m f).cores = s.cores := rfl
@[simp] theorem State.modMf_uc (m : Nat) (f : MfuCh → MfuCh) : (s.modMf m f).uc = s.uc := rfl
@[simp] theorem State.modMf_hif (m : Nat) (f : MfuCh → MfuCh) : (s.modMf m f).hif = s.hif := rfl
@[simp] theorem State.modMf_nvc (m : Nat) (f : MfuCh → MfuCh) : (s.modMf m f).nvc = s.nvc := rfl
@[simp] theorem State.modMf_pmu (m : Nat) (f : MfuCh → MfuCh) : (s.modMf m f).pmu = s.pmu := rfl
@[simp] theorem State.modMf_mfu (m : Nat) (f : MfuCh → MfuCh) : (s.modMf m f).mfu = modNth s.mfu m f := rfl
@[simp] theorem State.modMf_jtag (m : Nat) (f : MfuCh → MfuCh) : (s.modMf m f).jtag = s.jtag := rfl
@[simp] theorem State.modMf_regs (m : Nat) (f : MfuCh → MfuCh) : (s.modMf m f).regs = s.regs := rfl
@[simp] theorem State.modMf_tickRegs (m : Nat) (f : MfuCh → MfuCh) : (s.modMf m f).tickRegs = s.tickRegs := rfl
@[simp] theorem State.modMf_mem (m : Nat) (f : MfuCh → MfuCh) : (s.modMf m f).mem = s.mem := rfl
@[simp] theorem State.modMf_flips (m : Nat) (f : MfuCh → MfuCh) : (s.modMf m f).flips = s.flips := rfl
@[simp] theorem State.modMf_free (m : Nat) (f : MfuCh → MfuCh) : (s.modMf m f).free = s.free := rfl
@[simp] theorem State.modMf_out (m : Nat) (f : MfuCh → MfuCh) : (s.modMf m f).out = s.out := rfl
@[simp] theorem State.modMf_pending (m : Nat) (f : MfuCh → MfuCh) : (s.modMf m f).pending = s.pending := rfl

@[simp] theorem State.alert_tbu : (s.alert).tbu = s.tbu := rfl
@[simp] theorem State.alert_flk : (s.alert).flk = s.flk := rfl
@[simp] theorem State.alert_pha : (s.alert).pha = s.pha := rfl
@[simp] theorem State.alert_sns : (s.alert).sns = s.sns := rfl
@[simp] theorem State.alert_anv : (s.alert).anv = s.anv := rfl
@[simp] theorem State.alert_blw : (s.alert).blw = s.blw := rfl
@[simp] theorem State.alert_evf : (s.alert).evf = s.evf := rfl
@[simp] theorem State.alert_cores : (s.alert).cores = s.cores := rfl
@[simp] theorem State.alert_uc : (s.alert).uc = s.uc := rfl
@[simp] theorem State.alert_hif : (s.alert).hif = s.hif := rfl
@[simp] theorem State.alert_nvc : (s.alert).nvc = s.nvc := rfl
@[simp] theorem State.alert_pmu : (s.alert).pmu = s.pmu := rfl
@[simp] theorem State.alert_mfu : (s.alert).mfu = s.mfu := rfl
@[simp] theorem State.alert_jtag : (s.alert).jtag = s.jtag := rfl
@[simp] theorem State.alert_regs : (s.alert).regs = s.regs := rfl
@[simp] theorem State.alert_tickRegs : (s.alert).tickRegs = s.tickRegs := rfl
@[simp] theorem State.alert_mem : (s.alert).mem = s.mem := rfl
@[simp] theorem State.alert_flips : (s.alert).flips = s.flips := rfl
@[simp] theorem State.alert_free : (s.alert).free = s.free := rfl
@[simp] theorem State.alert_out : (s.alert).out = s.out := rfl
@[simp] theorem State.alert_pending : (s.alert).pending = s.pending := rfl

@[simp] theorem State.setByte_tbu (k : Nat) (b : Byte) : (s.setByte k b).tbu = s.tbu := rfl
@[simp] theorem State.setByte_flk (k : Nat) (b : Byte) : (s.setByte k b).flk = s.flk := rfl
@[simp] theorem State.setByte_pha (k : Nat) (b : Byte) : (s.setByte k b).pha = s.pha := rfl
@[simp] theorem State.setByte_sns (k : Nat) (b : Byte) : (s.setByte k b).sns = s.sns := rfl
@[simp] theorem State.setByte_anv (k : Nat) (b : Byte) : (s.setByte k b).anv = s.anv := rfl
@[simp] theorem State.setByte_blw (k : Nat) (b : Byte) : (s.setByte k b).blw = s.blw := rfl
@[simp] theorem State.setByte_rlc (k : Nat) (b : Byte) : (s.setByte k b).rlc = s.rlc := rfl
@[simp] theorem State.setByte_evf (k : Nat) (b : Byte) : (s.setByte k b).evf = s.evf := rfl
@[simp] theorem State.setByte_cores (k : Nat) (b : Byte) : (s.setByte k b).cores = s.cores := rfl
@[simp] theorem State.setByte_uc (k : Nat) (b : Byte) : (s.setByte k b).uc = s.uc := rfl
@[simp] theorem State.setByte_hif (k : Nat) (b : Byte) : (s.setByte k b).hif = s.hif := rfl
@[simp] theorem State.setByte_nvc (k : Nat) (b : Byte) : (s.setByte k b).nvc = s.nvc := rfl
@[simp] theorem State.setByte_pmu (k : Nat) (b : Byte) : (s.setByte k b).pmu = s.pmu := rfl
@[simp] theorem State.setByte_mfu (k : Nat) (b : Byte) : (s.setByte k b).mfu = s.mfu := rfl
@[simp] theorem State.setByte_jtag (k : Nat) (b : Byte) : (s.setByte k b).jtag = s.jtag := rfl
@[simp] theorem State.setByte_regs (k : Nat) (b : Byte) : (s.setByte k b).regs = s.regs := rfl
@[simp] theorem State.setByte_tickRegs (k : Nat) (b : Byte) : (s.setByte k b).tickRegs = s.tickRegs := rfl
@[simp] theorem State.setByte_mem (k : Nat) (b : Byte) : (s.setByte k b).mem = spSet memDefault s.mem k b := rfl
@[simp] theorem State.setByte_flips (k : Nat) (b : Byte) : (s.setByte k b).flips = s.flips := rfl
@[simp] theorem State.setByte_free (k : Nat) (b : Byte) : (s.setByte k b).free = s.free := rfl
@[simp] theorem State.setByte_out (k : Nat) (b : Byte) : (s.setByte k b).out = s.out := rfl
@[simp] theorem State.setByte_pending (k : Nat) (b : Byte) : (s.setByte k b).pending = s.pending := rfl

@[simp] theorem State.setFlips_tbu (k : Nat) (f : BitVec 39) : (s.setFlips k f).tbu = s.tbu := rfl
@[simp] theorem State.setFlips_flk (k : Nat) (f : BitVec 39) : (s.setFlips k f).flk = s.flk := rfl
@[simp] theorem State.setFlips_pha (k : Nat) (f : BitVec 39) : (s.setFlips k f).pha = s.pha := rfl
@[simp] theorem State.setFlips_sns (k : Nat) (f : BitVec 39) : (s.setFlips k f).sns = s.sns := rfl
@[simp] theorem State.setFlips_anv (k : Nat) (f : BitVec 39) : (s.setFlips k f).anv = s.anv := rfl
@[simp] theorem State.setFlips_blw (k : Nat) (f : BitVec 39) : (s.setFlips k f).blw = s.blw := rfl
@[simp] theorem State.setFlips_rlc (k : Nat) (f : BitVec 39) : (s.setFlips k f).rlc = s.rlc := rfl
@[simp] theorem State.setFlips_evf (k : Nat) (f : BitVec 39) : (s.setFlips k f).evf = s.evf := rfl
@[simp] theorem State.setFlips_cores (k : Nat) (f : BitVec 39) : (s.setFlips k f).cores = s.cores := rfl
@[simp] theorem State.setFlips_uc (k : Nat) (f : BitVec 39) : (s.setFlips k f).uc = s.uc := rfl
@[simp] theorem State.setFlips_hif (k : Nat) (f : BitVec 39) : (s.setFlips k f).hif = s.hif := rfl
@[simp] theorem State.setFlips_nvc (k : Nat) (f : BitVec 39) : (s.setFlips k f).nvc = s.nvc := rfl
@[simp] theorem State.setFlips_pmu (k : Nat) (f : BitVec 39) : (s.setFlips k f).pmu = s.pmu := rfl
@[simp] theorem State.setFlips_mfu (k : Nat) (f : BitVec 39) : (s.setFlips k f).mfu = s.mfu := rfl
@[simp] theorem State.setFlips_jtag (k : Nat) (f : BitVec 39) : (s.setFlips k f).jtag = s.jtag := rfl
@[simp] theorem State.setFlips_regs (k : Nat) (f : BitVec 39) : (s.setFlips k f).regs = s.regs := rfl
@[simp] theorem State.setFlips_tickRegs (k : Nat) (f : BitVec 39) : (s.setFlips k f).tickRegs = s.tickRegs := rfl
@[simp] theorem State.setFlips_mem (k : Nat) (f : BitVec 39) : (s.setFlips k f).mem = s.mem := rfl
@[simp] theorem State.setFlips_flips (k : Nat) (f : BitVec 39) : (s.setFlips k f).flips = spSet (fun _ => 0) s.flips k f := rfl
@[simp] theorem State.setFlips_free (k : Nat) (f : BitVec 39) : (s.setFlips k f).free = s.free := rfl
@[simp] theorem State.setFlips_out (k : Nat) (f : BitVec 39) : (s.setFlips k f).out = s.out := rfl
@[simp] theorem State.setFlips_pending (k : Nat) (f : BitVec 39) : (s.setFlips k f).pending = s.pending := rfl

@[simp] theorem State.modBank_tbu (p b : Nat) (f : Bank → Bank) : (s.modBank p b f).tbu = s.tbu := rfl
@[simp] theorem State.modBank_flk (p b : Nat) (f : Bank → Bank) : (s.modBank p b f).flk = s.flk := rfl
@[simp] theorem State.modBank_pha (p b : Nat) (f : Bank → Bank) : (s.modBank p b f).pha = s.pha := rfl
@[simp] theorem State.modBank_sns (p b : Nat) (f : Bank → Bank) : (s.modBank p b f).sns = s.sns := rfl
@[simp] theorem State.modBank_anv (p b : Nat) (f : Bank → Bank) : (s.modBank p b f).anv = s.anv := rfl
@[simp] theorem State.modBank_blw (p b : Nat) (f : Bank → Bank) : (s.modBank p b f).blw = s.blw := rfl
@[simp] theorem State.modBank_rlc (p b : Nat) (f : Bank → Bank) : (s.modBank p b f).rlc = s.rlc := rfl
@[simp] theorem State.modBank_evf (p b : Nat) (f : Bank → Bank) : (s.modBank p b f).evf = s.evf := rfl
@[simp] theorem State.modBank_uc (p b : Nat) (f : Bank → Bank) : (s.modBank p b f).uc = s.uc := rfl
@[simp] theorem State.modBank_hif (p b : Nat) (f : Bank → Bank) : (s.modBank p b f).hif = s.hif := rfl
@[simp] theorem State.modBank_nvc (p b : Nat) (f : Bank → Bank) : (s.modBank p b f).nvc = s.nvc := rfl
@[simp] theorem State.modBank_pmu (p b : Nat) (f : Bank → Bank) : (s.modBank p b f).pmu = s.pmu := rfl
@[simp] theorem State.modBank_mfu (p b : Nat) (f : Bank → Bank) : (s.modBank p b f).mfu = s.mfu := rfl
@[simp] theorem State.modBank_jtag (p b : Nat) (f : Bank → Bank) : (s.modBank p b f).jtag = s.jtag := rfl
@[simp] theorem State.modBank_regs (p b : Nat) (f : Bank → Bank) : (s.modBank p b f).regs = s.regs := rfl
@[simp] theorem State.modBank_tickRegs (p b : Nat) (f : Bank → Bank) : (s.modBank p b f).tickRegs = s.tickRegs := rfl
@[simp] theorem State.modBank_mem (p b : Nat) (f : Bank → Bank) : (s.modBank p b f).mem = s.mem := rfl
@[simp] theorem State.modBank_flips (p b : Nat) (f : Bank → Bank) : (s.modBank p b f).flips = s.flips := rfl
@[simp] theorem State.modBank_free (p b : Nat) (f : Bank → Bank) : (s.modBank p b f).free = s.free := rfl
@[simp] theorem State.modBank_out (p b : Nat) (f : Bank → Bank) : (s.modBank p b f).out = s.out := rfl
@[simp] theorem State.modBank_pending (p b : Nat) (f : Bank → Bank) : (s.modBank p b f).pending = s.pending := rfl

@[simp] theorem State.setG_tbu (p b r : Nat) (v : Word) : (s.setG p b r v).tbu = s.tbu := rfl
@[simp] theorem State.setG_flk (p b r : Nat) (v : Word) : (s.setG p b r v).flk = s.flk := rfl
@[simp] theorem State.setG_pha (p b r : Nat) (v : Word) : (s.setG p b r v).pha = s.pha := rfl
@[simp] theorem State.setG_sns (p b r : Nat) (v : Word) : (s.setG p b r v).sns = s.sns := rfl
@[simp] theorem State.setG_anv (p b r : Nat) (v : Word) : (s.setG p b r v).anv = s.anv := rfl
@[simp] theorem State.setG_blw (p b r : Nat) (v : Word) : (s.setG p b r v).blw = s.blw := rfl
@[simp] theorem State.setG_rlc (p b r : Nat) (v : Word) : (s.setG p b r v).rlc = s.rlc := rfl
@[simp] theorem State.setG_evf (p b r : Nat) (v : Word) : (s.setG p b r v).evf = s.evf := rfl
@[simp] theorem State.setG_uc (p b r : Nat) (v : Word) : (s.setG p b r v).uc = s.uc := rfl
@[simp] theorem State.setG_hif (p b r : Nat) (v : Word) : (s.setG p b r v).hif = s.hif := rfl
@[simp] theorem State.setG_nvc (p b r : Nat) (v : Word) : (s.setG p b r v).nvc = s.nvc := rfl
@[simp] theorem State.setG_pmu (p b r : Nat) (v : Word) : (s.setG p b r v).pmu = s.pmu := rfl
@[simp] theorem State.setG_mfu (p b r : Nat) (v : Word) : (s.setG p b r v).mfu = s.mfu := rfl
@[simp] theorem State.setG_jtag (p b r : Nat) (v : Word) : (s.setG p b r v).jtag = s.jtag := rfl
@[simp] theorem State.setG_regs (p b r : Nat) (v : Word) : (s.setG p b r v).regs = s.regs := rfl
@[simp] theorem State.setG_tickRegs (p b r : Nat) (v : Word) : (s.setG p b r v).tickRegs = s.tickRegs := rfl
@[simp] theorem State.setG_mem (p b r : Nat) (v : Word) : (s.setG p b r v).mem = s.mem := rfl
@[simp] theorem State.setG_flips (p b r : Nat) (v : Word) : (s.setG p b r v).flips = s.flips := rfl
@[simp] theorem State.setG_free (p b r : Nat) (v : Word) : (s.setG p b r v).free = s.free := rfl
@[simp] theorem State.setG_out (p b r : Nat) (v : Word) : (s.setG p b r v).out = s.out := rfl
@[simp] theorem State.setG_pending (p b r : Nat) (v : Word) : (s.setG p b r v).pending = s.pending := rfl

end Sys2Proof.Machine
end

