-- ==== Sys2Proof/Laws/Regs.lean ====
section
/-! SUPPORT. Registers and numbered units: a read after a write, and what a write leaves alone. -/

namespace Sys2Proof.Machine

theorem nth_modNth_same {α : Type} {l : List α} {i : Nat} (h : i < l.length) (f : α → α) (d : α) :
    nth (modNth l i f) i d = f (nth l i d) := by
  simp [nth, modNth, List.getD_eq_getElem?_getD, h]

theorem nth_modNth_ne {α : Type} (l : List α) {i j : Nat} (h : j ≠ i) (f : α → α) (d : α) :
    nth (modNth l i f) j d = nth l j d := by
  simp [nth, modNth, List.getD_eq_getElem?_getD, h.symm]

@[simp] theorem modNth_length {α : Type} (l : List α) (i : Nat) (f : α → α) : (modNth l i f).length = l.length := by
  simp [modNth]

theorem modNth_beyond {α : Type} {l : List α} {i : Nat} (h : l.length ≤ i) (f : α → α) : modNth l i f = l := by
  apply List.ext_getElem? ; intro j
  rw [modNth, List.getElem?_modify]
  split
  · subst_vars; simp [h]
  · simp

/-- The register map is in its canonical form. -/
theorem regs_wf_wr {s : State} (h : spWf resetVal s.regs = true) (a : Nat) (v : Word) :
    spWf resetVal (s.wr a v).regs = true := spWf_spSet h a v

theorem regs_wf_set {s : State} (h : spWf resetVal s.regs = true) (f : FRef) (v : Nat) :
    spWf resetVal (s.set f v).regs = true := spWf_spSet h _ _

theorem rd_wr_same {s : State} (h : spWf resetVal s.regs = true) (a : Nat) (v : Word) : (s.wr a v).rd a = v :=
  spGet_spSet_same h a v

theorem rd_wr_ne {s : State} (h : spWf resetVal s.regs = true) {a b : Nat} (v : Word) (hb : b ≠ a) :
    (s.wr a v).rd b = s.rd b := spGet_spSet_ne h v hb

theorem rd_set_same {s : State} (h : spWf resetVal s.regs = true) (f : FRef) (v : Nat) :
    (s.set f v).rd f.addr = putBits (s.rd f.addr) f.hi f.lo v := rd_wr_same h _ _

theorem rd_set_ne {s : State} (h : spWf resetVal s.regs = true) {f : FRef} {b : Nat} (v : Nat) (hb : b ≠ f.addr) :
    (s.set f v).rd b = s.rd b := rd_wr_ne h _ hb

/-- A field reads what was put into it. -/
theorem get_set_same {s : State} (h : spWf resetVal s.regs = true) {f : FRef} (v : Nat) (h1 : f.hi < 32) (h2 : f.lo ≤ f.hi) :
    (s.set f v).get f = v % 2 ^ (f.hi + 1 - f.lo) := by
  rw [State.get, rd_set_same h, getBits_putBits_same _ _ h1 h2]

/-- A field of another register, or other bits of the same one, read as before. -/
theorem get_set_apart {s : State} (h : spWf resetVal s.regs = true) {f g : FRef} (v : Nat) (h1 : f.hi < 32) (h2 : f.lo ≤ f.hi)
    (ha : g.addr ≠ f.addr ∨ g.hi < f.lo ∨ f.hi < g.lo) : (s.set f v).get g = s.get g := by
  by_cases hg : g.addr = f.addr
  · rw [State.get, hg, rd_set_same h, getBits_putBits_apart _ _ h1 h2 (by tauto), State.get, hg]
  · rw [State.get, rd_set_ne h _ hg, State.get]

/-- Two writes of a register: the later stands. -/
theorem rd_wr_wr {s : State} (h : spWf resetVal s.regs = true) (a : Nat) (v w : Word) : ((s.wr a v).wr a w).rd a = w :=
  rd_wr_same (regs_wf_wr h a v) a w

theorem core_modCore_same {s : State} {p : Nat} (h : p < s.cores.length) (f : PyCore → PyCore) :
    (s.modCore p f).core p = f (s.core p) := nth_modNth_same h f {}

theorem core_modCore_ne (s : State) {p q : Nat} (h : q ≠ p) (f : PyCore → PyCore) : (s.modCore p f).core q = s.core q :=
  nth_modNth_ne s.cores h f {}

theorem ph_modPh_same {s : State} {n : Nat} (h : n < s.pha.phases.length) (f : PhaseX → PhaseX) :
    (s.modPh n f).ph n = f (s.ph n) := nth_modNth_same h f {}

theorem ph_modPh_ne (s : State) {n m : Nat} (h : m ≠ n) (f : PhaseX → PhaseX) : (s.modPh n f).ph m = s.ph m :=
  nth_modNth_ne s.pha.phases h f {}

theorem ln_modLn_same {s : State} {l : Nat} (h : l < s.anv.lanes.length) (f : Lane → Lane) :
    (s.modLn l f).ln l = f (s.ln l) := nth_modNth_same h f {}

theorem ln_modLn_ne (s : State) {l m : Nat} (h : m ≠ l) (f : Lane → Lane) : (s.modLn l f).ln m = s.ln m :=
  nth_modNth_ne s.anv.lanes h f {}

theorem bl_modBl_same {s : State} {r : Nat} (h : r < s.blw.rails.length) (f : BlwRail → BlwRail) :
    (s.modBl r f).bl r = f (s.bl r) := nth_modNth_same h f {}

theorem bl_modBl_ne (s : State) {r q : Nat} (h : q ≠ r) (f : BlwRail → BlwRail) : (s.modBl r f).bl q = s.bl q :=
  nth_modNth_ne s.blw.rails h f {}

theorem rl_modRl_same {s : State} {r : Nat} (h : r < s.rlc.rails.length) (f : RlcRail → RlcRail) :
    (s.modRl r f).rl r = f (s.rl r) := nth_modNth_same h f {}

theorem rl_modRl_ne (s : State) {r q : Nat} (h : q ≠ r) (f : RlcRail → RlcRail) : (s.modRl r f).rl q = s.rl q :=
  nth_modNth_ne s.rlc.rails h f {}

theorem mf_modMf_same {s : State} {m : Nat} (h : m < s.mfu.length) (f : MfuCh → MfuCh) : (s.modMf m f).mf m = f (s.mf m) :=
  nth_modNth_same h f {}

theorem mf_modMf_ne (s : State) {m k : Nat} (h : k ≠ m) (f : MfuCh → MfuCh) : (s.modMf m f).mf k = s.mf k :=
  nth_modNth_ne s.mfu h f {}

/-- A bank of a core, changed. -/
theorem bankOf_modBank_same {s : State} {p b : Nat} (hp : p < s.cores.length) (hb : b < (s.core p).banks.length)
    (f : Bank → Bank) : (s.modBank p b f).bankOf p b = f (s.bankOf p b) := by
  rw [State.bankOf, State.modBank, core_modCore_same hp]
  exact nth_modNth_same hb f {}

/-- What every change of a list's run leaves alone, the run leaves alone. -/
theorem each_keeps {α β : Type} (g : State → β) (f : State → α → State) (h : ∀ s x, g (f s x) = g s) (s : State) (l : List α) :
    g (s.each l f) = g s := by
  unfold State.each
  induction l generalizing s with
  | nil => rfl
  | cons x l ih => rw [List.foldl_cons, ih, h]

/-- An invariant of every change of a list's run is one of the run. -/
theorem each_inv {α : Type} (P : State → Prop) (f : State → α → State) (h : ∀ s x, P s → P (f s x)) (s : State) (l : List α)
    (hs : P s) : P (s.each l f) := by
  unfold State.each
  induction l generalizing s with
  | nil => exact hs
  | cons x l ih => exact ih _ (h s x hs)

theorem when_true (s : State) (f : State → State) : s.when true f = f s := rfl

theorem when_false (s : State) (f : State → State) : s.when false f = s := rfl

end Sys2Proof.Machine
end

