-- ==== Sys2Proof/Laws/Memory.lean ====
section
/-! SUPPORT. Memory: one byte read after a write, the canonical form that every memory operation keeps, and the same for the error bits beside the words. -/

namespace Sys2Proof.Machine

/-- The memory of the state after reset lists nothing. -/
theorem reset_memWf : memWf State.reset.mem = true := rfl

theorem byte_setByte_same {s : State} (h : memWf s.mem = true) (k : Nat) (b : Byte) : (s.setByte k b).byte k = b :=
  spGet_spSet_same h k b

theorem byte_setByte_ne {s : State} (h : memWf s.mem = true) {k j : Nat} (b : Byte) (hj : j ≠ k) :
    (s.setByte k b).byte j = s.byte j := spGet_spSet_ne h b hj

theorem memWf_setByte {s : State} (h : memWf s.mem = true) (k : Nat) (b : Byte) : memWf (s.setByte k b).mem = true :=
  spWf_spSet h k b

theorem memWf_setBytes {s : State} (h : memWf s.mem = true) (k : Nat) (bs : Bytes) : memWf (s.setBytes k bs).mem = true := by
  induction bs generalizing s k with
  | nil => exact h
  | cons b bs ih => exact ih (memWf_setByte h k b) (k + 1)

theorem memWf_setWord {s : State} (h : memWf s.mem = true) (k : Nat) (v : Word) : memWf (s.setWord k v).mem = true :=
  memWf_setBytes h k _

/-- A run of bytes written leaves the registers, the error bits and the queue alone. -/
theorem setBytes_keeps {β : Type} (g : State → β) (h : ∀ (s : State) k b, g (s.setByte k b) = g s) (s : State) (k : Nat)
    (bs : Bytes) : g (s.setBytes k bs) = g s := by
  induction bs generalizing s k with
  | nil => rfl
  | cons b bs ih => rw [State.setBytes, ih, h]

@[simp] theorem setBytes_regs (s : State) (k : Nat) (bs : Bytes) : (s.setBytes k bs).regs = s.regs :=
  setBytes_keeps State.regs (fun _ _ _ => rfl) s k bs

@[simp] theorem setBytes_flips (s : State) (k : Nat) (bs : Bytes) : (s.setBytes k bs).flips = s.flips :=
  setBytes_keeps State.flips (fun _ _ _ => rfl) s k bs

@[simp] theorem setBytes_cores (s : State) (k : Nat) (bs : Bytes) : (s.setBytes k bs).cores = s.cores :=
  setBytes_keeps State.cores (fun _ _ _ => rfl) s k bs

@[simp] theorem setBytes_pending (s : State) (k : Nat) (bs : Bytes) : (s.setBytes k bs).pending = s.pending :=
  setBytes_keeps State.pending (fun _ _ _ => rfl) s k bs

theorem flipsAt_setFlips_same {s : State} (h : spWf (fun _ => (0 : BitVec 39)) s.flips = true) (k : Nat) (f : BitVec 39) :
    (s.setFlips k f).flipsAt k = f := spGet_spSet_same h k f

theorem flipsAt_setFlips_ne {s : State} (h : spWf (fun _ => (0 : BitVec 39)) s.flips = true) {k j : Nat} (f : BitVec 39)
    (hj : j ≠ k) : (s.setFlips k f).flipsAt j = s.flipsAt j := spGet_spSet_ne h f hj

theorem flipsWf_setFlips {s : State} (h : spWf (fun _ => (0 : BitVec 39)) s.flips = true) (k : Nat) (f : BitVec 39) :
    spWf (fun _ => (0 : BitVec 39)) (s.setFlips k f).flips = true := spWf_spSet h k f

/-- A checked write stores the word, and nothing else of memory. -/
theorem writeEcc_mem (s : State) (p k : Nat) (b : Bool) (v : Word) : (s.writeEcc p k b v).mem = (s.setWord k v).mem := by
  unfold State.writeEcc
  simp only
  split
  · simp
  · simp

theorem writeEcc_cores (s : State) (p k : Nat) (b : Bool) (v : Word) : (s.writeEcc p k b v).cores = s.cores := by
  unfold State.writeEcc
  simp only
  split <;> simp [State.setWord]

theorem memWf_writeEcc {s : State} (h : memWf s.mem = true) (p k : Nat) (b : Bool) (v : Word) :
    memWf (s.writeEcc p k b v).mem = true := by
  rw [writeEcc_mem]; exact memWf_setWord h k v

theorem writeFar_mem (s : State) (k : Nat) (bs : Bytes) :
    (s.writeFar k bs).mem = if reservedCap k then s.mem else (s.setBytes k bs).mem := by
  simp only [State.writeFar, apply_ite State.mem, State.setFlips_mem]

theorem memWf_writeFar {s : State} (h : memWf s.mem = true) (k : Nat) (bs : Bytes) : memWf (s.writeFar k bs).mem = true := by
  rw [writeFar_mem]
  split
  · exact h
  · exact memWf_setBytes h k bs

@[simp] theorem icuRaise_mem (s : State) (k : Nat) : (s.icuRaise k).mem = s.mem := by
  unfold State.icuRaise
  repeat' (first | rfl | split)

@[simp] theorem corrected_mem (s : State) (p k : Nat) : (s.corrected p k).mem = s.mem := by
  unfold State.corrected
  simp only [icuRaise_mem, State.set_mem, apply_ite State.mem, State.bump_mem, ite_self]

@[simp] theorem uncorrectable_mem (s : State) (p k : Nat) : (s.uncorrectable p k).mem = s.mem := by
  simp only [State.uncorrectable, State.set_mem]

/-- A store beyond the local port keeps the canonical form (R284, R286, R288). -/
theorem memWf_storeFar {s : State} (h : memWf s.mem = true) (p k : Nat) (bs : Bytes) :
    memWf (s.storeFar p k bs).mem = true := by
  unfold State.storeFar
  simp only
  split
  · exact memWf_writeFar h k bs
  · split
    · exact memWf_writeFar (by rw [corrected_mem]; exact h) k bs
    · rw [uncorrectable_mem]; exact h

/-- A checked read changes no byte of memory (R277, R286). -/
theorem readEcc_mem (s : State) (p k : Nat) : (s.readEcc p k).2.mem = s.mem := by
  unfold State.readEcc
  simp only
  split
  · rfl
  · split
    · simp
    · rfl

/-- A checked read answers the word or, where two bits are inverted, nothing (R286, R288). -/
theorem readEcc_word (s : State) (p k : Nat) : (s.readEcc p k).1 = some (s.word k) ∨ (s.readEcc p k).1 = none := by
  unfold State.readEcc
  simp only
  split
  · exact .inl rfl
  · split
    · exact .inl rfl
    · exact .inr rfl

theorem memWf_readEcc {s : State} (h : memWf s.mem = true) (p k : Nat) : memWf (s.readEcc p k).2.mem = true := by
  rw [readEcc_mem]; exact h

/-- Flushing a merge buffer keeps the canonical form (R284). -/
theorem memWf_flushMerge {s : State} (h : memWf s.mem = true) (p : Nat) : memWf (s.flushMerge p).mem = true := by
  unfold State.flushMerge State.flushWord
  split
  · exact h
  · rename_i k bs _
    have h1 := memWf_readEcc h p k
    generalize s.readEcc p k = x at h1
    obtain ⟨_ | v, t⟩ := x
    · simpa only [State.set_mem, State.modCore_mem] using h1
    · exact memWf_writeEcc (by simpa only [State.modCore_mem] using h1) p k false _

theorem memWf_flushHit {s : State} (h : memWf s.mem = true) (q k : Nat) : memWf (s.flushHit q k).mem = true := by
  unfold State.flushHit
  split
  · split
    · exact memWf_flushMerge h q
    · exact h
  · exact h

/-- A write performed at its target keeps the canonical form (R279, R281). -/
theorem memWf_performFar {s : State} (h : memWf s.mem = true) (p : Nat) (e : StEntry) :
    memWf (s.performFar p e).mem = true := by
  unfold State.performFar
  split
  · exact memWf_storeFar (memWf_flushHit h _ _) p e.addr e.bytes
  · exact memWf_storeFar h p e.addr e.bytes

theorem memWf_each {α : Type} {f : State → α → State} (hf : ∀ (s : State) (a : α), memWf s.mem = true → memWf (f s a).mem = true)
    (l : List α) {s : State} (h : memWf s.mem = true) : memWf (s.each l f).mem = true := by
  induction l generalizing s with
  | nil => exact h
  | cons a l ih => exact ih (hf s a h)

/-- So does delivering every write on its way to memory. -/
theorem memWf_deliverMem {s : State} (h : memWf s.mem = true) (p : Nat) : memWf (s.deliverMem p).mem = true :=
  memWf_each (fun _ e h => memWf_performFar h p e) _ h

/-- So does a retirement from the store buffer (R281, R284). -/
theorem memWf_retireStore {s : State} (h : memWf s.mem = true) (p : Nat) : memWf (s.retireStore p).mem = true := by
  unfold State.retireStore
  split
  · exact h
  · simp only
    split
    · split
      · refine memWf_writeEcc ?_ p _ false _
        split
        · split <;> exact h
        · exact h
      · rw [State.modCore_mem]
        split
        · split
          · exact h
          · exact memWf_flushMerge (by simpa only [State.modCore_mem] using h) p
        · exact h
    · exact h

theorem memWf_retireN {s : State} (h : memWf s.mem = true) (p n : Nat) : memWf (s.retireN p n).mem = true := by
  induction n generalizing s with
  | zero => exact h
  | succ n ih => exact ih (memWf_retireStore h p)

/-- Clearing the memory of a reset keeps the canonical form (R12). -/
theorem memWf_zeroMem {s : State} (h : memWf s.mem = true) : memWf s.zeroMem.mem = true := spWf_filter h _

end Sys2Proof.Machine
end

