-- ==== Sys2Proof/Laws/Pyhorn.lean ====
section
/-! SUPPORT. The issue of a Pyhorn instruction: what every meaning of one goes through, the repetitions of REP and the elements of a block instruction, said once. -/

namespace Sys2Proof.Machine

theorem finishLoad_none {s : State} {p : Nat} (h : (s.core p).pload = none) (g : Bool) : s.finishLoad p g = (true, s) := by
  simp [State.finishLoad, h]

/-- An instruction that is dispatched does what its microcode says, in the state it enters (R301). -/
theorem issue_reaches {s : State} {o : PyOp} {c : Nat} (h : s.reaches o c = true) (body : State → PyRes) :
    s.issue o c body = (State.perform o c body restarts (s.entered o c)).finish o.p (opLen o c) := by
  simp only [State.reaches, State.atIssue, Bool.and_eq_true, Option.isNone_iff_eq_none, beq_iff_eq, Bool.or_eq_true,
    Bool.not_eq_true'] at h
  obtain ⟨⟨⟨⟨⟨⟨⟨⟨-, -⟩, -⟩, h1⟩, h2⟩, hw⟩, h3⟩, h4⟩, h5⟩ := h
  unfold State.issue State.entered State.atIssue
  generalize hf : s.fetch o.p (opLen o c) = f at h3 h4 h5
  obtain ⟨k, a, x⟩ := f
  subst h3
  simp only [h1, finishLoad_none h2, hw, hf, h4, Bool.not_true, Bool.false_eq_true, if_false]
  rcases h5 with h5 | h5 <;> simp [h5]

/-- An instruction that executes does what its body says, in the state it enters. -/
theorem issue_enters {s : State} {o : PyOp} {c : Nat} (h : s.enters o c = true) (body : State → PyRes) :
    s.issue o c body = (body (s.entered o c)).finish o.p (opLen o c) := by
  simp only [State.enters, Bool.and_eq_true] at h
  rw [issue_reaches h.1]
  simp [State.perform, restarts, h.2]

/-- A service sequence whose words do not fail has the effect of its rules. -/
theorem service_ok {s : State} {p off : Nat} (h : s.serviceOk p off = true) (f : State → State) : s.service p off f = f s := by
  simp only [State.serviceOk, Option.isNone_iff_eq_none] at h
  simp [State.service, restarts, State.sequence, h]

/-- The service sequences of the ROM do not fail where no patch stands in it. -/
theorem serviceOk_rom {s : State} {p : Nat} (h : s.get (UC_STAT.ACT p) = 0) (hp : s.patched p = false) (off : Nat) :
    s.serviceOk p off = true := by
  simp [State.serviceOk, State.seqFault, h, hp]

/-- An exception is entered as its rules say where the words of its sequence do not fail (R323, R325). -/
theorem takeException_ok {s : State} {p : Nat} (h : s.serviceOk p 0x202 = true) (code info : Nat) (addr rpc : Word) :
    s.takeException p code info addr rpc = s.exceptNow p code info addr rpc := service_ok h _

/-- The same for a mnemonic as a whole. -/
theorem pyRun_reaches {s : State} {o : PyOp} {base forms c : Nat} (hf : o.form < forms) (hc : c = base + o.form)
    (h : s.reaches o c = true) (body : Nat → State → PyRes) :
    pyRun o.wf o base forms s body
      = .next (((State.perform o c (body c) restarts (s.entered o c)).finish o.p (opLen o c)).keep s) := by
  have h' := h
  simp only [State.reaches, Bool.and_eq_true] at h'
  obtain ⟨⟨⟨⟨⟨⟨⟨⟨ha, hw⟩, hp⟩, -⟩, -⟩, -⟩, -⟩, -⟩, -⟩ := h'
  unfold pyRun
  subst hc
  rw [runs_eq hw ha]
  simp [hf, hp, issue_reaches h]

theorem pyRun_enters {s : State} {o : PyOp} {base forms c : Nat} (hf : o.form < forms) (hc : c = base + o.form)
    (h : s.enters o c = true) (body : Nat → State → PyRes) :
    pyRun o.wf o base forms s body = .next (((body c (s.entered o c)).finish o.p (opLen o c)).keep s) := by
  have h' := h
  simp only [State.enters, Bool.and_eq_true] at h'
  rw [pyRun_reaches hf hc h'.1]
  simp [State.perform, restarts, h'.2]

/-- REP runs its instruction repetition by repetition (R262): from `v 0`, through states `v k` in which it executes and leaves
`w k`, to repetition `n`. -/
theorem repeat_seq (o : PyOp) (st : Nat) (body : State → PyRes) (v w : Nat → State) (n : Nat)
    (hb : ∀ k, k < n → body (v k) = .ok 1 (w k))
    (hv : ∀ k, k < n → v (k + 1) = (let y := (w k).resultG o.p 1 13 ((w k).gNow o.p 13 - 1)
      (if st = 0 then y else y.resultG o.p 1 o.s (y.gNow o.p o.s + BitVec.ofNat 32 st)).slots o.p 1))
    (hz : ∀ k, k < n → (v k).gNow o.p 13 ≠ 0 ∧ ((v k).core o.p).boundary = []) :
    ∀ N, n ≤ N → (v 0).repeat o st body N = (v n).repeat o st body (N - n) := by
  induction n generalizing v w with
  | zero => intro N _; simp
  | succ n ih =>
    intro N hN
    obtain ⟨M, rfl⟩ : ∃ M, N = M + 1 := ⟨N - 1, by omega⟩
    have h0 := hz 0 (by omega)
    conv_lhs => rw [State.repeat]
    simp only [h0.1, if_false, h0.2, ne_eq, not_true_eq_false, hb 0 (by omega)]
    have e := hv 0 (by omega)
    simp only at e
    rw [← e]
    have := ih (fun k => v (k + 1)) (fun k => w (k + 1)) (fun k hk => hb (k + 1) (by omega))
      (fun k hk => hv (k + 1) (by omega)) (fun k hk => hz (k + 1) (by omega)) M (by omega)
    simp only [Nat.zero_add] at this
    rw [this]
    congr 1; omega

/-- What an instruction under REP can do after `n` repetitions (R262): end because G13 is 0, leave at a request or a machine
check at the boundary, or end as its next repetition does. -/
theorem rep_seq (o : PyOp) (st : Nat) (body : State → PyRes) (v w : Nat → State) (u : State) (n : Nat) (hr : o.pfx.rep = true)
    (hu : v 0 = u) (hN : n ≤ (u.gNow o.p 13).toNat) (hs : ∀ m, o.stop = some m → n ≤ m)
    (hb : ∀ k, k < n → body (v k) = .ok 1 (w k))
    (hv : ∀ k, k < n → v (k + 1) = (let y := (w k).resultG o.p 1 13 ((w k).gNow o.p 13 - 1)
      (if st = 0 then y else y.resultG o.p 1 o.s (y.gNow o.p o.s + BitVec.ofNat 32 st)).slots o.p 1))
    (hz : ∀ k, k < n → (v k).gNow o.p 13 ≠ 0 ∧ ((v k).core o.p).boundary = []) :
    (0 < n → (v n).gNow o.p 13 = 0 → u.rep o st body = .ok 0 (v n))
    ∧ ((v n).gNow o.p 13 ≠ 0 → (o.stop = some n ∨ ((v n).core o.p).boundary ≠ []) → u.rep o st body = .left (v n))
    ∧ (∀ r, (∀ k t, r ≠ .ok k t) → (v n).gNow o.p 13 ≠ 0 → ((v n).core o.p).boundary = [] → n < (u.gNow o.p 13).toNat →
      (∀ m, o.stop = some m → n < m) → body (v n) = r → u.rep o st body = r) := by
  subst hu
  obtain ⟨B, hB⟩ : ∃ B, B = (match o.stop with
    | some k => min k ((v 0).gNow o.p 13).toNat
    | none => ((v 0).gNow o.p 13).toNat) := ⟨_, rfl⟩
  have hN2 : n ≤ B := by
    rw [hB]
    cases h : o.stop with
    | none => exact hN
    | some m => exact le_min (hs m h) hN
  have h0 : ((v 0).gNow o.p 13).toNat ≠ 0 → (v 0).rep o st body = (v n).repeat o st body (B - n) := by
    intro h
    rw [hB] at hN2 ⊢
    simp only [State.rep, hr, Bool.not_true, Bool.false_eq_true, if_false, h]
    exact repeat_seq o st body v w n hb hv hz _ hN2
  refine ⟨?_, ?_, ?_⟩
  · intro hn h
    rw [h0 (by omega)]
    generalize B - n = M
    cases M <;> simp [State.repeat, h]
  · intro h1 h2
    have hz0 : ((v 0).gNow o.p 13).toNat ≠ 0 := by
      rcases Nat.eq_zero_or_pos n with h | h
      · subst h; intro hh; apply h1; exact BitVec.eq_of_toNat_eq (by simpa using hh)
      · omega
    rw [h0 hz0]
    rcases h2 with h2 | h2
    · have : B - n = 0 := by rw [hB, h2]; simp
      rw [this]; simp [State.repeat]; simpa using h1
    · generalize B - n = M
      cases M <;> simp [State.repeat, h2] <;> simpa using h1
  · intro r hr' h1 h2 h3 h4 h5
    rw [h0 (by omega)]
    obtain ⟨M, hM⟩ : ∃ M, B - n = M + 1 := by
      rw [hB]
      cases h : o.stop with
      | none => exact ⟨((v 0).gNow o.p 13).toNat - n - 1, by simp only []; omega⟩
      | some m => have := h4 m h; exact ⟨min m ((v 0).gNow o.p 13).toNat - n - 1, by simp only []; omega⟩
    rw [hM, State.repeat]
    simp only [h1, if_false, h2, ne_eq, not_true_eq_false, h5]

/-- The elements of a block instruction one after another (R258, R259). -/
theorem blockRun_seq (b : Block) (o : PyOp) (total : Nat) : ∀ (n k : Nat) (v : Nat → State) (acc : Nat → Int), k + n ≤ total →
    (∀ j, j < n → ∃ z, b.elem (k + j) (acc j) (v j) = .next (acc (j + 1)) z ∧ v (j + 1) = z.slots o.p b.slots) →
    ∀ N, n ≤ N → b.run o total N k (acc 0) (v 0) = b.run o total (N - n) (k + n) (acc n) (v n) := by
  intro n
  induction n with
  | zero => intro k v acc _ _ N _; simp
  | succ n ih =>
    intro k v acc hk he N hN
    obtain ⟨M, rfl⟩ : ∃ M, N = M + 1 := ⟨N - 1, by omega⟩
    obtain ⟨z, h1, h2⟩ := he 0 (by omega)
    conv_lhs => rw [Block.run]
    have : ¬ total ≤ k := by omega
    simp only [this, if_false]
    simp only [Nat.add_zero] at h1
    rw [h1]
    simp only [← h2]
    have := ih (k + 1) (fun j => v (j + 1)) (fun j => acc (j + 1)) (by omega) (fun j hj => by
      have := he (j + 1) (by omega)
      rw [show k + 1 + j = k + (j + 1) by omega]
      exact this) M (by omega)
    simp only [Nat.zero_add] at this
    rw [this]
    congr 1 <;> omega

/-- What a block instruction can do after `n` elements from element `k` on (R259): complete, leave at a request, or fault at the
next element. -/
theorem blockBody_seq (b : Block) (o : PyOp) (k total n : Nat) (u : State) (prog : Word) (v : Nat → State) (acc : Nat → Int)
    (hp : prog = (u.bankOf o.p (u.core o.p).bank).prog) (hk : k = (if wbit prog 31 then getBits prog 23 0 else 0))
    (ht : total = (u.gNow o.p o.n).toNat % 2 ^ 24) (hlt : k < total) (hn : k + n ≤ total) (hv : v 0 = u)
    (he : ∀ j, j < n → ∃ z, b.elem (k + j) (acc j) (v j) = .next (acc (j + 1)) z ∧ v (j + 1) = z.slots o.p b.slots)
    (hs : ∀ m, o.stop = some m → n ≤ m) :
    (k + n = total → blockBody o (acc 0) b u = .ok 0 ((b.close (acc n) (v n)).setProg o.p 0))
    ∧ (k + n < total → o.stop = some n →
      blockBody o (acc 0) b u = .left ((b.save (acc n) (v n)).setProg o.p (2 ^ 31 + (k + n))))
    ∧ (∀ code info a z, k + n < total → o.stop ≠ some n → b.elem (k + n) (acc n) (v n) = .fault code info a z →
      blockBody o (acc 0) b u = .exc code info a ((b.save (acc n) z).setProg o.p (2 ^ 31 + (k + n)))) := by
  subst hv
  have h1 : ¬ total ≤ k := by omega
  obtain ⟨B, hB⟩ : ∃ B, B = (match o.stop with
    | some n => min n (total - k)
    | none => total - k) := ⟨_, rfl⟩
  have key : blockBody o (acc 0) b (v 0) = b.run o total (B - n) (k + n) (acc n) (v n) := by
    rw [hB]
    unfold blockBody
    simp only [← hp, ← hk, ← ht, h1, if_false]
    apply blockRun_seq b o total n k v acc hn he
    cases h : o.stop with
    | none => simp only []; omega
    | some m => have := hs m h; simp only []; omega
  rw [key]
  refine ⟨?_, ?_, ?_⟩
  · intro h
    generalize B - n = M
    cases M <;> (rw [Block.run]; simp [h])
  · intro h h2
    have : B - n = 0 := by rw [hB, h2]; simp
    rw [this, Block.run]
    have : ¬ total ≤ k + n := by omega
    simp only [this, if_false]
  · intro code info a z h h2 h3
    obtain ⟨M, hM⟩ : ∃ M, B - n = M + 1 := by
      rw [hB]
      cases hh : o.stop with
      | none => exact ⟨total - k - n - 1, by simp only []; omega⟩
      | some m =>
        have := hs m hh
        have : m ≠ n := fun e => h2 (by rw [hh, e])
        exact ⟨min m (total - k) - n - 1, by simp only []; omega⟩
    rw [hM, Block.run]
    have : ¬ total ≤ k + n := by omega
    simp only [this, if_false, h3]

/-- A store that its rights let through changes nothing yet. -/
theorem storeCheck_ok {s : State} {p a n : Nat} {v : Word} (h : (s.storeCheck p a n v).1 = 0) : (s.storeCheck p a n v).2 = s := by
  simp only [State.storeCheck] at h ⊢
  split at h
  · cases h
  · rename_i hn; rw [if_neg hn]

/-- A read outside the flash window finds the flash as it is (R380). -/
theorem flashServe_far {s : State} {a : Nat} (h : areaOf a ≠ .flash) : s.flashServe a = s := by
  simp [State.flashServe, h]

end Sys2Proof.Machine
end

