-- ==== Sys2Proof/Laws/Shared.lean ====
section
/-! SUPPORT. The shared operations that many meanings call: what each does, said once. -/

namespace Sys2Proof.Machine

/-- A pin shows a level that holds for 0.5 ns (R73). -/
theorem netLevel_holds {lvl : Nat → Level} {t : Nat} (h : holds lvl t = true) : netLevel lvl t = lvl t := by
  cases t <;> simp [netLevel, h]

/-- Within a shorter stretch it keeps the level before (R73). -/
theorem netLevel_short {lvl : Nat → Level} {t : Nat} (h : holds lvl (t + 1) = false) :
    netLevel lvl (t + 1) = netLevel lvl t := by
  simp [netLevel, h]

theorem wbit_putBits_same (w : Word) {i : Nat} (h : i < 32) (b : Bool) : wbit (putBits w i i (b2n b)) i = b := by
  have h1 := getBits_putBits_same w (b2n b) h (Nat.le_refl i)
  simp only [getBits, show i + 1 - i = 1 by omega, pow_one] at h1
  simp only [wbit, nbit, h1]
  cases b <;> rfl

/-- A bit reads what hardware set it to. -/
theorem bit_setBit_same {s : State} (h : spWf resetVal s.regs = true) (a : Nat) {i : Nat} (hi : i < 32) (b : Bool) :
    (s.setBit a i b).bit a i = b := by
  rw [State.bit, State.setBit, rd_wr_same h, wbit_putBits_same _ hi]

/-- A bit of another register reads as before. -/
theorem bit_setBit_ne {s : State} (h : spWf resetVal s.regs = true) {a c : Nat} (i j : Nat) (b : Bool) (hc : c ≠ a) :
    (s.setBit a i b).bit c j = s.bit c j := by
  rw [State.bit, State.setBit, rd_wr_ne h _ hc, State.bit]

/-- A request leaves its pending bit set, and where it was set already its overrun bit as well (R315). -/
theorem icuRaise_cases (s : State) (n : Nat) :
    (s.bit (ICU_PEND (n / 32)) (n % 32) = true ∧ s.icuRaise n = s.setBit (ICU_OVR (n / 32)) (n % 32) true)
    ∨ (s.bit (ICU_PEND (n / 32)) (n % 32) = false ∧ s.icuRaise n = s.setBit (ICU_PEND (n / 32)) (n % 32) true) := by
  unfold State.icuRaise
  split
  · exact .inl ⟨‹_›, rfl⟩
  · exact .inr ⟨Bool.eq_false_iff.mpr ‹_›, rfl⟩

/-- A register operation of the interrupt controller changes the register map alone. -/
theorem icuRaise_eq (s : State) (n : Nat) : ∃ m, s.icuRaise n = { s with regs := m } := by
  rcases icuRaise_cases s n with ⟨-, h⟩ | ⟨-, h⟩ <;> exact ⟨_, h⟩

/-- A status bit that was set already changes nothing; a new one asserts both alert lines (R190). -/
theorem raiseBit_cases (s : State) (a i : Nat) :
    (s.bit a i = true ∧ s.raiseBit a i = s) ∨ (s.bit a i = false ∧ s.raiseBit a i = (s.setBit a i true).alert) := by
  unfold State.raiseBit
  cases h : s.bit a i <;> simp

/-- An MRAM record waits, or is lost where 64 wait (R399). -/
theorem mrPost_cases (s : State) (ty : Nat) (bs : Bytes) :
    (s.nvc.mrq.length < 64 ∧ s.mrPost ty bs = { s with nvc := { s.nvc with mrq := s.nvc.mrq ++ [⟨ty, s.tbu.tbc, bs⟩] } })
    ∨ (64 ≤ s.nvc.mrq.length ∧ s.mrPost ty bs = { s with nvc := { s.nvc with mrLoss := true } }) := by
  unfold State.mrPost
  split
  · exact .inl ⟨‹_›, rfl⟩
  · exact .inr ⟨by omega, rfl⟩

/-- The writer's queue never passes 64 records (R399). -/
theorem mrPost_bound {s : State} (h : s.nvc.mrq.length ≤ 64) (ty : Nat) (bs : Bytes) :
    (s.mrPost ty bs).nvc.mrq.length ≤ 64 := by
  rcases mrPost_cases s ty bs with ⟨h1, h2⟩ | ⟨-, h2⟩ <;> rw [h2] <;> simp <;> omega

/-- Putting a record in its place adds exactly it (R399). -/
theorem mem_putRec (r x : MrRec) (l : List MrRec) : x ∈ putRec r l ↔ x = r ∨ x ∈ l := by
  induction l with
  | nil => simp [putRec]
  | cons y ys ih =>
    simp only [putRec]
    split
    · simp
    · simp only [List.mem_cons, ih]; tauto

/-- The order of R399 within an instant touches nothing but the queue of MRAM records. -/
@[simp] theorem oneInstant_regs (s : State) (f : State → State) : (s.oneInstant f).regs = (f s).regs := rfl

@[simp] theorem oneInstant_mem (s : State) (f : State → State) : (s.oneInstant f).mem = (f s).mem := rfl

@[simp] theorem oneInstant_pending (s : State) (f : State → State) : (s.oneInstant f).pending = (f s).pending := rfl

@[simp] theorem oneInstant_out (s : State) (f : State → State) : (s.oneInstant f).out = (f s).out := rfl

/-- An event record takes the next sequence number; it is kept while fewer than 64 are held, and it says how many were
lost before it (R356, R358). -/
theorem evPost_kept {s : State} (h : s.hif.evHeld.length < 64) (ty : Nat) (bs : Bytes) :
    (s.evPost ty bs).hif.evSeq = (s.hif.evSeq + 1) % 2 ^ 32
    ∧ (s.evPost ty bs).hif.evHeld
      = s.hif.evHeld ++ [⟨ty, s.tbu.tbc, bs, s.hif.evSeq, s.hif.evLost, !s.on HIF_EVR_CTL.EN || s.on HIF_EVR_CTL.ERR⟩]
    ∧ (s.evPost ty bs).hif.evLost = 0 := by
  simp only [State.evPost, h, if_true, true_and, and_true]
  rfl

/-- A counter of MRAM changes four bytes and nothing else (R400). -/
theorem mramCount_regs (s : State) (i : Nat) : (s.mramCount i).regs = s.regs := setBytes_regs s _ _

/-- A Tenant host's write that the world rules turn away changes the register map alone (R343). -/
theorem asWrite_host_turned {s : State} {a : Nat} {v : Word} (hm : s.memOn = true)
    (h : s.tenantWho .host = true) (hv : s.violates 6 a v = true)
    (f : State → State) : s.asWrite .host a v f = ((s.secv a).set HIF_STAT.HSECV 1).icuRaise 40 := by
  simp [State.asWrite, State.hostMem, hm, h, hv]

/-- A core that executes nothing writes nothing (R232). -/
theorem asWrite_core_idle {s : State} {p : Nat} (h : s.issuing p = false) (a : Nat) (v : Word) (f : State → State) :
    s.asWrite (.core p) a v f = s := by simp [State.asWrite, h]

/-- The checked read and the checked write of a word without errors: the word goes in and comes out (R277). -/
theorem readEcc_clean {s : State} {k : Nat} (h : s.flipsAt k = 0) (p : Nat) : s.readEcc p k = (some (s.word k), s) := by
  have h0 : flipCount 0 = 0 := by decide
  simp only [State.readEcc, h, h0, if_true]

theorem writeEcc_plain {s : State} {p : Nat} (k : Nat) (b : Bool) (v : Word) (h : (s.setWord k v).on (MEM_INJ.ARM p) = false) :
    s.writeEcc p k b v = (s.setWord k v).setFlips k 0 := by
  simp [State.writeEcc, h]

end Sys2Proof.Machine
end

