-- ==== Sys2Proof/Tests/Slice0.lean ====
section
/-! SUPPORT. Small tests: states that meet the statements' hypotheses, ill-formed commands, words of the encoding written out, and single steps. -/

namespace Sys2Proof.Tests

open Sys2Proof Sys2Proof.Machine

/-- The device in Run, its cores running, its PCI Express function enabled. -/
def awake : State :=
  { State.reset with
    pmu := { State.reset.pmu with rst := none, held := List.replicate 6 false }
    nvc := { State.reset.nvc with mrLost := false }
    hif := { State.reset.hif with cfg := { command := 6 } } }.set PMU_STAT.MODE modeRun

/-- The same with every tick-sampled register sampled. -/
def sampled (s : State) : State := { s with tickRegs := s.regs }

/-- Port 0 is UP and upstream, a rail regulates, and the device waits for flock time. -/
def upstream : State :=
  let s := ((awake.set (FLK_PORT_STAT.LSTATE 0) 3).set FLK_STAT.UPPORT 1).set (RLC_RAIL_STAT.STATE 0) railReg
  { s with tbu := { s.tbu with needTime := true } }

/-- Phase 143 is the one member of rail 31, in state `st`, and the governor of the rail is on with both counters at their
dwells of 1. -/
def governed (st : Nat) : State :=
  sampled ((((((awake.set (PHA_CH_STAT.STATE 143) st).set (PHA_GOV.MODE 31) 0).set (PHA_GOV_DW.ADD_DWELL 31) 1).set
    (PHA_GOV_DW.SHED_DWELL 31) 1).modPh 143 (fun p => { p with rail := some 31 })).modRx 31 (fun x =>
      { x with addCnt := 1, shedCnt := 1 }))

/-- AVSBus port 15 maps its select 0 to rail 31, which regulates and takes requests from every source. -/
def avsReady : State :=
  sampled ((((((awake.set (RLC_AVS_CFG.EN 15) 1).set (RLC_AVS_CFG.MAP 15) (64 + 31)).set (RLC_RAIL_CTL.SRCEN 31) 7).set
    (RLC_RAIL_SCALE.SCALE 31) 0x400000).set (RLC_RAIL_LIM.VMAX 31) 10000).set (RLC_RAIL_STAT.STATE 31) railReg)

/-- PMBus port 1 is on with rail 31 as its page, and the rail takes requests from every source. -/
def pmbReady : State :=
  sampled (((((awake.set (RLC_PMB_CFG.EN 1) 1).set (RLC_PMB_STAT.PAGE 1) 31).set (RLC_RAIL_CTL.SRCEN 31) 7).set
    (RLC_RAIL_SCALE.SCALE 31) 0x400000).set (RLC_RAIL_LIM.VMAX 31) 10000)

/-- Core 5 is idle with interrupts enabled. -/
def idleCore : State := (awake.set (DRV_CTL.IEN 5) 1).modCore 5 (fun c => { c with live := false })

/-- Source 25 is pending for the idle core 5. -/
def interrupted : State :=
  ((idleCore.set (ICU_TGT.EN 25) 1).set (ICU_TGT.CORE 25) 5).setBit (ICU_PEND 0) 25 true

/-- Slot 15 of the idle core 5 is READY. -/
def activated : State := (idleCore.set (DRV_SLOT_CFG.EN 5 15) 1).set (DRV_SLOT_STAT.STATE 5 15) 3

/-- A descriptor with an opcode, its parameters from byte 8 on and its CRC. -/
def hostDesc (op : Nat) (ps : Bytes) : Desc :=
  let bs : Bytes := [BitVec.ofNat 8 op] ++ List.replicate 7 0 ++ ps ++ List.replicate (52 - ps.length) 0
  { bytes := bs ++ leBytes 4 (crc32c bs) }

/-- The host interface is up, queue 15 is on and its oldest descriptor is `d`. -/
def queued (d : Desc) : State :=
  ((((awake.set HIF_CTL.EN 1).set HIF_STAT.LINK 1).set (HIF_SQ_CTL.EN 15) 1).set (HIF_SQ_CTL.CQ 15) 15).modSq 15
    (fun x => { x with fetched := [d] })

-- Ill-formed commands, one for each check of each command; each is refused by the check.

theorem test_wf_refuses_instruction :
    PyOp.wf { p := 6 } = false
    ∧ PyOp.wf { form := 4 } = false
    ∧ PyOp.wf { d := 16 } = false
    ∧ PyOp.wf { s := 16 } = false
    ∧ PyOp.wf { t := 16 } = false
    ∧ PyOp.wf { n := 16 } = false
    ∧ PyOp.wf { disp := 2147483648 } = false
    ∧ PyOp.wf { disp := -2147483649 } = false
    ∧ PyOp.wf { imm := 4294967296 } = false
    ∧ PyOp.wf { imm := -2147483649 } = false := by decide

theorem test_wf_refuses_frame :
    AvsOp.wf { port := 16 } = false
    ∧ AvsOp.wf { sel := 16 } = false
    ∧ AvsOp.wf { cmd := 4 } = false
    ∧ AvsOp.wf { data := 65536 } = false
    ∧ PmbOp.wf { q := 2 } = false := by decide

theorem test_wf_refuses_protection :
    Prot.wf (.poc 144) = false
    ∧ Prot.wf (.sf 32) = false
    ∧ Prot.wf (.pot 144) = false
    ∧ Prot.wf (.roc 32) = false
    ∧ Prot.wf (.ov 32) = false
    ∧ Prot.wf (.uv 32) = false
    ∧ Prot.wf (.vinUv 8) = false
    ∧ Prot.wf (.vinOv 8) = false
    ∧ Prot.wf (.dio 4) = false := by decide

theorem test_wf_refuses_sender :
    Who.wf (.core 6) = false
    ∧ RingId.wf (.cq 16) = false
    ∧ RingId.wf (.tele 8) = false
    ∧ WakeSrc.wf (.fabric 8) = false := by decide

theorem test_wf_refuses_commands_0 : ([
    .carrierPeriodStart 144, .pllLock 3, .tbuCompare 8, .tbcRead (.core 6) 0, .tbcRead .host 200, .bgcRead (.core 6),
    .portSymbolsDetected 3, .portTrained 3, .portMeasured 3 0 0, .portMeasured 0 15 1, .portMeasured 0 2097152 0,
    .portDown 3 0 (some 0), .tickMarkerRx 3 0, .tickMarkerRx 0 3200, .announceRx 3 [], .announceTimeout 3,
    .timeFrameRx 3 [], .dutyFrameRx 3 [], .dutyApply 6 0, .dutyFrameTimeout 6, .spanlossRx 3 [], .rejoin (.core 6) 0,
    .rejoin .host 6, .messageQueue (.core 6) 0, .messageQueue .host 4096, .messageRx 3 [], .ackRx 3 0 0,
    .ackRx 0 256 0, .ackRx 0 0 1024, .ackTimeout 3, .flkCommitLock (.core 6), .phaCommitLock (.core 6),
    .anvCommitLock (.core 6), .rlcCommitLock (.core 6), .icuCommitLock (.core 6), .hifCommitLock (.core 6),
    .commitUnlock (.core 6) .flk, .senDelayEnd 9, .stageAbsent 144, .stagePresent 144] : List Instr).all (fun i => !i.wf) = true := by decide

theorem test_wf_refuses_commands_1 : ([
    .stageFault 144 false, .ocTrip 144 0, .phaseAdd (.core 6) 0, .phaseAdd .host 256, .phaseShed (.core 6) 0,
    .phaseShed .host 256, .phaseRemove (.core 6) 0, .phaseRemove .host 256, .phaseRestore (.core 6) 0,
    .phaseRestore .host 256, .governorAdd 32, .governorShed 32, .readd 32 0, .readd 0 513, .readdHoldEnd 32,
    .blendEnd 144, .tempConversion 157 0 0, .tempConversion 0 0 3, .tempConversion 152 0 2, .tallyInject (.core 6) 0,
    .tallyInject .host 512, .capStatRead (.core 6), .offsetEstimate 176, .zofsLearn 144, .domainGainWindow 8,
    .lrEstimate 144, .pleanEvent 34 0, .pleanEvent 0 513, .preleanEnd 34, .sloadEvent 34 0, .sloadEvent 0 513,
    .trigPlean (.core 6) 0, .trigPlean .host 34, .trigSload (.core 6) 0, .trigSload .host 34,
    .swapRequest (.core 6) 0 false, .swapRequest .host 64 false, .swapAllbound (.core 6) false,
    .swapCancel (.core 6) 0 false, .swapCancel .host 64 false] : List Instr).all (fun i => !i.wf) = true := by decide

theorem test_wf_refuses_commands_2 : ([
    .shadowWrite (.core 6) 0 0 0, .shadowWrite .host 34 0 0, .shadowWrite .host 0 64 0, .faultedClear (.core 6) 0,
    .faultedClear .host 34, .snapshotRequest (.core 6) 0, .snapshotRequest .host 34, .droopCrossing 32,
    .releaseCrossing 32, .maxonExpiry 144, .lockoutEnd 32, .overshootCrossing 32, .overshootRelease 32,
    .ovmaxExpiry 32, .warnAssert 16, .plarm 32, .plarmEnd 32, .protectionAction (.poc 144),
    .protectionWarn (.poc 144), .blwQuench 32, .quenchRailCommand (.core 6) 0, .quenchRailCommand .host 32,
    .quenchDeviceCommand (.core 6), .hiccupEnd 32, .retryCountClear 32, .phaseHiccupEnd 144, .phaseRetryClear 144,
    .latchClear (.core 6) 0, .tonDelayEnd 32, .toffDelayEnd 32, .groupOn (.core 6) 0, .groupOn .host 8,
    .groupOff (.core 6) 0, .groupOff .host 8, .frefWrite (.core 6) 0 0, .frefWrite .host 32 0, .frefAtRelease 32,
    .hrefWrite (.core 6) 0 0, .hrefWrite .host 32 0, .avsTargetVoltageWrite { port := 16 }] : List Instr).all (fun i => !i.wf) = true := by decide

theorem test_wf_refuses_commands_3 : ([
    .avsWriteAndHold { port := 16 }, .avsTargetVoltageRead { port := 16 }, .avsTransitionRate { port := 16 },
    .avsRailCurrent { port := 16 }, .avsRailTemperature { port := 16 }, .avsResetVoltage { port := 16 },
    .avsStatus { port := 16 }, .avsVersion { port := 16 }, .avsUnsupported { port := 16 }, .pageCmd { q := 2 },
    .operationOn { q := 2 }, .operationOff { q := 2 }, .operationImmediateOff { q := 2 },
    .operationMarginLow { q := 2 }, .operationMarginHigh { q := 2 }, .onOffConfig { q := 2 },
    .clearFaults { q := 2 }, .writeProtect { q := 2 }, .storeUserAll { q := 2 }, .restoreUserAll { q := 2 },
    .capability { q := 2 }, .voutMode { q := 2 }, .voutCommand { q := 2 }, .voutMax { q := 2 }, .voutMin { q := 2 },
    .voutMarginHigh { q := 2 }, .voutMarginLow { q := 2 }, .voutTransitionRate { q := 2 }, .voutDroop { q := 2 },
    .voutScaleLoop { q := 2 }, .voutOvFaultLimit { q := 2 }, .voutUvFaultLimit { q := 2 },
    .voutOvWarnLimit { q := 2 }, .voutUvWarnLimit { q := 2 }, .voutOvFaultResponse { q := 2 },
    .voutUvFaultResponse { q := 2 }, .ioutOcFaultLimit { q := 2 }, .ioutOcWarnLimit { q := 2 },
    .ioutOcFaultResponse { q := 2 }, .otFaultLimit { q := 2 }] : List Instr).all (fun i => !i.wf) = true := by decide

theorem test_wf_refuses_commands_4 : ([
    .otWarnLimit { q := 2 }, .otFaultResponse { q := 2 }, .vinOvFaultLimit { q := 2 }, .vinUvFaultLimit { q := 2 },
    .tonDelay { q := 2 }, .tonRise { q := 2 }, .toffDelay { q := 2 }, .toffFall { q := 2 }, .statusByte { q := 2 },
    .statusWord { q := 2 }, .statusVout { q := 2 }, .statusIout { q := 2 }, .statusInput { q := 2 },
    .statusTemperature { q := 2 }, .statusCml { q := 2 }, .statusMfrSpecific { q := 2 }, .readVin { q := 2 },
    .readVout { q := 2 }, .readIout { q := 2 }, .readTemperature1 { q := 2 }, .readTemperature2 { q := 2 },
    .readPout { q := 2 }, .pmbusRevision { q := 2 }, .mfrId { q := 2 }, .mfrModel { q := 2 },
    .mfrRevision { q := 2 }, .mfrPhaseCmd { q := 2 }, .mfrPhaseCount { q := 2 }, .mfrBellowsCount { q := 2 },
    .mfrLatchClear { q := 2 }, .mfrRefInForce { q := 2 }, .mfrTbc { q := 2 }, .mfrFaultLog { q := 2 },
    .alertResponse 2, .pmbusUnsupported { q := 2 }, .pmbusSclTimeout 2, .channelForward 8, .delayElementFire 512,
    .oneShotEnd 512, .consumerFire (.core 6) 0] : List Instr).all (fun i => !i.wf) = true := by decide

theorem test_wf_refuses_commands_5 : ([
    .consumerFire .host 2048, .evfCommitGo (.core 6), .evioInputEdge 32 false, .evioOutput 32, .evioPulseEnd 32,
    .icuSourceEdge 1280, .icuSoftwareSet (.core 6) 0 0, .icuSoftwareSet .host 40 0, .interruptEntry 6,
    .taskActivation 6, .slotEnable (.core 6) 0 1, .slotEnable .host 6 1, .slotEnable .host 0 16,
    .slotEnable .host 0 0, .coreReset (.core 6) 0 0, .coreReset .host 6 0, .coreReset .host 0 65536, .dozeWake 6,
    .longOpComplete 6 .mac, .storeBufferRetire 6, .mergeBufferFlush 6, .remoteAccess 6 {},
    .interconnectResponse 6 false, .ucFetchFault 6 0 false, .ucFetchFault 0 32768 false, .ucLoad (.core 6) 0 0,
    .ucLoad .host 6 0, .ucLoad .host 0 4, .ucVerify (.core 6) 0 0, .ucVerify .host 6 0, .ucVerify .host 0 4,
    .ucSwitch (.core 6) 0 0, .ucSwitch .host 6 0, .ucSwitch .host 0 4, .ucCopy (.core 6) 0 0, .ucCopy .host 6 0,
    .ucCopy .host 0 4, .ucCommandDone 6, .ucSwitchTake 6, .patchWrite (.core 6) 0 0] : List Instr).all (fun i => !i.wf) = true := by decide

theorem test_wf_refuses_commands_6 : ([
    .patchWrite .host 6 0, .patchLock (.core 6) 0, .patchLock .host 6, .memInject (.core 6) 0 0,
    .memInject .host 6 0, .addOp { p := 6 }, .subOp { p := 6 }, .andOp { p := 6 }, .orOp { p := 6 },
    .xorOp { p := 6 }, .shl { p := 6 }, .shr { p := 6 }, .sar { p := 6 }, .ror { p := 6 }, .cmp { p := 6 },
    .tst { p := 6 }, .mov { p := 6 }, .adc { p := 6 }, .sbc { p := 6 }, .minOp { p := 6 }, .maxOp { p := 6 },
    .mul { p := 6 }, .mulh { p := 6 }, .mulhu { p := 6 }, .qmul { p := 6 }, .qmul15 { p := 6 }, .add15 { p := 6 },
    .sub15 { p := 6 }, .clz { p := 6 }, .popc { p := 6 }, .bfx { p := 6 }, .bfxs { p := 6 }, .bfi { p := 6 },
    .rev { p := 6 }, .ldw { p := 6 }, .ldh { p := 6 }, .ldhu { p := 6 }, .ldb { p := 6 }, .ldbu { p := 6 },
    .stw { p := 6 }] : List Instr).all (fun i => !i.wf) = true := by decide

theorem test_wf_refuses_commands_7 : ([
    .sth { p := 6 }, .stb { p := 6 }, .lea { p := 6 }, .ldwpc { p := 6 }, .leapc { p := 6 }, .push { p := 6 },
    .pop { p := 6 }, .pushm { p := 6 }, .popm { p := 6 }, .addm { p := 6 }, .andm { p := 6 }, .orm { p := 6 },
    .xorm { p := 6 }, .xchg { p := 6 }, .casw { p := 6 }, .stwi { p := 6 }, .btst { p := 6 }, .bset { p := 6 },
    .bclr { p := 6 }, .bnot { p := 6 }, .bld { p := 6 }, .bst { p := 6 }, .fadd { p := 6 }, .fsub { p := 6 },
    .fmul { p := 6 }, .fmin { p := 6 }, .fmax { p := 6 }, .fcmp { p := 6 }, .fmov { p := 6 }, .fneg { p := 6 },
    .fabs { p := 6 }, .fmtg { p := 6 }, .fmfg { p := 6 }, .fcvti { p := 6 }, .fcvtf { p := 6 }, .fld { p := 6 },
    .fst { p := 6 }, .bcc { p := 6 }, .call { p := 6 }, .jmp { p := 6 }] : List Instr).all (fun i => !i.wf) = true := by decide

theorem test_wf_refuses_commands_8 : ([
    .callr { p := 6 }, .ret { p := 6 }, .dbnz { p := 6 }, .mfsr { p := 6 }, .mtsr { p := 6 }, .syscall { p := 6 },
    .brk { p := 6 }, .rete { p := 6 }, .waitOp { p := 6 }, .yield { p := 6 }, .fetchsync { p := 6 },
    .sync { p := 6 }, .nopOp { p := 6 }, .divOp { p := 6 }, .divu { p := 6 }, .rem { p := 6 }, .remu { p := 6 },
    .sqrt { p := 6 }, .cordic { p := 6 }, .fdiv { p := 6 }, .fsqrt { p := 6 }, .bmov { p := 6 }, .vmac { p := 6 },
    .bscan { p := 6 }, .crcb { p := 6 }, .sqDoorbell 16 0, .descriptorFetch 16 .error, .hostNop 16, .regw 16 .sound,
    .regr 16 .sound, .railVset 16 .sound, .railOn 16 .sound, .phaseCmd 16 .sound, .quench 16 .sound,
    .capture 16 .sound, .capDump 16 .sound, .capRearm 16 .sound, .fwDescriptor 16, .fwCompletion (.core 6) 0,
    .completionPost 16] : List Instr).all (fun i => !i.wf) = true := by decide

theorem test_wf_refuses_commands_9 : ([
    .cqHeadDoorbell 16 0, .telemetryHeadDoorbell 8 0, .ringRestart (.core 6) .event, .ringRestart .host (.cq 16),
    .queueRestart (.core 6) 0, .queueRestart .host 16, .hostWorldLock (.core 6), .eventPost (.core 6),
    .telemetryRecord 8, .linkRateChange 5 1, .linkRateChange 0 1, .linkRateChange 1 3, .captureTrigger 4,
    .captureArm (.core 6), .captureDump (.core 6), .hostInterfaceReset 5 0, .hostInterfaceReset 0 0, .linkUp 5 1,
    .linkUp 0 1, .linkUp 1 3, .brownOut 6 0, .brownOut 0 65536, .kindleReset (.core 6) 0, .kindleReset .host 65536,
    .flashRead (.core 6), .flashProgram (.core 6) false, .flashErase (.core 6), .jappend (.core 6) 0,
    .jappend .host 2, .flashOpDone 16, .otpProg (.core 6) 0, .otpProg .host 256, .otpAdvance (.core 6),
    .mramPost (.core 6), .holdRequest (.core 6), .holdExitRequest (.core 6), .qexit (.core 6), .emberReq (.core 6),
    .emberWake (.fabric 8), .supplyDip 6 0] : List Instr).all (fun i => !i.wf) = true := by decide

theorem test_wf_refuses_commands_10 : ([
    .supplyDip 0 65536, .watchdogEnable (.core 6), .watchdogKick (.core 6) 0, .watchdogKick .host 65536,
    .mfuEdge 8 0 ⟨0, 0⟩, .mfuEdge 0 8 ⟨0, 0⟩, .mfuEdge 0 0 ⟨0, 200⟩, .probeEdge 8 false 0, .probeEdge 0 false 200, .posRead (.core 6) 0,
    .posRead .host 8, .posWrite (.core 6) 0 0, .posWrite .host 8 0, .speedUpdate 8 0, .pwmPeriodStart 8,
    .waimondInstruction 64, .readClear (.core 6) 0, .registerWrite (.core 6) 0 0 0 .sound,
    .registerWrite .host 0 0 16 .sound, .delayreqRx 3 [] 0, .delayreqRx 0 [] 65536, .illegalInstruction 6] : List Instr).all (fun i => !i.wf) = true := by decide

-- Worked examples of the spec, each on one operation.

set_option maxRecDepth 100000 in
/-- 04_sensing, the example after R91: the sample word of PH18. -/
theorem test_sample_word : sampleWord 0x3C 0x012 0x0320 = 0x03207C12 := by decide

/-- 05_anvil, one tick of section 0 of the worked compensator. -/
theorem test_section_terms : term 1331200000 0 6093 = 3776 ∧ term (-1310720000) 0 6093 = -3719
    ∧ term 1073741824 1 1096043 = 1096043 := by decide

/-- 05_anvil, that section as a whole: y and the next s1, the state s1 having been 1,092,267. -/
theorem test_section : (Section.mk 1331200000 (-1310720000) 0 1073741824 0 0x8000).out 6093 1092267 = 1096043
    ∧ (Section.mk 1331200000 (-1310720000) 0 1073741824 0 0x8000).next 6093 1096043 0 = (1092324, 0) := by decide

/-- 03_phase_array, the example after R72: the edges of PH18. -/
theorem test_edges : edgesOf 0 21333 64000 5326 = some (21333, 26659) ∧ 2 * 64000 / 6 = 21333 := by decide

set_option maxRecDepth 100000 in
/-- 03_phase_array, the example after R85: PH21 is shortened to 61,867 steps and starts its next period at T0 + 600 ns, by
the re-spacing rule; the master started 200 ns before T0 of tick n, here at step 0. -/
theorem test_respace :
    let s := ((awake.modRx 3 (fun x => { x with per := 64000, master := some 0 })).modPh 21 (fun p => { p with
      rail := some 3, ofs := 53333, per := 64000, len := 64000, start := some 53333, next := some 117333 })).modPh 17
        (fun p => { p with rail := some 3, ofs := 10666, per := 64000, len := 64000, start := some 10666, next := some 74666 })
    ((s.respace 21 51200 64000 (250 * 64 + 64000)).ph 21).next = some (800 * 64 + 64000)
      ∧ ((s.respace 17 12800 64000 16000).ph 17).next = some (1200 * 64) := by decide

/-- 07_rails, the example after R169: tgt32 of 0.8 V. -/
theorem test_target : tgt32 1600 = 3435973837 := by decide

/-- 17_motion_feedback, the pump of the last example: 30,720 at two counts in 104,166 unit clocks. -/
theorem test_speed : spdOf 2 104166 = 30720 := by decide

set_option maxRecDepth 100000 in
/-- 17_motion_feedback, the example after R428: with hysteresis the first edge back does not count. -/
theorem test_hysteresis :
    let s := ((((awake.set (MFU_CH_CFG.EN 7) 1).set (MFU_CH_CFG.MODE 7) 1).set (MFU_CH_CFG.HYST 7) 1).set (MFU_CH_STAT.DIR 7) 1).wr
      (MFU_CH_POS 7) 3
    let s := s.modMf 7 (fun x => { x with lv := 1 })
    (match execMfuEdge 7 3 ⟨9, 0⟩ s with | .next t => t.rd (MFU_CH_POS 7) == 3 && t.get (MFU_CH_STAT.DIR 7) == 0 | _ => false) = true := by
  decide

set_option maxRecDepth 100000 in
/-- The check words that the standard CRC-32C and its polynomial of 14_host_interface R349 give for "123456789". -/
theorem test_crc32c : crc32c [0x31, 0x32, 0x33, 0x34, 0x35, 0x36, 0x37, 0x38, 0x39] = 0xE3069283 := by decide

/-- 17_motion_feedback R426: one step of each counting mode at its wrap-around. -/
theorem test_count_rules : mfuRule 1 1 0 = (1, false) ∧ mfuRule 1 0 1 = (-1, false) ∧ mfuRule 1 0 3 = (0, true)
    ∧ mfuRule 2 0 1 = (1, false) ∧ mfuRule 2 2 3 = (-1, false) ∧ mfuRule 3 0 3 = (0, false)
    ∧ mfuRule 4 5 1 = (1, false) ∧ mfuRule 4 1 5 = (-1, false) ∧ mfuRule 4 1 2 = (0, true) ∧ mfuRule 4 1 7 = (0, true) := by decide

-- States and operands that meet the hypotheses of the statements, one for each statement that has any.

set_option maxRecDepth 100000 in
/-- Something meets the hypotheses of TimebaseRowsComplete, at the ends of its ranges. -/
theorem test_meets_timebase_rows_complete :
    awake.alive = true ∧ awake.on TBU_STAT.HOLDOVER = false
      ∧ (awake.set TBU_STAT.HOLDOVER 1).alive = true ∧ (awake.set TBU_STAT.HOLDOVER 1).on TBU_STAT.HOLDOVER = true
      ∧ (awake.set TBU_STAT.ENG_PLL_LOCK 1).on TBU_STAT.ENG_PLL_LOCK = true
      ∧ (let s := { awake with tbu := { awake.tbu with modeCap := some true } }
         s.alive = true ∧ s.tbu.modeCap = some true ∧ s.flockTime % 4 = 0 ∧ s.mode ≠ modeHold ∧ spWf resetVal s.regs = true)
      ∧ (let s := awake.set TBU_CMP_CTL.EN 0x80
         s.alive = true ∧ s.bit TBU_CMP_CTL 7 = true ∧ s.cmpReached 7 = true)
      ∧ Who.wf .host = true ∧ 49 < awake.tickCycles ∧ (awake.set TBU_STAT.ENG_PLL_LOCK 0).on TBU_STAT.ENG_PLL_LOCK = false ∧ awake.mayRead .host TBU_TBC_LO = true ∧ awake.mayRead .host TBU_BGC_LO = true := by decide

set_option maxRecDepth 100000 in
/-- Something meets the hypotheses of FlockPortRowsComplete, at the ends of its ranges. -/
theorem test_meets_flock_port_rows_complete :
        (let s := awake.set FLK_CTL.PORT_EN 7
         s.alive = true ∧ s.portState 2 = 0 ∧ nbit (s.get FLK_CTL.PORT_EN) 2 = true)
      ∧ (awake.set (FLK_PORT_STAT.LSTATE 2) 1).portState 2 = 1
      ∧ (awake.set (FLK_PORT_STAT.LSTATE 2) 2).portState 2 = 2 ∧ wfPortMeasured 2 3200 100 = true
      ∧ (let u := ((awake.set FLK_CTL.PORT_EN 7).set (FLK_PORT_STAT.LSTATE 2) 3).bumpBy (FLK_PORT_ERR.CODE 2) 9
         u.portUp 2 = true ∧ nbit (u.get FLK_CTL.PORT_EN) 2 = true)
      ∧ ((awake.set (FLK_PORT_STAT.LSTATE 2) 2).bumpBy (FLK_PORT_ERR.CODE 2) 0).portState 2 ≠ 0
      ∧ (let u := ((awake.set FLK_CTL.PORT_EN 0).set (FLK_PORT_STAT.LSTATE 2) 1).bumpBy (FLK_PORT_ERR.CODE 2) 0
         u.portState 2 ≠ 0 ∧ nbit (u.get FLK_CTL.PORT_EN) 2 = false)
      ∧ 2 ≤ (awake.set (FLK_PORT_STAT.LSTATE 2) 2).portState 2
      ∧ ctlOfBytes (ctlBytes ctlDelayreq []) = some (ctlDelayreq, List.replicate 16 0)
      ∧ ctlOfBytes (ctlBytes ctlTime (beBytes 8 1000)) = some (ctlTime, beBytes 8 1000 ++ List.replicate 8 0)
      ∧ (let s := upstream
         s.alive = true ∧ s.portUp 0 = true ∧ s.isUpstream 0 = true ∧ absI (s.phaseErr 0 15) < 16
         ∧ s.anyEnabled = true ∧ s.tbu.needTime = true)
      ∧ (let s := awake.set (FLK_PORT_STAT.LSTATE 1) 3
         s.alive = true ∧ s.portUp 1 = true ∧ ctlOfBytes [] = none
         ∧ ctlOfBytes (ctlBytes ctlAnnounce (Announce.body { sender := 5 }))
           = some (ctlAnnounce, Announce.body { sender := 5 } ++ List.replicate 5 0)
         ∧ (announceOf (Announce.body { sender := 5 } ++ List.replicate 5 0)).sender ≠ s.ownId
         ∧ (s.fp 0).ann = none ∧ (s.fp 1).ann = none ∧ (s.fp 2).ann = none)
      ∧ wfAckRx 1 3 4 = true
      ∧ ((awake.modFp 1 (fun x => { x with unacked := [({ seq := 3, src := 4 }, 3)] })).fp 1).unacked = [({ seq := 3, src := 4 }, 3)] := by decide

set_option maxRecDepth 100000 in
/-- Something meets the hypotheses of FlockFrameRowsComplete, at the ends of its ranges. -/
theorem test_meets_flock_frame_rows_complete :
        (let s := awake.set (FLK_PORT_STAT.LSTATE 1) 3
         s.alive = true ∧ s.portUp 1 = true ∧ wfDutyFrameRx 1 [] = true ∧ dutyOfBytes [] = none
         ∧ ctlOfBytes (ctlBytes ctlSpanloss [4]) = some (ctlSpanloss, 4 :: List.replicate 15 0) ∧ wfMessageRx 1 [] = true ∧ msgOfBytes [] = none)
      ∧ (let s := awake.modFs 5 (fun x => { x with rx := some {} })
         s.alive = true ∧ (s.fs 5).rx = some {}
         ∧ (s.modFs 5 (fun x => { x with rx := none, missing := 0, lastG := some false })).spanLive 5 = false)
      ∧ (let u := ((awake.set (FLK_SPAN.EN 5) 1).set (PHA_RAIL_CFG.SRC 0) 1).set (RLC_RAIL_STAT.STATE 0) railReg
         u.spanLive 5 = true ∧ u.get (FLK_SPAN.RAIL 5) = 0 ∧ (u.rl 0).toTon = false ∧ u.enabled 0 = true ∧ u.follower 0 = true)
      ∧ (let s := ((awake.set (FLK_SPAN.EN 5) 1).set (FLK_SPAN.ROLE 5) 1).modFs 5 (fun x => { x with lastG := some false, missing := 2 })
         s.alive = true ∧ s.spanLive 5 = true ∧ s.on (FLK_SPAN.ROLE 5) = true ∧ (s.fs 5).lastG.isSome = true ∧ (s.fs 5).missing < 3
         ∧ ((s.modFs 5 (fun x => { x with missing := 3 })).fs 5).missing = 3)
      ∧ (let s := awake.set (FLK_SPAN.LOST 5) 1
         s.alive = true ∧ wfRejoin .host 5 = true ∧ s.may .host (FLK_SPAN 5) (s.rd (FLK_SPAN 5) ||| 0x2000) = true
         ∧ s.on (FLK_SPAN.LOST 5) = true)
      ∧ wfMessageQueue (.core 0) 7 = true ∧ awake.may (.core 0) FLK_TX_TAIL 7 = true
      ∧ awake.may .tlaell FLK_COMMIT 1 = true
      ∧ (let s := awake.set PMU_STAT.MODE modeHold
         s.alive = true ∧ wfCommitUnlock .host .rlc = true ∧ s.may .host (commitAddr .rlc) 0 = true ∧ s.mode = modeHold
         ∧ wfCommitUnlock .host .hif = true ∧ s.may .host (commitAddr .hif) 0 = true ∧ s.on HIF_CTL.EN = false ∧ s.on HIF_CTL.TEN = false) := by decide

set_option maxRecDepth 100000 in
/-- Something meets the hypotheses of PhaseRowsComplete, at the ends of its ranges. -/
theorem test_meets_phase_rows_complete :
        (let s := (awake.set (PHA_CH_STAT.STATE 143) phActive).modPh 143 (fun p => { p with next := some 0 })
         s.alive = true ∧ (s.ph 143).next = some 0 ∧ s.switching 143 = true)
      ∧ wfSenDelayEnd 8 = true ∧ awake.may .host PHA_PH_CMD (phCmdWord 4 143) = true
      ∧ awake.may (.core 5) PHA_PH_CMD (phCmdWord 1 0) = true
      ∧ (let s := governed phParked
         s.alive = true ∧ s.byOrder (s.inState 31 phParked) = [143] ∧ s.govOff 31 = false
         ∧ s.getT (PHA_GOV_DW.ADD_DWELL 31) ≤ (s.rx 31).addCnt)
      ∧ (let s := governed phActive
         s.alive = true ∧ (s.byOrder (s.inState 31 phActive)).getLast? = some 143 ∧ s.govOff 31 = false
         ∧ s.getT (PHA_GOV_DW.SHED_DWELL 31) ≤ (s.rx 31).shedCnt ∧ (s.rx 31).hold = 0 ∧ s.shedHeld 31 = false)
      ∧ wfReadd 31 511 = true
      ∧ ((awake.modRx 31 (fun x => { x with hold := 1 })).rx 31).hold = 1
      ∧ (awake.set (PHA_CH_STAT.STATE 143) phBlend).phState 143 = phBlend
      ∧ awake.may .host PHA_COMMIT 1 = true := by decide

set_option maxRecDepth 100000 in
/-- Something meets the hypotheses of SensingRowsComplete, at the ends of its ranges. -/
theorem test_meets_sensing_rows_complete :
    awake.alive = true ∧ awake.may .host SNS_TINJ (BitVec.ofNat 32 (2 ^ 31 + 511)) = true ∧ wfTallyInject .host 511 = true
      ∧ awake.mayRead .host SNS_CAP_STAT = true ∧ awake.mayRead (.core 5) SNS_CAP_STAT = true
      ∧ (awake.flockTime % 2000 = 0 ∧ awake.on SNS_CTL.FREEZE = false ∧ awake.mode ≠ modeHold ∧ awake.dip = false)
      ∧ (let s := { awake with sns := { awake.sns with ofs := modNth awake.sns.ofs 143 (fun _ => (65536 * 4095, 65536)) } }
         s.alive = true ∧ 65536 ≤ (nth s.sns.ofs 143 ((0 : Int), 0)).2 ∧ roundDiv (8 * (nth s.sns.ofs 143 ((0 : Int), 0)).1) 65536 = 32760)
      ∧ (let s := { awake with sns := { awake.sns with vofs := modNth awake.sns.vofs 31 (fun _ => (-65536, 65536)) } }
         s.alive = true ∧ 65536 ≤ (nth s.sns.vofs 31 ((0 : Int), 0)).2 ∧ roundDiv (nth s.sns.vofs 31 ((0 : Int), 0)).1 65536 = -1)
      ∧ (let s := { awake with sns := { awake.sns with zlearn := modNth awake.sns.zlearn 143 (fun _ => (-4096, 4096)) } }
         s.alive = true ∧ 4096 ≤ (nth s.sns.zlearn 143 ((0 : Int), 0)).2
         ∧ floorDiv (nth s.sns.zlearn 143 ((0 : Int), 0)).1 4096 = -1)
      ∧ (let s := { awake.set (SNS_DOM_CFG.EN 7) 1 with sns := { awake.sns with dom := modNth awake.sns.dom 7 (fun _ => (16384 * 65536, 16384 * 65536, 16384, false)) } }
         let o := nth s.sns.dom 7 (0, 0, 0, false)
         s.alive = true ∧ 2 ^ s.get (SNS_DOM_CFG.AVGLOG2 7) ≤ o.2.2.1 ∧ s.on (SNS_DOM_CFG.EN 7) = true ∧ o.2.2.2 = false
         ∧ o.2.2.1 * 65536 ≤ absI o.1
         ∧ 0 ≤ floorDiv ((s.get (SNS_DOM_GEFF.GEFF 7) : Int) * (1000 * o.2.1 - ((s.get (SNS_DOM_CFG.IQ 7) * 65536 * o.2.2.1 : Nat) : Int)) * 65536)
            (1000 * ((65536 + s.get (SNS_DOM_LOSS.LOSS 7) : Nat) : Int) * o.1)
         ∧ floorDiv ((s.get (SNS_DOM_GEFF.GEFF 7) : Int) * (1000 * o.2.1 - ((s.get (SNS_DOM_CFG.IQ 7) * 65536 * o.2.2.1 : Nat) : Int)) * 65536)
            (1000 * ((65536 + s.get (SNS_DOM_LOSS.LOSS 7) : Nat) : Int) * o.1) < 2 ^ 32)
      ∧ (let q : SlopeSums := { nOn := 4096, nOff := 4096, sOn := 2, sOff := 1, vIn := 512, vOut := -512, cur := 131072 * 8192 }
         let s := { awake with sns := { awake.sns with lr := modNth awake.sns.lr 143 (fun _ => q) } }
         s.alive = true ∧ nth s.sns.lr 143 {} = q ∧ 131072 * 8192 ≤ absI q.cur ∧ q.sOn - q.sOff ≠ 0
         ∧ floorDiv (250 * q.vIn) (512 * (q.sOn - q.sOff)) = 250
         ∧ floorDiv (1000000 * (-(q.vIn * q.sOff) - q.vOut * (q.sOn - q.sOff))) ((q.sOn - q.sOff) * 256 * q.cur) = 0)
      ∧ (let e : Int := 3200 + floorDiv (128 * (1862 * 3300000 - ((409600 * awake.get (SNS_TFLT_CFG.V0 8) : Nat) : Int)))
           ((4096 * awake.get (SNS_TFLT_CFG.SLOPE 8) : Nat) : Int)
         (124 : Int) * 33 < 4096 ∧ (25 : Int) * 4096 < 3104 * 33 ∧ (4096 : Int) ≤ 1862 * 33 ∧ (1862 : Int) * 33 ≤ 25 * 4096
         ∧ -32768 ≤ e ∧ e < 32768)
      ∧ awake.on (SNS_TDIO_CFG.EN 3) = false ∧ (awake.set (SNS_TDIO_CFG.EN 3) 1).on (SNS_TDIO_CFG.EN 3) = true := by decide

set_option maxRecDepth 100000 in
/-- Something meets the hypotheses of AnvilRowsComplete, at the ends of its ranges. -/
theorem test_meets_anvil_rows_complete :
    wfPleanEvent 33 512 = true
      ∧ ((awake.modLn 33 (fun x => { x with pl := 1 })).ln 33).pl = 1
      ∧ awake.may .host (ANV_LN_TRIG 33) 2 = true ∧ awake.may (.core 5) (ANV_LN_TRIG 33) 1 = true
      ∧ awake.may .host ANV_LN_SWAP (swapWord false false true 33) = true ∧ awake.may .tlaell ANV_LN_SWAP (swapWord true false true 0) = true
      ∧ awake.may .host ANV_LN_SWAP (swapWord true true false 63) = true
      ∧ wfShadowWrite .host 33 63 0xFFFFFFFF = true ∧ awake.may .host (ANV_SH 33 63) 0xFFFFFFFF = true ∧ (awake.ln 33).cap = none
      ∧ ((awake.modLn 33 (fun x => { x with cap := some true })).ln 33).cap.isSome = true
      ∧ (let s := awake.set (ANV_LN_STAT.FAULTED 33) 1
         s.alive = true ∧ s.may .host (ANV_LN_STAT 33) 0x40000000 = true ∧ (s.wr (ANV_LN_STAT 33) (s.rd (ANV_LN_STAT 33))).laneEn 33 = false
         ∧ (s.wr (ANV_LN_STAT 33) (s.rd (ANV_LN_STAT 33))).on (ANV_LN_STAT.FAULTED 33) = true)
      ∧ awake.may .host (ANV_LN_SNAP 33) 1 = true ∧ awake.may .host ANV_COMMIT 1 = true := by decide

set_option maxRecDepth 100000 in
/-- Something meets the hypotheses of BellowsRowsComplete, at the ends of its ranges. -/
theorem test_meets_bellows_rows_complete :
    (awake.set (BLW_BW_STAT.STATE 31) 1).get (BLW_BW_STAT.STATE 31) = 1
      ∧ (awake.set (BLW_BW_STAT.STATE 31) 2).get (BLW_BW_STAT.STATE 31) = 2
      ∧ (awake.set (BLW_BW_STAT.STATE 31) 3).get (BLW_BW_STAT.STATE 31) = 3
      ∧ ((awake.modPh 143 (fun p => { p with forced := true })).ph 143).forced = true
      ∧ (let s := sampled ((awake.set (RLC_RAIL_STAT.STATE 31) railReg).set (BLW_BW_CFG.OEN 31) 1)
         s.alive = true ∧ s.overArmed 31 = true ∧ s.on (BLW_BW_STAT.OVACT 31) = false ∧ (s.bl 31).ovExpired = false)
      ∧ (awake.set (BLW_BW_STAT.OVACT 31) 1).on (BLW_BW_STAT.OVACT 31) = true
      ∧ (awake.set (BLW_WARN.EN 15) 1).on (BLW_WARN.EN 15) = true
      ∧ (let s := sampled ((awake.set (EVF_CON.PEND (kPlarm 31)) 1).set (BLW_PL.DUR 31) 1)
         s.alive = true ∧ s.on (EVF_CON.PEND (kPlarm 31)) = true ∧ s.onT (BLW_PL.DUR 31) = true)
      ∧ (let s := awake.modBl 31 (fun b => { b with plCnt := 1 })
         s.alive = true ∧ (s.bl 31).plCnt = 1 ∧ (s.bl 31).plLoad = false)
      ∧ (let s := sampled (((awake.set (PHA_CH_STAT.STATE 143) phActive).set (PHA_CH_OC.OC_TH 143) 1).set (PHA_CH_OC.OC_BLANK 143) 1)
         s.alive = true ∧ s.switching 143 = true ∧ s.onT (PHA_CH_OC.OC_TH 143) = true ∧ 64 * s.getT (PHA_CH_OC.OC_BLANK 143) ≤ 64
         ∧ 63 < 64 * s.getT (PHA_CH_OC.OC_BLANK 143) ∧ ((s.leaveForce 143).ph 143).tripped = false ∧ (s.ph 143).pocActed = false
         ∧ (((s.modPh 143 (fun p => { p with tripped := true })).leaveForce 143).ph 143).tripped = true) := by decide

set_option maxRecDepth 100000 in
/-- Something meets the hypotheses of ProtectionRowsComplete, at the ends of its ranges. -/
theorem test_meets_protection_rows_complete :
        (let s := awake.modBl 31 (fun b => { b with ov := { cnt := 255, acted := false }, ovW := { cnt := 255, acted := false } })
         s.alive = true ∧ (Prot.ov 31).wf = true ∧ s.protDue (.ov 31) = true ∧ s.reached (.ov 31) (s.filts (.ov 31)).2 = true
         ∧ protPhase (.ov 31) = none)
      ∧ (awake.set (EVF_CON.PEND (kQuench 31)) 1).on (EVF_CON.PEND (kQuench 31)) = true
      ∧ (awake.set (EVF_CON.PEND kQuenchDev) 1).on (EVF_CON.PEND kQuenchDev) = true
      ∧ (awake.set TBU_STAT.HOLDOVER 1).on TBU_STAT.HOLDOVER = true
      ∧ awake.may .host BLW_QCMD (BitVec.ofNat 32 (2 ^ 30 + 31)) = true ∧ awake.may (.core 5) BLW_QCMD 0x80000000 = true
      ∧ ((awake.set (BLW_PROT_STAT.HICCUP 31) 1).on (BLW_PROT_STAT.HICCUP 31) = true
         ∧ (awake.set (BLW_PROT_STAT.HICCUP 31) 1).hiccupWaits 31 = false)
      ∧ ((awake.set (RLC_RAIL_STAT.STATE 31) railFall).enabled 31 = true ∧ (awake.set (RLC_RAIL_STAT.STATE 31) railFall).quenched 31 = false)
      ∧ (let s := (awake.set (PHA_CH_STAT.STATE 143) phFailed).modPh 143 (fun p => { p with hiccup := true })
         (s.ph 143).hiccup = true ∧ s.phState 143 = phFailed ∧ ((s.ph 143).tooHot && s.phaseHot 143) = false)
      ∧ (awake.set (PHA_CH_STAT.STATE 143) phActive).phState 143 = phActive
      ∧ awake.may .host BLW_LATCH_SUM 0xFFFFFFFF = true
      ∧ (let u := ((awake.set (PHA_CH_STAT.STATE 143) phActive).modPh 143 (fun p => { p with rail := some 31 })).setb (PHA_CH_STAT.TFAULT 143) true
         u.switching 143 = true ∧ u.railOf 143 = 31
         ∧ (((u.failPhase 143 1).modPh 143 (fun p => { p with hiccup := u.ladAction (.sf 31) == 2 && u.dropRetry 143 (u.ladRetry (.sf 31)), tooHot := false })).filts
             (.sf 31)).1.acted = false) := by decide

set_option maxRecDepth 100000 in
/-- Something meets the hypotheses of RailRowsComplete, at the ends of its ranges. -/
theorem test_meets_rail_rows_complete :
    (awake.set (RLC_RAIL_STAT.STATE 31) railTonDly).railState 31 = railTonDly
      ∧ (awake.set (RLC_RAIL_STAT.STATE 31) railToffDly).railState 31 = railToffDly
      ∧ awake.may .host RLC_GRP_CMD (BitVec.ofNat 32 (2 ^ 30 + 7)) = true ∧ awake.may (.core 5) RLC_GRP_CMD (BitVec.ofNat 32 (2 ^ 31 + 1)) = true
      ∧ (let s := sampled (((awake.set (RLC_RAIL_CTL.SRCEN 31) 7).set (RLC_RAIL_SCALE.SCALE 31) 0x400000).set (RLC_RAIL_LIM.VMAX 31) 10000)
         s.alive = true ∧ s.may .host (RLC_RAIL_FREF 31) 10000 = true ∧ wbit 10000 31 = false
         ∧ ((s.set (RLC_RAIL_FREF.ATEN 31) 0).set (RLC_RAIL_STAT.ATPEND 31) 0).refused 31 slotFw (getBits 10000 13 0) = none
         ∧ wbit (0x80000000 + 10000) 31 = true ∧ s.may .host (RLC_RAIL_FREF 31) (0x80000000 + 10000) = true
         ∧ s.refused 31 slotFw (getBits (0x80000000 + 10000) 13 0) = none
         ∧ s.may .host (RLC_RAIL_HREF 31) (0x80000000 + 10000) = true ∧ s.refused 31 slotHost (getBits (0x80000000 + 10000) 13 0) = none)
      ∧ (let s := (awake.set (RLC_RAIL_FREF.ATEN 31) 1).set (RLC_RAIL_AT.AT 31) 1
         let s := { s with tbu := { s.tbu with windowOpen := true } }
         s.alive = true ∧ s.on (RLC_RAIL_FREF.ATEN 31) = true ∧ s.atDue 31 = true)
      ∧ awake.may .host RLC_COMMIT 1 = true
      ∧ awake.dip = false ∧ awake.on TBU_CTL.MODE_REQ = awake.graze ∧ (awake.set PMU_STAT.DIP 1).dip = true
      ∧ (awake.set TBU_CTL.MODE_REQ 1).on TBU_CTL.MODE_REQ ≠ (awake.set TBU_CTL.MODE_REQ 1).graze
      ∧ (awake.set TBU_STAT.ENG_PLL_LOCK 1).tickMay = true := by decide

set_option maxRecDepth 100000 in
/-- Something meets the hypotheses of AvsRowsComplete, at the ends of its ranges. -/
theorem test_meets_avs_rows_complete :
        (let s := avsReady
         let o : AvsOp := { port := 15, sel := 15, cmd := 3, data := 5000 }
         let u := s.bump (RLC_AVS_STAT.FRAMES o.port)
         s.avsOne o 31 = true ∧ u.avsCheck 31 0 5000 = 0)
      ∧ (let s := avsReady
         let o : AvsOp := { port := 15, sel := 0, data := 0x6464 }
         let u := s.bump (RLC_AVS_STAT.FRAMES o.port)
         s.avsOne o 31 = true ∧ u.avsCheck 31 1 0x6464 = 0)
      ∧ (let s := avsReady.modRl 31 (fun x => { x with fw := 500 })
         let o : AvsOp := { port := 15, sel := 0 }
         let u := s.bump (RLC_AVS_STAT.FRAMES o.port)
         s.avsOne o 31 = true ∧ u.avsCheck 31 4 0 = 0)
      ∧ avsReady.on (RLC_AVS_CFG.EN 15) = true ∧ avsReady.pinsIdle = false := by decide

set_option maxRecDepth 100000 in
/-- Something meets the hypotheses of PmbusReadsComplete, at the ends of its ranges. -/
theorem test_meets_pmbus_reads_complete :
    pmbReady.pmbOn { q := 1 } 31 = true ∧ 0 < pmbReady.get (RLC_RAIL_SCALE.SCALE 31)
      ∧ (2 * pmbReady.get (BLW_OV.FABS 31) * 2621440 + pmbReady.get (RLC_RAIL_SCALE.SCALE 31)) / (2 * pmbReady.get (RLC_RAIL_SCALE.SCALE 31)) < 65536
      ∧ (2 * pmbReady.get (BLW_UV.FABS 31) * 2621440 + pmbReady.get (RLC_RAIL_SCALE.SCALE 31)) / (2 * pmbReady.get (RLC_RAIL_SCALE.SCALE 31)) < 65536
      ∧ (let s := pmbReady.set (RLC_RAIL_REQ.PMB 31) 10000
         let e (sg : Int) (f : FRef) : Int := roundDiv (2048 * (s.get (RLC_RAIL_REQ.PMB 31) * s.get (RLC_RAIL_SCALE.SCALE 31) : Nat)
            + sg * (4096 * s.get f * 2 ^ 24 : Nat)) ((1000 * s.get (RLC_RAIL_SCALE.SCALE 31) : Nat) : Int)
         s.pmbOn { q := 1 } 31 = true ∧ 0 < s.get (RLC_RAIL_SCALE.SCALE 31) ∧ 0 ≤ e 1 (BLW_OV.WREL 31) ∧ e 1 (BLW_OV.WREL 31) < 65536
         ∧ 0 ≤ e (-1) (BLW_UV.WREL 31) ∧ e (-1) (BLW_UV.WREL 31) < 65536)
      ∧ (let s := pmbReady.set (BLW_VIN_RAILS.RAILS 7) 0x80000000
         s.pmbOn { q := 1 } 31 = true ∧ s.pageInput 31 = some 7) := by decide

set_option maxRecDepth 100000 in
/-- Something meets the hypotheses of PmbusStatusReadsComplete, at the ends of its ranges. -/
theorem test_meets_pmbus_status_reads_complete :
    pmbReady.pmbOn { q := 1 } 31 = true ∧ (pmbReady.set (RLC_PMB_CFG.EN 0) 1).pmbOn { q := 0 } 0 = true := by decide

set_option maxRecDepth 100000 in
/-- Something meets the hypotheses of PmbusMeasuredReadsComplete, at the ends of its ranges. -/
theorem test_meets_pmbus_measured_reads_complete :
    pmbReady.pmbOn { q := 1 } 31 = true ∧ 0 < pmbReady.get (RLC_RAIL_SCALE.SCALE 31)
      ∧ 0 ≤ roundDiv ((pmbReady.sumVout 31 * 640 * 4096 : Nat) : Int) ((256 * pmbReady.get (RLC_RAIL_SCALE.SCALE 31) : Nat) : Int)
      ∧ roundDiv ((pmbReady.sumVout 31 * 640 * 4096 : Nat) : Int) ((256 * pmbReady.get (RLC_RAIL_SCALE.SCALE 31) : Nat) : Int) < 65536
      ∧ (let s := pmbReady.set (BLW_VIN_RAILS.RAILS 7) 0x80000000
         s.pmbOn { q := 1 } 31 = true ∧ s.pageInput 31 = some 7 ∧ s.onT (SNS_VIN_CFG.MODE 7) = false)
      ∧ (let bs : Bytes := [1] ++ List.replicate 16 0 ++ [31] ++ List.replicate 10 0
         let s := (pmbReady.setBytes (0x20000400 + 32 * 16383) (bs ++ leBytes 4 (crc32c bs)))
         s.pmbOn { q := 1 } 31 = true ∧ s.mrSlot 16383 = bs ++ leBytes 4 (crc32c bs) ∧ recRailOf (s.mrSlot 16383) = some 31
         ∧ recOk (s.mrSlot 16383) = true) := by decide

set_option maxRecDepth 100000 in
/-- Something meets the hypotheses of PmbusWritesComplete, at the ends of its ranges. -/
theorem test_meets_pmbus_writes_complete :
        (let s := pmbReady
         let o (d : Bytes) : PmbOp := { q := 1, write := true, data := d }
         s.pmbOn (o [0x80]) 31 = true ∧ (o [0x80]).write = true ∧ (o [0x80]).pec ≠ .bad
         ∧ s.on (RLC_PMB_CFG.PECREQ (o [0x80]).q) = false ∧ s.wpAllows 1 0 = true ∧ s.wpAllows 1 1 = true ∧ s.wpAllows 1 2 = true
         ∧ s.wpAllows 1 3 = true ∧ (o [0x80]).data.length = 1 ∧ ofLe (o [0x80]).data = 0x80 ∧ ofLe [31] < 32
         ∧ s.refused 31 slotPmb (voutDec 20480) = none ∧ (s.get (RLC_RAIL_LIM.VMIN 31) ≤ voutDec 20480)
         ∧ s.on RLC_COMMIT.LOCK = false ∧ voutDec 20480 = 10000 ∧ 500 ≤ voutDec 1024 ∧ voutDec 1024 ≤ s.get (RLC_RAIL_LIM.VMAX 31))
      ∧ l11Dec 0x0001 10 1 = 10 ∧ l11Dec 1 (2 ^ 32) 1000 = 4294967 ∧ l11Dec 0x03FF 8 1 = 8184 ∧ l11Dec 1 1000 1 = 1000
      ∧ l11Dec 1 128 1 = 128 ∧ l11Dec 1 (2 ^ 24) 1 = 0x1000000 ∧ 0xC0 / 64 ≠ 1 ∧ 0x80 / 64 ≠ 0
      ∧ (2 * 20480 * pmbReady.get (RLC_RAIL_SCALE.SCALE 31) + 2621440) / 5242880 < 65536
      ∧ (1 ≤ roundDiv (1 * ((20000 * 1000 : Nat) - (pmbReady.get (RLC_RAIL_REQ.PMB 31) * 2048 : Nat)) * (pmbReady.get (RLC_RAIL_SCALE.SCALE 31) : Nat)) ((4096 * 2 ^ 24 : Nat) : Int))
      ∧ (let s := (pmbReady.modPh 143 (fun p => { p with rail := some 31 }))
         s.pmbOn { q := 1 } 31 = true ∧ s.memberOf (0x408F % 256) 31 = true ∧ 0x408F / 4096 ≤ 4)
      ∧ (let s := { pmbReady with rlc := { pmbReady.rlc with alert := [false, true] } }
         s.on (RLC_PMB_CFG.EN 1) = true ∧ nth s.rlc.alert 1 false = true ∧ s.pinsIdle = false) := by decide

set_option maxRecDepth 100000 in
/-- Something meets the hypotheses of FabricRowsComplete, at the ends of its ranges. -/
theorem test_meets_fabric_rows_complete :
        (let s := { awake with evf := { awake.evf with waiting := modNth awake.evf.waiting 511 (fun _ => 1) } }
         (s.groupOrder 7).find? (fun k => decide (0 < s.waitingAt k)) = some 511)
      ∧ (let s := (awake.set (EVF_CH_STAT.BUSY 511) 1)
         let s3 := { s with evf := { s.evf with act := [(EVF_CH_CFG 511, 3 * 2 ^ 20)] } }
         let s1 := { s with evf := { s.evf with act := [(EVF_CH_CFG 511, 2 ^ 20)] } }
         s3.pmu.ember = false ∧ s3.on (EVF_CH_STAT.BUSY 511) = true ∧ s3.chElem 511 = 3 ∧ s1.on (EVF_CH_STAT.BUSY 511) = true ∧ s1.chElem 511 = 1)
      ∧ awake.may .host EVF_CON_FIRE (BitVec.ofNat 32 1543) = true ∧ consumerOk 1543 = true ∧ consumerOk 2047 = false
      ∧ awake.may .host EVF_CON_FIRE (BitVec.ofNat 32 2047) = true
      ∧ awake.may .host EVF_COMMIT 1 = true ∧ awake.on EVF_COMMIT.BUSY = false
      ∧ ((awake.set EVF_COMMIT.BUSY 1).on EVF_COMMIT.BUSY = true ∧ (awake.set EVF_COMMIT.BUSY 1).on EVF_COMMIT.DEFER = false)
      ∧ awake.on (EVF_EVIO.DIR 31) = false
      ∧ (let s := (awake.set (EVF_EVIO.DIR 31) 1).set (EVF_CON.PEND 239) 1
         s.pmu.ember = false ∧ s.on (EVF_CON.PEND (208 + 31)) = true ∧ (s.takeEvent (208 + 31)).on (EVF_EVIO.DIR 31) = true
         ∧ (s.takeEvent (208 + 31)).unKindled = false ∧ (s.takeEvent (208 + 31)).on (EVF_EVIO.OMODE 31) = false)
      ∧ (let s := ((awake.set (EVF_EVIO.DIR 31) 1).set (EVF_CON.PEND 239) 1).set (EVF_EVIO.OMODE 31) 1
         s.on (EVF_CON.PEND (208 + 31)) = true ∧ (s.takeEvent (208 + 31)).on (EVF_EVIO.DIR 31) = true
         ∧ (s.takeEvent (208 + 31)).on (EVF_EVIO.OMODE 31) = true)
      ∧ nth (awake.setPulse 31 true).evf.pulse 31 false = true := by decide

set_option maxRecDepth 100000 in
/-- Something meets the hypotheses of InterruptRowsComplete, at the ends of its ranges. -/
theorem test_meets_interrupt_rows_complete :
    sourceOk 25 = true ∧ sourceConsumer 25 = none ∧ sourceConsumer 511 = some 767
      ∧ (awake.set (EVF_CON.PEND 767) 1).on (EVF_CON.PEND 767) = true
      ∧ awake.may .host (ICU_SET 39) 0xFFFFFFFF = true
      ∧ (let s := interrupted
         s.alive = true ∧ s.canEnter 5 = true ∧ (s.eligible 5).isSome = true ∧ (s.landAll 5).eligible 5 = some (.source 25)
         ∧ (s.landAll 5).serviceOk 5 0x200 = true)
      ∧ (let s := activated
         s.alive = true ∧ s.canEnter 5 = true ∧ (s.eligible 5).isSome = true ∧ (s.landAll 5).eligible 5 = some (.slot 15)
         ∧ (s.landAll 5).serviceOk 5 0x201 = true)
      ∧ (let s := (interrupted.modCore 5 (fun c => { c with live := true, bank := 3, mthWas := some 16 })).modBank 5 3
           (fun b => { b with status := mkStatus false false 3 16 0 })
         s.canEnter 5 = true ∧ (s.eligible 5).isSome = true ∧ (s.landAll 5).eligible 5 = none)
      ∧ wfSlotEnable .host 5 15 = true ∧ awake.may .host (DRV_SLOT_CFG 5 15) (awake.rd (DRV_SLOT_CFG 5 15) ||| 0x80000000) = true
      ∧ (awake.set (DRV_STAT.IDLE 5) 2).get (DRV_STAT.IDLE 5) = 2
      ∧ wfCoreReset .host 5 0xFFFF = true ∧ awake.may .host (DRV_RST 5) (BitVec.ofNat 32 0xFFFF) = true
      ∧ awake.may .host ICU_COMMIT 1 = true := by decide

set_option maxRecDepth 100000 in
/-- Something meets the hypotheses of CoreStoreRowsComplete, at the ends of its ranges. -/
theorem test_meets_core_store_rows_complete :
        (let s := awake.modCore 5 (fun c => { c with long := [{ unit := .window, bank := 1, results := [] }] })
         s.alive = true ∧ ((s.core 5).long.find? (fun x => x.unit == .window)).isSome = true)
      ∧ (let s := awake.modCore 5 (fun c => { c with pload := some { addr := 0, width := 4, signed := false, dest := .fpFlags, len := 4 } })
         s.alive = true ∧ ((s.flushMerge 5).core 5).pload.isSome = true)
      ∧ (((awake.flushMerge 5).core 5).pload = none ∧ nth (awake.flushMerge 5).pmu.held 5 true = false)
      ∧ (awake.on (DRV_STAT.LOCKED 5) = false ∧ nth awake.pmu.held 5 true = false ∧ awake.ucIll 5 0x7FFF = true
         ∧ (awake.set (UC_STAT.ACT 5) 1).ucFetch 5 0 = .word 0)
      ∧ (let s := awake.set (UC_STAT.ACT 5) 1
         s.on (UC_STAT.BUSY 5) = false ∧ 2 ≠ s.get (UC_STAT.ACT 5) ∧ 1 = s.get (UC_STAT.ACT 5) ∧ s.may .host (UC_CMD 5) (ucCmdWord 1 2) = true
         ∧ s.may .host (UC_CMD 5) (ucCmdWord 2 1) = true ∧ s.may .host (UC_CMD 5) (ucCmdWord 4 2) = true
         ∧ s.may .host (UC_CMD 5) (ucCmdWord 3 0) = true ∧ s.may .host (UC_CMD 5) (ucCmdWord 4 3) = true
         ∧ (s.set (UC_STAT.BUSY 5) 1).on (UC_STAT.BUSY 5) = true ∧ s.mode ≠ modeHold ∧ s.mode ≠ modeKindle)
      ∧ (let s := ((awake.set (UC_STAT.ACT 5) 1).setUcValid 5 2 true).set PMU_STAT.MODE modeHold
         s.on (UC_STAT.BUSY 5) = false ∧ s.may .host (UC_CMD 5) (ucCmdWord 3 2) = true ∧ s.mode = modeHold ∧ s.ucValid 5 2 = true
         ∧ (s.set PMU_STAT.MODE modeKindle).mode = modeKindle ∧ s.ucValid 5 1 = false)
      ∧ awake.may .host (UC_PATCH_DATA 5) 0xFFFFFFFF = true ∧ awake.may .host (UC_CTL 5) 1 = true
      ∧ awake.may .host (MEM_INJ 5) 0xFFFFFFFF = true := by decide

set_option maxRecDepth 100000 in
/-- Something meets the hypotheses of HostCommandRowsComplete, at the ends of its ranges. -/
theorem test_meets_host_command_rows_complete :
        (let s := queued (hostDesc 0x00 [])
         s.alive = true ∧ s.serves 15 (hostDesc 0x00 []) = true ∧ (hostDesc 0x00 []).b 0 = 0)
      ∧ (let d := hostDesc 0x01 ([5, 0, 0, 0] ++ (List.replicate 5 [0, 0, 0xD0, 0, 0, 0, 0, 0]).flatten)
         (queued d).serves 15 d = true ∧ d.b 0 = 1)
      ∧ (let d := hostDesc 0x02 [0, 0, 0xD0, 0]
         (queued d).serves 15 d = true ∧ d.b 0 = 2)
      ∧ (let d := hostDesc 0x10 [31, 1, 0x10, 0x27]
         (queued d).serves 15 d = true ∧ d.b 0 = 0x10)
      ∧ (let d := hostDesc 0x11 [31, 1]
         (queued d).serves 15 d = true ∧ d.b 0 = 0x11)
      ∧ (let d := hostDesc 0x12 [143, 4]
         (queued d).serves 15 d = true ∧ d.b 0 = 0x12)
      ∧ (let d := hostDesc 0x13 [31, 2]
         (queued d).serves 15 d = true ∧ d.b 0 = 0x13)
      ∧ (let d := hostDesc 0x20 [3]
         (queued d).serves 15 d = true ∧ d.b 0 = 0x20)
      ∧ ((queued (hostDesc 0x21 [])).serves 15 (hostDesc 0x21 []) = true ∧ (hostDesc 0x21 []).b 0 = 0x21)
      ∧ ((queued (hostDesc 0x22 [])).serves 15 (hostDesc 0x22 []) = true ∧ (hostDesc 0x22 []).b 0 = 0x22)
      ∧ (let d := hostDesc 0xFF []
         let s := (queued d).set HIF_FWIN_BASE.LOG2 1
         s.serves 15 d = true ∧ 0x80 ≤ d.b 0)
      ∧ (let s := (queued {}).modSq 15 (fun x => { x with fetched := [{ fw := true }] })
         s.may .host HIF_FWCPL 0xF0060000 = true ∧ (s.sqOf (getBits 0xF0060000 31 28)).fetched = [{ fw := true }]
         ∧ getBits 0xF0060000 23 16 = 6)
      ∧ (let s := (queued {}).modSq 15 (fun x => { x with fetched := [], tail := 1 })
         s.sqRuns 15 = true ∧ s.fetchCount 15 = 1) := by decide

set_option maxRecDepth 100000 in
/-- Something meets the hypotheses of HostRingRowsComplete, at the ends of its ranges. -/
theorem test_meets_host_ring_rows_complete :
    awake.memOn = true ∧ ((awake.setDb 120 1).fire [hDb 15]).sqCount 15 ≤ 0xFFFFFFFF ∧ 0 < ((awake.setDb 120 0).fire [hDb 15]).sqCount 15
      ∧ 0 < (awake.setDb (0x80 + 8 * 15) 0).cqCount 15 ∧ (awake.setDb (0x80 + 8 * 15) 0xFFFFFFFF).cqCount 15 ≤ 0xFFFFFFFF
      ∧ 0 < (awake.setDb (0x100 + 8 * 7) 0).slabs 7 ∧ (awake.setDb (0x100 + 8 * 7) 0xFFFFFFFF).slabs 7 ≤ 0xFFFFFFFF
      ∧ 0 < (awake.setDb 0x140 0).evCount ∧ (awake.setDb 0x140 0xFFFFFFFF).evCount ≤ 0xFFFFFFFF
      ∧ (let s := (((awake.set HIF_CTL.EN 1).set HIF_CTL.TEN 1).set (HIF_TR_CFG.MODE 7) 1).set (HIF_TR_CFG.TPR 7) 1
         let s := (s.set HIF_STAT.LINK 1).modTr 7 (fun x => { x with ticks := [{ tbc := 5, words := [0], flags := 0 }] })
         s.telReady 7 = true)
      ∧ awake.may .host (awake.ringErrWrite (.tele 7)).1 (awake.ringErrWrite (.tele 7)).2 = true
      ∧ awake.may .host (awake.ringErrWrite (.cq 15)).1 (awake.ringErrWrite (.cq 15)).2 = true
      ∧ awake.may .host (awake.ringErrWrite .event).1 (awake.ringErrWrite .event).2 = true
      ∧ awake.may .host (HIF_SQ_CTL 15) (awake.rd (HIF_SQ_CTL 15)) = true ∧ awake.may .host HIF_HPOL (awake.rd HIF_HPOL ||| 2) = true
      ∧ awake.may .host HIF_EVPOST_3 1 = true ∧ awake.may .host HIF_COMMIT 1 = true
      ∧ (let s := (queued {}).set HIF_EVR_CTL.EN 1
         let s1 := { s with hif := { s.hif with evHeld := [{ ty := 1 }], ev08 := none } }
         s.dmaOn = true ∧ s.on HIF_EVR_CTL.EN = true ∧ s.on HIF_EVR_CTL.ERR = false ∧ s1.hif.ev08 = none ∧ s1.hif.evHeld = [{ ty := 1 }]
         ∧ s1.dmaOn = true) := by decide

set_option maxRecDepth 100000 in
/-- Something meets the hypotheses of CaptureLinkRowsComplete, at the ends of its ranges. -/
theorem test_meets_capture_link_rows_complete :
    awake.may .host HIF_CAP_CTL 1 = true ∧ awake.may (.core 5) HIF_CAP_CTL 2 = true
      ∧ ((awake.set HIF_CAP_STAT.STATE 2).get HIF_CAP_STAT.STATE = 2 ∧ (awake.set HIF_CAP_STAT.STATE 2).capFull = true)
      ∧ ({ awake with hif := { awake.hif with dump := some 0 } } : State).hif.dump = some 0
      ∧ wfLinkUp 4 4 = true ∧ awake.on HIF_STAT.LINK = false
      ∧ wfLinkRateChange 1 1 = true ∧ (awake.set HIF_STAT.LINK 1).on HIF_STAT.LINK = true
      ∧ (let u := ((awake.set HIF_STAT.LINK 1).set HIF_STAT.SPEED 1).set HIF_STAT.WIDTH 1
         let v := ((u.set (HIF_TR_CFG.MODE 7) 1).set (HIF_TR_CFG.MASK 7) 1).set HIF_COMMIT.LOCK 1
         u.committedLive.filter (fun t => !(u.fitting u.ceiling u.committedLive.reverse).contains t && !u.on (HIF_TR_STAT.SUSP t)) = []
         ∧ v.committedLive = [7]) := by decide

set_option maxRecDepth 100000 in
/-- Something meets the hypotheses of ResetRowsComplete, at the ends of its ranges. -/
theorem test_meets_reset_rows_complete :
    (0 < resetMv 5 ∧ 2969 < resetMv 4 ∧ awake.pmu.ember = false ∧ awake.pmu.rst ≠ some 2)
      ∧ (awake.set PMU_WDT_CTL.EN 1).on PMU_WDT_CTL.EN = true
      ∧ (let v := putBits (awake.rd NVC_KCTL) 31 16 0x4B49
         getBits v 31 16 = 0x4B49 ∧ awake.may .host NVC_KCTL v = true)
      ∧ (State.reset.pmu.rst = some 1)
      ∧ (let s := (((awake.set PMU_STAT.MODE modeKindle).set TBU_STAT.ENG_PLL_LOCK 1).set TBU_STAT.CORE_PLL_LOCK 1).set TBU_STAT.FLOCK_PLL_LOCK 1
         s.alive = true ∧ s.kindleReady = true) := by decide

set_option maxRecDepth 100000 in
/-- Something meets the hypotheses of StorageRowsComplete, at the ends of its ranges. -/
theorem test_meets_storage_rows_complete :
    (awake.may .host NVC_FCMD (fcmdWord 4 false 1) = true ∧ awake.may (.core 5) NVC_FCMD (fcmdWord 2 true 0) = true
        ∧ awake.on NVC_FSTAT.BUSY = false ∧ awake.on NVC_FSTAT.DEFER = false ∧ awake.dip = false
        ∧ (awake.set PMU_STAT.DIP 1).dip = true ∧ (awake.set PMU_STAT.DIP 1).may .host NVC_FCMD (fcmdWord 1 false 0) = true)
      ∧ (let o : FlashOp := { op := 1, rbuf := false, half := 0, addr := 0, sram := 0x103FFFFC, len := 4 }
         let s := (awake.set NVC_FL_INFO.DENSLOG2 20).set NVC_FSTAT.BUSY 1
         let u := { s.set NVC_FSTAT.BUSY 0 with nvc := { s.nvc with fop := none } }
         o.susp = false ∧ u.flashRefuse o = 0)
      ∧ (awake.on OTP_STAT.BUSY = false ∧ (awake.set OTP_STAT.BUSY 1).dip = false ∧ ((awake.set PMU_STAT.DIP 1).set OTP_STAT.BUSY 1).dip = true ∧ awake.may .host OTP_CMD (BitVec.ofNat 32 (2 ^ 28 + 255)) = true
        ∧ awake.may .host OTP_CMD 0x20000000 = true)
      ∧ (awake.pmu.ember = false ∧ awake.pmu.rst = none ∧ awake.nvc.mrLost = false ∧ awake.may .host NVC_MR_POST_3 1 = true ∧ awake.mode = modeRun) := by decide

set_option maxRecDepth 100000 in
/-- Something meets the hypotheses of ModeRowsComplete, at the ends of its ranges. -/
theorem test_meets_mode_rows_complete :
    (awake.dip = false ∧ awake.may .host PMU_CTL 1 = true ∧ awake.mode = modeRun)
      ∧ (let s := (((((awake.set PMU_STAT.MODE modeHold).set FLK_COMMIT.LOCK 1).set PHA_COMMIT.LOCK 1).set ANV_COMMIT.LOCK 1).set
           RLC_COMMIT.LOCK 1).set ICU_COMMIT.LOCK 1
         let q := s.set PMU_STAT.MODE modeQuench
         let v := putBits (q.rd PMU_CTL) 8 8 1
         s.mode = modeHold ∧ s.holdExitCheck = 0 ∧ s.may .host PMU_CTL 0 = true ∧ q.may .host PMU_CTL v = true ∧ wbit v 4 = false
         ∧ wbit v 8 = true ∧ (q.holdWrite (wbit v 0)).mode = modeQuench ∧ (q.holdWrite (wbit v 0)).on BLW_STAT.DQ = false
         ∧ (q.holdWrite (wbit v 0)).holdExitCheck = 0)
      ∧ (let v := putBits (awake.rd PMU_CTL) 4 4 1
         awake.may .host PMU_CTL v = true ∧ wbit v 8 = false ∧ wbit v 4 = true ∧ (awake.holdWrite (wbit v 0)).emberCheck = 0)
      ∧ ((awake.set PMU_HOLD_LIM.LIMIT 0xFFFF).get PMU_HOLD_LIM.LIMIT ≠ 0 ∧ (awake.set PMU_ETMR_CTL.EN 1).on PMU_ETMR_CTL.EN = true)
      ∧ (let s := { awake.set (EVF_CON.PEND 1543) 1 with pmu := { awake.pmu with ember := true, wakeReq := List.replicate 8 true } }
         s.pmu.ember = true ∧ nth s.pmu.wakeReq 7 false = true ∧ s.on (EVF_CON.PEND (1536 + 7)) = true)
      ∧ (awake.set PMU_WAKE_EN.PERST 1).on PMU_WAKE_EN.PERST = true
      ∧ (1699 < warnMv 2 ∧ 704 < warnMv 0 ∧ (awake.vmin 2 1699).dip = false)
      ∧ (0 < warnMv 2 ∧ exitMv 2 ≤ 1715 ∧ exitMv 0 = 720 ∧ warnMv 3 = 0)
      ∧ (let s := { awake.set PMU_STAT.DIP 1 with pmu := { awake.pmu with low := [false, false, true] } }
         s.alive = true ∧ s.dip = true ∧ (List.range 6).find? (fun i => nth s.pmu.low i false) = some 2)
      ∧ (awake.may .host PMU_WDT_CTL (putBits (awake.rd PMU_WDT_CTL) 31 31 1) = true ∧ awake.on PMU_WDT_CTL.EN = false
        ∧ awake.may .host PMU_WDT_KICK (BitVec.ofNat 32 0x5744) = true) := by decide

set_option maxRecDepth 100000 in
/-- Something meets the hypotheses of MotionRowsComplete, at the ends of its ranges. -/
theorem test_meets_motion_rows_complete :
        (let s := (awake.set (MFU_CH_CFG.MODE 7) 1).set (MFU_CH_CFG.EN 7) 1
         let u (lv : Nat) := (s.modMf 7 (fun x => { x with lv := lv })).set (MFU_CH_STAT.HALL 7) lv
         (u 1).on (MFU_CH_CFG.EN 7) = true ∧ (u 1).on (MFU_CH_CFG.LATSRC 7) = false ∧ mfuRule 1 0 2 = (1, false) ∧ mfuRule 1 0 3 = (0, true)
         ∧ mfuRule 1 3 3 = (0, false) ∧ (u 2).on (MFU_CH_CFG.HYST 7) = false)
      ∧ (let s := (((awake.set (MFU_CH_CFG.MODE 7) 1).set (MFU_CH_CFG.EN 7) 1).set (MFU_CH_CFG.HYST 7) 1).set (MFU_CH_CFG.LATSRC 7) 1
         let u := (s.modMf 7 (fun x => { x with lv := 5 })).set (MFU_CH_STAT.HALL 7) 5
         u.on (MFU_CH_CFG.LATSRC 7) = true ∧ nbit 0 2 ≠ nbit 5 2
         ∧ mfuRule 1 0 1 = (-1, false) ∧ u.on (MFU_CH_CFG.HYST 7) = true ∧ u.on (MFU_CH_STAT.DIR 7) ≠ decide ((0 : Int) < -1))
      ∧ (let s := (awake.set (MFU_CH_CFG.EN 7) 1).set (MFU_CH_CFG.LATEDGE 7) 2
         s.on (MFU_CH_CFG.EN 7) = true ∧ s.on (MFU_CH_CFG.FUNC 7) = false ∧ s.get (MFU_CH_CFG.LATEDGE 7) = 2
         ∧ s.on (MFU_CH_CFG.LATSRC 7) = false ∧ (s.set (MFU_CH_CFG.LATSRC 7) 1).on (MFU_CH_CFG.LATSRC 7) = true
         ∧ s.on (MFU_CH_STAT.LATV 7) = false ∧ (s.set (MFU_CH_STAT.LATV 7) 1).on (MFU_CH_STAT.LATV 7) = true)
      ∧ awake.mayRead .host (MFU_CH_POS 7) = true ∧ awake.may .host (MFU_CH_POS 7) 0xFFFFFFFF = true
      ∧ (let s := ((awake.set (MFU_CH_CFG.EN 7) 1).set (MFU_CH_CFG.MODE 7) 4).set (MFU_CH_SPDCFG.UPDT 7) 1
         let c (n : Int) := s.modMf 7 (fun x => { x with upd := true, n := n, e1 := some 100, e2 := some 200 })
         s.get (MFU_CH_CFG.MODE 7) ≠ 0 ∧ s.tbu.tbc.toNat % s.get (MFU_CH_SPDCFG.UPDT 7) = 0 ∧ (s.mf 7).upd = false ∧ (s.mf 7).n = 0
         ∧ ((c 1).mf 7).upd = true ∧ ((c 1).mf 7).n ≠ 0 ∧ ((c 0).mf 7).e2 = some 200)
      ∧ (let s := awake.set (MFU_CH_DRV.BIPOLAR 7) 1
         let f := (awake.set (MFU_CH_DRV.OSRC 7) 1).mfuFallback 7
         s.pinsIdle = false ∧ s.on (MFU_CH_DRV.OSRC 7) = false ∧ s.on (MFU_CH_DRV.BIPOLAR 7) = true
         ∧ f.on (MFU_CH_DRV.OSRC 7) = true ∧ f.on (MFU_CH_STAT.FBACT 7) = true ∧ f.on (MFU_CH_DRV.BIPOLAR 7) = false)
      ∧ ({ awake with nvc := { awake.nvc with kopen := true, kkind := 3 } } : State).pinsIdle = true := by decide

set_option maxRecDepth 100000 in
/-- Something meets the hypotheses of JtagRowsComplete, at the ends of its ranges. -/
theorem test_meets_jtag_rows_complete :
    awake.pmu.ember = false ∧ (List.range 32).all (fun r => awake.railState r == railOff) = true
      ∧ (List.range 32).all (fun r => (awake.set (RLC_RAIL_STAT.STATE 31) railReg).railState r == railOff) = false
      ∧ ({ awake with jtag := { ir := 3, cells := [(7, 1)] } } : State).jtag.ir = 3 ∧ awake.level 143 0 ≠ .high
      ∧ waimondCode 0 = true ∧ waimondCode 6 = true ∧ waimondCode 0x3E = true ∧ waimondCode 5 = false ∧ waimondCode 0x3F = false
      ∧ awake.jtag.testen = false ∧ wbit (awake.rd OTP_LOCKS) 5 = false := by decide

set_option maxRecDepth 100000 in
/-- Something meets the hypotheses of RegisterBusRowsComplete, at the ends of its ranges. -/
theorem test_meets_register_bus_rows_complete :
    (areaOf 0x40100000 = .periph ∧ areaOf 0x40FFFFFC = .periph ∧ inBar0 0x40FFFFFC = true ∧ inBar2 0x40FFFFFC = false ∧ inCfg 0x40FFFFFC = false
        ∧ awake.may .host 0x40FFFFFC 0xFFFFFFFF = true ∧ awake.mayRead .host 0x40100000 = true ∧ awake.may .tlaell 0x40100000 0 = true ∧ awake.memOn = true
        ∧ ({ awake with hif := { awake.hif with cfg := { awake.hif.cfg with command := 0 } } } : State).memOn = false ∧ wbit awake.hif.cfg.aerSev 20 = false ∧ wbit (0x8000 : Word) 15 = true
        ∧ ({ awake with hif := { awake.hif with cfg := { awake.hif.cfg with ecrcChk := true } } } : State).hif.cfg.ecrcChk = true)
      ∧ (inBar0 0x43FFFFFF = true ∧ areaOf 0x43FFFFFC ≠ .periph ∧ inBar2 0x43FFFFFC = false ∧ inCfg 0x43FFFFFC = false)
      ∧ (inBar2 0x180000000 = true ∧ inBar2 0x18000FFFF = true ∧ inCfg 0x1A0000000 = true ∧ inCfg 0x1A0000FFF = true) := by decide

set_option maxRecDepth 100000 in
/-- Something meets the hypotheses of AluRowsComplete, at the ends of its ranges. -/
theorem test_meets_alu_rows_complete :
        (let o : PyOp := { p := 5, d := 15, s := 15 }
         awake.enters o 0x00 = true ∧ awake.enters o 0x3C = true ∧ awake.enters { o with pfx := { rep := true }, d := 1, s := 2 } 0x00 = true)
      ∧ (let o : PyOp := { p := 5, form := 2, d := 15, s := 0, imm := -2147483648 }
         awake.enters o 0x26 = true ∧ awake.enters { o with form := 1, imm := 127 } 0x2D = true)
      ∧ (let o : PyOp := { p := 5, d := 15, s := 15, pfx := { win := true } }
         awake.enters o 0x2C = true ∧ awake.enters { o with form := 3 } 0x2F = true ∧ (awake.entered o 0x2C).winCode 5 = 0
         ∧ (let u := (awake.modBank 5 1 (fun k => { k with status := k.status ||| 0x40000000 })).entered o 0x2C
            u.winCode 5 ≠ 0))
      ∧ (let o : PyOp := { p := 5, d := 1, s := 2, pfx := { rep := true } }
         let s := awake.setG 5 1 13 2
         let u := s.entered o 0x00
         let a (z : State) := aluOp 0 false (z.gNow 5 1) (z.gNow 5 2) (wbit (z.status 5) 1)
         let w (z : State) := (z.resultG 5 1 1 (a z).res).resultFlags 5 1 (a z).mask (a z).flags
         let v (z : State) := ((w z).resultG 5 1 13 ((w z).gNow 5 13 - 1)).slots 5 1
         s.enters o 0x00 = true ∧ s.enters { o with stop := some 1 } 0x00 = true ∧ (u.gNow 5 13).toNat = 2 ∧ (u.core 5).boundary = []
         ∧ (v u).gNow 5 13 = 1 ∧ ((v u).core 5).boundary = [] ∧ (v (v u)).gNow 5 13 = 0)
      ∧ (let o : PyOp := { p := 5, d := 1, s := 2, pfx := { rep := true, win := true } }
         let s := awake.setG 5 1 13 1
         let u := s.entered o 0x2C
         let z := u.waitUnits o 0x2C
         let w := z.startLong o ⟨.window, (z.core 5).bank, [(.g (z.core 5).bank 1, z.gReg 5 (z.get (BWIN.BANK 5)) 2)], 0⟩
         s.enters o 0x2C = true ∧ (u.gNow 5 13).toNat = 1 ∧ (u.core 5).boundary = [] ∧ z.winCode 5 = 0
         ∧ (((w.resultG 5 1 13 (w.gNow 5 13 - 1)).slots 5 1)).gNow 5 13 = 0
         ∧ (((s.modBank 5 1 (fun k => { k with status := k.status ||| 0x40000000 })).entered o 0x2C).waitUnits o 0x2C).winCode 5 ≠ 0) := by decide

set_option maxRecDepth 100000 in
/-- Something meets the hypotheses of MultiplyRowsComplete, at the ends of its ranges. -/
theorem test_meets_multiply_rows_complete :
        (let o : PyOp := { p := 5, d := 15, s := 15 }
         awake.enters o 0x40 = true ∧ awake.enters { o with form := 2, imm := 2147483647 } 0x42 = true ∧ awake.enters o 0x49 = true
         ∧ awake.enters { o with pfx := { sat := true } } 0x46 = true ∧ awake.enters { o with imm := 32 * 256 } 0x4C = true
         ∧ awake.enters { o with imm := 256 + 31 } 0x4E = true ∧ awake.enters o 0x4F = true)
      ∧ (let o : PyOp := { p := 5, d := 1, s := 2, pfx := { rep := true } }
         awake.enters o 0x4A = true ∧ (awake.entered o 0x4A).gNow 5 13 = 0)
      ∧ (let o : PyOp := { p := 5, d := 1, s := 2, pfx := { rep := true } }
         let s := awake.setG 5 1 13 1
         let u := s.entered o 0x4A
         let w := u.resultG 5 1 1 (clzOf (u.gNow 5 2))
         s.enters o 0x4A = true ∧ s.enters { o with stop := some 0 } 0x4A = true ∧ (u.gNow 5 13).toNat = 1 ∧ (u.core 5).boundary = []
         ∧ ((w.resultG 5 1 13 (w.gNow 5 13 - 1)).slots 5 1).gNow 5 13 = 0) := by decide

set_option maxRecDepth 100000 in
/-- Something meets the hypotheses of LoadStoreRowsComplete, at the ends of its ranges. -/
theorem test_meets_load_store_rows_complete :
        (let o : PyOp := { p := 5, d := 15, s := 14, disp := 0 }
         let f : PyOp := { p := 5, form := 3, d := 15, s := 14, disp := 0x3FFFC }
         awake.enters o 0x50 = true ∧ awake.enters f 0x53 = true ∧ (awake.entered f 0x53).ea f = 0x3FFFC
         ∧ (awake.entered f 0x53).dataCheck 5 ((awake.entered f 0x53).tenantCore 5) ((awake.entered f 0x53).userCore 5) 0x3FFFC 4 .load = 0
         ∧ areaOf 0x3FFFC = .loc ∧ ((awake.entered f 0x53).readNow 5 0x3FFFC 4 true).1 = .val 0)
      ∧ (let f : PyOp := { p := 5, form := 3, d := 15, s := 14, disp := 0x40FFFFFC }
         awake.enters f 0x53 = true ∧ areaOf 0x40FFFFFC = .periph
         ∧ (awake.entered f 0x53).dataCheck 5 ((awake.entered f 0x53).tenantCore 5) ((awake.entered f 0x53).userCore 5) 0x40FFFFFC 4 .load = 0)
      ∧ (let f : PyOp := { p := 5, form := 3, d := 15, s := 14, disp := 0x103FFFFF }
         awake.enters f 0x5F = true ∧ areaOf 0x103FFFFF = .sys ∧ (youngest ((awake.entered f 0x5F).core 5).sb 0x103FFFFF 1).isNone = true
         ∧ (awake.entered f 0x5F).dataCheck 5 ((awake.entered f 0x5F).tenantCore 5) ((awake.entered f 0x5F).userCore 5) 0x103FFFFF 1 .load = 0
         ∧ (awake.entered f 0x53).dataCheck 5 false false 1 4 .load ≠ 0)
      ∧ (let f : PyOp := { p := 5, form := 3, d := 15, s := 14, disp := 0x3FFFF }
         awake.enters f 0x6F = true ∧ ((awake.entered f 0x6F).storeCheck 5 ((awake.entered f 0x6F).ea f) 1 0).1 = 0
         ∧ awake.enters f 0x67 = true ∧ ((awake.entered f 0x67).storeCheck 5 ((awake.entered f 0x67).ea f) 4 0).1 ≠ 0)
      ∧ (let o : PyOp := { p := 5, d := 15, s := 0, disp := -2147483648 }
         awake.enters o 0x75 = true ∧ awake.enters o 0x74 = true ∧ awake.enters { o with form := 3 } 0x73 = true)
      ∧ (let o : PyOp := { p := 5, d := 1, s := 2, pfx := { rep := true } }
         let s := awake.setG 5 1 13 1
         let u := s.entered o 0x50
         awake.enters o 0x50 = true ∧ (awake.entered o 0x50).gNow 5 13 = 0
         ∧ s.enters o 0x50 = true ∧ u.gNow 5 13 = 1 ∧ (u.core 5).boundary = []
         ∧ u.dataCheck 5 (u.tenantCore 5) (u.userCore 5) (u.ea o) 4 .load = 0 ∧ (u.readNow 5 (u.ea o) 4 true).1 = .val 0
         ∧ s.enters o 0x64 = true ∧ ((s.entered o 0x64).storeCheck 5 ((s.entered o 0x64).ea o) 4 ((s.entered o 0x64).gNow 5 1)).1 = 0) := by decide

set_option maxRecDepth 100000 in
/-- Something meets the hypotheses of StackPageRowsComplete, at the ends of its ranges. -/
theorem test_meets_stack_page_rows_complete :
        (let o : PyOp := { p := 5, d := 15 }
         let s := awake.setG 5 1 15 0x1000
         let u := s.entered o 0x76
         s.enters o 0x76 = true ∧ (u.stackFault 5 true (u.gNow 5 15).toNat 4).1 = 0 ∧ (u.storeCheck 5 0xFFC 4 (u.gNow 5 15)).1 = 0
         ∧ (awake.stackFault 5 true (awake.gNow 5 15).toNat 4).1 ≠ 0 ∧ awake.enters o 0x76 = true)
      ∧ (let o : PyOp := { p := 5, imm := 0x7FFF }
         let s := awake.setG 5 1 15 0x1000
         let u := s.entered o 0x79
         s.enters o 0x78 = true ∧ s.enters o 0x79 = true ∧ (u.stackFault 5 false (u.gNow 5 15).toNat 60).1 = 0
         ∧ (u.popWords 5 ((List.range 15).map (fun j => (u.gNow 5 15).toNat + 4 * j)) []).1.1 = .val 0)
      ∧ (let o : PyOp := { p := 5, d := 15, s := 14, disp := 0x7FFC }
         awake.enters o 0x100 = true ∧ ((awake.entered o 0x100).pageCode 5 0x7FFC true).1 = 0 ∧ (awake.entered o 0x100).ea o = 0x7FFC
         ∧ ((awake.entered o 0x100).loadPort 5 0x7FFC).1 = some 0 ∧ awake.enters { o with n := 15 } 0x105 = true)
      ∧ (let o : PyOp := { p := 5, d := 0, s := 14, disp := 0x7FFC, imm := -1 }
         awake.enters o 0x106 = true ∧ ((awake.entered o 0x106).pageCode 5 0x7FFC false).1 = 0
         ∧ ((awake.entered o 0x106).loadPort 5 0x7FFC).1 = some 0
         ∧ (let s := { awake with flips := [(0x08147FFC, 3)] }
            s.enters o 0x106 = true ∧ ((s.entered o 0x106).loadPort 5 0x7FFC).1 = none)
         ∧ (let s := awake.setG 5 1 14 0x103F8000
            s.enters o 0x106 = true ∧ (s.entered o 0x106).ea o = 0x103FFFFC 
            ∧ ((s.entered o 0x106).pageCode 5 0x103FFFFC false).1 = 0)) := by decide

set_option maxRecDepth 100000 in
/-- Something meets the hypotheses of BitRowsComplete, at the ends of its ranges. -/
theorem test_meets_bit_rows_complete :
        (let o : PyOp := { p := 5, imm := 0x3FFF }
         let i : PyOp := { p := 5, form := 1, s := 15, imm := -128, pfx := { bitx := true } }
         awake.enters o 0xA0 = true ∧ awake.enters i 0xA1 = true ∧ awake.enters { o with d := 15, pfx := { atom := true } } 0xAA = true
         ∧ (match (awake.entered o 0xA0).bitRead 5 0x3FFF with | .got b _ => !b | _ => false) = true
         ∧ (match (awake.entered o 0xA2).bitWrite 5 0x3FFF (fun _ => true) with | .got b _ => !b | _ => false) = true)
      ∧ (let i : PyOp := { p := 5, form := 1, s := 2, pfx := { rep := true } }
         awake.enters i 0xA1 = true ∧ (awake.entered i 0xA1).gNow 5 13 = 0)
      ∧ (let i : PyOp := { p := 5, form := 1, s := 2, imm := 127, pfx := { rep := true } }
         let s := awake.setG 5 1 13 1
         let u := s.entered i 0xA3
         s.enters i 0xA3 = true ∧ s.enters { i with d := 1 } 0xA9 = true ∧ (u.gNow 5 13).toNat = 1 ∧ (u.core 5).boundary = []
         ∧ (u.gNow 5 2 + wordOf 127).toNat % 2 ^ 14 = 127
         ∧ (match u.bitWrite 5 127 (fun _ => true) with
            | .got _ x => ((x.resultG 5 1 13 (x.gNow 5 13 - 1)).slots 5 1).gNow 5 13 == 0
            | _ => false) = true
         ∧ (match u.bitRead 5 127 with | .got b _ => !b | _ => false) = true) := by decide

set_option maxRecDepth 100000 in
/-- Something meets the hypotheses of FloatRowsComplete, at the ends of its ranges. -/
theorem test_meets_float_rows_complete :
        (let o : PyOp := { p := 5, d := 15, s := 15 }
         let s := awake.modBank 5 1 (fun k => { k with status := k.status ||| 0x8000 })
         s.enters o 0xB0 = true ∧ s.enters o 0xB5 = true ∧ s.enters o 0xB9 = true ∧ s.enters o 0xBB = true ∧ s.enters o 0xBC = true
         ∧ s.enters o 0xC7 = true) := by decide

set_option maxRecDepth 100000 in
/-- Something meets the hypotheses of BranchSystemRowsComplete, at the ends of its ranges. -/
theorem test_meets_branch_system_rows_complete :
        (let o : PyOp := { p := 5 }
         awake.enters { o with s := 14, disp := -128 } 0x80 = true ∧ awake.enters { o with form := 2, disp := 2147483647 } 0x82 = true
         ∧ awake.enters { o with disp := -1 } 0x84 = true ∧ awake.enters { o with s := 15 } 0x85 = true ∧ awake.enters { o with s := 15 } 0x86 = true
         ∧ awake.enters o 0x87 = true ∧ awake.enters { o with form := 1, d := 15, disp := 32767 } 0x89 = true)
      ∧ (let o : PyOp := { p := 5, d := 15 }
         awake.enters { o with pfx := { win := true } } 0x90 = true ∧ awake.enters { o with pfx := { win := true }, imm := 1 } 0x91 = true
         ∧ (awake.entered o 0x90).winCode 5 = 0
         ∧ (let s := (((((awake.set (MPR_ATTR.EN 5 0) 1).set (MPR_ATTR.WORLD 5 0) 1).set (MPR_ATTR.X 5 0) 1).set (MPR_ATTR.SZLOG2 5 0)
              32).modBank 5 1 (fun k => { k with status := k.status ||| 0x80000000, pc := 0 }))
            s.enters { o with imm := 5 } 0x91 = true ∧ (s.entered { o with imm := 5 } 0x91).tenantCore 5 = true
              ∧ sysKeeper (sysNo { o with imm := 5 }) = true)
         ∧ awake.enters o 0x90 = true ∧ awake.enters { o with s := 15, imm := 255 } 0x91 = true ∧ awake.enters { o with imm := 1 } 0x91 = true
         ∧ (awake.entered o 0x91).tenantCore 5 = false ∧ (awake.entered o 0x91).userCore 5 = false)
      ∧ (let o : PyOp := { p := 5 }
         awake.enters { o with imm := 255 } 0x92 = true ∧ awake.enters { o with imm := 255 } 0x98 = true ∧ awake.enters o 0x93 = true
         ∧ (((awake.entered o 0x93).slots 5 1).core 5).bank ≠ 0 ∧ (awake.entered o 0x93).userCore 5 = false
         ∧ awake.enters o 0x94 = true ∧ awake.enters o 0x95 = true ∧ awake.enters o 0x96 = true ∧ awake.enters o 0x97 = true
         ∧ awake.enters o 0x99 = true ∧ ((((awake.entered o 0x97).drain 5).deliverMem 5).deliverRegs 5).1 = true
         ∧ (awake.entered o 0x95).get (DRV_SLOT_STAT.STATE 5 ((awake.entered o 0x95).core 5).bank) ≠ 4)
      ∧ (let o : PyOp := { p := 5 }
         let s := ((((awake.set (DRV_SLOT_STAT.STATE 5 1) 4).set (DRV_SLOT_CFG.EN 5 15) 1).set (DRV_SLOT_STAT.STATE 5 15) 3).set
           (DRV_SLOT_CFG.PRI 5 15) 3).modBank 5 1 (fun k => { k with status := mkStatus false false 1 3 16 })
         let u := s.entered o 0x95
         s.enters o 0x94 = true ∧ s.enters o 0x95 = true ∧ (u.core 5).bank = 1 ∧ u.get (DRV_SLOT_STAT.STATE 5 1) = 4
         ∧ u.on (DRV_SLOT_CFG.EN 5 15) = true ∧ u.get (DRV_SLOT_STAT.STATE 5 15) = 3
         ∧ u.get (DRV_SLOT_CFG.PRI 5 15) = stPri (u.status 5)
         ∧ (u.slots 5 1).serviceOk 5 0x204 = true ∧ (u.slots 5 1).serviceOk 5 0x205 = true ∧ (u.slots 5 1).serviceOk 5 0x206 = true)
      ∧ (let o : PyOp := { p := 5 }
         let s := awake.modCore 5 (fun c => { c with bank := 0 })
         s.enters o 0x94 = true ∧ ((s.entered o 0x94).core 5).bank = 0 ∧ s.enters o 0x93 = true
         ∧ (((s.entered o 0x93).slots 5 1).core 5).bank = 0) := by decide

set_option maxRecDepth 100000 in
/-- Something meets the hypotheses of LongBlockRowsComplete, at the ends of its ranges. -/
theorem test_meets_long_block_rows_complete :
        (let o : PyOp := { p := 5, d := 15, s := 15 }
         awake.enters o 0xC0 = true ∧ awake.enters o 0xC4 = true ∧ awake.enters { o with d := 14, s := 14, imm := 1 } 0xC5 = true)
      ∧ (let o : PyOp := { p := 5, d := 0, s := 2, n := 15 }
         let s := awake.setG 5 1 15 1
         let u := s.entered o 0xD0
         awake.enters o 0xD0 = true ∧ (awake.gNow 5 15).toNat % 2 ^ 24 ≤ 0 ∧ s.enters { o with stop := some 0 } 0xD0 = true ∧ s.enters o 0xD0 = true
         ∧ (u.gNow 5 15).toNat % 2 ^ 24 = 0 + 1 ∧ u.dataCheck 5 (u.tenantCore 5) (u.userCore 5) 0 4 .load = 0 ∧ (u.readNow 5 0 4 true).1 = .val 0
         ∧ ((u.readNow 5 0 4 true).2.storeCheck 5 0 4 0).1 = 0 ∧ s.enters { o with t := 3 } 0xD1 = true ∧ s.enters { o with t := 3, pfx := { sat := true } } 0xD1 = true
         ∧ s.enters { o with t := 3, stop := some 0 } 0xD1 = true ∧ awake.enters { o with t := 3 } 0xD1 = true ∧ s.enters o 0xD2 = true
         ∧ s.enters { o with t := 1 } 0xD3 = true ∧ (u.readNow 5 0 1 true).1 = .val 0 ∧ ((u.settled 5 0).readNow 5 0 4 false).1 = .val 0)
      ∧ (let o : PyOp := { p := 5, d := 0, s := 2, n := 15, t := 1 }
         let s := awake.setG 5 1 15 2
         let u := s.entered o 0xD3
         let x (z : State) (a : Nat) := (z.readNow 5 a 1 true).2
         let v := ((x u 0).setG 5 (u.core 5).bank 0 (crcStep 1 ((x u 0).gNow 5 0) 0)).slots 5 1
         s.enters o 0xD3 = true ∧ s.enters { o with stop := some 1 } 0xD3 = true ∧ (u.gNow 5 15).toNat % 2 ^ 24 = 2
         ∧ wbit (u.bankOf 5 (u.core 5).bank).prog 31 = false ∧ u.dataCheck 5 (u.tenantCore 5) (u.userCore 5) 0 1 .load = 0
         ∧ (u.readNow 5 0 1 true).1 = .val 0 ∧ v.dataCheck 5 (v.tenantCore 5) (v.userCore 5) 1 1 .load = 0 ∧ (v.readNow 5 1 1 true).1 = .val 0)
      ∧ (let o : PyOp := { p := 5, d := 0, s := 2, n := 15, t := 3 }
         let s := (awake.setG 5 1 15 2).setG 5 1 2 0xFFFFFFFC
         let u := s.entered o 0xD1
         s.enters o 0xD1 = true ∧ (u.gNow 5 15).toNat % 2 ^ 24 = 2
         ∧ u.dataCheck 5 (u.tenantCore 5) (u.userCore 5) 0xFFFFFFFC 4 .load ≠ 0) := by decide

set_option maxRecDepth 100000 in
/-- Something meets the hypotheses of PortRowsComplete, at the ends of its ranges. -/
theorem test_meets_port_rows_complete :
        (let s := awake.modCore 5 (fun c => { c with pload := some { addr := 0x08000000, width := 4, signed := false, dest := .fpFlags, len := 4 } })
         s.alive = true ∧ (s.core 5).pload.isSome = true ∧ ((s.flashServe 0x08000000).farWord 5 0x08000000).1 = .val 0 ∧ s.flashWaits 0x08000000 = false ∧ areaOf 0x08000000 = .peer 0)
      ∧ (let s := awake.modCore 5 (fun c => { c with posted := [{ addr := 0x08000000, bytes := [1, 0, 0, 0], tenant := false }] })
         (s.core 5).pload = none ∧ (s.core 5).posted = [{ addr := 0x08000000, bytes := [1, 0, 0, 0], tenant := false }]
         ∧ ([1, 0, 0, 0] : Bytes) = leBytes 4 (1 : Word).toNat)
      ∧ (awake.issuing 5 = true ∧ (awake.core 5).pload = none ∧ awake.fetchWaits 5 1 = false) := by decide

set_option maxRecDepth 100000 in
/-- Something meets the hypotheses of StepTakesFront, at the ends of its ranges. -/
theorem test_meets_step_takes_front :
    ({ State.reset with pending := [.resetPin] } : State).pending = [Instr.resetPin] ++ [] := by decide

set_option maxRecDepth 100000 in
/-- Something meets the hypotheses of EmptyQueueIdles, at the ends of its ranges. -/
theorem test_meets_empty_queue_idles :
    State.reset.pending = [] := by decide

set_option maxRecDepth 100000 in
/-- Something meets the hypotheses of QueueInvariant, at the ends of its ranges. -/
theorem test_meets_queue_invariant :
    (∀ c ∈ ({ awake with pending := [.resetPin, .coreReset .host 5 0x7144] } : State).pending, c.wf = true) := by decide

set_option maxRecDepth 100000 in
/-- Something meets the hypotheses of InstructionCodecAgrees, at the ends of its ranges. -/
theorem test_meets_instruction_codec_agrees :
        (let o : PyOp := { pfx := { win := true, sat := true, rep := true, det := true }, form := 3, d := 15, s := 15, disp := -2147483648 }
         codeOk 0x53 = true ∧ opFits o 0x53 = true ∧ pfxCount o.pfx ≤ 4 ∧ o.form = formOf 0x53 ∧ o.p = 0 ∧ o.stop = none)
      ∧ (let o : PyOp := { d := 15, s := 15, disp := 32767, t := 15, n := 15 }
         codeOk 0x105 = true ∧ opFits o 0x105 = true ∧ o.form = formOf 0x105) := by decide

set_option maxRecDepth 100000 in
/-- Something meets the hypotheses of DivisionCorners, at the ends of its ranges. -/
theorem test_meets_division_corners :
    wbit (0x7FFFFFFF : Word) 31 = false ∧ wbit (0x80000000 : Word) 31 = true ∧ (1 : Word) ≠ 0 ∧ (0x80000001 : Word) ≠ 0x80000000 := by decide

set_option maxRecDepth 100000 in
/-- Something meets the hypotheses of AluResultsAndFlags, at the ends of its ranges. -/
theorem test_meets_alu_results_and_flags :
    (2 ^ 31 ≤ (0x7FFFFFFF : Word).toInt + (0 : Word).toInt + 1 ∧ (0x80000000 : Word).toInt - (1 : Word).toInt < -2 ^ 31)
      ∧ (255 = (0xFFFFFFFF : Word).toNat % 256 ∧ 32 = (32 : Word).toNat % 256 ∧ 33 = (33 : Word).toNat % 256
        ∧ 2 ^ 31 ≤ (0x40000000 : Word).toInt * 2 ^ 1)
      ∧ ((0x80000000 : Word).toInt * (0x80000000 : Word).toInt = 2 ^ 62 ∧ 2 ^ 31 ≤ (0x10000 : Word).toInt * (0x8000 : Word).toInt
        ∧ (0x80000000 : Word).toInt * (2 : Word).toInt < -2 ^ 31)
      ∧ (0x2000 % 32 = 0 ∧ 0x2000 / 256 % 64 = 32 ∧ 0x011F % 32 = 31 ∧ 0x011F / 256 % 64 = 1)
      ∧ (32767 : Int) < ((0x80008000 : Word).extractLsb' 16 16).toInt * ((0x80008000 : Word).extractLsb' 16 16).toInt / 2 ^ 15 := by decide

set_option maxRecDepth 100000 in
/-- Something meets the hypotheses of StepKeepsTheShape, at the ends of its ranges. -/
theorem test_meets_step_keeps_the_shape :
    (({ awake with pending := [.resetPin] } : State).shaped = true) := by decide

set_option maxRecDepth 100000 in
/-- Something meets the hypotheses of ResultsLandInTheirSlot, at the ends of its ranges. -/
theorem test_meets_results_land_in_their_slot :
    (awake.cores.length = 6 ∧ (awake.core 5).banks.length = 16 ∧ (∀ k ∈ (awake.core 5).banks, k.g.length = 16)
        ∧ (awake.core 5).f.length = 16) := by decide

set_option maxRecDepth 100000 in
/-- Something meets the hypotheses of BranchesAndTheirTargets, at the ends of its ranges. -/
theorem test_meets_branches_and_their_targets :
        (let o : PyOp := { p := 5 }
         awake.enters { o with s := 14, disp := -128 } 0x80 = true ∧ awake.enters { o with form := 2, disp := 2147483647 } 0x82 = true
         ∧ awake.enters { o with disp := -1 } 0x84 = true ∧ awake.enters { o with s := 15 } 0x85 = true ∧ awake.enters { o with s := 15 } 0x86 = true
         ∧ awake.enters o 0x87 = true ∧ awake.enters { o with form := 1, d := 15, disp := 32767 } 0x89 = true)
      ∧ (let o : PyOp := { p := 5, s := 15 }
         awake.alive = true ∧ o.wf = true ∧ opFits o 0x80 = true ∧ awake.fetchWaits 5 (opLen o 0x80) = false
         ∧ awake.issuing 5 = true ∧ (awake.core 5).pload = none
         ∧ (awake.fetch 5 (opLen o 0x80)).1 = 0 ∧ opFits { o with d := 1 } 0x85 = true) := by decide

set_option maxRecDepth 100000 in
/-- Something meets the hypotheses of HeldModeRequests, at the ends of its ranges. -/
theorem test_meets_held_mode_requests :
        (let s := awake.set PMU_STAT.DIP 1
         s.dip = true ∧ s.may .host PMU_CTL 0xFFFFFFFF = true ∧ s.may (.core 5) PMU_CTL 0 = true)
      ∧ (let s := { awake.set PMU_STAT.DIP 1 with pmu := { awake.pmu with low := [false, false, true], heldCtl := some 1 } }
         let x := (((s.set PMU_STAT.DIP 0).set PMU_STAT.DIPSUP 0).mrPost 6 (dipPayload true 2 s.pmu.dipMin)).evPost 6 (payloadOf [1, 2])
         let y := ({ x with pmu := { x.pmu with low := List.replicate 6 false, dipMin := 0xFFFF } }.pmuFire 1).dipOps
         s.dip = true ∧ y.pmu.heldCtl = some (1 : Word)) := by decide

set_option maxRecDepth 100000 in
/-- Something meets the hypotheses of MemoryReadsBack, at the ends of its ranges. -/
theorem test_meets_memory_reads_back :
    memWf awake.mem = true ∧ memWf (awake.setBytes 0x60000000 [0xFF, 0, 1]).mem = true := by decide

set_option maxRecDepth 100000 in
/-- Something meets the hypotheses of StoresRetireToTheirBytes, at the ends of its ranges. -/
theorem test_meets_stores_retire_to_their_bytes :
        (let e : StEntry := { addr := 0x3FFFC, bytes := [1, 2, 3, 4], tenant := false }
         let s := awake.modCore 5 (fun c => { c with sb := [e] })
         s.alive = true ∧ memWf s.mem = true ∧ s.cores.length = 6 ∧ (s.core 5).sb = [e] ∧ areaOf e.addr = .loc ∧ (s.core 5).mb = none
         ∧ areaOf 0x103FFFFC ≠ .loc)
      ∧ (let s := awake.modCore 5 (fun c => { c with mb := some (0x08140000, [some 1, none, none, none]) })
         (s.core 5).mb = some (0x08140000, [some 1, none, none, none]) ∧ s.flipsAt 0x08140000 = 0) := by decide

set_option maxRecDepth 100000 in
/-- Something meets the hypotheses of WorldsAndLevels, at the ends of its ranges. -/
theorem test_meets_worlds_and_levels :
        (let s := awake.set HIF_HPOL.HW 1
         s.alive = true ∧ s.memOn = true ∧ s.tenantWho .host = true ∧ areaOf HIF_HPOL = .periph ∧ HIF_HPOL % 4 = 0 ∧ inBar0 HIF_HPOL = true
         ∧ inBar2 HIF_HPOL = false ∧ inCfg HIF_HPOL = false ∧ (regAt HIF_HPOL).map (·.keeper) = some true)
      ∧ (let s := awake.modBank 5 1 (fun k => { k with status := k.status ||| 0x80000000 })
         s.tenantCore 5 = true ∧ s.issuing 5 = true ∧ s.userCore 5 = false)
      ∧ (let s := awake.modBank 5 1 (fun k => { k with status := k.status ||| 0x40000000 })
         s.tenantCore 5 = false ∧ s.userCore 5 = true ∧ s.issuing 5 = true) := by decide

set_option maxRecDepth 100000 in
/-- Something meets the hypotheses of CalibrationStepsAreBounded, at the ends of its ranges. -/
theorem test_meets_calibration_steps_are_bounded :
    (((0 : Nat) < 0xFFFFFFFF ∧ (-1 : Int) ≤ 0) ∧ awake.alive = true ∧ awake.flockTime % 2000 = 0 ∧ awake.on SNS_CTL.FREEZE = false
        ∧ awake.mode ≠ modeHold ∧ awake.dip = false ∧ (awake.set SNS_CTL.FREEZE 1).on SNS_CTL.FREEZE = true
        ∧ spWf resetVal awake.regs = true ∧ awake.phState 143 = phOff
        ∧ ((awake.set (PHA_CH_STAT.STATE 143) phActive).phState 143 = phActive ∧ (awake.set (PHA_CH_STAT.STATE 143) phActive).domain 143 = 0
          ∧ spWf resetVal (awake.set (PHA_CH_STAT.STATE 143) phActive).regs = true)) := by decide

set_option maxRecDepth 100000 in
/-- Something meets the hypotheses of ReferenceNeverPassesItsTarget, at the ends of its ranges. -/
theorem test_meets_reference_never_passes_its_target :
        (let s := sampled (awake.set (RLC_RAIL_STAT.STATE 31) railReg)
         s.railState 31 = railReg ∧ s.rlc.rails.length = 32) := by decide

set_option maxRecDepth 100000 in
/-- Something meets the hypotheses of JtagTouchesOnlyThePort, at the ends of its ranges. -/
theorem test_meets_jtag_touches_only_the_port :
    (awake.jtag.testen = false ∧ Instr.highz ≠ Instr.idcode ∧ Instr.highz ≠ Instr.samplePreload []
        ∧ Instr.highz ≠ Instr.extest [1] ∧ Instr.extest [] ≠ Instr.samplePreload []) := by decide

set_option maxRecDepth 100000 in
/-- Something meets the hypotheses of RegisterInstructionsTouchOnlyTheirDestination, at the ends of its ranges. -/
theorem test_meets_register_instructions_touch_only_their_destination :
        (let o : PyOp := { p := 5, d := 15, s := 15 }
         let u := awake.entered o 0x24
         awake.enters o 0x24 = true ∧ (u.core 5).land = [] ∧ (u.core 5).br = none ∧ (u.core 5).boundary = [] ∧ u.cores.length = 6
         ∧ (u.core 5).banks.length = 16 ∧ (u.core 5).bank < 16 ∧ (∀ k ∈ (u.core 5).banks, k.g.length = 16)) := by decide

set_option maxRecDepth 100000 in
/-- Something meets the hypotheses of WrongKeysDoNothing, at the ends of its ranges. -/
theorem test_meets_wrong_keys_do_nothing :
    (awake.may .host PMU_WDT_KICK (BitVec.ofNat 32 0xFFFF) = true ∧ awake.may .host (DRV_RST 5) (BitVec.ofNat 32 0) = true
        ∧ awake.on PMU_WDT_CTL.EN = false ∧ (awake.set PMU_WDT_CTL.EN 1).on PMU_WDT_CTL.EN = true
        ∧ getBits (putBits (awake.rd NVC_KCTL) 31 16 0xFFFF) 31 16 ≠ 0x4B49
        ∧ awake.may .host NVC_KCTL (putBits (awake.rd NVC_KCTL) 31 16 0xFFFF) = true) := by decide

set_option maxRecDepth 100000 in
/-- Something meets the hypotheses of FusesOnlySet, at the ends of its ranges. -/
theorem test_meets_fuses_only_set :
        (let s := { awake with nvc := { awake.nvc with oop := some (1, 255, 0xFFFFFFFF) } }
         let u := { s.set OTP_STAT.BUSY 0 with nvc := { s.nvc with oop := none } }
         s.alive = true ∧ s.nvc.fuse.length = 256 ∧ u.otpLocked 255 = false ∧ u.otpWord 255 = (0 : Word) ∧ u.get NVC_KSTAT.RBI < u.rollback + 1
         ∧ u.otpLocked 0x31 = false ∧ (0x7F : Word) &&& 0xFFFFFF80 = 0 ∧ (0x80 : Word) &&& 0xFFFFFF80 ≠ 0
         ∧ ({ u with nvc := { u.nvc with fuse := u.nvc.fuse.set 200 5 } } : State).otpLocked 200 = false
         ∧ ({ u with nvc := { u.nvc with fuse := u.nvc.fuse.set 200 5 } } : State).otpWord 200 ≠ (0 : Word) ∧ u.rollback < 128
         ∧ (u.set NVC_KSTAT.RBI 1).rollback + 1 ≤ (u.set NVC_KSTAT.RBI 1).get NVC_KSTAT.RBI) := by decide

set_option maxRecDepth 100000 in
/-- Something meets the hypotheses of MicrowordsDoWhatTheirFormatSays, at the ends of its ranges. -/
theorem test_meets_microwords_do_what_their_format_says :
    ((0xFFFFFF : Nat) < 2 ^ 24 ∧ (0xFFFFFF : Nat) / 2 ^ 20 = 15 ∧ (0x330000 : Nat) / 2 ^ 20 = 3 ∧ (0x330000 : Nat) / 2 ^ 16 % 4 = 3
        ∧ (0x4F0000 : Nat) / 2 ^ 20 = 4 ∧ (0x530000 : Nat) / 2 ^ 15 % 2 = 0 ∧ (0x6E0000 : Nat) / 2 ^ 17 % 8 = 7
        ∧ (0x7F0000 : Nat) / 2 ^ 16 % 16 = 15 ∧ (0x800001 : Nat) % 2 = 1)
      ∧ (let m : Mseq := { s := awake, o := { p := 5 }, c := 0x99, at_ := 0x3FFF, t := List.replicate 8 0, stk := [1, 2, 3, 4] }
         (match m.act 0 (.lit 23 0x7FFF) with | .go n => n.read 23 == 0x7FFF | _ => false) = true ∧ m.t.length = 8
         ∧ (match m.act 0 (.lit 15 0x7FFF) with | .go n => n.read 15 == 0x7FFF | _ => false) = true
         ∧ (match m.act 0 (.alu 15 16 0 1 false) with | .go _ => true | _ => false) = true
         ∧ m.s.cores.length = 6 ∧ (m.s.core 5).banks.length = 16 ∧ m.bank < 16 ∧ (m.s.bankOf 5 m.bank).g.length = 16 ∧ 4 ≤ m.stk.length) := by decide

set_option maxRecDepth 100000 in
/-- Something meets the hypotheses of MicrocodeDecidesTheInstruction, at the ends of its ranges. -/
theorem test_meets_microcode_decides_the_instruction :
        (let o : PyOp := { p := 5 }
         let s := awake.set (UC_STAT.ACT 5) 1
         awake.reaches o 0x99 = true ∧ s.reaches o 0x99 = true
         ∧ (match (s.entered o 0x99).microRun o 0x99 0x99 with
            | .fault a ill t => a == 0 && ill && [s.entered o 0x99, t].all (fun x =>
                !(x.ucFault 5 a ill).on (DRV_STAT.LOCKED 5) && (x.ucFault 5 a ill).asManual o 0x99)
            | _ => false) = true
         ∧ (s.entered o 0x99).ucClean o 0x99 0x99 = false ∧ spWf resetVal s.regs = true ∧ s.cores.length = 6 ∧ s.uc.sw.length = 6
         ∧ s.get (UC_STAT.ACT 5) ≠ 0
         ∧ (let v := (s.setUcWord (ucKey 5 1 0x99) (storedWord 0x100)).setUcWord (ucKey 5 1 0x100) (storedWord 0x600000)
            v.reaches o 0x99 = true ∧ (match (v.entered o 0x99).microRun o 0x99 0x99 with
              | .ended m => !m.refetched && !m.jumped && (m.s.core 5).bank == ((v.entered o 0x99).core 5).bank
              | _ => false) = true)
         ∧ (awake.entered o 0x99).ucClean o 0x99 0x99 = true ∧ (awake.entered o 0x99).ucSigned 5 = true) := by decide

end Sys2Proof.Tests
end

section
/-! PROOFS. Register accesses and the world rules: where a request goes, what is turned away, what AER records (R8, R228, R232, R341 to R345). -/

namespace Sys2Proof.Machine
open Sys2Proof

section
variable {s : State} {w : Who} {a be : Nat}

/-- A sound write of a whole word of the peripheral region goes to the world rules, whoever makes it (R8, R343). -/
theorem exec_registerWrite_periph (ha : s.alive = true) (hw : w.wf = true) (hb : be < 16) (hp : areaOf a = .periph)
    (h4 : a % 4 = 0) (h0 : inBar0 a = true) (h2 : inBar2 a = false) (hc : inCfg a = false)
    (hh : w = .host → be = 15 ∧ s.memOn = true) (v : Word) :
    exec (.registerWrite w a v be .sound) s = .next ((s.asWrite w a v (fun s => s.regEffect a v)).keep s) := by
  rw [exec_registerWrite, execRegisterWrite, runs_eq (by simp [wfRegisterWrite, hw, hb]) ha]
  cases w with
  | host => simp [h0, h2, hc, hp, h4, hh, State.hostMem]
  | core p => simp [hp, h4]
  | tlaell => simp [hp, h4, State.asWrite]

/-- A read of a word of the peripheral region goes to the world rules likewise. -/
theorem exec_readClear_periph (ha : s.alive = true) (hw : w.wf = true) (hp : areaOf a = .periph) (h4 : a % 4 = 0)
    (h0 : inBar0 a = true) (h2 : inBar2 a = false) (hc : inCfg a = false) (hh : w = .host → s.memOn = true) :
    exec (.readClear w a) s = .next ((s.asRead w a (fun s => s.regRead (s.tenantWho w) a)).keep s) := by
  have h44 : a / 4 * 4 = a := by omega
  rw [exec_readClear, execReadClear, runs_eq (by exact hw) ha]
  cases w with
  | host => simp [h0, h2, hc, hp, h44, hh, State.hostMem]
  | core p => simp [hp, h4]
  | tlaell => simp [hp, h4]

/-- A host write at one of its windows that arrives whole and is not of configuration space is a memory request (R341). -/
theorem exec_registerWrite_hostMem (ha : s.alive = true) (hb : be < 16) (hw : inBar0 a = true ∨ inBar2 a = true)
    (hc : inCfg a = false) (v : Word) :
    exec (.registerWrite .host a v be .sound) s = .next ((s.hostMem false (fun s =>
      if inBar2 a then (if be = 15 then s.bar2Write (a - bar2) v else s)
      else if be ≠ 15 ∨ a % 4 ≠ 0 then s.set HIF_STAT.HPART 1
      else if areaOf a = .periph then s.asWrite .host a v (fun s => s.regEffect a v)
      else s.set HIF_STAT.HUNMAP 1)).keep s) := by
  rw [exec_registerWrite, execRegisterWrite, runs_eq (by simp [wfRegisterWrite, Who.wf, hb]) ha]
  have hw' : (inBar0 a || inBar2 a) = true := by simpa using hw
  simp only [hw', hc, Bool.or_false, Bool.not_true, Bool.false_eq_true, reduceCtorEq, false_and, if_false]

theorem exec_readClear_hostMem (ha : s.alive = true) (hw : inBar0 a = true ∨ inBar2 a = true) (hc : inCfg a = false) :
    exec (.readClear .host a) s = .next ((s.hostMem true (fun s =>
      if inBar2 a then s.emit (.read .host a (s.bar2Read (a - bar2)))
      else if areaOf a = .periph then s.asRead .host (a / 4 * 4) (fun s => s.regRead (s.tenantWho .host) (a / 4 * 4))
      else (s.set HIF_STAT.HUNMAP 1).emit (.read .host a 0))).keep s) := by
  rw [exec_readClear, execReadClear, runs_eq (by exact rfl) ha]
  have hw' : (inBar0 a || inBar2 a) = true := by simpa using hw
  simp [hw', hc]

/-- Configuration space answers whether the function answers memory requests or not (R341, R342). -/
theorem exec_registerWrite_cfg (ha : s.alive = true) (hb : be < 16) (hc : inCfg a = true) (v : Word) :
    exec (.registerWrite .host a v be .sound) s = .next ((s.cfgWrite (a - cfgSpace) v be).keep s) := by
  rw [exec_registerWrite, execRegisterWrite, runs_eq (by simp [wfRegisterWrite, Who.wf, hb]) ha]
  simp [hc]

theorem exec_readClear_cfg (ha : s.alive = true) (hc : inCfg a = true) :
    exec (.readClear .host a) s = .next ((s.emit (.read .host a (s.cfgRead (a - cfgSpace)))).keep s) := by
  rw [exec_readClear, execReadClear, runs_eq (by exact rfl) ha]
  simp [hc]

theorem exec_registerWrite_poisoned (ha : s.alive = true) (hb : be < 16)
    (hw : inBar0 a = true ∨ inBar2 a = true ∨ inCfg a = true) (v : Word) :
    exec (.registerWrite .host a v be .poisoned) s = .next ((s.aerSet 12 true).poisonSeen.keep s) := by
  rw [exec_registerWrite, execRegisterWrite, runs_eq (by simp [wfRegisterWrite, Who.wf, hb]) ha]
  have hw' : (inBar0 a || inBar2 a || inCfg a) = true := by simpa [or_assoc] using hw
  simp [hw', State.poisoned]

theorem exec_registerWrite_badEcrc (ha : s.alive = true) (hb : be < 16)
    (hw : inBar0 a = true ∨ inBar2 a = true ∨ inCfg a = true) (he : s.hif.cfg.ecrcChk = true) (v : Word) :
    exec (.registerWrite .host a v be .badEcrc) s = .next ((s.aerSet 19 false).keep s) := by
  rw [exec_registerWrite, execRegisterWrite, runs_eq (by simp [wfRegisterWrite, Who.wf, hb]) ha]
  have hw' : (inBar0 a || inBar2 a || inCfg a) = true := by simpa [or_assoc] using hw
  simp [hw', he]

/-- BAR2 and configuration space are apart (log entry 94). -/
theorem inCfg_of_inBar2 (h : inBar2 a = true) : inCfg a = false := by
  simp only [inBar2, inCfg, Bool.and_eq_true, decide_eq_true_eq, Bool.and_eq_false_iff, decide_eq_false_iff_not] at h ⊢
  simp only [bar2, cfgSpace] at h ⊢
  omega

/-- A register of the Keeper world: every Tenant write of it is a violation (R8). -/
theorem violates_keeper {r : RegSpec} (hr : regAt a = some r) (hk : r.keeper = true) (o : Nat) (v : Word) :
    s.violates o a v = true := by
  simp [State.violates, hr, hk]

/-- A Tenant reader gets 0 from a Keeper register, and the register is not read (R8). -/
theorem asRead_blind {r : RegSpec} (hr : regAt a = some r) (hk : r.keeper = true) (ht : s.tenantWho w = true)
    (hm : w = .host → s.memOn = true) (hp : ∀ p, w = .core p → s.issuing p = true ∧ s.userCore p = false)
    (f : State → Word × State) : s.asRead w a f = s.emit (.read w a 0) := by
  cases w with
  | host => simp [State.asRead, State.hostMem, hr, hk, ht, hm]
  | core p => simp [State.asRead, hr, hk, ht, hp p rfl]
  | tlaell => cases ht

/-- The peripheral region lies in BAR0, and apart from BAR2 and configuration space (R343). -/
theorem periph_places (hp : areaOf a = .periph) : inBar0 a = true ∧ inBar2 a = false ∧ inCfg a = false := by
  have h : 0x40100000 ≤ a ∧ a < 0x41000000 := by
    unfold areaOf at hp
    split_ifs at hp
    assumption
  simp only [inBar0, inBar2, inCfg, Bool.and_eq_true, decide_eq_true_eq, Bool.and_eq_false_iff, decide_eq_false_iff_not]
  simp only [bar2, cfgSpace]
  omega

end

section
variable (s : State) (i : Nat)

theorem errSignal_aer (k : Nat) (ur quiet : Bool) : (s.errSignal k ur quiet).hif.cfg.aer = s.hif.cfg.aer := by
  unfold State.errSignal
  dsimp only
  split <;> rfl

theorem errSignal_cor (k : Nat) (ur quiet : Bool) : (s.errSignal k ur quiet).hif.cfg.cor = s.hif.cfg.cor := by
  unfold State.errSignal
  dsimp only
  split <;> rfl

theorem aerRecord_aer : (s.aerRecord i).hif.cfg.aer = s.hif.cfg.aer ||| BitVec.ofNat 32 (2 ^ i) := by
  unfold State.aerRecord
  dsimp only
  split <;> rfl

theorem aerRecord_cor : (s.aerRecord i).hif.cfg.cor = s.hif.cfg.cor := by
  unfold State.aerRecord
  dsimp only
  split <;> rfl

end

theorem wbit_eq_getLsbD (w : Word) (i : Nat) : wbit w i = w.getLsbD i := by
  rw [wbit, nbit, BitVec.getLsbD, Nat.testBit_eq_decide_div_mod_eq]
  rfl

/-- A status bit ORed in reads 1. -/
theorem wbit_or_twoPow (w : Word) {i : Nat} (h : i < 32) : wbit (w ||| BitVec.ofNat 32 (2 ^ i)) i = true := by
  rw [wbit_eq_getLsbD, BitVec.getLsbD_or, BitVec.getLsbD_ofNat, Nat.testBit_two_pow_self]
  simp [h]

theorem aerSet_aer (s : State) {i : Nat} (hi : i < 32) {advisory : Bool}
    (h : (advisory && !wbit s.hif.cfg.aerSev i && wbit s.hif.cfg.corMask 13) = false) :
    wbit (s.aerSet i advisory).hif.cfg.aer i = true := by
  unfold State.aerSet
  dsimp only
  split
  · rename_i ha
    rw [ha, Bool.true_and] at h
    rw [h, if_neg Bool.false_ne_true, errSignal_aer, aerRecord_aer, wbit_or_twoPow _ hi]
  · rw [errSignal_aer, aerRecord_aer, wbit_or_twoPow _ hi]

/-- An advisory error that is not fatal is a correctable one (R341). -/
theorem aerSet_advisory_cor {s : State} {i : Nat} (h : wbit s.hif.cfg.aerSev i = false) :
    wbit (s.aerSet i true).hif.cfg.cor 13 = true := by
  have h13 : ∀ w : Word, wbit (w ||| 0x2000) 13 = true := fun w => wbit_or_twoPow w (i := 13) (by decide)
  unfold State.aerSet
  dsimp only
  rw [h, Bool.not_false, Bool.and_true, if_pos rfl]
  split
  · rw [errSignal_cor]; exact h13 _
  · rw [errSignal_cor, aerRecord_cor]; exact h13 _

/-- Byte enables of a whole dword take the value. -/
theorem enabledBytes_whole (old v : Word) : enabledBytes 15 old v = v := by
  have h : ∀ i, i < 4 → nbit 15 i = true := by decide
  have hl : (List.range 4).map (fun i => nth (leBytes 4 (if nbit 15 i then v else old).toNat) i 0) = leBytes 4 v.toNat := by
    simp [List.range_succ, h, nth, leBytes]
  rw [enabledBytes, hl, wordOfLe_leBytes]

/-- Initiate FLR is a host interface reset of kind 4 (R341, R368). -/
theorem cfgWrite_flr (s : State) {v : Word} (h : wbit v 15 = true) :
    s.cfgWrite 0x58 v 15 = s.drawn.hostReset 4 s.freeVal.toNat := by
  have hc : s.cfgWrite 0x58 v 15 = s.devCtlWrite (enabledBytes 15 (s.cfgRead 0x58) v) (enabledBytes 15 0 v) := rfl
  rw [hc, enabledBytes_whole, State.devCtlWrite, enabledBytes_whole, if_pos h]

/-- Settles O26. Where a request goes by its address, its maker and how it arrives; what AER records; and Initiate FLR. -/
theorem registerBusRowsComplete : Obligations.RegisterBusRowsComplete := by
  refine ⟨?_, ?_, ?_, ?_, ?_, ?_, ?_, ?_⟩
  · intro s w a be v ha hw hb hp h4 h0 h2 hc
    refine ⟨fun hm hh => ?_, fun hm hh => ?_⟩
    · rw [exec_registerWrite_periph ha hw hb hp h4 h0 h2 hc hh, asWrite_may hm]
    · rw [exec_readClear_periph ha hw hp h4 h0 h2 hc hh, asRead_may hm]
  · intro s a be v ha hm hb h0 h2 hc
    refine ⟨fun h => ?_, fun h4 h15 hp => ?_, fun hp => ?_⟩
    · rw [exec_registerWrite_hostMem ha hb (.inl h0) hc]
      simp only [State.hostMem, hm, h2, h.symm, if_true, Bool.false_eq_true, if_false]
    · rw [exec_registerWrite_hostMem ha hb (.inl h0) hc]
      simp [State.hostMem, hm, h2, h4, h15, hp]
    · rw [exec_readClear_hostMem ha (.inl h0) hc]
      simp [State.hostMem, hm, h2, hp]
  · intro s a v ha hm hc hw
    refine ⟨?_, ?_⟩
    · rw [exec_registerWrite_hostMem ha (by decide) hw hc]
      simp [State.hostMem, hm]
    · rw [exec_readClear_hostMem ha hw hc]
      simp [State.hostMem, hm]
  · intro s a v ha hm h2
    have hc := inCfg_of_inBar2 h2
    refine ⟨?_, ?_⟩
    · rw [exec_registerWrite_hostMem ha (by decide) (.inr h2) hc]
      simp [State.hostMem, hm, h2, bar2]
    · rw [exec_readClear_hostMem ha (.inr h2) hc]
      simp [State.hostMem, hm, h2, bar2]
  · exact fun s a be v ha hb hc => ⟨exec_registerWrite_cfg ha hb hc v, exec_readClear_cfg ha hc⟩
  · exact fun s a be v ha hb hw =>
      ⟨exec_registerWrite_poisoned ha hb hw v, fun he => exec_registerWrite_badEcrc ha hb hw he v⟩
  · intro s i hi
    exact ⟨aerSet_aer s hi rfl, fun hsev => ⟨aerSet_advisory_cor hsev, fun hmask => aerSet_aer s hi (by simp [hmask])⟩⟩
  · intro s v ha h15
    rw [exec_registerWrite_cfg ha (by decide) (by decide), ← cfgWrite_flr s h15]
    rfl

/-- Settles O51, by the world rules of a write and of a read. -/
theorem worldsAndLevels : Obligations.WorldsAndLevels := by
  refine ⟨?_, ?_⟩
  · intro s a v r ha hm ht hp h4 h0 h2 hc hr hk
    refine ⟨?_, ?_⟩
    · rw [exec_registerWrite_periph ha rfl (by decide) hp h4 h0 h2 hc (fun _ => ⟨rfl, hm⟩),
        asWrite_host_turned hm ht (violates_keeper hr hk 6 v)]
    · rw [exec_readClear_periph ha rfl hp h4 h0 h2 hc (fun _ => hm), asRead_blind hr hk ht (fun _ => hm) (by simp)]
  · intro s p a v r ha hp6 hi hp h4 hr
    obtain ⟨h0, h2, hc⟩ := periph_places hp
    have hw : (Who.core p).wf = true := decide_eq_true hp6
    have hwrite := exec_registerWrite_periph (be := 15) ha hw (by decide) hp h4 h0 h2 hc (by simp) v
    have hread := exec_readClear_periph ha hw hp h4 h0 h2 hc (by simp)
    refine ⟨fun ht hk => ?_, fun ht hk hu => ?_, fun ht hu => ?_, fun hu => ?_⟩
    · rw [hwrite]
      simp [State.asWrite, hi, ht, violates_keeper hr hk, State.except]
    · rw [hread, asRead_blind (w := .core p) hr hk ht (by simp) (by rintro _ ⟨⟩; exact ⟨hi, hu⟩)]
    · rw [hwrite]
      simp [State.asWrite, hi, ht, hu, State.except]
    · rw [hread]
      simp [State.asRead, hi, hu, State.except]

end Sys2Proof.Machine

end

section
/-! PROOFS. The cold reset and the state after reset (R12, R403, R418, R420). -/

namespace Sys2Proof.Machine
open Sys2Proof

/-- A run of changes that each pass a change `c` by passes it by as a whole. -/
theorem each_comm {α : Type} (c : State → State) {f : State → α → State} (h : ∀ s x, f (c s) x = c (f s x)) (s : State)
    (l : List α) : (c s).each l f = c (s.each l f) := by
  unfold State.each
  induction l generalizing s with
  | nil => rfl
  | cons x l ih => rw [List.foldl_cons, List.foldl_cons, h, ih]

/-- `s` with another JTAG port. -/
def State.withJtag (j : Jtag) (s : State) : State := { s with jtag := j }

/-- No operation on flash or fuses looks at the JTAG port (R381, R389). -/
theorem flashCut_withJtag (j : Jtag) (s : State) : (s.withJtag j).flashCut = s.flashCut.withJtag j := by
  unfold State.flashCut
  have h1 : (s.withJtag j).nvc.fop = s.nvc.fop := rfl
  rw [h1]
  cases s.nvc.fop with
  | none => rfl
  | some o =>
    dsimp only
    have h2 : (s.withJtag j).flashRefuse o = s.flashRefuse o := rfl
    have h3 (n : Nat) : (s.withJtag j).progSource o n = s.progSource o n := rfl
    have h4 : (s.withJtag j).eraseSize = s.eraseSize := rfl
    have h5 : (s.withJtag j).jrecord o.half o.sram = s.jrecord o.half o.sram := rfl
    rw [h2, h3, h4, h5]
    split
    · rfl
    split
    · cases s.progSource o (o.len - o.done) with
      | none => rfl
      | some bs => exact each_comm (State.withJtag j) (fun _ _ => rfl) s _
    split
    · exact each_comm (State.withJtag j) (fun _ _ => rfl) s _
    split
    · cases s.jrecord o.half o.sram with
      | error _ => rfl
      | ok r => exact each_comm (State.withJtag j) (fun _ _ => rfl) s _
    · rfl

theorem otpProgram_withJtag (j : Jtag) (s : State) (i : Nat) (d : Word) (ok : Bool) :
    (s.withJtag j).otpProgram i d ok = ((s.otpProgram i d ok).1, (s.otpProgram i d ok).2.withJtag j) := by
  have h1 : (s.withJtag j).otpWord i = s.otpWord i := rfl
  have h2 : (s.withJtag j).otpLocked i = s.otpLocked i := rfl
  simp only [State.otpProgram, h1, h2]
  split_ifs <;> rfl

theorem otpAdvance_withJtag (j : Jtag) (s : State) : (s.withJtag j).otpAdvance.2 = s.otpAdvance.2.withJtag j := by
  have h1 : (s.withJtag j).rollback = s.rollback := rfl
  have h2 : (s.withJtag j).get NVC_KSTAT.RBI = s.get NVC_KSTAT.RBI := rfl
  simp only [State.otpAdvance, h1, h2]
  split_ifs <;> rfl

theorem otpCut_withJtag (j : Jtag) (s : State) : (s.withJtag j).otpCut = s.otpCut.withJtag j := by
  unfold State.otpCut
  have h1 : (s.withJtag j).nvc.oop = s.nvc.oop := rfl
  rw [h1]
  cases s.nvc.oop with
  | none => rfl
  | some x =>
    obtain ⟨op, i, d⟩ := x
    dsimp only
    have h2 : (s.withJtag j).freeVal = s.freeVal := rfl
    rw [otpProgram_withJtag, h2]
    split
    · split <;> rfl
    · split
      · exact otpAdvance_withJtag j s.drawn
      · rfl

/-- The shadow register of fuse word `i` takes what the fuses hold (R403). -/
def State.shadowWord (s : State) (i : Nat) : State :=
  if keyWord i then s.wr (OTP_WORD i) 0
  else if s.nvc.fuseBad.contains i then s.drawn.wr (OTP_WORD i) s.freeVal
  else s.wr (OTP_WORD i) (s.otpWord i)

theorem otpShadow_eq (s : State) : s.otpShadow = (let t := s.each (List.range 256) State.shadowWord
    ((t.wr OTP_LOCKS (t.otpWord 0x31)).wr OTP_UID (t.rd (OTP_WORD 0))).set OTP_RBC.COUNT t.rollback) := rfl

/-- A refresh of the shadow changes registers and draws free values, nothing else. -/
theorem shadowWord_keeps {β : Type} (g : State → β) (hw : ∀ s a v, g (State.wr s a v) = g s) (hd : ∀ s, g (State.drawn s) = g s)
    (s : State) (i : Nat) : g (s.shadowWord i) = g s := by
  unfold State.shadowWord
  split_ifs <;> simp only [hw, hd]

theorem otpShadow_keeps {β : Type} (g : State → β) (hw : ∀ s a v, g (State.wr s a v) = g s) (hd : ∀ s, g (State.drawn s) = g s)
    (s : State) : g s.otpShadow = g s := by
  rw [otpShadow_eq]
  simp only [State.set, hw]
  exact each_keeps g _ (shadowWord_keeps g hw hd) s _


theorem OTP_WORD_inj {i k : Nat} (h : OTP_WORD i = OTP_WORD k) : i = k := by
  unfold OTP_WORD at h
  omega

theorem shadowWord_wf {s : State} (h : spWf resetVal s.regs = true) (i : Nat) : spWf resetVal (s.shadowWord i).regs = true := by
  unfold State.shadowWord
  split_ifs <;> exact regs_wf_wr (by exact h) _ _

/-- The refresh of one shadow register leaves every other register. -/
theorem rd_shadowWord_ne {s : State} (h : spWf resetVal s.regs = true) {i a : Nat} (ha : a ≠ OTP_WORD i) :
    (s.shadowWord i).rd a = s.rd a := by
  unfold State.shadowWord
  split_ifs
  · exact rd_wr_ne h _ ha
  · exact rd_wr_ne (s := s.drawn) h _ ha
  · exact rd_wr_ne h _ ha

/-- A key word reads 0 (R403). -/
theorem rd_shadowWord_key {s : State} (h : spWf resetVal s.regs = true) {i : Nat} (hk : keyWord i = true) :
    (s.shadowWord i).rd (OTP_WORD i) = 0 := by
  rw [State.shadowWord, if_pos hk, rd_wr_same h]

/-- Any other word reads as the fuses hold it, where its check bits match (R389, R403). -/
theorem rd_shadowWord_sound {s : State} (h : spWf resetVal s.regs = true) {i : Nat} (hk : keyWord i = false)
    (hb : s.nvc.fuseBad.contains i = false) : (s.shadowWord i).rd (OTP_WORD i) = s.otpWord i := by
  rw [State.shadowWord, hk, hb, if_neg Bool.false_ne_true, if_neg Bool.false_ne_true, rd_wr_same h]

theorem shadowWords_wf {s : State} (h : spWf resetVal s.regs = true) (l : List Nat) :
    spWf resetVal (s.each l State.shadowWord).regs = true :=
  each_inv (fun s => spWf resetVal s.regs = true) _ (fun _ i h => shadowWord_wf h i) s l h

theorem rd_shadowWords_ne {s : State} (h : spWf resetVal s.regs = true) {a : Nat} {l : List Nat}
    (ha : ∀ i ∈ l, a ≠ OTP_WORD i) : (s.each l State.shadowWord).rd a = s.rd a := by
  induction l generalizing s with
  | nil => rfl
  | cons i l ih =>
    have hi := List.forall_mem_cons.mp ha
    calc ((s.shadowWord i).each l State.shadowWord).rd a = (s.shadowWord i).rd a := ih (shadowWord_wf h i) hi.2
      _ = s.rd a := rd_shadowWord_ne h hi.1

/-- In a run over different words each is refreshed from the fuses once. -/
theorem rd_shadowWords_same {s : State} (h : spWf resetVal s.regs = true) {i : Nat} {l : List Nat} (hl : l.Nodup) (hi : i ∈ l) :
    (keyWord i = true → (s.each l State.shadowWord).rd (OTP_WORD i) = 0)
    ∧ (keyWord i = false → s.nvc.fuseBad.contains i = false → (s.each l State.shadowWord).rd (OTP_WORD i) = s.otpWord i) := by
  induction l generalizing s with
  | nil => cases hi
  | cons k l ih =>
    obtain ⟨hk, hl'⟩ := List.nodup_cons.mp hl
    have hnvc : (s.shadowWord k).nvc = s.nvc := shadowWord_keeps State.nvc (fun _ _ _ => rfl) (fun _ => rfl) s k
    by_cases hik : i = k
    · subst hik
      have hrest : (s.each (i :: l) State.shadowWord).rd (OTP_WORD i) = (s.shadowWord i).rd (OTP_WORD i) :=
        rd_shadowWords_ne (shadowWord_wf h i) (fun m hm he => hk (OTP_WORD_inj he ▸ hm))
      exact ⟨fun hkey => hrest.trans (rd_shadowWord_key h hkey), fun hkey hb => hrest.trans (rd_shadowWord_sound h hkey hb)⟩
    · have := ih (shadowWord_wf h k) hl' ((List.mem_cons.mp hi).resolve_left hik)
      simp only [State.otpWord, hnvc] at this
      exact this

/-- What the registers read once the shadow is refreshed. -/
theorem otpShadow_rd {s : State} (h : spWf resetVal s.regs = true) :
    (∀ a, a ≠ OTP_LOCKS → a ≠ OTP_UID → a ≠ OTP_RBC → (∀ i, i < 256 → a ≠ OTP_WORD i) → s.otpShadow.rd a = s.rd a)
    ∧ (∀ i, i < 256 → (keyWord i = true → s.otpShadow.rd (OTP_WORD i) = 0)
      ∧ (keyWord i = false → s.nvc.fuseBad.contains i = false → s.otpShadow.rd (OTP_WORD i) = s.otpWord i))
    ∧ s.otpShadow.rd OTP_LOCKS = s.otpWord 0x31 := by
  have ht := shadowWords_wf h (List.range 256)
  have hlast {a : Nat} (h1 : a ≠ OTP_UID) (h2 : a ≠ OTP_RBC) : s.otpShadow.rd a = ((s.each (List.range 256) State.shadowWord).wr
      OTP_LOCKS ((s.each (List.range 256) State.shadowWord).otpWord 0x31)).rd a := by
    rw [otpShadow_eq]
    exact (rd_set_ne (regs_wf_wr (regs_wf_wr ht _ _) _ _) _ h2).trans (rd_wr_ne (regs_wf_wr ht _ _) _ h1)
  have hnvc : (s.each (List.range 256) State.shadowWord).nvc = s.nvc :=
    each_keeps State.nvc _ (shadowWord_keeps State.nvc (fun _ _ _ => rfl) (fun _ => rfl)) s _
  refine ⟨fun a h1 h2 h3 h4 => ?_, fun i hi => ?_, ?_⟩
  · rw [hlast h2 h3, rd_wr_ne ht _ h1]
    exact rd_shadowWords_ne h (fun i hi => h4 i (List.mem_range.mp hi))
  · have hw : OTP_LOCKS < OTP_WORD i ∧ OTP_UID < OTP_WORD i ∧ OTP_RBC < OTP_WORD i := by
      simp only [OTP_WORD, OTP_LOCKS, OTP_UID, OTP_RBC]
      omega
    obtain ⟨hL, hU, hR⟩ := hw
    rw [hlast hU.ne' hR.ne', rd_wr_ne ht _ hL.ne']
    exact rd_shadowWords_same h List.nodup_range (List.mem_range.mpr hi)
  · rw [hlast (by decide) (by decide), rd_wr_same ht, State.otpWord, hnvc, State.otpWord]

/-- The state that a cold reset leaves, before the shadow is refreshed. -/
def State.coldBare (s : State) : State := ((s.withJtag { testen := s.jtag.testen }).resetCold).noteReset
  (s.withJtag { testen := s.jtag.testen }) 1

theorem exec_coldReset_eq (s : State) : exec .coldReset s = .next (s.coldBare.otpShadow.keep s) := rfl

/-- The JTAG port is at IDCODE with empty cells (R457). -/
theorem coldBare_jtag (s : State) : s.coldBare.jtag = { testen := s.jtag.testen } := by
  have h (t : State) : t.resetCold.jtag = t.flashCut.otpCut.jtag := rfl
  have hn (t u : State) : (t.noteReset u 1).jtag = t.jtag := rfl
  rw [State.coldBare, hn, h, flashCut_withJtag, otpCut_withJtag]
  rfl

/-- The fuses of a cold reset are those an operation cut short leaves (R389, R420). -/
theorem coldBare_fuse (s : State) : s.coldBare.nvc.fuse = s.flashCut.otpCut.nvc.fuse := by
  have h (t : State) : t.resetCold.nvc.fuse = t.flashCut.otpCut.nvc.fuse := rfl
  have hn (t u : State) : (t.noteReset u 1).nvc.fuse = t.nvc.fuse := rfl
  rw [State.coldBare, hn, h, flashCut_withJtag, otpCut_withJtag]
  rfl

/-- The cold reset ends with the refresh of the shadow, which leaves all but registers and free values as the reset has them. -/
theorem coldReset_keeps {β : Type} (g : State → β) (hw : ∀ s a v, g (State.wr s a v) = g s) (hd : ∀ s, g (State.drawn s) = g s)
    (s : State) : g s.coldBare.otpShadow = g s.coldBare := otpShadow_keeps g hw hd _

/-- Settles O52: the reset clears everything but the fuses and the queue, and the refresh of the shadow after it changes
registers alone. -/
theorem coldResetState : Obligations.ColdResetState := by
  intro s
  have hwf : spWf resetVal s.coldBare.regs = true := by
    rw [show s.coldBare.regs = [] from rfl]
    rfl
  have hbare (a : Nat) : s.coldBare.rd a = resetVal a := rfl
  obtain ⟨hother, hwords, hlocks⟩ := otpShadow_rd hwf
  have hnvc : s.coldBare.otpShadow.nvc = s.coldBare.nvc := coldReset_keeps State.nvc (fun _ _ _ => rfl) (fun _ => rfl) s
  have hpmu : s.coldBare.otpShadow.pmu = {} := coldReset_keeps State.pmu (fun _ _ _ => rfl) (fun _ => rfl) s
  have hjtag : s.coldBare.otpShadow.jtag = { testen := s.jtag.testen } :=
    (coldReset_keeps State.jtag (fun _ _ _ => rfl) (fun _ => rfl) s).trans (coldBare_jtag s)
  have htbu : s.coldBare.otpShadow.tbu = {} := coldReset_keeps State.tbu (fun _ _ _ => rfl) (fun _ => rfl) s
  have hcores : s.coldBare.otpShadow.cores = List.replicate 6 {} :=
    coldReset_keeps State.cores (fun _ _ _ => rfl) (fun _ => rfl) s
  have hfop : s.coldBare.nvc.fop = none := rfl
  have hoop : s.coldBare.nvc.oop = none := rfl
  have hword (i : Nat) : s.coldBare.otpWord i = s.coldBare.otpShadow.otpWord i := by rw [State.otpWord, State.otpWord, hnvc]
  rw [exec_coldReset_eq, ← coldBare_fuse, ← hnvc]
  rw [← hnvc] at hfop hoop hwords
  generalize s.coldBare.otpShadow = t at *
  refine ⟨_, rfl, fun a h1 h2 h3 h4 => (hother a h1 h2 h3 h4).trans (hbare a), fun i hi => ⟨(hwords i hi).1, fun hk hb => ?_⟩,
    hlocks.trans (hword _), congrArg Jtag.ir hjtag, congrArg Jtag.cells hjtag, congrArg Tbu.tbc htbu, hcores,
    congrArg Pmu.held hpmu, congrArg Pmu.rst hpmu, hfop, hoop, rfl, rfl⟩
  exact ((hwords i hi).2 hk hb).trans (hword i)

theorem reset_shaped : State.reset.shaped = true := by
  have hfuse : State.reset.nvc.fuse.length = 256 := by
    rw [show State.reset.nvc.fuse = ((List.replicate 256 0).set 0x31 1).set 0x32 0x42904301 from rfl]
    simp only [List.length_set, List.length_replicate]
  rw [State.shaped, hfuse]
  decide

/-- Settles O40: nothing is listed after reset, so every register reads its reset value. -/
theorem resetInvariant : Obligations.ResetInvariant :=
  ⟨rfl, rfl, reset_shaped, fun _ => rfl, rfl, rfl, rfl, rfl⟩

end Sys2Proof.Machine

end

section
/-! PROOFS. The shape of the machine: every operation keeps the canonical form of the maps and the lengths of the lists (R12, R13, R217 to R219, R225, R233, R388). -/

/-! `Shaped` is `State.shaped` as a proposition. For each function `f` of the model that answers a state, the lemma `Shaped.f` says
that the answer is in shape where the state before is: its proof is read along the body of `f`, one lemma for each operation that
the body names, `.ite` for a branch and `.each` for a run over a list. A command's lemma says that what it answers is in shape. -/

namespace Sys2Proof.Machine
open Sys2Proof
/- The lemmas are many and short: elaborated side by side they need more threads than the memory limit of a check allows. -/
set_option Elab.async false

/-- A core has its 16 banks of 16 G registers and its 16 F registers (R217, R219). -/
structure CoreShape (c : PyCore) : Prop where
  banks : c.banks.length = 16
  g : ∀ k ∈ c.banks, k.g.length = 16
  f : c.f.length = 16

/-- The machine is in shape: `State.shaped` as a proposition. -/
structure Shaped (s : State) : Prop where
  mem : memWf s.mem = true
  regs : spWf resetVal s.regs = true
  flips : spWf (fun _ => (0 : BitVec 39)) s.flips = true
  core : ∀ c ∈ s.cores, CoreShape c
  cores : s.cores.length = 6
  rails : s.rlc.rails.length = 32
  fuse : s.nvc.fuse.length = 256

theorem shaped_iff (s : State) : s.shaped = true ↔ Shaped s := by
  simp only [State.shaped, State.mapsWf, Bool.and_eq_true, beq_iff_eq, List.all_eq_true]
  constructor
  · rintro ⟨⟨⟨⟨⟨⟨hmem, hregs⟩, hflips⟩, hcores⟩, hcore⟩, hrails⟩, hfuse⟩
    refine ⟨hmem, hregs, hflips, fun c hc => ?_, hcores, hrails, hfuse⟩
    obtain ⟨⟨hbanks, hg⟩, hf⟩ := hcore c hc
    exact ⟨hbanks, hg, hf⟩
  · rintro ⟨hmem, hregs, hflips, hcore, hcores, hrails, hfuse⟩
    exact ⟨⟨⟨⟨⟨⟨hmem, hregs⟩, hflips⟩, hcores⟩, fun c hc => ⟨⟨(hcore c hc).banks, (hcore c hc).g⟩, (hcore c hc).f⟩⟩,
      hrails⟩, hfuse⟩

/-- Every next state that an outcome answers is in shape. -/
def Answers (o : Host.Outcome State Fault Refusal) : Prop := ∀ t, o = .next t → Shaped t

/-- A change of a list's entry that keeps what all entries meet. -/
theorem forall_mem_modNth {α : Type} {p : α → Prop} {f : α → α} (hf : ∀ x, p x → p (f x)) (l : List α) (i : Nat)
    (h : ∀ x ∈ l, p x) : ∀ x ∈ modNth l i f, p x := by
  induction l generalizing i with
  | nil => simp [modNth]
  | cons a l ih =>
    obtain ⟨ha, hl⟩ := List.forall_mem_cons.mp h
    cases i with
    | zero => exact List.forall_mem_cons.mpr ⟨hf a ha, hl⟩
    | succ i => exact List.forall_mem_cons.mpr ⟨ha, ih i hl⟩

/-- A change of one bank that keeps the number of its G registers. -/
theorem CoreShape.modBank {c : PyCore} (hc : CoreShape c) {b : Nat} {f : Bank → Bank}
    (hf : ∀ k, k.g.length = 16 → (f k).g.length = 16 := by exact fun _ hk => hk) :
    CoreShape { c with banks := modNth c.banks b f } where
  banks := (modNth_length _ _ _).trans hc.banks
  g := forall_mem_modNth hf _ _ hc.g
  f := hc.f

theorem CoreShape.write {c : PyCore} (hc : CoreShape c) (d : Dest) (v : Word) : CoreShape (c.write d v) := by
  cases d with
  | g b r => exact hc.modBank fun _ hk => (modNth_length _ _ _).trans hk
  | f r => exact ⟨hc.banks, hc.g, (modNth_length _ _ _).trans hc.f⟩
  | status b m => exact hc.modBank
  | prog b => exact hc.modBank
  | fpFlags => exact ⟨hc.banks, hc.g, hc.f⟩
  | fpsr => exact ⟨hc.banks, hc.g, hc.f⟩
  | sys n => exact hc

/-- A core at its reset values. -/
theorem coreShape_reset : CoreShape {} where
  banks := by decide
  g := by decide
  f := by decide

section
variable {s : State}

/-- An update of any other part of the state keeps the shape. -/
theorem Shaped.frame {tbu flk pha sns anv blw rlc evf uc hif nvc pmu mfu jtag tickRegs free out pending} (h : Shaped s)
    (hr : rlc.rails = s.rlc.rails := by dsimp only)
    (hn : nvc.fuse = s.nvc.fuse := by dsimp only) :
    Shaped { s with tbu, flk, pha, sns, anv, blw, rlc, evf, uc, hif, nvc, pmu, mfu, jtag, tickRegs, free, out, pending } where
  mem := h.mem
  regs := h.regs
  flips := h.flips
  core := h.core
  cores := h.cores
  rails := hr ▸ h.rails
  fuse := hn ▸ h.fuse

theorem Shaped.ite {c : Prop} {_ : Decidable c} {s t : State} (hs : Shaped s) (ht : Shaped t) : Shaped (if c then s else t) := by
  split <;> assumption

theorem Shaped.ite_snd {α : Type} {c : Prop} {_ : Decidable c} {x y : α × State} (hx : Shaped x.2) (hy : Shaped y.2) :
    Shaped (if c then x else y).2 := by
  split <;> assumption

theorem Shaped.ite_snd2 {α β : Type} {c : Prop} {_ : Decidable c} {x y : α × β × State} (hx : Shaped x.2.2) (hy : Shaped y.2.2) :
    Shaped (if c then x else y).2.2 := by
  split <;> assumption

/-- The state that an operation answers beside a value. -/
theorem Shaped.of_eq {α : Type} {x : α × State} {a : α} {t : State} (h : Shaped x.2) (e : x = (a, t)) : Shaped t := by
  rw [e] at h
  exact h

theorem Shaped.of_eq2 {α β : Type} {x : α × β × State} {a : α} {b : β} {t : State} (h : Shaped x.2.2) (e : x = (a, b, t)) :
    Shaped t := by
  rw [e] at h
  exact h

/-- A run that gathers values beside the state. -/
theorem Shaped.foldl_snd {α β : Type} {l : List β} {f : α × State → β → α × State} {x : α × State} (h : Shaped x.2)
    (hf : ∀ a b, Shaped a.2 → Shaped (f a b).2) : Shaped (l.foldl f x).2 := by
  induction l generalizing x with
  | nil => exact h
  | cons b l ih => exact ih (hf x b h)

/-! `Machine/Ops.lean` keeps the shape. -/

theorem Shaped.wr {a v} (h : Shaped s) : Shaped (s.wr a v) where
  __ := h
  regs := spWf_spSet h.regs a v

theorem Shaped.set {f v} (h : Shaped s) : Shaped (s.set f v) := h.wr

theorem Shaped.seti {f v} (h : Shaped s) : Shaped (s.seti f v) := h.set

theorem Shaped.setb {f b} (h : Shaped s) : Shaped (s.setb f b) := h.set

theorem Shaped.bump {f} (h : Shaped s) : Shaped (s.bump f) := h.set

theorem Shaped.bumpBy {f n} (h : Shaped s) : Shaped (s.bumpBy f n) := h.set

theorem Shaped.setBit {a i b} (h : Shaped s) : Shaped (s.setBit a i b) := h.wr

theorem Shaped.emit {o} (h : Shaped s) : Shaped (s.emit o) := h.frame

theorem Shaped.drawn (h : Shaped s) : Shaped s.drawn := h.frame

theorem Shaped.fitS {n x} (h : Shaped s) : Shaped (s.fitS n x).2 := .ite_snd h h.drawn

theorem Shaped.fitU {n x} (h : Shaped s) : Shaped (s.fitU n x).2 := .ite_snd h h.drawn

theorem Shaped.modPh {n f} (h : Shaped s) : Shaped (s.modPh n f) := h.frame

theorem Shaped.modRx {r f} (h : Shaped s) : Shaped (s.modRx r f) := h.frame

theorem Shaped.modLn {l f} (h : Shaped s) : Shaped (s.modLn l f) := h.frame

theorem Shaped.modBl {r f} (h : Shaped s) : Shaped (s.modBl r f) := h.frame

theorem Shaped.modRl {r f} (h : Shaped s) : Shaped (s.modRl r f) where
  __ := h
  rails := (modNth_length _ _ _).trans h.rails

theorem Shaped.modCore {p} {f : PyCore → PyCore} (h : Shaped s)
    (hf : ∀ c, CoreShape c → CoreShape (f c) := by exact fun _ hc => ⟨hc.banks, hc.g, hc.f⟩) : Shaped (s.modCore p f) where
  __ := h
  cores := (modNth_length _ _ _).trans h.cores
  core := forall_mem_modNth hf _ _ h.core

theorem Shaped.modMf {m f} (h : Shaped s) : Shaped (s.modMf m f) := h.frame

theorem Shaped.alert (h : Shaped s) : Shaped s.alert := h.frame

theorem Shaped.raiseBit {a i} (h : Shaped s) : Shaped (s.raiseBit a i) := .ite h h.setBit.alert

theorem Shaped.each {α : Type} {l : List α} {f : State → α → State} (h : Shaped s) (hf : ∀ s x, Shaped s → Shaped (f s x)) :
    Shaped (s.each l f) := each_inv Shaped f hf s l h

theorem Shaped.when {b} {f : State → State} (h : Shaped s) (hf : ∀ s, Shaped s → Shaped (f s)) : Shaped (s.when b f) :=
  .ite (hf _ h) h

theorem Shaped.runs {ok} {f : State → State} (h : Shaped s) (hf : ∀ s, Shaped s → Shaped (f s)) : Answers (runs ok s f) := by
  rintro _ ⟨⟩
  exact .ite (hf s h).frame h

theorem Shaped.runsEver {ok} {f : State → State} (h : Shaped s) (hf : ∀ s, Shaped s → Shaped (f s)) :
    Answers (runsEver ok s f) := by
  rintro _ ⟨⟩
  exact .ite (hf s h).frame h

/-! `Machine/Fabric.lean` keeps the shape. -/

theorem Shaped.slotReady {p sl} (h : Shaped s) : Shaped (s.slotReady p sl) := .ite h.set h

theorem Shaped.wakeEvent {k} (h : Shaped s) : Shaped (s.wakeEvent k) := h.frame

theorem Shaped.capTrigger {k} (h : Shaped s) : Shaped (s.capTrigger k) := .ite h.set.set.wr.wr.frame h.bump

theorem Shaped.consumerEvent {k ch} (h : Shaped s) : Shaped (s.consumerEvent k ch) :=
  .ite (.capTrigger (.ite h.wakeEvent h)) (.ite (.set (.set (.ite h.wakeEvent h))) (.ite (.slotReady (.set
    (.ite h.wakeEvent h))) (.set (.ite h.wakeEvent h))))

theorem Shaped.takeEvent {k} (h : Shaped s) : Shaped (s.takeEvent k) := h.set

theorem Shaped.chWait {n} (h : Shaped s) : Shaped (s.chWait n) := h.frame

theorem Shaped.mergeAt {n m} (h : Shaped s) : Shaped (s.mergeAt n m) := .ite h.set.set h

theorem Shaped.consumerAfter {fs k ch} (h : Shaped s) : Shaped (s.consumerAfter fs k ch) := h.consumerEvent

theorem Shaped.chanPins {fs n} (h : Shaped s) : Shaped (s.chanPins fs n) := h.setBit.each fun _ _ h => h.consumerAfter

theorem Shaped.feedB {fs ns} (h : Shaped s) : Shaped (s.feedB fs ns) :=
  h.each fun _ _ h => h.mergeAt.each fun _ _ h => h.chWait

theorem Shaped.chanOut {n} (h : Shaped s) : Shaped (s.chanOut n) := h.chanPins.feedB

theorem Shaped.chElement {n} (h : Shaped s) : Shaped (s.chElement n) :=
  .ite h.set (.ite h.set.chanOut (.ite (.ite h.set.set.chanOut h.set.set) (.ite h.set h.chanOut)))

theorem Shaped.fireAfter {before ps} (h : Shaped s) : Shaped (s.fireAfter before ps) :=
  .feedB (.each (h.each fun _ _ h => .ite h.mergeAt (h.mergeAt.each fun _ _ h => h.chWait)) fun _ _ h => h.chanPins)

theorem Shaped.firePsel {ps} (h : Shaped s) : Shaped (s.firePsel ps) := h.fireAfter

theorem Shaped.fireNow {ps} (h : Shaped s) : Shaped (s.fireNow ps) := by
  unfold State.fireNow
  dsimp only
  split
  · exact h.firePsel
  · exact h.frame

theorem Shaped.fire {hs} (h : Shaped s) : Shaped (s.fire hs) := h.fireNow

theorem Shaped.instant {f} (h : Shaped s) (hf : ∀ s, Shaped s → Shaped (f s)) : Shaped (s.instant f) := by
  unfold State.instant
  split
  · exact hf _ h
  · exact .firePsel (hf _ h.frame).frame

theorem Shaped.fireCmp {n} (h : Shaped s) : Shaped (s.fireCmp n) := h.fireAfter.frame

theorem Shaped.fireSafe (h : Shaped s) : Shaped s.fireSafe := h.fireNow

theorem Shaped.icuRaise {n} (h : Shaped s) : Shaped (s.icuRaise n) := .ite h.setBit h.setBit

theorem Shaped.signal {v} (h : Shaped s) : Shaped (s.signal v) := .ite h.frame h.emit

theorem Shaped.signalPending (h : Shaped s) : Shaped s.signalPending := h.each fun _ _ h => .ite h.frame.emit h

theorem Shaped.fireHif {i} (h : Shaped s) : Shaped (s.fireHif i) := .ite h.icuRaise.fire.signal h.icuRaise.fire

/-! `Machine/Mem.lean` keeps the shape. -/

theorem Shaped.setByte {k b} (h : Shaped s) : Shaped (s.setByte k b) where
  __ := h
  mem := memWf_setByte h.mem k b

theorem Shaped.setBytes {k bs} (h : Shaped s) : Shaped (s.setBytes k bs) := by
  induction bs generalizing s k with
  | nil => exact h
  | cons b bs ih => exact ih h.setByte

theorem Shaped.setWord {k v} (h : Shaped s) : Shaped (s.setWord k v) := h.setBytes

theorem Shaped.setFlips {k f} (h : Shaped s) : Shaped (s.setFlips k f) where
  __ := h
  flips := flipsWf_setFlips h.flips k f

theorem Shaped.modBank {p b} {f : Bank → Bank} (h : Shaped s)
    (hf : ∀ k, k.g.length = 16 → (f k).g.length = 16 := by exact fun _ hk => hk) : Shaped (s.modBank p b f) :=
  h.modCore fun _ hc => hc.modBank hf

theorem Shaped.setG {p b r v} (h : Shaped s) : Shaped (s.setG p b r v) :=
  h.modBank fun _ hk => (modNth_length _ _ _).trans hk

theorem Shaped.corrected {p k} (h : Shaped s) : Shaped (s.corrected p k) :=
  .icuRaise (.set (.set (.set (.ite h.bump (.ite h.bump (.ite h.bump h.bump))))))

theorem Shaped.uncorrectable {p k} (h : Shaped s) : Shaped (s.uncorrectable p k) := h.set.set.set

theorem Shaped.readEcc {p k} (h : Shaped s) : Shaped (s.readEcc p k).2 :=
  .ite_snd h (.ite_snd h.setFlips.corrected h.uncorrectable)

theorem Shaped.writeEcc {p k bitram v} (h : Shaped s) : Shaped (s.writeEcc p k bitram v) :=
  .ite h.setWord.setFlips.set h.setWord.setFlips

theorem Shaped.setSusp {b} (h : Shaped s) : Shaped (s.setSusp b) := by
  unfold State.setSusp
  dsimp only
  split
  · exact .ite (h.setb.frame (hn := rfl)) h
  · exact h

theorem Shaped.flashResume (h : Shaped s) : Shaped s.flashResume := .ite h h.setSusp

theorem Shaped.writeFar {k bs} (h : Shaped s) : Shaped (s.writeFar k bs) := .setFlips (.ite h h.setBytes)

theorem Shaped.storeFar {p k bs} (h : Shaped s) : Shaped (s.storeFar p k bs) :=
  .ite h.writeFar (.ite h.corrected.writeFar h.uncorrectable)

theorem Shaped.scrub {k n} (h : Shaped s) : Shaped (s.scrub k n) := h.each fun _ _ h => .ite h.setFlips h

theorem Shaped.writeBlock {k bs} (h : Shaped s) : Shaped (s.writeBlock k bs) :=
  h.scrub.setBytes.each fun _ _ h => h.setFlips

theorem Shaped.engineWords {k n} (h : Shaped s) : Shaped (s.engineWords k n).2 := by
  induction n generalizing s k with
  | zero => exact h
  | succ n ih => exact ih (.ite h.drawn h.scrub)

theorem Shaped.engineWrite {k bs} (h : Shaped s) : Shaped (s.engineWrite k bs) := .ite h.writeBlock h

theorem Shaped.flushWord {p} (h : Shaped s) : Shaped (s.flushWord p).2 := by
  unfold State.flushWord
  split
  · exact h
  · split
    · rename_i e
      exact (h.readEcc.of_eq e).modCore.writeEcc
    · rename_i e
      exact (h.readEcc.of_eq e).modCore.set

theorem Shaped.flushMerge {p} (h : Shaped s) : Shaped (s.flushMerge p) := h.flushWord

theorem Shaped.flushHit {q k} (h : Shaped s) : Shaped (s.flushHit q k) := by
  unfold State.flushHit
  split
  · exact .ite h.flushMerge h
  · exact h

theorem Shaped.retireStore {p} (h : Shaped s) : Shaped (s.retireStore p) := by
  unfold State.retireStore
  dsimp only
  split
  · exact h
  · refine .ite ?_ h.modCore.modCore
    refine .ite ?_ ?_
    · refine Shaped.writeEcc ?_
      split
      · exact .ite h.modCore.modCore h.modCore
      · exact h.modCore
    · refine Shaped.modCore ?_
      split
      · exact .ite h.modCore h.modCore.flushMerge
      · exact h.modCore

theorem Shaped.retireN {p n} (h : Shaped s) : Shaped (s.retireN p n) := by
  induction n generalizing s with
  | zero => exact h
  | succ n ih => exact ih h.retireStore

theorem Shaped.noteCode {p off a n} (h : Shaped s) : Shaped (s.noteCode p off a n) := h.modCore

theorem Shaped.pushStoreAt {p off e} (h : Shaped s) : Shaped (s.pushStoreAt p off e) :=
  .modCore (.ite h.noteCode.retireStore h.noteCode)

theorem Shaped.pushStore {p e} (h : Shaped s) : Shaped (s.pushStore p e) := h.pushStoreAt

theorem Shaped.retireOverlap {p a n} (h : Shaped s) : Shaped (s.retireOverlap p a n) := h.retireN

theorem Shaped.performFar {p e} (h : Shaped s) : Shaped (s.performFar p e) := by
  unfold State.performFar
  split
  · exact h.flushHit.storeFar
  · exact h.storeFar

theorem Shaped.deliverMem {p} (h : Shaped s) : Shaped (s.deliverMem p) := h.modCore.each fun _ _ h => h.performFar

theorem Shaped.portWord {p a} (h : Shaped s) : Shaped (s.portWord p a).2 := by
  unfold State.portWord
  dsimp only
  split
  · exact h.flushHit.readEcc
  · exact h.readEcc
  · exact h.readEcc
  · exact h

theorem Shaped.ownWord {p a} (h : Shaped s) : Shaped (s.ownWord p a).2 := by
  unfold State.ownWord
  split
  · exact .ite_snd h.flushWord h.portWord
  · exact h.portWord

theorem Shaped.loadMem {p a n} (h : Shaped s) : Shaped (s.loadMem p a n).2 := by
  unfold State.loadMem
  dsimp only
  split
  · refine .ite_snd h ?_
    split
    · rename_i e
      exact h.retireOverlap.deliverMem.ownWord.of_eq e
    · rename_i e
      exact h.retireOverlap.deliverMem.ownWord.of_eq e
  · split <;> rename_i e <;> exact h.deliverMem.ownWord.of_eq e

theorem Shaped.loadPort {p a} (h : Shaped s) : Shaped (s.loadPort p a).2 := h.retireOverlap.deliverMem.ownWord

/-! `Machine/Records.lean` keeps the shape. -/

theorem Shaped.evPost {ty payload} (h : Shaped s) : Shaped (s.evPost ty payload) :=
  .ite (h.frame.frame (hr := rfl) (hn := rfl)) (.fireHif (h.frame.frame (hr := rfl) (hn := rfl)))

theorem Shaped.mrPost {ty payload} (h : Shaped s) : Shaped (s.mrPost ty payload) := .ite h.frame h.frame

theorem Shaped.oneInstant {f} (h : Shaped s) (hf : ∀ s, Shaped s → Shaped (f s)) : Shaped (s.oneInstant f) := (hf s h).frame

theorem Shaped.mramCount {i} (h : Shaped s) : Shaped (s.mramCount i) := h.setWord

theorem Shaped.record {ty xs} (h : Shaped s) : Shaped (s.record ty xs) := h.mrPost.evPost

/-! `Machine/Microword.lean` keeps the shape. -/

theorem Shaped.setUcWord {k v} (h : Shaped s) : Shaped (s.setUcWord k v) := h.frame

/-! `Machine/Rights.lean` keeps the shape. -/

theorem Shaped.secv {a} (h : Shaped s) : Shaped (s.secv a) := .ite h.set (.ite h.set h)

/-! `Machine/Except.lean` keeps the shape. -/

theorem Shaped.espCheck {p} (h : Shaped s) : Shaped (s.espCheck p) := .ite h.set h.set.set

theorem Shaped.setOk {f v hi} (h : Shaped s) : Shaped (s.setOk f v hi) := .ite h.set h

theorem Shaped.sysWrite {p n v} (h : Shaped s) : Shaped (s.sysWrite p n v) :=
  .ite h.set (.ite (.ite h.set.set h.set) (.ite h.setOk (.ite h.set (.ite h.setOk (.ite h.set.espCheck
    (.ite h.set.espCheck (.ite h.set.espCheck (.ite (.ite h.set (.ite h.set.set.set.set.set.set.setOk
    h.set.set.set.set.set.set)) (.ite h.set (.ite h.set (.ite h.wr (.ite h.set.set (.ite h.setOk (.ite h.wr (.ite h.wr
    (.ite h.wr h))))))))))))))))

theorem Shaped.landOne {p l} (h : Shaped s) : Shaped (s.landOne p l) := by
  unfold State.landOne
  split
  · exact h.sysWrite
  · exact h.modCore fun _ hc => hc.write _ _

theorem Shaped.landAt {p t} (h : Shaped s) : Shaped (s.landAt p t) := h.modCore.each fun _ _ h => h.landOne

theorem Shaped.landAll {p} (h : Shaped s) : Shaped (s.landAll p) := .modCore (h.each fun _ _ h => h.landAt)

theorem Shaped.finishLong {p o} (h : Shaped s) : Shaped (s.finishLong p o) :=
  have h1 := (h.modCore (p := p)).each fun _ _ h => h.modCore fun _ hc => hc.write _ _
  .ite h1 (h1.modCore fun _ hc => hc.write _ _)

theorem Shaped.finishLongs {p f} (h : Shaped s) : Shaped (s.finishLongs p f) := h.each fun _ _ h => h.finishLong

theorem Shaped.showCore {p} (h : Shaped s) : Shaped (s.showCore p) := h.set.set.setb.set

theorem Shaped.judgeIdle (h : Shaped s) : Shaped s.judgeIdle := h.each fun _ _ h => .ite h.showCore h

theorem Shaped.lockUp {p cause} (h : Shaped s) : Shaped (s.lockUp p cause) :=
  h.set.set.bump.icuRaise.fire.mramCount.mrPost

theorem Shaped.ucFault {p a ill} (h : Shaped s) : Shaped (s.ucFault p a ill) := by
  unfold State.ucFault
  extract_lets act src s1 s2 s3 x u s4 s5
  have h1 : Shaped s1 := by
    unfold s1
    split
    · exact .ite h.setUcWord h
    · exact h
  have h3 : Shaped s3 := h1.set.setb.set.bump
  have h5 : Shaped s5 := .icuRaise (.ite h3.set.set.frame h3)
  exact .ite h5.lockUp h5.set.modCore

theorem Shaped.sequence {p off f n} (h : Shaped s) (hf : ∀ s, Shaped s → Shaped (f s)) : Shaped (.sequence p off f n s) := by
  induction n generalizing s with
  | zero => exact h
  | succ n ih =>
    rw [State.sequence]
    split
    · exact hf s h
    · exact .ite h.ucFault (ih h.ucFault)

theorem Shaped.service {p off f} (h : Shaped s) (hf : ∀ s, Shaped s → Shaped (f s)) : Shaped (s.service p off f) := by
  unfold State.service
  exact h.sequence fun _ h => hf _ h

theorem Shaped.lockup {p cause} (h : Shaped s) : Shaped (s.lockup p cause) := h.service fun _ h => h.lockUp

theorem Shaped.slotMove {p sl from_ to_} (h : Shaped s) : Shaped (s.slotMove p sl from_ to_) := .ite h.set h

theorem Shaped.escalateNow {p code rq tgt pc addr} (h : Shaped s) : Shaped (s.escalateNow p code rq tgt pc addr) := by
  unfold State.escalateNow
  extract_lets c s1 b s2 s3 s4 s5 s6 s7 s8 s9 s10 s11 s12 s13
  have h1 : Shaped s1 := by
    unfold s1
    split
    · exact h.set
    · exact h
  have h4 : Shaped s4 := by
    unfold s4
    split
    · exact h1.wr.set.set.wr
    · exact h1.wr.set.wr
  have h10 : Shaped s10 := h4.wr.wr.wr.wr.wr.set.set.set
  have h12 : Shaped s12 := .ite h10.finishLongs.slotMove h10.finishLongs
  exact .ite h10.lockup (.ite h10.lockup (.showCore (.modCore (h12.modBank fun _ hk => (modNth_length _ _ _).trans hk))))

theorem Shaped.escalate {p code rq tgt pc addr} (h : Shaped s) : Shaped (s.escalate p code rq tgt pc addr) :=
  h.service fun _ h => h.escalateNow

theorem Shaped.switchTo {p e lk} (h : Shaped s) : Shaped (s.switchTo p e lk) := by
  unfold State.switchTo
  dsimp only
  refine Shaped.showCore (Shaped.modCore ?_)
  split
  · exact h.finishLongs.modBank.set.set.each fun _ _ h => .ite h.set h
  · exact h.finishLongs.modBank

theorem Shaped.pushFrame {p rpc} (h : Shaped s) : Shaped (s.pushFrame p rpc) :=
  .setG (h.each fun _ _ h => h.pushStore)

theorem Shaped.enter {p e rpc direct} (h : Shaped s) : Shaped (s.enter p e rpc direct) := by
  unfold State.enter
  dsimp only
  refine .ite h.escalate (.ite h.escalate ?_)
  split
  · exact h.modBank.switchTo
  · refine .ite h.switchTo ?_
    split
    · exact h.escalate
    · split
      · exact h.secv.escalate
      · exact .switchTo (.pushFrame (.ite h.slotMove h))

theorem Shaped.localWord {p a} (h : Shaped s) : Shaped (s.localWord p a).2 := by
  unfold State.localWord
  split <;> rename_i e <;> exact h.loadMem.of_eq e

theorem Shaped.exceptNow {p code info addr rpc} (h : Shaped s) : Shaped (s.exceptNow p code info addr rpc) := by
  unfold State.exceptNow
  refine .ite h.landAll.lockup (.ite h.landAll.escalate ?_)
  split; rename_i e0
  split; rename_i e1
  split; rename_i e2
  split; rename_i e3
  have h1 := (((h.landAll.localWord.of_eq e0).localWord.of_eq e1).localWord.of_eq e2).localWord.of_eq e3
  split
  · refine .ite h1.escalate (.ite (h1.enter.modBank fun k hk => ?_) h1.enter)
    rw [modNth_length, modNth_length]
    split
    · exact (modNth_length _ _ _).trans hk
    · exact hk
  · exact h1.escalate

theorem Shaped.takeException {p code info addr rpc} (h : Shaped s) : Shaped (s.takeException p code info addr rpc) :=
  h.service fun _ h => h.exceptNow

theorem Shaped.takeBoundary {p} (h : Shaped s) : Shaped (s.takeBoundary p) := by
  unfold State.takeBoundary
  dsimp only
  split
  · exact h
  · exact .ite h h.modCore.takeException

theorem Shaped.latch {p x} (h : Shaped s) : Shaped (s.latch p x) := by
  unfold State.latch
  dsimp only
  split
  · exact h.setBit
  · exact .ite h (.bump (.set (h.each fun _ _ h => h.takeEvent)))
  · exact h

theorem Shaped.enterRequest {p rq direct} (h : Shaped s) : Shaped (s.enterRequest p rq direct) := by
  unfold State.enterRequest
  dsimp only
  split
  · exact .ite h.latch.enter.setG h.latch.enter
  · exact h.latch.enter

theorem Shaped.enterBest {p pri mth rq direct} (h : Shaped s) : Shaped (s.enterBest p pri mth rq direct) :=
  h.service fun _ h => h.enterRequest

theorem Shaped.leaveEscalation {p} (h : Shaped s) : Shaped (s.leaveEscalation p) :=
  .ite h.landAll.lockup h.landAll.modBank.slotMove.modCore.showCore

/-! `Machine/Access.lean` keeps the shape. -/

theorem Shaped.except {p code info addr} (h : Shaped s) : Shaped (s.except p code info addr) := h.takeException

theorem Shaped.aerRecord {i} (h : Shaped s) : Shaped (s.aerRecord i) := .ite h.drawn.drawn.drawn.drawn.frame h.frame

theorem Shaped.errSignal {k ur quiet} (h : Shaped s) : Shaped (s.errSignal k ur quiet) := .ite h.frame.emit h.frame

theorem Shaped.aerSet {i advisory} (h : Shaped s) : Shaped (s.aerSet i advisory) :=
  .ite (.ite h.frame.errSignal h.frame.aerRecord.errSignal) h.aerRecord.errSignal

theorem Shaped.hostMem {read f} (h : Shaped s) (hf : ∀ s, Shaped s → Shaped (f s)) : Shaped (s.hostMem read f) :=
  .ite (hf _ h) h.aerSet

theorem Shaped.asWrite {w a v f} (h : Shaped s) (hf : ∀ s, Shaped s → Shaped (f s)) : Shaped (s.asWrite w a v f) := by
  unfold State.asWrite
  split
  · exact hf _ h
  · exact h.hostMem fun _ h => .ite h.secv.set.icuRaise (hf _ h)
  · exact .ite h (.ite h.secv.except (.ite h.except (hf _ h)))

theorem Shaped.asRead {w a f} (h : Shaped s) (hf : ∀ s, Shaped s → Shaped (f s).2) : Shaped (s.asRead w a f) := by
  unfold State.asRead
  dsimp only
  split
  · exact .ite h (.ite h.except (.ite h.emit (.emit (hf _ h))))
  · exact h.hostMem fun _ h => .ite h.emit (.emit (hf _ h))
  · exact .ite h.emit (.emit (hf _ h))

theorem Shaped.plainWrite {a v} (h : Shaped s) : Shaped (s.plainWrite a v) := by
  unfold State.plainWrite
  split
  · exact h
  · exact h.wr

theorem Shaped.plainRead {a} (h : Shaped s) : Shaped (s.plainRead a) := by
  unfold State.plainRead
  split
  · exact h
  · exact h.wr

/-! `Machine/PhaseArray.lean` keeps the shape. -/

theorem Shaped.limit {n len d} (h : Shaped s) : Shaped (s.limit n len d).2 :=
  .ite_snd (.set (h.when fun _ h => h.set)) (h.when fun _ h => h.set)

theorem Shaped.applyWord {n d t} (h : Shaped s) : Shaped (s.applyWord n d t) := by
  unfold State.applyWord
  dsimp only
  split
  · exact h
  · refine .ite ?_ h
    split
    · exact h.limit
    · exact h.limit.modPh

theorem Shaped.commitPhase {n d t} (h : Shaped s) : Shaped (s.commitPhase n d t) := h.modPh.applyWord

theorem Shaped.commitRail {r d t} (h : Shaped s) : Shaped (s.commitRail r d t) :=
  h.set.modRx.each fun _ _ h => h.commitPhase

theorem Shaped.periodEnd {n} (h : Shaped s) : Shaped (s.periodEnd n) := .ite h.set.modPh h

theorem Shaped.respace {n ofs per t} (h : Shaped s) : Shaped (s.respace n ofs per t) := by
  unfold State.respace
  dsimp only
  split
  · exact h.modPh
  · exact .ite h (.ite h.periodEnd.modPh (.ite h.periodEnd.modPh h.modPh))

theorem Shaped.recompute {r t} (h : Shaped s) : Shaped (s.recompute r t) :=
  h.each fun _ _ h => .respace (.ite h h.set)

theorem Shaped.sampleCarrier {n} (h : Shaped s) : Shaped (s.sampleCarrier n) := h.modPh

theorem Shaped.leaveForce {n} (h : Shaped s) : Shaped (s.leaveForce n) := .ite h (.ite h.modPh.set.set.fire h.modPh)

theorem Shaped.stopSwitching {n} (h : Shaped s) : Shaped (s.stopSwitching n) := h.leaveForce.set.set.modPh

theorem Shaped.unfail {n} (h : Shaped s) : Shaped (s.unfail n) := h.setBit

theorem Shaped.enterPhase {n st} (h : Shaped s) : Shaped (s.enterPhase n st) :=
  h.stopSwitching.unfail.set.sampleCarrier.modPh

theorem Shaped.idlePhase {n st} (h : Shaped s) : Shaped (s.idlePhase n st) :=
  .ite h.stopSwitching.set.modPh h.stopSwitching.set.modPh.unfail

theorem Shaped.shedPhase {n t} (h : Shaped s) : Shaped (s.shedPhase n t) :=
  .ite h.stopSwitching.set.modPh h.stopSwitching.set.modPh

theorem Shaped.failPhase {n cause} (h : Shaped s) : Shaped (s.failPhase n cause) :=
  h.idlePhase.set.modPh.setBit.fire.mramCount.record

theorem Shaped.govAct {r} (h : Shaped s) : Shaped (s.govAct r) := h.modRx.fire

theorem Shaped.addPhase {r n hadActive} (h : Shaped s) : Shaped (s.addPhase r n hadActive) := h.enterPhase.govAct

theorem Shaped.addUpTo {r top hadActive ns} (h : Shaped s) : Shaped (s.addUpTo r top hadActive ns) :=
  h.each fun _ _ h => .ite h.addPhase h

theorem Shaped.cmdIgn (h : Shaped s) : Shaped s.cmdIgn := h.set

theorem Shaped.restored {n} (h : Shaped s) : Shaped (s.restored n) := h.modPh.idlePhase

theorem Shaped.applyCmd {n t hadActive} (h : Shaped s) : Shaped (s.applyCmd n t hadActive) :=
  .ite h (.ite h.set.modPh.cmdIgn (.ite (.ite h.set.modPh.addPhase h.set.modPh.cmdIgn) (.ite
    (.ite h.set.modPh.shedPhase.govAct h.set.modPh.cmdIgn) (.ite (.ite h.set.modPh.failPhase h.set.modPh.cmdIgn)
    (.ite h.set.modPh.restored h.set.modPh.cmdIgn)))))

theorem Shaped.takeMembership {n} (h : Shaped s) : Shaped (s.takeMembership n) := by
  unfold State.takeMembership
  dsimp only
  refine .ite h (.ite h.modPh ?_)
  split
  · exact .ite h.modPh.idlePhase h.modPh.idlePhase
  · exact h.modPh.idlePhase

theorem Shaped.takePresence {n} (h : Shaped s) : Shaped (s.takePresence n) := .ite h.idlePhase (.ite h.idlePhase h)

theorem Shaped.enableMembers {r} (h : Shaped s) : Shaped (s.enableMembers r) :=
  .each (.each (h.modRx.each fun _ _ h => h.idlePhase) fun _ _ h => h.enterPhase) fun _ _ h => h.idlePhase

theorem Shaped.disableMembers {r} (h : Shaped s) : Shaped (s.disableMembers r) :=
  h.modRx.each fun _ _ h => h.idlePhase.modPh

theorem Shaped.startMaster {r t} (h : Shaped s) : Shaped (s.startMaster r t) := h.modRx

theorem Shaped.gridMasters (h : Shaped s) : Shaped s.gridMasters := h.each fun _ _ h => .ite h.modRx.recompute h

theorem Shaped.masterBoundary {r t0 t} (h : Shaped s) : Shaped (s.masterBoundary r t0 t) := by
  unfold State.masterBoundary
  dsimp only
  refine Shaped.modRx ?_
  split
  · exact h
  · exact .ite h.modRx h

theorem Shaped.takePeriod {r} (h : Shaped s) : Shaped (s.takePeriod r).2 := by
  unfold State.takePeriod
  split
  · exact h
  · exact h.modRx

theorem Shaped.removeFailed {r left} (h : Shaped s) : Shaped (s.removeFailed r left) :=
  .when (h.each fun _ _ h => h.modPh) fun _ h => .modRl (h.when fun _ h => h.alert)

theorem Shaped.applyGov {r n t hadActive busy} (h : Shaped s) : Shaped (s.applyGov r n t hadActive busy) :=
  .ite (.ite h.modPh.restored h.modPh) (.ite h.modPh (.ite h.modPh.addUpTo (.ite h.modPh.shedPhase.govAct h.modPh)))

theorem Shaped.applyReadd {r readd hadActive met} (h : Shaped s) : Shaped (s.applyReadd r readd hadActive met) :=
  .ite h.addUpTo.takeEvent.modRx h.modRx

theorem Shaped.phaseChanges {r t} (h : Shaped s) : Shaped (s.phaseChanges r t).2 := by
  unfold State.phaseChanges
  extract_lets left before hadActive readd met gone decided busy s1 s2 s3 s4 pr s5 changed s6
  have h1 : Shaped s1 := h.each fun _ _ h => h.applyCmd
  have h2 : Shaped s2 := h1.removeFailed.each fun _ _ h => h.applyCmd
  have h3 : Shaped s3 := h2.applyReadd.each fun _ _ h => h.applyGov
  have h4 : Shaped s4 := .ite h3.addUpTo h3
  have h6 : Shaped s6 := h4.takePeriod.when fun _ h => h.recompute
  refine .ite (h6.each fun s n h => ?_) h6
  split
  · exact h.applyWord
  · exact h

theorem Shaped.looseCommands {t} (h : Shaped s) : Shaped (s.looseCommands t) := h.each fun _ _ h => h.applyCmd

theorem Shaped.balance {r cur} (h : Shaped s) : Shaped (s.balance r cur) := h.each fun _ _ h => h.modPh.seti

theorem Shaped.dwell {r cur} (h : Shaped s) : Shaped (s.dwell r cur) := .ite h.modRx h.modRx

theorem Shaped.startPeriod {n t} (h : Shaped s) : Shaped (s.startPeriod n t) := by
  unfold State.startPeriod
  dsimp only
  refine .ite h.periodEnd.modPh.sampleCarrier.modPh ?_
  split
  · exact h.periodEnd.modPh.sampleCarrier.modPh
  · split
    · exact .ite h.periodEnd.modPh.sampleCarrier.modPh.limit.modPh.applyWord
        h.periodEnd.modPh.sampleCarrier.modPh.limit.modPh
    · exact h.periodEnd.modPh.sampleCarrier.modPh.limit.modPh

theorem Shaped.execCarrierPeriodStart {n} (h : Shaped s) : Answers (execCarrierPeriodStart n s) := by
  refine h.runs fun s h => ?_
  split
  · exact .ite h.startPeriod h
  · exact h

theorem Shaped.execSenDelayEnd {g} (h : Shaped s) : Answers (execSenDelayEnd g s) := h.runs fun _ h => h.frame

theorem Shaped.senEdges {old} (h : Shaped s) : Shaped (s.senEdges old) := h.each fun _ _ h => .ite h h.frame

theorem Shaped.execStageAbsent {n} (h : Shaped s) : Answers (execStageAbsent n s) :=
  h.runs fun _ h => .ite (h.set.set.instant fun _ h => h.failPhase) h.set.set

theorem Shaped.execStagePresent {n} (h : Shaped s) : Answers (execStagePresent n s) := h.runs fun _ h => h.set.set

theorem Shaped.phaseCommand {op n} (h : Shaped s) : Shaped (s.phaseCommand op n) := .ite h (.ite h.cmdIgn h.set.modPh)

theorem Shaped.execPhaseAdd {w n} (h : Shaped s) : Answers (execPhaseAdd w n s) :=
  h.runs fun _ h => h.asWrite fun _ h => h.phaseCommand

theorem Shaped.execPhaseShed {w n} (h : Shaped s) : Answers (execPhaseShed w n s) :=
  h.runs fun _ h => h.asWrite fun _ h => h.phaseCommand

theorem Shaped.execPhaseRemove {w n} (h : Shaped s) : Answers (execPhaseRemove w n s) :=
  h.runs fun _ h => h.asWrite fun _ h => h.phaseCommand

theorem Shaped.execPhaseRestore {w n} (h : Shaped s) : Answers (execPhaseRestore w n s) :=
  h.runs fun _ h => h.asWrite fun _ h => h.phaseCommand

theorem Shaped.execGovernorAdd {r} (h : Shaped s) : Answers (execGovernorAdd r s) := by
  refine h.runs fun s h => ?_
  split
  · exact .ite h.modPh.modRx h
  · exact h

theorem Shaped.execGovernorShed {r} (h : Shaped s) : Answers (execGovernorShed r s) := by
  refine h.runs fun s h => ?_
  split
  · exact .ite h.modPh.modRx h
  · exact h

theorem Shaped.execReadd {r ch} (h : Shaped s) : Answers (execReadd r ch s) := h.runs fun _ h => h.consumerEvent

theorem Shaped.execReaddHoldEnd {r} (h : Shaped s) : Answers (execReaddHoldEnd r s) :=
  h.runs fun _ h => .ite h.modRx h

theorem Shaped.execBlendEnd {n} (h : Shaped s) : Answers (execBlendEnd n s) := h.runs fun _ h => .ite h.set h

theorem Shaped.phaWrite {a v} (h : Shaped s) : Shaped (s.phaWrite a v) :=
  .ite h.phaseCommand (.ite h.plainWrite.senEdges (.ite (.ite h.set (.ite h.set.plainWrite h.plainWrite)) (.ite
    (.ite h.set h.plainWrite) (.ite (.ite h (.ite h.set h.plainWrite)) (.ite (.ite h.set.plainWrite (.plainWrite
    (.ite h.set h))) (.ite (.ite h.set h.plainWrite) (.plainWrite (.ite h.set h))))))))

theorem Shaped.phaLock (h : Shaped s) : Shaped s.phaLock := by
  unfold State.phaLock
  split
  · exact h.set.set.set.set
  · exact h.set.set.setb

theorem Shaped.execPhaCommitLock {w} (h : Shaped s) : Answers (execPhaCommitLock w s) :=
  h.runs fun _ h => h.asWrite fun _ h => h.phaLock

/-! `Machine/Flock.lean` keeps the shape. -/

theorem Shaped.modFp {p f} (h : Shaped s) : Shaped (s.modFp p f) := h.frame

theorem Shaped.modFs {n f} (h : Shaped s) : Shaped (s.modFs n f) := h.frame

theorem Shaped.sendAnnounce (h : Shaped s) : Shaped s.sendAnnounce := h.each fun _ _ h => h.emit.emit

theorem Shaped.choose (h : Shaped s) : Shaped s.choose := by
  unfold State.choose
  extract_lets c flk joined s1 flk1 s2 s3 tbu s4
  have h2 : Shaped s2 := h.setb.set.set.set.setb.frame
  have h4 : Shaped s4 := .ite (h2.set.frame (hr := rfl) (hn := rfl)) (.ite h2.frame h2)
  exact .ite h.frame h4.sendAnnounce

theorem Shaped.sendSpanloss {p id} (h : Shaped s) : Shaped (s.sendSpanloss p id) := h.emit

theorem Shaped.followerMid {r} (h : Shaped s) : Shaped (s.followerMid r) := h.modRl

theorem Shaped.spanLost {n} (h : Shaped s) : Shaped (s.spanLost n) :=
  .fire (.ite (.sendSpanloss (.followerMid (.modRl (h.set.when fun _ h => h.alert)))) (.modRl
    (h.set.when fun _ h => h.alert)))

theorem Shaped.portFall {p} (h : Shaped s) : Shaped (s.portFall p) :=
  .choose (h.set.modFp.each fun _ _ h => .ite h.spanLost h)

theorem Shaped.execPortSymbolsDetected {p} (h : Shaped s) : Answers (execPortSymbolsDetected p s) :=
  h.runs fun _ h => .ite h.set h

theorem Shaped.requestDelay {p} (h : Shaped s) : Shaped (s.requestDelay p) := h.emit

theorem Shaped.execPortTrained {p} (h : Shaped s) : Answers (execPortTrained p s) :=
  h.runs fun _ h => .ite h.set.modFp.requestDelay h

theorem Shaped.delayAnswered {p} (h : Shaped s) : Shaped (s.delayAnswered p) :=
  .ite (h.modFp.when fun _ h => h.requestDelay) h

theorem Shaped.execPortMeasured {p trips turn} (h : Shaped s) : Answers (execPortMeasured p trips turn s) :=
  h.runs fun _ h => .ite h.set.set h

theorem Shaped.execPortDown {p miss viol} (h : Shaped s) : Answers (execPortDown p miss viol s) :=
  h.runs fun _ h => .ite h.bumpBy.portFall h.bumpBy

theorem Shaped.ctlRx {p frame ty act} (h : Shaped s) (hact : ∀ a, Shaped (act a)) : Shaped (s.ctlRx p frame ty act) := by
  unfold State.ctlRx
  split
  · exact h.bump
  · exact .ite (hact _) h

theorem Shaped.execDelayreqRx {p frame turn} (h : Shaped s) : Answers (execDelayreqRx p frame turn s) :=
  h.runs fun _ h => .ite h (h.ctlRx fun _ => .ite h.delayAnswered h.emit)

theorem Shaped.execTickMarkerRx {p lag} (h : Shaped s) : Answers (execTickMarkerRx p lag s) :=
  h.runs fun _ h => .ite h (.ite (.ite h.seti.frame.set.fire h.seti.frame) (.ite h.seti.frame.set h.seti.frame))

theorem Shaped.execAnnounceTimer (h : Shaped s) : Answers (execAnnounceTimer s) := h.runs fun _ h => h.sendAnnounce

theorem Shaped.heard {p a} (h : Shaped s) : Shaped (s.heard p a) := .choose (.ite h.modFp.set.frame.fire h.modFp)

theorem Shaped.execAnnounceRx {p frame} (h : Shaped s) : Answers (execAnnounceRx p frame s) :=
  h.runs fun _ h => .ite h (h.ctlRx fun _ => h.heard)

theorem Shaped.execAnnounceTimeout {p} (h : Shaped s) : Answers (execAnnounceTimeout p s) :=
  h.runs fun _ h => .ite h.modFp.choose h

theorem Shaped.execTimeFrameRx {p frame} (h : Shaped s) : Answers (execTimeFrameRx p frame s) :=
  h.runs fun _ h => .ite h (h.ctlRx fun _ => .ite h.frame.judgeIdle h)

theorem Shaped.sendDuty {mask f} (h : Shaped s) : Shaped (s.sendDuty mask f) := h.each fun _ _ h => h.emit

theorem Shaped.leadFrames {r d} (h : Shaped s) : Shaped (s.leadFrames r d) := h.each fun _ _ h => h.sendDuty

theorem Shaped.execDutyFrameRx {p frame} (h : Shaped s) : Answers (execDutyFrameRx p frame s) := by
  refine h.runs fun s h => ?_
  refine .ite h ?_
  split
  · exact h.bump
  · split
    · exact h.modFs
    · exact h

theorem Shaped.execDutyApply {n ofs} (h : Shaped s) : Answers (execDutyApply n ofs s) := by
  refine h.runs fun s h => ?_
  dsimp only
  split
  · exact h
  · exact .ite h.modFs (.ite (.sendDuty (.ite h.modFs.followerMid (.ite h.modFs
      (.ite h.modFs.modRl.commitRail h.modFs.modRl)))) (.ite h.modFs.followerMid (.ite h.modFs
      (.ite h.modFs.modRl.commitRail h.modFs.modRl))))

theorem Shaped.execDutyFrameTimeout {n} (h : Shaped s) : Answers (execDutyFrameTimeout n s) :=
  h.runs fun _ h => .ite (.ite h.bump.modFs.spanLost h.bump.modFs) h

theorem Shaped.execSpanlossRx {p frame} (h : Shaped s) : Answers (execSpanlossRx p frame s) :=
  h.runs fun _ h => .ite h (h.ctlRx fun _ => h.each fun _ _ h => .ite h.sendSpanloss h.spanLost)

theorem Shaped.rejoin {n} (h : Shaped s) : Shaped (s.rejoin n) := .ite h.set.modFs h

theorem Shaped.execRejoin {w n} (h : Shaped s) : Answers (execRejoin w n s) :=
  h.runs fun _ h => h.asWrite fun _ h => h.rejoin

theorem Shaped.sendHead {p} (h : Shaped s) : Shaped (s.sendHead p) := by
  unfold State.sendHead
  split
  · exact .ite h.emit h
  · exact h

theorem Shaped.sendOn {p f} (h : Shaped s) : Shaped (s.sendOn p f) := .ite h.modFp.sendHead h.modFp

theorem Shaped.nextMsg {p} (h : Shaped s) : Shaped (s.nextMsg p) := h.modFp.sendHead

theorem Shaped.routeFrame {f from_} (h : Shaped s) : Shaped (s.routeFrame f from_) := by
  unfold State.routeFrame
  dsimp only
  split
  · exact h.sendOn
  · exact h.each fun _ _ h => h.sendOn

theorem Shaped.msgDrop (h : Shaped s) : Shaped s.msgDrop := h.bump

theorem Shaped.drainTx {n} (h : Shaped s) : Shaped (s.drainTx n) := by
  induction n generalizing s with
  | zero => exact h
  | succ n ih => exact .ite h (ih (.set (.ite h.engineWords.frame.msgDrop h.engineWords.frame.routeFrame)))

theorem Shaped.serveTx (h : Shaped s) : Shaped s.serveTx := .ite h.drainTx h

theorem Shaped.execMessageQueue {w tail} (h : Shaped s) : Answers (execMessageQueue w tail s) :=
  h.runs fun _ h => h.asWrite fun _ h => h.set.serveTx

theorem Shaped.deliverMsg {f} (h : Shaped s) : Shaped (s.deliverMsg f) := h.engineWrite.set.fire

theorem Shaped.execMessageRx {p frame} (h : Shaped s) : Answers (execMessageRx p frame s) := by
  refine h.runs fun s h => .ite h ?_
  split
  · exact h.bump
  · refine .ite h.msgDrop (.ite h.msgDrop ?_)
    extract_lets flk s1 s2 clash s3
    have h2 : Shaped s2 := h.frame.emit
    have h3 : Shaped s3 := .ite h2.deliverMsg (.ite h2.msgDrop h2)
    exact .ite h3 (.ite h3.msgDrop h3.routeFrame)

theorem Shaped.execAckRx {p seq src} (h : Shaped s) : Answers (execAckRx p seq src s) := by
  refine h.runs fun s h => ?_
  split
  · exact .ite h.nextMsg h
  · exact h

theorem Shaped.execAckTimeout {p} (h : Shaped s) : Answers (execAckTimeout p s) := by
  refine h.runs fun s h => ?_
  split
  · exact h
  · exact .ite h.modFp.sendHead h.nextMsg.msgDrop

theorem Shaped.flkLock (h : Shaped s) : Shaped s.flkLock := by
  unfold State.flkLock
  split
  · exact h.set.set
  · exact h.set

theorem Shaped.execFlkCommitLock {w} (h : Shaped s) : Answers (execFlkCommitLock w s) :=
  h.runs fun _ h => h.asWrite fun _ h => h.flkLock

theorem Shaped.flkWrite {a v} (h : Shaped s) : Shaped (s.flkWrite a v) :=
  .ite (.serveTx (.choose (h.plainWrite.each fun _ _ h => h.portFall))) (.ite (.ite h.plainWrite.choose h)
    (.ite h.plainWrite.serveTx (.ite (.ite h.plainWrite.rejoin h.plainWrite) h.plainWrite)))

/-! `Machine/Timebase.lean` keeps the shape. -/

theorem Shaped.execPllLock {k} (h : Shaped s) : Answers (execPllLock k s) :=
  h.runs fun _ h => .ite (.ite h (h.set.each fun _ _ h => h.set)) (.ite h.set h.set)

theorem Shaped.execXinLoss (h : Shaped s) : Answers (execXinLoss s) := h.runs fun _ h => .ite h h.set.set.fire.choose

theorem Shaped.execXinReturn (h : Shaped s) : Answers (execXinReturn s) := h.runs fun _ h => .ite h.set.choose h

theorem Shaped.execBaseGridInstant (h : Shaped s) : Answers (execBaseGridInstant s) :=
  h.runs fun _ h => .ite h (.gridMasters (.each (h.frame.each fun _ _ h => h.emit) fun _ _ h => h.masterBoundary))

theorem Shaped.execModeSwitch (h : Shaped s) : Answers (execModeSwitch s) := by
  refine h.runs fun s h => ?_
  dsimp only
  split
  · exact h
  · exact .ite h (.ite h.setb.frame.set h.setb.frame)

theorem Shaped.execTbuCompare {n} (h : Shaped s) : Answers (execTbuCompare n s) :=
  h.runs fun _ h => .ite h.setBit.fireCmp.judgeIdle h

theorem Shaped.readTbc {sub} (h : Shaped s) : Shaped (s.readTbc sub).2 := h.wr.set

theorem Shaped.readBgc (h : Shaped s) : Shaped s.readBgc.2 := h.wr.wr.wr

theorem Shaped.execTbcRead {w sub} (h : Shaped s) : Answers (execTbcRead w sub s) :=
  h.runs fun _ h => h.asRead fun _ h => h.readTbc

theorem Shaped.execBgcRead {w} (h : Shaped s) : Answers (execBgcRead w s) :=
  h.runs fun _ h => h.asRead fun _ h => h.readBgc

/-! `Machine/Sensing.lean` keeps the shape. -/

theorem Shaped.railValue {r ws f} (h : Shaped s) : Shaped (s.railValue r ws f).2 :=
  .ite_snd h.set.frame (.ite_snd (.ite_snd h.set.bump.set.fire.frame h) (.ite_snd h.set.frame h.frame))

theorem Shaped.received {t n c v} (h : Shaped s) : Shaped (s.received t n c v).2 := h.when fun _ h => h.set

theorem Shaped.takeWord {n c w} (h : Shaped s) : Shaped (s.takeWord n c w) := .ite h.wr.frame h.wr.setBit.bump

theorem Shaped.sample {t} (h : Shaped s) : Shaped (s.sample t) := by
  unfold State.sample
  extract_lets n g r
  have hr : Shaped r.2 := .foldl_snd h fun a c h => by
    dsimp only
    refine .takeWord (.received ?_)
    exact .ite_snd (h.when fun _ h => h.set) (.ite_snd h.railValue h)
  exact hr.when fun _ h => h.fire

theorem Shaped.captureFill (h : Shaped s) : Shaped s.captureFill :=
  .ite h (.frame (.set (h.each fun _ _ h => h.writeFar)))

theorem Shaped.setCentres {f} (h : Shaped s) : Shaped (s.setCentres f) := h.frame

theorem Shaped.histories {el} (h : Shaped s) : Shaped (s.histories el) := h.frame.each fun _ _ h => h.modPh

theorem Shaped.estimate {t} (h : Shaped s) : Shaped (s.estimate t) := h.frame

theorem Shaped.calFault (h : Shaped s) : Shaped s.calFault := h.set.fire

theorem Shaped.execOffsetEstimate {k} (h : Shaped s) : Answers (execOffsetEstimate k s) :=
  h.runs fun _ h => .ite (.ite h (h.fitS.set.frame.when fun _ h => h.calFault)) (.ite h
    (h.fitS.set.frame.when fun _ h => h.calFault))

theorem Shaped.execZofsLearn {n} (h : Shaped s) : Answers (execZofsLearn n s) :=
  h.runs fun _ h => .ite h h.fitS.set.frame

theorem Shaped.execDomainGainWindow {d} (h : Shaped s) : Answers (execDomainGainWindow d s) :=
  h.runs fun _ h => .ite h (.ite h.frame (.ite (h.frame.fitU.set.when fun _ h => h.set) h.frame.fitU.set.calFault))

theorem Shaped.execLrEstimate {n} (h : Shaped s) : Answers (execLrEstimate n s) :=
  h.runs fun _ h => .ite h (.ite h.frame (.set (.set (.ite_snd (.drawn (.ite_snd h.frame.drawn h.frame.fitU)) (.fitU
    (.ite_snd h.frame.drawn h.frame.fitU))))))

theorem Shaped.gainTarget {n} (h : Shaped s) : Shaped (s.gainTarget n).2 := by
  unfold State.gainTarget
  dsimp only
  split
  · exact h.fitU
  · exact h.fitU

theorem Shaped.gainTargets (h : Shaped s) : Shaped s.gainTargets.2 := .foldl_snd h fun _ _ h => h.gainTarget

theorem Shaped.calPhase {n t} (h : Shaped s) : Shaped (s.calPhase n t) := h.set.seti

theorem Shaped.calDomain {d} (h : Shaped s) : Shaped (s.calDomain d) := h.set

theorem Shaped.execCalUpdate (h : Shaped s) : Answers (execCalUpdate s) :=
  h.runs fun _ h => .ite h (.each (h.frame.gainTargets.each fun _ _ h => h.calPhase) fun _ _ h => h.calDomain)

theorem Shaped.tempResult {k raw st} (h : Shaped s) : Shaped (s.tempResult k raw st) :=
  .ite (.ite h.set.fitS.set.frame (.ite h.set.fitS.set (.set (.ite_snd h.set.drawn h.set.fitS))))
    (.ite h.set.set h.set)

theorem Shaped.execTallyInject {w c} (h : Shaped s) : Answers (execTallyInject w c s) :=
  h.runs fun _ h => h.asWrite fun _ h => h.plainWrite

theorem Shaped.readCapStat (h : Shaped s) : Shaped s.readCapStat.2 := h.wr.wr

theorem Shaped.execCapStatRead {w} (h : Shaped s) : Answers (execCapStatRead w s) :=
  h.runs fun _ h => h.asRead fun _ h => h.readCapStat

theorem Shaped.snsWrite {a v} (h : Shaped s) : Shaped (s.snsWrite a v) := .ite h.set (.ite h.set h.plainWrite.frame)

/-! `Machine/Anvil.lean` keeps the shape. -/

theorem Shaped.setBankWord {k v} (h : Shaped s) : Shaped (s.setBankWord k v) := h.frame

theorem Shaped.takeRole {k m} (h : Shaped s) : Shaped (s.takeRole k m) := h.each fun _ _ h => h.takeEvent

theorem Shaped.preleanLoad (h : Shaped s) : Shaped s.preleanLoad := h.each fun _ _ h => .ite h.takeRole.modLn h

theorem Shaped.preleanCount (h : Shaped s) : Shaped s.preleanCount := h.each fun _ _ h => h.modLn

theorem Shaped.stateLoad {f l} (h : Shaped s) : Shaped (s.stateLoad f l).2 := .ite_snd h h.takeRole.modLn

theorem Shaped.markWrap {l loc} (h : Shaped s) : Shaped (s.markWrap l loc) := .fire (.ite h h.set.set)

theorem Shaped.anvilTick {f} (h : Shaped s) : Shaped (s.anvilTick f).2.2 := by
  unfold State.anvilTick
  extract_lets ls loads s1 s2 bad tails outs ok s3 ws
  have h1 : Shaped s1 := .foldl_snd h fun _ _ h => h.stateLoad
  exact h1.frame.each fun _ _ h => h.modLn

theorem Shaped.takeSnapshots (h : Shaped s) : Shaped s.takeSnapshots :=
  h.each fun _ _ h => .ite (.set (.set (.set (h.wr.each fun _ _ h => h.wr)))) h

theorem Shaped.captureSwaps (h : Shaped s) : Shaped s.captureSwaps :=
  h.each fun _ _ h => .ite h (.ite h.set.set.set.fire h.set.set.modLn)

theorem Shaped.storeShadow {l w v} (h : Shaped s) : Shaped (s.storeShadow l w v) := h.setBankWord.set

theorem Shaped.exchangeBanks (h : Shaped s) : Shaped s.exchangeBanks := by
  unfold State.exchangeBanks
  extract_lets s1 held s2
  have h1 : Shaped s1 := h.each fun s l h => by
    split
    · exact h
    · exact h.set.modLn
  exact h1.frame.each fun _ _ h => h.storeShadow

theorem Shaped.shadowWrite {l k v} (h : Shaped s) : Shaped (s.shadowWrite l k v) := .ite h.frame h.storeShadow

theorem Shaped.execShadowWrite {w l k v} (h : Shaped s) : Answers (execShadowWrite w l k v s) :=
  h.runs fun _ h => h.asWrite fun _ h => h.shadowWrite

theorem Shaped.swapCommand {v} (h : Shaped s) : Shaped (s.swapCommand v) :=
  .ite h.set (h.each fun _ _ h => .ite h.set.set (h.set.when fun _ h => h.set))

theorem Shaped.execSwapRequest {w l ld} (h : Shaped s) : Answers (execSwapRequest w l ld s) :=
  h.runs fun _ h => h.asWrite fun _ h => h.swapCommand

theorem Shaped.execSwapAllbound {w ld} (h : Shaped s) : Answers (execSwapAllbound w ld s) :=
  h.runs fun _ h => h.asWrite fun _ h => h.swapCommand

theorem Shaped.execSwapCancel {w l all} (h : Shaped s) : Answers (execSwapCancel w l all s) :=
  h.runs fun _ h => h.asWrite fun _ h => h.swapCommand

theorem Shaped.execPleanEvent {l ch} (h : Shaped s) : Answers (execPleanEvent l ch s) :=
  h.runs fun _ h => h.consumerEvent

theorem Shaped.execSloadEvent {l ch} (h : Shaped s) : Answers (execSloadEvent l ch s) :=
  h.runs fun _ h => h.consumerEvent

theorem Shaped.execPreleanEnd {l} (h : Shaped s) : Answers (execPreleanEnd l s) := h.runs fun _ h => .ite h.modLn h

theorem Shaped.trigWrite {l v} (h : Shaped s) : Shaped (s.trigWrite l v) :=
  .when (h.when fun _ h => h.consumerEvent) fun _ h => h.consumerEvent

theorem Shaped.execTrigPlean {w l} (h : Shaped s) : Answers (execTrigPlean w l s) :=
  h.runs fun _ h => h.asWrite fun _ h => h.trigWrite

theorem Shaped.execTrigSload {w l} (h : Shaped s) : Answers (execTrigSload w l s) :=
  h.runs fun _ h => h.asWrite fun _ h => h.trigWrite

theorem Shaped.zeroLane {l} (h : Shaped s) : Shaped (s.zeroLane l) := h.modLn.frame

theorem Shaped.lnStatWrite {l v} (h : Shaped s) : Shaped (s.lnStatWrite l v) := by
  unfold State.lnStatWrite
  extract_lets s1 s2 s3
  have h2 : Shaped s2 := h.wr.when fun _ h => h.each fun _ _ h => h.set
  have h3 : Shaped s3 := h2.when fun _ h => h.each fun _ _ h => h.set
  exact .ite (.ite h3.set (.ite h3.set.zeroLane h3)) h3

theorem Shaped.execFaultedClear {w l} (h : Shaped s) : Answers (execFaultedClear w l s) :=
  h.runs fun _ h => h.asWrite fun _ h => h.lnStatWrite

theorem Shaped.snapWrite {l v} (h : Shaped s) : Shaped (s.snapWrite l v) := .ite h.set.set h

theorem Shaped.execSnapshotRequest {w l} (h : Shaped s) : Answers (execSnapshotRequest w l s) :=
  h.runs fun _ h => h.asWrite fun _ h => h.snapWrite

theorem Shaped.anvLock (h : Shaped s) : Shaped s.anvLock := by
  unfold State.anvLock
  split
  · exact h.set.set.set.set
  · exact h.set.set.setb

theorem Shaped.execAnvCommitLock {w} (h : Shaped s) : Answers (execAnvCommitLock w s) :=
  h.runs fun _ h => h.asWrite fun _ h => h.anvLock

theorem Shaped.anvWrite {a v} (h : Shaped s) : Shaped (s.anvWrite a v) :=
  .ite h.swapCommand (.ite h.lnStatWrite (.ite h.trigWrite (.ite h.snapWrite (.ite h.shadowWrite h.plainWrite))))

/-! `Machine/Bellows.lean` keeps the shape. -/

theorem Shaped.dropForce {r} (h : Shaped s) : Shaped (s.dropForce r) := .set (h.each fun _ _ h => h.modPh)

theorem Shaped.rearm {r} (h : Shaped s) : Shaped (s.rearm r) := .ite (.ite h.set h) (.ite h h.dropForce)

theorem Shaped.disarm {r} (h : Shaped s) : Shaped (s.disarm r) := h.dropForce.set

theorem Shaped.execDlcalDone (h : Shaped s) : Answers (execDlcalDone s) :=
  h.runs fun _ h => h.set.each fun _ _ h => h.rearm

theorem Shaped.execDroopCrossing {r} (h : Shaped s) : Answers (execDroopCrossing r s) :=
  h.runs fun _ h => .ite (.fire (.raiseBit (.bump (.set (h.each fun _ _ h => h.modPh))))) h

theorem Shaped.execReleaseCrossing {r} (h : Shaped s) : Answers (execReleaseCrossing r s) :=
  h.runs fun _ h => .ite h.dropForce.set.set.fire h

theorem Shaped.execMaxonExpiry {n} (h : Shaped s) : Answers (execMaxonExpiry n s) := h.runs fun _ h => h.leaveForce

theorem Shaped.execLockoutEnd {r} (h : Shaped s) : Answers (execLockoutEnd r s) := h.runs fun _ h => .ite h.set h

theorem Shaped.execOvershootCrossing {r} (h : Shaped s) : Answers (execOvershootCrossing r s) :=
  h.runs fun _ h => .ite (.fire (.bump (.set (.set (h.each fun _ _ h => h.modPh))))) h

theorem Shaped.execOvershootRelease {r} (h : Shaped s) : Answers (execOvershootRelease r s) :=
  h.runs fun _ h => h.set.modBl

theorem Shaped.execOvmaxExpiry {r} (h : Shaped s) : Answers (execOvmaxExpiry r s) :=
  h.runs fun _ h => .ite h.set.modBl h

theorem Shaped.execWarnAssert {k} (h : Shaped s) : Answers (execWarnAssert k s) := h.runs fun _ h => .ite h.fire h

theorem Shaped.execPlarm {r} (h : Shaped s) : Answers (execPlarm r s) :=
  h.runs fun _ h => .ite (.ite h.takeEvent.set.modBl h.takeEvent) h

theorem Shaped.plCount {r} (h : Shaped s) : Shaped (s.plCount r) := h.modBl

theorem Shaped.execPlarmEnd {r} (h : Shaped s) : Answers (execPlarmEnd r s) := h.runs fun _ h => .ite h.set.modBl h

theorem Shaped.setFilts {x f} (h : Shaped s) : Shaped (s.setFilts x f) := by
  unfold State.setFilts
  dsimp only
  split
  · exact h.modPh
  · exact h.modBl
  · exact h.frame
  · exact h.modBl
  · exact h.modBl
  · exact h.modBl
  · exact h.frame
  · exact h.frame
  · exact h.frame
  · exact h.frame

theorem Shaped.vinKind {c f} (h : Shaped s) : Shaped (s.vinKind c f) := h.frame

theorem Shaped.alertNew {was} (h : Shaped s) : Shaped (s.alertNew was) := h.when fun _ h => h.alert

theorem Shaped.raiseFault {x} (h : Shaped s) : Shaped (s.raiseFault x) := by
  unfold State.raiseFault
  dsimp only
  refine Shaped.alertNew ?_
  split
  · exact h.setBit.vinKind
  · exact h.setBit.vinKind
  · exact h.setBit

theorem Shaped.raiseWarn {x} (h : Shaped s) : Shaped (s.raiseWarn x) := by
  unfold State.raiseWarn
  dsimp only
  refine Shaped.alertNew ?_
  split
  · exact h.setBit.vinKind
  · exact h.setBit.vinKind
  · exact h.setBit

theorem Shaped.judge {x fault warn} (h : Shaped s) : Shaped (s.judge x fault warn) :=
  .when (h.setFilts.when fun _ h => h.raiseFault) fun _ h => h.raiseWarn

theorem Shaped.judgeRail {r} (h : Shaped s) : Shaped (s.judgeRail r) := h.modBl.judge.judge.judge

theorem Shaped.judgeVin {c} (h : Shaped s) : Shaped (s.judgeVin c) := h.judge.judge

theorem Shaped.judgeTick (h : Shaped s) : Shaped s.judgeTick :=
  .each (h.each fun _ _ h => h.judgeRail) fun _ _ h => h.judgeVin

theorem Shaped.judgeTemp {k} (h : Shaped s) : Shaped (s.judgeTemp k) := .ite h (.ite h.judge (.ite h.judge h.judge))

theorem Shaped.execTempConversion {k raw st} (h : Shaped s) : Answers (execTempConversion k raw st s) :=
  h.runs fun _ h => h.tempResult.judgeTemp

theorem Shaped.dropLoads {r} (h : Shaped s) : Shaped (s.dropLoads r) := h.each fun _ _ h => h.takeRole.modLn

theorem Shaped.quenchRail {r code retry value} (h : Shaped s) : Shaped (s.quenchRail r code retry value) :=
  .record (.mramCount (.fire (.ite h.disarm.setBit.set.dropLoads.modRl.setb
    h.disarm.setBit.set.dropLoads.modRl.setb.raiseBit)))

theorem Shaped.quenchDevice {code ladder} (h : Shaped s) : Shaped (s.quenchDevice code ladder) :=
  .record (.instant (.frame (h.set.set.each fun _ _ h => h.disarm)) fun _ h => h.fireSafe.fire)

theorem Shaped.restoreChain {r} (h : Shaped s) : Shaped (s.restoreChain r) := h.each fun _ _ h => h.modLn

theorem Shaped.dropPhase {n retry hot} (h : Shaped s) : Shaped (s.dropPhase n retry hot) := .ite h.failPhase.modPh h

theorem Shaped.protDecide (h : Shaped s) : Shaped s.protDecide := by
  unfold State.protDecide
  dsimp only
  split
  · refine Shaped.quenchDevice (.each (h.each fun _ _ h => h.setFilts.when fun _ h => h.raiseFault) fun _ _ h => ?_)
    split
    · exact h.dropPhase
    · exact h
  · refine .ite ?_ ?_
    · refine Shaped.each ?_ fun _ _ h => ?_
      · refine .each (h.each fun _ _ h => h.setFilts.when fun _ h => h.raiseFault) fun _ _ h => ?_
        split
        · exact h.dropPhase
        · exact h
      · split
        · exact .quenchRail (h.when fun _ h => h.restoreChain)
        · exact .ite h (h.fire.each fun _ _ h => h.record)
    · refine Shaped.each (Shaped.fire ?_) fun _ _ h => h.record
      refine Shaped.each ?_ fun _ _ h => ?_
      · refine .each (h.each fun _ _ h => h.setFilts.when fun _ h => h.raiseFault) fun _ _ h => ?_
        split
        · exact h.dropPhase
        · exact h
      · split
        · exact .quenchRail (h.when fun _ h => h.restoreChain)
        · exact .ite h (h.fire.each fun _ _ h => h.record)

theorem Shaped.protAct (h : Shaped s) : Shaped s.protAct := h.oneInstant fun _ h => h.protDecide

theorem Shaped.execProtectionAction {x} (h : Shaped s) : Answers (execProtectionAction x s) :=
  h.runs fun _ h => .ite (h.instant fun _ h => h.protAct) h

theorem Shaped.execProtectionWarn {x} (h : Shaped s) : Answers (execProtectionWarn x s) := by
  refine h.runs fun s h => ?_
  dsimp only
  refine .ite ?_ h
  split
  · exact h.setFilts.raiseWarn.fire
  · exact h.setFilts.raiseWarn.fire

theorem Shaped.execStageFault {n above} (h : Shaped s) : Answers (execStageFault n above s) :=
  h.runs fun _ h => .ite h.setb (.ite (h.setb.instant fun _ h => h.failPhase.modPh.when fun _ h =>
    h.setFilts.when fun _ h => h.raiseFault) h.setb)

theorem Shaped.execOcTrip {n since} (h : Shaped s) : Answers (execOcTrip n since s) :=
  h.runs fun _ h => .ite (h.instant fun _ h => .fire (.when (.ite h.leaveForce.modPh.set.setBit.set
    h.leaveForce.modPh.set.setBit) fun _ h => h.raiseFault)) h

theorem Shaped.execBlwQuench {r} (h : Shaped s) : Answers (execBlwQuench r s) :=
  h.runs fun _ h => .ite h.takeEvent.quenchRail h

theorem Shaped.execBlwQuenchDev (h : Shaped s) : Answers (execBlwQuenchDev s) :=
  h.runs fun _ h => .ite h.takeEvent.quenchDevice h

theorem Shaped.quenchCommand {op r} (h : Shaped s) : Shaped (s.quenchCommand op r) :=
  .ite h.quenchRail (.ite h.quenchDevice (.ite h.set h))

theorem Shaped.execQuenchRailCommand {w r} (h : Shaped s) : Answers (execQuenchRailCommand w r s) :=
  h.runs fun _ h => h.asWrite fun _ h => h.quenchCommand

theorem Shaped.execQuenchDeviceCommand {w} (h : Shaped s) : Answers (execQuenchDeviceCommand w s) :=
  h.runs fun _ h => h.asWrite fun _ h => h.quenchCommand

theorem Shaped.execHoldoverLimit (h : Shaped s) : Answers (execHoldoverLimit s) :=
  h.runs fun _ h => .ite h.quenchDevice h

theorem Shaped.execEnginePllFault (h : Shaped s) : Answers (execEnginePllFault s) := h.runs fun _ h => h.quenchDevice

theorem Shaped.execHiccupEnd {r} (h : Shaped s) : Answers (execHiccupEnd r s) :=
  h.runs fun _ h => .ite h.bump.set.modRl h

theorem Shaped.execRetryCountClear {r} (h : Shaped s) : Answers (execRetryCountClear r s) :=
  h.runs fun _ h => .ite h.set h

theorem Shaped.execPhaseHiccupEnd {n} (h : Shaped s) : Answers (execPhaseHiccupEnd n s) :=
  h.runs fun _ h => .ite h.bump.modPh h

theorem Shaped.execPhaseRetryClear {n} (h : Shaped s) : Answers (execPhaseRetryClear n s) :=
  h.runs fun _ h => .ite h.set h

theorem Shaped.latchWrite {v} (h : Shaped s) : Shaped (s.latchWrite v) := h.each fun _ _ h => .ite h.set h

theorem Shaped.execLatchClear {w v} (h : Shaped s) : Answers (execLatchClear w v s) :=
  h.runs fun _ h => h.asWrite fun _ h => h.latchWrite

theorem Shaped.blwWrite {a v} (h : Shaped s) : Shaped (s.blwWrite a v) :=
  .ite h.quenchCommand (.ite h.latchWrite (.ite (.ite h.set h.plainWrite) (.ite (.ite h.set h.plainWrite)
    (.ite h.plainWrite.alertNew (.ite (.ite h.plainWrite h.plainWrite.set) h.plainWrite)))))

/-! `Machine/Rails.lean` keeps the shape. -/

theorem Shaped.limited {r} (h : Shaped s) : Shaped (s.limited r) := .modRl (h.when fun _ h => h.alert)

theorem Shaped.arbitrate {r} (h : Shaped s) : Shaped (s.arbitrate r) := .set (.setb (.set (.ite h.limited h)))

theorem Shaped.noteLimit {r v} (h : Shaped s) : Shaped (s.noteLimit r v) := .ite h.limited h

theorem Shaped.stamp {r slot ord} (h : Shaped s) : Shaped (s.stamp r slot ord) := h.modRl

theorem Shaped.putSlot {r slot v} (h : Shaped s) : Shaped (s.putSlot r slot v) :=
  .ite h.set.set (.ite h.set.set (.ite h.set.set h.set.modRl))

theorem Shaped.tickClock (h : Shaped s) : Shaped s.tickClock := h.frame

theorem Shaped.acceptSlot {r slot v} (h : Shaped s) : Shaped (s.acceptSlot r slot v) := h.putSlot.stamp.fire.arbitrate

theorem Shaped.request {r slot v} (h : Shaped s) : Shaped (s.request r slot v).2 := by
  unfold State.request
  split
  · exact h.acceptSlot.tickClock
  · exact .noteLimit (.ite h.set h)

theorem Shaped.setCml {b r} (h : Shaped s) : Shaped (s.setCml b r) := .modRl (h.when fun _ h => h.alert)

theorem Shaped.takeMargin {r} (h : Shaped s) : Shaped (s.takeMargin r) := by
  unfold State.takeMargin
  split
  · exact h.modRl.arbitrate
  · split
    · exact h.modRl.stamp.fire.arbitrate.tickClock
    · exact .ite h.limited h.setCml

theorem Shaped.frefCommand {r v} (h : Shaped s) : Shaped (s.frefCommand r v) := by
  unfold State.frefCommand
  dsimp only
  refine .ite ?_ h.set.set.request
  split
  · exact h.set.noteLimit
  · exact h.set.set.set.fire

theorem Shaped.execFrefWrite {w r v} (h : Shaped s) : Answers (execFrefWrite w r v s) :=
  h.runs fun _ h => h.asWrite fun _ h => h.frefCommand

theorem Shaped.captureTarget {r} (h : Shaped s) : Shaped (s.captureTarget r) := .ite h.modRl.set.set h

theorem Shaped.execFrefAtRelease {r} (h : Shaped s) : Answers (execFrefAtRelease r s) :=
  h.runs fun _ h => .ite (.ite h.set.set.putSlot.stamp.arbitrate.tickClock
    h.set.set.putSlot.stamp.arbitrate.tickClock.captureTarget) h

theorem Shaped.hrefCommand {r v} (h : Shaped s) : Shaped (s.hrefCommand r v) := .ite h.request h.set.set.arbitrate

theorem Shaped.execHrefWrite {w r v} (h : Shaped s) : Answers (execHrefWrite w r v s) :=
  h.runs fun _ h => h.asWrite fun _ h => h.hrefCommand

theorem Shaped.groupCommand {op g} (h : Shaped s) : Shaped (s.groupCommand op g) :=
  .ite h (.ite h.set (h.each fun _ _ h => .ite h.setb h))

theorem Shaped.execGroupOn {w g} (h : Shaped s) : Answers (execGroupOn w g s) :=
  h.runs fun _ h => h.asWrite fun _ h => h.groupCommand

theorem Shaped.execGroupOff {w g} (h : Shaped s) : Answers (execGroupOff w g s) :=
  h.runs fun _ h => h.asWrite fun _ h => h.groupCommand

theorem Shaped.execTonDelayEnd {r} (h : Shaped s) : Answers (execTonDelayEnd r s) := h.runs fun _ h => .ite h.modRl h

theorem Shaped.execToffDelayEnd {r} (h : Shaped s) : Answers (execToffDelayEnd r s) :=
  h.runs fun _ h => .ite h.modRl h

theorem Shaped.toRail {r st} (h : Shaped s) : Shaped (s.toRail r st) :=
  .ite (.setb (.set (h.when fun _ h => h.alert))) (.set (.setb (.set (h.when fun _ h => h.alert))))

theorem Shaped.setRout {r v} (h : Shaped s) : Shaped (s.setRout r v) := h.modRl

theorem Shaped.autoFr {r b} (h : Shaped s) : Shaped (s.autoFr r b) := .ite h.setb h

theorem Shaped.railToOff {r} (h : Shaped s) : Shaped (s.railToOff r) :=
  h.dropForce.toRail.setRout.disableMembers.setBit.set.set.modRl.frame.set.arbitrate.fire

theorem Shaped.enableRail {r t} (h : Shaped s) : Shaped (s.enableRail r t) :=
  h.toRail.setRout.modRl.setBit.modBl.frame.enableMembers.startMaster.recompute.each fun _ _ h => h.modLn

theorem Shaped.quenchSlot {r} (h : Shaped s) : Shaped (s.quenchSlot r) := .ite h.modRl h.toRail.setRout.autoFr.modRl

theorem Shaped.advanceRef {r} (h : Shaped s) : Shaped (s.advanceRef r) :=
  .ite h.setRout (.ite h.setRout (.ite h.setRout h))

theorem Shaped.moveRail {r offs quen t} (h : Shaped s) : Shaped (s.moveRail r offs quen t) :=
  .ite (.ite h.toRail h) (.ite (.ite h (.ite h.railToOff (.ite (.ite h.toRail.setBit.modRl h.enableRail) h))) (.ite
    (.ite h.railToOff (.ite h.toRail.modRl.autoFr h)) (.ite (.ite h.railToOff (.ite h.enableRail h)) (.ite h.railToOff
    (.ite h.dropForce.toRail.setRout.disableMembers.autoFr.modRl (.ite (.ite h.toRail
    (.ite h.toRail.set.autoFr.fire h)) (.ite (.ite h.toRail h) (.ite (.ite h.toRail (.ite h.toRail.modRl h)) (.ite
    (.ite h.toRail (.ite h.toRail.modRl h)) (.ite h.toRail.modRl (.ite h.railToOff h)))))))))))

theorem Shaped.moveRails {offs quen t n} (h : Shaped s) : Shaped (s.moveRails offs quen t n) := by
  induction n generalizing s with
  | zero => exact h
  | succ n ih => exact ih (h.each fun _ _ h => h.moveRail)

theorem Shaped.railTick {offs quen opers t} (h : Shaped s) : Shaped (s.railTick offs quen opers t) := by
  unfold State.railTick
  extract_lets s1 s2 s3 s4 s5 s6
  have h1 : Shaped s1 := h.each fun s r h => by
    split
    · exact h.set.modRl
    · exact h
  have h2 : Shaped s2 := h1.each fun _ _ h => h.takeMargin
  have h3 : Shaped s3 := h2.each fun _ _ h => .ite h.quenchSlot h
  have h4 : Shaped s4 := h3.each fun _ _ h => h.advanceRef
  have h5 : Shaped s5 := h4.each fun _ _ h => .modRl (.ite h.railToOff h)
  exact h5.moveRails.each fun _ _ h => h.modRl.setb.rearm

theorem Shaped.pushHist (h : Shaped s) : Shaped s.pushHist := by
  unfold State.pushHist
  exact (h.each fun _ _ h => h.modRl).frame

theorem Shaped.limWrite {r lo hi} (h : Shaped s) : Shaped (s.limWrite r lo hi) :=
  .arbitrate (.ite (.set (.ite (.ite h h.set) (.set (.ite h h.set)))) (.ite (.ite h h.set) (.set (.ite h h.set))))

theorem Shaped.rlcLock (h : Shaped s) : Shaped s.rlcLock := by
  unfold State.rlcLock
  split
  · exact h.set.set.set
  · exact h.set.set

theorem Shaped.execRlcCommitLock {w} (h : Shaped s) : Answers (execRlcCommitLock w s) :=
  h.runs fun _ h => h.asWrite fun _ h => h.rlcLock

theorem Shaped.setOper {r v} (h : Shaped s) : Shaped (s.setOper r v) := h.set.modRl

theorem Shaped.remargin {r} (h : Shaped s) : Shaped (s.remargin r) := .ite h.takeMargin h

theorem Shaped.rlcWrite {a v} (h : Shaped s) : Shaped (s.rlcWrite a v) := by
  unfold State.rlcWrite
  extract_lets s1
  have h1 : Shaped s1 := .ite h.set h
  refine .ite h1.groupCommand (.ite h1.frefCommand (.ite h1.hrefCommand (.ite h1.limWrite ?_)))
  refine .ite h1.plainWrite.arbitrate (.ite h1.plainWrite.remargin (.ite ?_ (.ite h1.plainWrite h1.plainWrite)))
  exact .ite h1.plainWrite h1.plainWrite.setOper

/-! `Machine/Mfu.lean` keeps the shape. -/

theorem Shaped.mfuDo {m f} (h : Shaped s) (hf : ∀ s, Shaped s → Shaped (f s)) : Shaped (s.mfuDo m f) :=
  .when (hf _ h) fun _ h => h.icuRaise

theorem Shaped.compareMatch {m c p} (h : Shaped s) : Shaped (s.compareMatch m c p) :=
  .ite (.ite h.fire.set (.ite h.fire.set h.fire.set.set.modMf)) h

theorem Shaped.mfuCount {m c time} (h : Shaped s) : Shaped (s.mfuCount m c time) :=
  .compareMatch (.ite (.fire (.modMf (h.wr.modMf.when fun _ h => h.set))) h.wr.modMf)

theorem Shaped.mfuLatch {m lvl sub} (h : Shaped s) : Shaped (s.mfuLatch m lvl sub) :=
  .ite h (.ite h.set h.wr.set.set.set.fire)

theorem Shaped.execMfuEdge {m lv time} (h : Shaped s) : Answers (execMfuEdge m lv time s) := by
  refine h.runs fun s h => h.instant fun s h => h.mfuDo fun s h => ?_
  extract_lets mode o s1 s2
  have h2 : Shaped s2 := .ite h.modMf.set.mfuLatch h.modMf.set
  exact .ite h2 (.ite h2.set.fire (.ite h2 (.ite h2.setb h2.mfuCount)))

theorem Shaped.execProbeEdge {m lvl sub} (h : Shaped s) : Answers (execProbeEdge m lvl sub s) :=
  h.runs fun _ h => h.mfuDo fun _ h => .ite h h.mfuLatch

theorem Shaped.readPos {m} (h : Shaped s) : Shaped (s.readPos m).2 := h.seti.modMf

theorem Shaped.execPosRead {w m} (h : Shaped s) : Answers (execPosRead w m s) :=
  h.runs fun _ h => h.asRead fun _ h => h.readPos

theorem Shaped.execPosWrite {w m v} (h : Shaped s) : Answers (execPosWrite w m v s) :=
  h.runs fun _ h => h.asWrite fun _ h => h.wr

theorem Shaped.execSpeedUpdate {m time} (h : Shaped s) : Answers (execSpeedUpdate m time s) := by
  refine h.runs fun s h => ?_
  dsimp only
  refine h.mfuDo fun _ h => .ite h ?_
  refine .ite ?_ ?_
  · refine .ite h.modMf.set.seti.fire ?_
    split
    · exact .ite h.modMf.set.seti.fire h.modMf.set.drawn.seti.fire
    · exact h.modMf.set.drawn.seti.fire
  · split
    · exact h.modMf.drawn.setb.seti.fire
    · exact .ite h.modMf.set.seti.fire (.ite h.modMf.seti.fire (.ite h.modMf.drawn.seti.fire h.modMf.seti.fire))

theorem Shaped.mfuFallback {m} (h : Shaped s) : Shaped (s.mfuFallback m) := .ite (h.mfuDo fun _ h => h.set) h

theorem Shaped.execPwmPeriodStart {m} (h : Shaped s) : Answers (execPwmPeriodStart m s) :=
  h.runs fun _ h => .ite h.modMf h.mfuFallback.seti.modMf

theorem Shaped.mfuDeliver {bad} (h : Shaped s) : Shaped (s.mfuDeliver bad) := by
  unfold State.mfuDeliver
  refine h.each fun _ _ h => ?_
  split
  · exact .ite h h.modMf
  · exact h

theorem Shaped.mfuWrite {a v} (h : Shaped s) : Shaped (s.mfuWrite a v) := by
  unfold State.mfuWrite
  refine .ite (h.mfuDo fun s h => ?_) ?_
  · extract_lets en src s1 bad s2 rose s3 s4
    have h2 : Shaped s2 := .ite h.plainWrite.set.set h.plainWrite
    have h4 : Shaped s4 := (h2.when fun _ h => h.set).modMf
    exact .ite h4.wr h4
  · exact .ite h.wr (.ite (.mfuFallback (.ite h.plainWrite.set h.plainWrite)) (.ite h.plainWrite.modMf h.plainWrite))

/-! `Machine/Migrate.lean` keeps the shape. -/

theorem Shaped.laneFail {l w} (h : Shaped s) : Shaped (s.laneFail l w) := by
  unfold State.laneFail
  dsimp only
  split
  · exact h.fire.record.quenchRail
  · exact .ite (h.fire.record.set.when fun _ h => h.mfuDo fun _ h => h.set) h.fire.record

theorem Shaped.correctWords {l ws} (h : Shaped s) : Shaped (s.correctWords l ws) := h.frame

/-- A field that is set where a number is found. -/
theorem Shaped.setSome {o : Option Nat} {f : Nat → FRef} {v : Nat} (h : Shaped s) :
    Shaped (match o with | some d => s.set (f d) v | none => s) := by
  cases o with
  | none => exact h
  | some d => exact h.set

theorem Shaped.migrate {l m} (h : Shaped s) : Shaped (s.migrate l m) := by
  refine .each (.set (.set (.setSome (.setSome ?_)))) fun _ _ h => .ite h.set h
  exact .modLn (.modLn (.set (.set (.set (.set (.set (.frame (.wr (h.each fun _ _ h => h.wr)))))))))

theorem Shaped.laneFault {l ws} (h : Shaped s) : Shaped (s.laneFault l ws) := by
  unfold State.laneFault
  dsimp only
  refine h.instant fun _ h => .ite h.set.fire.laneFail ?_
  split
  · exact h.set.fire.correctWords.set.record
  · split
    · exact h.set.fire.correctWords.migrate.record.modRl
    · exact h.set.fire.correctWords.migrate.record

theorem Shaped.spareFault {l ws} (h : Shaped s) : Shaped (s.spareFault l ws) :=
  h.instant fun _ h => .ite h.set.fire.correctWords.set.record h.set.fire.set.fire.record

theorem Shaped.bankPass (h : Shaped s) : Shaped s.bankPass := by
  unfold State.bankPass
  extract_lets s1 found off on
  have h1 : Shaped s1 := h.each fun _ _ h => h.each fun _ _ h => h.set.fire
  exact h1.oneInstant fun _ h => (h.each fun _ _ h => h.spareFault).each fun _ _ h => h.laneFault

theorem Shaped.execBankCheck (h : Shaped s) : Answers (execBankCheck s) := h.runs fun _ h => h.bankPass

theorem Shaped.showMoves (h : Shaped s) : Shaped s.showMoves :=
  h.each fun _ _ h => .ite (.modRl (h.when fun _ h => h.alert)) h

/-! `Machine/Tele.lean` keeps the shape. -/

theorem Shaped.dmaWord {k} (h : Shaped s) : Shaped (s.dmaWord k).2.2 :=
  .ite_snd2 h (.ite_snd2 h.setFlips.bump.icuRaise h.bump.icuRaise)

theorem Shaped.dmaTally {n f c w} (h : Shaped s) : Shaped (s.dmaTally n f c w).2 :=
  .ite_snd h (.ite_snd h.bump (.ite h.bump.setBit.bump.frame h.bump.setBit.bump.frame.fire))

theorem Shaped.frameWords {f tbc flags chans} (h : Shaped s) : Shaped (s.frameWords f tbc flags chans).2 :=
  .foldl_snd h fun _ _ h => h.dmaWord.dmaTally

theorem Shaped.modTr {t f} (h : Shaped s) : Shaped (s.modTr t f) := h.frame

theorem Shaped.teleTick (h : Shaped s) : Shaped s.teleTick := h.each fun _ _ h => .ite h.frameWords.modTr h

/-! `Machine/Tick.lean` keeps the shape. -/

theorem Shaped.pmuFire {i} (h : Shaped s) : Shaped (s.pmuFire i) := h.icuRaise.fire

theorem Shaped.deviceQuenchRail {r} (h : Shaped s) : Shaped (s.deviceQuenchRail r) :=
  .ite h h.disarm.quenchSlot.setBit.dropLoads.set.frame

theorem Shaped.enterQuench (h : Shaped s) : Shaped s.enterQuench := by
  unfold State.enterQuench
  extract_lets s1
  have h1 : Shaped s1 := h.each fun _ _ h => h.deviceQuenchRail
  exact .ite h1.frame (.ite h1 h1.set.set.pmuFire)

theorem Shaped.modeDue {k} (h : Shaped s) : Shaped (s.modeDue k) :=
  .ite (.ite h.frame.set.pmuFire h) (.ite (.ite h.set.set.pmuFire h) (.ite (.ite
    (h.set.each fun _ _ h => .ite h.railToOff h) h) h))

theorem Shaped.modeTick (h : Shaped s) : Shaped s.modeTick :=
  .ite (.enterQuench (h.frame.each fun _ _ h => h.modeDue)) (h.frame.each fun _ _ h => h.modeDue)

theorem Shaped.upsetBanks {t} (h : Shaped s) : Shaped (s.upsetBanks t) := h.each fun _ _ h => h.frame

theorem Shaped.upsetMem {t} (h : Shaped s) : Shaped (s.upsetMem t) := h.each fun _ _ h => h.setFlips

theorem Shaped.tickBegin {t} (h : Shaped s) : Shaped (s.tickBegin t) := by
  unfold State.tickBegin
  extract_lets s1 offs quen opers tbu s2 s3 s4 s5 s6 s7 s8
  have h4 : Shaped s4 := h.histories.frame.modeTick.senEdges.showMoves.exchangeBanks.each fun _ _ h => h.takeMembership
  have h6 : Shaped s6 := h4.railTick.each fun _ _ h => h.takePresence
  have h7 : Shaped s7 := h6.each fun _ _ h => .ite h.phaseChanges.quenchRail h.phaseChanges
  have h8 : Shaped s8 := .looseCommands (h7.each fun _ _ h => h.takeMembership)
  exact h8.each fun _ _ h => h.plCount

theorem Shaped.tickStart {t} (h : Shaped s) : Shaped (s.tickStart t) := h.oneInstant fun _ h => h.tickBegin

theorem Shaped.tickSense {t} (h : Shaped s) : Shaped (s.tickSense t) :=
  .judgeTick (.preleanLoad (.ite h.upsetBanks.upsetMem.sample.captureFill.teleTick h.upsetBanks.upsetMem.sample))

theorem Shaped.railCommit {bad r} (h : Shaped s) : Shaped (s.railCommit bad r) :=
  .ite h.balance (.leadFrames (.ite h.balance.frame.commitRail h.balance.frame))

theorem Shaped.tickCompute (h : Shaped s) : Shaped s.tickCompute :=
  .takeSnapshots (.preleanCount (.fire (.oneInstant (.each (.mfuDeliver
    (h.anvilTick.each fun _ _ h => h.railCommit)) fun _ _ h => h.markWrap) fun _ h => h.each fun _ _ h =>
    h.laneFault)))

theorem Shaped.tickEnd {t} (h : Shaped s) : Shaped (s.tickEnd t) :=
  .pushHist (.estimate (h.setCentres.each fun _ _ h => h.dwell))

theorem Shaped.execTick {t} (h : Shaped s) : Answers (execTick t s) :=
  h.runs fun _ h => .ite (.instant (.instant (.instant (h.instant fun _ h => h.tickStart) fun _ h =>
    h.tickSense) fun _ h => h.tickCompute) fun _ h => h.tickEnd) h

theorem Shaped.execSwapWindow (h : Shaped s) : Answers (execSwapWindow s) :=
  h.runs fun _ h => .ite h.frame (.each (.captureSwaps (h.frame.frame (hr := rfl)
    (hn := rfl))) fun _ _ h => h.captureTarget)

/-! `Machine/Avs.lean` keeps the shape. -/

theorem Shaped.avsAnswer {o ack data} (h : Shaped s) : Shaped (s.avsAnswer o ack data) := h.emit

theorem Shaped.avsNote {r ty data} (h : Shaped s) : Shaped (s.avsNote r ty data) :=
  .ite h.noteLimit (.ite h.noteLimit h)

theorem Shaped.avsApply {r ty data} (h : Shaped s) : Shaped (s.avsApply r ty data) :=
  .ite h.avsNote (.ite h.acceptSlot (.ite h.acceptSlot (.ite h.set.set h)))

theorem Shaped.setHeld {p l} (h : Shaped s) : Shaped (s.setHeld p l) := h.frame

theorem Shaped.avsHoldValue {o ty} (h : Shaped s) : Shaped (s.avsHoldValue o ty) := h.setHeld

theorem Shaped.avsCommit {o ty} (h : Shaped s) : Shaped (s.avsCommit o ty) :=
  .tickClock (h.setHeld.instant fun _ h => h.each fun _ _ h => h.each fun _ _ h => h.avsApply)

/-- A read that answers a state in shape where it finds one; none does. -/
def ReadKeeps {α : Type} (o : Option (State → Nat → α × State)) : Prop := ∀ f, o = some f → ∀ s r, Shaped s → Shaped (f s r).2

theorem ReadKeeps.none {α : Type} : ReadKeeps (α := α) none := nofun

theorem ReadKeeps.some {α : Type} {f : State → Nat → α × State} (hf : ∀ s r, Shaped s → Shaped (f s r).2) :
    ReadKeeps (some f) := by
  rintro _ ⟨⟩
  exact hf

theorem Shaped.avsFrame {o ty writable read} (h : Shaped s) (hr : ReadKeeps read) : Shaped (s.avsFrame o ty writable read) := by
  unfold State.avsFrame
  refine .ite h (.ite h.bump.bump.avsAnswer (.ite h.bump.avsAnswer (.ite ?_ (.ite h.bump.avsAnswer ?_))))
  · split
    · exact (hr _ rfl _ _ h.bump).avsAnswer
    · exact h.bump.avsAnswer
  · have h1 : ∀ l, Shaped ((s.bump (RLC_AVS_STAT.FRAMES o.port)).each l fun s r => s.avsNote r ty o.data) := fun _ =>
      h.bump.each fun _ _ h => h.avsNote
    exact .avsAnswer (.ite (.ite (h1 _).avsHoldValue (h1 _)) (.ite (h1 _) h.bump.avsCommit))

theorem Shaped.avsReadVoltage {r} (h : Shaped s) : Shaped (s.avsReadVoltage r).2 := h

theorem Shaped.rateByte {x} (h : Shaped s) : Shaped (s.rateByte x).2 := .ite_snd h h.drawn

theorem Shaped.avsReadRate {r} (h : Shaped s) : Shaped (s.avsReadRate r).2 := h.rateByte.rateByte

theorem Shaped.avsReadCurrent {r} (h : Shaped s) : Shaped (s.avsReadCurrent r).2 := .ite_snd h.drawn h

theorem Shaped.avsReadTemp {r} (h : Shaped s) : Shaped (s.avsReadTemp r).2 := by
  unfold State.avsReadTemp
  split
  · exact h
  · exact h.drawn

theorem Shaped.execAvsTargetVoltageWrite {o} (h : Shaped s) : Answers (execAvsTargetVoltageWrite o s) :=
  h.runs fun _ h => h.avsFrame .none

theorem Shaped.execAvsWriteAndHold {o} (h : Shaped s) : Answers (execAvsWriteAndHold o s) :=
  h.runs fun _ h => h.avsFrame .none

theorem Shaped.execAvsTargetVoltageRead {o} (h : Shaped s) : Answers (execAvsTargetVoltageRead o s) :=
  h.runs fun _ h => h.avsFrame (.some fun _ _ h => h.avsReadVoltage)

theorem Shaped.execAvsTransitionRate {o} (h : Shaped s) : Answers (execAvsTransitionRate o s) :=
  h.runs fun _ h => h.avsFrame (.some fun _ _ h => h.avsReadRate)

theorem Shaped.execAvsRailCurrent {o} (h : Shaped s) : Answers (execAvsRailCurrent o s) :=
  h.runs fun _ h => h.avsFrame (.some fun _ _ h => h.avsReadCurrent)

theorem Shaped.execAvsRailTemperature {o} (h : Shaped s) : Answers (execAvsRailTemperature o s) :=
  h.runs fun _ h => h.avsFrame (.some fun _ _ h => h.avsReadTemp)

theorem Shaped.execAvsResetVoltage {o} (h : Shaped s) : Answers (execAvsResetVoltage o s) :=
  h.runs fun _ h => h.avsFrame .none

theorem Shaped.execAvsStatus {o} (h : Shaped s) : Answers (execAvsStatus o s) :=
  h.runs fun _ h => h.avsFrame (.some fun _ _ h => h)

theorem Shaped.execAvsVersion {o} (h : Shaped s) : Answers (execAvsVersion o s) :=
  h.runs fun _ h => h.avsFrame (.some fun _ _ h => h)

theorem Shaped.execAvsUnsupported {o} (h : Shaped s) : Answers (execAvsUnsupported o s) :=
  h.runs fun _ h => h.avsFrame .none

/-! `Machine/Pmbus.lean` keeps the shape. -/

theorem Shaped.l11Enc {a b} (h : Shaped s) : Shaped (s.l11Enc a b).2 := by
  unfold State.l11Enc
  split
  · exact h
  · exact h.drawn

theorem Shaped.freeBytes {n} (h : Shaped s) : Shaped (s.freeBytes n).2 := by
  induction n generalizing s with
  | zero => exact h
  | succ n ih => exact ih h.drawn

theorem Shaped.pmbAnswer {q bs} (h : Shaped s) : Shaped (s.pmbAnswer q bs) := h.emit

/-- The state, where there is one, is in shape. -/
def SomeShaped (o : Option State) : Prop := ∀ t, o = some t → Shaped t

theorem SomeShaped.none : SomeShaped none := fun t e => absurd e.symm (Option.some_ne_none t)

theorem SomeShaped.some (h : Shaped s) : SomeShaped (some s) := by
  rintro _ ⟨⟩
  exact h

theorem SomeShaped.ite {c : Prop} {_ : Decidable c} {a b : Option State} (ha : SomeShaped a) (hb : SomeShaped b) :
    SomeShaped (if c then a else b) := by
  split <;> assumption

/-- The state that an operation answers, or another where it answers none. -/
theorem SomeShaped.getD {o : Option State} (h : Shaped s) :
    SomeShaped o → Shaped (match o with | .some t => t | .none => s) := by
  intro ho
  cases o with
  | none => exact h
  | some t => exact ho t rfl

theorem Shaped.pmbApply {ps once f d} (h : Shaped s) (hf : ∀ s r d, Shaped s → SomeShaped (f s r d)) :
    Shaped (s.pmbApply ps once f d) :=
  .ite (SomeShaped.getD (h.each fun _ _ h => h.setCml) (hf _ _ _ h))
    (.tickClock (h.instant fun _ h => h.each fun _ _ h => SomeShaped.getD h.setCml (hf _ _ _ h)))

/-- A write that, where it finds one, answers a state in shape. -/
def WriteKeeps (o : Option (State → Nat → Nat → Option State)) : Prop :=
  ∀ f, o = some f → ∀ s r d, Shaped s → SomeShaped (f s r d)

theorem WriteKeeps.none : WriteKeeps none := nofun

theorem WriteKeeps.some {f : State → Nat → Nat → Option State} (hf : ∀ s r d, Shaped s → SomeShaped (f s r d)) :
    WriteKeeps (some f) := by
  rintro _ ⟨⟩
  exact hf

/-- A PMBus command whose read and write keep the shape. -/
structure PmbKeeps (c : PmbCmd) : Prop where
  read : ReadKeeps c.read := by exact .none
  write : WriteKeeps c.write := by exact .none

theorem Shaped.pmb {o c} (h : Shaped s) (hc : PmbKeeps c) : Shaped (s.pmb o c) := by
  unfold State.pmb
  dsimp only
  have hall : ∀ {t : State} {b}, Shaped t → Shaped (t.each (s.pages o.q) fun s r => s.setCml b r) := fun h =>
    h.each fun _ _ h => h.setCml
  refine .ite h (.ite (.ite (hall h.bump) (.ite (hall h) ?_)) ?_)
  · split
    · exact hall h
    · rename_i f e
      exact .ite (hall h) (h.pmbApply (hc.write f e))
  · split
    · exact .pmbAnswer (.ite h.setCml (hall h))
    · rename_i f e
      exact .ite h.setCml.pmbAnswer (hc.read f e _ _ h).pmbAnswer

theorem readKeeps_rByte {f} : ReadKeeps (rByte f) := .some fun _ _ h => h

theorem readKeeps_rWord {f} : ReadKeeps (rWord f) := .some fun _ _ h => h

theorem readKeeps_rWordS {f : State → Nat → Nat × State} (hf : ∀ s r, Shaped s → Shaped (f s r).2) : ReadKeeps (rWordS f) :=
  .some hf

theorem Shaped.take {ok} {f : State → State} (h : Shaped (f s)) : SomeShaped (s.take ok f) := .ite (.some h) .none

theorem pmbKeeps_l11Field {num den lo hi rd wr} (hw : ∀ s r v, Shaped s → SomeShaped (wr s r v)) :
    PmbKeeps (l11Field num den lo hi rd wr) where
  read := readKeeps_rWordS fun _ _ h => h.l11Enc
  write := .some fun _ _ _ h => .ite (hw _ _ _ h) .none

theorem pmbKeeps_pmbPage {q} : PmbKeeps (pmbPage q) := ⟨readKeeps_rByte, .some fun _ _ _ h => .take h.set⟩

theorem pmbKeeps_pmbOperation : PmbKeeps pmbOperation := ⟨readKeeps_rByte, .some fun _ _ _ h => .take h.setOper⟩

theorem pmbKeeps_pmbStore : PmbKeeps pmbStore where
  write := .some fun _ _ _ h => .some h.fire

theorem pmbKeeps_pmbMargin {f} : PmbKeeps (pmbMargin f) := ⟨readKeeps_rWord, .some fun _ _ _ h => .take h.set.remargin⟩

theorem pmbKeeps_pmbAbs {f} : PmbKeeps (pmbAbs f) where
  read := readKeeps_rWordS fun _ _ h => .ite_snd h.drawn h.fitU
  write := .some fun _ _ _ h => .take h.set

theorem pmbKeeps_pmbRel {f sgn} : PmbKeeps (pmbRel f sgn) where
  read := readKeeps_rWordS fun _ _ h => .ite_snd h.drawn h.fitU
  write := .some fun _ _ _ h => .take h.set

theorem pmbKeeps_pmbResponse {a noWarn} : PmbKeeps (pmbResponse a noWarn) :=
  ⟨readKeeps_rByte, .some fun _ _ _ h => .take h.wr⟩

theorem pmbKeeps_pmbOt {f} : PmbKeeps (pmbOt f) :=
  ⟨readKeeps_rWordS fun _ _ h => h.l11Enc, .some fun _ _ _ h => .take h.seti⟩

theorem pmbKeeps_pmbVin {f} : PmbKeeps (pmbVin f) where
  read := readKeeps_rWordS fun s r h => by
    cases s.pageInput r with
    | none => exact h.drawn
    | some c => exact h.l11Enc
  write := .some fun s r _ h => by
    dsimp only
    cases s.pageInput r with
    | none => exact .none
    | some c => exact .take h.set

theorem pmbKeeps_pmbTime {f} : PmbKeeps (pmbTime f) := pmbKeeps_l11Field fun _ _ _ h => .some h.set

theorem pmbKeeps_pmbByte {f} : PmbKeeps (pmbByte f) where
  read := readKeeps_rByte

theorem pmbKeeps_pmbText {bs} : PmbKeeps (pmbText bs) where
  read := .some fun _ _ h => h

theorem Shaped.execPageCmd {o} (h : Shaped s) : Answers (execPageCmd o s) :=
  h.runs fun _ h => h.pmb pmbKeeps_pmbPage

theorem Shaped.execOperationOn {o} (h : Shaped s) : Answers (execOperationOn o s) :=
  h.runs fun _ h => h.pmb pmbKeeps_pmbOperation

theorem Shaped.execOperationOff {o} (h : Shaped s) : Answers (execOperationOff o s) :=
  h.runs fun _ h => h.pmb pmbKeeps_pmbOperation

theorem Shaped.execOperationImmediateOff {o} (h : Shaped s) : Answers (execOperationImmediateOff o s) :=
  h.runs fun _ h => h.pmb pmbKeeps_pmbOperation

theorem Shaped.execOperationMarginLow {o} (h : Shaped s) : Answers (execOperationMarginLow o s) :=
  h.runs fun _ h => h.pmb pmbKeeps_pmbOperation

theorem Shaped.execOperationMarginHigh {o} (h : Shaped s) : Answers (execOperationMarginHigh o s) :=
  h.runs fun _ h => h.pmb pmbKeeps_pmbOperation

theorem Shaped.execOnOffConfig {o} (h : Shaped s) : Answers (execOnOffConfig o s) :=
  h.runs fun _ h => h.pmb ⟨readKeeps_rByte, .some fun _ _ _ h => .take h.set⟩

theorem Shaped.clearPage {r} (h : Shaped s) : Shaped (s.clearPage r) := h.set.set.set.modRl

theorem Shaped.clearDev (h : Shaped s) : Shaped s.clearDev := h.wr.frame

theorem Shaped.unalert {q} (h : Shaped s) : Shaped (s.unalert q) := h.frame

theorem Shaped.execClearFaults {o} (h : Shaped s) : Answers (execClearFaults o s) :=
  h.runs fun _ h => h.pmb {
    write := .some fun _ _ _ h =>
      have h1 := h.each fun _ _ h => h.clearPage
      .some (.unalert (.ite h1.clearDev h1)) }

theorem Shaped.execWriteProtect {o} (h : Shaped s) : Answers (execWriteProtect o s) :=
  h.runs fun _ h => h.pmb ⟨readKeeps_rByte, .some fun _ _ _ h => .take h.set⟩

theorem Shaped.execStoreUserAll {o} (h : Shaped s) : Answers (execStoreUserAll o s) :=
  h.runs fun _ h => h.pmb pmbKeeps_pmbStore

theorem Shaped.execRestoreUserAll {o} (h : Shaped s) : Answers (execRestoreUserAll o s) :=
  h.runs fun _ h => h.pmb pmbKeeps_pmbStore

theorem Shaped.execCapability {o} (h : Shaped s) : Answers (execCapability o s) :=
  h.runs fun _ h => h.pmb { read := readKeeps_rByte }

theorem Shaped.execVoutMode {o} (h : Shaped s) : Answers (execVoutMode o s) :=
  h.runs fun _ h => h.pmb { read := readKeeps_rByte }

theorem Shaped.voutCommand {r v} (h : Shaped s) : SomeShaped (s.voutCommand r v) := by
  unfold State.voutCommand
  split
  · exact .some h.acceptSlot
  · exact .ite (.some h.limited) .none

theorem Shaped.execVoutCommand {o} (h : Shaped s) : Answers (execVoutCommand o s) :=
  h.runs fun _ h => h.pmb ⟨readKeeps_rWord, .some fun _ _ _ h => h.voutCommand⟩

theorem Shaped.execVoutMax {o} (h : Shaped s) : Answers (execVoutMax o s) :=
  h.runs fun _ h => h.pmb ⟨readKeeps_rWord, .some fun _ _ _ h => .take h.set.arbitrate⟩

theorem Shaped.execVoutMin {o} (h : Shaped s) : Answers (execVoutMin o s) :=
  h.runs fun _ h => h.pmb ⟨readKeeps_rWord, .some fun _ _ _ h => .take h.set.arbitrate⟩

theorem Shaped.execVoutMarginHigh {o} (h : Shaped s) : Answers (execVoutMarginHigh o s) :=
  h.runs fun _ h => h.pmb pmbKeeps_pmbMargin

theorem Shaped.execVoutMarginLow {o} (h : Shaped s) : Answers (execVoutMarginLow o s) :=
  h.runs fun _ h => h.pmb pmbKeeps_pmbMargin

theorem Shaped.execVoutTransitionRate {o} (h : Shaped s) : Answers (execVoutTransitionRate o s) :=
  h.runs fun _ h => h.pmb (pmbKeeps_l11Field fun _ _ _ h => .some h.set.set)

theorem Shaped.execVoutDroop {o} (h : Shaped s) : Answers (execVoutDroop o s) :=
  h.runs fun _ h => h.pmb (pmbKeeps_l11Field fun _ _ _ h => .some h.set)

theorem Shaped.execVoutScaleLoop {o} (h : Shaped s) : Answers (execVoutScaleLoop o s) :=
  h.runs fun _ h => h.pmb (pmbKeeps_l11Field fun _ _ _ h => .take h.set)

theorem Shaped.execVoutOvFaultLimit {o} (h : Shaped s) : Answers (execVoutOvFaultLimit o s) :=
  h.runs fun _ h => h.pmb pmbKeeps_pmbAbs

theorem Shaped.execVoutUvFaultLimit {o} (h : Shaped s) : Answers (execVoutUvFaultLimit o s) :=
  h.runs fun _ h => h.pmb pmbKeeps_pmbAbs

theorem Shaped.execVoutOvWarnLimit {o} (h : Shaped s) : Answers (execVoutOvWarnLimit o s) :=
  h.runs fun _ h => h.pmb pmbKeeps_pmbRel

theorem Shaped.execVoutUvWarnLimit {o} (h : Shaped s) : Answers (execVoutUvWarnLimit o s) :=
  h.runs fun _ h => h.pmb pmbKeeps_pmbRel

theorem Shaped.execVoutOvFaultResponse {o} (h : Shaped s) : Answers (execVoutOvFaultResponse o s) :=
  h.runs fun _ h => h.pmb pmbKeeps_pmbResponse

theorem Shaped.execVoutUvFaultResponse {o} (h : Shaped s) : Answers (execVoutUvFaultResponse o s) :=
  h.runs fun _ h => h.pmb pmbKeeps_pmbResponse

theorem Shaped.execIoutOcFaultLimit {o} (h : Shaped s) : Answers (execIoutOcFaultLimit o s) :=
  h.runs fun _ h => h.pmb (pmbKeeps_l11Field fun _ _ _ h => .some h.set)

theorem Shaped.execIoutOcWarnLimit {o} (h : Shaped s) : Answers (execIoutOcWarnLimit o s) :=
  h.runs fun _ h => h.pmb (pmbKeeps_l11Field fun _ _ _ h => .some h.set)

theorem Shaped.execIoutOcFaultResponse {o} (h : Shaped s) : Answers (execIoutOcFaultResponse o s) :=
  h.runs fun _ h => h.pmb pmbKeeps_pmbResponse

theorem Shaped.execOtFaultLimit {o} (h : Shaped s) : Answers (execOtFaultLimit o s) :=
  h.runs fun _ h => h.pmb pmbKeeps_pmbOt

theorem Shaped.execOtWarnLimit {o} (h : Shaped s) : Answers (execOtWarnLimit o s) :=
  h.runs fun _ h => h.pmb pmbKeeps_pmbOt

theorem Shaped.execOtFaultResponse {o} (h : Shaped s) : Answers (execOtFaultResponse o s) :=
  h.runs fun _ h => h.pmb pmbKeeps_pmbResponse

theorem Shaped.execVinOvFaultLimit {o} (h : Shaped s) : Answers (execVinOvFaultLimit o s) :=
  h.runs fun _ h => h.pmb pmbKeeps_pmbVin

theorem Shaped.execVinUvFaultLimit {o} (h : Shaped s) : Answers (execVinUvFaultLimit o s) :=
  h.runs fun _ h => h.pmb pmbKeeps_pmbVin

theorem Shaped.execTonDelay {o} (h : Shaped s) : Answers (execTonDelay o s) :=
  h.runs fun _ h => h.pmb pmbKeeps_pmbTime

theorem Shaped.execTonRise {o} (h : Shaped s) : Answers (execTonRise o s) :=
  h.runs fun _ h => h.pmb pmbKeeps_pmbTime

theorem Shaped.execToffDelay {o} (h : Shaped s) : Answers (execToffDelay o s) :=
  h.runs fun _ h => h.pmb pmbKeeps_pmbTime

theorem Shaped.execToffFall {o} (h : Shaped s) : Answers (execToffFall o s) :=
  h.runs fun _ h => h.pmb pmbKeeps_pmbTime

theorem Shaped.execStatusByte {o} (h : Shaped s) : Answers (execStatusByte o s) :=
  h.runs fun _ h => h.pmb pmbKeeps_pmbByte

theorem Shaped.execStatusWord {o} (h : Shaped s) : Answers (execStatusWord o s) :=
  h.runs fun _ h => h.pmb { read := readKeeps_rWord }

theorem Shaped.execStatusVout {o} (h : Shaped s) : Answers (execStatusVout o s) :=
  h.runs fun _ h => h.pmb pmbKeeps_pmbByte

theorem Shaped.execStatusIout {o} (h : Shaped s) : Answers (execStatusIout o s) :=
  h.runs fun _ h => h.pmb pmbKeeps_pmbByte

theorem Shaped.execStatusInput {o} (h : Shaped s) : Answers (execStatusInput o s) :=
  h.runs fun _ h => h.pmb pmbKeeps_pmbByte

theorem Shaped.execStatusTemperature {o} (h : Shaped s) : Answers (execStatusTemperature o s) :=
  h.runs fun _ h => h.pmb pmbKeeps_pmbByte

theorem Shaped.execStatusCml {o} (h : Shaped s) : Answers (execStatusCml o s) :=
  h.runs fun _ h => h.pmb pmbKeeps_pmbByte

theorem Shaped.execStatusMfrSpecific {o} (h : Shaped s) : Answers (execStatusMfrSpecific o s) :=
  h.runs fun _ h => h.pmb pmbKeeps_pmbByte

theorem Shaped.execReadVin {o} (h : Shaped s) : Answers (execReadVin o s) :=
  h.runs fun _ h => h.pmb {
    read := readKeeps_rWordS fun s r h => by
      cases s.pageInput r with
      | none => exact h.drawn
      | some c => exact .ite_snd h.drawn h.l11Enc }

theorem Shaped.execReadVout {o} (h : Shaped s) : Answers (execReadVout o s) :=
  h.runs fun _ h => h.pmb { read := readKeeps_rWordS fun _ _ h => .ite_snd h.drawn h.fitU }

theorem Shaped.execReadIout {o} (h : Shaped s) : Answers (execReadIout o s) :=
  h.runs fun _ h => h.pmb { read := readKeeps_rWordS fun _ _ h => h.l11Enc }

theorem Shaped.l11TempMean {l} (h : Shaped s) : Shaped (s.l11TempMean l).2 := .ite_snd h.drawn h.l11Enc

theorem Shaped.execReadTemperature1 {o} (h : Shaped s) : Answers (execReadTemperature1 o s) :=
  h.runs fun _ h => h.pmb { read := readKeeps_rWordS fun _ _ h => h.l11TempMean }

theorem Shaped.execReadTemperature2 {o} (h : Shaped s) : Answers (execReadTemperature2 o s) :=
  h.runs fun _ h => h.pmb { read := readKeeps_rWordS fun _ _ h => h.l11TempMean }

theorem Shaped.execReadPout {o} (h : Shaped s) : Answers (execReadPout o s) :=
  h.runs fun _ h => h.pmb { read := readKeeps_rWordS fun _ _ h => .ite_snd h.drawn h.l11Enc }

theorem Shaped.execPmbusRevision {o} (h : Shaped s) : Answers (execPmbusRevision o s) :=
  h.runs fun _ h => h.pmb pmbKeeps_pmbByte

theorem Shaped.execMfrId {o} (h : Shaped s) : Answers (execMfrId o s) :=
  h.runs fun _ h => h.pmb pmbKeeps_pmbText

theorem Shaped.execMfrModel {o} (h : Shaped s) : Answers (execMfrModel o s) :=
  h.runs fun _ h => h.pmb pmbKeeps_pmbText

theorem Shaped.execMfrRevision {o} (h : Shaped s) : Answers (execMfrRevision o s) :=
  h.runs fun _ h => h.pmb pmbKeeps_pmbText

theorem Shaped.execMfrPhaseCmd {o} (h : Shaped s) : Answers (execMfrPhaseCmd o s) :=
  h.runs fun _ h => h.pmb { write := .some fun _ _ _ h => .take h.phaseCommand }

theorem Shaped.execMfrPhaseCount {o} (h : Shaped s) : Answers (execMfrPhaseCount o s) :=
  h.runs fun _ h => h.pmb { read := readKeeps_rWord }

theorem Shaped.execMfrBellowsCount {o} (h : Shaped s) : Answers (execMfrBellowsCount o s) :=
  h.runs fun _ h => h.pmb { read := readKeeps_rWord }

theorem Shaped.execMfrLatchClear {o} (h : Shaped s) : Answers (execMfrLatchClear o s) :=
  h.runs fun _ h => h.pmb { write := .some fun _ _ _ h => .some h.set }

theorem Shaped.execMfrRefInForce {o} (h : Shaped s) : Answers (execMfrRefInForce o s) :=
  h.runs fun _ h => h.pmb { read := readKeeps_rWord }

theorem Shaped.execMfrTbc {o} (h : Shaped s) : Answers (execMfrTbc o s) :=
  h.runs fun _ h => h.pmb { read := .some fun _ _ h => h }

theorem Shaped.execMfrFaultLog {o} (h : Shaped s) : Answers (execMfrFaultLog o s) :=
  h.runs fun _ h => h.pmb {
    read := .some fun s r h => by
      split
      · exact h
      · exact h.freeBytes }

theorem Shaped.execAlertResponse {q} (h : Shaped s) : Answers (execAlertResponse q s) :=
  h.runs fun _ h => .ite h.pmbAnswer.unalert h

theorem Shaped.execPmbusUnsupported {o} (h : Shaped s) : Answers (execPmbusUnsupported o s) :=
  h.runs fun _ h => h.pmb {}

theorem Shaped.execPmbusSclTimeout {q} (h : Shaped s) : Answers (execPmbusSclTimeout q s) := h.runs fun _ h => h.frame

/-! `Machine/Events.lean` keeps the shape. -/

theorem Shaped.forwardFrom {n} (h : Shaped s) : Shaped (s.forwardFrom n) := .ite h.frame.chElement h.frame

theorem Shaped.execChannelForward {g} (h : Shaped s) : Answers (execChannelForward g s) := by
  refine h.runsEver fun s h => ?_
  split
  · exact h.forwardFrom
  · exact h

theorem Shaped.execDelayElementFire {n} (h : Shaped s) : Answers (execDelayElementFire n s) :=
  h.runsEver fun _ h => .ite (.ite h.set.chanOut h.set) h

theorem Shaped.execOneShotEnd {n} (h : Shaped s) : Answers (execOneShotEnd n s) := h.runsEver fun _ h => .ite h.set h

theorem Shaped.fireConsumer {k} (h : Shaped s) : Shaped (s.fireConsumer k) := .ite h.consumerEvent h.set

theorem Shaped.execConsumerFire {w k} (h : Shaped s) : Answers (execConsumerFire w k s) :=
  h.runs fun _ h => h.asWrite fun _ h => h.fireConsumer

theorem Shaped.evfSwitch (h : Shaped s) : Shaped s.evfSwitch :=
  .fire (.set (.set (.each (.frame (h.each fun _ _ h => h.forwardFrom)) fun _ _ h => h.set.set)))

theorem Shaped.evfGo (h : Shaped s) : Shaped s.evfGo := .ite h.set h.set

theorem Shaped.execEvfCommitGo {w} (h : Shaped s) : Answers (execEvfCommitGo w s) :=
  h.runs fun _ h => h.asWrite fun _ h => h.evfGo

theorem Shaped.evfChecked (h : Shaped s) : Shaped s.evfChecked := by
  unfold State.evfChecked
  dsimp only
  split
  · exact h.set.set.setb.set
  · exact .ite h.set.set.set.set h.set.set.set.evfSwitch

theorem Shaped.execEvfCommitCheck (h : Shaped s) : Answers (execEvfCommitCheck s) :=
  h.runs fun _ h => .ite h.evfChecked h

theorem Shaped.evioTo {k lvl} (h : Shaped s) : Shaped (s.evioTo k lvl) := .ite h h.setb.emit

theorem Shaped.setPulse {k b} (h : Shaped s) : Shaped (s.setPulse k b) := h.frame

theorem Shaped.execEvioInputEdge {k lvl} (h : Shaped s) : Answers (execEvioInputEdge k lvl s) :=
  h.runsEver fun _ h => .ite (h.when fun _ h => h.setb) (.ite h.setb.fire h.setb)

theorem Shaped.execEvioOutput {k} (h : Shaped s) : Answers (execEvioOutput k s) :=
  h.runsEver fun _ h => .ite (.ite h.takeEvent (.ite h.takeEvent.evioTo h.takeEvent.evioTo.setPulse)) h

theorem Shaped.execEvioPulseEnd {k} (h : Shaped s) : Answers (execEvioPulseEnd k s) :=
  h.runsEver fun _ h => .ite h.setPulse.evioTo h

theorem Shaped.evioDrive {k was} (h : Shaped s) : Shaped (s.evioDrive k was) :=
  .ite (.ite h.setPulse h.setPulse.drawn.evioTo) (.ite h.evioTo h.evioTo)

theorem Shaped.evioWrite {k v} (h : Shaped s) : Shaped (s.evioWrite k v) :=
  .ite h.plainWrite (.ite h.plainWrite.evioDrive (.ite h.plainWrite.drawn.setPulse.setb h.plainWrite))

theorem Shaped.evfWrite {a v} (h : Shaped s) : Shaped (s.evfWrite a v) :=
  .ite (.ite h.evfGo h) (.ite h.fireConsumer (.ite h.evioWrite (.ite h.set (.ite (.ite (.set
    (h.when fun _ h => h.set)) (.wr (h.when fun _ h => h.set))) (.ite (.ite h.set h.plainWrite) (.ite
    (h.each fun _ _ h => h.set) h.plainWrite))))))

/-! `Machine/Icu.lean` keeps the shape. -/

theorem Shaped.icuLock (h : Shaped s) : Shaped s.icuLock := by
  unfold State.icuLock
  split
  · exact h.set.set.set
  · exact h.set.set

theorem Shaped.execIcuCommitLock {w} (h : Shaped s) : Answers (execIcuCommitLock w s) :=
  h.runs fun _ h => h.asWrite fun _ h => h.icuLock

theorem Shaped.sourceEdge {n} (h : Shaped s) : Shaped (s.sourceEdge n) := by
  unfold State.sourceEdge
  split
  · exact .ite h.takeEvent.icuRaise h
  · exact .ite h.icuRaise h

theorem Shaped.execIcuSourceEdge {src} (h : Shaped s) : Answers (execIcuSourceEdge src s) :=
  h.runs fun _ h => h.sourceEdge

theorem Shaped.icuSet {i v} (h : Shaped s) : Shaped (s.icuSet i v) := h.each fun _ _ h => h.setBit

theorem Shaped.execIcuSoftwareSet {w i v} (h : Shaped s) : Answers (execIcuSoftwareSet w i v s) :=
  h.runs fun _ h => h.asWrite fun _ h => h.icuSet

theorem Shaped.slotWrite {p sl v} (h : Shaped s) : Shaped (s.slotWrite p sl v) :=
  .ite h.set (.slotReady (.ite (.ite h.plainWrite.set h.plainWrite.modBank.set)
    (.ite h.plainWrite.set.modCore h.plainWrite)))

theorem Shaped.execSlotEnable {w p sl} (h : Shaped s) : Answers (execSlotEnable w p sl s) :=
  h.runs fun _ h => h.asWrite fun _ h => h.slotWrite

theorem Shaped.execDozeWake {p} (h : Shaped s) : Answers (execDozeWake p s) := h.runs fun _ h => .ite h.set h

theorem Shaped.icuWrite {a v} (h : Shaped s) : Shaped (s.icuWrite a v) :=
  .ite (.ite h.icuLock h) (.ite h.icuSet (.ite h.plainWrite.set (.ite h.plainWrite.judgeIdle h.plainWrite)))

theorem Shaped.drvWrite {p a v} (h : Shaped s) : Shaped (s.drvWrite p a v) :=
  .ite h.slotWrite (.ite h.plainWrite.showCore (.ite h.plainWrite.judgeIdle h.plainWrite))

/-! `Machine/Micro.lean` keeps the shape. -/

theorem Shaped.setUcDig {p half d} (h : Shaped s) : Shaped (s.setUcDig p half d) := h.frame

theorem Shaped.setUcValid {p half b} (h : Shaped s) : Shaped (s.setUcValid p half b) := .setb (.ite h.setb h.setb)

theorem Shaped.setUcVer {p half v} (h : Shaped s) : Shaped (s.setUcVer p half v) := .ite h.set h.set

theorem Shaped.ucFill {p half ws} (h : Shaped s) : Shaped (s.ucFill p half ws) := h.each fun _ _ h => h.setUcWord

theorem Shaped.ucLoad {p half src n} (h : Shaped s) : Shaped (s.ucLoad p half src n) := by
  unfold State.ucLoad
  extract_lets r
  have hr : Shaped r.2 := .foldl_snd h fun a i h => by
    split
    · exact h
    · refine .ite_snd ?_ h
      split <;> rename_i e <;> exact h.readEcc.of_eq e
  split
  · exact hr.set
  · exact .ite hr.ucFill.setUcDig.setUcVer.setUcValid.set hr.ucFill.setUcDig.set

theorem Shaped.ucVerify {p half good} (h : Shaped s) (hgood : ∀ s, Shaped s → Shaped (good s)) :
    Shaped (s.ucVerify p half good) := by
  unfold State.ucVerify
  exact .ite (.set (hgood _ h)) h.setUcValid.set.set

theorem Shaped.ucCopy {p half} (h : Shaped s) : Shaped (s.ucCopy p half) := by
  unfold State.ucCopy
  exact .ucVerify (.setUcVer (.setUcDig (h.each fun _ _ h => h.setUcWord))) fun _ h => h.setUcValid

theorem Shaped.ucBusy {p op half} (h : Shaped s) : Shaped (s.ucBusy p op half) := h.set.frame

theorem Shaped.ucCommand {p op half} (h : Shaped s) : Shaped (s.ucCommand p op half) :=
  .ite h.set (.ite (h.when fun _ h => h.set) (.ite h.set (.ite (.ite h.set h.setUcValid.ucBusy) (.ite h.ucBusy (.ite
    (.ite h.set h.ucBusy) (.ite h.set (.ite h.set h.set.frame)))))))

theorem Shaped.execUcLoad {w p half} (h : Shaped s) : Answers (execUcLoad w p half s) :=
  h.runs fun _ h => h.asWrite fun _ h => h.ucCommand

theorem Shaped.execUcVerify {w p half} (h : Shaped s) : Answers (execUcVerify w p half s) :=
  h.runs fun _ h => h.asWrite fun _ h => h.ucCommand

theorem Shaped.execUcSwitch {w p half} (h : Shaped s) : Answers (execUcSwitch w p half s) :=
  h.runs fun _ h => h.asWrite fun _ h => h.ucCommand

theorem Shaped.execUcCopy {w p half} (h : Shaped s) : Answers (execUcCopy w p half s) :=
  h.runs fun _ h => h.asWrite fun _ h => h.ucCommand

theorem Shaped.ucDone {p} (h : Shaped s) : Shaped (s.ucDone p) := by
  unfold State.ucDone
  split
  · exact h
  · exact .ite h.set.frame.ucLoad (.ite (h.set.frame.ucVerify fun _ h => h) h.set.frame.ucCopy)

theorem Shaped.execUcCommandDone {p} (h : Shaped s) : Answers (execUcCommandDone p s) := h.runs fun _ h => h.ucDone

theorem Shaped.ucTake {p} (h : Shaped s) : Shaped (s.ucTake p) := by
  unfold State.ucTake
  dsimp only
  split
  · exact h
  · exact .ite h h.frame.set.set.set

theorem Shaped.execUcSwitchTake {p} (h : Shaped s) : Answers (execUcSwitchTake p s) := h.runs fun _ h => h.ucTake

theorem Shaped.execUcFetchFault {p a ill} (h : Shaped s) : Answers (execUcFetchFault p a ill s) :=
  h.runs fun _ h => .ite h h.ucFault

theorem Shaped.patchData {p v} (h : Shaped s) : Shaped (s.patchData p v) := .ite h h.setUcWord.set

theorem Shaped.execPatchWrite {w p v} (h : Shaped s) : Answers (execPatchWrite w p v s) :=
  h.runs fun _ h => h.asWrite fun _ h => h.patchData

theorem Shaped.execPatchLock {w p} (h : Shaped s) : Answers (execPatchLock w p s) :=
  h.runs fun _ h => h.asWrite fun _ h => h.set

theorem Shaped.ucWrite {p a v} (h : Shaped s) : Shaped (s.ucWrite p a v) :=
  .ite h.ucCommand (.ite h.patchData (.ite (.ite h h.plainWrite) h.plainWrite))

/-! `Machine/Memsys.lean` keeps the shape. -/

theorem Shaped.execLongOpComplete {p u} (h : Shaped s) : Answers (execLongOpComplete p u s) := by
  refine h.runs fun s h => ?_
  split
  · exact h.finishLong
  · exact h

theorem Shaped.execStoreBufferRetire {p} (h : Shaped s) : Answers (execStoreBufferRetire p s) :=
  h.runs fun _ h => h.retireStore

theorem Shaped.execMergeBufferFlush {p} (h : Shaped s) : Answers (execMergeBufferFlush p s) :=
  h.runs fun _ h => .ite h.flushMerge.takeBoundary h.flushMerge

theorem Shaped.injWrite {p v} (h : Shaped s) : Shaped (s.injWrite p v) := .ite h h.plainWrite

theorem Shaped.execMemInject {w p v} (h : Shaped s) : Answers (execMemInject w p v s) :=
  h.runs fun _ h => h.asWrite fun _ h => h.injWrite

/-! `Machine/Rings.lean` keeps the shape. -/

theorem Shaped.modSq {q f} (h : Shaped s) : Shaped (s.modSq q f) := h.frame

theorem Shaped.modCq {c f} (h : Shaped s) : Shaped (s.modCq c f) := h.frame

theorem Shaped.setDb {o v} (h : Shaped s) : Shaped (s.setDb o v) := h.frame

theorem Shaped.sqStop {q code} (h : Shaped s) : Shaped (s.sqStop q code) := .ite h h.set.set.fireHif

theorem Shaped.sqDoorbell {q v} (h : Shaped s) : Shaped (s.sqDoorbell q v) :=
  .ite h.setDb.fire.modSq h.setDb.fire.sqStop

theorem Shaped.execSqDoorbell {q v} (h : Shaped s) : Answers (execSqDoorbell q v s) :=
  h.runs fun _ h => h.hostMem fun _ h => h.sqDoorbell

theorem Shaped.cqDoorbell {c v} (h : Shaped s) : Shaped (s.cqDoorbell c v) := .ite h.setDb.modCq h.setDb.set.fireHif

theorem Shaped.trDoorbell {t v} (h : Shaped s) : Shaped (s.trDoorbell t v) := .ite h.setDb.modTr h.setDb.set.fireHif

theorem Shaped.execTelemetryHeadDoorbell {t v} (h : Shaped s) : Answers (execTelemetryHeadDoorbell t v s) :=
  h.runs fun _ h => h.hostMem fun _ h => h.trDoorbell

theorem Shaped.evDoorbell {v} (h : Shaped s) : Shaped (s.evDoorbell v) := .ite h.setDb.frame h.setDb.set.fireHif

theorem Shaped.execEventHeadDoorbell {v} (h : Shaped s) : Answers (execEventHeadDoorbell v s) :=
  h.runs fun _ h => h.hostMem fun _ h => h.evDoorbell

theorem Shaped.postCompl {c} (h : Shaped s) : Shaped (s.postCompl c) := by
  unfold State.postCompl
  dsimp only
  split
  · exact h
  · exact .ite h (.ite h.modCq.emit.set.set.signal h.modCq.emit.set.set)

theorem Shaped.evLose {r} (h : Shaped s) : Shaped (s.evLose r) := by
  unfold State.evLose
  exact h.frame.fireHif

theorem Shaped.evWrite {r} (h : Shaped s) : Shaped (s.evWrite r) := .ite h.evLose h.emit.frame.signal

theorem Shaped.execEventRecordWrite (h : Shaped s) : Answers (execEventRecordWrite s) := by
  refine h.runs fun s h => ?_
  dsimp only
  refine .ite h ?_
  split
  · exact h.frame.evWrite
  · exact h.frame.evWrite
  · exact h

theorem Shaped.evPostCommand (h : Shaped s) : Shaped s.evPostCommand := h.evPost

theorem Shaped.execEventPost {w} (h : Shaped s) : Answers (execEventPost w s) :=
  h.runs fun _ h => h.asWrite fun _ h => h.evPostCommand

theorem Shaped.slabDone {t} (h : Shaped s) : Shaped (s.slabDone t) := .ite h.modTr.signal h.modTr

theorem Shaped.trStatus {t} (h : Shaped s) : Shaped (s.trStatus t) := h.emit

theorem Shaped.trNext {t} (h : Shaped s) : Shaped (s.trNext t) :=
  .when (.modTr (.ite h.drawn.drawn.emit.modTr.slabDone h)) fun _ h => h.trStatus

theorem Shaped.trPut {t half ws} (h : Shaped s) : Shaped (s.trPut t half ws) :=
  .ite (.slabDone (.trStatus (.modTr (.emit (.ite h.trNext h))))) (.trStatus (.modTr (.emit (.ite h.trNext h))))

theorem Shaped.trDrop {t} (h : Shaped s) : Shaped (s.trDrop t) := h.modTr.bump.icuRaise

theorem Shaped.trAbandon {t} (h : Shaped s) : Shaped (s.trAbandon t) := .ite h h.modTr.trDrop

theorem Shaped.telSend {t} (h : Shaped s) : Shaped (s.telSend t) :=
  .ite (.modTr (.ite h.modTr.trPut h.modTr.trDrop)) (.ite h.modTr.trPut h.modTr.trDrop)

theorem Shaped.execTelemetryRecord {t} (h : Shaped s) : Answers (execTelemetryRecord t s) :=
  h.runs fun _ h => .ite h.telSend h

theorem Shaped.dumpStart (h : Shaped s) : Shaped s.dumpStart := .ite h.set.frame h

theorem Shaped.capArm (h : Shaped s) : Shaped s.capArm := .ite h.set.set.frame h

theorem Shaped.execCaptureArm {w} (h : Shaped s) : Answers (execCaptureArm w s) :=
  h.runs fun _ h => h.asWrite fun _ h => h.capArm

theorem Shaped.execCaptureDump {w} (h : Shaped s) : Answers (execCaptureDump w s) :=
  h.runs fun _ h => h.asWrite fun _ h => h.dumpStart

theorem Shaped.execCaptureTrigger {k} (h : Shaped s) : Answers (execCaptureTrigger k s) :=
  h.runs fun _ h => h.capTrigger

theorem Shaped.capFreeze (h : Shaped s) : Shaped s.capFreeze := by
  unfold State.capFreeze
  extract_lets k t s1 s2 s3
  have h3 : Shaped s3 := h.set.set.evPost.fireHif.each fun _ _ h => h.trAbandon
  exact .ite h3.dumpStart h3

theorem Shaped.execCaptureFreeze (h : Shaped s) : Answers (execCaptureFreeze s) :=
  h.runs fun _ h => .ite h.capFreeze h

theorem Shaped.dumpTicks {fs} (h : Shaped s) : Shaped (s.dumpTicks fs).2 := .foldl_snd h fun _ _ h => h.frameWords

theorem Shaped.dumpEnd (h : Shaped s) : Shaped s.dumpEnd := h.set.frame.fireHif

theorem Shaped.dumpSend {i} (h : Shaped s) : Shaped (s.dumpSend i) :=
  .ite h.dumpEnd (.ite h (.ite h.dumpTicks.trPut.frame.dumpEnd h.dumpTicks.trPut.frame))

theorem Shaped.execDumpRecord (h : Shaped s) : Answers (execDumpRecord s) := by
  refine h.runs fun s h => ?_
  split
  · exact h
  · exact h.dumpSend

/-! `Machine/HostQueue.lean` keeps the shape. -/

theorem Shaped.complete {q status result} (h : Shaped s) : Shaped (s.complete q status result) := by
  unfold State.complete
  dsimp only
  split
  · exact h
  · exact h.modSq.modCq

theorem Shaped.settleN {q n} (h : Shaped s) : Shaped (s.settleN q n) := by
  induction n generalizing s with
  | zero => exact h
  | succ n ih =>
    rw [State.settleN]
    split
    · exact h
    · exact .ite h (ih h.complete)

theorem Shaped.settle (h : Shaped s) : Shaped s.settle := h.each fun _ _ h => h.settleN

theorem Shaped.execDescriptorFetch {q f} (h : Shaped s) : Answers (execDescriptorFetch q f s) := by
  refine h.runs fun s h => ?_
  dsimp only
  refine .ite h ?_
  split
  · exact h.emit.sqStop
  · exact h.emit.set.modSq.settle

theorem Shaped.executed {q d} (h : Shaped s) : Shaped (s.executed q d) := h.set.set.modSq

theorem Shaped.turn {q} (h : Shaped s) : Shaped (s.turn q) := .ite h h.frame

theorem Shaped.accessGuard {e act d} (h : Shaped s) (hact : ∀ d s, Shaped s → Shaped (act d s).2) :
    Shaped (accessGuard e act d s).2 := by
  unfold Machine.accessGuard
  split
  · exact hact _ _ h
  · exact h
  · exact h
  · exact hact _ _ h

theorem Shaped.engine {q f act} (h : Shaped s) (hact : ∀ a s, Shaped s → Shaped (act a s).2) : Shaped (s.engine q f act) := by
  unfold State.engine
  dsimp only
  split
  · exact h.settle
  · exact .ite (.settle (.complete (.turn (.ite (hact _ _ h.settle) (.executed (hact _ _ h.settle)))))) h.settle

theorem Shaped.execHostNop {q} (h : Shaped s) : Answers (execHostNop q s) := h.runs fun _ h => h.engine fun _ _ h => h

theorem Shaped.execCapture {q e} (h : Shaped s) : Answers (execCapture q e s) :=
  h.runs fun _ h => h.engine fun _ _ h => h.accessGuard fun _ _ h => h.fireConsumer

theorem Shaped.execCapDump {q e} (h : Shaped s) : Answers (execCapDump q e s) :=
  h.runs fun _ h => h.engine fun _ _ h => h.accessGuard fun _ _ h => h.dumpStart

theorem Shaped.execCapRearm {q e} (h : Shaped s) : Answers (execCapRearm q e s) :=
  h.runs fun _ h => h.engine fun _ _ h => h.accessGuard fun _ _ h => h.capArm

theorem Shaped.fwDeliver {q d} (h : Shaped s) : Shaped (s.fwDeliver q d) :=
  .turn (.fireHif (.modSq (.set (h.each fun _ _ h => h.engineWrite))))

theorem Shaped.execFwDescriptor {q} (h : Shaped s) : Answers (execFwDescriptor q s) := by
  refine h.runs fun s h => ?_
  dsimp only
  split
  · exact h.settle
  · exact .ite h.settle.fwDeliver h.settle

theorem Shaped.fwComplete {v} (h : Shaped s) : Shaped (s.fwComplete v) := by
  unfold State.fwComplete
  dsimp only
  split
  · exact .ite h.executed.complete.settle h
  · exact h

theorem Shaped.execFwCompletion {w v} (h : Shaped s) : Answers (execFwCompletion w v s) :=
  h.runs fun _ h => h.asWrite fun _ h => h.fwComplete

theorem Shaped.execCompletionPost {c} (h : Shaped s) : Answers (execCompletionPost c s) :=
  h.runs fun _ h => h.postCompl.settle

theorem Shaped.execCqHeadDoorbell {q v} (h : Shaped s) : Answers (execCqHeadDoorbell q v s) :=
  h.runs fun _ h => h.hostMem fun _ h => h.cqDoorbell.settle

/-! `Machine/Hif.lean` keeps the shape. -/

/-- A sparse map whose values change or fall away, none to the default, stays in its canonical form. -/
theorem spWfFrom_filterMap {α : Type} [DecidableEq α] {d : Nat → α} {f : Nat × α → Option (Nat × α)}
    (hf : ∀ e e', f e = some e' → e'.1 = e.1 ∧ e'.2 ≠ d e'.1) {lo : Nat} {m : List (Nat × α)} (hm : spWfFrom d lo m = true) :
    spWfFrom d lo (m.filterMap f) = true := by
  induction m generalizing lo with
  | nil => rfl
  | cons e m ih =>
    simp only [spWfFrom, Bool.and_eq_true, decide_eq_true_eq] at hm
    obtain ⟨⟨hlo, -⟩, hm⟩ := hm
    cases he : f e with
    | none =>
      rw [List.filterMap_cons_none he]
      exact spWfFrom_mono (by omega) (ih hm)
    | some e' =>
      obtain ⟨hk, hv⟩ := hf e e' he
      rw [List.filterMap_cons_some he]
      simp only [spWfFrom, Bool.and_eq_true, decide_eq_true_eq]
      exact ⟨⟨hk ▸ hlo, hv⟩, hk ▸ ih hm⟩

theorem Shaped.restore {p} (h : Shaped s) : Shaped (s.restore p) where
  __ := h
  regs := spWfFrom_filterMap (fun e e' he => by
    dsimp only at he
    split at he
    · cases he
    · rename_i hne
      cases he
      exact ⟨rfl, hne⟩) h.regs

theorem Shaped.refit (h : Shaped s) : Shaped s.refit := by
  unfold State.refit
  extract_lets keep lost s1 s2
  have h1 : Shaped s1 := h.each fun _ _ h => h.setb
  have h2 : Shaped s2 := h1.each fun _ _ h => h.trAbandon.modTr
  exact .ite h2 h2.fireHif

theorem Shaped.hifLock (h : Shaped s) : Shaped s.hifLock := by
  unfold State.hifLock
  split
  · exact h.set.set.set.refit
  · exact h.set.set

theorem Shaped.execHifCommitLock {w} (h : Shaped s) : Answers (execHifCommitLock w s) :=
  h.runs fun _ h => h.asWrite fun _ h => h.hifLock

theorem Shaped.linkUpFire (h : Shaped s) : Shaped s.linkUpFire := .ite h.frame.fireHif h

theorem Shaped.execLinkRateChange {gen width} (h : Shaped s) : Answers (execLinkRateChange gen width s) :=
  h.runs fun _ h => .ite h h.set.set.refit

theorem Shaped.execLinkUp {gen width} (h : Shaped s) : Answers (execLinkUp gen width s) :=
  h.runs fun _ h => .ite h h.set.set.set.linkUpFire.signalPending

theorem Shaped.hostClear (h : Shaped s) : Shaped s.hostClear := .ite h.restore.frame.set h.restore.frame

theorem Shaped.hostReset {kind bytes} (h : Shaped s) : Shaped (s.hostReset kind bytes) := by
  unfold State.hostReset
  have h1 := h.each (l := whichN 16 (nbit s.lostQueues)) fun _ q h => h.set (f := HIF_QHIST.LOST q) (v := 1)
  exact .fireHif (.frame (.mrPost (.mramCount (.ite h1.hostClear.frame.set.set.set h1.hostClear.frame))))

theorem Shaped.execHostInterfaceReset {kind bytes} (h : Shaped s) : Answers (execHostInterfaceReset kind bytes s) :=
  h.runs fun _ h => h.hostReset

theorem Shaped.setPower {d3} (h : Shaped s) : Shaped (s.setPower d3) := h.frame.signalPending

theorem Shaped.execD3hot {on} (h : Shaped s) : Answers (execD3hot on s) := h.runs fun _ h => h.setPower

theorem Shaped.devCtlWrite {w clr} (h : Shaped s) : Shaped (s.devCtlWrite w clr) := .ite h.drawn.hostReset h.frame

theorem Shaped.cfgWrite {o v be} (h : Shaped s) : Shaped (s.cfgWrite o v be) := by
  unfold State.cfgWrite
  dsimp only
  split
  · exact h.frame.signalPending
  · exact h.frame
  · exact h.frame
  · exact h.frame
  · exact .ite h.setPower (.ite h.setPower h)
  · exact h.devCtlWrite
  · exact h.frame
  · exact h.frame
  · exact h.frame
  · exact h.frame.signalPending
  · exact h.frame
  · exact h.frame
  · exact h.frame
  · exact h.frame
  · exact h.frame
  · exact h.frame
  · exact h

theorem Shaped.poisonSeen (h : Shaped s) : Shaped s.poisonSeen := h.frame

theorem Shaped.poisoned (h : Shaped s) : Shaped s.poisoned := h.aerSet.poisonSeen

theorem Shaped.sqCtlWrite {q v} (h : Shaped s) : Shaped (s.sqCtlWrite q v) :=
  .ite h.plainWrite.set.set.set h.plainWrite

theorem Shaped.execQueueRestart {w q} (h : Shaped s) : Answers (execQueueRestart w q s) :=
  h.runs fun _ h => h.asWrite fun _ h => h.sqCtlWrite.sqCtlWrite

theorem Shaped.restartRing {x} (h : Shaped s) : Shaped (s.restartRing x) := by
  unfold State.restartRing
  split
  · exact h.set.settle
  · exact h.set
  · exact h.set

theorem Shaped.execRingRestart {w x} (h : Shaped s) : Answers (execRingRestart w x s) :=
  h.runs fun _ h => h.asWrite fun _ h => h.restartRing

theorem Shaped.hpolWrite {v} (h : Shaped s) : Shaped (s.hpolWrite v) := .ite (.set (.ite h h.set)) (.ite h h.set)

theorem Shaped.execHostWorldLock {w} (h : Shaped s) : Answers (execHostWorldLock w s) :=
  h.runs fun _ h => h.asWrite fun _ h => h.hpolWrite

theorem Shaped.hifCtlWrite {v} (h : Shaped s) : Shaped (s.hifCtlWrite v) := h.plainWrite.linkUpFire

theorem Shaped.capCtlWrite {v} (h : Shaped s) : Shaped (s.capCtlWrite v) :=
  .ite (.dumpStart (.ite h.capArm h)) (.ite h.capArm h)

theorem Shaped.hifWrite {a v} (h : Shaped s) : Shaped (s.hifWrite a v) :=
  .ite (.ite h.hifLock h) (.ite h.hpolWrite (.ite h.hifCtlWrite (.ite h.capCtlWrite (.ite (.ite h.evPostCommand h)
    (.ite h.fwComplete (.ite h.sqCtlWrite (.ite h.plainWrite.settle h.plainWrite)))))))

theorem Shaped.bar2Write {o v} (h : Shaped s) : Shaped (s.bar2Write o v) :=
  .ite h.sqDoorbell (.ite h.cqDoorbell.settle (.ite h.trDoorbell (.ite h.evDoorbell (.ite h.frame.signalPending h))))

/-! `Machine/Image.lean` keeps the shape. -/

theorem Shaped.copyFw {p l} (h : Shaped s) : Shaped (s.copyFw p l) := h.each fun _ _ h => h.writeBlock

theorem Shaped.copyData {l} (h : Shaped s) : Shaped (s.copyData l) := h.each fun _ _ h => h.writeBlock

theorem Shaped.loadPatches {l} (h : Shaped s) : Shaped (s.loadPatches l) :=
  h.each fun _ _ h => .set (h.each fun _ _ h => .each (h.set.each fun _ _ h => h.patchData) fun _ _ h => h.ucWrite)

theorem Shaped.sramPlace {n} (h : Shaped s) : Shaped (s.sramPlace n).2 := h.drawn

theorem Shaped.loadStores {l} (h : Shaped s) : Shaped (s.loadStores l).2 := by
  unfold State.loadStores
  split
  · exact h
  · refine .foldl_snd h.sramPlace.writeBlock fun _ _ h => ?_
    exact (((h.each fun _ _ h => h.wr).wr.set.set.ucCommand.ucDone).ucCommand.ucDone).ucCommand.ucTake

/-! `Machine/Nvc.lean` keeps the shape. -/

theorem Shaped.flProgram {off bs} (h : Shaped s) : Shaped (s.flProgram off bs) := h.setBytes

theorem Shaped.flErase {off n} (h : Shaped s) : Shaped (s.flErase off n) := h.setBytes

theorem Shaped.setFill {half v} (h : Shaped s) : Shaped (s.setFill half v) := h.frame.set

theorem Shaped.jfull (h : Shaped s) : Shaped s.jfull := .ite (.ite h h.set.icuRaise) h.set

theorem Shaped.jappended {half r} (h : Shaped s) : Shaped (s.jappended half r) :=
  .jfull (.ite (.set (.set (.ite h.setFill.wr.wr h.setFill.wr))) (.ite h.setFill.wr.wr h.setFill.wr))

theorem Shaped.jerased {off n} (h : Shaped s) : Shaped (s.jerased off n) :=
  .jfull (h.each fun _ _ h => .ite h.setFill.wr.wr h.setFill.wr.wr.set)

theorem Shaped.progBytes {o n bs} (h : Shaped s) : Shaped (s.progBytes o n bs) := .flProgram (.ite h h.scrub)

theorem Shaped.flashServe {a} (h : Shaped s) : Shaped (s.flashServe a) := by
  unfold State.flashServe
  dsimp only
  refine .ite ?_ h
  split
  · exact h.progBytes.frame
  · exact h

theorem Shaped.flashRun {o} (h : Shaped s) : Shaped (s.flashRun o).2 := by
  unfold State.flashRun
  dsimp only
  refine .ite_snd h (.ite_snd (.ite_snd h.writeBlock h) ?_)
  refine .ite_snd ?_ ?_
  · split
    · exact h.progBytes
    · exact h
  · refine .ite_snd h.flErase.jerased ?_
    split
    · exact h
    · exact h.scrub.flProgram.jappended

theorem Shaped.flashStart {o} (h : Shaped s) : Shaped (s.flashStart o) :=
  .ite (h.set.frame (hn := rfl)) (h.set.frame (hn := rfl))

theorem Shaped.flashCommand {op rbuf half} (h : Shaped s) : Shaped (s.flashCommand op rbuf half) :=
  .ite h.set (.ite h h.flashStart)

theorem Shaped.execFlashRead {w} (h : Shaped s) : Answers (execFlashRead w s) :=
  h.runs fun _ h => h.asWrite fun _ h => h.flashCommand

theorem Shaped.execFlashProgram {w rbuf} (h : Shaped s) : Answers (execFlashProgram w rbuf s) :=
  h.runs fun _ h => h.asWrite fun _ h => h.flashCommand

theorem Shaped.execFlashErase {w} (h : Shaped s) : Answers (execFlashErase w s) :=
  h.runs fun _ h => h.asWrite fun _ h => h.flashCommand

theorem Shaped.execJappend {w half} (h : Shaped s) : Answers (execJappend w half s) :=
  h.runs fun _ h => h.asWrite fun _ h => h.flashCommand

theorem Shaped.execFlashOpDone {err} (h : Shaped s) : Answers (execFlashOpDone err s) := by
  refine h.runs fun s h => ?_
  dsimp only
  split
  · exact h
  · exact .ite h (.icuRaise (.set (.ite_snd (.flashRun (h.set.frame (hn := rfl))) (h.set.frame (hn := rfl)))))

theorem Shaped.otpShadow (h : Shaped s) : Shaped s.otpShadow :=
  .set (.wr (.wr (h.each fun _ _ h => .ite h.wr (.ite h.drawn.wr h.wr))))

theorem Shaped.otpCommand {op word} (h : Shaped s) : Shaped (s.otpCommand op word) :=
  .ite h.set (.ite h (h.set.frame (hn := by split <;> rfl)))

theorem Shaped.execOtpProg {w word} (h : Shaped s) : Answers (execOtpProg w word s) :=
  h.runs fun _ h => h.asWrite fun _ h => h.otpCommand

theorem Shaped.execOtpAdvance {w} (h : Shaped s) : Answers (execOtpAdvance w s) :=
  h.runs fun _ h => h.asWrite fun _ h => h.otpCommand

theorem Shaped.setFuse {i v} (h : Shaped s) : Shaped (s.setFuse i v) where
  __ := h
  fuse := (modNth_length _ _ _).trans h.fuse

theorem Shaped.otpProgram {i d ok} (h : Shaped s) : Shaped (s.otpProgram i d ok).2 :=
  .ite_snd h (.ite_snd h (.ite_snd h.setFuse h.drawn.setFuse.frame))

theorem Shaped.otpAdvance (h : Shaped s) : Shaped s.otpAdvance.2 := .ite_snd h h.setFuse

theorem Shaped.execOtpOpDone {ok} (h : Shaped s) : Answers (execOtpOpDone ok s) := by
  refine h.runs fun s h => ?_
  dsimp only
  split
  · exact h
  · exact .icuRaise (.set (.ite_snd (.otpProgram (h.set.frame (hn := rfl))) (.otpAdvance (h.set.frame (hn := rfl)))))

theorem Shaped.mrWrite (h : Shaped s) : Shaped s.mrWrite := by
  unfold State.mrWrite
  dsimp only
  split
  · exact h
  · exact h.setBytes.frame.set.wr.icuRaise

theorem Shaped.execMramRecordWrite (h : Shaped s) : Answers (execMramRecordWrite s) :=
  h.runs fun _ h => .ite h h.mrWrite

theorem Shaped.mrPostCommand (h : Shaped s) : Shaped s.mrPostCommand := h.mrPost

theorem Shaped.execMramPost {w} (h : Shaped s) : Answers (execMramPost w s) :=
  h.runs fun _ h => h.asWrite fun _ h => h.mrPostCommand

theorem Shaped.execRunSecond (h : Shaped s) : Answers (execRunSecond s) := h.runs fun _ h => .ite h.mramCount h

theorem Shaped.flashCut (h : Shaped s) : Shaped s.flashCut := by
  unfold State.flashCut
  dsimp only
  split
  · exact h
  · refine .ite h ?_
    refine .ite ?_ ?_
    · split
      · exact h.each fun _ _ h => h.drawn.setByte
      · exact h
    · refine .ite (h.each fun _ _ h => h.drawn.setByte) (.ite ?_ h)
      split
      · exact h.each fun _ _ h => h.drawn.setByte
      · exact h

theorem Shaped.nvcWrite {a v} (h : Shaped s) : Shaped (s.nvcWrite a v) :=
  .ite h.flashCommand (.ite (.ite h.mrPostCommand h) h.plainWrite)

theorem Shaped.otpWrite {a v} (h : Shaped s) : Shaped (s.otpWrite a v) := .ite h.otpCommand h.plainWrite

/-! `Machine/Modes.lean` keeps the shape. -/

theorem Shaped.pmuRefuse {c} (h : Shaped s) : Shaped (s.pmuRefuse c) := h.set

theorem Shaped.putDue {k} (h : Shaped s) : Shaped (s.putDue k) := .ite h h.frame

theorem Shaped.holdWrite {v} (h : Shaped s) : Shaped (s.holdWrite v) :=
  .ite (.ite h.set.putDue h.pmuRefuse) (.ite (.ite h.putDue h.pmuRefuse) h.set.frame)

theorem Shaped.qexitWrite (h : Shaped s) : Shaped s.qexitWrite :=
  .ite h.pmuRefuse (.ite h.pmuRefuse (.ite h.putDue h.pmuRefuse))

theorem Shaped.emberEnter (h : Shaped s) : Shaped s.emberEnter :=
  .frame (.each (.each (h.hostReset.frame.each fun _ _ h => h.mrWrite) fun _ _ h => h.portFall) fun _ _ h => h.modMf)
    (hr := rfl) (hn := rfl)

theorem Shaped.emberWrite (h : Shaped s) : Shaped s.emberWrite := .ite h.emberEnter h.pmuRefuse

theorem Shaped.ctlAct {v} (h : Shaped s) : Shaped (s.ctlAct v) :=
  .ite (.emberWrite (.ite h.holdWrite.qexitWrite h.holdWrite)) (.ite h.holdWrite.qexitWrite h.holdWrite)

theorem Shaped.ctlWrite {v} (h : Shaped s) : Shaped (s.ctlWrite v) := .ite h.set.frame h.ctlAct

theorem Shaped.execHoldRequest {w} (h : Shaped s) : Answers (execHoldRequest w s) :=
  h.runs fun _ h => h.asWrite fun _ h => h.ctlWrite

theorem Shaped.execHoldExitRequest {w} (h : Shaped s) : Answers (execHoldExitRequest w s) :=
  h.runs fun _ h => h.asWrite fun _ h => h.ctlWrite

theorem Shaped.execQexit {w} (h : Shaped s) : Answers (execQexit w s) :=
  h.runs fun _ h => h.asWrite fun _ h => h.ctlWrite

theorem Shaped.execEmberReq {w} (h : Shaped s) : Answers (execEmberReq w s) :=
  h.runs fun _ h => h.asWrite fun _ h => h.ctlWrite

theorem Shaped.execHoldLimit (h : Shaped s) : Answers (execHoldLimit s) := h.runs fun _ h => .ite h.set.pmuFire h

theorem Shaped.execEtimerMatch (h : Shaped s) : Answers (execEtimerMatch s) :=
  h.runsEver fun _ h => .ite h.wr.pmuFire h

theorem Shaped.vmin {i mv} (h : Shaped s) : Shaped (s.vmin i mv) := h.set

theorem Shaped.supplyBack {sup mv} (h : Shaped s) : Shaped (s.supplyBack sup mv) := .ite h (.ite h.set.frame h.set)

theorem Shaped.execSupplyDip {sup mv} (h : Shaped s) : Answers (execSupplyDip sup mv s) :=
  h.runsEver fun _ h => .ite h.vmin (.ite h.vmin.supplyBack (.ite h.vmin.set.frame
    h.vmin.set.frame.set.mramCount.mrPost.evPost.setSusp.pmuFire))

theorem Shaped.dipOps (h : Shaped s) : Shaped s.dipOps := by
  unfold State.dipOps
  extract_lets s1 s2 t src s3
  have h2 : Shaped s2 := .flashResume (.ite h.evfSwitch h)
  have h3 : Shaped s3 := by
    unfold s3
    split
    · exact .flashStart (h2.set.frame (hn := rfl))
    · exact h2
  split
  · exact h3.frame (hn := rfl)
  · exact h3

theorem Shaped.heldAct (h : Shaped s) : Shaped s.heldAct := by
  unfold State.heldAct
  dsimp only
  split
  · exact h.set.frame.ctlAct
  · exact h

theorem Shaped.execDipExit (h : Shaped s) : Answers (execDipExit s) :=
  h.runs fun _ h => .ite h h.set.set.mrPost.evPost.frame.pmuFire.dipOps.heldAct

theorem Shaped.wdtWrite {v} (h : Shaped s) : Shaped (s.wdtWrite v) :=
  .ite h (.ite (.set (.set (.ite h h.set))) (.ite h h.set))

theorem Shaped.wdtKick {key} (h : Shaped s) : Shaped (s.wdtKick key) := .ite h.set h

theorem Shaped.execWatchdogEnable {w} (h : Shaped s) : Answers (execWatchdogEnable w s) :=
  h.runs fun _ h => h.asWrite fun _ h => h.wdtWrite

theorem Shaped.execWatchdogKick {w key} (h : Shaped s) : Answers (execWatchdogKick w key s) :=
  h.runs fun _ h => h.asWrite fun _ h => h.wdtKick

theorem Shaped.execWatchdogWarn (h : Shaped s) : Answers (execWatchdogWarn s) :=
  h.runs fun _ h => .ite h.set.pmuFire h

theorem Shaped.pmuWrite {a v} (h : Shaped s) : Shaped (s.pmuWrite a v) :=
  .ite h.ctlWrite (.ite h.wdtWrite (.ite h.wdtKick h.plainWrite))

theorem Shaped.otpCut (h : Shaped s) : Shaped s.otpCut := by
  unfold State.otpCut
  split
  · exact h
  · exact .ite (.ite h.drawn.setFuse h) (.ite h.drawn.otpAdvance h.drawn)

theorem Shaped.evioReset {old} (h : Shaped s) : Shaped (s.evioReset old) := h.each fun _ _ h => .ite h.drawn.set h.set

/-- The cores as after reset. -/
theorem coreShape_replicate {n : Nat} : ∀ c ∈ List.replicate n ({} : PyCore), CoreShape c := fun _ hc =>
  List.eq_of_mem_replicate hc ▸ coreShape_reset

theorem Shaped.resetK (h : Shaped s) : Shaped s.resetK where
  __ := h.flashCut.otpCut
  core := coreShape_replicate
  cores := List.length_replicate

theorem Shaped.rstInfo {k} (h : Shaped s) : Shaped (s.rstInfo k) := h.set.set.set

theorem Shaped.resetKeeper (h : Shaped s) : Shaped s.resetKeeper := by
  unfold State.resetKeeper
  extract_lets old rails s1 s2 s3 s4 s5 s6
  have h5 : Shaped s5 := h.resetK.restore.set.set.set.evioReset.rstInfo
  have h6 : Shaped s6 := .ite h5.setb (h5.each fun _ _ h => h.disarm.set)
  exact h6.frame

/-- An update that puts the rails at their reset values keeps the shape. -/
theorem Shaped.newRails (h : Shaped s) : Shaped { s with rlc := {} } where
  __ := h
  rails := List.length_replicate

theorem Shaped.resetPin {k} (h : Shaped s) : Shaped (s.resetPin k) := by
  unfold State.resetPin
  have h1 := h.resetK.restore (p := fun _ f => f.dom != .c) |>.newRails
  exact .frame (.rstInfo (.evioReset (.ite (.ite h1.frame h1.frame.set.set.set) h1.frame)))

theorem Shaped.resetCold (h : Shaped s) : Shaped s.resetCold where
  mem := h.flashCut.otpCut.mem
  regs := rfl
  flips := h.flashCut.otpCut.flips
  core := coreShape_replicate
  cores := List.length_replicate
  rails := List.length_replicate
  fuse := h.flashCut.otpCut.fuse

theorem Shaped.zeroMem (h : Shaped s) : Shaped s.zeroMem where
  __ := h
  mem := memWf_zeroMem h.mem
  flips := rfl

theorem Shaped.drainMem (h : Shaped s) : Shaped s.drainMem := h.each fun _ _ h => h.retireN.flushMerge.deliverMem

theorem Shaped.noteReset {old k} (h : Shaped s) : Shaped (s.noteReset old k) := .ite h h.frame

theorem Shaped.resetOf {k} (h : Shaped s) : Shaped (s.resetOf k) :=
  .otpShadow (.noteReset (.ite (.resetCold (.ite h.frame h)) (.ite (.resetKeeper (.ite h.frame h)) (.resetPin
    (.ite h.frame h)))))

theorem Shaped.execColdReset (h : Shaped s) : Answers (execColdReset s) := h.runsEver fun _ h => h.resetOf

theorem Shaped.execBrownOut {sup mv} (h : Shaped s) : Answers (execBrownOut sup mv s) :=
  h.runsEver fun _ h => .ite h (.ite h.resetOf (.ite h h.vmin.resetOf.set))

theorem Shaped.execResetPin (h : Shaped s) : Answers (execResetPin s) :=
  h.runsEver fun _ h => .resetOf (.ite h.zeroMem h.drainMem)

theorem Shaped.execWatchdogExpiry (h : Shaped s) : Answers (execWatchdogExpiry s) :=
  h.runs fun _ h => .ite h.drainMem.resetOf h

theorem Shaped.release {k} (h : Shaped s) : Shaped (s.release k) := .frame (.set (.ite h.zeroMem h)) (hn := rfl)

theorem Shaped.execResetRelease (h : Shaped s) : Answers (execResetRelease s) := by
  refine h.runsEver fun s h => ?_
  split
  · exact h.release
  · exact h

theorem Shaped.execEmberWake {src} (h : Shaped s) : Answers (execEmberWake src s) := by
  refine h.runsEver fun s h => .ite (.release (.frame ?_)) h
  cases src with
  | fabric k => exact h.resetOf.set
  | perst => exact h.resetOf.set

/-! `Machine/Jtag.lean` keeps the shape. -/

theorem Shaped.jtagLoad {ir} (h : Shaped s) : Shaped (s.jtagLoad ir) := .ite h h.frame.senEdges

theorem Shaped.captured {n} (h : Shaped s) : Shaped (s.captured n).2 := h.frame

theorem Shaped.jtagGuarded {ir} (h : Shaped s) : Shaped (s.jtagGuarded ir) := h.jtagLoad

theorem Shaped.execIdcode (h : Shaped s) : Answers (execIdcode s) := h.runsEver fun _ h => .ite h h.jtagLoad.emit

theorem Shaped.boundaryScan {cells} (h : Shaped s) : Shaped (s.boundaryScan cells) := h.captured.emit.frame.senEdges

theorem Shaped.execSamplePreload {cells} (h : Shaped s) : Answers (execSamplePreload cells s) :=
  h.runsEver fun _ h => .ite h h.jtagLoad.boundaryScan

theorem Shaped.execExtest {cells} (h : Shaped s) : Answers (execExtest cells s) :=
  h.runsEver fun _ h => .ite h.jtagGuarded (.ite h.jtagGuarded.boundaryScan h.jtagGuarded.emit)

theorem Shaped.execHighz (h : Shaped s) : Answers (execHighz s) := h.runsEver fun _ h => h.jtagGuarded

theorem Shaped.execClamp (h : Shaped s) : Answers (execClamp s) := h.runsEver fun _ h => h.jtagGuarded

theorem Shaped.execBypass (h : Shaped s) : Answers (execBypass s) := h.runsEver fun _ h => h.jtagLoad

theorem Answers.refused {r : Refusal} : Answers (.refused r) := by
  intro t e
  cases e

theorem Answers.ite {c : Prop} {_ : Decidable c} {a b : Host.Outcome State Fault Refusal} (ha : Answers a) (hb : Answers b) :
    Answers (if c then a else b) := by
  split <;> assumption

theorem Shaped.execWaimondInstruction {code} (h : Shaped s) : Answers (execWaimondInstruction code s) :=
  .ite .refused (h.runsEver fun _ h => h.jtagLoad)

/-! `Machine/Bus.lean` keeps the shape. -/

theorem Shaped.unlock {b} (h : Shaped s) : Shaped (s.unlock b) := by
  unfold State.unlock
  dsimp only
  refine .ite h.set ?_
  split
  · exact h.set
  · exact h.set
  · exact h.set
  · exact h

theorem Shaped.lockBlk {x} (h : Shaped s) : Shaped (s.lockBlk x) := by
  unfold State.lockBlk
  split
  · exact h.flkLock
  · exact h.phaLock
  · exact h.anvLock
  · exact h.rlcLock
  · exact h.icuLock
  · exact h.hifLock

theorem Shaped.execCommitUnlock {w b} (h : Shaped s) : Answers (execCommitUnlock w b s) :=
  h.runs fun _ h => h.asWrite fun _ h => h.unlock

theorem Shaped.regRead {tenant a} (h : Shaped s) : Shaped (s.regRead tenant a).2 := by
  unfold State.regRead
  split
  · exact h
  · exact .ite_snd h (.ite_snd h.drawn.readTbc (.ite_snd h.readBgc (.ite_snd h.readCapStat
      (.ite_snd h.readPos h.plainRead))))

theorem Shaped.startCore {p pc} (h : Shaped s) : Shaped (s.startCore p pc) := h.modBank.frame.showCore

theorem Shaped.holdCore {p} (h : Shaped s) : Shaped (s.holdCore p) := h.frame.showCore

theorem Shaped.restartCore {p} (h : Shaped s) : Shaped (s.restartCore p) := by
  unfold State.restartCore
  refine .ite h.holdCore ?_
  split
  · exact h.holdCore.mrPost
  · exact h.holdCore
  · exact h.copyFw.startCore

theorem Shaped.drainCore {f p} (h : Shaped s) (hf : ∀ s a v, Shaped s → Shaped (f s a v)) : Shaped (s.drainCore f p) := by
  unfold State.drainCore
  extract_lets c s1 s2 es s3 s4
  have h4 : Shaped s4 := h.retireN.flushMerge.deliverMem.modCore.each fun _ _ h => hf _ _ _ h
  split
  · exact h4
  · exact .ite h4.regRead h4.portWord

theorem Shaped.coreReset {f p} (h : Shaped s) (hf : ∀ s a v, Shaped s → Shaped (f s a v)) : Shaped (s.coreReset f p) := by
  unfold State.coreReset
  exact ((h.drainCore hf).modCore fun _ _ => coreShape_reset).flashResume.restore.restartCore

theorem Shaped.kctlWrite {f v} (h : Shaped s) (hf : ∀ s a v, Shaped s → Shaped (f s a v)) : Shaped (s.kctlWrite f v) :=
  .ite (.resetOf (h.plainWrite.each fun _ _ h => h.drainCore hf)) h.plainWrite

theorem Shaped.windowWrite {f p a v} (h : Shaped s) (hf : ∀ s a v, Shaped s → Shaped (f s a v)) :
    Shaped (s.windowWrite f p a v) :=
  .ite h.ucWrite (.ite h.injWrite (.ite h.plainWrite (.ite (.ite (h.coreReset hf) h) h.drvWrite)))

/-- The body of `regEffectN` over the writes that one write brings about: Lean's own equations of it time out. -/
def regEffectBy (inner : State → Nat → Word → State) (s : State) (a : Nat) (v : Word) : State :=
  match commitAt a with
  | some b => if wbit v 0 then s.lockBlk b else s.unlock b
  | none =>
    match a / 0x100000 with
    | 0x401 => s.phaWrite a v
    | 0x402 => s.snsWrite a v
    | 0x403 =>
      let s := s.anvWrite a v
      if inFam a (ANV_LN_CFG 0) 34 0x40 then s.each (List.range 8) (fun s m => s.mfuFallback m) else s
    | 0x404 => s.blwWrite a v
    | 0x405 => s.rlcWrite a v
    | 0x406 => s.evfWrite a v
    | 0x407 => s.icuWrite a v
    | 0x408 => if (a - 0x40800000) / 0x10000 < 6 then s.windowWrite inner ((a - 0x40800000) / 0x10000) a v else s
    | 0x409 => s.hifWrite a v
    | 0x40A => if a = NVC_KCTL then s.kctlWrite inner v else s.nvcWrite a v
    | 0x40B => s.pmuWrite a v
    | 0x40C => s.mfuWrite a v
    | 0x40D => s.flkWrite a v
    | 0x40F => s.otpWrite a v
    | 0x40E => (s.plainWrite a v).judgeIdle
    | _ => s.plainWrite a v

theorem regEffectN_zero (s : State) (a : Nat) (v : Word) : regEffectN 0 s a v = regEffectBy (fun s _ _ => s) s a v := rfl

theorem regEffectN_succ (n : Nat) (s : State) (a : Nat) (v : Word) :
    regEffectN (n + 1) s a v = regEffectBy (regEffectN n) s a v := rfl

theorem Shaped.regEffectBy {inner a v} (h : Shaped s) (hi : ∀ s a v, Shaped s → Shaped (inner s a v)) :
    Shaped (regEffectBy inner s a v) := by
  unfold Machine.regEffectBy
  dsimp only
  split
  · exact .ite h.lockBlk h.unlock
  · split
    · exact h.phaWrite
    · exact h.snsWrite
    · exact .ite (h.anvWrite.each fun _ _ h => h.mfuFallback) h.anvWrite
    · exact h.blwWrite
    · exact h.rlcWrite
    · exact h.evfWrite
    · exact h.icuWrite
    · exact .ite (h.windowWrite hi) h
    · exact h.hifWrite
    · exact .ite (h.kctlWrite hi) h.nvcWrite
    · exact h.pmuWrite
    · exact h.mfuWrite
    · exact h.flkWrite
    · exact h.otpWrite
    · exact h.plainWrite.judgeIdle
    · exact h.plainWrite

theorem Shaped.regEffectN {n a v} (h : Shaped s) : Shaped (regEffectN n s a v) := by
  induction n generalizing s a v with
  | zero => exact regEffectN_zero s a v ▸ h.regEffectBy fun _ _ _ h => h
  | succ n ih => exact regEffectN_succ n s a v ▸ h.regEffectBy fun _ _ _ h => ih h

theorem Shaped.regEffect {a v} (h : Shaped s) : Shaped (s.regEffect a v) := h.regEffectN

theorem Shaped.execCoreReset {w p key} (h : Shaped s) : Answers (execCoreReset w p key s) :=
  h.runs fun _ h => h.asWrite fun _ h => h.regEffect

theorem Shaped.execKindleReset {w key} (h : Shaped s) : Answers (execKindleReset w key s) :=
  h.runs fun _ h => h.asWrite fun _ h => h.regEffect

theorem Shaped.badAccess {p a info} (h : Shaped s) : Shaped (s.badAccess p a info) :=
  .ite h.except (.ite h.except h.except)

theorem Shaped.execRegisterWrite {w a v be tlp} (h : Shaped s) : Answers (execRegisterWrite w a v be tlp s) := by
  refine h.runs fun s h => ?_
  split
  · exact .ite (h.asWrite fun _ h => h.regEffect) (.ite h.badAccess h)
  · exact .ite h (.ite h.poisoned (.ite h.aerSet (.ite h.cfgWrite (h.hostMem fun _ h => .ite (.ite h.bar2Write h)
      (.ite h.set (.ite (h.asWrite fun _ h => h.regEffect) h.set))))))
  · exact .ite h.regEffect h

theorem Shaped.execReadClear {w a} (h : Shaped s) : Answers (execReadClear w a s) := by
  refine h.runs fun s h => ?_
  dsimp only
  split
  · exact .ite (h.asRead fun _ h => h.regRead) (.ite h.badAccess h)
  · exact .ite h.emit (.ite h (h.hostMem fun _ h => .ite h.emit (.ite (h.asRead fun _ h => h.regRead) h.set.emit)))
  · exact .ite (h.asRead fun _ h => h.regRead) h

theorem Shaped.descWrite {e d} (h : Shaped s) : Shaped (s.descWrite e d).2 := by
  unfold State.descWrite
  dsimp only
  split
  · exact h.each fun _ _ h => h.regEffect
  · exact h
  · exact .ite_snd (h.each fun _ _ h => h.regEffect) (h.each fun _ _ h => h.regEffect)

theorem Shaped.execRegw {q e} (h : Shaped s) : Answers (execRegw q e s) :=
  h.runs fun _ h => h.engine fun _ _ h => h.descWrite

theorem Shaped.execRegr {q e} (h : Shaped s) : Answers (execRegr q e s) :=
  h.runs fun _ h => h.engine fun _ _ h => h.accessGuard fun _ _ h => h.regRead

theorem Shaped.execRailVset {q e} (h : Shaped s) : Answers (execRailVset q e s) :=
  h.runs fun _ h => h.engine fun _ _ h => h.descWrite

theorem Shaped.execRailOn {q e} (h : Shaped s) : Answers (execRailOn q e s) :=
  h.runs fun _ h => h.engine fun _ _ h => h.accessGuard fun _ _ h => h.set.arbitrate

theorem Shaped.execPhaseCmd {q e} (h : Shaped s) : Answers (execPhaseCmd q e s) :=
  h.runs fun _ h => h.engine fun _ _ h => h.descWrite

theorem Shaped.execQuench {q e} (h : Shaped s) : Answers (execQuench q e s) :=
  h.runs fun _ h => h.engine fun _ _ h => h.descWrite

/-! `Machine/Kindle.lean` keeps the shape. -/

theorem Shaped.flashFound {f} (h : Shaped s) : Shaped (s.flashFound f) := h.set.set.set.setb.set.set

theorem Shaped.loadImage {k} (h : Shaped s) : Shaped (s.loadImage k).2.2 := by
  unfold State.loadImage
  split
  · exact h
  · extract_lets r hd s1 s2 s3 s4
    have hr : Shaped r.2 := .ite_snd h h.loadPatches.loadStores
    have h4 : Shaped s4 := hr.set.set.wr.wr.set.each fun _ _ h => h.copyFw
    exact .ite_snd2 hr h4.copyData

theorem Shaped.loadEither {k} (h : Shaped s) : Shaped (s.loadEither k).2.2 := by
  have hr := h.loadImage (k := k)
  unfold State.loadEither
  generalize s.loadImage k = r at *
  dsimp only
  split
  · exact hr
  · split
    · exact hr.set.set.loadImage
    · exact hr

theorem Shaped.scanned {half j} (h : Shaped s) : Shaped (s.scanned half j) := h.setFill.wr.wr

theorem Shaped.jerr (h : Shaped s) : Shaped s.jerr := h.set.icuRaise

theorem Shaped.chooseHalf (h : Shaped s) : Shaped s.chooseHalf.2 := by
  unfold State.chooseHalf
  extract_lets j0 j1 s1 act
  have h1 : Shaped s1 := h.scanned.scanned
  have hact : ∀ k j stale, Shaped (act s1 k j stale).2 := fun _ _ _ => .jfull (.ite h1.set.setb.set.jerr h1.set.setb)
  refine .ite_snd (.ite_snd h1.flProgram.setFill.wr.wr (.jfull (.ite h1.set.jerr.set h1.set.jerr))) ?_
  refine .ite_snd (.ite_snd (hact _ _ _).jerr ?_) (.ite_snd (hact _ _ _) (hact _ _ _))
  exact .ite_snd (hact _ _ _) (hact _ _ _)

theorem Shaped.replayOne {held r} (h : Shaped s) : Shaped (s.replayOne held r) :=
  .ite h (.ite h.bump (h.each fun _ _ h => h.regEffect))

theorem Shaped.settingsTable {rs} (h : Shaped s) : Shaped (s.settingsTable rs) := h.sramPlace.writeBlock.set

theorem Shaped.kindleLocks {l} (h : Shaped s) : Shaped (s.kindleLocks l) := by
  induction l generalizing s with
  | nil => exact .ite h.evfGo.evfChecked h.evfGo.evfChecked.set.set
  | cons b bs ih =>
    have h1 : Shaped (if s.on (commitLock b.2) then s else s.lockBlk b.2) := .ite h h.lockBlk
    exact .ite (ih h1) h1.set.set

theorem Shaped.mrKindle (h : Shaped s) : Shaped s.mrKindle := by
  have h1 : ∀ p, Shaped { s with mem := s.mem.filter p } := fun p => { h with mem := spWf_filter h.mem p }
  exact .ite h.setBytes (h1 _).setBytes

theorem Shaped.mrRebuild (h : Shaped s) : Shaped s.mrRebuild := by
  unfold State.mrRebuild
  dsimp only
  refine .ite h ?_
  split
  · exact h.frame.set.wr
  · exact h.frame.set.wr

theorem Shaped.countKindle (h : Shaped s) : Shaped s.countKindle := by
  have h1 : ∀ l, Shaped (List.foldl State.mramCount s l) := fun _ => h.each fun _ _ h => h.mramCount
  exact (h1 _).frame

theorem Shaped.recover {res} (h : Shaped s) : Shaped (s.recover res) := h.set.set

theorem Shaped.kindleEnd {l exit} (h : Shaped s) : Shaped (s.kindleEnd l exit) := by
  unfold State.kindleEnd
  extract_lets old e s1 s2 held t src s3 s4 s5 s6 s7
  have h2 : Shaped s2 := .each h.mrPost fun s p h => by
    split
    · exact h
    · exact h.startCore
  have h3 : Shaped s3 := h2.set.frame (hn := rfl)
  have h4 : Shaped s4 := .ite (h3.each fun _ _ h => h.evioDrive) h3
  have h7 : Shaped s7 := .ite (h4.set.each fun _ _ h => h.disarm).pmuFire (.set (.ite h4.set h4.set.set))
  exact h7.senEdges.each fun _ _ h => h.arbitrate

theorem Shaped.kindle {x} (h : Shaped s) : Shaped (s.kindle x) := by
  unfold State.kindle
  extract_lets s1 s2 s3
  have h3 : Shaped s3 := .ite h.mrKindle.mrRebuild.countKindle.otpShadow.setb.set
    h.mrKindle.mrRebuild.countKindle.otpShadow.setb
  refine .ite h3.recover ?_
  split
  · exact h3.recover
  · refine .ite h3.recover ?_
    extract_lets s4
    have h4 : Shaped s4 := h3.flashFound.setb
    split
    · exact h4.recover
    · have h5 : ∀ k, Shaped (s4.loadEither k).2.2 := fun _ => h4.loadEither
      exact .ite (h5 _).recover (.kindleEnd (.kindleLocks (.settingsTable ((h5 _).chooseHalf.each fun _ _ h => h.replayOne))))

theorem Shaped.execKindle {x} (h : Shaped s) : Answers (execKindle x s) := h.runs fun _ h => .ite h.kindle h

/-! `Machine/Port.lean` keeps the shape. -/

theorem Shaped.result {p lat d v} (h : Shaped s) : Shaped (s.result p lat d v) := h.modCore

theorem Shaped.resultG {p lat r v} (h : Shaped s) : Shaped (s.resultG p lat r v) := h.result

theorem Shaped.resultFlags {p lat mask v} (h : Shaped s) : Shaped (s.resultFlags p lat mask v) := .ite h h.result

theorem Shaped.resultFp {p lat fl} (h : Shaped s) : Shaped (s.resultFp p lat fl) := .ite h h.result

theorem Shaped.slots {p n} (h : Shaped s) : Shaped (s.slots p n) := by
  induction n generalizing s with
  | zero => exact h
  | succ n ih => exact ih h.modCore.landAt.modCore

theorem Shaped.setPc {p v} (h : Shaped s) : Shaped (s.setPc p v) := h.modBank

theorem Shaped.advance {p len n} (h : Shaped s) : Shaped (s.advance p len n) := by
  unfold State.advance
  dsimp only
  refine Shaped.takeBoundary (Shaped.slots ?_)
  split
  · exact .ite h.setPc.modCore h.setPc.modCore
  · exact h.setPc

theorem Shaped.deliverRegs {p} (h : Shaped s) : Shaped (s.deliverRegs p).2 :=
  .ite_snd (.modCore (h.modCore.each fun _ _ h => h.regEffect)) (h.modCore.each fun _ _ h => h.regEffect)

theorem Shaped.farWord {p a} (h : Shaped s) : Shaped (s.farWord p a).2 := by
  unfold State.farWord
  dsimp only
  refine .ite_snd ?_ ?_
  · split <;> rename_i e
    · exact h.deliverRegs.of_eq e
    · exact (h.deliverRegs.of_eq e).regRead
  · have h1 : Shaped (if areaOf a = .mram then s.deliverRegs p else (true, s)).2 := .ite_snd h.deliverRegs h
    split <;> rename_i e
    · exact h1.of_eq e
    · replace h1 := (h1.of_eq e).deliverMem (p := p) |>.portWord (p := p) (a := a)
      split <;> rename_i e' <;> exact h1.of_eq e'

theorem Shaped.readNow {p a n forward} (h : Shaped s) : Shaped (s.readNow p a n forward).2 := by
  unfold State.readNow
  extract_lets far s1 s2
  have h2 : Shaped s2 := .ite h.flashServe.retireN h.flashServe
  refine .ite_snd h (.ite_snd ?_ (.ite_snd ?_ ?_))
  · split
    · rename_i e
      exact h2.farWord.of_eq e
    · exact h2.farWord
  · split <;> rename_i e <;> exact h2.loadMem.of_eq e
  · split <;> rename_i e <;> exact h2.loadPort.of_eq e

theorem Shaped.finishLoad {p good} (h : Shaped s) : Shaped (s.finishLoad p good).2 := by
  unfold State.finishLoad
  dsimp only
  split
  · exact h
  · refine .ite_snd h.modCore.flashResume.takeException (.ite_snd h ?_)
    split
    · rename_i e
      exact (h.flashServe.farWord.of_eq e).modCore.takeException
    · rename_i e
      exact (h.flashServe.farWord.of_eq e).modCore.flashResume.result.advance
    · rename_i e
      exact h.flashServe.farWord.of_eq e

theorem Shaped.storeCheck {p a n v} (h : Shaped s) : Shaped (s.storeCheck p a n v).2 := .ite_snd h.secv h

/-- The state that an instruction ends with is in shape. -/
inductive PyRes.Keeps : PyRes → Prop
  | ok {n} {s : State} (h : Shaped s) : Keeps (.ok n s)
  | jump {t} {s : State} (h : Shaped s) : Keeps (.jump t s)
  | exc {code info a} {s : State} (h : Shaped s) : Keeps (.exc code info a s)
  | trap {code info} {s : State} (h : Shaped s) : Keeps (.trap code info s)
  | stay {s : State} (h : Shaped s) : Keeps (.stay s)
  | left {s : State} (h : Shaped s) : Keeps (.left s)

theorem PyRes.Keeps.ite {c : Prop} {_ : Decidable c} {a b : PyRes} (ha : a.Keeps) (hb : b.Keeps) :
    (if c then a else b).Keeps := by
  split <;> assumption

theorem Shaped.load {p a n signed d len now} (h : Shaped s) : (s.load p a n signed d len now).Keeps := by
  unfold State.load
  extract_lets code ar hit near s1 s2
  split
  · exact .exc h
  · split
    · have h1 := h.readNow (p := p) (a := a) (n := n) (forward := true)
      generalize s.readNow p a n true = x at h1 ⊢
      obtain ⟨_ | _ | _ | _, t⟩ := x
      · exact .ok h1.result
      · exact .exc h1
      · exact .stay h1
      · exact .stay h1
    · have h1 : Shaped s1 := .ite h.setSusp h
      have h2 : Shaped s2 := .ite h1.retireN h1.retireOverlap
      exact .stay h2.modCore

theorem Shaped.store {p a n v} (h : Shaped s) : (s.store p a n v).Keeps := by
  unfold State.store
  split <;> rename_i e
  · exact .ok (h.storeCheck.of_eq e).pushStore
  · exact .exc (h.storeCheck.of_eq e)

theorem Shaped.fetchWord {p a} (h : Shaped s) : Shaped (s.fetchWord p a).2 := by
  unfold State.fetchWord
  split
  · split <;> rename_i e <;> exact h.retireOverlap.portWord.of_eq e
  · extract_lets s1 s2
    have h2 : Shaped s2 := .ite h.retireOverlap.deliverMem h.retireOverlap
    split <;> rename_i e <;> exact h2.portWord.of_eq e
  · exact h

theorem Shaped.fetch {p len} (h : Shaped s) : Shaped (s.fetch p len).2.2 := by
  unfold State.fetch
  extract_lets a s1 lo words r
  split
  · exact h
  · have hr : Shaped r.2 := .foldl_snd h.flashServe fun _ _ h => h.fetchWord
    split <;> exact hr

theorem Shaped.startLong {o l} (h : Shaped s) : Shaped (s.startLong o l) := .ite h.modCore.finishLong h.modCore

theorem Shaped.mtsr {p n v} (h : Shaped s) : Shaped (s.mtsr p n v) :=
  .ite h.result (.ite h.result (.ite h.result h.result))

theorem Shaped.frameWord {p lk a} (h : Shaped s) : Shaped (s.frameWord p lk a).2 := by
  unfold State.frameWord
  dsimp only
  refine .ite_snd (.ite_snd h ?_) h.readNow
  split
  · rename_i e
    exact h.retireN.deliverRegs.of_eq e
  · rename_i e
    exact (h.retireN.deliverRegs.of_eq e).regRead

theorem Shaped.leave {p at_} (h : Shaped s) : Shaped (s.leave p at_) := by
  unfold State.leave
  extract_lets s1 c lk s2 sp
  have h1 : Shaped s1 := h.landAll
  refine .ite ?_ ?_
  · split
    · exact h1.modCore.enterBest
    · exact h1.modCore.modCore.showCore
  · split; rename_i of s3 e
    have h3 : Shaped s3 := h1.frameWord.of_eq e
    dsimp only
    split
    · exact h3.enterBest
    · split
      · exact h3.escalate
      · have h4 : Shaped (s3.frameWord p lk sp).2 := h3.frameWord
        split
        · exact .showCore (.modCore (.slotMove (h4.modBank.modBank fun _ hk => (modNth_length _ _ _).trans hk)))
        · exact h4.escalate
        · exact h4.escalate
        · exact h4

/-! `Machine/Issue.lean` keeps the shape. -/

theorem Shaped.waitUnits {o c} (h : Shaped s) : Shaped (s.waitUnits o c) := .ite h.finishLongs.finishLongs h.finishLongs

/-! The microsequencer: a microprogram in progress keeps the shape of its state. -/

/-- The state that a microprogram leaves at its last microword is in shape. -/
inductive MicroEnd.Keeps : MicroEnd → Prop
  | ended {m : Mseq} (h : Shaped m.s) : Keeps (.ended m)
  | exc {code info a} {s : State} (h : Shaped s) : Keeps (.exc code info a s)
  | trap {code info} {s : State} (h : Shaped s) : Keeps (.trap code info s)
  | fault {a ill} {s : State} (h : Shaped s) : Keeps (.fault a ill s)
  | stand {s : State} (h : Shaped s) : Keeps (.stand s)

/-- The state after one microword is in shape. -/
inductive MicroStep.Keeps : MicroStep → Prop
  | go {m : Mseq} (h : Shaped m.s) : Keeps (.go m)
  | stop {e : MicroEnd} (h : e.Keeps) : Keeps (.stop e)

theorem Shaped.mseqWrite {m : Mseq} {sel v} (h : Shaped m.s) : Shaped (m.write sel v).s := by
  unfold Mseq.write
  split
  · exact h.modCore fun _ hc => hc.write _ _
  · split
    · exact h
    · split
      · exact h.modBank
      · exact h

theorem Shaped.mseqSettled {m : Mseq} {sels} (h : Shaped m.s) : Shaped (m.settled sels).s := h.finishLongs

theorem Shaped.mseqAlu {m : Mseq} {fn dst sa sb fl} (h : Shaped m.s) : Shaped (m.alu fn dst sa sb fl).s := by
  unfold Mseq.alu
  extract_lets b r m1
  have h1 : Shaped m1.s := by
    unfold m1
    split
    · exact h
    · exact h.mseqWrite
  split
  · exact h1.modCore fun _ hc => hc.write _ _
  · exact h1

theorem Shaped.mseqMemRead {m : Mseq} {chk sp a n sx} {k : Mseq → Word → Mseq} (h : Shaped m.s)
    (hk : ∀ m v, Shaped m.s → Shaped (k m v).s) : (m.memRead chk sp a n sx k).Keeps := by
  unfold Mseq.memRead
  extract_lets c
  split
  · exact .stop (.exc h)
  · have h1 := h.readNow (p := m.o.p) (a := a) (n := n) (forward := true)
    generalize m.s.readNow m.o.p a n true = x at h1 ⊢
    obtain ⟨_ | _ | _ | _, t⟩ := x
    · exact .go (hk _ _ h1)
    · exact .stop (.exc h1)
    · exact .stop (.stand h1)
    · exact .stop (.stand h1)

theorem Shaped.mseqMemWrite {m : Mseq} {chk push sp a n v} {k : Mseq → Mseq} (h : Shaped m.s)
    (hk : ∀ m, Shaped m.s → Shaped (k m).s) : (m.memWrite chk push sp a n v k).Keeps := by
  unfold Mseq.memWrite
  extract_lets p c
  split
  · exact .stop (.exc h)
  · split <;> rename_i e
    · exact .go (hk _ (h.storeCheck.of_eq e).pushStoreAt)
    · exact .stop (.exc (h.storeCheck.of_eq e))

theorem Shaped.mseqWait {m : Mseq} {wc arg} (h : Shaped m.s) : (m.wait wc arg).Keeps := by
  unfold Mseq.wait
  dsimp only
  split
  · exact .go h.finishLongs
  · exact .go h.retireN.flushMerge
  · split <;> rename_i e
    · exact .go (h.retireN.flushMerge.deliverMem.deliverRegs.of_eq e)
    · exact .stop (.stand (h.retireN.flushMerge.deliverMem.deliverRegs.of_eq e))
  · split
    · exact .go h
    · exact .stop (.stand h)
  · exact .go h.finishLongs
  · exact .go h.landAll

theorem Shaped.mseqSysReg {m : Mseq} {write reg n} (h : Shaped m.s) : (m.sysReg write reg n).Keeps := by
  unfold Mseq.sysReg
  dsimp only
  split
  · split
    · exact .stop (.exc h)
    · exact .go h.mseqWrite
  · split
    · exact .stop (.exc h)
    · exact .go h.mtsr

theorem Shaped.mseqLatch {m : Mseq} (h : Shaped m.s) : m.latch.Keeps := by
  unfold Mseq.latch
  dsimp only
  split
  · exact .stop (.ended h)
  · exact .go h.latch

theorem Shaped.mseqSys {m : Mseq} {fn reg imm} (h : Shaped m.s) : (m.sys fn reg imm).Keeps := by
  unfold Mseq.sys
  dsimp only
  split
  · exact h.mseqSysReg
  · exact h.mseqSysReg
  · exact h.mseqLatch
  · exact .go h.modCore.modBank.showCore
  · exact .go h.mseqWrite
  · exact .go h.modBank
  · exact .go h
  · exact .go h.modCore
  · split
    · exact .stop (.trap h)
    · split
      · exact .stop (.trap h)
      · split
        · exact .stop (.exc h)
        · exact .stop (.exc h)

theorem Shaped.mseqStartLong {m : Mseq} {u rs} (h : Shaped m.s) : Shaped (m.startLong u rs).s := by
  have h1 : Shaped (rs.foldl (fun m r => if (m.dest r.1).isNone then m.write r.1 r.2 else m) m).s :=
    List.foldlRecOn (motive := fun m : Mseq => Shaped m.s) rs _ h fun m h r _ => by
      split
      · exact h.mseqWrite
      · exact h
  exact h1.finishLongs.startLong

theorem Shaped.mseqWin {m : Mseq} {dst sb} (h : Shaped m.s) : (m.win dst sb).Keeps := by
  unfold Mseq.win
  dsimp only
  split
  · exact .stop (.exc h)
  · split
    · split
      · exact .go h.startLong
      · exact .go h.mseqStartLong
    · split
      · split
        · exact .go h.startLong
        · exact .go h.startLong
      · split
        · exact .go h.mseqStartLong
        · exact .go h.mseqStartLong

theorem Shaped.mseqLong {m : Mseq} {fn dst sa sb} (h : Shaped m.s) : (m.long fn dst sa sb).Keeps := by
  unfold Mseq.long
  dsimp only
  split
  · exact .go h.mseqStartLong
  · exact .go h.mseqStartLong
  · exact .go h.mseqStartLong
  · exact .go h.mseqStartLong
  · exact .go h.mseqStartLong
  · exact .go h.mseqStartLong
  · exact .go h.finishLongs.startLong
  · exact .go h.finishLongs.startLong
  · refine .go (mseqStartLong ?_)
    split
    · exact h.modCore fun _ hc => hc.write _ _
    · exact h
  · exact h.mseqWin

theorem Shaped.mseqAct {m : Mseq} {a w} (h : Shaped m.s) : (m.act a w).Keeps := by
  unfold Mseq.act
  cases w with
  | ill => exact .stop (.fault h)
  | alu => exact .go h.mseqAlu
  | lit => exact .go h.mseqWrite
  | load => exact h.mseqMemRead fun _ _ h => h.mseqWrite
  | store => exact h.mseqMemWrite fun _ h => h
  | push => exact h.mseqMemWrite fun _ h => h.mseqWrite
  | pop => exact h.mseqMemRead fun _ _ h => h.mseqWrite.mseqWrite
  | br =>
    refine .go ?_
    split <;> exact h
  | wait => exact h.mseqWait
  | done => exact .stop (.ended h)
  | call =>
    dsimp only
    split
    · exact .stop (.fault h)
    · exact .go h
  | ret =>
    dsimp only
    split
    · exact .stop (.fault h)
    · exact .go h
  | sys => exact h.mseqSys
  | long => exact h.mseqLong

theorem Shaped.mseqRun {m : Mseq} {n} (h : Shaped m.s) : (Mseq.run n m).Keeps := by
  induction n generalizing m with
  | zero => exact .stand h
  | succ n ih =>
    rw [Mseq.run]
    split
    · exact .fault h
    · exact .fault h
    · rename_i v _
      have h1 : (Mseq.exec { m with at_ := (m.at_ + 1) % 2 ^ 15 } m.at_ (microOf v)).Keeps :=
        (Shaped.mseqSettled (m := { m with at_ := (m.at_ + 1) % 2 ^ 15 }) h).finishLongs.mseqAct
      generalize Mseq.exec _ _ _ = r at h1 ⊢
      cases h1 with
      | go h => exact ih h
      | stop h => exact h

theorem Shaped.microRun {o c off} (h : Shaped s) : (s.microRun o c off).Keeps := by
  unfold State.microRun
  dsimp only
  split
  · exact .fault h
  · exact .fault h
  · split
    · exact .fault h
    · exact Shaped.mseqRun h.frame

theorem MicroEnd.Keeps.res {e : MicroEnd} {p bank pc} (he : e.Keeps) : (e.res p bank pc).Keeps := by
  cases he with
  | ended h =>
    unfold MicroEnd.res
    dsimp only
    split
    · exact .left h.slots
    · split
      · exact .jump h.setPc
      · exact .ok h
  | exc h => exact .exc h
  | trap h => exact .trap h
  | fault h => exact .stay h
  | stand h => exact .stay h

theorem Shaped.perform {o c body n} (h : Shaped s) (hb : ∀ s, Shaped s → (body s).Keeps) :
    (State.perform o c body n s).Keeps := by
  induction n generalizing s with
  | zero => exact .stay h
  | succ n ih =>
    rw [State.perform]
    split
    · exact hb s h
    · have h1 := h.microRun (o := o) (c := c) (off := c)
      split <;> rename_i e
      · rw [e] at h1
        cases h1 with
        | fault ht =>
          extract_lets u
          have hu : Shaped u := .ucFault (.ite h ht)
          split
          · exact .stay hu
          · exact ih hu
      · exact h1.res

theorem PyRes.Keeps.finish {r : PyRes} {p len} (hr : r.Keeps) : Shaped (r.finish p len) := by
  cases hr with
  | ok h => exact h.advance
  | jump h => exact h.setPc.modCore.slots
  | exc h => exact h.takeException
  | trap h => exact h.slots.takeException
  | stay h => exact h
  | left h => exact h.takeBoundary

theorem Shaped.issue {o c body} (h : Shaped s) (hb : ∀ s, Shaped s → (body s).Keeps) : Shaped (s.issue o c body) := by
  unfold State.issue
  dsimp only
  refine .ite h ?_
  split <;> rename_i e
  · exact h.finishLoad.of_eq e
  · replace h := h.finishLoad.of_eq e
    refine .ite h ?_
    split <;> rename_i e
    · replace h := h.fetch.of_eq2 e
      refine .ite (PyRes.Keeps.exc h).finish (.ite (PyRes.Keeps.exc h.waitUnits).finish ?_)
      exact (h.waitUnits.modCore.perform hb).finish
    · exact (PyRes.Keeps.exc (h.fetch.of_eq2 e)).finish

theorem Shaped.pyRun {ok o base forms} {body : Nat → State → PyRes} (h : Shaped s)
    (hb : ∀ c s, Shaped s → (body c s).Keeps) : Answers (pyRun ok o base forms s body) :=
  h.runs fun _ h => .ite (h.issue (hb _)) h

theorem Shaped.repeat {o step body n} (h : Shaped s) (hb : ∀ s, Shaped s → (body s).Keeps) :
    (s.repeat o step body n).Keeps := by
  induction n generalizing s with
  | zero =>
    unfold State.repeat
    split
    · exact .ok h
    · exact .left h
  | succ n ih =>
    unfold State.repeat
    split
    · exact .ok h
    · split
      · exact .left h
      · have h1 := hb s h
        split <;> rename_i e
        · rw [e] at h1
          cases h1 with
          | ok h => exact ih (.slots (.ite h.resultG h.resultG.resultG))
        · exact h1

theorem Shaped.rep {o step body} (h : Shaped s) (hb : ∀ s, Shaped s → (body s).Keeps) : (s.rep o step body).Keeps := by
  unfold State.rep
  dsimp only
  split
  · exact hb s h
  · split
    · exact .ok h
    · exact h.repeat hb

theorem Shaped.execIllegalInstruction {p} (h : Shaped s) : Answers (execIllegalInstruction p s) := by
  refine h.runs fun s h => .ite h ?_
  split <;> rename_i e
  · exact h.finishLoad.of_eq e
  · replace h := h.finishLoad.of_eq e
    refine .ite h ?_
    split <;> rename_i e
    · exact (h.fetch.of_eq2 e).except
    · exact (PyRes.Keeps.exc (h.fetch.of_eq2 e)).finish

theorem Shaped.deliverOne {p e} (h : Shaped s) : Shaped (s.deliverOne p e) :=
  .ite h.modCore.regEffect h.modCore.performFar

theorem Shaped.execInterconnectResponse {p good} (h : Shaped s) : Answers (execInterconnectResponse p good s) := by
  refine h.runs fun s h => ?_
  refine .ite h.finishLoad ?_
  split
  · exact h.deliverOne
  · exact h

theorem Shaped.execRemoteAccess {q x} (h : Shaped s) : Answers (execRemoteAccess q x s) := by
  refine h.runs fun s h => ?_
  refine .ite h ?_
  split
  · split
    · exact .ite h.finishLoad h
    · exact h
  · split
    · exact .ite h.deliverOne h
    · exact h

theorem Shaped.enterIf {p off f} (h : Shaped s) : Shaped (s.enterIf p off f) := by
  unfold State.enterIf
  dsimp only
  refine .ite h (.ite h.takeBoundary ?_)
  split
  · exact h.landAll
  · refine .ite (h.landAll.service fun _ h => ?_) h
    split
    · exact h.enterRequest
    · exact h

theorem Shaped.execInterruptEntry {p} (h : Shaped s) : Answers (execInterruptEntry p s) := h.runs fun _ h => h.enterIf

theorem Shaped.execTaskActivation {p} (h : Shaped s) : Answers (execTaskActivation p s) := h.runs fun _ h => h.enterIf

/-! `Machine/Arith.lean` keeps the shape. -/

theorem Shaped.aluWrite {o lat write a} (h : Shaped s) : Shaped (s.aluWrite o lat write a) := .resultFlags (.ite h.resultG h)

theorem Shaped.aluBody {o c} (h : Shaped s) : (aluBody o c s).Keeps := h.rep fun _ h => .ok h.aluWrite

theorem Shaped.window {o d v} (h : Shaped s) : (s.window o d v).Keeps := .ok h.startLong

theorem Shaped.movBody {o c} (h : Shaped s) : (movBody o c s).Keeps := by
  unfold Machine.movBody
  split
  · exact h.aluBody
  · refine h.rep fun s h => ?_
    extract_lets s1 code w
    have h1 : Shaped s1 := .ite h.waitUnits h
    split
    · exact .exc h1
    · split
      · exact h1.window
      · exact h1.window

theorem Shaped.mulBody {o lat f} (h : Shaped s) : (mulBody o lat f s).Keeps := h.rep fun _ h => .ok h.aluWrite

theorem Shaped.execAddOp {o} (h : Shaped s) : Answers (execAddOp o s) := h.pyRun fun _ _ h => h.aluBody

theorem Shaped.execSubOp {o} (h : Shaped s) : Answers (execSubOp o s) := h.pyRun fun _ _ h => h.aluBody

theorem Shaped.execAndOp {o} (h : Shaped s) : Answers (execAndOp o s) := h.pyRun fun _ _ h => h.aluBody

theorem Shaped.execOrOp {o} (h : Shaped s) : Answers (execOrOp o s) := h.pyRun fun _ _ h => h.aluBody

theorem Shaped.execXorOp {o} (h : Shaped s) : Answers (execXorOp o s) := h.pyRun fun _ _ h => h.aluBody

theorem Shaped.execShl {o} (h : Shaped s) : Answers (execShl o s) := h.pyRun fun _ _ h => h.aluBody

theorem Shaped.execShr {o} (h : Shaped s) : Answers (execShr o s) := h.pyRun fun _ _ h => h.aluBody

theorem Shaped.execSar {o} (h : Shaped s) : Answers (execSar o s) := h.pyRun fun _ _ h => h.aluBody

theorem Shaped.execRor {o} (h : Shaped s) : Answers (execRor o s) := h.pyRun fun _ _ h => h.aluBody

theorem Shaped.execCmp {o} (h : Shaped s) : Answers (execCmp o s) := h.pyRun fun _ _ h => h.aluBody

theorem Shaped.execTst {o} (h : Shaped s) : Answers (execTst o s) := h.pyRun fun _ _ h => h.aluBody

theorem Shaped.execMov {o} (h : Shaped s) : Answers (execMov o s) := h.pyRun fun _ _ h => h.movBody

theorem Shaped.execAdc {o} (h : Shaped s) : Answers (execAdc o s) := h.pyRun fun _ _ h => h.aluBody

theorem Shaped.execSbc {o} (h : Shaped s) : Answers (execSbc o s) := h.pyRun fun _ _ h => h.aluBody

theorem Shaped.execMinOp {o} (h : Shaped s) : Answers (execMinOp o s) := h.pyRun fun _ _ h => h.aluBody

theorem Shaped.execMaxOp {o} (h : Shaped s) : Answers (execMaxOp o s) := h.pyRun fun _ _ h => h.aluBody

theorem Shaped.execMul {o} (h : Shaped s) : Answers (execMul o s) := h.pyRun fun _ _ h => h.rep fun _ h => .ok h.aluWrite

theorem Shaped.execMulh {o} (h : Shaped s) : Answers (execMulh o s) := h.pyRun fun _ _ h => h.mulBody

theorem Shaped.execMulhu {o} (h : Shaped s) : Answers (execMulhu o s) := h.pyRun fun _ _ h => h.mulBody

theorem Shaped.execQmul {o} (h : Shaped s) : Answers (execQmul o s) := h.pyRun fun _ _ h => h.mulBody

theorem Shaped.execQmul15 {o} (h : Shaped s) : Answers (execQmul15 o s) := h.pyRun fun _ _ h => h.mulBody

theorem Shaped.execAdd15 {o} (h : Shaped s) : Answers (execAdd15 o s) := h.pyRun fun _ _ h => h.mulBody

theorem Shaped.execSub15 {o} (h : Shaped s) : Answers (execSub15 o s) := h.pyRun fun _ _ h => h.mulBody

theorem Shaped.execClz {o} (h : Shaped s) : Answers (execClz o s) := h.pyRun fun _ _ h => h.mulBody

theorem Shaped.execPopc {o} (h : Shaped s) : Answers (execPopc o s) := h.pyRun fun _ _ h => h.mulBody

theorem Shaped.execBfx {o} (h : Shaped s) : Answers (execBfx o s) := h.pyRun fun _ _ h => h.mulBody

theorem Shaped.execBfxs {o} (h : Shaped s) : Answers (execBfxs o s) := h.pyRun fun _ _ h => h.mulBody

theorem Shaped.execBfi {o} (h : Shaped s) : Answers (execBfi o s) := h.pyRun fun _ _ h => h.mulBody

theorem Shaped.execRev {o} (h : Shaped s) : Answers (execRev o s) := h.pyRun fun _ _ h => h.mulBody

/-! `Machine/BitSpace.lean` keeps the shape. -/

/-- The state that an access to the bit space ends with is in shape. -/
inductive BitRes.Keeps : BitRes → Prop
  | got {b} {s : State} (h : Shaped s) : Keeps (.got b s)
  | fault {code a} {s : State} (h : Shaped s) : Keeps (.fault code a s)

theorem Shaped.bitNow {p b} (h : Shaped s) : (s.bitNow p b).Keeps := by
  unfold State.bitNow
  split
  · split <;> rename_i e
    · exact .got (h.readEcc.of_eq e)
    · exact .fault (h.readEcc.of_eq e)
  · split
    · exact .got h
    · exact .got h

theorem Shaped.bitRead {p b} (h : Shaped s) : (s.bitRead p b).Keeps := by
  unfold State.bitRead
  extract_lets code
  split
  · exact .fault h
  · have h1 := h.bitNow (p := p) (b := b)
    generalize s.bitNow p b = x at h1 ⊢
    cases h1 with
    | fault h => exact .fault h
    | got h =>
      dsimp only
      split
      · split
        · exact .got h
        · exact .got h.drawn
      · exact .got h

theorem Shaped.bitWrite {p b f} (h : Shaped s) : (s.bitWrite p b f).Keeps := by
  unfold State.bitWrite
  split
  · exact .fault h
  · have h1 := h.bitNow (p := p) (b := b)
    generalize s.bitNow p b = x at h1 ⊢
    cases h1 with
    | fault h => exact .fault h
    | got h1 =>
      dsimp only
      split
      · split
        · exact .fault (.ite h.secv h)
        · exact .fault h
      · split
        · exact .got h1.writeEcc
        · split
          · exact .got h1
          · split
            · exact .got h1
            · exact .got h1.regEffect.modCore

theorem Shaped.bitReads {o f c} (h : Shaped s) (hf : ∀ b s, Shaped s → Shaped (f b s)) : (bitReads o f c s).Keeps := by
  refine h.rep fun s h => ?_
  have h1 := h.bitRead (p := o.p) (b := s.bitAddr o c)
  generalize s.bitRead o.p (s.bitAddr o c) = x at h1 ⊢
  cases h1 with
  | got h => exact .ok (hf _ _ h)
  | fault h => exact .exc h

theorem Shaped.bitWrites {o f c} (h : Shaped s) : (bitWrites o f c s).Keeps := by
  refine h.rep fun s h => ?_
  have h1 := h.bitWrite (p := o.p) (b := s.bitAddr o c) (f := f s)
  generalize s.bitWrite o.p (s.bitAddr o c) (f s) = x at h1 ⊢
  cases h1 with
  | got h => exact .ok (.ite h.resultFlags h)
  | fault h => exact .exc h

theorem Shaped.execBtst {o} (h : Shaped s) : Answers (execBtst o s) := h.pyRun fun _ _ h => h.bitReads fun _ _ h => h.resultFlags

theorem Shaped.execBset {o} (h : Shaped s) : Answers (execBset o s) := h.pyRun fun _ _ h => h.bitWrites

theorem Shaped.execBclr {o} (h : Shaped s) : Answers (execBclr o s) := h.pyRun fun _ _ h => h.bitWrites

theorem Shaped.execBnot {o} (h : Shaped s) : Answers (execBnot o s) := h.pyRun fun _ _ h => h.bitWrites

theorem Shaped.execBld {o} (h : Shaped s) : Answers (execBld o s) := h.pyRun fun _ _ h => h.bitReads fun _ _ h => h.resultG

theorem Shaped.execBst {o} (h : Shaped s) : Answers (execBst o s) := h.pyRun fun _ _ h => h.bitWrites

/-! `Machine/Control.lean` keeps the shape. -/

theorem Shaped.execBcc {o} (h : Shaped s) : Answers (execBcc o s) := h.pyRun fun _ _ h => .jump h

theorem Shaped.execCall {o} (h : Shaped s) : Answers (execCall o s) := h.pyRun fun _ _ h => .jump h.resultG

theorem Shaped.execJmp {o} (h : Shaped s) : Answers (execJmp o s) := h.pyRun fun _ _ h => .jump h

theorem Shaped.execCallr {o} (h : Shaped s) : Answers (execCallr o s) := h.pyRun fun _ _ h => .jump h.resultG

theorem Shaped.execRet {o} (h : Shaped s) : Answers (execRet o s) := h.pyRun fun _ _ h => .jump h

theorem Shaped.execDbnz {o} (h : Shaped s) : Answers (execDbnz o s) := h.pyRun fun _ _ h => .jump h.resultG

theorem Shaped.mfsrBody {o} (h : Shaped s) : (mfsrBody o s).Keeps := by
  unfold Machine.mfsrBody
  dsimp only
  split
  · split
    · exact .exc h
    · exact h.window
  · split
    · exact .exc h
    · exact .ok h.resultG

theorem Shaped.mtsrBody {o} (h : Shaped s) : (mtsrBody o s).Keeps := by
  unfold Machine.mtsrBody
  dsimp only
  split
  · split
    · exact .exc h
    · split
      · exact h.window
      · exact h.window
  · split
    · exact .exc h
    · exact .ok h.mtsr

theorem Shaped.execMfsr {o} (h : Shaped s) : Answers (execMfsr o s) := h.pyRun fun _ _ h => h.mfsrBody

theorem Shaped.execMtsr {o} (h : Shaped s) : Answers (execMtsr o s) := h.pyRun fun _ _ h => h.mtsrBody

theorem Shaped.execSyscall {o} (h : Shaped s) : Answers (execSyscall o s) := h.pyRun fun _ _ h => .trap h

theorem Shaped.execBrk {o} (h : Shaped s) : Answers (execBrk o s) := h.pyRun fun _ _ h => .trap h

theorem Shaped.execRete {o} (h : Shaped s) : Answers (execRete o s) := h.pyRun fun _ _ h => by
    dsimp only
    split
    · exact .exc h
    · split
      · exact .stay h
      · exact .left (h.slots.service fun _ h => .ite h.leaveEscalation h.leave)

theorem Shaped.endActivation {p len off f} (h : Shaped s) (hf : ∀ s, Shaped s → Shaped (f s)) :
    (s.endActivation p len off f).Keeps := by
  unfold State.endActivation
  dsimp only
  split
  · exact .stay h
  · exact .left (h.setPc.slots.service fun _ h => (hf _ h).leave)

theorem Shaped.execWaitOp {o} (h : Shaped s) : Answers (execWaitOp o s) := h.pyRun fun _ _ h => by
    extract_lets p b st s1
    split
    · exact h.endActivation fun _ h => h.modCore.set.slotReady
    · exact .left (h.setPc.slots.service fun _ h => h.modCore.showCore)

theorem Shaped.execYield {o} (h : Shaped s) : Answers (execYield o s) := h.pyRun fun _ _ h => by
    dsimp only
    split
    · exact h.endActivation fun _ h => h.set.set.modCore
    · exact .ok h

theorem Shaped.drain {p} (h : Shaped s) : Shaped (s.drain p) := h.retireN.flushMerge

theorem Shaped.execFetchsync {o} (h : Shaped s) : Answers (execFetchsync o s) := h.pyRun fun _ _ h => .ok h.drain.modCore

theorem Shaped.execSync {o} (h : Shaped s) : Answers (execSync o s) := h.pyRun fun _ _ h => by
    split <;> rename_i e
    · exact .ok (h.drain.deliverMem.deliverRegs.of_eq e)
    · exact .stay (h.drain.deliverMem.deliverRegs.of_eq e)

theorem Shaped.execNopOp {o} (h : Shaped s) : Answers (execNopOp o s) := h.pyRun fun _ _ h => .ok h

/-! `Machine/LoadStore.lean` keeps the shape. -/

theorem Shaped.loadBody {n signed o c} (h : Shaped s) : (loadBody n signed o c s).Keeps := h.rep fun _ h => h.load

theorem Shaped.storeBody {n o c} (h : Shaped s) : (storeBody n o c s).Keeps := h.rep fun _ h => h.store

theorem Shaped.execLdw {o} (h : Shaped s) : Answers (execLdw o s) := h.pyRun fun _ _ h => h.loadBody

theorem Shaped.execLdh {o} (h : Shaped s) : Answers (execLdh o s) := h.pyRun fun _ _ h => h.loadBody

theorem Shaped.execLdhu {o} (h : Shaped s) : Answers (execLdhu o s) := h.pyRun fun _ _ h => h.loadBody

theorem Shaped.execLdb {o} (h : Shaped s) : Answers (execLdb o s) := h.pyRun fun _ _ h => h.loadBody

theorem Shaped.execLdbu {o} (h : Shaped s) : Answers (execLdbu o s) := h.pyRun fun _ _ h => h.loadBody

theorem Shaped.execStw {o} (h : Shaped s) : Answers (execStw o s) := h.pyRun fun _ _ h => h.storeBody

theorem Shaped.execSth {o} (h : Shaped s) : Answers (execSth o s) := h.pyRun fun _ _ h => h.storeBody

theorem Shaped.execStb {o} (h : Shaped s) : Answers (execStb o s) := h.pyRun fun _ _ h => h.storeBody

theorem Shaped.execLea {o} (h : Shaped s) : Answers (execLea o s) := h.pyRun fun _ _ h => h.rep fun _ h => .ok h.resultG

theorem Shaped.execLdwpc {o} (h : Shaped s) : Answers (execLdwpc o s) := h.pyRun fun _ _ h => h.load

theorem Shaped.execLeapc {o} (h : Shaped s) : Answers (execLeapc o s) := h.pyRun fun _ _ h => .ok h.resultG

theorem Shaped.popWords {p as ws} (h : Shaped s) : Shaped (s.popWords p as ws).2 := by
  induction as generalizing s ws with
  | nil => exact h
  | cons a as ih =>
    rw [State.popWords]
    split <;> rename_i e
    · exact ih (h.readNow.of_eq e)
    · exact h.readNow.of_eq e

theorem Shaped.pushRegs {o rs} (h : Shaped s) : (pushRegs o rs s).Keeps := by
  unfold Machine.pushRegs
  dsimp only
  split
  · exact .exc h
  · split
    · exact .exc h.storeCheck
    · exact .ok (h.each fun _ _ h => h.pushStoreAt).resultG

theorem Shaped.popRegs {o rs} (h : Shaped s) : (popRegs o rs s).Keeps := by
  unfold Machine.popRegs
  extract_lets sp n f
  split
  · exact .exc h
  · have h1 := h.popWords (p := o.p) (as := (List.range rs.length).map fun i => sp.toNat + 4 * i) (ws := [])
    generalize s.popWords _ _ _ = x at h1 ⊢
    obtain ⟨⟨_ | _ | _ | _, a, ws⟩, t⟩ := x
    · exact .ok (h1.each fun _ _ h => h.resultG).resultG
    · exact .exc h1
    · exact .stay h1
    · exact .stay h1

theorem Shaped.execPush {o} (h : Shaped s) : Answers (execPush o s) := h.pyRun fun _ _ h => h.pushRegs

theorem Shaped.execPop {o} (h : Shaped s) : Answers (execPop o s) := h.pyRun fun _ _ h => h.popRegs

theorem Shaped.execPushm {o} (h : Shaped s) : Answers (execPushm o s) := h.pyRun fun _ _ h => h.pushRegs

theorem Shaped.execPopm {o} (h : Shaped s) : Answers (execPopm o s) := h.pyRun fun _ _ h => h.popRegs

theorem Shaped.writePort {p a v} (h : Shaped s) : Shaped (s.writePort p a v) := by
  unfold State.writePort
  dsimp only
  split
  · exact h.noteCode.writeEcc
  · exact h.noteCode.storeFar

theorem Shaped.rmwBody {o f fl} (h : Shaped s) : (rmwBody o f fl s).Keeps := by
  unfold Machine.rmwBody
  dsimp only
  split
  · exact .exc h
  · split <;> rename_i e
    · exact .exc (h.loadPort.of_eq e)
    · replace h := h.loadPort.of_eq e
      refine .ok (.resultFlags (.resultG ?_))
      split
      · exact h.writePort
      · exact h

theorem Shaped.execAddm {o} (h : Shaped s) : Answers (execAddm o s) := h.pyRun fun _ _ h => h.rmwBody

theorem Shaped.execAndm {o} (h : Shaped s) : Answers (execAndm o s) := h.pyRun fun _ _ h => h.rmwBody

theorem Shaped.execOrm {o} (h : Shaped s) : Answers (execOrm o s) := h.pyRun fun _ _ h => h.rmwBody

theorem Shaped.execXorm {o} (h : Shaped s) : Answers (execXorm o s) := h.pyRun fun _ _ h => h.rmwBody

theorem Shaped.execXchg {o} (h : Shaped s) : Answers (execXchg o s) := h.pyRun fun _ _ h => h.rmwBody

theorem Shaped.execCasw {o} (h : Shaped s) : Answers (execCasw o s) := h.pyRun fun _ _ h => h.rmwBody

theorem Shaped.execStwi {o} (h : Shaped s) : Answers (execStwi o s) := h.pyRun fun _ _ h => by
    dsimp only
    split
    · exact .exc h
    · split <;> rename_i e
      · exact .exc (h.loadPort.of_eq e)
      · exact .ok (h.loadPort.of_eq e).writePort

/-! `Machine/Float.lean` keeps the shape. -/

theorem Shaped.resultF {o lat r} (h : Shaped s) : Shaped (s.resultF o lat r) := h.result.resultFp

theorem Shaped.fpBody {o f c} (h : Shaped s) : (fpBody o f c s).Keeps := .ok h.resultF

theorem Shaped.fpShort {o f c} (h : Shaped s) : (fpShort o f c s).Keeps := .ok h.resultF

theorem Shaped.execFadd {o} (h : Shaped s) : Answers (execFadd o s) := h.pyRun fun _ _ h => h.fpBody

theorem Shaped.execFsub {o} (h : Shaped s) : Answers (execFsub o s) := h.pyRun fun _ _ h => h.fpBody

theorem Shaped.execFmul {o} (h : Shaped s) : Answers (execFmul o s) := h.pyRun fun _ _ h => h.fpBody

theorem Shaped.execFmin {o} (h : Shaped s) : Answers (execFmin o s) := h.pyRun fun _ _ h => h.fpShort

theorem Shaped.execFmax {o} (h : Shaped s) : Answers (execFmax o s) := h.pyRun fun _ _ h => h.fpShort

theorem Shaped.execFcmp {o} (h : Shaped s) : Answers (execFcmp o s) := h.pyRun fun _ _ h => .ok h.resultFlags.resultFp

theorem Shaped.execFmov {o} (h : Shaped s) : Answers (execFmov o s) := h.pyRun fun _ _ h => h.fpShort

theorem Shaped.execFneg {o} (h : Shaped s) : Answers (execFneg o s) := h.pyRun fun _ _ h => h.fpShort

theorem Shaped.execFabs {o} (h : Shaped s) : Answers (execFabs o s) := h.pyRun fun _ _ h => h.fpShort

theorem Shaped.execFmtg {o} (h : Shaped s) : Answers (execFmtg o s) := h.pyRun fun _ _ h => .ok h.resultG

theorem Shaped.execFmfg {o} (h : Shaped s) : Answers (execFmfg o s) := h.pyRun fun _ _ h => .ok h.resultF

theorem Shaped.execFcvti {o} (h : Shaped s) : Answers (execFcvti o s) := h.pyRun fun _ _ h => .ok h.resultG.resultFp

theorem Shaped.execFcvtf {o} (h : Shaped s) : Answers (execFcvtf o s) := h.pyRun fun _ _ h => .ok h.resultF

theorem Shaped.execFld {o} (h : Shaped s) : Answers (execFld o s) := h.pyRun fun _ _ h => h.load

theorem Shaped.execFst {o} (h : Shaped s) : Answers (execFst o s) := h.pyRun fun _ _ h => h.store

/-! `Machine/Long.lean` keeps the shape. -/

theorem Shaped.longG {o u rs} (h : Shaped s) : (longG o u rs s).Keeps := .ok h.startLong

theorem Shaped.divBody {o f c} (h : Shaped s) : (divBody o f c s).Keeps := h.longG

theorem Shaped.fpLong {o r} (h : Shaped s) : (fpLong o r s).Keeps := .ok h.startLong

theorem Shaped.execDivOp {o} (h : Shaped s) : Answers (execDivOp o s) := h.pyRun fun _ _ h => h.divBody

theorem Shaped.execDivu {o} (h : Shaped s) : Answers (execDivu o s) := h.pyRun fun _ _ h => h.divBody

theorem Shaped.execRem {o} (h : Shaped s) : Answers (execRem o s) := h.pyRun fun _ _ h => h.divBody

theorem Shaped.execRemu {o} (h : Shaped s) : Answers (execRemu o s) := h.pyRun fun _ _ h => h.divBody

theorem Shaped.execSqrt {o} (h : Shaped s) : Answers (execSqrt o s) := h.pyRun fun _ _ h => h.divBody

theorem Shaped.execCordic {o} (h : Shaped s) : Answers (execCordic o s) := h.pyRun fun _ _ h => h.longG

theorem Shaped.execFdiv {o} (h : Shaped s) : Answers (execFdiv o s) := h.pyRun fun _ _ h => h.fpLong

theorem Shaped.execFsqrt {o} (h : Shaped s) : Answers (execFsqrt o s) := h.pyRun fun _ _ h => h.fpLong

theorem Shaped.setProg {p v} (h : Shaped s) : Shaped (s.setProg p v) := h.modBank

/-- The state that an element of a block instruction ends with is in shape. -/
inductive ElemRes.Keeps : ElemRes → Prop
  | next {acc} {s : State} (h : Shaped s) : Keeps (.next acc s)
  | fault {code info a} {s : State} (h : Shaped s) : Keeps (.fault code info a s)
  | gone {s : State} (h : Shaped s) : Keeps (.gone s)
  | waits {s : State} (h : Shaped s) : Keeps (.waits s)

theorem Shaped.elemRead {p a n forward} {k : Word → State → ElemRes} (h : Shaped s)
    (hk : ∀ v s, Shaped s → (k v s).Keeps) : (s.elemRead p a n forward k).Keeps := by
  unfold State.elemRead
  extract_lets code
  split
  · exact .fault h
  · have h1 := h.readNow (p := p) (a := a) (n := n) (forward := forward)
    generalize s.readNow p a n forward = x at h1 ⊢
    obtain ⟨_ | _ | _ | _, t⟩ := x
    · exact hk _ _ h1
    · exact .fault h1
    · exact .gone h1
    · exact .waits h1

/-- A block instruction whose element, write-back and end keep the shape. -/
structure Block.Keeps (b : Block) : Prop where
  elem : ∀ k acc s, Shaped s → (b.elem k acc s).Keeps
  save : ∀ acc s, Shaped s → Shaped (b.save acc s) := by exact fun _ _ h => h
  close : ∀ acc s, Shaped s → Shaped (b.close acc s) := by exact fun _ _ h => h

theorem Block.Keeps.run {b : Block} {o total n k acc} (hb : b.Keeps) (h : Shaped s) :
    (b.run o total n k acc s).Keeps := by
  induction n generalizing s k acc with
  | zero =>
    unfold Block.run
    split
    · exact .ok (hb.close _ _ h).setProg
    · exact .left (hb.save _ _ h).setProg
  | succ n ih =>
    unfold Block.run
    split
    · exact .ok (hb.close _ _ h).setProg
    · have h1 := hb.elem k acc s h
      dsimp only
      generalize b.elem k acc s = x at h1 ⊢
      cases h1 with
      | next h => exact ih h.slots
      | fault h => exact .exc (hb.save _ _ h).setProg
      | gone h => exact .stay h
      | waits h => exact .stay (hb.save _ _ h).setProg

theorem Shaped.blockBody {o acc b} (h : Shaped s) (hb : Block.Keeps b) : (blockBody o acc b s).Keeps := by
  unfold Machine.blockBody
  extract_lets total prog k
  split
  · exact .ok (hb.close _ _ h).setProg
  · exact hb.run h

theorem Shaped.execBmov {o} (h : Shaped s) : Answers (execBmov o s) := h.pyRun fun _ _ h => h.blockBody {
    elem := fun k acc s h => h.elemRead fun v s h => by
      dsimp only
      split <;> rename_i e
      · exact .next (h.storeCheck.of_eq e).pushStoreAt
      · exact .fault (h.storeCheck.of_eq e) }

theorem Shaped.execVmac {o} (h : Shaped s) : Answers (execVmac o s) := h.pyRun fun _ _ h => h.blockBody {
    elem := fun _ _ _ h => h.elemRead fun _ _ h => h.elemRead fun _ _ h =>
      .next (.ite (h.modCore fun _ hc => hc.write _ _) h)
    save := fun _ _ h => h.setG.setG
    close := fun _ _ h => h.startLong }

theorem Shaped.settled {p a} (h : Shaped s) : Shaped (s.settled p a) := h.retireOverlap.deliverMem

theorem Shaped.execBscan {o} (h : Shaped s) : Answers (execBscan o s) := h.pyRun fun _ _ h => h.blockBody {
    elem := fun _ _ _ h => Shaped.elemRead (.ite h.settled h) fun _ _ h => .next (.ite h.setG h) }

theorem Shaped.execCrcb {o} (h : Shaped s) : Answers (execCrcb o s) := h.pyRun fun _ _ h => h.blockBody {
    elem := fun _ _ _ h => h.elemRead fun _ _ h => .next h.setG }

/-! `Machine/Dispatch.lean` keeps the shape. -/

theorem Shaped.exec {i} (h : Shaped s) : Answers (exec i s) := by
  cases i with
  | tick => exact h.execTick
  | swapWindow => exact h.execSwapWindow
  | modeSwitch => exact h.execModeSwitch
  | baseGridInstant => exact h.execBaseGridInstant
  | carrierPeriodStart => exact h.execCarrierPeriodStart
  | pllLock => exact h.execPllLock
  | dlcalDone => exact h.execDlcalDone
  | xinLoss => exact h.execXinLoss
  | xinReturn => exact h.execXinReturn
  | holdoverLimit => exact h.execHoldoverLimit
  | enginePllFault => exact h.execEnginePllFault
  | tbuCompare => exact h.execTbuCompare
  | tbcRead => exact h.execTbcRead
  | bgcRead => exact h.execBgcRead
  | portSymbolsDetected => exact h.execPortSymbolsDetected
  | portTrained => exact h.execPortTrained
  | portMeasured => exact h.execPortMeasured
  | portDown => exact h.execPortDown
  | tickMarkerRx => exact h.execTickMarkerRx
  | announceTimer => exact h.execAnnounceTimer
  | announceRx => exact h.execAnnounceRx
  | announceTimeout => exact h.execAnnounceTimeout
  | timeFrameRx => exact h.execTimeFrameRx
  | dutyFrameRx => exact h.execDutyFrameRx
  | dutyApply => exact h.execDutyApply
  | dutyFrameTimeout => exact h.execDutyFrameTimeout
  | spanlossRx => exact h.execSpanlossRx
  | rejoin => exact h.execRejoin
  | messageQueue => exact h.execMessageQueue
  | messageRx => exact h.execMessageRx
  | ackRx => exact h.execAckRx
  | ackTimeout => exact h.execAckTimeout
  | flkCommitLock => exact h.execFlkCommitLock
  | phaCommitLock => exact h.execPhaCommitLock
  | anvCommitLock => exact h.execAnvCommitLock
  | rlcCommitLock => exact h.execRlcCommitLock
  | icuCommitLock => exact h.execIcuCommitLock
  | hifCommitLock => exact h.execHifCommitLock
  | commitUnlock => exact h.execCommitUnlock
  | senDelayEnd => exact h.execSenDelayEnd
  | stageAbsent => exact h.execStageAbsent
  | stagePresent => exact h.execStagePresent
  | stageFault => exact h.execStageFault
  | ocTrip => exact h.execOcTrip
  | phaseAdd => exact h.execPhaseAdd
  | phaseShed => exact h.execPhaseShed
  | phaseRemove => exact h.execPhaseRemove
  | phaseRestore => exact h.execPhaseRestore
  | governorAdd => exact h.execGovernorAdd
  | governorShed => exact h.execGovernorShed
  | readd => exact h.execReadd
  | readdHoldEnd => exact h.execReaddHoldEnd
  | blendEnd => exact h.execBlendEnd
  | tempConversion => exact h.execTempConversion
  | tallyInject => exact h.execTallyInject
  | capStatRead => exact h.execCapStatRead
  | calUpdate => exact h.execCalUpdate
  | offsetEstimate => exact h.execOffsetEstimate
  | zofsLearn => exact h.execZofsLearn
  | domainGainWindow => exact h.execDomainGainWindow
  | lrEstimate => exact h.execLrEstimate
  | pleanEvent => exact h.execPleanEvent
  | preleanEnd => exact h.execPreleanEnd
  | sloadEvent => exact h.execSloadEvent
  | trigPlean => exact h.execTrigPlean
  | trigSload => exact h.execTrigSload
  | swapRequest => exact h.execSwapRequest
  | swapAllbound => exact h.execSwapAllbound
  | swapCancel => exact h.execSwapCancel
  | shadowWrite => exact h.execShadowWrite
  | bankCheck => exact h.execBankCheck
  | faultedClear => exact h.execFaultedClear
  | snapshotRequest => exact h.execSnapshotRequest
  | droopCrossing => exact h.execDroopCrossing
  | releaseCrossing => exact h.execReleaseCrossing
  | maxonExpiry => exact h.execMaxonExpiry
  | lockoutEnd => exact h.execLockoutEnd
  | overshootCrossing => exact h.execOvershootCrossing
  | overshootRelease => exact h.execOvershootRelease
  | ovmaxExpiry => exact h.execOvmaxExpiry
  | warnAssert => exact h.execWarnAssert
  | plarm => exact h.execPlarm
  | plarmEnd => exact h.execPlarmEnd
  | protectionAction => exact h.execProtectionAction
  | protectionWarn => exact h.execProtectionWarn
  | blwQuench => exact h.execBlwQuench
  | blwQuenchDev => exact h.execBlwQuenchDev
  | quenchRailCommand => exact h.execQuenchRailCommand
  | quenchDeviceCommand => exact h.execQuenchDeviceCommand
  | hiccupEnd => exact h.execHiccupEnd
  | retryCountClear => exact h.execRetryCountClear
  | phaseHiccupEnd => exact h.execPhaseHiccupEnd
  | phaseRetryClear => exact h.execPhaseRetryClear
  | latchClear => exact h.execLatchClear
  | tonDelayEnd => exact h.execTonDelayEnd
  | toffDelayEnd => exact h.execToffDelayEnd
  | groupOn => exact h.execGroupOn
  | groupOff => exact h.execGroupOff
  | frefWrite => exact h.execFrefWrite
  | frefAtRelease => exact h.execFrefAtRelease
  | hrefWrite => exact h.execHrefWrite
  | avsTargetVoltageWrite => exact h.execAvsTargetVoltageWrite
  | avsWriteAndHold => exact h.execAvsWriteAndHold
  | avsTargetVoltageRead => exact h.execAvsTargetVoltageRead
  | avsTransitionRate => exact h.execAvsTransitionRate
  | avsRailCurrent => exact h.execAvsRailCurrent
  | avsRailTemperature => exact h.execAvsRailTemperature
  | avsResetVoltage => exact h.execAvsResetVoltage
  | avsStatus => exact h.execAvsStatus
  | avsVersion => exact h.execAvsVersion
  | avsUnsupported => exact h.execAvsUnsupported
  | pageCmd => exact h.execPageCmd
  | operationOn => exact h.execOperationOn
  | operationOff => exact h.execOperationOff
  | operationImmediateOff => exact h.execOperationImmediateOff
  | operationMarginLow => exact h.execOperationMarginLow
  | operationMarginHigh => exact h.execOperationMarginHigh
  | onOffConfig => exact h.execOnOffConfig
  | clearFaults => exact h.execClearFaults
  | writeProtect => exact h.execWriteProtect
  | storeUserAll => exact h.execStoreUserAll
  | restoreUserAll => exact h.execRestoreUserAll
  | capability => exact h.execCapability
  | voutMode => exact h.execVoutMode
  | voutCommand => exact h.execVoutCommand
  | voutMax => exact h.execVoutMax
  | voutMin => exact h.execVoutMin
  | voutMarginHigh => exact h.execVoutMarginHigh
  | voutMarginLow => exact h.execVoutMarginLow
  | voutTransitionRate => exact h.execVoutTransitionRate
  | voutDroop => exact h.execVoutDroop
  | voutScaleLoop => exact h.execVoutScaleLoop
  | voutOvFaultLimit => exact h.execVoutOvFaultLimit
  | voutUvFaultLimit => exact h.execVoutUvFaultLimit
  | voutOvWarnLimit => exact h.execVoutOvWarnLimit
  | voutUvWarnLimit => exact h.execVoutUvWarnLimit
  | voutOvFaultResponse => exact h.execVoutOvFaultResponse
  | voutUvFaultResponse => exact h.execVoutUvFaultResponse
  | ioutOcFaultLimit => exact h.execIoutOcFaultLimit
  | ioutOcWarnLimit => exact h.execIoutOcWarnLimit
  | ioutOcFaultResponse => exact h.execIoutOcFaultResponse
  | otFaultLimit => exact h.execOtFaultLimit
  | otWarnLimit => exact h.execOtWarnLimit
  | otFaultResponse => exact h.execOtFaultResponse
  | vinOvFaultLimit => exact h.execVinOvFaultLimit
  | vinUvFaultLimit => exact h.execVinUvFaultLimit
  | tonDelay => exact h.execTonDelay
  | tonRise => exact h.execTonRise
  | toffDelay => exact h.execToffDelay
  | toffFall => exact h.execToffFall
  | statusByte => exact h.execStatusByte
  | statusWord => exact h.execStatusWord
  | statusVout => exact h.execStatusVout
  | statusIout => exact h.execStatusIout
  | statusInput => exact h.execStatusInput
  | statusTemperature => exact h.execStatusTemperature
  | statusCml => exact h.execStatusCml
  | statusMfrSpecific => exact h.execStatusMfrSpecific
  | readVin => exact h.execReadVin
  | readVout => exact h.execReadVout
  | readIout => exact h.execReadIout
  | readTemperature1 => exact h.execReadTemperature1
  | readTemperature2 => exact h.execReadTemperature2
  | readPout => exact h.execReadPout
  | pmbusRevision => exact h.execPmbusRevision
  | mfrId => exact h.execMfrId
  | mfrModel => exact h.execMfrModel
  | mfrRevision => exact h.execMfrRevision
  | mfrPhaseCmd => exact h.execMfrPhaseCmd
  | mfrPhaseCount => exact h.execMfrPhaseCount
  | mfrBellowsCount => exact h.execMfrBellowsCount
  | mfrLatchClear => exact h.execMfrLatchClear
  | mfrRefInForce => exact h.execMfrRefInForce
  | mfrTbc => exact h.execMfrTbc
  | mfrFaultLog => exact h.execMfrFaultLog
  | alertResponse => exact h.execAlertResponse
  | pmbusUnsupported => exact h.execPmbusUnsupported
  | pmbusSclTimeout => exact h.execPmbusSclTimeout
  | channelForward => exact h.execChannelForward
  | delayElementFire => exact h.execDelayElementFire
  | oneShotEnd => exact h.execOneShotEnd
  | consumerFire => exact h.execConsumerFire
  | evfCommitGo => exact h.execEvfCommitGo
  | evfCommitCheck => exact h.execEvfCommitCheck
  | evioInputEdge => exact h.execEvioInputEdge
  | evioOutput => exact h.execEvioOutput
  | evioPulseEnd => exact h.execEvioPulseEnd
  | icuSourceEdge => exact h.execIcuSourceEdge
  | icuSoftwareSet => exact h.execIcuSoftwareSet
  | interruptEntry => exact h.execInterruptEntry
  | taskActivation => exact h.execTaskActivation
  | slotEnable => exact h.execSlotEnable
  | coreReset => exact h.execCoreReset
  | dozeWake => exact h.execDozeWake
  | longOpComplete => exact h.execLongOpComplete
  | storeBufferRetire => exact h.execStoreBufferRetire
  | mergeBufferFlush => exact h.execMergeBufferFlush
  | remoteAccess => exact h.execRemoteAccess
  | interconnectResponse => exact h.execInterconnectResponse
  | ucFetchFault => exact h.execUcFetchFault
  | ucLoad => exact h.execUcLoad
  | ucVerify => exact h.execUcVerify
  | ucSwitch => exact h.execUcSwitch
  | ucCopy => exact h.execUcCopy
  | ucCommandDone => exact h.execUcCommandDone
  | ucSwitchTake => exact h.execUcSwitchTake
  | patchWrite => exact h.execPatchWrite
  | patchLock => exact h.execPatchLock
  | memInject => exact h.execMemInject
  | addOp => exact h.execAddOp
  | subOp => exact h.execSubOp
  | andOp => exact h.execAndOp
  | orOp => exact h.execOrOp
  | xorOp => exact h.execXorOp
  | shl => exact h.execShl
  | shr => exact h.execShr
  | sar => exact h.execSar
  | ror => exact h.execRor
  | cmp => exact h.execCmp
  | tst => exact h.execTst
  | mov => exact h.execMov
  | adc => exact h.execAdc
  | sbc => exact h.execSbc
  | minOp => exact h.execMinOp
  | maxOp => exact h.execMaxOp
  | mul => exact h.execMul
  | mulh => exact h.execMulh
  | mulhu => exact h.execMulhu
  | qmul => exact h.execQmul
  | qmul15 => exact h.execQmul15
  | add15 => exact h.execAdd15
  | sub15 => exact h.execSub15
  | clz => exact h.execClz
  | popc => exact h.execPopc
  | bfx => exact h.execBfx
  | bfxs => exact h.execBfxs
  | bfi => exact h.execBfi
  | rev => exact h.execRev
  | ldw => exact h.execLdw
  | ldh => exact h.execLdh
  | ldhu => exact h.execLdhu
  | ldb => exact h.execLdb
  | ldbu => exact h.execLdbu
  | stw => exact h.execStw
  | sth => exact h.execSth
  | stb => exact h.execStb
  | lea => exact h.execLea
  | ldwpc => exact h.execLdwpc
  | leapc => exact h.execLeapc
  | push => exact h.execPush
  | pop => exact h.execPop
  | pushm => exact h.execPushm
  | popm => exact h.execPopm
  | addm => exact h.execAddm
  | andm => exact h.execAndm
  | orm => exact h.execOrm
  | xorm => exact h.execXorm
  | xchg => exact h.execXchg
  | casw => exact h.execCasw
  | stwi => exact h.execStwi
  | btst => exact h.execBtst
  | bset => exact h.execBset
  | bclr => exact h.execBclr
  | bnot => exact h.execBnot
  | bld => exact h.execBld
  | bst => exact h.execBst
  | fadd => exact h.execFadd
  | fsub => exact h.execFsub
  | fmul => exact h.execFmul
  | fmin => exact h.execFmin
  | fmax => exact h.execFmax
  | fcmp => exact h.execFcmp
  | fmov => exact h.execFmov
  | fneg => exact h.execFneg
  | fabs => exact h.execFabs
  | fmtg => exact h.execFmtg
  | fmfg => exact h.execFmfg
  | fcvti => exact h.execFcvti
  | fcvtf => exact h.execFcvtf
  | fld => exact h.execFld
  | fst => exact h.execFst
  | bcc => exact h.execBcc
  | call => exact h.execCall
  | jmp => exact h.execJmp
  | callr => exact h.execCallr
  | ret => exact h.execRet
  | dbnz => exact h.execDbnz
  | mfsr => exact h.execMfsr
  | mtsr => exact h.execMtsr
  | syscall => exact h.execSyscall
  | brk => exact h.execBrk
  | rete => exact h.execRete
  | waitOp => exact h.execWaitOp
  | yield => exact h.execYield
  | fetchsync => exact h.execFetchsync
  | sync => exact h.execSync
  | nopOp => exact h.execNopOp
  | divOp => exact h.execDivOp
  | divu => exact h.execDivu
  | rem => exact h.execRem
  | remu => exact h.execRemu
  | sqrt => exact h.execSqrt
  | cordic => exact h.execCordic
  | fdiv => exact h.execFdiv
  | fsqrt => exact h.execFsqrt
  | bmov => exact h.execBmov
  | vmac => exact h.execVmac
  | bscan => exact h.execBscan
  | crcb => exact h.execCrcb
  | sqDoorbell => exact h.execSqDoorbell
  | descriptorFetch => exact h.execDescriptorFetch
  | hostNop => exact h.execHostNop
  | regw => exact h.execRegw
  | regr => exact h.execRegr
  | railVset => exact h.execRailVset
  | railOn => exact h.execRailOn
  | phaseCmd => exact h.execPhaseCmd
  | quench => exact h.execQuench
  | capture => exact h.execCapture
  | capDump => exact h.execCapDump
  | capRearm => exact h.execCapRearm
  | fwDescriptor q => exact exec_fwDescriptor q s ▸ h.execFwDescriptor
  | fwCompletion => exact h.execFwCompletion
  | completionPost => exact h.execCompletionPost
  | cqHeadDoorbell => exact h.execCqHeadDoorbell
  | telemetryHeadDoorbell => exact h.execTelemetryHeadDoorbell
  | eventHeadDoorbell => exact h.execEventHeadDoorbell
  | ringRestart => exact h.execRingRestart
  | queueRestart => exact h.execQueueRestart
  | hostWorldLock => exact h.execHostWorldLock
  | eventRecordWrite => exact h.execEventRecordWrite
  | eventPost => exact h.execEventPost
  | telemetryRecord => exact h.execTelemetryRecord
  | linkRateChange => exact h.execLinkRateChange
  | captureTrigger => exact h.execCaptureTrigger
  | captureArm => exact h.execCaptureArm
  | captureDump => exact h.execCaptureDump
  | captureFreeze => exact h.execCaptureFreeze
  | dumpRecord => exact h.execDumpRecord
  | hostInterfaceReset => exact h.execHostInterfaceReset
  | linkUp => exact h.execLinkUp
  | coldReset => exact h.execColdReset
  | brownOut => exact h.execBrownOut
  | resetPin => exact h.execResetPin
  | watchdogExpiry => exact h.execWatchdogExpiry
  | kindleReset => exact h.execKindleReset
  | resetRelease => exact h.execResetRelease
  | kindle => exact h.execKindle
  | flashRead => exact h.execFlashRead
  | flashProgram => exact h.execFlashProgram
  | flashErase => exact h.execFlashErase
  | jappend => exact h.execJappend
  | flashOpDone => exact h.execFlashOpDone
  | otpProg => exact h.execOtpProg
  | otpAdvance => exact h.execOtpAdvance
  | otpOpDone => exact h.execOtpOpDone
  | mramRecordWrite => exact h.execMramRecordWrite
  | mramPost => exact h.execMramPost
  | runSecond => exact h.execRunSecond
  | holdRequest => exact h.execHoldRequest
  | holdExitRequest => exact h.execHoldExitRequest
  | holdLimit => exact h.execHoldLimit
  | qexit => exact h.execQexit
  | emberReq => exact h.execEmberReq
  | emberWake => exact h.execEmberWake
  | etimerMatch => exact h.execEtimerMatch
  | supplyDip => exact h.execSupplyDip
  | dipExit => exact h.execDipExit
  | watchdogEnable => exact h.execWatchdogEnable
  | watchdogKick => exact h.execWatchdogKick
  | watchdogWarn => exact h.execWatchdogWarn
  | mfuEdge => exact h.execMfuEdge
  | probeEdge => exact h.execProbeEdge
  | posRead => exact h.execPosRead
  | posWrite => exact h.execPosWrite
  | speedUpdate => exact h.execSpeedUpdate
  | pwmPeriodStart => exact h.execPwmPeriodStart
  | idcode => exact h.execIdcode
  | samplePreload => exact h.execSamplePreload
  | extest => exact h.execExtest
  | highz => exact h.execHighz
  | clamp => exact h.execClamp
  | bypass => exact h.execBypass
  | waimondInstruction => exact h.execWaimondInstruction
  | readClear => exact h.execReadClear
  | registerWrite => exact h.execRegisterWrite
  | delayreqRx => exact h.execDelayreqRx
  | illegalInstruction => exact h.execIllegalInstruction
  | d3hot => exact h.execD3hot

theorem Shaped.step (h : Shaped s) : Answers (step s) := by
  unfold Machine.step
  split
  · rintro _ ⟨⟩
    exact h
  · exact h.frame.exec

end

/-- Settles O45: every command keeps the shape, whatever the state. -/
theorem stepKeepsTheShape : Obligations.StepKeepsTheShape := fun _ t hs ht =>
  (shaped_iff t).mpr (((shaped_iff _).mp hs).step t ht)

end Sys2Proof.Machine

end

section
/-! PROOFS. What one step does: the two shapes of the queue (R15, log entry 1). -/

namespace Sys2Proof.Machine
open Sys2Proof

section
variable {s : State}

/-- On an empty queue the device idles (log entry 1). -/
theorem step_of_pending_nil (h : s.pending = []) : step s = .next s := by
  rw [step, h]

/-- The front of the queue takes effect in the state that has the queue's rest. -/
theorem step_of_pending_cons {c : Instr} {cs : List Instr} (h : s.pending = c :: cs) :
    step s = exec c (s.withPending cs) := by
  rw [step, h]

end

/-- Settles O36: `State.withPending` is the update of the queue that the statement writes out. -/
theorem stepTakesFront : Obligations.StepTakesFront := fun _ _ _ h => step_of_pending_cons h

/-- Settles O37, by the idle case of the step. -/
theorem emptyQueueIdles : Obligations.EmptyQueueIdles := fun _ h => step_of_pending_nil h

end Sys2Proof.Machine

end

section
/-! PROOFS. The rows of the timebase: clocks, the base grid, mode switches, compare units and snapshots (R36 to R43, R72). -/

namespace Sys2Proof.Machine
open Sys2Proof

/-- A row whose operands are sound answers, in a live device, the state that its meaning makes, with the queue as it was. -/
theorem runs_next {ok : Bool} {s u : State} {f : State → State} (hok : ok = true) (ha : s.alive = true) (hu : f s = u) :
    runs ok s f = .next (u.keep s) := by
  rw [runs_eq hok ha, hu]

/-- A row whose meaning changes nothing leaves the state as it was. -/
theorem runs_same {ok : Bool} {s : State} {f : State → State} (hok : ok = true) (ha : s.alive = true) (hu : f s = s) :
    runs ok s f = .next s := by
  rw [runs_next hok ha hu, keep_self]

/-- Two changes that agree wherever an invariant of the first holds make the same run over a list. -/
theorem each_congr_inv {α : Type} {f f' : State → α → State} (P : State → Prop) (hP : ∀ s x, P s → P (f s x))
    (h : ∀ s x, P s → f s x = f' s x) {s : State} (hs : P s) (l : List α) : s.each l f = s.each l f' := by
  unfold State.each
  induction l generalizing s with
  | nil => rfl
  | cons x l ih => rw [List.foldl_cons, List.foldl_cons, ← h s x hs, ih (hP s x hs)]

/-- A master boundary changes the rail's carrier state alone, and so no clock. -/
@[simp] theorem masterBoundary_tbu (s : State) (r t0 t : Nat) : (s.masterBoundary r t0 t).tbu = s.tbu := by
  unfold State.masterBoundary
  dsimp only [State.modRx_tbu]
  cases (s.rx r).master with
  | none => rfl
  | some m =>
    dsimp only
    generalize (if alignUp m (s.rx r).per (t0 + 1) = t then s.get (PHA_RAIL_PER.PERIOD r) else (s.rx r).seen) = per
    split <;> rfl

/-- The clock does not move within a base-grid instant: the boundaries of every rail are judged at the same instant. -/
theorem each_masterBoundary_now (s : State) (l : List Nat) (t0 : Nat) :
    s.each l (fun x r => x.masterBoundary r t0 x.tbu.now) = s.each l (fun x r => x.masterBoundary r t0 s.tbu.now) :=
  each_congr_inv (fun x => x.tbu = s.tbu) (fun x r hx => (masterBoundary_tbu x r t0 _).trans hx) (fun x r hx => by rw [hx]) rfl l

/-- The bit of TBU_STAT that shows Graze's ticks is not the mode of PMU_STAT (R40, R404). -/
theorem mode_setb_tbuMode {s : State} (h : spWf resetVal s.regs = true) (g : Bool) : (s.setb TBU_STAT.MODE g).mode = s.mode :=
  get_set_apart h _ (by decide) (by decide) (.inl (by decide))

/-- A captured mode change at a boundary that allows it, outside Hold (R40, R407). -/
theorem exec_modeSwitch_taken {s : State} {g : Bool} (ha : s.alive = true) (hcap : s.tbu.modeCap = some g)
    (hgrid : s.flockTime % 4 = 0) (hwin : g = true ∨ s.tbu.windowOpen = true) (hhold : s.mode ≠ modeHold)
    (hwf : spWf resetVal s.regs = true) {u : State} (hu : u = { s.setb TBU_STAT.MODE g with tbu := { s.tbu with modeCap := none } }) :
    exec .modeSwitch s = .next ((if s.mode = modeRun ∨ s.mode = modeGraze
      then u.set PMU_STAT.MODE (if g then modeGraze else modeRun) else u).keep s) := by
  have hok : (if g then s.flockTime % 4 == 0 else s.tbu.windowOpen && s.flockTime % 4 == 0) = true := by
    cases g <;> simp_all
  have hmode : u.mode = s.mode := by
    rw [hu]
    exact mode_setb_tbuMode hwf g
  refine (exec_modeSwitch s).trans (runs_next rfl ha ?_)
  simp only [hcap, hok, beq_eq_false_iff_ne.mpr hhold, Bool.not_true, Bool.or_false, Bool.false_eq_true, if_false]
  rw [← hmode, hu]

/-- The cycles of a tick are at most Graze's (R20, R26). -/
theorem tickCycles_le (s : State) : s.tickCycles ≤ 200 := by
  unfold State.tickCycles
  split <;> decide

/-- Settles O1: each row runs, and takes the branch that the clause's state allows; only the mode switch and the base-grid
instant need more, that PMU_STAT and the clock stay as they are while they run. -/
theorem timebaseRowsComplete : Obligations.TimebaseRowsComplete := by
  refine ⟨?_, ?_, ?_, ?_, ?_, ?_, ?_, ?_⟩
  · intro s ha
    refine ⟨fun h => ?_, fun h => ?_, ?_, ?_, ?_⟩
    · exact (exec_pllLock 0 s).trans (runs_next rfl ha (by simp [h]))
    · exact (exec_pllLock 0 s).trans (runs_same rfl ha (by simp [h]))
    · exact (exec_pllLock 1 s).trans (runs_next rfl ha rfl)
    · exact (exec_pllLock 2 s).trans (runs_next rfl ha rfl)
    · exact (exec_dlcalDone s).trans (runs_next rfl ha rfl)
  · intro s ha h
    exact (exec_xinLoss s).trans (runs_next rfl ha (by simp [h]))
  · intro s ha h
    exact (exec_xinReturn s).trans (runs_next rfl ha (by simp [h]))
  · intro s ha h
    refine ⟨_, _, _, (exec_baseGridInstant s).trans (runs_next rfl ha ?_), rfl, rfl, rfl⟩
    simp only [h, Bool.not_true, Bool.false_eq_true, if_false, each_masterBoundary_now]
  · intro s g ha hcap hgrid hwin hhold hwf u hu
    exact exec_modeSwitch_taken ha hcap hgrid hwin hhold hwf hu
  · intro s n ha hn hen hreached
    exact (exec_tbuCompare n s).trans (runs_next (decide_eq_true hn) ha (by simp [hen, hreached]))
  · intro s w sub ha hw hsub hread
    have hok : (wfTbcRead w sub && decide (sub < s.tickCycles)) = true := by
      simp [wfTbcRead, hw, hsub, hsub.trans_le (tickCycles_le s)]
    exact (exec_tbcRead w sub s).trans (runs_next hok ha (asRead_may hread _))
  · intro s w ha hw hread
    exact (exec_bgcRead w s).trans (runs_next hw ha (asRead_may hread _))

end Sys2Proof.Machine

end

section
/-! PROOFS. The rows of the Flock ports: link states, round trips, tick markers, announcements, flock time and acknowledges (R47 to R51, R56, R59). -/

namespace Sys2Proof.Machine
open Sys2Proof

section
variable {s : State} {p : Nat}

theorem portState_of_portUp (h : s.portUp p = true) : s.portState p = 3 := beq_iff_eq.mp h

/-- A control frame that fails its check is counted (R59). -/
theorem ctlRx_bad {frame : Bytes} (h : ctlOfBytes frame = none) (ty : Nat) (act : Bytes → State) :
    s.ctlRx p frame ty act = s.bump (FLK_PORT_ERR.CODE p) := by
  rw [State.ctlRx, h]

/-- The body of a good control frame of the awaited type acts (R44). -/
theorem ctlRx_good {frame body : Bytes} {ty : Nat} (h : ctlOfBytes frame = some (ty, body)) (act : Bytes → State) :
    s.ctlRx p frame ty act = act body := by
  rw [State.ctlRx, h]
  exact if_pos rfl

/-- The row's test, on the state that has counted the violations. -/
def State.portFalls (u : State) (p miss : Nat) (viol : Option Nat) : Bool :=
  (u.portUp p && (decide (4 ≤ miss) || decide (8 < viol.getD 0)))
    || (u.portState p != 0 && (!nbit (u.get FLK_CTL.PORT_EN) p || viol.isNone))

/-- What takes a port DOWN: four missing markers or more than eight violations while it is UP, PORT_EN 0 or a lost PHY supply
in any state (R47, R59, R444). -/
theorem portFalls_iff {miss : Nat} {viol : Option Nat} : s.portFalls p miss viol = true ↔
    s.portUp p = true ∧ (4 ≤ miss ∨ 8 < viol.getD 0)
      ∨ s.portState p ≠ 0 ∧ (nbit (s.get FLK_CTL.PORT_EN) p = false ∨ viol = none) := by
  simp [State.portFalls]

/-- The violations are counted before the test, so one that arrives counts also where the port stays (R59). -/
theorem exec_portDown_eq (ha : s.alive = true) (hp : p < 3) (miss : Nat) (viol : Option Nat) {u : State}
    (hu : u = s.bumpBy (FLK_PORT_ERR.CODE p) (viol.getD 0)) :
    exec (.portDown p miss viol) s = .next ((if u.portFalls p miss viol then u.portFall p else u).keep s) := by
  rw [hu]
  exact (exec_portDown p miss viol s).trans (runs_next (decide_eq_true hp) ha rfl)

/-- A DELAYREQ frame with a good check in MEASURE or UP: bit 0 of its body tells an answer from a request (R47; log entry 98). -/
theorem exec_delayreqRx_good {frame body : Bytes} {turn : Nat} (ha : s.alive = true) (hp : p < 3) (ht : turn < 65536)
    (hst : 2 ≤ s.portState p) (hf : ctlOfBytes frame = some (ctlDelayreq, body)) :
    exec (.delayreqRx p frame turn) s = .next ((if nbit (nth body 0 0).toNat 0 then s.delayAnswered p
      else s.emit (.ctl p (ctlBytes ctlDelayreq (1 :: beBytes 2 turn)))).keep s) := by
  have hok : wfDelayreqRx p frame turn = true := by simp [wfDelayreqRx, hp, ht]
  refine (exec_delayreqRx p frame turn s).trans (runs_next hok ha ?_)
  rw [if_neg (Nat.not_lt.mpr hst), ctlRx_good hf]

/-- An answer in MEASURE completes a round trip, and the next request follows while there are fewer than 16 (R47). -/
theorem delayAnswered_measure (hst : s.portState p = 2) (htrips : (s.fp p).trips < 16) {u : State}
    (hu : u = s.modFp p (fun x => { x with trips := x.trips + 1 })) :
    s.delayAnswered p = if (u.fp p).trips < 16 then u.requestDelay p else u := by
  rw [State.delayAnswered, if_pos ⟨hst, htrips⟩, ← hu]
  simp [State.when]

/-- Any other answer is of no round trip. -/
theorem delayAnswered_idle (h : s.portState p ≠ 2 ∨ 16 ≤ (s.fp p).trips) : s.delayAnswered p = s := by
  rw [State.delayAnswered, if_neg]
  rintro ⟨hst, htrips⟩
  omega

/-- A marker within a step of 16 on the upstream port: one more good period, no bad ones, one step towards the neighbour's grid,
and lock at the 64th (R51). -/
theorem exec_tickMarkerRx_good {lag : Nat} {err : Int} (ha : s.alive = true) (hp : p < 3) (hlag : lag < 3200)
    (hup : s.portUp p = true) (hus : s.isUpstream p = true) (herr : err = s.phaseErr p lag) (hsmall : absI err < 16)
    (hen : s.anyEnabled = true) {v : State} (hv : v = { s.seti TBU_PHERR.ERR err with tbu := { s.tbu with
      goodPeriods := min 64 (s.tbu.goodPeriods + 1)
      badPeriods := 0
      corr := if 0 < err then -1 else if err < 0 then 1 else 0 } }) :
    exec (.tickMarkerRx p lag) s
      = .next ((if min 64 (s.tbu.goodPeriods + 1) = 64 then v.set TBU_STAT.LOCK 1 else v).keep s) := by
  have hok : wfTickMarkerRx p lag = true := by simp [wfTickMarkerRx, hp, hlag]
  have hnotBad : ¬ 64 < absI err := by omega
  have hbad : ¬ (0 : Nat) = 4 := by decide
  refine (exec_tickMarkerRx p lag s).trans (runs_next hok ha ?_)
  simp only [hup, hus, ← herr, hsmall, hnotBad, hen, hbad, Bool.not_true, Bool.or_false, Bool.false_and, Bool.false_eq_true,
    if_false, if_true, hv]
  rfl

/-- An announcement that shows no conflict of its sender's ID is kept and judged (R48, R50). -/
theorem heard_of_no_clash {a : Announce} (hown : a.sender ≠ s.ownId)
    (hothers : ∀ q b, q ∈ s.upPorts → q ≠ p → (s.fp q).ann = some b → b.sender = a.sender → b.uniq = a.uniq) :
    s.heard p a = (s.modFp p (fun x => { x with ann := some a })).choose := by
  refine congrArg State.choose (if_neg ?_)
  rw [Bool.or_eq_true, not_or, List.any_eq_true]
  refine ⟨by simp [hown], ?_⟩
  rintro ⟨q, hq, hclash⟩
  obtain ⟨hqp, htest⟩ := Bool.and_eq_true_iff.mp hclash
  cases hann : (s.fp q).ann with
  | none => simp [hann] at htest
  | some b =>
    simp only [hann, Bool.and_eq_true, beq_iff_eq, bne_iff_ne] at htest hqp
    exact htest.2 (hothers q b hq hqp hann htest.1)

end

/-- Settles O2. Every row looks at the port's link state, at the check of the frame or at the port's queue, and takes the
branch that the clause's state allows. -/
theorem flockPortRowsComplete : Obligations.FlockPortRowsComplete := by
  refine ⟨?_, ?_, ?_, ?_, ?_, ?_, ?_, ?_, ?_, ?_, ?_, ?_, ?_, ?_, ?_, ?_⟩
  · intro s p ha hp hst hen
    exact (exec_portSymbolsDetected p s).trans (runs_next (decide_eq_true hp) ha (if_pos ⟨hst, hen⟩))
  · intro s p ha hp hst
    exact (exec_portTrained p s).trans (runs_next (decide_eq_true hp) ha (if_pos hst))
  · intro s p trips turn ha hok hst
    exact (exec_portMeasured p trips turn s).trans (runs_next hok ha (if_pos hst))
  · intro s p miss viol u ha hp hu hup hen
    rw [exec_portDown_eq ha hp miss (some viol) hu]
    refine ⟨fun hlost => ?_, fun hmiss hviol => ?_⟩
    · rw [if_pos (portFalls_iff.mpr (.inl ⟨hup, hlost⟩))]
    · rw [if_neg (mt portFalls_iff.mp (by simp [hen, hmiss, hviol]))]
  · intro s p miss viol u ha hp hu hst hoff
    rw [exec_portDown_eq ha hp miss (some viol) hu, if_pos (portFalls_iff.mpr (.inr ⟨hst, .inl hoff⟩))]
  · intro s p miss ha hp hst
    rw [exec_portDown_eq ha hp miss none (u := s.bumpBy (FLK_PORT_ERR.CODE p) 0) rfl,
      if_pos (portFalls_iff.mpr (.inr ⟨hst, .inr rfl⟩))]
  · intro s p turn frame body ha hp ht hst hf hreq
    rw [exec_delayreqRx_good ha hp ht hst hf, hreq]
    rfl
  · intro s u p turn frame body ha hp ht hst hf hans hu
    rw [exec_delayreqRx_good ha hp ht hst hf, hans, if_pos rfl]
    refine ⟨fun hm htrips hmore => ?_, fun hm htrips hdone => ?_, fun hidle => ?_⟩
    · rw [delayAnswered_measure hm htrips hu, if_pos hmore]
      rfl
    · rw [delayAnswered_measure hm htrips hu, if_neg (Nat.not_lt.mpr hdone)]
    · rw [delayAnswered_idle hidle, keep_self]
  · intro s p lag err ha hp hlag hup hus herr hsmall hen
    refine ⟨_, exec_tickMarkerRx_good ha hp hlag hup hus herr hsmall hen rfl, ?_⟩
    split <;> exact ⟨rfl, rfl, rfl, rfl⟩
  · intro s ha
    exact (exec_announceTimer s).trans (runs_next rfl ha rfl)
  · intro s p frame body ha hp hup hf
    refine ⟨(exec_announceRx p frame s).trans (runs_next (decide_eq_true hp) ha ?_), heard_of_no_clash⟩
    exact (if_neg (by simp [hup])).trans (ctlRx_good hf _)
  · intro s p frame ha hp hup hf
    refine ⟨?_, ?_, ?_, fun turn ht => ?_⟩
    · exact (exec_announceRx p frame s).trans (runs_next (decide_eq_true hp) ha (by simp [hup, ctlRx_bad hf]))
    · exact (exec_timeFrameRx p frame s).trans (runs_next (decide_eq_true hp) ha (by simp [hup, ctlRx_bad hf]))
    · exact (exec_spanlossRx p frame s).trans (runs_next (decide_eq_true hp) ha (by simp [hup, ctlRx_bad hf]))
    · have hok : wfDelayreqRx p frame turn = true := by simp [wfDelayreqRx, hp, ht]
      exact (exec_delayreqRx p frame turn s).trans (runs_next hok ha (by simp [portState_of_portUp hup, ctlRx_bad hf]))
  · intro s p ha hp hus
    exact (exec_announceTimeout p s).trans (runs_next (decide_eq_true hp) ha (if_pos hus))
  · intro s p frame body ha hp hup hf hus hneed
    refine ⟨_, (exec_timeFrameRx p frame s).trans (runs_next (decide_eq_true hp) ha ?_), rfl⟩
    simp only [hup, ctlRx_good hf, hus, hneed, Bool.not_true, Bool.and_true, Bool.false_eq_true, if_false, if_true]
  · intro s p seq src f k rest ha hok hq hseq hsrc
    refine (exec_ackRx p seq src s).trans (runs_next hok ha ?_)
    simp only [hq]
    exact if_pos ⟨hseq, hsrc⟩
  · intro s p f k rest ha hp hq
    refine (exec_ackTimeout p s).trans (runs_next (decide_eq_true hp) ha ?_)
    simp only [hq]
    rfl

end Sys2Proof.Machine

end

section
/-! PROOFS. The rows of duty frames, span loss, messages and the commit locks (R53 to R57, R59, R372, R407). -/

namespace Sys2Proof.Machine
open Sys2Proof

section
variable {s : State} {p n : Nat}

/-- A duty frame of a live span goes on with h one higher while h is below 3 (R53; log entry 20). -/
def State.passDuty (s : State) (n : Nat) (f : DutyFrame) : State :=
  if f.h < 3 then s.sendDuty (s.get (FLK_SPAN.OUT_MASK n)) { f with h := f.h + 1 } else s

/-- What a duty frame does to the rail of its entry: with Q 1 the follower goes to mid level, without it the on-time is committed
on an enabled follower, unless the rail waits for its start (R53, R55, R63). -/
def State.actDuty (s : State) (n ofs : Nat) (f : DutyFrame) : State :=
  let r := s.get (FLK_SPAN.RAIL n)
  if f.q then s.followerMid r
  else if (s.rl r).toTon then s
  else
    let s := s.modRl r (fun x => { x with goodFrame := true })
    if s.enabled r && s.follower r then s.commitRail r (min f.duty (s.railPer r)) (s.tbu.now + ofs) else s

/-- A received frame is taken out of its entry; on a live span it acts and goes on. -/
theorem exec_dutyApply_eq {ofs : Nat} {f : DutyFrame} (ha : s.alive = true) (hn : n < 6) (hf : (s.fs n).rx = some f) {u : State}
    (hu : u = s.modFs n (fun x => { x with rx := none, missing := 0, lastG := some f.g })) :
    exec (.dutyApply n ofs) s
      = .next ((if u.spanLive n then (u.actDuty n ofs f).passDuty n f else u).keep s) := by
  refine (exec_dutyApply n ofs s).trans (runs_next (decide_eq_true hn) ha ?_)
  simp only [hf, ← hu]
  cases u.spanLive n <;> rfl

/-- A missing frame of a live follower that has had a good one: DUTY counts, and the fourth in a row is span loss (R54). -/
theorem exec_dutyFrameTimeout_eq (ha : s.alive = true) (hn : n < 6) (hlive : s.spanLive n = true)
    (hrole : s.on (FLK_SPAN.ROLE n) = true) (hgood : (s.fs n).lastG.isSome = true) {m : Nat} (hm : m = (s.fs n).missing + 1)
    {u : State} (hu : u = (s.bump (FLK_PORT_ERR.DUTY (s.get (FLK_SPAN.IN_PORT n)))).modFs n
      (fun x => { x with missing := m, rx := none })) :
    exec (.dutyFrameTimeout n) s = .next ((if 4 ≤ m then u.spanLost n else u).keep s) := by
  refine (exec_dutyFrameTimeout n s).trans (runs_next (decide_eq_true hn) ha ?_)
  rw [hu, hm]
  exact if_pos (by simp [hlive, hrole, hgood])

/-- A message for this device whose ID is in no conflict is acknowledged, teaches the way back to its source, and is delivered
where there is room (R56, R57). -/
theorem exec_messageRx_here {frame : Bytes} {m : MsgFrame} (ha : s.alive = true) (hp : wfMessageRx p frame = true)
    (hup : s.portUp p = true) (hf : msgOfBytes frame = some m) (htree : s.treePort p = true) (hdest : m.dest = s.ownId)
    (hone : nbit m.queue 7 = false) (hen : s.on FLK_CTL.MSG_EN = true) (hroom : s.rxFull = false)
    (hclash : s.flk.conflicts.contains m.dest = false) {u : State}
    (hu : u = ({ s with flk := { s.flk with routes := spIns s.flk.routes m.src p } } : State).emit (.ack p m.seq m.src)) :
    exec (.messageRx p frame) s = .next ((u.deliverMsg m).keep s) := by
  have hclashes : u.clashes m = false := by
    rw [hu]
    exact Bool.and_eq_false_iff.mpr (.inl hclash)
  have hhere : (m.dest == s.ownId) = true := beq_iff_eq.mpr hdest
  refine (exec_messageRx p frame s).trans (runs_next hp ha ?_)
  simp only [hup, hf, htree, hhere, hone, hen, hroom, ← hu, hclashes, Bool.not_true, Bool.not_false, Bool.or_false, Bool.and_false,
    Bool.and_true, Bool.false_or, Bool.false_eq_true, if_false, if_true]

/-- A commit lock other than the host interface's clears in Hold (R407). -/
theorem unlock_of_hold {b : LockBlk} (hb : b ≠ .hif) (h : s.mode = modeHold) : s.unlock b = s.set (commitLock b) 0 := by
  have hmode : (s.mode == modeHold) = true := beq_iff_eq.mpr h
  cases b with
  | hif => exact absurd rfl hb
  | flk | pha | anv | rlc | icu => exact if_pos hmode

/-- That of the host interface clears while both of its enables are 0 (R373). -/
theorem unlock_hif (hen : s.on HIF_CTL.EN = false) (hten : s.on HIF_CTL.TEN = false) :
    s.unlock .hif = s.set HIF_COMMIT.LOCK 0 :=
  if_pos (by simp [hen, hten])

end

/-- Settles O3. A duty frame acts and goes on as `State.actDuty` and `State.passDuty` say; the other rows take the branch that
the clause's state allows, the register rows under the world rules. -/
theorem flockFrameRowsComplete : Obligations.FlockFrameRowsComplete := by
  refine ⟨?_, ?_, ?_, ?_, ?_, ?_, ?_, ?_, ?_, ?_⟩
  · intro s p f ha hp hup
    refine ⟨fun hbad => ?_, fun d n hgood hn => ?_⟩
    · exact (exec_dutyFrameRx p f s).trans (runs_next hp ha (by simp [hup, hbad]))
    · exact (exec_dutyFrameRx p f s).trans (runs_next hp ha (by simp [hup, hgood, hn]))
  · intro s n ofs r f u ha hn hf hu hr
    rw [exec_dutyApply_eq ha hn hf hu]
    refine ⟨fun hlive hq htl v w hv hw => ?_, fun hlive hq htl => ?_, fun hlive hq w hw => ?_, fun hdead => ?_⟩
    · have hact : u.actDuty n ofs f = w := by
        simp only [State.actDuty, ← hr, hq, htl, ← hv, hw, Bool.false_eq_true, if_false]
      rw [if_pos hlive, hact]
      rfl
    · have hact : u.actDuty n ofs f = u := by
        simp only [State.actDuty, ← hr, hq, htl, Bool.false_eq_true, if_false, if_true]
      rw [if_pos hlive, hact]
      rfl
    · have hact : u.actDuty n ofs f = w := by
        simp only [State.actDuty, ← hr, hq, hw, if_true]
      rw [if_pos hlive, hact]
      rfl
    · rw [hdead, if_neg Bool.false_ne_true]
  · intro s n ha hn hlive hrole hgood hfew
    rw [exec_dutyFrameTimeout_eq ha hn hlive hrole hgood rfl rfl, if_neg (by omega)]
  · intro s n ha hn hlive hrole hgood hthree
    rw [exec_dutyFrameTimeout_eq ha hn hlive hrole hgood (m := 4) (by rw [hthree]) rfl, if_pos (Nat.le_refl 4)]
  · intro s p span frame body ha hp hup hf hspan
    refine (exec_spanlossRx p frame s).trans (runs_next (decide_eq_true hp) ha ?_)
    rw [hspan]
    exact (if_neg (by simp [hup])).trans (ctlRx_good hf _)
  · intro s w n ha hok hmay hlost
    exact (exec_rejoin w n s).trans (runs_next hok ha ((asWrite_may hmay _).trans (if_pos hlost)))
  · intro s w tail ha hok hmay
    exact (exec_messageQueue w tail s).trans (runs_next hok ha (asWrite_may hmay _))
  · intro s p f ha hp hup
    refine ⟨fun hbad => ?_, fun m hf htree hdest hone hen hroom hclash => ?_⟩
    · exact (exec_messageRx p f s).trans (runs_next hp ha (by simp [hup, hbad]))
    · exact exec_messageRx_here ha hp hup hf htree hdest hone hen hroom hclash rfl
  · intro s w ha hw hmay
    exact (exec_flkCommitLock w s).trans (runs_next hw ha (asWrite_may hmay _))
  · intro s w b ha hw hmay
    have hrun := (exec_commitUnlock w b s).trans (runs_next hw ha (asWrite_may hmay _))
    refine ⟨fun hb hhold => ?_, fun hb hen hten => ?_⟩
    · rw [hrun, unlock_of_hold hb hhold]
    · rw [hrun, hb, unlock_hif hen hten]

end Sys2Proof.Machine

end

section
/-! PROOFS. The rows of the phase array: carrier periods, stage presence, phase commands, the governor, re-adds and blends (R61, R62, R69, R75 to R80, R88). -/

namespace Sys2Proof.Machine
open Sys2Proof

section
variable {s : State} {n r : Nat}

/-- A defined operation on a phase that exists is left pending on it, and replaces one that waits (R79). -/
theorem phaseCommand_pending {op : Nat} (hop : 0 < op) (hlast : op ≤ 4) (hn : n < 144) :
    s.phaseCommand op n = (s.set (PHA_CH_STAT.CMDPEND n) 1).modPh n (fun p => { p with cmd := op }) := by
  have hzero : ¬ op = 0 := by omega
  have hundefined : ¬ (4 < op ∨ 143 < n) := by omega
  rw [State.phaseCommand, if_neg hzero, if_neg hundefined]

/-- The row of a phase command whose write the world rules let through leaves its operation pending (R79). -/
theorem runs_phaseCommand {w : Who} {op : Nat} (ha : s.alive = true) (hw : w.wf = true) (hn : n < 144) (hop : 0 < op)
    (hlast : op ≤ 4) (hmay : s.may w PHA_PH_CMD (phCmdWord op n) = true) :
    runs (w.wf && decide (n < 256)) s (fun s => s.asWrite w PHA_PH_CMD (phCmdWord op n) (fun s => s.phaseCommand op n))
      = .next (((s.set (PHA_CH_STAT.CMDPEND n) 1).modPh n (fun p => { p with cmd := op })).keep s) := by
  have hok : (w.wf && decide (n < 256)) = true := by
    rw [hw, Bool.true_and, decide_eq_true_eq]
    omega
  exact runs_next hok ha ((asWrite_may hmay _).trans (phaseCommand_pending hop hlast hn))

/-- With its dwell passed, a governor that acts decides to add the first PARKED member, and both counters restart (R76). -/
theorem exec_governorAdd_decides {ns : List Nat} (ha : s.alive = true) (hr : r < 32)
    (hfirst : s.byOrder (s.inState r phParked) = n :: ns) (hacts : s.govOff r = false)
    (hdwell : s.getT (PHA_GOV_DW.ADD_DWELL r) ≤ (s.rx r).addCnt) :
    exec (.governorAdd r) s = .next (((s.modPh n (fun p => { p with gov := 1 })).modRx r
      (fun x => { x with addCnt := 0, shedCnt := 0 })).keep s) := by
  refine (exec_governorAdd r s).trans (runs_next (decide_eq_true hr) ha ?_)
  simp only [hfirst]
  exact if_pos (by simp [hacts, hdwell])

/-- With its dwell passed, and held neither by a re-add nor by Bellows, it decides to shed the last ACTIVE member, and both
counters restart (R76, R80, R146). -/
theorem exec_governorShed_decides (ha : s.alive = true) (hr : r < 32)
    (hlast : (s.byOrder (s.inState r phActive)).getLast? = some n) (hacts : s.govOff r = false)
    (hdwell : s.getT (PHA_GOV_DW.SHED_DWELL r) ≤ (s.rx r).shedCnt) (hhold : (s.rx r).hold = 0)
    (hbellows : s.shedHeld r = false) :
    exec (.governorShed r) s = .next (((s.modPh n (fun p => { p with gov := 2 })).modRx r
      (fun x => { x with addCnt := 0, shedCnt := 0 })).keep s) := by
  refine (exec_governorShed r s).trans (runs_next (decide_eq_true hr) ha ?_)
  simp only [hlast]
  exact if_pos (by simp [hacts, hdwell, hhold, hbellows])

end

/-- Settles O4. The rows of periods, stages, re-adds and blends take the branch that the clause's state allows; the commands and
the commit act under the world rules, and the governor decides once its dwell has passed. -/
theorem phaseRowsComplete : Obligations.PhaseRowsComplete := by
  refine ⟨?_, ?_, ?_, ?_, ?_, ?_, ?_, ?_, ?_, ?_, ?_⟩
  · intro s n t ha hn hdue hsw
    refine (exec_carrierPeriodStart n s).trans (runs_next (decide_eq_true hn) ha ?_)
    simp only [hdue]
    exact if_pos hsw
  · intro s g ha hg
    exact ⟨_, (exec_senDelayEnd g s).trans (runs_next hg ha rfl), rfl⟩
  · intro s n ha hn
    exact (exec_stagePresent n s).trans (runs_next (decide_eq_true hn) ha rfl)
  · intro s n u ha hn hu
    rw [hu]
    exact (exec_stageAbsent n s).trans (runs_next (decide_eq_true hn) ha rfl)
  · intro s w n ha hw hn
    refine ⟨fun hmay => ?_, fun hmay => ?_, fun hmay => ?_, fun hmay => ?_⟩
    · exact (exec_phaseAdd w n s).trans (runs_phaseCommand ha hw hn (by decide) (by decide) hmay)
    · exact (exec_phaseShed w n s).trans (runs_phaseCommand ha hw hn (by decide) (by decide) hmay)
    · exact (exec_phaseRemove w n s).trans (runs_phaseCommand ha hw hn (by decide) (by decide) hmay)
    · exact (exec_phaseRestore w n s).trans (runs_phaseCommand ha hw hn (by decide) (by decide) hmay)
  · intro s r n ns ha hr hfirst hacts hdwell
    exact exec_governorAdd_decides ha hr hfirst hacts hdwell
  · intro s r n ha hr hlast hacts hdwell hhold hbellows
    exact exec_governorShed_decides ha hr hlast hacts hdwell hhold hbellows
  · intro s r ch ha hok
    exact (exec_readd r ch s).trans (runs_next hok ha rfl)
  · intro s r ha hr hlast
    exact (exec_readdHoldEnd r s).trans (runs_next (decide_eq_true hr) ha (if_pos hlast))
  · intro s n ha hn hblend hdone
    exact (exec_blendEnd n s).trans (runs_next (decide_eq_true hn) ha (if_pos ⟨hblend, hdone⟩))
  · intro s w ha hw hmay
    exact (exec_phaCommitLock w s).trans (runs_next hw ha (asWrite_may hmay _))

end Sys2Proof.Machine

end

section
/-! PROOFS. The steps of background calibration (R106). -/

namespace Sys2Proof.Machine
open Sys2Proof

section
variable {s : State}

/-- Towards a target above, a step moves up by the smaller of the distance and its bound. -/
theorem stepTo_up {v t m : Int} (hm : 0 ≤ m) (h : v ≤ t) : stepTo v t m = min t (v + m) := by
  unfold stepTo clampI
  split_ifs <;> omega

/-- Towards a target below, it moves down likewise. -/
theorem stepTo_down {v t m : Int} (hm : 0 ≤ m) (h : t ≤ v) : stepTo v t m = max t (v - m) := by
  unfold stepTo clampI
  split_ifs <;> omega

/-- A step stays within every interval that holds the value and its target. -/
theorem stepTo_mem {v t m a b : Int} (hm : 0 ≤ m) (hv : v ∈ Set.Ico a b) (ht : t ∈ Set.Ico a b) :
    stepTo v t m ∈ Set.Ico a b := by
  obtain ⟨hav, hvb⟩ := hv
  obtain ⟨hat, htb⟩ := ht
  rw [Set.mem_Ico]
  rcases le_total v t with h | h
  · rw [stepTo_up hm h]
    omega
  · rw [stepTo_down hm h]
    omega

theorem gainStep_up {v t : Nat} (h : v ≤ t) : gainStep v t = min t (v + max (v / 10000) 1) := by
  rw [gainStep, stepTo_up (Int.natCast_nonneg _) (by omega)]
  omega

theorem gainStep_down {v t : Nat} (h : t ≤ v) : gainStep v t = max t (v - max (v / 10000) 1) := by
  rw [gainStep, stepTo_down (Int.natCast_nonneg _) (by omega)]
  omega

theorem gainStep_lt {v t b : Nat} (hv : v < b) (ht : t < b) : gainStep v t < b := by
  rcases le_total v t with h | h
  · rw [gainStep_up h]
    omega
  · rw [gainStep_down h]
    omega

theorem sext32_mem (v : Nat) : sext 32 v ∈ Set.Ico (-(2 : Int) ^ 31) (2 ^ 31) := by
  rw [Set.mem_Ico]
  unfold sext
  split_ifs <;> omega

/-- A field reads the whole number that was put into it, where that fits. -/
theorem get_set_of_lt {f : FRef} {v : Nat} (h : spWf resetVal s.regs = true) (h1 : f.hi < 32) (h2 : f.lo ≤ f.hi)
    (hv : v < 2 ^ (f.hi + 1 - f.lo)) : (s.set f v).get f = v := by
  rw [get_set_same h v h1 h2, Nat.mod_eq_of_lt hv]

/-- A register of a signed word reads the number that was put into it, where that fits. -/
theorem geti_seti_word {a : Nat} {x : Int} (h : spWf resetVal s.regs = true) (hx : x ∈ Set.Ico (-(2 : Int) ^ 31) (2 ^ 31)) :
    (s.seti ⟨a, 31, 0⟩ x).geti ⟨a, 31, 0⟩ = x := by
  rw [State.geti, State.seti, get_set_same h _ (by decide : 31 < 32) (by decide : 0 ≤ 31)]
  have hmod : sext 32 (wrapN 32 x % 2 ^ 32) = sext 32 (wrapN 32 x) := by simp only [sext, Nat.mod_mod]
  exact hmod.trans (sext_wrapN (by decide) hx.1 hx.2)

theorem get_lt_word (s : State) (a : Nat) : s.get ⟨a, 31, 0⟩ < 2 ^ 32 := getBits_lt _ 31 0

/-- One update of phase `n` writes its gain and its offset and no other register. -/
theorem calPhase_rd (h : spWf resetVal s.regs = true) {n t a : Nat} (hg : a ≠ SNS_CS_GEFF n) (hz : a ≠ SNS_CS_ZEFF n) :
    (s.calPhase n t).rd a = s.rd a :=
  (rd_set_ne (regs_wf_set h _ _) _ hz).trans (rd_set_ne h _ hg)

theorem SNS_CS_GEFF_ne_ZEFF (n : Nat) : SNS_CS_GEFF n ≠ SNS_CS_ZEFF n := by
  unfold SNS_CS_GEFF SNS_CS_ZEFF
  omega

theorem calPhase_gain (h : spWf resetVal s.regs = true) {n t : Nat} (ht : t < 2 ^ 32) :
    (s.calPhase n t).get (SNS_CS_GEFF.GEFF n)
      = (if s.phState n = phOff then t else gainStep (s.get (SNS_CS_GEFF.GEFF n)) t) := by
  have hv : (if s.phState n == phOff then t else gainStep (s.get (SNS_CS_GEFF.GEFF n)) t) < 2 ^ 32 := by
    split
    · exact ht
    · exact gainStep_lt (get_lt_word s _) ht
  have hgain := get_set_of_lt (f := SNS_CS_GEFF.GEFF n) h (by decide : 31 < 32) (by decide : 0 ≤ 31) hv
  refine (get_set_apart (regs_wf_set h _ _) _ (by decide : 31 < 32) (by decide : 0 ≤ 31)
    (.inl (SNS_CS_GEFF_ne_ZEFF n))).trans (hgain.trans ?_)
  simp only [beq_iff_eq]

theorem calPhase_offset (h : spWf resetVal s.regs = true) {n t : Nat} :
    (s.calPhase n t).geti (SNS_CS_ZEFF.ZEFF n)
      = (if s.phState n = phOff then s.geti (SNS_CS_ZOFS.ZOFS n)
        else stepTo (s.geti (SNS_CS_ZEFF.ZEFF n)) (s.geti (SNS_CS_ZOFS.ZOFS n)) 1024) := by
  have hz : (if s.phState n == phOff then s.geti (SNS_CS_ZOFS.ZOFS n)
      else stepTo (s.geti (SNS_CS_ZEFF.ZEFF n)) (s.geti (SNS_CS_ZOFS.ZOFS n)) 1024) ∈ Set.Ico (-(2 : Int) ^ 31) (2 ^ 31) := by
    split
    · exact sext32_mem _
    · exact stepTo_mem (by decide) (sext32_mem _) (sext32_mem _)
  refine (geti_seti_word (regs_wf_set h _ _) hz).trans ?_
  simp only [beq_iff_eq]

/-- A phase of domain `d` is in ACTIVE or BLEND. -/
def State.domainUsed (s : State) (d : Nat) : Bool := (List.range 144).any (fun n => s.switching n && s.domain n == d)

theorem domainUsed_iff {d : Nat} :
    s.domainUsed d = true ↔ ∃ n, n < 144 ∧ (s.phState n = phActive ∨ s.phState n = phBlend) ∧ s.domain n = d := by
  simp only [State.domainUsed, List.any_eq_true, List.mem_range, Bool.and_eq_true, State.switching, Bool.or_eq_true, beq_iff_eq]

theorem calDomain_gain (h : spWf resetVal s.regs = true) (d : Nat) :
    (s.calDomain d).get (SNS_DOM_GEFF.GEFF d) = (if s.domainUsed d = true
      then gainStep (s.get (SNS_DOM_GEFF.GEFF d)) (s.get (SNS_DOM_GTGT.GTGT d)) else s.get (SNS_DOM_GTGT.GTGT d)) := by
  have hset {v : Nat} (hv : v < 2 ^ 32) : (s.set (SNS_DOM_GEFF.GEFF d) v).get (SNS_DOM_GEFF.GEFF d) = v :=
    get_set_of_lt h (by decide : 31 < 32) (by decide : 0 ≤ 31) hv
  have hcal : s.calDomain d = s.set (SNS_DOM_GEFF.GEFF d) (if (!s.domainUsed d) = true then s.get (SNS_DOM_GTGT.GTGT d)
      else gainStep (s.get (SNS_DOM_GEFF.GEFF d)) (s.get (SNS_DOM_GTGT.GTGT d))) := rfl
  rw [hcal]
  cases s.domainUsed d with
  | true => exact hset (gainStep_lt (get_lt_word s _) (get_lt_word s _))
  | false => exact hset (get_lt_word s _)

/-- `s` with the input domains of its phases taken as their registers name them (R106, R113). -/
def State.takeDomains (s : State) : State :=
  { s with sns := { s.sns with domOf := (List.range 144).map (fun n => s.get (SNS_CS_CFG.DOM n)) } }

/-- At an update instant the domains are taken, every phase steps, and then every domain (R106). -/
theorem exec_calUpdate_steps (ha : s.alive = true) (htime : s.flockTime % 2000 = 0) (hfree : s.on SNS_CTL.FREEZE = false)
    (hhold : s.mode ≠ modeHold) (hdip : s.dip = false) :
    exec .calUpdate s = .next (((s.takeDomains.gainTargets.2.each (List.range 144) (fun x n =>
      x.calPhase n (nth s.takeDomains.gainTargets.1 n 0))).each (List.range 8) State.calDomain).keep s) :=
  (exec_calUpdate s).trans (runs_next rfl ha (if_neg (by simp [htime, hfree, hhold, hdip])))

end

/-- Settles O53: the update does nothing where it is held, and each of its steps is a write of the one or two registers it
names, by `stepTo` and `gainStep`, which never pass their targets. -/
theorem calibrationStepsAreBounded : Obligations.CalibrationStepsAreBounded := by
  refine ⟨fun s ha => ⟨fun hheld => ?_, fun htime hfree hhold hdip => ?_⟩, fun s n t h _ ht => ?_,
    fun s d h _ => ⟨?_, ?_, ?_⟩,
    fun v t => ⟨?_, fun hup => gainStep_up hup.le, fun hdown => gainStep_down hdown.le⟩,
    fun v t => ⟨fun hup => ?_, fun hdown => ?_⟩,
    fun s u t hu => by rw [hu, State.tickEnd]⟩
  · exact (exec_calUpdate s).trans (runs_same rfl ha (if_pos hheld))
  · exact ⟨s.takeDomains, _, rfl, rfl, exec_calUpdate_steps ha htime hfree hhold hdip⟩
  · exact ⟨calPhase_gain h ht, calPhase_offset h, fun a hg hz => calPhase_rd h hg hz⟩
  · intro hnone
    refine (calDomain_gain h d).trans (if_neg fun hused => ?_)
    obtain ⟨n, hn, hst, hd⟩ := domainUsed_iff.mp hused
    exact hnone n hn hst hd
  · intro n hn hst hd
    exact (calDomain_gain h d).trans (if_pos (domainUsed_iff.mpr ⟨n, hn, hst, hd⟩))
  · exact fun a ha => rd_set_ne h _ ha
  · rw [gainStep_up le_rfl]
    omega
  · rw [stepTo_up (by decide) hup]
    omega
  · rw [stepTo_down (by decide) hdown]
    omega

end Sys2Proof.Machine

end

section
/-! PROOFS. The rows of the sense front end: temperatures, estimates, and what their writes leave (R93, R102 to R111). -/

namespace Sys2Proof.Machine
open Sys2Proof

/-- Taking key `k` out of a list in any form changes what a lower key `j` reads only where every key from `j` up to `k` read
as unlisted. -/
theorem spGet_spDel_or {α : Type} (d : Nat → α) (m : List (Nat × α)) {j i k : Nat} (hji : j ≤ i) (hik : i < k) :
    spGet d (spDel m k) j = spGet d m j ∨ spGet d m i = d i := by
  induction m with
  | nil => exact .inl rfl
  | cons e m ih =>
    obtain ⟨k', v⟩ := e
    rcases lt_trichotomy k k' with hk | rfl | hk
    · exact .inl (by rw [spDel, if_neg hk.ne, if_pos hk])
    · exact .inr (by rw [spGet, if_neg hik.ne, if_pos hik])
    · rw [spDel, if_neg hk.ne', if_neg hk.not_gt]
      rcases le_or_gt j k' with hj | hj
      · refine .inl ?_
        simp only [spGet]
        split_ifs
        · rfl
        · rfl
        · omega
      · have hi : k' < i := by omega
        simp only [spGet, if_neg hj.ne', if_neg hj.not_gt, if_neg hi.ne', if_neg hi.not_gt]
        exact ih

section
variable {s : State}

/-- A write that gives a register another value than its reset value leaves every other register. -/
theorem rd_set_of_ne_reset {f : FRef} {v b : Nat} (hv : putBits (s.rd f.addr) f.hi f.lo v ≠ resetVal f.addr)
    (hb : b ≠ f.addr) : (s.set f v).rd b = s.rd b := by
  rw [State.rd, State.set_regs, spSet, if_neg hv]
  exact spGet_spIns_ne _ _ _ hb

/-- A write can change what a lower register reads only where it restores the reset value and the registers between them read
their own reset values. -/
theorem rd_set_or_reset (f : FRef) (v : Nat) {j i : Nat} (hji : j ≤ i) (hi : i < f.addr) :
    (s.set f v).rd j = s.rd j ∨ putBits (s.rd f.addr) f.hi f.lo v = resetVal f.addr ∧ s.rd i = resetVal i := by
  by_cases hv : putBits (s.rd f.addr) f.hi f.lo v = resetVal f.addr
  · have hdel : (s.set f v).rd j = spGet resetVal (spDel s.regs f.addr) j := by
      rw [State.rd, State.set_regs, spSet, if_pos hv]
    rw [hdel]
    exact (spGet_spDel_or resetVal s.regs hji hi).imp_right (⟨hv, ·⟩)
  · exact .inl (rd_set_of_ne_reset hv (by omega))

theorem fitS_of_mem {n : Nat} {x : Int} (hl : -(2 : Int) ^ (n - 1) ≤ x) (hu : x < (2 : Int) ^ (n - 1)) :
    s.fitS n x = (wrapN n x, s) := if_pos ⟨hl, hu⟩

theorem fitU_of_mem {n : Nat} {x : Int} (hl : 0 ≤ x) (hu : x < (2 : Int) ^ n) : s.fitU n x = (x.toNat, s) := if_pos ⟨hl, hu⟩

set_option maxRecDepth 100000 in
theorem resetVal_SNS_TEMP : ∀ k < 157, resetVal (SNS_TEMP k) = 0x30000 := by decide

/-- The status of a conversion that has one is not the reset value 3, so its write leaves every other register. -/
theorem rd_setStatus {k st b : Nat} (hk : k < 157) (hst : st < 3) (hb : b ≠ SNS_TEMP k) :
    (s.set (SNS_TEMP.STATUS k) st).rd b = s.rd b := by
  refine rd_set_of_ne_reset (fun he => ?_) hb
  have hput := getBits_putBits_same (s.rd (SNS_TEMP k)) st (by decide : 17 < 32) (by decide : 16 ≤ 17)
  have hreset : getBits (0x30000 : Word) 17 16 = 3 := by decide
  rw [show putBits (s.rd (SNS_TEMP k)) 17 16 st = 0x30000 from he.trans (resetVal_SNS_TEMP k hk), hreset] at hput
  omega

/-- A TFLT line outside 0.1 V to 2.5 V keeps its value (R102). -/
theorem tempResult_tflt_out {k : Nat} {raw : Int} (hk : k < 144) (hout : tfltStatus raw ≠ 0) (st : Nat) :
    s.tempResult k raw st = s.set (SNS_TEMP.STATUS k) (tfltStatus raw) := by
  have hne : tfltStatus raw ≠ 3 := by
    unfold tfltStatus
    split_ifs <;> decide
  simp only [State.tempResult, if_pos hk, if_neg hout, if_neg hne]

/-- A valid one takes the value of its law, which is also the temperature of its phase from then on (R102). -/
theorem tempResult_tflt_valid {k st : Nat} {raw e : Int} {u : State} (hk : k < 144) (hin : tfltStatus raw = 0)
    (he : e = 3200 + floorDiv (128 * (raw * 3300000 - ((409600 * s.get (SNS_TFLT_CFG.V0 (k / 16)) : Nat) : Int)))
      ((4096 * s.get (SNS_TFLT_CFG.SLOPE (k / 16)) : Nat) : Int)) (hl : -32768 ≤ e) (hu : e < 32768)
    (hw : u = (s.set (SNS_TEMP.STATUS k) 0).set (SNS_TEMP.VALUE k) (wrapN 16 e)) :
    s.tempResult k raw st
      = { u with sns := { u.sns with tflt := modNth u.sns.tflt k (fun _ => some (sext 16 (wrapN 16 e))) } } := by
  have hlaw : (s.set (SNS_TEMP.STATUS k) 0).rd (SNS_TFLT_CFG (k / 16)) = s.rd (SNS_TFLT_CFG (k / 16)) :=
    rd_setStatus (by omega) (by decide) (by unfold SNS_TFLT_CFG SNS_TEMP; omega)
  have hv : (s.set (SNS_TEMP.STATUS k) 0).get (SNS_TFLT_CFG.V0 (k / 16)) = s.get (SNS_TFLT_CFG.V0 (k / 16)) :=
    congrArg (getBits · 15 0) hlaw
  have hs : (s.set (SNS_TEMP.STATUS k) 0).get (SNS_TFLT_CFG.SLOPE (k / 16)) = s.get (SNS_TFLT_CFG.SLOPE (k / 16)) :=
    congrArg (getBits · 31 16) hlaw
  simp only [State.tempResult, if_pos hk, hin, if_true, hv, hs, ← he, fitS_of_mem (n := 16) hl hu, hw]

/-- A die sensor's reading is its value (R103). -/
theorem tempResult_die {k : Nat} {raw : Int} (hlo : 144 ≤ k) (hk : k < 153) (hl : -32768 ≤ raw) (hu : raw < 32768) :
    s.tempResult k raw 0 = (s.set (SNS_TEMP.STATUS k) 0).set (SNS_TEMP.VALUE k) (wrapN 16 raw) := by
  have hpot : ¬ k < 144 := by omega
  have hdio : ¬ (153 ≤ k ∧ s.on (SNS_TDIO_CFG.EN (k - 153)) = false) := by omega
  simp only [State.tempResult, if_neg hpot, if_neg hdio, if_true, if_pos hk, fitS_of_mem (n := 16) hl hu]

section
variable {k st : Nat} (hlo : 153 ≤ k)
include hlo

/-- A disabled diode reads 0 (R103). -/
theorem tempResult_dio_disabled (hen : s.on (SNS_TDIO_CFG.EN (k - 153)) = false) (raw : Int) :
    s.tempResult k raw st = (s.set (SNS_TEMP.STATUS k) 3).set (SNS_TEMP.VALUE k) 0 := by
  have hpot : ¬ k < 144 := by omega
  simp only [State.tempResult, if_neg hpot, if_pos (And.intro hlo hen), OfNat.ofNat_ne_zero, if_false, if_true]

/-- An open or shorted one keeps its value (R103). -/
theorem tempResult_dio_fault (hen : s.on (SNS_TDIO_CFG.EN (k - 153)) = true) (hne : st ≠ 0) (hst : st < 3) (raw : Int) :
    s.tempResult k raw st = s.set (SNS_TEMP.STATUS k) st := by
  have hpot : ¬ k < 144 := by omega
  have hthree : st ≠ 3 := by omega
  simp only [State.tempResult, if_neg hpot, hen, Bool.true_eq_false, and_false, if_false, if_neg hne, if_neg hthree]

/-- A sound one takes the value of its reading at the ideality of its register (R103). -/
theorem tempResult_dio_valid {raw e : Int} {n : Nat} (hk : k < 157) (hn : n = s.get (SNS_TDIO_CFG.IDEAL (k - 153)))
    (he : e = floorDiv (raw * 81920 - 174816 * (n : Int)) (5 * (n : Int))) (hen : s.on (SNS_TDIO_CFG.EN (k - 153)) = true)
    (hne : n ≠ 0) (hl : -32768 ≤ e) (hu : e < 32768) :
    s.tempResult k raw 0 = (s.set (SNS_TEMP.STATUS k) 0).set (SNS_TEMP.VALUE k) (wrapN 16 e) := by
  have hpot : ¬ k < 144 := by omega
  have hdie : ¬ k < 153 := by omega
  have hideal : (s.set (SNS_TEMP.STATUS k) 0).get (SNS_TDIO_CFG.IDEAL (k - 153)) = n := by
    rw [hn]
    refine congrArg (getBits · 15 0) (rd_setStatus hk (by decide) ?_)
    show SNS_TDIO_CFG (k - 153) ≠ SNS_TEMP k
    unfold SNS_TDIO_CFG SNS_TEMP
    omega
  simp only [State.tempResult, if_neg hpot, hen, Bool.true_eq_false, and_false, if_false, if_neg hdie, hideal, if_neg hne,
    if_true, ← he, fitS_of_mem (n := 16) hl hu]

end

/-- A conversion writes its result, which the protection then judges. -/
theorem exec_tempConversion_eq {k st : Nat} {raw : Int} (ha : s.alive = true) (hk : k < 157) (hst : st < 3)
    (hdio : 153 ≤ k ∨ st = 0) {u : State} (hu : s.tempResult k raw st = u) :
    exec (.tempConversion k raw st) s = .next ((u.judgeTemp k).keep s) := by
  have hok : wfTempConversion k raw st = true := by simp [wfTempConversion, hk, hst, hdio]
  exact (exec_tempConversion k raw st s).trans (runs_next hok ha (congrArg (·.judgeTemp k) hu))

theorem resetVal_SNS_DOM_EST : ∀ d < 8, resetVal (SNS_DOM_EST d) = 0x40000000 := by decide

theorem resetVal_SNS_DOM_GEFF : ∀ d < 8, resetVal (SNS_DOM_GEFF d) = 0x40000000 := by decide

theorem resetVal_SNS_DOM_CFG_EN : ∀ d < 8, getBits (resetVal (SNS_DOM_CFG d)) 0 0 = 0 := by decide

/-- The write of an estimate leaves the limit of its domain, but where estimate and gain are both at their reset value. -/
theorem glim_set_est {d e : Nat} (hd : d < 8) (he : e < 2 ^ 32) :
    (s.set (SNS_DOM_EST.EST d) e).get (SNS_DOM_LOSS.GLIM d) = s.get (SNS_DOM_LOSS.GLIM d)
      ∨ s.get (SNS_DOM_GEFF.GEFF d) = e := by
  have hlower : SNS_DOM_LOSS d ≤ SNS_DOM_GEFF d := by unfold SNS_DOM_LOSS SNS_DOM_GEFF; omega
  have hupper : SNS_DOM_GEFF d < SNS_DOM_EST d := by unfold SNS_DOM_GEFF SNS_DOM_EST; omega
  refine (rd_set_or_reset (SNS_DOM_EST.EST d) e hlower hupper).imp (congrArg (getBits · 23 16)) ?_
  rintro ⟨hest, hgeff⟩
  have hput := getBits_putBits_same (s.rd (SNS_DOM_EST d)) e (by decide : 31 < 32) (by decide : 0 ≤ 31)
  rw [show putBits (s.rd (SNS_DOM_EST d)) 31 0 e = 0x40000000 from hest.trans (resetVal_SNS_DOM_EST d hd)] at hput
  rw [State.get, show s.rd (SNS_DOM_GEFF.GEFF d).addr = _ from hgeff, resetVal_SNS_DOM_GEFF d hd]
  exact hput.trans (Nat.mod_eq_of_lt he)

/-- The write of an estimate of an enabled domain leaves AUTO. -/
theorem auto_set_est {d e : Nat} (hd : d < 8) (hen : s.on (SNS_DOM_CFG.EN d) = true) :
    (s.set (SNS_DOM_EST.EST d) e).on SNS_CTL.AUTO = s.on SNS_CTL.AUTO := by
  have hlower : SNS_CTL ≤ SNS_DOM_CFG d := by unfold SNS_CTL SNS_DOM_CFG; omega
  have hupper : SNS_DOM_CFG d < SNS_DOM_EST d := by unfold SNS_DOM_CFG SNS_DOM_EST; omega
  rcases rd_set_or_reset (s := s) (SNS_DOM_EST.EST d) e hlower hupper with hsame | ⟨-, hcfg⟩
  · exact congrArg (getBits · 1 1 != 0) hsame
  · rw [State.on, State.get, show s.rd (SNS_DOM_CFG.EN d).addr = _ from hcfg] at hen
    simp [SNS_DOM_CFG.EN, resetVal_SNS_DOM_CFG_EN d hd] at hen

/-- `s` with the sums of domain `d` at their start again (R110). -/
def State.restartDomain (s : State) (d : Nat) : State :=
  { s with sns := { s.sns with dom := modNth s.sns.dom d (fun _ => (0, 0, 0, false)) } }

/-- The estimate `e` of a window of domain `d` is written, taken as the target, or refused (R110). -/
def State.judgeEstimate (s : State) (d : Nat) (e : Int) : State :=
  let x := s.fitU 32 e
  let u := x.2.set (SNS_DOM_EST.EST d) x.1
  let dg := s.get (SNS_DOM_GEFF.GEFF d)
  if 1000 * absI (e - (dg : Int)) ≤ u.get (SNS_DOM_LOSS.GLIM d) * dg then
    u.when (u.on SNS_CTL.AUTO) (fun u => u.set (SNS_DOM_GTGT.GTGT d) x.1)
  else u.calFault

/-- A window that is full and has enough current judges the estimate that its sums give. -/
theorem exec_domainGainWindow_full {d ticks : Nat} {o : Int × Int × Nat × Bool} (ha : s.alive = true) (hd : d < 8)
    (ho : o = nth s.sns.dom d (0, 0, 0, false)) (hticks : ticks = o.2.2.1) (hfull : 2 ^ s.get (SNS_DOM_CFG.AVGLOG2 d) ≤ ticks)
    (hen : s.on (SNS_DOM_CFG.EN d) = true) (hgood : o.2.2.2 = false) (hcur : ticks * 65536 ≤ absI o.1) :
    exec (.domainGainWindow d) s = .next (((s.restartDomain d).judgeEstimate d
      (floorDiv ((s.get (SNS_DOM_GEFF.GEFF d) : Int)
          * (1000 * o.2.1 - ((s.get (SNS_DOM_CFG.IQ d) * 65536 * ticks : Nat) : Int)) * 65536)
        (1000 * ((65536 + s.get (SNS_DOM_LOSS.LOSS d) : Nat) : Int) * o.1))).keep s) := by
  have hwindow : ¬ (ticks < 2 ^ s.get (SNS_DOM_CFG.AVGLOG2 d) ∨ s.on (SNS_DOM_CFG.EN d) = false) := by
    rw [hen]
    simpa using hfull
  have hused : ¬ (o.2.2.2 = true ∨ absI o.1 < ticks * 65536) := by
    rw [hgood]
    simpa using hcur
  subst hticks ho
  exact (exec_domainGainWindow d s).trans (runs_next (decide_eq_true hd) ha ((if_neg hwindow).trans (if_neg hused)))

/-- An estimate within its format is judged by the limit and by AUTO as they stood before it was written. -/
theorem judgeEstimate_of_mem {d dg : Nat} {e : Int} {u : State} (hd : d < 8) (hen : s.on (SNS_DOM_CFG.EN d) = true)
    (hdg : dg = s.get (SNS_DOM_GEFF.GEFF d)) (hl : 0 ≤ e) (hu : e < 2 ^ 32) (hw : u = s.set (SNS_DOM_EST.EST d) e.toNat) :
    s.judgeEstimate d e = (if 1000 * absI (e - (dg : Int)) ≤ s.get (SNS_DOM_LOSS.GLIM d) * dg
      then (if s.on SNS_CTL.AUTO = true then u.set (SNS_DOM_GTGT.GTGT d) e.toNat else u) else u.calFault) := by
  have hauto : u.on SNS_CTL.AUTO = s.on SNS_CTL.AUTO := by rw [hw, auto_set_est hd hen]
  have hlimit : 1000 * absI (e - (dg : Int)) ≤ u.get (SNS_DOM_LOSS.GLIM d) * dg
      ↔ 1000 * absI (e - (dg : Int)) ≤ s.get (SNS_DOM_LOSS.GLIM d) * dg := by
    rcases glim_set_est (s := s) (e := e.toNat) hd (by omega) with hsame | hgain
    · rw [hw, hsame]
    · have hzero : absI (e - (dg : Int)) = 0 := by
        rw [hdg, hgain, absI]
        omega
      simp only [hzero, Nat.mul_zero, Nat.zero_le]
  simp only [State.judgeEstimate, fitU_of_mem (n := 32) hl hu, ← hw, ← hdg, hlimit, State.when, hauto]

end

/-- Settles O5: each row takes the branch that its clause's state allows. The clauses say nothing of the form of the register
map, so what is read after a status or an estimate is written is read by the lemmas above, which hold in any form. -/
theorem sensingRowsComplete : Obligations.SensingRowsComplete := by
  refine ⟨?_, ?_, ?_, ?_, ?_, ?_, ?_, ?_, ?_, ?_, ?_⟩
  · intro s k raw e ha hk he
    have hrow {u : State} (hu : s.tempResult k raw 0 = u) :
        exec (.tempConversion k raw 0) s = .next ((u.judgeTemp k).keep s) :=
      exec_tempConversion_eq ha (by omega) (by decide) (.inr rfl) hu
    refine ⟨fun hlow => hrow ?_, fun hhigh => hrow ?_, fun hmin hmax hl hu u hw => hrow ?_⟩
    · have hst : tfltStatus raw = 1 := if_pos hlow
      rw [tempResult_tflt_out hk (by rw [hst]; decide), hst]
    · have hst : tfltStatus raw = 2 := by rw [tfltStatus, if_neg (by omega), if_pos hhigh]
      rw [tempResult_tflt_out hk (by rw [hst]; decide), hst]
    · have hst : tfltStatus raw = 0 := by rw [tfltStatus, if_neg (by omega), if_neg (by omega)]
      exact tempResult_tflt_valid hk hst he hl hu hw
  · intro s k raw ha hlo hk hl hu
    exact exec_tempConversion_eq ha (by omega) (by decide) (.inr rfl) (tempResult_die hlo hk hl hu)
  · intro s k st raw ha hlo hk hst
    exact ⟨fun hen => exec_tempConversion_eq ha hk hst (.inl hlo) (tempResult_dio_disabled hlo hen raw),
      fun hen hne => exec_tempConversion_eq ha hk hst (.inl hlo) (tempResult_dio_fault hlo hen hne hst raw),
      fun n e hn he hen hne hl hu => exec_tempConversion_eq ha hk (by decide) (.inl hlo)
        (tempResult_dio_valid hlo hk hn he hen hne hl hu)⟩
  · intro s w c ha hok hmay
    exact (exec_tallyInject w c s).trans (runs_next hok ha (asWrite_may hmay _))
  · intro s w ha hw hmay
    exact (exec_capStatRead w s).trans (runs_next hw ha (asRead_may hmay _))
  · intro s ha htime hfree hhold hdip u hu
    rw [hu]
    exact exec_calUpdate_steps ha htime hfree hhold hdip
  · intro s k o e u ha hk ho hfull he hl hu hw
    refine (exec_offsetEstimate k s).trans (runs_next (decide_eq_true (by omega)) ha ?_)
    simp only [if_pos hk, ← ho, if_neg hfull.not_gt, ← he, fitS_of_mem (n := 16) hl hu, ← hw, State.when, decide_eq_true_eq]
  · intro s r o e u ha hr ho hfull he hl hu hw
    have hwin : ¬ 144 + r < 144 := by omega
    refine (exec_offsetEstimate (144 + r) s).trans (runs_next (decide_eq_true (by omega)) ha ?_)
    simp only [if_neg hwin, Nat.add_sub_cancel_left, ← ho, if_neg hfull.not_gt, ← he, fitS_of_mem (n := 16) hl hu, ← hw,
      State.when, decide_eq_true_eq]
  · intro s n o e ha hn ho hfull he hl hu
    refine (exec_zofsLearn n s).trans (runs_next (decide_eq_true hn) ha ?_)
    simp only [← ho, if_neg hfull.not_gt, ← he, fitS_of_mem (n := 32) hl hu, State.set_sns]
  · intro s u d dg ticks o e ha hd ho hticks hfull hen hgood hcur hdg he hl hu hw
    rw [exec_domainGainWindow_full ha hd ho hticks hfull hen hgood hcur, ← hdg, ← he]
    exact congrArg (fun t : State => Host.Outcome.next (t.keep s))
      (judgeEstimate_of_mem (s := s.restartDomain d) hd hen hdg hl hu hw)
  · intro s u n q dl l r ha hn hq hon hoff hu hdl
    have hfull : ¬ (q.nOn < 4096 ∨ q.nOff < 4096) := by omega
    refine ⟨fun hsmall => ?_, fun hlarge hne hl hl0 hlu hr hr0 hru => ?_⟩
    · refine (exec_lrEstimate n s).trans (runs_next (decide_eq_true hn) ha ?_)
      simp only [← hq, if_neg hfull, if_pos hsmall, hu]
    · refine (exec_lrEstimate n s).trans (runs_next (decide_eq_true hn) ha ?_)
      simp only [← hq, if_neg hfull, if_neg hlarge.not_gt, ← hdl, if_neg hne, ← hl, fitU_of_mem (n := 16) hl0 hlu, ← hr,
        fitU_of_mem (n := 16) hr0 hru, hu]

end Sys2Proof.Machine

end

section
/-! PROOFS. The rows of the lane array: events and triggers, bank swaps, shadow writes, the bank checker, replaced lanes, snapshots and the commit (R10, R28, R123, R127, R128, R132, R135, R140, R142). -/

namespace Sys2Proof.Machine
open Sys2Proof

section
variable {s : State} {w : Who} {l : Nat}

/-- A register row whose operands are sound and whose write the world rules let through answers the state that the write makes. -/
theorem runs_write {ok : Bool} {a : Nat} {v : Word} {f : State → State} {u : State} (hok : ok = true) (ha : s.alive = true)
    (hmay : s.may w a v = true) (hu : f s = u) : runs ok s (fun s => s.asWrite w a v f) = .next (u.keep s) :=
  runs_next hok ha ((asWrite_may hmay f).trans hu)

/-- Operands that name a writer and a unit below `n` are sound. -/
theorem wf_and_lt {n : Nat} (hw : w.wf = true) (hl : l < n) : (w.wf && decide (l < n)) = true := by
  simp [hw, hl]

/-- Bit 0 of ANV_LN_TRIG is an event at the state-load input (R132). -/
theorem trigWrite_sload : s.trigWrite l 1 = s.consumerEvent (kSload l) 512 := by
  have hsload : wbit 1 0 = true := by decide
  have hplean : wbit 1 1 = false := by decide
  rw [State.trigWrite, hsload, hplean, when_false, when_true]

/-- Bit 1 is one at the pre-lean input (R123). -/
theorem trigWrite_plean : s.trigWrite l 2 = s.consumerEvent (kPlean l) 512 := by
  have hsload : wbit 2 0 = false := by decide
  have hplean : wbit 2 1 = true := by decide
  rw [State.trigWrite, hsload, hplean, when_false, when_true]

theorem b2n_le_one (b : Bool) : b2n b ≤ 1 := by cases b <;> decide

/-- A bit whose digit is the flag `b` as a number is `b`. -/
theorem nbit_of_digit {v i : Nat} {b : Bool} (h : v / 2 ^ i % 2 = b2n b) : nbit v i = b := by
  rw [nbit, h]
  cases b <;> rfl

/-- Every field of a swap word reads what was put into it: ALLBOUND, CANCEL, LOADST and the lane do not overlap. -/
theorem swapWord_fields (all cancel ld : Bool) (hl : l < 64) :
    wbit (swapWord all cancel ld l) 31 = all ∧ wbit (swapWord all cancel ld l) 30 = cancel
      ∧ wbit (swapWord all cancel ld l) 29 = ld ∧ getBits (swapWord all cancel ld l) 5 0 = l := by
  have hall := b2n_le_one all
  have hcancel := b2n_le_one cancel
  have hld := b2n_le_one ld
  have hword : (swapWord all cancel ld l).toNat = 2 ^ 31 * b2n all + 2 ^ 30 * b2n cancel + 2 ^ 29 * b2n ld + l := by
    rw [swapWord, BitVec.toNat_ofNat, Nat.mod_eq_of_lt (by omega)]
  refine ⟨nbit_of_digit ?_, nbit_of_digit ?_, nbit_of_digit ?_, ?_⟩
  · omega
  · omega
  · omega
  · rw [getBits]
    omega

/-- What a swap command does to lane `l`: a cancel clears SWPEND and SWPLD, a request sets SWPEND, and with
LOADST SWPLD too (R127). -/
def State.swapLane (s : State) (cancel ld : Bool) (l : Nat) : State :=
  if cancel then (s.set (ANV_LN_STAT.SWPEND l) 0).set (ANV_LN_STAT.SWPLD l) 0
  else (s.set (ANV_LN_STAT.SWPEND l) 1).when ld (fun s => s.set (ANV_LN_STAT.SWPLD l) 1)

/-- A command with ALLBOUND acts on every enabled lane, whatever lane it names (R127). -/
theorem swapCommand_all (cancel ld : Bool) (hl : l < 64) :
    s.swapCommand (swapWord true cancel ld l) = s.each (whichN 34 s.laneEn) (fun x k => x.swapLane cancel ld k) := by
  obtain ⟨hall, hcancel, hld, -⟩ := swapWord_fields true cancel ld hl
  simp only [State.swapCommand, hall, hcancel, hld, Bool.not_true, Bool.false_and, Bool.false_eq_true, if_false, if_true,
    State.swapLane]

/-- A command without it acts on the lane that it names (R127). -/
theorem swapCommand_lane (cancel ld : Bool) (hl : l < 34) :
    s.swapCommand (swapWord false cancel ld l) = s.swapLane cancel ld l := by
  obtain ⟨hall, hcancel, hld, hlane⟩ := swapWord_fields false cancel ld (show l < 64 by omega)
  have hexists : (!false && decide (34 ≤ l)) = false := by simpa using hl
  simp only [State.swapCommand, hall, hcancel, hld, hlane, hexists, Bool.false_eq_true, if_false, State.each, List.foldl_cons,
    List.foldl_nil, State.swapLane]

/-- While no swap of the lane is captured, a shadow word is stored (R127). -/
theorem shadowWrite_stored {k : Nat} {v : Word} (h : (s.ln l).cap = none) : s.shadowWrite l k v = s.storeShadow l k v := by
  rw [State.shadowWrite, h]
  rfl

/-- While one is, it is held until the exchange (R28). -/
theorem shadowWrite_held {k : Nat} {v : Word} (h : (s.ln l).cap.isSome = true) :
    s.shadowWrite l k v = { s with anv := { s.anv with held := s.anv.held ++ [(l, k, v)] } } := if_pos h

/-- A write of 1 to FAULTED alone clears it in a disabled lane that has it set, and with it the lane's banks and states (R140):
the other bits of the lane's status stay. -/
theorem lnStatWrite_faulted {u : State} (hu : u = s.wr (ANV_LN_STAT l) (s.rd (ANV_LN_STAT l))) (hoff : u.laneEn l = false)
    (hfaulted : u.on (ANV_LN_STAT.FAULTED l) = true) :
    s.lnStatWrite l 0x40000000 = (u.set (ANV_LN_STAT.FAULTED l) 0).zeroLane l := by
  have hmask : ~~~(0x40000000 &&& 0xAC000000) = BitVec.allOnes 32 := by decide
  have hkept : s.rd (ANV_LN_STAT l) &&& ~~~(0x40000000 &&& 0xAC000000) = s.rd (ANV_LN_STAT l) := by
    rw [hmask, BitVec.and_allOnes]
  have hslovr : wbit 0x40000000 17 = false := by decide
  have hplovr : wbit 0x40000000 16 = false := by decide
  have hclear : wbit 0x40000000 30 = true := by decide
  simp only [State.lnStatWrite, hkept, hslovr, hplovr, hclear, when_false, ← hu, hoff, hfaulted, Bool.false_eq_true, if_false,
    if_true]

end

/-- Settles O6. An event reaches its input, a register row acts under the world rules: a swap command on the lane that its word
names or on every enabled one, a shadow word as the capture of its lane has it, a clear of FAULTED as the lane's status allows. -/
theorem anvilRowsComplete : Obligations.AnvilRowsComplete := by
  refine ⟨?_, ?_, ?_, ?_, ?_, ?_, ?_, ?_, ?_, ?_, ?_⟩
  · intro s l ch ha hok
    exact ⟨(exec_pleanEvent l ch s).trans (runs_next hok ha rfl), (exec_sloadEvent l ch s).trans (runs_next hok ha rfl)⟩
  · intro s l ha hl hlast
    exact (exec_preleanEnd l s).trans (runs_next (decide_eq_true hl) ha (if_pos hlast))
  · intro s w l ha hw hl
    exact ⟨fun hmay => (exec_trigPlean w l s).trans (runs_write (wf_and_lt hw hl) ha hmay trigWrite_plean),
      fun hmay => (exec_trigSload w l s).trans (runs_write (wf_and_lt hw hl) ha hmay trigWrite_sload)⟩
  · intro s w l ha hw hl
    have hok : (w.wf && decide (l < 64)) = true := wf_and_lt hw (by omega)
    refine ⟨fun hmay => ?_, fun hmay => ?_, fun hmay => ?_⟩
    · exact (exec_swapRequest w l false s).trans (runs_write hok ha hmay (swapCommand_lane false false hl))
    · exact (exec_swapRequest w l true s).trans (runs_write hok ha hmay (swapCommand_lane false true hl))
    · exact (exec_swapCancel w l false s).trans (runs_write hok ha hmay (swapCommand_lane true false hl))
  · intro s w ha hw
    refine ⟨fun hmay => ?_, fun hmay => ?_⟩
    · exact (exec_swapAllbound w false s).trans (runs_write hw ha hmay (swapCommand_all false false (by decide)))
    · exact (exec_swapAllbound w true s).trans (runs_write hw ha hmay (swapCommand_all false true (by decide)))
  · intro s w l ha hw hl hmay
    exact (exec_swapCancel w l true s).trans (runs_write (wf_and_lt hw hl) ha hmay (swapCommand_all true false hl))
  · intro s w l k v ha hok hmay
    exact ⟨fun hfree => (exec_shadowWrite w l k v s).trans (runs_write hok ha hmay (shadowWrite_stored hfree)),
      fun hcap => (exec_shadowWrite w l k v s).trans ((runs_write hok ha hmay (shadowWrite_held hcap)).trans rfl)⟩
  · intro s ha
    exact (exec_bankCheck s).trans (runs_next rfl ha rfl)
  · intro s u w l ha hw hl hmay hu hoff hfaulted
    exact (exec_faultedClear w l s).trans (runs_write (wf_and_lt hw hl) ha hmay (lnStatWrite_faulted hu hoff hfaulted))
  · intro s w l ha hw hl hmay
    have hreq : wbit 1 0 = true := by decide
    exact (exec_snapshotRequest w l s).trans (runs_write (wf_and_lt hw hl) ha hmay (if_pos hreq))
  · intro s w ha hw hmay
    exact (exec_anvCommitLock w s).trans (runs_write hw ha hmay rfl)

end Sys2Proof.Machine

end

section
/-! PROOFS. The rows of the fast loop: droop and force, overshoot, warning inputs, pre-lean arming and comparator trips (R82, R145 to R151). -/

namespace Sys2Proof.Machine
open Sys2Proof

section
variable {s : State} {n r : Nat}

/-- What the last T0 sampled stays until the next, whatever is written meanwhile (R16). -/
theorem onT_set (s : State) (f g : FRef) (v : Nat) : (s.set f v).onT g = s.onT g := rfl

/-- A comparator trip takes phase `n` out of the forced set and latches: the latch, OC and the bit of its summary register (R82). -/
def State.latchTrip (s : State) (n : Nat) : State :=
  (((s.leaveForce n).modPh n (fun p => { p with ocLatch := true, tripped := true, acted := true })).set (PHA_CH_STAT.OC n) 1).setBit
    (PHA_OC_SUM (n / 32)) (n % 32) true

/-- It counts once in a carrier period: where the phase has tripped before in this one, OCCNT stays (R82). -/
def State.countTrip (s : State) (n : Nat) : State :=
  if ((s.leaveForce n).ph n).tripped then s.latchTrip n
  else (s.latchTrip n).set (PHA_CH_STAT.OCCNT n) (satInc 15 ((s.latchTrip n).get (PHA_CH_STAT.OCCNT n)))

/-- A counted trip sets the fault bit again of a POC ladder that has acted and still watches the phase (R190). -/
def State.actTrip (s : State) (n : Nat) : State :=
  if ((s.leaveForce n).ph n).tripped = false ∧ ((s.countTrip n).ph n).pocActed = true ∧ (s.countTrip n).watches (.poc n) = true
    ∧ (s.countTrip n).ladAction (.poc n) ≠ 0 then (s.countTrip n).raiseFault (.poc n) else s.countTrip n

/-- After a trip earlier in the period only the latch is new. -/
theorem actTrip_again (h : ((s.leaveForce n).ph n).tripped = true) : s.actTrip n = s.latchTrip n := by
  simp [State.actTrip, State.countTrip, h]

/-- The first trip of a period counts, and the ladder decides on the state that has counted it. -/
theorem actTrip_first (h : ((s.leaveForce n).ph n).tripped = false) :
    s.actTrip n = (s.countTrip n).when (((s.countTrip n).ph n).pocActed && (s.countTrip n).watches (.poc n)
      && (s.countTrip n).ladAction (.poc n) != 0) (fun x => x.raiseFault (.poc n)) := by
  simp [State.actTrip, State.when, h, and_assoc]

/-- Past the blanking, a trip of a switching phase with a threshold acts and is reported in one instant (R82). -/
theorem exec_ocTrip_acts {since : Nat} (ha : s.alive = true) (hn : n < 144) (hsw : s.switching n = true)
    (hth : s.onT (PHA_CH_OC.OC_TH n) = true) (hblank : 64 * s.getT (PHA_CH_OC.OC_BLANK n) ≤ since) :
    exec (.ocTrip n since) s = .next ((s.instant (fun t => (t.actTrip n).fire [hPhaOc (n / 16)])).keep s) := by
  refine (exec_ocTrip n since s).trans (runs_next (decide_eq_true hn) ha ?_)
  rw [if_pos (by simp [hsw, hth, hblank])]
  refine congrArg s.instant (funext fun t => congrArg (State.fire · _) ?_)
  cases htrip : ((t.leaveForce n).ph n).tripped with
  | true => simp only [actTrip_again htrip, Bool.not_true, Bool.false_and, when_false, Bool.false_eq_true, if_false, State.latchTrip]
  | false =>
    rw [actTrip_first htrip]
    simp only [State.countTrip, htrip, Bool.not_false, Bool.true_and, Bool.false_eq_true, if_false, if_true, State.latchTrip]

/-- Within the blanking no trip counts (R82; log entry 113). -/
theorem exec_ocTrip_blanked {since : Nat} (ha : s.alive = true) (hn : n < 144)
    (hblank : since < 64 * s.getT (PHA_CH_OC.OC_BLANK n)) : exec (.ocTrip n since) s = .next s :=
  (exec_ocTrip n since s).trans (runs_same (decide_eq_true hn) ha (if_neg (by simp [hblank])))

end

/-- Settles O7. Each row of the Bellows takes the branch that the clause's state allows; a comparator trip past the blanking is
one instant, within which it latches, counts and acts. -/
theorem bellowsRowsComplete : Obligations.BellowsRowsComplete := by
  refine ⟨?_, ?_, ?_, ?_, ?_, ?_, ?_, ?_, ?_, ?_, ?_⟩
  · intro s u r ha hr harmed hu
    rw [hu]
    exact (exec_droopCrossing r s).trans (runs_next (decide_eq_true hr) ha (if_pos harmed))
  · intro s r ha hr hforce
    exact (exec_releaseCrossing r s).trans (runs_next (decide_eq_true hr) ha (if_pos hforce))
  · intro s n ha hn _
    exact (exec_maxonExpiry n s).trans (runs_next (decide_eq_true hn) ha rfl)
  · intro s r ha hr hlockout
    exact (exec_lockoutEnd r s).trans (runs_next (decide_eq_true hr) ha (if_pos hlockout))
  · intro s r ha hr harmed hidle hwaits
    exact (exec_overshootCrossing r s).trans (runs_next (decide_eq_true hr) ha (if_pos (by simp [harmed, hidle, hwaits])))
  · intro s r ha hr
    exact ⟨(exec_overshootRelease r s).trans (runs_next (decide_eq_true hr) ha rfl),
      fun hacts => (exec_ovmaxExpiry r s).trans (runs_next (decide_eq_true hr) ha (if_pos hacts))⟩
  · intro s k ha hk hen
    exact (exec_warnAssert k s).trans (runs_next (decide_eq_true hk) ha (if_pos hen))
  · intro s r ha hr hpend hdur
    have htaken : (s.takeEvent (kPlarm r)).onT (BLW_PL.DUR r) = true := (onT_set ..).trans hdur
    exact (exec_plarm r s).trans (runs_next (decide_eq_true hr) ha ((if_pos hpend).trans (if_pos htaken)))
  · intro s r ha hr hlast hload
    exact (exec_plarmEnd r s).trans (runs_next (decide_eq_true hr) ha (if_pos ⟨hlast, hload⟩))
  · intro s n since v w g ha hn hsw hth hblank hv hw hg
    have hacts : g = fun t => t.actTrip n := by
      funext t
      rw [hg, hw, hv]
      rfl
    rw [hacts]
    exact exec_ocTrip_acts ha hn hsw hth hblank
  · intro s n since ha hn hblank
    exact exec_ocTrip_blanked ha hn hblank

end Sys2Proof.Machine

end

section
/-! PROOFS. The rows of protections and quenches: due actions and warnings, quench events and commands, hiccups and retries, the latch, stage faults (R37, R38, R62, R153 to R161). -/

namespace Sys2Proof.Machine
open Sys2Proof

section
variable {s : State} {n : Nat} {x : Prot}

/-- A warn filter that has not reached FILT, or whose protection is not alive, is left as it is (R154, R405). -/
theorem exec_protectionWarn_idle (ha : s.alive = true) (hx : x.wf = true)
    (h : s.reached x (s.filts x).2 = false ∨ s.watches x = false) : exec (.protectionWarn x) s = .next s :=
  (exec_protectionWarn x s).trans (runs_same hx ha (if_neg (by rcases h with h | h <;> simp [h])))

/-- One that has reached it is marked as acted, its warn bit sets, and the producer of its rail, or the device's, fires (R154). -/
theorem exec_protectionWarn_acts (ha : s.alive = true) (hx : x.wf = true) (hreached : s.reached x (s.filts x).2 = true)
    (hwatches : s.watches x = true) {u : State}
    (hu : u = (s.setFilts x ((s.filts x).1, { (s.filts x).2 with acted := true })).raiseWarn x) :
    exec (.protectionWarn x) s = .next ((u.fire [match u.protRail x with
      | some r => hPwarn r
      | none => hDwarn]).keep s) := by
  refine (exec_protectionWarn x s).trans (runs_next hx ha ?_)
  simp only [hreached, hwatches, Bool.and_self, if_true, ← hu]
  cases u.protRail x <;> rfl

/-- OP 1 of a quench command quenches the rail that it names, with cause 12 (R157). -/
theorem quenchCommand_rail (s : State) (r : Nat) : s.quenchCommand 1 r = s.quenchRail r 12 none 0 := if_pos rfl

/-- OP 2 quenches the device (R161). -/
theorem quenchCommand_device (s : State) (r : Nat) : s.quenchCommand 2 r = s.quenchDevice 12 false :=
  (if_neg (by decide)).trans (if_pos rfl)

/-- ACTION 2 of the stage-fault ladder of the phase's rail, where it is alive, retries the phase from the fault itself (R160;
log entry 42). -/
def State.retriesFault (s : State) (n : Nat) : Bool :=
  s.watches (.sf (s.railOf n)) && s.ladAction (.sf (s.railOf n)) == 2 && s.dropRetry n (s.ladRetry (.sf (s.railOf n)))

/-- A stage fault fails the phase with cause 1, with a hiccup where it retries (R62, R83). -/
def State.faultPhase (s : State) (n : Nat) : State :=
  (s.failPhase n 1).modPh n (fun p => { p with hiccup := s.retriesFault n })

/-- The count of faults of protection `x` is one higher (R152). -/
def State.countFault (s : State) (x : Prot) : State :=
  s.setFilts x ({ (s.filts x).1 with cnt := satInc 255 (s.filts x).1.cnt }, (s.filts x).2)

/-- A counted fault of a protection that has acted, and whose ladder has an action, sets its bit again (R190). -/
def State.actFault (s : State) (x : Prot) : State :=
  (s.countFault x).when ((s.filts x).1.acted && (s.countFault x).ladAction x != 0) (fun t => t.raiseFault x)

/-- The two cases, of the filter and the action, determine what a counted fault does. -/
theorem actFault_unique {u : State}
    (hquiet : (s.filts x).1.acted = false ∨ (s.countFault x).ladAction x = 0 → u = s.countFault x)
    (hraises : (s.filts x).1.acted = true → (s.countFault x).ladAction x ≠ 0 → u = (s.countFault x).raiseFault x) :
    s.actFault x = u := by
  by_cases h : (s.filts x).1.acted = false ∨ (s.countFault x).ladAction x = 0
  · rw [hquiet h]
    exact if_neg (by rcases h with h | h <;> simp [h])
  · obtain ⟨hacted, haction⟩ := not_or.mp h
    rw [hraises (eq_true_of_ne_false hacted) haction]
    exact if_pos (by simp [hacted, haction])

/-- A stage fault of a phase in ACTIVE, BLEND or PARKED is one instant: it fails the phase and, where the protection of its rail
is alive, counts and acts (R62, R152, R405). -/
theorem exec_stageFault_fails {u : State} (ha : s.alive = true) (hn : n < 144) (hu : u = s.setb (PHA_CH_STAT.TFAULT n) true)
    (hst : u.switching n = true ∨ u.phState n = phParked) :
    exec (.stageFault n true) s = .next ((u.instant (fun t =>
      (t.faultPhase n).when (t.watches (.sf (t.railOf n))) (fun y => y.actFault (.sf (t.railOf n))))).keep s) := by
  have hfails : (u.switching n || u.phState n == phParked) = true := by simpa using hst
  rw [hu] at hfails ⊢
  exact (exec_stageFault n true s).trans (runs_next (decide_eq_true hn) ha (if_pos hfails))

end

/-- Settles O8. A row of an event, of a quench or of a retry takes the branch that the clause's state allows, a register row acts
under the world rules, and a warning and a stage fault act as their ladder's filters have it. -/
theorem protectionRowsComplete : Obligations.ProtectionRowsComplete := by
  refine ⟨?_, ?_, ?_, ?_, ?_, ?_, ?_, ?_, ?_, ?_, ?_, ?_, ?_⟩
  · intro s x ha hx hdue
    exact (exec_protectionAction x s).trans (runs_next hx ha (if_pos hdue))
  · intro s x ha hx hidle _
    exact exec_protectionWarn_idle ha hx hidle
  · intro s x ha hx hreached hwatches _
    exact ⟨_, rfl, exec_protectionWarn_acts ha hx hreached hwatches rfl⟩
  · intro s r ha hr hpend
    exact (exec_blwQuench r s).trans (runs_next (decide_eq_true hr) ha (if_pos hpend))
  · intro s ha
    refine ⟨fun hpend => ?_, ?_, fun hholdover => ?_⟩
    · exact (exec_blwQuenchDev s).trans (runs_next rfl ha (if_pos hpend))
    · exact (exec_enginePllFault s).trans (runs_next rfl ha rfl)
    · exact (exec_holdoverLimit s).trans (runs_next rfl ha (if_pos hholdover))
  · intro s w r ha hw hr hmay
    exact (exec_quenchRailCommand w r s).trans (runs_write (wf_and_lt hw hr) ha hmay (quenchCommand_rail s r))
  · intro s w ha hw hmay
    exact (exec_quenchDeviceCommand w s).trans (runs_write hw ha hmay (quenchCommand_device s 0))
  · intro s r ha hr hhiccup hready
    exact (exec_hiccupEnd r s).trans (runs_next (decide_eq_true hr) ha (if_pos (by simp [hhiccup, hready])))
  · intro s r ha hr hen hquenched
    exact (exec_retryCountClear r s).trans (runs_next (decide_eq_true hr) ha (if_pos (by simp [hen, hquenched])))
  · intro s n ha hn
    refine ⟨fun hhiccup hfailed hcool => ?_, fun hactive => ?_⟩
    · exact (exec_phaseHiccupEnd n s).trans (runs_next (decide_eq_true hn) ha (if_pos (by rw [hhiccup, hfailed, hcool]; rfl)))
    · exact (exec_phaseRetryClear n s).trans (runs_next (decide_eq_true hn) ha (if_pos hactive))
  · intro s w v ha hw hmay
    exact (exec_latchClear w v s).trans (runs_write hw ha hmay rfl)
  · intro s u n again f g ha hn hu hst hagain hf hg
    have hfault (t : State) : f t = t.faultPhase n := by
      rw [hf, hagain]
      rfl
    have hacts : g = fun t => (t.faultPhase n).when (t.watches (.sf (t.railOf n))) (fun y => y.actFault (.sf (t.railOf n))) := by
      funext t
      obtain ⟨hdead, hlive⟩ := hg t _ rfl
      rw [hfault] at hdead hlive
      cases hwatches : t.watches (.sf (t.railOf n)) with
      | false => rw [when_false, hdead hwatches]
      | true =>
        obtain ⟨hquiet, hraises⟩ := hlive hwatches ((t.faultPhase n).countFault _) rfl
        rw [when_true, actFault_unique hquiet hraises]
    rw [hacts]
    exact exec_stageFault_fails ha hn hu hst
  · intro s n ha hn
    exact (exec_stageFault n false s).trans (runs_next (decide_eq_true hn) ha rfl)

end Sys2Proof.Machine

end

section
/-! PROOFS. A rail's reference at a T0 in REG (R170, R174, R175). -/

namespace Sys2Proof.Machine
open Sys2Proof

/-- The step that the slew rate towards the target allows rail `r` in one tick, four times as far in Graze (R170). -/
def State.slewStep (s : State) (r : Nat) : Nat :=
  ((if (s.rl r).rout < s.target r then s.getT (RLC_RAIL_SLEW.UP r) else s.getT (RLC_RAIL_SLEW.DN r)) * 2147483648 + 50000) / 100000
    * (if s.graze then 4 else 1)

/-- In REG the reference goes one step towards the target, or to the target where it is nearer (R170). -/
theorem advanceRef_reg {s : State} {r : Nat} (hreg : s.railState r = railReg) :
    s.advanceRef r = s.setRout r (if (s.rl r).rout < s.target r then min (s.target r) ((s.rl r).rout + s.slewStep r)
      else max (s.target r) ((s.rl r).rout - s.slewStep r)) := by
  have hramp : railReg ≠ railRamp := by decide
  rw [State.advanceRef, hreg, if_neg hramp, if_pos (Or.inl rfl), State.slewStep]

theorem rout_setRout {s : State} {r : Nat} (h : r < s.rlc.rails.length) (v : Nat) : ((s.setRout r v).rl r).rout = v :=
  congrArg RlcRail.rout (rl_modRl_same h _)

/-- Settles O54: in REG the reference is replaced by the value that the statement writes out. -/
theorem referenceNeverPassesItsTarget : Obligations.ReferenceNeverPassesItsTarget := by
  rintro s r _ _ _ hr hlen hreg rfl rfl rfl
  rw [advanceRef_reg hreg, rout_setRout (by omega), State.slewStep]

end Sys2Proof.Machine

end

section
/-! PROOFS. The rows of rails, references, the window and the tick (R17, R27, R29, R40, R173 to R178, R193, R196). -/

namespace Sys2Proof.Machine
open Sys2Proof

section
variable {s : State} {r : Nat}

/-- A group command switches ON of every rail of its group (R177). -/
theorem groupCommand_on {g : Nat} (hg : 0 < g) : s.groupCommand 1 g = s.each (List.range 32) (fun x r =>
    if x.get (RLC_RAIL_CTL.GRP r) = g then x.set (RLC_RAIL_CTL.ON r) 1 else x) := by
  have hvalid : ¬ (1 = 3 ∨ g = 0) := by omega
  exact (if_neg (by decide)).trans (if_neg hvalid)

theorem groupCommand_off {g : Nat} (hg : 0 < g) : s.groupCommand 2 g = s.each (List.range 32) (fun x r =>
    if x.get (RLC_RAIL_CTL.GRP r) = g then x.set (RLC_RAIL_CTL.ON r) 0 else x) := by
  have hvalid : ¬ (2 = 3 ∨ g = 0) := by omega
  exact (if_neg (by decide)).trans (if_neg hvalid)

/-- A request that is not refused goes into its slot, and its order number is used up (R178, R179). -/
theorem request_accepted {slot v : Nat} (h : s.refused r slot v = none) :
    s.request r slot v = (none, (s.acceptSlot r slot v).tickClock) := by
  rw [State.request, h]

/-- A write of RLC_RAIL_FREF without AT is a request at once, and drops the write that waits (R178, R193). -/
theorem frefCommand_now {v : Word} {u : State} (hat : wbit v 31 = false)
    (hu : u = (s.set (RLC_RAIL_FREF.ATEN r) 0).set (RLC_RAIL_STAT.ATPEND r) 0)
    (hok : u.refused r slotFw (getBits v 13 0) = none) :
    s.frefCommand r v = (u.acceptSlot r slotFw (getBits v 13 0)).tickClock := by
  rw [State.frefCommand, hat, if_neg Bool.false_ne_true, ← hu, request_accepted hok]

/-- One with AT waits for its time (R193). -/
theorem frefCommand_held {v : Word} (hat : wbit v 31 = true) (hok : s.refused r slotFw (getBits v 13 0) = none) :
    s.frefCommand r v = (((s.set (RLC_RAIL_FREF.VSET r) (getBits v 13 0)).set (RLC_RAIL_FREF.ATEN r) 1).set
      (RLC_RAIL_STAT.ATPEND r) 1).fire [hVreq r] := by
  rw [State.frefCommand, if_pos hat, hok]

/-- A write of RLC_RAIL_HREF with VALID is a request (R178). -/
theorem hrefCommand_valid {v : Word} (hvalid : wbit v 31 = true) (hok : s.refused r slotHost (getBits v 13 0) = none) :
    s.hrefCommand r v = (s.acceptSlot r slotHost (getBits v 13 0)).tickClock := by
  rw [State.hrefCommand, if_pos hvalid, request_accepted hok]

/-- The window that releases a held write captures its target, but in Hold-on-dip (R29, R193). -/
theorem exec_frefAtRelease_due {u v : State} (ha : s.alive = true) (hr : r < 32) (haten : s.on (RLC_RAIL_FREF.ATEN r) = true)
    (hdue : s.atDue r = true) (hu : u = (s.set (RLC_RAIL_FREF.ATEN r) 0).set (RLC_RAIL_STAT.ATPEND r) 0)
    (hv : v = (((u.putSlot r slotFw (s.get (RLC_RAIL_FREF.VSET r))).stamp r slotFw u.rlc.clock).arbitrate r).tickClock) :
    exec (.frefAtRelease r) s = .next ((if v.dip = true then v else v.captureTarget r).keep s) := by
  refine (exec_frefAtRelease r s).trans (runs_next (decide_eq_true hr) ha ?_)
  rw [hv, hu]
  exact if_pos (by rw [haten, hdue]; rfl)

/-- The window opens outside Hold-on-dip: swaps, targets, and the mode requested where it is not the one in force (R27, R40). -/
theorem exec_swapWindow_captures (ha : s.alive = true) (hdip : s.dip = false) :
    exec .swapWindow s = .next ((({ s with tbu := { s.tbu with
        windowOpen := true
        modeCap := if s.on TBU_CTL.MODE_REQ == s.graze then none else some (s.on TBU_CTL.MODE_REQ) } }.captureSwaps).each
      (List.range 32) State.captureTarget).keep s) :=
  (exec_swapWindow s).trans (runs_next rfl ha (if_neg (by rw [Bool.not_eq_true]; exact hdip)))

theorem alive_of_tickMay (h : s.tickMay = true) : s.alive = true := by
  simp only [State.tickMay, Bool.and_eq_true] at h
  obtain ⟨⟨⟨-, ha⟩, -⟩, -⟩ := h
  exact ha

end

/-- Settles O9: the rows of delays, the window and the tick take the branch that the clause's state allows; the register rows
act under the world rules, and a request that is not refused goes into its slot. -/
theorem railRowsComplete : Obligations.RailRowsComplete := by
  refine ⟨?_, ?_, ?_, ?_, ?_, ?_, ?_, ?_⟩
  · intro s r ha hr
    exact ⟨fun hst => (exec_tonDelayEnd r s).trans (runs_next (decide_eq_true hr) ha (if_pos hst)),
      fun hst => (exec_toffDelayEnd r s).trans (runs_next (decide_eq_true hr) ha (if_pos hst))⟩
  · intro s w g ha hw hg hlast
    exact ⟨fun hmay => (exec_groupOn w g s).trans (runs_write (wf_and_lt hw hlast) ha hmay (groupCommand_on hg)),
      fun hmay => (exec_groupOff w g s).trans (runs_write (wf_and_lt hw hlast) ha hmay (groupCommand_off hg))⟩
  · intro s u w r v ha hw hr hmay
    have hrow {t : State} (ht : s.frefCommand r v = t) : exec (.frefWrite w r v) s = .next (t.keep s) :=
      (exec_frefWrite w r v s).trans (runs_write (wf_and_lt hw hr) ha hmay ht)
    exact ⟨fun hat hu hok => hrow (frefCommand_now hat hu hok), fun hat hok => hrow (frefCommand_held hat hok)⟩
  · intro s u v r ha hr haten hdue hu hv
    exact exec_frefAtRelease_due ha hr haten hdue hu hv
  · intro s w r v ha hw hr hmay
    have hrow {t : State} (ht : s.hrefCommand r v = t) : exec (.hrefWrite w r v) s = .next (t.keep s) :=
      (exec_hrefWrite w r v s).trans (runs_write (wf_and_lt hw hr) ha hmay ht)
    exact ⟨fun hvalid hok => hrow (hrefCommand_valid hvalid hok), fun hvalid => hrow (if_neg (by simp [hvalid]))⟩
  · intro s w ha hw hmay
    exact (exec_rlcCommitLock w s).trans (runs_write hw ha hmay rfl)
  · intro s ha
    refine ⟨fun hdip => ?_, fun hdip hsame => ?_, fun hdip hother => ?_⟩
    · exact ((exec_swapWindow s).trans (runs_next rfl ha (if_pos hdip))).trans rfl
    · rw [exec_swapWindow_captures ha hdip, if_pos (beq_iff_eq.mpr hsame)]
    · rw [exec_swapWindow_captures ha hdip, if_neg (mt beq_iff_eq.mp hother)]
  · intro s t hmay
    exact (exec_tick t s).trans (runs_next rfl (alive_of_tickMay hmay) (if_pos hmay))

end Sys2Proof.Machine

end

section
/-! PROOFS. The AVSBus frames that reach one rail (R179, R181, R182). -/

namespace Sys2Proof.Machine
open Sys2Proof

section
variable {s : State} {o : AvsOp} {r ty : Nat}

/-- What makes a frame reach rail `r` and no other (R181). -/
theorem avsOne_iff : s.avsOne o r = true ↔ s.alive = true ∧ o.wf = true ∧ s.on (RLC_AVS_CFG.EN o.port) = true
    ∧ s.pinsIdle = false ∧ o.crcOk = true ∧ (s.bump (RLC_AVS_STAT.FRAMES o.port)).avsRails o.port o.sel = [r] := by
  simp [State.avsOne, and_assoc]

/-- Its Cmd does not decide whom a frame reaches (R181). -/
theorem avsOne_cmd (h : s.avsOne o r = true) {c : Nat} (hc : c < 4) : s.avsOne { o with cmd := c } r = true := by
  simp_all [State.avsOne, AvsOp.wf]

/-- An enabled port outside Ember and the un-Kindled state takes a frame. -/
theorem avsPort_open (hen : s.on (RLC_AVS_CFG.EN o.port) = true) (hpins : s.pinsIdle = false) :
    ¬ (!s.on (RLC_AVS_CFG.EN o.port) || s.pinsIdle) = true := by
  simp [hen, hpins]

/-- A read of one rail answers what its data type gives (R182). -/
theorem avsFrame_read {u : State} {f : State → Nat → Nat × State} {writable : Bool} (hone : s.avsOne o r = true)
    (hu : u = s.bump (RLC_AVS_STAT.FRAMES o.port)) (hcmd : o.cmd = 3) :
    s.avsFrame o ty writable (some f) = (f u r).2.avsAnswer o 0 (f u r).1 := by
  obtain ⟨-, -, hen, hpins, hcrc, hrails⟩ := avsOne_iff.mp hone
  rw [State.avsFrame, if_neg (avsPort_open hen hpins)]
  simp [hu, hcrc, hcmd, hrails]

/-- A write-and-commit that its check allows applies the values held and its own (R181). -/
theorem avsFrame_commit {u : State} {read : Option (State → Nat → Nat × State)} (hone : s.avsOne o r = true)
    (hu : u = s.bump (RLC_AVS_STAT.FRAMES o.port)) (hcmd : o.cmd = 0) (hcheck : u.avsCheck r ty o.data = 0) :
    s.avsFrame o ty true read = (u.avsCommit o ty).avsAnswer o 0 0 := by
  obtain ⟨-, -, hen, hpins, hcrc, hrails⟩ := avsOne_iff.mp hone
  rw [State.avsFrame, if_neg (avsPort_open hen hpins)]
  rw [hu] at hcheck ⊢
  simp [hcrc, hcmd, hrails, hcheck, worst]

/-- A target that its check allows is within VMIN and VMAX (R168, R178). -/
theorem within_of_avsCheck {data : Nat} (h : s.avsCheck r 0 data = 0) : s.within r (2 * data) = true := by
  by_contra hout
  have hrange : s.refused r slotAvs (2 * data) = some .range := if_pos (by simp [hout])
  simp [State.avsCheck, hrange] at h

/-- Such a target leaves nothing to report on the page (R187). -/
theorem avsNote_allowed {data : Nat} (h : s.avsCheck r 0 data = 0) : s.avsNote r 0 data = s :=
  (if_pos rfl).trans (if_neg (by simp [within_of_avsCheck h]))

/-- A write-and-hold that its check allows keeps the value (R181). -/
theorem avsFrame_hold {u : State} {read : Option (State → Nat → Nat × State)} (hone : s.avsOne o r = true)
    (hu : u = s.bump (RLC_AVS_STAT.FRAMES o.port)) (hcmd : o.cmd = 1) (hcheck : u.avsCheck r 0 o.data = 0) :
    s.avsFrame o 0 true read = (u.avsHoldValue o 0).avsAnswer o 0 0 := by
  obtain ⟨-, -, hen, hpins, hcrc, hrails⟩ := avsOne_iff.mp hone
  rw [State.avsFrame, if_neg (avsPort_open hen hpins)]
  rw [hu] at hcheck ⊢
  simp [hcrc, hcmd, hrails, hcheck, worst, State.each, avsNote_allowed hcheck]

/-- A frame with an unsupported Cmd is answered 0b11 without effect (R181, R182). -/
theorem avsFrame_unsupported {writable : Bool} {read : Option (State → Nat → Nat × State)}
    (hen : s.on (RLC_AVS_CFG.EN o.port) = true) (hpins : s.pinsIdle = false) (hcrc : o.crcOk = true) (hcmd : o.cmd = 2) :
    s.avsFrame o ty writable read = (s.bump (RLC_AVS_STAT.FRAMES o.port)).avsAnswer o 3 0 := by
  rw [State.avsFrame, if_neg (avsPort_open hen hpins)]
  simp [hcrc, hcmd]

end

/-- Settles O10: a frame that reaches one rail is counted, and then answers a read, commits or holds as its Cmd says. -/
theorem avsRowsComplete : Obligations.AvsRowsComplete := by
  refine ⟨fun s u o r hone hu => ?_, fun s o ha hok hen hpins hcrc => ?_⟩
  · obtain ⟨ha, hok, -⟩ := avsOne_iff.mp hone
    refine ⟨?_, fun hcheck => ⟨?_, ?_⟩, fun hread => ⟨?_, ?_, ?_, ?_, ?_⟩, fun hwrite hcheck => ?_, fun hwrite hcheck => ?_⟩
    · exact (exec_avsTargetVoltageRead o s).trans (runs_next hok ha (avsFrame_read (avsOne_cmd hone (by decide : 3 < 4)) hu rfl))
    · exact (exec_avsTargetVoltageWrite o s).trans
        (runs_next hok ha (avsFrame_commit (avsOne_cmd hone (by decide : 0 < 4)) hu rfl hcheck))
    · exact (exec_avsWriteAndHold o s).trans
        (runs_next hok ha (avsFrame_hold (avsOne_cmd hone (by decide : 1 < 4)) hu rfl hcheck))
    · exact (exec_avsTransitionRate o s).trans (runs_next hok ha (avsFrame_read hone hu hread))
    · exact (exec_avsRailCurrent o s).trans (runs_next hok ha (avsFrame_read hone hu hread))
    · exact (exec_avsRailTemperature o s).trans (runs_next hok ha (avsFrame_read hone hu hread))
    · exact (exec_avsStatus o s).trans (runs_next hok ha (avsFrame_read hone hu hread))
    · exact (exec_avsVersion o s).trans (runs_next hok ha (avsFrame_read hone hu hread))
    · exact (exec_avsTransitionRate o s).trans (runs_next hok ha (avsFrame_commit hone hu hwrite hcheck))
    · exact (exec_avsResetVoltage o s).trans (runs_next hok ha (avsFrame_commit hone hu hwrite hcheck))
  · exact (exec_avsUnsupported o s).trans
      (runs_next hok ha (avsFrame_unsupported (o := { o with cmd := 2 }) hen hpins hcrc rfl))

end Sys2Proof.Machine

end

section
/-! PROOFS. PMBus transactions of one page, and the reads of settings, status and measurements (R184 to R189). -/

namespace Sys2Proof.Machine
open Sys2Proof

section
variable {s : State} {o : PmbOp} {r : Nat}

/-- What makes a transaction reach a live port whose page is rail `r` (R184). -/
theorem pmbOn_iff : s.pmbOn o r = true ↔ s.alive = true ∧ o.wf = true ∧ s.on (RLC_PMB_CFG.EN o.q) = true
    ∧ s.pinsIdle = false ∧ r < 32 ∧ s.get (RLC_PMB_STAT.PAGE o.q) = r := by
  simp [State.pmbOn, and_assoc]

theorem alive_of_pmbOn (hon : s.pmbOn o r = true) : s.alive = true := (pmbOn_iff.mp hon).1

theorem wf_of_pmbOn (hon : s.pmbOn o r = true) : o.wf = true := (pmbOn_iff.mp hon).2.1

theorem page_of_pmbOn (hon : s.pmbOn o r = true) : s.get (RLC_PMB_STAT.PAGE o.q) = r := by
  obtain ⟨-, -, -, -, -, hpage⟩ := pmbOn_iff.mp hon
  exact hpage

/-- A page that is a rail is the only one that a command reaches (R184). -/
theorem pages_of_pmbOn (hon : s.pmbOn o r = true) : s.pages o.q = [r] := by
  obtain ⟨-, -, -, -, hr, hpage⟩ := pmbOn_iff.mp hon
  have hrail : ¬ r = 0xFF := by omega
  simp only [State.pages, hpage, if_neg hrail]

/-- An enabled port outside Ember and the un-Kindled state takes a transaction (R184). -/
theorem pmbPort_open (hon : s.pmbOn o r = true) : ¬ (!s.on (RLC_PMB_CFG.EN o.q) || s.pinsIdle) = true := by
  obtain ⟨-, -, hen, hpins, -, -⟩ := pmbOn_iff.mp hon
  simp [hen, hpins]

variable {c : PmbCmd} {f : State → Nat → Bytes × State} {bs : Bytes} {t : State}

/-- The row of a transaction that reaches a page answers what the transaction makes. -/
theorem exec_pmb {i : Instr} (hon : s.pmbOn o r = true)
    (hrow : exec i s = runs o.wf s (fun s => s.pmb o c)) (ht : s.pmb o c = t) : exec i s = .next (t.keep s) :=
  hrow.trans (runs_next (wf_of_pmbOn hon) (alive_of_pmbOn hon) ht)

/-- A read of a supported command answers its bytes and does nothing else (R184). -/
theorem pmb_read (hon : s.pmbOn o r = true) (hread : o.write = false) (hc : c.read = some f) (hx : f s r = (bs, t)) :
    s.pmb o c = t.emit (.pmb o.q bs) := by
  have hone : ¬ [r].length = 32 := by simp
  rw [State.pmb, if_neg (pmbPort_open hon)]
  simp only [pages_of_pmbOn hon, hread, hc, List.headD_cons, hx, if_neg hone, Bool.false_eq_true, if_false]
  rfl

/-- The row of such a read. -/
theorem exec_pmbRead {i : Instr} (hon : s.pmbOn o r = true) (hread : o.write = false)
    (hrow : exec i s = runs o.wf s (fun s => s.pmb o c)) (hc : c.read = some f) (hx : f s r = (bs, t)) :
    exec i s = .next ((t.emit (.pmb o.q bs)).keep s) :=
  exec_pmb hon hrow (pmb_read hon hread hc hx)

/-- The row of a read of one word that may have no stated value. -/
theorem exec_pmbReadWord {i : Instr} {g : State → Nat → Nat × State} {x : Nat × State} (hon : s.pmbOn o r = true)
    (hread : o.write = false) (hrow : exec i s = runs o.wf s (fun s => s.pmb o c)) (hc : c.read = rWordS g)
    (hx : g s r = x) : exec i s = .next ((x.2.emit (.pmb o.q (leBytes 2 x.1))).keep s) :=
  exec_pmbRead hon hread hrow hc (by rw [hx])

/-- A read of OPERATION, by whichever of its rows (R186). -/
theorem exec_operRead {i : Instr} {vs : List Nat} (hon : s.pmbOn o r = true) (hread : o.write = false)
    (hrow : exec i s = runs (o.wf && operRow o vs) s (fun s => s.pmb o pmbOperation)) :
    exec i s = .next ((s.emit (.pmb o.q (leBytes 1 (s.get (RLC_RAIL_PMB.OPER r))))).keep s) := by
  have hok : (o.wf && operRow o vs) = true := by simp [operRow, wf_of_pmbOn hon, hread]
  exact hrow.trans (runs_next hok (alive_of_pmbOn hon) (pmb_read hon hread rfl rfl))

/-- A value converted by a SCALE that is not 0 reads as it is where it fits in a word (R186). -/
theorem scaled_fitU {sc : Nat} {e : Int} {x : Nat × State} (hsc : 0 < sc) (h0 : 0 ≤ e) (h1 : e < 65536) :
    (if sc = 0 then x else s.fitU 16 e) = (e.toNat, s) :=
  (if_neg hsc.ne').trans (fitU_of_mem (n := 16) h0 h1)

/-- An absolute output limit in ULINEAR16 (R186). -/
theorem exec_pmbAbsRead {i : Instr} {g : Nat → FRef} (hon : s.pmbOn o r = true) (hread : o.write = false)
    (hrow : exec i s = runs o.wf s (fun s => s.pmb o (pmbAbs g))) (hsc : 0 < s.get (RLC_RAIL_SCALE.SCALE r))
    (hfits : (2 * s.get (g r) * 2621440 + s.get (RLC_RAIL_SCALE.SCALE r)) / (2 * s.get (RLC_RAIL_SCALE.SCALE r)) < 65536) :
    exec i s = .next ((s.emit (.pmb o.q (leBytes 2
      ((2 * s.get (g r) * 2621440 + s.get (RLC_RAIL_SCALE.SCALE r)) / (2 * s.get (RLC_RAIL_SCALE.SCALE r)))))).keep s) :=
  exec_pmbReadWord hon hread hrow rfl (scaled_fitU hsc (Int.natCast_nonneg _) (Int.ofNat_lt.mpr hfits))

/-- An output limit relative to the VOUT_COMMAND value, in ULINEAR16 (R186). -/
theorem exec_pmbRelRead {i : Instr} {g : Nat → FRef} {sgn e : Int} (hon : s.pmbOn o r = true) (hread : o.write = false)
    (hrow : exec i s = runs o.wf s (fun s => s.pmb o (pmbRel g sgn))) (hsc : 0 < s.get (RLC_RAIL_SCALE.SCALE r))
    (he : e = roundDiv (2048 * (s.get (RLC_RAIL_REQ.PMB r) * s.get (RLC_RAIL_SCALE.SCALE r) : Nat)
      + sgn * (4096 * s.get (g r) * 2 ^ 24 : Nat)) ((1000 * s.get (RLC_RAIL_SCALE.SCALE r) : Nat) : Int))
    (h0 : 0 ≤ e) (h1 : e < 65536) : exec i s = .next ((s.emit (.pmb o.q (leBytes 2 e.toNat))).keep s) := by
  subst he
  exact exec_pmbReadWord hon hread hrow rfl (scaled_fitU hsc h0 h1)

/-- A threshold of the input that names the page, in LINEAR11 (R186). -/
theorem exec_pmbVinRead {i : Instr} {g : Nat → FRef} {k : Nat} {x : Nat × State} (hon : s.pmbOn o r = true)
    (hread : o.write = false) (hrow : exec i s = runs o.wf s (fun s => s.pmb o (pmbVin g))) (hk : s.pageInput r = some k)
    (hx : x = s.l11Enc (s.get (g k) : Nat) 1000) : exec i s = .next ((x.2.emit (.pmb o.q (leBytes 2 x.1))).keep s) :=
  exec_pmbReadWord hon hread hrow rfl (by simp only [hk, hx])

end

/-- Settles O11: each row is a read of its command, whose bytes the command's `read` gives. -/
theorem pmbusReadsComplete : Obligations.PmbusReadsComplete := by
  intro o s r hon hread
  have hpage : leBytes 1 (s.get (RLC_PMB_STAT.PAGE o.q)) = leBytes 1 r := by rw [page_of_pmbOn hon]
  refine ⟨?_, ?_, ?_, ?_, ?_, ?_, ?_, ?_, ?_, ?_, ?_, ?_, ?_, fun x hx => ?_, fun x hx => ?_, fun x hx => ?_, fun x hx => ?_,
    fun x hx => ?_, fun x hx => ?_, fun x hx => ?_, fun x hx => ?_, fun x hx => ?_, ?_, ?_, ?_, ?_, fun x hx => ?_,
    fun x hx => ?_, fun hsc hfits => ?_, fun hsc hfits => ?_, fun e hsc he h0 h1 => ?_, fun e hsc he h0 h1 => ?_,
    fun k x hk hx => ?_, fun k x hk hx => ?_⟩
  · exact exec_pmbRead hon hread (exec_pageCmd o s) rfl (congrArg (·, s) hpage)
  · exact exec_operRead hon hread (exec_operationOn o s)
  · exact exec_operRead hon hread (exec_operationOff o s)
  · exact exec_operRead hon hread (exec_operationImmediateOff o s)
  · exact exec_operRead hon hread (exec_operationMarginLow o s)
  · exact exec_operRead hon hread (exec_operationMarginHigh o s)
  · exact exec_pmbRead hon hread (exec_onOffConfig o s) rfl rfl
  · exact exec_pmbRead hon hread (exec_writeProtect o s) rfl rfl
  · exact exec_pmbRead hon hread (exec_voutCommand o s) rfl rfl
  · exact exec_pmbRead hon hread (exec_voutMax o s) rfl rfl
  · exact exec_pmbRead hon hread (exec_voutMin o s) rfl rfl
  · exact exec_pmbRead hon hread (exec_voutMarginHigh o s) rfl rfl
  · exact exec_pmbRead hon hread (exec_voutMarginLow o s) rfl rfl
  · exact exec_pmbReadWord hon hread (exec_voutTransitionRate o s) rfl hx.symm
  · exact exec_pmbReadWord hon hread (exec_voutDroop o s) rfl hx.symm
  · exact exec_pmbReadWord hon hread (exec_voutScaleLoop o s) rfl hx.symm
  · exact exec_pmbReadWord hon hread (exec_ioutOcFaultLimit o s) rfl hx.symm
  · exact exec_pmbReadWord hon hread (exec_ioutOcWarnLimit o s) rfl hx.symm
  · exact exec_pmbReadWord hon hread (exec_tonDelay o s) rfl hx.symm
  · exact exec_pmbReadWord hon hread (exec_tonRise o s) rfl hx.symm
  · exact exec_pmbReadWord hon hread (exec_toffDelay o s) rfl hx.symm
  · exact exec_pmbReadWord hon hread (exec_toffFall o s) rfl hx.symm
  · exact exec_pmbRead hon hread (exec_voutOvFaultResponse o s) rfl rfl
  · exact exec_pmbRead hon hread (exec_voutUvFaultResponse o s) rfl rfl
  · exact exec_pmbRead hon hread (exec_ioutOcFaultResponse o s) rfl rfl
  · exact exec_pmbRead hon hread (exec_otFaultResponse o s) rfl rfl
  · exact exec_pmbReadWord hon hread (exec_otFaultLimit o s) rfl hx.symm
  · exact exec_pmbReadWord hon hread (exec_otWarnLimit o s) rfl hx.symm
  · exact exec_pmbAbsRead hon hread (exec_voutOvFaultLimit o s) hsc hfits
  · exact exec_pmbAbsRead hon hread (exec_voutUvFaultLimit o s) hsc hfits
  · exact exec_pmbRelRead hon hread (exec_voutOvWarnLimit o s) hsc he h0 h1
  · exact exec_pmbRelRead hon hread (exec_voutUvWarnLimit o s) hsc he h0 h1
  · exact exec_pmbVinRead hon hread (exec_vinOvFaultLimit o s) hk hx
  · exact exec_pmbVinRead hon hread (exec_vinUvFaultLimit o s) hk hx

/-- Settles O12: each row is a read of its command, whose bytes the command's `read` gives. -/
theorem pmbusStatusReadsComplete : Obligations.PmbusStatusReadsComplete := by
  intro o s r hon hread
  refine ⟨?_, ?_, ?_, ?_, ?_, ?_, ?_, ?_, ?_, ?_, ?_, ?_, ?_, ?_⟩
  · exact exec_pmbRead hon hread (exec_capability o s) rfl rfl
  · exact exec_pmbRead hon hread (exec_voutMode o s) rfl rfl
  · exact exec_pmbRead hon hread (exec_statusByte o s) rfl rfl
  · exact exec_pmbRead hon hread (exec_statusVout o s) rfl rfl
  · exact exec_pmbRead hon hread (exec_statusIout o s) rfl rfl
  · exact exec_pmbRead hon hread (exec_statusInput o s) rfl rfl
  · exact exec_pmbRead hon hread (exec_statusTemperature o s) rfl rfl
  · exact exec_pmbRead hon hread (exec_statusCml o s) rfl rfl
  · exact exec_pmbRead hon hread (exec_statusMfrSpecific o s) rfl rfl
  · exact exec_pmbRead hon hread (exec_statusWord o s) rfl rfl
  · exact exec_pmbRead hon hread (exec_pmbusRevision o s) rfl rfl
  · exact exec_pmbRead hon hread (exec_mfrId o s) rfl rfl
  · exact exec_pmbRead hon hread (exec_mfrModel o s) rfl rfl
  · exact exec_pmbRead hon hread (exec_mfrRevision o s) rfl rfl

/-- Settles O13: each row is a read of its command; the means by SCALE need a SCALE that is not 0, the input voltage an input
that names the page and measures a voltage, the fault log a record of the rail. -/
theorem pmbusMeasuredReadsComplete : Obligations.PmbusMeasuredReadsComplete := by
  intro o s r hon hread
  have hscaled (hsc : 0 < s.get (RLC_RAIL_SCALE.SCALE r)) : 0 < 256 * s.get (RLC_RAIL_SCALE.SCALE r) := by omega
  refine ⟨fun x hx => ?_, fun x hx => ?_, fun x hx => ?_, fun e hsc he h0 h1 => ?_, fun x hsc hx => ?_,
    fun k x hk hvolts hx => ?_, ?_, ?_, ?_, ?_, fun bs hlog => ?_⟩
  · exact exec_pmbReadWord hon hread (exec_readIout o s) rfl hx.symm
  · exact exec_pmbReadWord hon hread (exec_readTemperature1 o s) rfl hx.symm
  · exact exec_pmbReadWord hon hread (exec_readTemperature2 o s) rfl hx.symm
  · subst he
    exact exec_pmbReadWord hon hread (exec_readVout o s) rfl (scaled_fitU (hscaled hsc) h0 h1)
  · exact exec_pmbReadWord hon hread (exec_readPout o s) rfl ((if_neg (hscaled hsc).ne').trans hx.symm)
  · exact exec_pmbReadWord hon hread (exec_readVin o s) rfl (by simp only [hk, hvolts, hx, Bool.false_eq_true, if_false])
  · exact exec_pmbRead hon hread (exec_mfrPhaseCount o s) rfl rfl
  · exact exec_pmbRead hon hread (exec_mfrBellowsCount o s) rfl rfl
  · exact exec_pmbRead hon hread (exec_mfrRefInForce o s) rfl rfl
  · exact exec_pmbRead hon hread (exec_mfrTbc o s) rfl rfl
  · exact exec_pmbRead hon hread (exec_mfrFaultLog o s) rfl (by simp only [hlog])

end Sys2Proof.Machine

end

section
/-! PROOFS. The PMBus writes: what one page takes as one instant, the commands that act once, the alert line and the clock timeout (R175, R184 to R190, R455). -/

namespace Sys2Proof.Machine
open Sys2Proof

/-- `s` with another state of the event fabric: what an instant hands to the change within it. -/
def State.withEvf (s : State) (e : Evf) : State := { s with evf := e }

/-- Two changes that agree whatever the event fabric holds make the same instant. -/
theorem instant_congr {s : State} {f g : State → State} (h : ∀ e, f (s.withEvf e) = g (s.withEvf e)) :
    s.instant f = s.instant g := by
  have hs : f s = g s := h s.evf
  have hheld := h { s.evf with hold := some [] }
  unfold State.withEvf at hheld
  unfold State.instant
  cases s.evf.hold with
  | some l => exact hs
  | none => simp only [hheld]

theorem take_of_ok {s : State} {ok : Bool} {f : State → State} (h : ok = true) : s.take ok f = some (f s) := if_pos h

section
variable {s : State} {o : PmbOp} {r : Nat} {c : PmbCmd}

/-- A write with its packet error check in order is refused for the command alone (R184). -/
theorem pmb_pecOk (hon : s.pmbOn o r = true) (hwrite : o.write = true) (hpec : o.pec ≠ .bad)
    (hreq : o.pec = .absent → s.on (RLC_PMB_CFG.PECREQ o.q) = false) :
    s.pmb o c = match c.write with
      | none => s.setCml 7 r
      | some g => if !s.wpAllows o.q c.level || o.data.length != c.width then s.setCml 6 r
        else s.pmbApply [r] c.once g (ofLe o.data) := by
  have hpresent : ¬ (o.pec = .absent ∧ s.on (RLC_PMB_CFG.PECREQ o.q) = true) := by
    rintro ⟨habsent, hset⟩
    exact absurd ((hreq habsent).symm.trans hset) Bool.false_ne_true
  rw [State.pmb, if_neg (pmbPort_open hon)]
  simp only [pages_of_pmbOn hon, hwrite, if_true, if_neg hpec, if_neg hpresent]
  rfl

/-- A write of an unsupported command sets STATUS_CML bit 7 and nothing else (R184). -/
theorem pmb_unsupported (hon : s.pmbOn o r = true) (hwrite : o.write = true) (hpec : o.pec ≠ .bad)
    (hreq : o.pec = .absent → s.on (RLC_PMB_CFG.PECREQ o.q) = false) (hc : c.write = none) : s.pmb o c = s.setCml 7 r := by
  rw [pmb_pecOk hon hwrite hpec hreq, hc]

/-- A write that the packet error check and WRITE_PROTECT let through is applied to the page (R184). -/
theorem pmb_write {g : State → Nat → Nat → Option State} (hon : s.pmbOn o r = true) (hwrite : o.write = true)
    (hpec : o.pec ≠ .bad) (hreq : o.pec = .absent → s.on (RLC_PMB_CFG.PECREQ o.q) = false)
    (hwp : s.wpAllows o.q c.level = true) (hlen : o.data.length = c.width) (hc : c.write = some g) :
    s.pmb o c = s.pmbApply [r] c.once g (ofLe o.data) := by
  rw [pmb_pecOk hon hwrite hpec hreq, hc]
  exact if_neg (by simp [hwp, hlen])

/-- A command that acts once takes a valid value as it is. -/
theorem pmbApply_once {g : State → Nat → Nat → Option State} {t : State} {d : Nat} (h : g s r d = some t) :
    s.pmbApply [r] true g d = t := by
  simp [State.pmbApply, h]

/-- A command of one page takes a valid value as one instant of the device. -/
theorem pmbApply_page {f g : State → Nat → Nat → Option State} {d : Nat}
    (h : ∀ e, ∃ t, f (s.withEvf e) r d = some t ∧ g (s.withEvf e) r d = some t) :
    s.pmbApply [r] false g d = (s.instant (fun x => (f x r d).getD x)).tickClock := by
  refine congrArg State.tickClock (instant_congr fun e => ?_)
  obtain ⟨t, hf, hg⟩ := h e
  simp only [State.each, List.foldl_cons, List.foldl_nil, hf, hg, Option.getD_some]

end

/-- A command of one page whose write of `width` bytes, let through at `level`, is `g`. -/
structure PmbCmd.PageWrite (c : PmbCmd) (level width : Nat) (g : State → Nat → Nat → Option State) : Prop where
  level : c.level = level
  width : c.width = width
  page : c.once = false
  write : c.write = some g

section
variable {i : PmbOp → Instr} {c : PmbCmd} {level width : Nat} {g : State → Nat → Nat → Option State}

/-- The rows of a command write a page as `f` says where the command takes what `f` takes, and `f` does not look at the event
fabric to decide. -/
theorem writesPmb {ok : PmbOp → Bool} {f : State → Nat → Nat → Option State}
    (hrow : ∀ o s, exec (i o) s = runs (ok o) s (fun s => s.pmb o c)) (hc : c.PageWrite level width g)
    (hok : ∀ o s r t, o.wf = true → f s r (ofLe o.data) = some t → ok o = true)
    (hg : ∀ s r d t, f s r d = some t → g s r d = some t)
    (hevf : ∀ s e r d t, f s r d = some t → ∃ u, f (s.withEvf e) r d = some u) :
    WritesPmb i level width f := by
  intro o s t r hon hwrite hpec hreq hwp hlen hf
  have hwp' : s.wpAllows o.q c.level = true := by rw [hc.level, hwp]
  have hlen' : o.data.length = c.width := by rw [hc.width, hlen]
  refine (hrow o s).trans (runs_next (hok o s r t (wf_of_pmbOn hon) hf) (alive_of_pmbOn hon) ?_)
  rw [pmb_write hon hwrite hpec hreq hwp' hlen' hc.write, hc.page]
  refine pmbApply_page fun e => ?_
  obtain ⟨u, hu⟩ := hevf s e r _ t hf
  exact ⟨u, hu, hg _ _ _ _ hu⟩

/-- The same where `f` makes one change under a test of registers and data, and the row is the command's only one. -/
theorem writesPmb_if {P : State → Nat → Nat → Prop} [∀ s r d, Decidable (P s r d)] {act : State → Nat → Nat → State}
    (hrow : ∀ o s, exec (i o) s = runs o.wf s (fun s => s.pmb o c)) (hc : c.PageWrite level width g)
    (hg : ∀ s r d, P s r d → g s r d = some (act s r d)) (hevf : ∀ s e r d, P s r d → P (s.withEvf e) r d) :
    WritesPmb i level width (fun s r d => if P s r d then some (act s r d) else none) := by
  refine writesPmb hrow hc (fun _ _ _ _ hwf _ => hwf) (fun s r d t hf => ?_) (fun s e r d t hf => ?_)
  · obtain ⟨hP, ht⟩ := Option.ite_none_right_eq_some.mp hf
    rw [hg s r d hP, ht]
  · obtain ⟨hP, -⟩ := Option.ite_none_right_eq_some.mp hf
    exact ⟨_, if_pos (hevf s e r d hP)⟩

/-- A row of OPERATION sets the values that it names (R186). -/
theorem writesPmb_operation {vs : List Nat} {P : Nat → Prop} [DecidablePred P] {v : Nat → Nat}
    (hrow : ∀ o s, exec (i o) s = runs (o.wf && operRow o vs) s (fun s => s.pmb o pmbOperation))
    (hv : ∀ d, P d → d ∈ vs ∧ operOk d = true ∧ v d = d) :
    WritesPmb i 2 1 (fun s r d => if P d then some (s.setOper r (v d)) else none) := by
  refine writesPmb hrow ⟨rfl, rfl, rfl, rfl⟩ (fun o s r t hwf hf => ?_) (fun s r d t hf => ?_) (fun s e r d t hf => ?_)
  all_goals obtain ⟨hP, ht⟩ := Option.ite_none_right_eq_some.mp hf
  · obtain ⟨hmem, -, -⟩ := hv _ hP
    simp [operRow, hwf, hmem]
  · obtain ⟨-, hvalid, hsame⟩ := hv _ hP
    rw [← ht, hsame]
    exact take_of_ok hvalid
  · exact ⟨_, if_pos hP⟩

/-- A margin is set within the range of R168 (R186). -/
theorem writesPmb_margin {m : Nat → FRef} (hrow : ∀ o s, exec (i o) s = runs o.wf s (fun s => s.pmb o (pmbMargin m))) :
    WritesPmb i 0 2 (fun s r d => if 500 ≤ voutDec d ∧ voutDec d ≤ 10000
      then some ((s.set (m r) (voutDec d)).remargin r) else none) :=
  writesPmb_if hrow ⟨rfl, rfl, rfl, rfl⟩ (fun _ _ _ h => take_of_ok (by simpa using h)) (fun _ _ _ _ h => h)

/-- An absolute output limit is set where its conversion by SCALE fits 16 bits (R186). -/
theorem writesPmb_abs {m : Nat → FRef} (hrow : ∀ o s, exec (i o) s = runs o.wf s (fun s => s.pmb o (pmbAbs m))) :
    WritesPmb i 0 2 (fun s r d => if (2 * d * s.get (RLC_RAIL_SCALE.SCALE r) + 2621440) / 5242880 < 65536
      then some (s.set (m r) ((2 * d * s.get (RLC_RAIL_SCALE.SCALE r) + 2621440) / 5242880)) else none) :=
  writesPmb_if hrow ⟨rfl, rfl, rfl, rfl⟩ (fun _ _ _ h => take_of_ok (decide_eq_true h)) (fun _ _ _ _ h => h)

/-- The distance in mV of a limit `d` from the VOUT_COMMAND value, in the direction `sgn` (R186). -/
def State.relLimit (s : State) (sgn : Int) (r d : Nat) : Int :=
  roundDiv (sgn * ((d * 1000 : Nat) - (s.get (RLC_RAIL_REQ.PMB r) * 2048 : Nat)) * (s.get (RLC_RAIL_SCALE.SCALE r) : Nat))
    ((4096 * 2 ^ 24 : Nat) : Int)

/-- A relative output limit is set where its distance is from 1 to 255 (R186). -/
theorem writesPmb_rel {m : Nat → FRef} {sgn : Int} (hrow : ∀ o s, exec (i o) s = runs o.wf s (fun s => s.pmb o (pmbRel m sgn))) :
    WritesPmb i 0 2 (fun s r d => if 1 ≤ s.relLimit sgn r d ∧ s.relLimit sgn r d ≤ 255
      then some (s.set (m r) (s.relLimit sgn r d).toNat) else none) :=
  writesPmb_if hrow ⟨rfl, rfl, rfl, rfl⟩ (fun _ _ _ ⟨hlo, hhi⟩ => take_of_ok (by simpa using ⟨hlo, hhi⟩)) (fun _ _ _ _ h => h)

/-- A fault-response byte other than of form 0b01 is written over the ladder (R186, R188). -/
theorem writesPmb_response {a : Nat → Nat}
    (hrow : ∀ o s, exec (i o) s = runs o.wf s (fun s => s.pmb o (pmbResponse a false))) :
    WritesPmb i 0 1 (fun s r d => if d / 64 ≠ 1 then some (s.wr (a r) (ladderFor (s.rd (a r)) d)) else none) :=
  writesPmb_if hrow ⟨rfl, rfl, rfl, rfl⟩ (fun _ _ _ h => take_of_ok (by simpa using h)) (fun _ _ _ _ h => h)

/-- A phase temperature threshold is set within 16 bits (R186). -/
theorem writesPmb_ot {th : FRef} (hrow : ∀ o s, exec (i o) s = runs o.wf s (fun s => s.pmb o (pmbOt th))) :
    WritesPmb i 0 2 (fun s _ d => if -32768 ≤ l11Dec d 128 1 ∧ l11Dec d 128 1 ≤ 32767
      then some (s.seti th (l11Dec d 128 1)) else none) :=
  writesPmb_if hrow ⟨rfl, rfl, rfl, rfl⟩ (fun _ _ _ h => take_of_ok (by simpa using h)) (fun _ _ _ _ h => h)

/-- A time in µs is set within 16 bits (R186). -/
theorem writesPmb_time {m : Nat → FRef} (hrow : ∀ o s, exec (i o) s = runs o.wf s (fun s => s.pmb o (pmbTime m))) :
    WritesPmb i 0 2 (fun s r d => if (0 : Int) ≤ l11Dec d 1000 1 ∧ l11Dec d 1000 1 ≤ 65535
      then some (s.set (m r) (l11Dec d 1000 1).toNat) else none) :=
  writesPmb_if hrow ⟨rfl, rfl, rfl, rfl⟩ (fun _ _ _ h => if_pos h) (fun _ _ _ _ h => h)

/-- A threshold of the input that names the page is set within 16 bits, where an input does (R186). -/
theorem writesPmb_vin {th : Nat → FRef} (hrow : ∀ o s, exec (i o) s = runs o.wf s (fun s => s.pmb o (pmbVin th))) :
    WritesPmb i 0 2 (fun s r d => match s.pageInput r with
      | some k => if 0 ≤ l11Dec d 1000 1 ∧ l11Dec d 1000 1 ≤ 65535 then some (s.set (th k) (l11Dec d 1000 1).toNat) else none
      | none => none) := by
  refine writesPmb hrow ⟨rfl, rfl, rfl, rfl⟩ (fun _ _ _ _ hwf _ => hwf) (fun s r d t hf => ?_) (fun s e r d t hf => ?_)
  all_goals cases hk : s.pageInput r with
    | none => simp [hk] at hf
    | some k => ?_
  all_goals
    simp only [hk] at hf
    obtain ⟨hfits, ht⟩ := Option.ite_none_right_eq_some.mp hf
  · rw [← ht]
    exact take_of_ok (by simpa using hfits)
  · have hk' : (s.withEvf e).pageInput r = some k := hk
    simp only [hk']
    exact ⟨_, if_pos hfits⟩

end

/-- Settles O14: a command of one page takes what its clause takes, as one instant; PAGE, WRITE_PROTECT, CLEAR_FAULTS and the
store commands act once; the alert response and the clock timeout answer at their port. -/
theorem pmbusWritesComplete : Obligations.PmbusWritesComplete := by
  refine ⟨?_, ?_, ?_, ?_, ?_, ?_, ?_, ?_, ?_, ?_, ?_, ?_, ?_, ?_, ?_, ?_, ?_, ?_, ?_, ?_, ?_, ?_, ?_, ?_, ?_, ?_, ?_, ?_, ?_, ?_,
    ?_, ?_, ?_, ?_, ?_, ?_⟩
  · exact writesPmb_operation exec_operationOn (by rintro d rfl; decide)
  · exact writesPmb_operation exec_operationOff (by rintro d rfl; decide)
  · exact writesPmb_operation exec_operationImmediateOff (by rintro d rfl; decide)
  · exact writesPmb_operation exec_operationMarginLow (by rintro d (rfl | rfl) <;> decide)
  · exact writesPmb_operation exec_operationMarginHigh (by rintro d (rfl | rfl) <;> decide)
  · exact writesPmb_if exec_onOffConfig ⟨rfl, rfl, rfl, rfl⟩ (fun _ _ _ h => take_of_ok (by simpa using h))
      (fun _ _ _ _ h => h)
  · exact writesPmb_if exec_voutCommand ⟨rfl, rfl, rfl, rfl⟩ (fun _ _ _ h => by rw [State.voutCommand, h])
      (fun _ _ _ _ h => h)
  · exact writesPmb_if exec_voutMax ⟨rfl, rfl, rfl, rfl⟩
      (fun _ _ _ h => take_of_ok (by simpa [and_assoc, ← imp_iff_not_or] using h)) (fun _ _ _ _ h => h)
  · exact writesPmb_if exec_voutMin ⟨rfl, rfl, rfl, rfl⟩ (fun _ _ _ h => take_of_ok (by simpa using h)) (fun _ _ _ _ h => h)
  · exact writesPmb_margin exec_voutMarginHigh
  · exact writesPmb_margin exec_voutMarginLow
  · exact writesPmb_if exec_voutTransitionRate ⟨rfl, rfl, rfl, rfl⟩ (fun _ _ _ h => if_pos h) (fun _ _ _ _ h => h)
  · exact writesPmb_if exec_voutDroop ⟨rfl, rfl, rfl, rfl⟩ (fun _ _ _ h => if_pos h) (fun _ _ _ _ h => h)
  · exact writesPmb_if exec_voutScaleLoop ⟨rfl, rfl, rfl, rfl⟩
      (fun _ _ _ ⟨hlo, hhi, hlock⟩ => (if_pos ⟨hlo, hhi⟩).trans (take_of_ok (by simp [hlock]))) (fun _ _ _ _ h => h)
  · exact writesPmb_if exec_ioutOcFaultLimit ⟨rfl, rfl, rfl, rfl⟩ (fun _ _ _ h => if_pos h) (fun _ _ _ _ h => h)
  · exact writesPmb_if exec_ioutOcWarnLimit ⟨rfl, rfl, rfl, rfl⟩ (fun _ _ _ h => if_pos h) (fun _ _ _ _ h => h)
  · exact writesPmb_time exec_tonDelay
  · exact writesPmb_time exec_tonRise
  · exact writesPmb_time exec_toffDelay
  · exact writesPmb_time exec_toffFall
  · exact writesPmb_abs exec_voutOvFaultLimit
  · exact writesPmb_abs exec_voutUvFaultLimit
  · exact writesPmb_rel exec_voutOvWarnLimit
  · exact writesPmb_rel exec_voutUvWarnLimit
  · exact writesPmb_response exec_voutOvFaultResponse
  · exact writesPmb_response exec_voutUvFaultResponse
  · exact writesPmb_if exec_ioutOcFaultResponse ⟨rfl, rfl, rfl, rfl⟩ (fun _ _ _ h => take_of_ok (by simpa using h))
      (fun _ _ _ _ h => h)
  · exact writesPmb_response exec_otFaultResponse
  · exact writesPmb_ot exec_otFaultLimit
  · exact writesPmb_ot exec_otWarnLimit
  · exact writesPmb_vin exec_vinOvFaultLimit
  · exact writesPmb_vin exec_vinUvFaultLimit
  · exact writesPmb_if exec_mfrPhaseCmd ⟨rfl, rfl, rfl, rfl⟩ (fun _ _ _ h => take_of_ok (by simpa [and_assoc] using h))
      (fun _ _ _ _ h => h)
  · exact writesPmb exec_mfrLatchClear ⟨rfl, rfl, rfl, rfl⟩ (fun _ _ _ _ hwf _ => hwf) (fun _ _ _ _ h => h)
      (fun _ _ _ _ _ _ => ⟨_, rfl⟩)
  · intro o s r hon hwrite hpec hreq
    refine ⟨?_, fun hwp hlen hd => ?_, fun hwp hlen hd => ?_, fun hwp hnone => ?_⟩
    · exact exec_pmb hon (exec_pmbusUnsupported o s) (pmb_unsupported hon hwrite hpec hreq rfl)
    · exact exec_pmb hon (exec_pageCmd o s) ((pmb_write hon hwrite hpec hreq hwp hlen rfl).trans
        (pmbApply_once (take_of_ok (by simpa using hd))))
    · exact exec_pmb hon (exec_writeProtect o s) ((pmb_write hon hwrite hpec hreq hwp hlen rfl).trans
        (pmbApply_once (take_of_ok (by simpa [or_assoc] using hd))))
    · have hlen : o.data.length = 0 := by rw [hnone]; rfl
      refine ⟨?_, ?_, ?_⟩
      · exact exec_pmb hon (exec_clearFaults o s) ((pmb_write hon hwrite hpec hreq hwp hlen rfl).trans
          (pmbApply_once (by rw [pages_of_pmbOn hon]; rfl)))
      · exact exec_pmb hon (exec_storeUserAll o s) ((pmb_write hon hwrite hpec hreq hwp hlen rfl).trans (pmbApply_once rfl))
      · exact exec_pmb hon (exec_restoreUserAll o s) ((pmb_write hon hwrite hpec hreq hwp hlen rfl).trans (pmbApply_once rfl))
  · intro s q ha hq
    refine ⟨?_, fun hen halert hpins => ?_⟩
    · exact ((exec_pmbusSclTimeout q s).trans (runs_next (decide_eq_true hq) ha rfl)).trans rfl
    · exact (exec_alertResponse q s).trans (runs_next (decide_eq_true hq) ha (if_pos (by simp [hen, halert, hpins])))

end Sys2Proof.Machine

end

section
/-! PROOFS. The rows of the event fabric: channel groups, elements, software fires, the commit and the EVIO pins (R201, R204, R206, R210, R211, R215, R421). -/

namespace Sys2Proof.Machine
open Sys2Proof

/-- A row that runs with the device alive or not answers, where its operands are sound, the state that its meaning makes. -/
theorem runsEver_next {ok : Bool} {s u : State} {f : State → State} (hok : ok = true) (hu : f s = u) :
    runsEver ok s f = .next (u.keep s) := by
  rw [runsEver_eq hok, hu]

section
variable {s : State} {k : Nat}

/-- A consumer that exists takes a software fire as an event with channel 512 (R206). -/
theorem fireConsumer_exists (hk : consumerOk k = true) : s.fireConsumer k = s.consumerEvent k 512 := if_pos hk

/-- A software fire of a consumer that does not exist sets WIGN and nothing else (R206). -/
theorem fireConsumer_reserved (hk : consumerOk k = false) : s.fireConsumer k = s.set EVF_STAT.WIGN 1 := by
  rw [State.fireConsumer, if_neg (Bool.eq_false_iff.mp hk)]

/-- GO with no commit in progress starts one (R210). -/
theorem evfGo_idle (hidle : s.on EVF_COMMIT.BUSY = false) : s.evfGo = s.set EVF_COMMIT.BUSY 1 := by
  rw [State.evfGo, if_neg (Bool.eq_false_iff.mp hidle)]

/-- A pulse flag is no register: the inactive level of the pin is read as before. -/
theorem evioIdle_setPulse (j : Nat) (b : Bool) : (s.setPulse k b).evioIdle j = s.evioIdle j := rfl

end

/-- Settles O15: each row runs and takes the branch that the clause's state allows; the two rows of a write go through the world
rules, and the end of a pulse reads the inactive level from registers that the pulse does not touch. -/
theorem fabricRowsComplete : Obligations.FabricRowsComplete := by
  refine ⟨?_, ?_, ?_, ?_, ?_, ?_, ?_, ?_⟩
  · intro s g n hg hfirst
    exact (exec_channelForward g s).trans (runsEver_next (decide_eq_true hg) (by rw [hfirst]))
  · intro s u n hn hember hbusy hu
    subst hu
    refine ⟨fun helem => ?_, fun helem => ?_⟩
    · exact (exec_delayElementFire n s).trans (runsEver_next (decide_eq_true hn) (if_pos (by simp [helem, hbusy, hember])))
    · exact (exec_oneShotEnd n s).trans (runsEver_next (decide_eq_true hn) (if_pos (by simpa [hember] using helem)))
  · intro s w k ha hw hk hmay
    exact ⟨fun hok => (exec_consumerFire w k s).trans (runs_write (wf_and_lt hw hk) ha hmay (fireConsumer_exists hok)),
      fun hko => (exec_consumerFire w k s).trans (runs_write (wf_and_lt hw hk) ha hmay (fireConsumer_reserved hko))⟩
  · intro s w ha hw hmay hidle
    exact (exec_evfCommitGo w s).trans (runs_write hw ha hmay (evfGo_idle hidle))
  · intro s ha hbusy hdefer
    exact (exec_evfCommitCheck s).trans (runs_next rfl ha (if_pos (by simp [hbusy, hdefer])))
  · intro s u k lvl hk hinput hu
    subst hu
    refine (exec_evioInputEdge k lvl s).trans (runsEver_next (decide_eq_true hk) ((if_neg (by simp [hinput])).trans ?_))
    exact if_congr (by simp [or_assoc]) rfl rfl
  · intro s u k hk hember hpend hu hdir hkindled
    subst hu
    have htaken : (s.on (EVF_CON.PEND (208 + k)) && (!s.pmu.ember || decide (k < 8))) = true := by simp [hpend, hember]
    have hdrives : ¬ (!(s.takeEvent (208 + k)).on (EVF_EVIO.DIR k) || (s.takeEvent (208 + k)).unKindled) = true := by
      simp [hdir, hkindled]
    have hrow {v : State} (hv : _ = v) := (exec_evioOutput k s).trans
      (runsEver_next (decide_eq_true hk) ((if_pos htaken).trans ((if_neg hdrives).trans hv)))
    exact ⟨fun htoggle => hrow (if_pos htoggle), fun hpulse => hrow (if_neg (Bool.eq_false_iff.mp hpulse))⟩
  · intro s k hk hpulse
    rw [evioIdle_setPulse]
    exact (exec_evioPulseEnd k s).trans (runsEver_next (decide_eq_true hk) (if_pos hpulse))

end Sys2Proof.Machine

end

section
/-! PROOFS. Memory: bytes and words written read back (R225, R233). -/

namespace Sys2Proof.Machine
open Sys2Proof

section
variable {s : State}

/-- Bytes written from a key up leave every key outside them. -/
theorem byte_setBytes_outside (h : memWf s.mem = true) {k a : Nat} {bs : Bytes} (ha : a < k ∨ k + bs.length ≤ a) :
    (s.setBytes k bs).byte a = s.byte a := by
  induction bs generalizing s k with
  | nil => rfl
  | cons b bs ih =>
    rw [List.length_cons] at ha
    rw [State.setBytes, ih (memWf_setByte h k b) (by omega), byte_setByte_ne h b (by omega)]

/-- Each of the bytes written reads back, whatever its value. -/
theorem byte_setBytes_inside (h : memWf s.mem = true) {k i : Nat} {bs : Bytes} (hi : i < bs.length) :
    (s.setBytes k bs).byte (k + i) = nth bs i 0 := by
  induction bs generalizing s k i with
  | nil => simp at hi
  | cons b bs ih =>
    rw [State.setBytes]
    cases i with
    | zero =>
      rw [byte_setBytes_outside (memWf_setByte h k b) (by omega)]
      exact byte_setByte_same h k b
    | succ i =>
      rw [show k + (i + 1) = k + 1 + i by omega, ih (memWf_setByte h k b) (by simpa using hi)]
      rfl

/-- Bytes written from a key up are read there as a whole. -/
theorem bytes_setBytes (h : memWf s.mem = true) (k : Nat) (bs : Bytes) : (s.setBytes k bs).bytes k bs.length = bs := by
  refine List.ext_getElem (by simp [State.bytes]) fun i _ hi => ?_
  simp only [State.bytes, List.getElem_map, List.getElem_range, byte_setBytes_inside h hi, nth, List.getD_eq_getElem _ _ hi]

/-- A word reads back little-endian. -/
theorem word_setWord (h : memWf s.mem = true) (k : Nat) (v : Word) : (s.setWord k v).word k = v := by
  have hbytes := bytes_setBytes h k (leBytes 4 v.toNat)
  rw [leBytes_length] at hbytes
  rw [State.word, State.setWord, hbytes, wordOfLe_leBytes]

end

/-- Settles O49, by induction on the bytes written. -/
theorem memoryReadsBack : Obligations.MemoryReadsBack :=
  ⟨fun _ _ _ h => ⟨fun _ hi => byte_setBytes_inside h hi, fun _ ha => byte_setBytes_outside h ha⟩,
    fun _ k v h => word_setWord h k v⟩
end Sys2Proof.Machine

end

section
/-! PROOFS. The stack instructions and those of page 0xF0 (R239, R247, R248, R264, R276, R285, R288). -/

namespace Sys2Proof.Machine
open Sys2Proof

section
variable {s u x : State} {o : PyOp} {i : Instr} {c n : Nat} {rs : List Nat}

/-- The row of an instruction with one code, which executes as the manual says, ends as its body says. -/
theorem row_next {body : Nat → State → PyRes} {r : PyRes} (hform : o.form = 0) (hs : s.enters o c = true)
    (hr : body c (s.entered o c) = r) : pyRun o.wf o c 1 s body = .next ((r.finish o.p (opLen o c)).keep s) := by
  rw [pyRun_enters (by omega) (by omega) hs, hr]

/-- The addresses and values of a push, the lowest-numbered register at the lowest address (R247). -/
def pushed (u : State) (o : PyOp) (rs : List Nat) : List (Nat × Word) :=
  (List.range rs.length).map (fun j => ((u.gNow o.p 15).toNat - 4 * rs.length + 4 * j, u.gNow o.p (nth rs j 0)))

theorem exec_pushRow (hform : o.form = 0) (hs : s.enters o c = true)
    (hrow : (i, c, rs) ∈ [(.push o, 0x76, [o.d]), (.pushm o, 0x78, maskRegs o.imm.toNat)]) :
    exec i s = .next (((pushRegs o rs (s.entered o c)).finish o.p (opLen o c)).keep s) := by
  simp only [List.mem_cons, Prod.mk.injEq, List.not_mem_nil, or_false] at hrow
  obtain ⟨rfl, rfl, rfl⟩ | ⟨rfl, rfl, rfl⟩ := hrow
  · exact (exec_push o s).trans (row_next hform hs rfl)
  · exact (exec_pushm o s).trans (row_next hform hs rfl)

theorem exec_popRow (hform : o.form = 0) (hs : s.enters o c = true)
    (hrow : (i, c, rs) ∈ [(.pop o, 0x77, [o.d]), (.popm o, 0x79, maskRegs o.imm.toNat)]) :
    exec i s = .next (((popRegs o rs (s.entered o c)).finish o.p (opLen o c)).keep s) := by
  simp only [List.mem_cons, Prod.mk.injEq, List.not_mem_nil, or_false] at hrow
  obtain ⟨rfl, rfl, rfl⟩ | ⟨rfl, rfl, rfl⟩ := hrow
  · exact (exec_pop o s).trans (row_next hform hs rfl)
  · exact (exec_popm o s).trans (row_next hform hs rfl)

/-- A push whose checks pass enters its registers into the store buffer, one slot each (R239, R247, R276). -/
theorem pushRegs_ok (hstack : (u.stackFault o.p true (u.gNow o.p 15).toNat (4 * rs.length)).1 = 0)
    (hstore : ∀ e ∈ pushed u o rs, (u.storeCheck o.p e.1 4 e.2).1 = 0) :
    pushRegs o rs u = .ok (max 1 rs.length) ((u.each ((List.range rs.length).zip (pushed u o rs)) (fun x e =>
      x.pushStoreAt o.p e.1 ⟨e.2.1, leBytes 4 e.2.2.toNat, u.tenantCore o.p⟩)).resultG o.p (max 1 rs.length) 15
        (BitVec.ofNat 32 ((u.gNow o.p 15).toNat - 4 * rs.length))) := by
  have hnone : (pushed u o rs).find? (fun e => (u.storeCheck o.p e.1 4 e.2).1 ≠ 0) = none := by
    simpa [List.find?_eq_none] using fun a w hmem => hstore (a, w) hmem
  unfold pushed at hnone
  unfold pushRegs
  simp only [hstack, ne_eq, not_true_eq_false, if_false]
  simp only [ne_eq] at hnone
  rw [hnone]
  rfl

/-- A push that its stack check refuses changes nothing before its exception (R239). -/
theorem pushRegs_fault {k : Nat} {a : Word} (hstack : u.stackFault o.p true (u.gNow o.p 15).toNat (4 * rs.length) = (k, a))
    (hk : k ≠ 0) : pushRegs o rs u = .exc k 1 a u := by
  unfold pushRegs
  simp only [hstack]
  exact if_pos hk

/-- A pop whose checks pass and whose words read (R239, R247, R264). -/
theorem popRegs_ok {v : Word} {a : Nat} {ws : List Word}
    (hstack : (u.stackFault o.p false (u.gNow o.p 15).toNat (4 * rs.length)).1 = 0)
    (hwords : u.popWords o.p ((List.range rs.length).map (fun j => (u.gNow o.p 15).toNat + 4 * j)) [] = ((.val v, a, ws), x)) :
    popRegs o rs u = .ok (max 1 rs.length) ((x.each (rs.zip ws) (fun y e => y.resultG o.p (max 1 rs.length + 2) e.1 e.2)).resultG
      o.p (max 1 rs.length) 15 (u.gNow o.p 15 + BitVec.ofNat 32 (4 * rs.length))) := by
  unfold popRegs
  simp only [hstack, ne_eq, not_true_eq_false, if_false, hwords]

/-- A pop that its stack check refuses changes nothing before its exception (R239). -/
theorem popRegs_fault {k : Nat} {a : Word} (hstack : u.stackFault o.p false (u.gNow o.p 15).toNat (4 * rs.length) = (k, a))
    (hk : k ≠ 0) : popRegs o rs u = .exc k 0 a u := by
  unfold popRegs
  simp only [hstack]
  exact if_pos hk

/-- What every instruction of page 0xF0 does with its address: checks, then the word at its port, then `f` of that word
(R248, R285). -/
def pageBody (o : PyOp) (reads : Bool) (f : Word → State → PyRes) (u : State) : PyRes :=
  let a := u.ea o
  let k := u.pageCode o.p a reads
  if k.1 ≠ 0 then .exc k.1 k.2 (faultAddr k.1 a) u
  else match u.loadPort o.p a with
    | (none, x) => .exc 10 0 (BitVec.ofNat 32 a) x
    | (some w, x) => f w x

section
variable {reads : Bool} {f : Word → State → PyRes}

theorem pageBody_fault (hk : (u.pageCode o.p (u.ea o) reads).1 ≠ 0) : pageBody o reads f u
    = .exc (u.pageCode o.p (u.ea o) reads).1 (u.pageCode o.p (u.ea o) reads).2
      (faultAddr (u.pageCode o.p (u.ea o) reads).1 (u.ea o)) u := if_pos hk

theorem pageBody_bad (hk : (u.pageCode o.p (u.ea o) reads).1 = 0) (hw : u.loadPort o.p (u.ea o) = (none, x)) :
    pageBody o reads f u = .exc 10 0 (BitVec.ofNat 32 (u.ea o)) x := by
  simp only [pageBody, hk, hw, ne_eq, not_true_eq_false, if_false]

theorem pageBody_word {w : Word} (hk : (u.pageCode o.p (u.ea o) reads).1 = 0)
    (hw : u.loadPort o.p (u.ea o) = (some w, x)) : pageBody o reads f u = f w x := by
  simp only [pageBody, hk, hw, ne_eq, not_true_eq_false, if_false]

end

/-- The new word of a read-modify-write, if one is written. -/
def State.writeBack (x : State) (p a : Nat) : Option Word → State
  | some v => x.writePort p a v
  | none => x

/-- What a read-modify-write does with the old word (R248). -/
def rmwWord (o : PyOp) (a : Nat) (v : Word → Option Word) (fl : Word → Word × Word) (w : Word) (x : State) : PyRes :=
  .ok 2 (((x.writeBack o.p a (v w)).resultG o.p 4 o.d w).resultFlags o.p 4 (fl w).1 (fl w).2)

theorem rmwBody_eq (v : Word → Option Word) (fl : Word → Word × Word) (u : State) :
    rmwBody o v fl u = pageBody o true (rmwWord o (u.ea o) v fl) u := rfl

/-- STWI drops the word it reads and writes its immediate (R248, R285). -/
theorem exec_stwi_page (hform : o.form = 0) (hs : s.enters o 0x106 = true) : exec (.stwi o) s
    = .next (((pageBody o false (fun _ x => .ok 2 (x.writePort o.p ((s.entered o 0x106).ea o) (wordOf o.imm)))
      (s.entered o 0x106)).finish o.p (opLen o 0x106)).keep s) :=
  (exec_stwi o s).trans (row_next hform hs rfl)

/-- A row of page 0xF0 ends as `pageBody` does. -/
theorem exec_pageRow (hform : o.form = 0) (hs : s.enters o c = true)
    (hrow : (i, c) ∈ [(.addm o, 0x100), (.andm o, 0x101), (.orm o, 0x102), (.xorm o, 0x103), (.xchg o, 0x104), (.casw o, 0x105),
      (.stwi o, 0x106)]) :
    ∃ f, exec i s = .next (((pageBody o (c != 0x106) f (s.entered o c)).finish o.p (opLen o c)).keep s) := by
  simp only [List.mem_cons, Prod.mk.injEq, List.not_mem_nil, or_false] at hrow
  obtain ⟨rfl, rfl⟩ | ⟨rfl, rfl⟩ | ⟨rfl, rfl⟩ | ⟨rfl, rfl⟩ | ⟨rfl, rfl⟩ | ⟨rfl, rfl⟩ | ⟨rfl, rfl⟩ := hrow
  · exact ⟨_, (exec_addm o s).trans (row_next hform hs (rmwBody_eq _ _ _))⟩
  · exact ⟨_, (exec_andm o s).trans (row_next hform hs (rmwBody_eq _ _ _))⟩
  · exact ⟨_, (exec_orm o s).trans (row_next hform hs (rmwBody_eq _ _ _))⟩
  · exact ⟨_, (exec_xorm o s).trans (row_next hform hs (rmwBody_eq _ _ _))⟩
  · exact ⟨_, (exec_xchg o s).trans (row_next hform hs (rmwBody_eq _ _ _))⟩
  · exact ⟨_, (exec_casw o s).trans (row_next hform hs (rmwBody_eq _ _ _))⟩
  · exact ⟨_, exec_stwi_page hform hs⟩

/-- The check of a row of page 0xF0 is of a read, except for STWI (R285). -/
theorem pageRow_check {k : Nat × Nat} (hrow : (i, c, k) ∈ [(.addm o, 0x100, u.pageCode o.p (u.ea o) true),
      (.andm o, 0x101, u.pageCode o.p (u.ea o) true), (.orm o, 0x102, u.pageCode o.p (u.ea o) true),
      (.xorm o, 0x103, u.pageCode o.p (u.ea o) true), (.xchg o, 0x104, u.pageCode o.p (u.ea o) true),
      (.casw o, 0x105, u.pageCode o.p (u.ea o) true), (.stwi o, 0x106, u.pageCode o.p (u.ea o) false)]) :
    (i, c) ∈ [(.addm o, 0x100), (.andm o, 0x101), (.orm o, 0x102), (.xorm o, 0x103), (.xchg o, 0x104), (.casw o, 0x105),
      (.stwi o, 0x106)] ∧ k = u.pageCode o.p (u.ea o) (c != 0x106) := by
  simp only [List.mem_cons, Prod.mk.injEq, List.not_mem_nil, or_false] at hrow ⊢
  obtain ⟨rfl, rfl, rfl⟩ | ⟨rfl, rfl, rfl⟩ | ⟨rfl, rfl, rfl⟩ | ⟨rfl, rfl, rfl⟩ | ⟨rfl, rfl, rfl⟩ | ⟨rfl, rfl, rfl⟩ |
    ⟨rfl, rfl, rfl⟩ := hrow <;> simp

/-- A read-modify-write whose checks pass and whose word reads (R248, R264, R285). -/
theorem rmwBody_word {v : Word → Option Word} {fl : Word → Word × Word} {w m b : Word} {nv : Option Word}
    (hk : (u.pageCode o.p (u.ea o) true).1 = 0) (hw : u.loadPort o.p (u.ea o) = (some w, x)) (hv : v w = nv)
    (hfl : fl w = (m, b)) : rmwBody o v fl u
      = .ok 2 (((x.writeBack o.p (u.ea o) nv).resultG o.p 4 o.d w).resultFlags o.p 4 m b) := by
  rw [rmwBody_eq, pageBody_word hk hw, rmwWord, hv, hfl]

/-- CASW sets Z where it stores (R248). -/
theorem caswFlags (w g : Word) : (stZ, flagIf (w == g) stZ) = (stZ, if w = g then stZ else 0) := by
  simp only [flagIf, beq_iff_eq]

theorem exec_rmwRow {w g m b : Word} {v : Option Word} (hform : o.form = 0) (hs : s.enters o c = true)
    (hu : u = s.entered o c) (hk : (u.pageCode o.p (u.ea o) true).1 = 0) (hw : u.loadPort o.p (u.ea o) = (some w, x))
    (hg : g = u.gNow o.p o.d)
    (hrow : (i, c, v, m, b) ∈ [(.addm o, 0x100, some (w + g), 0, 0), (.andm o, 0x101, some (w &&& g), 0, 0),
      (.orm o, 0x102, some (w ||| g), 0, 0), (.xorm o, 0x103, some (w ^^^ g), 0, 0), (.xchg o, 0x104, some g, 0, 0),
      (.casw o, 0x105, if w = g then some (u.gNow o.p o.n) else none, stZ, if w = g then stZ else 0)]) :
    exec i s = .next (((PyRes.ok 2 (((x.writeBack o.p (u.ea o) v).resultG o.p 4 o.d w).resultFlags o.p 4 m b)).finish o.p
      (opLen o c)).keep s) := by
  subst hu hg
  simp only [List.mem_cons, Prod.mk.injEq, List.not_mem_nil, or_false] at hrow
  obtain ⟨rfl, rfl, rfl, rfl, rfl⟩ | ⟨rfl, rfl, rfl, rfl, rfl⟩ | ⟨rfl, rfl, rfl, rfl, rfl⟩ | ⟨rfl, rfl, rfl, rfl, rfl⟩ |
    ⟨rfl, rfl, rfl, rfl, rfl⟩ | ⟨rfl, rfl, rfl, rfl, rfl⟩ := hrow
  · exact (exec_addm o s).trans (row_next hform hs (rmwBody_word hk hw rfl rfl))
  · exact (exec_andm o s).trans (row_next hform hs (rmwBody_word hk hw rfl rfl))
  · exact (exec_orm o s).trans (row_next hform hs (rmwBody_word hk hw rfl rfl))
  · exact (exec_xorm o s).trans (row_next hform hs (rmwBody_word hk hw rfl rfl))
  · exact (exec_xchg o s).trans (row_next hform hs (rmwBody_word hk hw rfl rfl))
  · exact (exec_casw o s).trans (row_next hform hs (rmwBody_word hk hw rfl (caswFlags w _)))

end

/-- Settles O30: a push, a pop and an access to page 0xF0 each take the branch of their body that the clause's checks allow. -/
theorem stackPageRowsComplete : Obligations.StackPageRowsComplete := by
  refine ⟨?_, ?_, ?_, ?_, ?_, ?_⟩
  · rintro s u o i c _ rs es hform hs rfl hrow rfl rfl
    have hexec := exec_pushRow hform hs hrow
    exact ⟨fun hstack hstore => by rw [hexec, pushRegs_ok hstack hstore]; rfl,
      fun k a hstack hk => by rw [hexec, pushRegs_fault hstack hk]; rfl⟩
  · rintro s u x o i c _ rs ws hform hs rfl hrow rfl
    have hexec := exec_popRow hform hs hrow
    refine ⟨fun hstack hwords => ?_, fun k a hstack hk => by rw [hexec, popRegs_fault hstack hk]; rfl⟩
    obtain ⟨v, a, hwords⟩ := hwords
    rw [hexec, popRegs_ok hstack hwords]
    rfl
  · intro s u x o i c w g v m fl hform hs hu hk hw hg hrow
    refine (exec_rmwRow hform hs hu hk hw hg hrow).trans ?_
    cases v <;> rfl
  · rintro s u o i c k hform hs rfl hrow hk
    obtain ⟨hpage, rfl⟩ := pageRow_check hrow
    obtain ⟨f, hexec⟩ := exec_pageRow hform hs hpage
    rw [hexec, pageBody_fault hk]
    rfl
  · rintro s u x o _ hform hs rfl rfl hk w hw
    rw [exec_stwi_page hform hs, pageBody_word hk hw]
    rfl
  · rintro s u x o i c hform hs rfl hrow hk hw
    obtain ⟨f, hexec⟩ := exec_pageRow hform hs hrow
    rw [hexec, pageBody_bad hk hw]
    rfl

end Sys2Proof.Machine

end

section
/-! PROOFS. The fields that an operation of the machine leaves alone: its cores. A lemma for each operation of which a load may be
the cause, by the file of the operation. `-implicitDefEqProofs` keeps each step of a simp in the proof: left out, simp
closes such a goal by rfl, and the kernel then unfolds the whole operation to check it. -/

namespace Sys2Proof.Machine
open Sys2Proof

section
variable (s : State)

@[simp] theorem State.ite_cores {c : Prop} [Decidable c] (s t : State) :
    (if c then s else t).cores = if c then s.cores else t.cores := apply_ite State.cores c s t

@[simp] theorem State.ite_snd_cores {α : Type} {c : Prop} [Decidable c] (x y : α × State) :
    (if c then x else y).2.cores = if c then x.2.cores else y.2.cores := apply_ite (fun z : α × State => z.2.cores) c x y

@[simp] theorem State.each_cores {α : Type} {f : State → α → State} (hf : ∀ s x, (f s x).cores = s.cores) (l : List α) :
    (s.each l f).cores = s.cores := by
  induction l generalizing s with
  | nil => rfl
  | cons a l ih => exact (ih (f s a)).trans (hf s a)

@[simp] theorem State.when_cores {f : State → State} (hf : ∀ s, (f s).cores = s.cores) (b : Bool) :
    (s.when b f).cores = s.cores := by
  cases b
  · rfl
  · exact hf s

/-! `Machine/Fabric.lean`. -/

@[simp] theorem State.slotReady_cores (p sl : Nat) : (s.slotReady p sl).cores = s.cores := by
  simp -implicitDefEqProofs [State.slotReady]

@[simp] theorem State.wakeEvent_cores (k : Nat) : (s.wakeEvent k).cores = s.cores := by
  simp -implicitDefEqProofs [State.wakeEvent]

@[simp] theorem State.capTrigger_cores (k : Nat) : (s.capTrigger k).cores = s.cores := by
  simp -implicitDefEqProofs [State.capTrigger]

@[simp] theorem State.consumerEvent_cores (k ch : Nat) : (s.consumerEvent k ch).cores = s.cores := by
  simp -implicitDefEqProofs [State.consumerEvent]

@[simp] theorem State.chWait_cores (n : Nat) : (s.chWait n).cores = s.cores := rfl

@[simp] theorem State.mergeAt_cores (n : Nat) (m : Bool) : (s.mergeAt n m).cores = s.cores := by
  simp -implicitDefEqProofs [State.mergeAt]

@[simp] theorem State.firePsel_cores (ps : List Nat) : (s.firePsel ps).cores = s.cores := by
  simp -implicitDefEqProofs [State.firePsel, State.fireAfter, State.chanPins, State.consumerAfter, State.feedB]

@[simp] theorem State.fireNow_cores (ps : List Nat) : (s.fireNow ps).cores = s.cores := by
  unfold State.fireNow
  split <;> simp -implicitDefEqProofs

@[simp] theorem State.fire_cores (hs : List Nat) : (s.fire hs).cores = s.cores := by
  simp -implicitDefEqProofs [State.fire]

@[simp] theorem State.instant_cores {f : State → State} (hf : ∀ s, (f s).cores = s.cores) :
    (s.instant f).cores = s.cores := by
  unfold State.instant
  split
  · exact hf s
  · simp -implicitDefEqProofs [hf]

@[simp] theorem State.icuRaise_cores (n : Nat) : (s.icuRaise n).cores = s.cores := by
  simp -implicitDefEqProofs [State.icuRaise]

@[simp] theorem State.fireHif_cores (i : Nat) : (s.fireHif i).cores = s.cores := by
  simp -implicitDefEqProofs [State.fireHif, State.signal]

/-! `Machine/Mem.lean`. -/

@[simp] theorem State.setWord_cores (k : Nat) (v : Word) : (s.setWord k v).cores = s.cores := by
  simp -implicitDefEqProofs [State.setWord]

@[simp] theorem State.corrected_cores (p k : Nat) : (s.corrected p k).cores = s.cores := by
  simp -implicitDefEqProofs [State.corrected]

@[simp] theorem State.uncorrectable_cores (p k : Nat) : (s.uncorrectable p k).cores = s.cores := by
  simp -implicitDefEqProofs [State.uncorrectable]

@[simp] theorem State.readEcc_cores (p k : Nat) : (s.readEcc p k).2.cores = s.cores := by
  simp -implicitDefEqProofs [State.readEcc]

@[simp] theorem State.setSusp_cores (b : Bool) : (s.setSusp b).cores = s.cores := by
  unfold State.setSusp
  split <;> simp -implicitDefEqProofs

@[simp] theorem State.flashResume_cores : s.flashResume.cores = s.cores := by
  simp -implicitDefEqProofs [State.flashResume]

@[simp] theorem State.storeFar_cores (p k : Nat) (bs : Bytes) : (s.storeFar p k bs).cores = s.cores := by
  simp -implicitDefEqProofs [State.storeFar, State.writeFar]

@[simp] theorem State.scrub_cores (k n : Nat) : (s.scrub k n).cores = s.cores := by
  simp -implicitDefEqProofs [State.scrub]

@[simp] theorem State.engineWords_cores (k n : Nat) : (s.engineWords k n).2.cores = s.cores := by
  induction n generalizing s k with
  | zero => rfl
  | succ n ih => simp -implicitDefEqProofs [State.engineWords, ih]

/-! `Machine/Records.lean`. -/

@[simp] theorem State.evPost_cores (ty : Nat) (payload : Bytes) : (s.evPost ty payload).cores = s.cores := by
  simp -implicitDefEqProofs [State.evPost]

@[simp] theorem State.mrPost_cores (ty : Nat) (payload : Bytes) : (s.mrPost ty payload).cores = s.cores := by
  simp -implicitDefEqProofs [State.mrPost]

@[simp] theorem State.mramCount_cores (i : Nat) : (s.mramCount i).cores = s.cores := by
  simp -implicitDefEqProofs [State.mramCount]

@[simp] theorem State.record_cores (ty : Nat) (xs : List Nat) : (s.record ty xs).cores = s.cores := by
  simp -implicitDefEqProofs [State.record]

/-! `Machine/Except.lean`. -/

@[simp] theorem State.showCore_cores (p : Nat) : (s.showCore p).cores = s.cores := by
  simp -implicitDefEqProofs [State.showCore]

@[simp] theorem State.judgeIdle_cores : s.judgeIdle.cores = s.cores := by
  simp -implicitDefEqProofs [State.judgeIdle]

/-! `Machine/Access.lean`. -/

@[simp] theorem State.plainWrite_cores (a : Nat) (v : Word) : (s.plainWrite a v).cores = s.cores := by
  unfold State.plainWrite
  split <;> simp -implicitDefEqProofs

@[simp] theorem State.plainRead_cores (a : Nat) : (s.plainRead a).cores = s.cores := by
  unfold State.plainRead
  split <;> simp -implicitDefEqProofs

/-! `Machine/PhaseArray.lean`. -/

@[simp] theorem State.phaWrite_cores (a : Nat) (v : Word) : (s.phaWrite a v).cores = s.cores := by
  simp -implicitDefEqProofs [State.phaWrite, State.senEdges, State.phaseCommand, State.cmdIgn]

@[simp] theorem State.phaLock_cores : s.phaLock.cores = s.cores := by
  unfold State.phaLock
  split <;> simp -implicitDefEqProofs

/-! `Machine/Flock.lean`. -/

@[simp] theorem State.modFp_cores (p : Nat) (f : FlkPort → FlkPort) : (s.modFp p f).cores = s.cores := rfl

@[simp] theorem State.choose_cores : s.choose.cores = s.cores := by
  simp -implicitDefEqProofs [State.choose, State.sendAnnounce]

@[simp] theorem State.portFall_cores (p : Nat) : (s.portFall p).cores = s.cores := by
  simp -implicitDefEqProofs [State.portFall, State.spanLost, State.followerMid, State.sendSpanloss]

@[simp] theorem State.sendHead_cores (p : Nat) : (s.sendHead p).cores = s.cores := by
  unfold State.sendHead
  split <;> simp -implicitDefEqProofs

@[simp] theorem State.sendOn_cores (p : Nat) (f : MsgFrame) : (s.sendOn p f).cores = s.cores := by
  simp -implicitDefEqProofs [State.sendOn]

@[simp] theorem State.routeFrame_cores (f : MsgFrame) (from_ : Option Nat) : (s.routeFrame f from_).cores = s.cores := by
  unfold State.routeFrame
  dsimp only
  split <;> simp -implicitDefEqProofs

@[simp] theorem State.msgDrop_cores : s.msgDrop.cores = s.cores := by
  simp -implicitDefEqProofs [State.msgDrop]

@[simp] theorem State.drainTx_cores (n : Nat) : (s.drainTx n).cores = s.cores := by
  induction n generalizing s with
  | zero => rfl
  | succ n ih => simp -implicitDefEqProofs [State.drainTx, ih]

@[simp] theorem State.flkLock_cores : s.flkLock.cores = s.cores := by
  unfold State.flkLock
  split <;> simp -implicitDefEqProofs

@[simp] theorem State.flkWrite_cores (a : Nat) (v : Word) : (s.flkWrite a v).cores = s.cores := by
  simp -implicitDefEqProofs [State.flkWrite, State.rejoin, State.modFs, State.serveTx]

/-! `Machine/Timebase.lean`. -/

@[simp] theorem State.readTbc_cores (sub : Nat) : (s.readTbc sub).2.cores = s.cores := by
  simp -implicitDefEqProofs [State.readTbc]

@[simp] theorem State.readBgc_cores : s.readBgc.2.cores = s.cores := by
  simp -implicitDefEqProofs [State.readBgc]

/-! `Machine/Sensing.lean`. -/

@[simp] theorem State.readCapStat_cores : s.readCapStat.2.cores = s.cores := by
  simp -implicitDefEqProofs [State.readCapStat]

@[simp] theorem State.snsWrite_cores (a : Nat) (v : Word) : (s.snsWrite a v).cores = s.cores := by
  simp -implicitDefEqProofs [State.snsWrite]

/-! `Machine/Anvil.lean`. -/

@[simp] theorem State.setBankWord_cores (k : Nat) (v : Word) : (s.setBankWord k v).cores = s.cores := rfl

@[simp] theorem State.storeShadow_cores (l w : Nat) (v : Word) : (s.storeShadow l w v).cores = s.cores := by
  simp -implicitDefEqProofs [State.storeShadow]

@[simp] theorem State.shadowWrite_cores (l k : Nat) (v : Word) : (s.shadowWrite l k v).cores = s.cores := by
  simp -implicitDefEqProofs [State.shadowWrite]

@[simp] theorem State.swapCommand_cores (v : Word) : (s.swapCommand v).cores = s.cores := by
  simp -implicitDefEqProofs [State.swapCommand]

@[simp] theorem State.trigWrite_cores (l : Nat) (v : Word) : (s.trigWrite l v).cores = s.cores := by
  simp -implicitDefEqProofs [State.trigWrite]

@[simp] theorem State.zeroLane_cores (l : Nat) : (s.zeroLane l).cores = s.cores := by
  simp -implicitDefEqProofs [State.zeroLane]

@[simp] theorem State.lnStatWrite_cores (l : Nat) (v : Word) : (s.lnStatWrite l v).cores = s.cores := by
  simp -implicitDefEqProofs [State.lnStatWrite]

@[simp] theorem State.anvLock_cores : s.anvLock.cores = s.cores := by
  unfold State.anvLock
  split <;> simp -implicitDefEqProofs

@[simp] theorem State.anvWrite_cores (a : Nat) (v : Word) : (s.anvWrite a v).cores = s.cores := by
  simp -implicitDefEqProofs [State.anvWrite, State.snapWrite]

/-! `Machine/Bellows.lean`. -/

@[simp] theorem State.disarm_cores (r : Nat) : (s.disarm r).cores = s.cores := by
  simp -implicitDefEqProofs [State.disarm, State.dropForce]

@[simp] theorem State.blwWrite_cores (a : Nat) (v : Word) : (s.blwWrite a v).cores = s.cores := by
  simp -implicitDefEqProofs [State.blwWrite, State.alertNew, State.latchWrite, State.quenchCommand, State.quenchDevice,
    State.fireSafe, State.quenchRail, State.raiseBit, State.dropLoads, State.takeRole, State.takeEvent]

/-! `Machine/Rails.lean`. -/

@[simp] theorem State.limited_cores (r : Nat) : (s.limited r).cores = s.cores := by
  simp -implicitDefEqProofs [State.limited]

@[simp] theorem State.arbitrate_cores (r : Nat) : (s.arbitrate r).cores = s.cores := by
  simp -implicitDefEqProofs [State.arbitrate]

@[simp] theorem State.noteLimit_cores (r v : Nat) : (s.noteLimit r v).cores = s.cores := by
  simp -implicitDefEqProofs [State.noteLimit]

@[simp] theorem State.stamp_cores (r slot ord : Nat) : (s.stamp r slot ord).cores = s.cores := by
  simp -implicitDefEqProofs [State.stamp]

@[simp] theorem State.tickClock_cores : s.tickClock.cores = s.cores := rfl

@[simp] theorem State.acceptSlot_cores (r slot v : Nat) : (s.acceptSlot r slot v).cores = s.cores := by
  simp -implicitDefEqProofs [State.acceptSlot, State.putSlot]

@[simp] theorem State.request_cores (r slot v : Nat) : (s.request r slot v).2.cores = s.cores := by
  unfold State.request
  split <;> simp -implicitDefEqProofs

@[simp] theorem State.setCml_cores (b r : Nat) : (s.setCml b r).cores = s.cores := by
  simp -implicitDefEqProofs [State.setCml]

@[simp] theorem State.takeMargin_cores (r : Nat) : (s.takeMargin r).cores = s.cores := by
  unfold State.takeMargin
  split
  · simp -implicitDefEqProofs
  · split <;> simp -implicitDefEqProofs

@[simp] theorem State.frefCommand_cores (r : Nat) (v : Word) : (s.frefCommand r v).cores = s.cores := by
  unfold State.frefCommand
  dsimp only
  split <;> (try split) <;> simp -implicitDefEqProofs

@[simp] theorem State.rlcLock_cores : s.rlcLock.cores = s.cores := by
  unfold State.rlcLock
  split <;> simp -implicitDefEqProofs

@[simp] theorem State.rlcWrite_cores (a : Nat) (v : Word) : (s.rlcWrite a v).cores = s.cores := by
  simp -implicitDefEqProofs [State.rlcWrite, State.setOper, State.remargin, State.limWrite, State.hrefCommand,
    State.groupCommand]

/-! `Machine/Mfu.lean`. -/

@[simp] theorem State.mfuDo_cores {f : State → State} (hf : ∀ s, (f s).cores = s.cores) (m : Nat) :
    (s.mfuDo m f).cores = s.cores := by
  simp -implicitDefEqProofs [State.mfuDo, hf]

@[simp] theorem State.readPos_cores (m : Nat) : (s.readPos m).2.cores = s.cores := by
  simp -implicitDefEqProofs [State.readPos]

@[simp] theorem State.mfuFallback_cores (m : Nat) : (s.mfuFallback m).cores = s.cores := by
  simp -implicitDefEqProofs [State.mfuFallback]

@[simp] theorem State.mfuWrite_cores (a : Nat) (v : Word) : (s.mfuWrite a v).cores = s.cores := by
  simp -implicitDefEqProofs [State.mfuWrite]

/-! `Machine/Tele.lean`. -/

@[simp] theorem State.modTr_cores (t : Nat) (f : TRing → TRing) : (s.modTr t f).cores = s.cores := rfl

/-! `Machine/Events.lean`. -/

@[simp] theorem State.setPulse_cores (k : Nat) (b : Bool) : (s.setPulse k b).cores = s.cores := rfl

@[simp] theorem State.evfWrite_cores (a : Nat) (v : Word) : (s.evfWrite a v).cores = s.cores := by
  simp -implicitDefEqProofs [State.evfWrite, State.evioWrite, State.evioDrive, State.evioTo, State.fireConsumer, State.evfGo]

/-! `Machine/Icu.lean`. -/

@[simp] theorem State.icuLock_cores : s.icuLock.cores = s.cores := by
  unfold State.icuLock
  split <;> simp -implicitDefEqProofs

@[simp] theorem State.icuWrite_cores (a : Nat) (v : Word) : (s.icuWrite a v).cores = s.cores := by
  simp -implicitDefEqProofs [State.icuWrite, State.icuSet]

/-! `Machine/Micro.lean`. -/

@[simp] theorem State.ucWrite_cores (p a : Nat) (v : Word) : (s.ucWrite p a v).cores = s.cores := by
  simp -implicitDefEqProofs [State.ucWrite, State.patchData, State.setUcWord, State.ucCommand, State.setUcValid, State.ucBusy]

/-! `Machine/Memsys.lean`. -/

@[simp] theorem State.injWrite_cores (p : Nat) (v : Word) : (s.injWrite p v).cores = s.cores := by
  simp -implicitDefEqProofs [State.injWrite]

/-! `Machine/Rings.lean`. -/

@[simp] theorem State.modSq_cores (q : Nat) (f : Sq → Sq) : (s.modSq q f).cores = s.cores := rfl

@[simp] theorem State.modCq_cores (c : Nat) (f : Cq → Cq) : (s.modCq c f).cores = s.cores := rfl

/-! `Machine/HostQueue.lean`. -/

@[simp] theorem State.complete_cores (q status : Nat) (result : Word) : (s.complete q status result).cores = s.cores := by
  unfold State.complete
  split <;> simp -implicitDefEqProofs

@[simp] theorem State.settleN_cores (q n : Nat) : (s.settleN q n).cores = s.cores := by
  induction n generalizing s with
  | zero => rfl
  | succ n ih =>
    unfold State.settleN
    split <;> simp -implicitDefEqProofs [ih]

@[simp] theorem State.settle_cores : s.settle.cores = s.cores := by
  simp -implicitDefEqProofs [State.settle]

@[simp] theorem State.executed_cores (q : Nat) (d : Desc) : (s.executed q d).cores = s.cores := by
  simp -implicitDefEqProofs [State.executed]

@[simp] theorem State.fwComplete_cores (v : Word) : (s.fwComplete v).cores = s.cores := by
  unfold State.fwComplete
  dsimp only
  split <;> simp -implicitDefEqProofs

/-! `Machine/Hif.lean`. -/

@[simp] theorem State.restore_cores (p : Nat → FieldSpec → Bool) : (s.restore p).cores = s.cores := rfl

@[simp] theorem State.refit_cores : s.refit.cores = s.cores := by
  simp -implicitDefEqProofs [State.refit, State.trAbandon, State.trDrop]

@[simp] theorem State.hifLock_cores : s.hifLock.cores = s.cores := by
  unfold State.hifLock
  split <;> simp -implicitDefEqProofs

@[simp] theorem State.hifWrite_cores (a : Nat) (v : Word) : (s.hifWrite a v).cores = s.cores := by
  simp -implicitDefEqProofs [State.hifWrite, State.sqCtlWrite, State.evPostCommand, State.capCtlWrite, State.dumpStart,
    State.capArm, State.hifCtlWrite, State.linkUpFire, State.hpolWrite]

/-! `Machine/Image.lean`. -/

@[simp] theorem State.copyFw_cores (p : Nat) (l : List (Sect × Bytes)) : (s.copyFw p l).cores = s.cores := by
  simp -implicitDefEqProofs [State.copyFw, State.writeBlock]

/-! `Machine/Nvc.lean`. -/

@[simp] theorem State.otpShadow_cores : s.otpShadow.cores = s.cores := by
  simp -implicitDefEqProofs [State.otpShadow]

@[simp] theorem State.mrWrite_cores : s.mrWrite.cores = s.cores := by
  unfold State.mrWrite
  split <;> simp -implicitDefEqProofs

@[simp] theorem State.nvcWrite_cores (a : Nat) (v : Word) : (s.nvcWrite a v).cores = s.cores := by
  simp -implicitDefEqProofs [State.nvcWrite, State.mrPostCommand, State.flashCommand, State.flashStart]

@[simp] theorem State.otpWrite_cores (a : Nat) (v : Word) : (s.otpWrite a v).cores = s.cores := by
  simp -implicitDefEqProofs [State.otpWrite, State.otpCommand]

@[simp] theorem State.flashServe_cores (a : Nat) : (s.flashServe a).cores = s.cores := by
  unfold State.flashServe
  split
  · split <;> simp -implicitDefEqProofs [State.progBytes, State.flProgram]
  · rfl

/-! `Machine/Modes.lean`. -/

@[simp] theorem State.pmuRefuse_cores (c : Nat) : (s.pmuRefuse c).cores = s.cores := by
  simp -implicitDefEqProofs [State.pmuRefuse]

@[simp] theorem State.putDue_cores (k : Nat) : (s.putDue k).cores = s.cores := by
  simp -implicitDefEqProofs [State.putDue]

@[simp] theorem State.pmuWrite_cores (a : Nat) (v : Word) : (s.pmuWrite a v).cores = s.cores := by
  simp -implicitDefEqProofs [State.pmuWrite, State.wdtKick, State.wdtWrite, State.ctlWrite, State.ctlAct, State.emberWrite,
    State.emberEnter, State.hostReset, State.hostClear, State.qexitWrite, State.holdWrite]

@[simp] theorem State.evioReset_cores (old : State) : (s.evioReset old).cores = s.cores := by
  simp -implicitDefEqProofs [State.evioReset]

@[simp] theorem State.rstInfo_cores (k : Nat) : (s.rstInfo k).cores = s.cores := by
  simp -implicitDefEqProofs [State.rstInfo]

@[simp] theorem State.noteReset_cores (old : State) (k : Nat) : (s.noteReset old k).cores = s.cores := by
  simp -implicitDefEqProofs [State.noteReset]

/-! `Machine/Bus.lean`. -/

@[simp] theorem State.unlock_cores (b : LockBlk) : (s.unlock b).cores = s.cores := by
  cases b <;> simp -implicitDefEqProofs [State.unlock]

@[simp] theorem State.lockBlk_cores (b : LockBlk) : (s.lockBlk b).cores = s.cores := by
  unfold State.lockBlk
  split <;> simp -implicitDefEqProofs

@[simp] theorem State.regRead_cores (tenant : Bool) (a : Nat) : (s.regRead tenant a).2.cores = s.cores := by
  unfold State.regRead
  split <;> simp -implicitDefEqProofs

@[simp] theorem State.holdCore_cores (p : Nat) : (s.holdCore p).cores = s.cores := rfl

end

end Sys2Proof.Machine

end

section
/-! PROOFS. A change of the cores that moves none of them to another bank and starts no load. -/

namespace Sys2Proof.Machine
open Sys2Proof

/-- Where each core stands: the bank it executes in and its outstanding load. -/
def stands (cs : List PyCore) (p : Nat) : Nat × Option PLoad := ((nth cs p {}).bank, (nth cs p {}).pload)

/-- What a change of one entry leaves alone in that entry reads as before in every entry. -/
theorem nth_modNth_keeps {α β : Type} (g : α → β) {f : α → α} (hf : ∀ x, g (f x) = g x) (l : List α) (q p : Nat) (d : α) :
    g (nth (modNth l q f) p d) = g (nth l p d) := by
  by_cases hq : p = q
  · subst hq
    by_cases hp : p < l.length
    · rw [nth_modNth_same hp, hf]
    · rw [modNth_beyond (by omega)]
  · rw [nth_modNth_ne l hq]

/-- A change of a core that moves neither its bank nor its load. -/
@[simp] theorem stands_modNth {f : PyCore → PyCore} (hbank : ∀ c, (f c).bank = c.bank) (hload : ∀ c, (f c).pload = c.pload)
    (cs : List PyCore) (q : Nat) : stands (modNth cs q f) = stands cs :=
  funext fun p => nth_modNth_keeps (fun c => (c.bank, c.pload)) (fun c => by rw [hbank, hload]) cs q p {}

@[simp] theorem stands_ite {c : Prop} [Decidable c] (cs ds : List PyCore) :
    stands (if c then cs else ds) = if c then stands cs else stands ds := apply_ite stands c cs ds

/-- The state that an operation answers beside a value. -/
theorem cores_of_answer {α : Type} {x : α × State} {cs : List PyCore} {a : α} {t : State} (h : x.2.cores = cs)
    (e : x = (a, t)) : t.cores = cs := by
  rw [e] at h
  exact h

theorem stands_of_answer {α : Type} {x : α × State} {cs : List PyCore} {a : α} {t : State} (h : stands x.2.cores = stands cs)
    (e : x = (a, t)) : stands t.cores = stands cs := by
  rw [e] at h
  exact h

section
variable (s : State)

@[simp] theorem stands_each {α : Type} {f : State → α → State} (hf : ∀ s x, stands (f s x).cores = stands s.cores) (l : List α) :
    stands (s.each l f).cores = stands s.cores := by
  induction l generalizing s with
  | nil => rfl
  | cons a l ih => exact (ih (f s a)).trans (hf s a)

theorem stands_modCore {f : PyCore → PyCore} (hbank : ∀ c, (f c).bank = c.bank) (hload : ∀ c, (f c).pload = c.pload)
    (q : Nat) : stands (s.modCore q f).cores = stands s.cores := stands_modNth hbank hload s.cores q

@[simp] theorem stands_modBank (p b : Nat) (f : Bank → Bank) : stands (s.modBank p b f).cores = stands s.cores := by
  simp -implicitDefEqProofs [State.modBank]

@[simp] theorem stands_flushWord (p : Nat) : stands (s.flushWord p).2.cores = stands s.cores := by
  unfold State.flushWord
  split
  · rfl
  · rename_i k bs _
    split <;> rename_i e <;> simp -implicitDefEqProofs [writeEcc_cores, cores_of_answer (s.readEcc_cores p k) e]

@[simp] theorem stands_flushMerge (p : Nat) : stands (s.flushMerge p).cores = stands s.cores := stands_flushWord s p

@[simp] theorem stands_flushHit (q k : Nat) : stands (s.flushHit q k).cores = stands s.cores := by
  unfold State.flushHit
  split <;> simp -implicitDefEqProofs

@[simp] theorem stands_retireStore (p : Nat) : stands (s.retireStore p).cores = stands s.cores := by
  unfold State.retireStore
  split
  · rfl
  · dsimp only
    split
    · split
      · rw [writeEcc_cores]
        split <;> simp -implicitDefEqProofs
      · refine (stands_modCore _ (by exact fun _ => rfl) (by exact fun _ => rfl) p).trans ?_
        split <;> simp -implicitDefEqProofs
    · simp -implicitDefEqProofs

@[simp] theorem stands_retireN (p n : Nat) : stands (s.retireN p n).cores = stands s.cores := by
  induction n generalizing s with
  | zero => rfl
  | succ n ih => exact (ih _).trans (stands_retireStore s p)

@[simp] theorem stands_retireOverlap (p a n : Nat) : stands (s.retireOverlap p a n).cores = stands s.cores := stands_retireN s p _

@[simp] theorem stands_performFar (p : Nat) (e : StEntry) : stands (s.performFar p e).cores = stands s.cores := by
  unfold State.performFar
  split <;> simp -implicitDefEqProofs

@[simp] theorem stands_deliverMem (p : Nat) : stands (s.deliverMem p).cores = stands s.cores := by
  simp -implicitDefEqProofs [State.deliverMem]

@[simp] theorem stands_portWord (p a : Nat) : stands (s.portWord p a).2.cores = stands s.cores := by
  unfold State.portWord
  dsimp only
  split <;> simp -implicitDefEqProofs

@[simp] theorem stands_ownWord (p a : Nat) : stands (s.ownWord p a).2.cores = stands s.cores := by
  unfold State.ownWord
  split <;> simp -implicitDefEqProofs

@[simp] theorem stands_loadMem (p a n : Nat) : stands (s.loadMem p a n).2.cores = stands s.cores := by
  unfold State.loadMem
  dsimp only
  split
  · rw [State.ite_snd_cores, stands_ite]
    split
    · rfl
    · split <;> rename_i e <;> simp -implicitDefEqProofs [stands_of_answer (stands_ownWord _ p a) e]
  · split <;> rename_i e <;> simp -implicitDefEqProofs [stands_of_answer (stands_ownWord _ p a) e]

end
end Sys2Proof.Machine

end

section
/-! PROOFS. A core with a load outstanding keeps its bank through every register write (R281, R333, R418), so that a load that is
answered at once writes Gd of the bank it was issued in. -/

namespace Sys2Proof.Machine
open Sys2Proof

/-- The six cores as after reset. -/
def freshCores : List PyCore := List.replicate 6 {}

section
variable (s : State)

@[simp] theorem stands_slotWrite (p sl : Nat) (v : Word) : stands (s.slotWrite p sl v).cores = stands s.cores := by
  simp -implicitDefEqProofs [State.slotWrite]

@[simp] theorem stands_drvWrite (p a : Nat) (v : Word) : stands (s.drvWrite p a v).cores = stands s.cores := by
  simp -implicitDefEqProofs [State.drvWrite]

@[simp] theorem stands_startCore (p : Nat) (pc : Word) : stands (s.startCore p pc).cores = stands s.cores := by
  simp -implicitDefEqProofs [State.startCore]

@[simp] theorem stands_restartCore (p : Nat) : stands (s.restartCore p).cores = stands s.cores := by
  unfold State.restartCore
  split
  · simp -implicitDefEqProofs
  · split <;> simp -implicitDefEqProofs

@[simp] theorem resetK_cores : s.resetK.cores = freshCores := rfl

@[simp] theorem resetCold_cores : s.resetCold.cores = freshCores := rfl

@[simp] theorem resetKeeper_cores : s.resetKeeper.cores = freshCores := by
  simp -implicitDefEqProofs [State.resetKeeper]

@[simp] theorem resetPin_cores (k : Nat) : (s.resetPin k).cores = freshCores := by
  simp -implicitDefEqProofs [State.resetPin]

/-- A reset wider than of one core leaves every core as after reset (R418). -/
@[simp] theorem resetOf_cores (k : Nat) : (s.resetOf k).cores = freshCores := by
  simp -implicitDefEqProofs [State.resetOf]

/-- A core as after reset has no load outstanding. -/
theorem stands_freshCores (p : Nat) : (stands freshCores p).2 = none := by
  have hfresh : nth freshCores p {} = {} := by
    unfold freshCores nth
    rw [List.getD_eq_getElem?_getD, List.getElem?_replicate]
    split <;> rfl
  exact congrArg PyCore.pload hfresh

end

/-- From `s` to `t` every core with an outstanding load stands where it stood: it has not been reset meanwhile. -/
def Steady (s t : State) : Prop := ∀ p, (stands t.cores p).2 = none ∨ stands t.cores p = stands s.cores p

namespace Steady
variable {s t u : State}

theorem of_stands (h : stands t.cores = stands s.cores) : Steady s t := fun p => .inr (congrFun h p)

theorem of_cores (h : t.cores = s.cores) : Steady s t := of_stands (congrArg stands h)

theorem refl (s : State) : Steady s s := of_cores rfl

theorem trans (hst : Steady s t) (htu : Steady t u) : Steady s u := fun p => by
  rcases htu p with hu | hu
  · exact .inl hu
  · rw [hu]
    exact hst p

theorem ite {c : Prop} [Decidable c] (ht : Steady s t) (hu : Steady s u) : Steady s (if c then t else u) := by
  split <;> assumption

theorem each {α : Type} {f : State → α → State} (hf : ∀ s x, Steady s (f s x)) (s : State) (l : List α) :
    Steady s (s.each l f) := by
  induction l generalizing s with
  | nil => exact refl s
  | cons a l ih => exact (hf s a).trans (ih (f s a))

/-- A core that is reset has no load. -/
theorem modCore_fresh (s : State) (q : Nat) : Steady s (s.modCore q fun _ => {}) := fun p => by
  by_cases hq : p = q
  · subst hq
    by_cases hp : p < s.cores.length
    · exact .inl (congrArg PyCore.pload (nth_modNth_same hp (fun _ => {}) {}))
    · exact .inr (by rw [State.modCore_cores, modNth_beyond (by omega)])
  · exact .inr (by rw [State.modCore_cores, stands, nth_modNth_ne s.cores hq, stands])

theorem resetOf (s : State) (k : Nat) : Steady s (s.resetOf k) := fun p => .inl (by rw [resetOf_cores, stands_freshCores])

section
variable {f : State → Nat → Word → State}

/-- What a core has posted is written as `f` writes it; the rest of its buffers goes to memory (R333). -/
theorem drainCore (hf : ∀ s a v, Steady s (f s a v)) (s : State) (p : Nat) : Steady s (s.drainCore f p) := by
  have hmem : Steady s (((s.retireN p (s.core p).sb.length).flushMerge p).deliverMem p) := of_stands (by simp)
  have hposted := hmem.trans (of_stands (stands_modCore _ (f := fun c => { c with posted := [] }) (fun _ => rfl) (fun _ => rfl) p))
  have hwritten := hposted.trans (each (fun s (e : StEntry) => hf s e.addr (wordOfLe e.bytes)) _
    (((s.retireN p (s.core p).sb.length).flushMerge p).deliverMem p |>.core p).posted)
  unfold State.drainCore
  dsimp only
  split
  · exact hwritten
  · exact ite (hwritten.trans (of_cores (State.regRead_cores _ _ _))) (hwritten.trans (of_stands (stands_portWord _ _ _)))

theorem coreReset (hf : ∀ s a v, Steady s (f s a v)) (s : State) (p : Nat) : Steady s (s.coreReset f p) := by
  refine ((drainCore hf s p).trans (modCore_fresh _ p)).trans (of_stands ?_)
  rw [State.coreReset, stands_restartCore, State.restore_cores, State.flashResume_cores]

theorem kctlWrite (hf : ∀ s a v, Steady s (f s a v)) (s : State) (v : Word) : Steady s (s.kctlWrite f v) :=
  ite ((of_cores (by simp)).trans ((each (drainCore hf) _ _).trans (resetOf _ 5))) (of_cores (by simp))

theorem windowWrite (hf : ∀ s a v, Steady s (f s a v)) (s : State) (p a : Nat) (v : Word) : Steady s (s.windowWrite f p a v) :=
  ite (of_cores (by simp)) (ite (of_cores (by simp)) (ite (of_cores (by simp)) (ite (ite (coreReset hf s p) (refl s))
    (of_stands (by simp)))))

theorem regEffectBy (hf : ∀ s a v, Steady s (f s a v)) (s : State) (a : Nat) (v : Word) : Steady s (regEffectBy f s a v) := by
  unfold Machine.regEffectBy
  dsimp only
  split
  · exact ite (of_cores (by simp)) (of_cores (by simp))
  · split
    case h_8 => exact ite (windowWrite hf s _ a v) (refl s)
    case h_10 => exact ite (kctlWrite hf s v) (of_cores (by simp))
    all_goals exact of_cores (by simp)

end
theorem regEffectN (n : Nat) (s : State) (a : Nat) (v : Word) : Steady s (regEffectN n s a v) := by
  induction n generalizing s a v with
  | zero => exact regEffectN_zero s a v ▸ regEffectBy (fun s _ _ => refl s) s a v
  | succ n ih => exact regEffectN_succ n s a v ▸ regEffectBy ih s a v

/-- A register write starts no load, and moves a core with a load outstanding to no other bank. -/
theorem regEffect (s : State) (a : Nat) (v : Word) : Steady s (s.regEffect a v) := regEffectN 8 s a v

end Steady

section
variable {s t : State} {p a n : Nat} {v : Word}

theorem bank_of_stands (h : stands t.cores = stands s.cores) (p : Nat) : (t.core p).bank = (s.core p).bank :=
  congrArg Prod.fst (congrFun h p)

theorem bank_modCore {f : PyCore → PyCore} (hf : ∀ c, (f c).bank = c.bank) (s : State) (q p : Nat) :
    ((s.modCore q f).core p).bank = (s.core p).bank := nth_modNth_keeps PyCore.bank hf s.cores q p {}

/-- Register writes that a core waits for, and that do not reset it, leave its bank (R281, R333). -/
theorem bank_deliverRegs (h : s.deliverRegs p = (true, t)) : (t.core p).bank = (s.core p).bank := by
  unfold State.deliverRegs at h
  extract_lets keep es s1 s2 at h
  have hbank1 : (s1.core p).bank = (s.core p).bank := bank_modCore (by exact fun _ => rfl) s p p
  have hsteady : Steady s1 s2 := Steady.each (fun s (e : StEntry) => Steady.regEffect s e.addr (wordOfLe e.bytes)) s1 _
  split at h
  · rename_i hload
    obtain ⟨-, rfl⟩ := Prod.mk.inj h
    rw [← hbank1]
    refine (bank_modCore (by exact fun _ => rfl) s2 p p).trans ?_
    rcases hsteady p with hnone | hsame
    · rw [show (s2.core p).pload = none from hnone] at hload
      cases hload
    · exact congrArg Prod.fst hsame
  · cases h

/-- So does a word read beyond the core's own buffers (R283). -/
theorem bank_farWord (h : s.farWord p a = (.val v, t)) : (t.core p).bank = (s.core p).bank := by
  unfold State.farWord at h
  split at h
  · split at h
    · cases h
    · rename_i x hregs
      obtain ⟨-, rfl⟩ := Prod.mk.inj h
      rw [← bank_deliverRegs hregs]
      exact bank_of_stands (congrArg stands (State.regRead_cores _ _ _)) p
  · split at h
    · cases h
    · rename_i x hregs
      have hbank : (x.core p).bank = (s.core p).bank := by
        split at hregs
        · exact bank_deliverRegs hregs
        · rw [(Prod.mk.inj hregs).2]
      split at h
      · rename_i e
        obtain ⟨-, rfl⟩ := Prod.mk.inj h
        rw [← hbank]
        exact bank_of_stands ((stands_of_answer (stands_portWord _ p a) e).trans (stands_deliverMem x p)) p
      · cases h

/-- A load that is answered at once leaves its core in its bank. -/
theorem bank_readNow (h : s.readNow p a n true = (.val v, t)) : (t.core p).bank = (s.core p).bank := by
  unfold State.readNow at h
  extract_lets far s1 s2 at h
  have hbank1 : (s1.core p).bank = (s.core p).bank := bank_of_stands (congrArg stands (State.flashServe_cores s a)) p
  have hbank2 : (s2.core p).bank = (s.core p).bank := by
    rw [← hbank1]
    exact bank_of_stands (by simp -implicitDefEqProofs [s2]) p
  rw [← hbank2]
  split at h
  · cases h
  · split at h
    · split at h
      · rename_i e
        obtain ⟨-, rfl⟩ := Prod.mk.inj h
        exact bank_farWord e
      · rename_i hno
        exact absurd h (hno v t)
    · rw [if_pos rfl] at h
      split at h
      · rename_i e
        obtain ⟨-, rfl⟩ := Prod.mk.inj h
        exact bank_of_stands (stands_of_answer (stands_loadMem _ p a n) e) p
      · cases h

end
end Sys2Proof.Machine

end

section
/-! PROOFS. The loads, stores and address instructions (R225, R247, R250, R262, R264, R280, R281, R282, R283, R329). -/

namespace Sys2Proof.Machine
open Sys2Proof

section
variable {s u x y z : State} {o : PyOp} {i : Instr} {c p a n len st : Nat} {sg now : Bool} {d : Dest} {v w : Word}

/-- A result in flight is read by nobody before it lands (R265). -/
theorem gNow_resultG (s : State) (p lat r q k : Nat) (v : Word) : (s.resultG p lat r v).gNow q k = s.gNow q k := 
  nth_modNth_keeps (fun c : PyCore => nth (nth c.banks c.bank {}).g k 0) (by exact fun _ => rfl) s.cores p q {}

/-- A form field that fits its encoding is one of four (R241). -/
theorem form_lt_of_enters (hs : s.enters o c = true) : o.form < 4 := by
  simp only [State.enters, State.reaches, PyOp.wf, Bool.and_eq_true, decide_eq_true_eq] at hs
  omega

section
variable {body : State → PyRes}

theorem rep_off (hrep : o.pfx.rep = false) (u : State) (st : Nat) (body : State → PyRes) : u.rep o st body = body u := by
  simp [State.rep, hrep]

/-- Under REP with G13 = 0 an instruction takes one slot and has no other effect (R262). -/
theorem rep_none (hrep : o.pfx.rep = true) (hcount : u.gNow o.p 13 = 0) : u.rep o st body = .ok 1 u := by
  simp [State.rep, hrep, hcount]

/-- A request that is taken before the first repetition leaves the core at the instruction (R262). -/
theorem rep_left (hrep : o.pfx.rep = true) (hcount : u.gNow o.p 13 ≠ 0) (hstop : o.stop = some 0) :
    u.rep o st body = .left u :=
  (rep_seq o st body (fun _ => u) (fun _ => u) u 0 hrep rfl (Nat.zero_le _) (by simp [hstop]) (by simp) (by simp) (by simp)).2.1
    hcount (.inl hstop)

/-- One repetition, after which a request is taken or G13 is 0 (R262). -/
theorem rep_once (hrep : o.pfx.rep = true) (hcount : u.gNow o.p 13 ≠ 0)
    (hstop : o.stop = some 1 ∨ o.stop = none ∧ u.gNow o.p 13 = 1) (hboundary : (u.core o.p).boundary = [])
    (hbody : body u = .ok 1 y) (hst : st ≠ 0)
    (hz : z = ((y.resultG o.p 1 13 (y.gNow o.p 13 - 1)).resultG o.p 1 o.s (y.gNow o.p o.s + BitVec.ofNat 32 st)).slots o.p 1) :
    u.rep o st body = if z.gNow o.p 13 = 0 then .ok 0 z else .left z := by
  have hpos : (u.gNow o.p 13).toNat ≠ 0 := fun h => hcount (BitVec.eq_of_toNat_eq h)
  have hbound : (match o.stop with
      | some k => min k (u.gNow o.p 13).toNat
      | none => (u.gNow o.p 13).toNat) = 1 := by
    rcases hstop with h | ⟨h, hone⟩
    · simp only [h]; omega
    · simp only [h, hone]; rfl
  have hrepeat : u.repeat o st body (0 + 1) = if z.gNow o.p 13 = 0 then .ok 0 z else .left z := by
    rw [State.repeat, if_neg hcount, if_neg (by simp [hboundary]), hbody]
    simp only [if_neg hst, gNow_resultG, ← hz, State.repeat]
  unfold State.rep
  simp only [hrep, Bool.not_true, Bool.false_eq_true, if_false, if_neg hpos]
  exact (congrArg (u.repeat o st body) hbound).trans hrepeat

end

/-- A buffered store covers the access, so that a load may take its bytes from there (R282). -/
def State.covered (s : State) (p a n : Nat) : Bool :=
  match youngest (s.core p).sb a n with
  | some e => coversAll e a n
  | none => false

/-- A load that is answered at once (R247, R280, R282; log entry 58). -/
def State.answersNow (s : State) (p a n : Nat) : Prop :=
  areaOf a = .loc ∨ areaOf a = .rom ∨ (s.covered p a n = true ∧ areaOf a ≠ .periph ∧ areaOf a ≠ .mram)

/-- The branch of a load on where it is answered, as `answersNow` says. -/
theorem load_near_iff (u : State) (p a n : Nat) (now : Bool) :
    ((areaOf a == .loc || areaOf a == .rom || (u.covered p a n && areaOf a != .periph && areaOf a != .mram)) || now) = true
      ↔ u.answersNow p a n ∨ now = true := by
  simp [State.answersNow, or_assoc, and_assoc]

theorem load_fault (hk : u.dataCheck p (u.tenantCore p) (u.userCore p) a n .load ≠ 0) : u.load p a n sg d len now
    = .exc (u.dataCheck p (u.tenantCore p) (u.userCore p) a n .load) 0
      (faultAddr (u.dataCheck p (u.tenantCore p) (u.userCore p) a n .load) a) u := if_pos hk

section
variable (hk : u.dataCheck p (u.tenantCore p) (u.userCore p) a n .load = 0)
include hk

/-- A load of a core's own word is answered in the slot it issues in (R264, R280, R282). -/
theorem load_val (hnear : u.answersNow p a n ∨ now = true) (hread : u.readNow p a n true = (.val v, x)) :
    u.load p a n sg d len now = .ok 1 (x.result p 3 d (extended v n sg)) :=
  (if_neg (not_not.mpr hk)).trans ((if_pos ((load_near_iff u p a n now).mpr hnear)).trans (by rw [hread]))

/-- A word that cannot be corrected (R288). -/
theorem load_bad (hnear : u.answersNow p a n ∨ now = true) (hread : u.readNow p a n true = (.bad, x)) :
    u.load p a n sg d len now = .exc 10 0 (BitVec.ofNat 32 a) x :=
  (if_neg (not_not.mpr hk)).trans ((if_pos ((load_near_iff u p a n now).mpr hnear)).trans (by rw [hread]))

/-- A load that is not answered at once leaves the core at the instruction. -/
theorem load_out (hfar : ¬ u.answersNow p a n) : u.load p a n sg d len false =
    let y := if areaOf a == .flash then u.setSusp true else u
    .stay ((if areaOf a == .periph || areaOf a == .mram then y.retireN p (y.core p).sb.length else y.retireOverlap p a n).modCore p
      (fun q => { q with pload := some ⟨a, n, sg, d, len⟩ })) :=
  (if_neg (not_not.mpr hk)).trans (if_neg fun h => hfar (((load_near_iff u p a n false).mp h).resolve_right Bool.false_ne_true))

/-- A read of a register or of MRAM follows every older store of its core (R283). -/
theorem load_drained (harea : areaOf a = .periph ∨ areaOf a = .mram) : u.load p a n sg d len false
    = .stay ((u.retireN p (u.core p).sb.length).modCore p (fun q => { q with pload := some ⟨a, n, sg, d, len⟩ })) := by
  have hfar : ¬ u.answersNow p a n := by
    rcases harea with h | h <;> simp [State.answersNow, h]
  rw [load_out hk hfar]
  rcases harea with h | h <;> simp [h]

/-- Any other load through a port follows the older stores that it overlaps; one of the flash window suspends an erase
(R280, R282, R380). -/
theorem load_ordered (hloc : areaOf a ≠ .loc) (hrom : areaOf a ≠ .rom) (hperiph : areaOf a ≠ .periph) (hmram : areaOf a ≠ .mram)
    (hcovered : u.covered p a n = false) : u.load p a n sg d len false
    = .stay (((if areaOf a = .flash then u.setSusp true else u).retireOverlap p a n).modCore p
      (fun q => { q with pload := some ⟨a, n, sg, d, len⟩ })) := by
  rw [load_out hk (by simp [State.answersNow, hloc, hrom, hcovered])]
  simp [hperiph, hmram]

end

theorem store_ok (hk : (u.storeCheck p a n v).1 = 0) :
    u.store p a n v = .ok 1 (u.pushStore p ⟨a, leBytes n v.toNat, u.tenantCore p⟩) := by
  rw [State.store, show u.storeCheck p a n v = (0, u) from Prod.ext hk (storeCheck_ok hk)]
  rfl

theorem store_fault (hk : (u.storeCheck p a n v).1 ≠ 0) : u.store p a n v
    = .exc (u.storeCheck p a n v).1 1 (faultAddr (u.storeCheck p a n v).1 a) (u.storeCheck p a n v).2 := by
  unfold State.store
  generalize u.storeCheck p a n v = e at hk
  obtain ⟨k, t⟩ := e
  cases k with
  | zero => exact absurd rfl hk
  | succ k => rfl

/-- A row of four forms, which executes as the manual says, ends as its body says. -/
theorem rowOf_next {body : Nat → State → PyRes} {r : PyRes} (hs : s.enters o (c + o.form) = true)
    (hr : body (c + o.form) (s.entered o (c + o.form)) = r) :
    pyRun o.wf o c 4 s body = .next ((r.finish o.p (opLen o (c + o.form))).keep s) := by
  rw [pyRun_enters (form_lt_of_enters hs) rfl hs, hr]

section
variable (hs : s.enters o (c + o.form) = true)
include hs

/-- The loads into a G register (R247). -/
theorem exec_loadRow (hrow : (i, c, n, sg) ∈ [(.ldw o, 0x50, 4, false), (.ldh o, 0x54, 2, true), (.ldhu o, 0x58, 2, false),
      (.ldb o, 0x5C, 1, true), (.ldbu o, 0x60, 1, false)]) : exec i s
    = .next (((loadBody n sg o (c + o.form) (s.entered o (c + o.form))).finish o.p (opLen o (c + o.form))).keep s) := by
  simp only [List.mem_cons, Prod.mk.injEq, List.not_mem_nil, or_false] at hrow
  obtain ⟨rfl, rfl, rfl, rfl⟩ | ⟨rfl, rfl, rfl, rfl⟩ | ⟨rfl, rfl, rfl, rfl⟩ | ⟨rfl, rfl, rfl, rfl⟩ | ⟨rfl, rfl, rfl, rfl⟩ := hrow
  · exact (exec_ldw o s).trans (rowOf_next hs rfl)
  · exact (exec_ldh o s).trans (rowOf_next hs rfl)
  · exact (exec_ldhu o s).trans (rowOf_next hs rfl)
  · exact (exec_ldb o s).trans (rowOf_next hs rfl)
  · exact (exec_ldbu o s).trans (rowOf_next hs rfl)

/-- The stores of a G register (R247). -/
theorem exec_storeRow (hrow : (i, c, n) ∈ [(.stw o, 0x64, 4), (.sth o, 0x68, 2), (.stb o, 0x6C, 1)]) : exec i s
    = .next (((storeBody n o (c + o.form) (s.entered o (c + o.form))).finish o.p (opLen o (c + o.form))).keep s) := by
  simp only [List.mem_cons, Prod.mk.injEq, List.not_mem_nil, or_false] at hrow
  obtain ⟨rfl, rfl, rfl⟩ | ⟨rfl, rfl, rfl⟩ | ⟨rfl, rfl, rfl⟩ := hrow
  · exact (exec_stw o s).trans (rowOf_next hs rfl)
  · exact (exec_sth o s).trans (rowOf_next hs rfl)
  · exact (exec_stb o s).trans (rowOf_next hs rfl)

theorem exec_leaRow (hc : c = 0x70) : exec (.lea o) s
    = .next ((((s.entered o (c + o.form)).rep o 0 (fun s => .ok 1 (s.resultG o.p 1 o.d (s.gNow o.p o.s + wordOf o.disp)))).finish
      o.p (opLen o (c + o.form))).keep s) := by
  subst hc
  exact (exec_lea o s).trans (rowOf_next hs rfl)

/-- The rows of this family that may carry REP (R262). -/
theorem exec_repRow (hrow : (i, c) ∈ [(.ldw o, 0x50), (.ldh o, 0x54), (.ldhu o, 0x58), (.ldb o, 0x5C), (.ldbu o, 0x60),
      (.stw o, 0x64), (.sth o, 0x68), (.stb o, 0x6C), (.lea o, 0x70)]) :
    ∃ st body, exec i s
      = .next ((((s.entered o (c + o.form)).rep o st body).finish o.p (opLen o (c + o.form))).keep s) := by
  simp only [List.mem_cons, Prod.mk.injEq, List.not_mem_nil, or_false] at hrow
  obtain ⟨rfl, rfl⟩ | ⟨rfl, rfl⟩ | ⟨rfl, rfl⟩ | ⟨rfl, rfl⟩ | ⟨rfl, rfl⟩ | ⟨rfl, rfl⟩ | ⟨rfl, rfl⟩ | ⟨rfl, rfl⟩ | ⟨rfl, rfl⟩ := hrow
  · exact ⟨4, _, exec_loadRow hs (sg := false) (by simp)⟩
  · exact ⟨2, _, exec_loadRow hs (sg := true) (by simp)⟩
  · exact ⟨2, _, exec_loadRow hs (sg := false) (by simp)⟩
  · exact ⟨1, _, exec_loadRow hs (sg := true) (by simp)⟩
  · exact ⟨1, _, exec_loadRow hs (sg := false) (by simp)⟩
  · exact ⟨4, _, exec_storeRow hs (by simp)⟩
  · exact ⟨2, _, exec_storeRow hs (by simp)⟩
  · exact ⟨1, _, exec_storeRow hs (by simp)⟩
  · exact ⟨0, _, exec_leaRow hs rfl⟩

section
variable {nf : Nat} (hu : u = s.entered o (c + o.form)) (hform : o.form < nf) (hrep : o.pfx.rep = false)
include hu hform hrep

/-- Without REP a load is one load of its address (R247). -/
theorem exec_oneLoad (hrow : (i, nf, c, a, n, sg, d) ∈ [
      (.ldw o, 4, 0x50, u.ea o, 4, false, .g (u.core o.p).bank o.d), (.ldh o, 4, 0x54, u.ea o, 2, true, .g (u.core o.p).bank o.d),
      (.ldhu o, 4, 0x58, u.ea o, 2, false, .g (u.core o.p).bank o.d), (.ldb o, 4, 0x5C, u.ea o, 1, true, .g (u.core o.p).bank o.d),
      (.ldbu o, 4, 0x60, u.ea o, 1, false, .g (u.core o.p).bank o.d),
      (.ldwpc o, 1, 0x74, (u.pcRel o 0x74).toNat, 4, false, .g (u.core o.p).bank o.d), (.fld o, 1, 0xBD, u.ea o, 4, false, .f o.d)]) :
    exec i s = .next (((u.load o.p a n sg d (opLen o (c + o.form)) false).finish o.p (opLen o (c + o.form))).keep s) := by
  subst hu
  have hbody : ∀ n sg u, loadBody n sg o (c + o.form) u
      = u.load o.p (u.ea o) n sg (.g (u.core o.p).bank o.d) (opLen o (c + o.form)) false := fun n sg u =>
    (rep_off hrep u n _).trans (by rw [hrep])
  simp only [List.mem_cons, Prod.mk.injEq, List.not_mem_nil, or_false] at hrow
  obtain ⟨rfl, rfl, rfl, rfl, rfl, rfl, rfl⟩ | ⟨rfl, rfl, rfl, rfl, rfl, rfl, rfl⟩ | ⟨rfl, rfl, rfl, rfl, rfl, rfl, rfl⟩ |
    ⟨rfl, rfl, rfl, rfl, rfl, rfl, rfl⟩ | ⟨rfl, rfl, rfl, rfl, rfl, rfl, rfl⟩ | ⟨rfl, rfl, rfl, rfl, rfl, rfl, rfl⟩ |
    ⟨rfl, rfl, rfl, rfl, rfl, rfl, rfl⟩ := hrow
  · exact (exec_ldw o s).trans (rowOf_next hs (hbody 4 false _))
  · exact (exec_ldh o s).trans (rowOf_next hs (hbody 2 true _))
  · exact (exec_ldhu o s).trans (rowOf_next hs (hbody 2 false _))
  · exact (exec_ldb o s).trans (rowOf_next hs (hbody 1 true _))
  · exact (exec_ldbu o s).trans (rowOf_next hs (hbody 1 false _))
  · rw [Nat.lt_one_iff.mp hform] at hs ⊢
    exact (exec_ldwpc o s).trans (row_next (Nat.lt_one_iff.mp hform) hs rfl)
  · exact (exec_fld o s).trans (pyRun_enters hform rfl hs _)

/-- Without REP a store is one store to its address (R247). -/
theorem exec_oneStore (hrow : (i, nf, c, n, v) ∈ [(.stw o, 4, 0x64, 4, u.gNow o.p o.d), (.sth o, 4, 0x68, 2, u.gNow o.p o.d),
      (.stb o, 4, 0x6C, 1, u.gNow o.p o.d), (.fst o, 1, 0xBE, 4, u.fNow o.p o.d)]) :
    exec i s = .next (((u.store o.p (u.ea o) n v).finish o.p (opLen o (c + o.form))).keep s) := by
  subst hu
  have hbody : ∀ n u, storeBody n o (c + o.form) u = u.store o.p (u.ea o) n (u.gNow o.p o.d) := fun n u => rep_off hrep u n _
  simp only [List.mem_cons, Prod.mk.injEq, List.not_mem_nil, or_false] at hrow
  obtain ⟨rfl, rfl, rfl, rfl, rfl⟩ | ⟨rfl, rfl, rfl, rfl, rfl⟩ | ⟨rfl, rfl, rfl, rfl, rfl⟩ | ⟨rfl, rfl, rfl, rfl, rfl⟩ := hrow
  · exact (exec_stw o s).trans (rowOf_next hs (hbody 4 _))
  · exact (exec_sth o s).trans (rowOf_next hs (hbody 2 _))
  · exact (exec_stb o s).trans (rowOf_next hs (hbody 1 _))
  · exact (exec_fst o s).trans (pyRun_enters hform rfl hs _)

end
end

/-- A repeated load whose word reads is one load into Gd of the bank it found (R262, R264). -/
theorem load_repeated (hk : u.dataCheck o.p (u.tenantCore o.p) (u.userCore o.p) (u.ea o) n .load = 0)
    (hread : u.readNow o.p (u.ea o) n true = (.val v, x)) :
    u.load o.p (u.ea o) n sg (.g (u.core o.p).bank o.d) len true = .ok 1 (x.resultG o.p 3 o.d (extended v n sg)) := by
  rw [load_val hk (.inr rfl) hread, State.resultG, bank_readNow hread]

/-- A row that is executed once under REP: one load or store, the count and the address, as `rep_once` says (R262). -/
theorem exec_oneRep (hs : s.enters o (c + o.form) = true) (hu : u = s.entered o (c + o.form)) (hrep : o.pfx.rep = true)
    (hcount : u.gNow o.p 13 ≠ 0) (hstop : o.stop = some 1 ∨ o.stop = none ∧ u.gNow o.p 13 = 1)
    (hboundary : (u.core o.p).boundary = [])
    (hrow : (i, c, n, sg) ∈ [(.ldw o, 0x50, 4, false), (.ldh o, 0x54, 2, true), (.ldhu o, 0x58, 2, false), (.ldb o, 0x5C, 1, true),
          (.ldbu o, 0x60, 1, false)] ∧ u.dataCheck o.p (u.tenantCore o.p) (u.userCore o.p) (u.ea o) n .load = 0
        ∧ u.readNow o.p (u.ea o) n true = (.val v, x) ∧ y = x.resultG o.p 3 o.d (extended v n sg)
      ∨ (i, c, n) ∈ [(.stw o, 0x64, 4), (.sth o, 0x68, 2), (.stb o, 0x6C, 1)]
        ∧ (u.storeCheck o.p (u.ea o) n (u.gNow o.p o.d)).1 = 0
        ∧ y = u.pushStore o.p ⟨u.ea o, leBytes n (u.gNow o.p o.d).toNat, u.tenantCore o.p⟩)
    (hz : z = ((y.resultG o.p 1 13 (y.gNow o.p 13 - 1)).resultG o.p 1 o.s (y.gNow o.p o.s + BitVec.ofNat 32 n)).slots o.p 1) :
    exec i s = .next (((if z.gNow o.p 13 = 0 then PyRes.ok 0 z else .left z).finish o.p (opLen o (c + o.form))).keep s) := by
  subst hu
  obtain ⟨hrow, hk, hread, hy⟩ | ⟨hrow, hk, hy⟩ := hrow
  · have hn : n ≠ 0 := by
      rintro rfl
      simp at hrow
    rw [exec_loadRow hs hrow, loadBody, rep_once hrep hcount hstop hboundary (by rw [hrep, load_repeated hk hread, hy]) hn hz]
  · have hn : n ≠ 0 := by
      rintro rfl
      simp at hrow
    rw [exec_storeRow hs hrow, storeBody, rep_once hrep hcount hstop hboundary (by rw [store_ok hk, hy]) hn hz]

end

/-- Settles O29: every row is one load, one store or one address, whose answer its checks decide; under REP it is what `rep` makes
of none or one of them. -/
theorem loadStoreRowsComplete : Obligations.LoadStoreRowsComplete := by
  refine ⟨?_, ?_, ?_, ?_, ?_, ?_⟩
  · rintro s u o i c a n _ nf sg _ d hs hu hform hrep hrow rfl rfl
    have hexec := exec_oneLoad hs hu hform hrep hrow
    refine ⟨fun hk => by rw [hexec, load_fault hk]; rfl, fun hk hnear x => ⟨fun v hread => ?_, fun hread => ?_⟩,
      fun hk harea => by rw [hexec, load_drained hk harea]; rfl, fun hk hloc hrom hperiph hmram hcovered => ?_⟩
    · rw [hexec, load_val hk (.inl hnear) hread]
      rfl
    · rw [hexec, load_bad hk (.inl hnear) hread]
      rfl
    · rw [hexec, load_ordered hk hloc hrom hperiph hmram hcovered]
      rfl
  · rintro s u o i c n _ nf v hs hu hform hrep hrow rfl
    have hexec := exec_oneStore hs hu hform hrep hrow
    refine ⟨fun hk => by rw [hexec, store_ok hk]; rfl, ?_⟩
    rintro hk _ rfl
    rw [hexec, store_fault hk]
    rfl
  · intro s u o hrep
    refine ⟨?_, ?_⟩
    · rintro hs rfl
      rw [exec_leaRow hs rfl, rep_off hrep]
      rfl
    · rintro hform hs rfl
      exact (exec_leapc o s).trans (row_next hform hs rfl)
  · rintro s u o i c hs rfl hrep hcount hrow
    obtain ⟨st, body, hexec⟩ := exec_repRow hs hrow
    rw [hexec, rep_none hrep hcount]
    rfl
  · rintro s u o i c hs rfl hrep hcount hstop hrow
    obtain ⟨st, body, hexec⟩ := exec_repRow hs hrow
    rw [hexec, rep_left hrep hcount hstop]
    rfl
  · intro s u x y z o i c n sg v hs hu hrep hcount hstop hboundary hrow hz
    have hexec := exec_oneRep hs hu hrep hcount hstop hboundary hrow hz
    exact ⟨fun hzero => by rw [hexec, if_pos hzero]; rfl, fun hmore => by rw [hexec, if_neg hmore]; rfl⟩

end Sys2Proof.Machine

end

section
/-! PROOFS. The ALU, multiply, fixed-point and bit-field instructions (R245, R246, R255, R260, R262, R264). -/

namespace Sys2Proof.Machine
open Sys2Proof

section
variable {s u : State} {o : PyOp} {i : Instr} {b c lat nf : Nat} {f : Word → Word → Alu}

/-- What a row under REP does after `n` repetitions, each of one slot (R262): go on past it, leave at the boundary, or take the
exception of the next repetition. -/
theorem exec_repeated {len st n : Nat} {body : State → PyRes} {v w : Nat → State}
    (hexec : exec i s = .next (((u.rep o st body).finish o.p len).keep s)) (hrep : o.pfx.rep = true) (hv : v 0 = u)
    (hn : n ≤ (u.gNow o.p 13).toNat) (hstop : ∀ m, o.stop = some m → n ≤ m) (hbody : ∀ k, k < n → body (v k) = .ok 1 (w k))
    (hnext : ∀ k, k < n → v (k + 1) = (let y := (w k).resultG o.p 1 13 ((w k).gNow o.p 13 - 1)
      (if st = 0 then y else y.resultG o.p 1 o.s (y.gNow o.p o.s + BitVec.ofNat 32 st)).slots o.p 1))
    (hgoes : ∀ k, k < n → (v k).gNow o.p 13 ≠ 0 ∧ ((v k).core o.p).boundary = []) :
    (0 < n → (v n).gNow o.p 13 = 0 → exec i s = .next (((v n).advance o.p len 0).keep s))
    ∧ ((v n).gNow o.p 13 ≠ 0 → (o.stop = some n ∨ ((v n).core o.p).boundary ≠ []) →
      exec i s = .next (((v n).takeBoundary o.p).keep s))
    ∧ (∀ code info a z, (v n).gNow o.p 13 ≠ 0 → ((v n).core o.p).boundary = [] → n < (u.gNow o.p 13).toNat →
      (∀ m, o.stop = some m → n < m) → body (v n) = .exc code info a z →
      exec i s = .next ((z.takeException o.p code info a (z.pcNow o.p)).keep s)) := by
  obtain ⟨hend, hleft, hfault⟩ := rep_seq o st body v w u n hrep hv hn hstop hbody hnext hgoes
  rw [hexec]
  refine ⟨fun hpos hzero => by rw [hend hpos hzero]; rfl, fun hmore hcause => by rw [hleft hmore hcause]; rfl, ?_⟩
  intro code info a z hmore hboundary hlt hstop' hbad
  rw [hfault _ (by simp) hmore hboundary hlt hstop' hbad]
  rfl

/-- The operands a and b of an ALU instruction whose codes start at `b` (R245). -/
def State.aluOperands (v : State) (o : PyOp) (b : Nat) : Word × Word :=
  if o.form = 0 then (v.gNow o.p o.d, v.gNow o.p o.s)
  else (if b = 0x24 ∨ b = 0x28 ∨ b = 0x2C then v.gNow o.p o.d else v.gNow o.p o.s, wordOf o.imm)

/-- What an ALU operation leaves in flight: its result, except for CMP and TST, and its flags (R245, R264). -/
def State.aluLeaves (v : State) (o : PyOp) (b : Nat) (a : Alu) : State :=
  (if b = 0x24 ∨ b = 0x28 then v else v.resultG o.p 1 o.d a.res).resultFlags o.p 1 a.mask a.flags

/-- The operation of an ALU instruction on its operands (R245). -/
def State.aluOf (v : State) (o : PyOp) (b : Nat) : Alu :=
  aluOp (b / 4) o.pfx.sat (v.aluOperands o b).1 (v.aluOperands o b).2 (wbit (v.status o.p) 1)

/-- The body of an ALU instruction is its operation on its operands, once or under REP (R245, R262). -/
theorem aluBody_eq (hb : b % 4 = 0) (hform : o.form < 4) (u : State) :
    aluBody o (b + o.form) u = u.rep o 0 (fun v => .ok 1 (v.aluLeaves o b (v.aluOf o b))) := by
  have hrow : (b + o.form) / 4 = b / 4 := by omega
  have hcol : (b + o.form) % 4 = o.form := by omega
  have hargs : ∀ v : State, v.aluArgs o (b + o.form) = v.aluOperands o b := by
    intro v
    unfold State.aluArgs State.aluOperands
    have hd : (b / 4 == 9 || b / 4 == 10 || b / 4 == 11) = true ↔ b = 0x24 ∨ b = 0x28 ∨ b = 0x2C := by
      simp only [Bool.or_eq_true, beq_iff_eq]
      omega
    rw [hrow, hcol]
    by_cases hzero : o.form = 0
    · simp [hzero]
    · simp only [hd, if_neg hzero]
  have hwrite : (b / 4 != 9 && b / 4 != 10) = true ↔ ¬ (b = 0x24 ∨ b = 0x28) := by
    simp only [Bool.and_eq_true, bne_iff_ne]
    omega
  simp only [aluBody, hargs, hrow, State.aluWrite, State.aluLeaves, State.aluOf, hwrite, ite_not]

/-- The ALU rows (R245). -/
theorem exec_aluRow (hs : s.enters o (b + o.form) = true) (hwin : o.pfx.win = false)
    (hrow : (i, b) ∈ [(.addOp o, 0x00), (.subOp o, 0x04), (.andOp o, 0x08), (.orOp o, 0x0C), (.xorOp o, 0x10), (.shl o, 0x14),
      (.shr o, 0x18), (.sar o, 0x1C), (.ror o, 0x20), (.cmp o, 0x24), (.tst o, 0x28), (.mov o, 0x2C), (.adc o, 0x30),
      (.sbc o, 0x34), (.minOp o, 0x38), (.maxOp o, 0x3C)]) :
    exec i s = .next ((((s.entered o (b + o.form)).rep o 0 (fun v => .ok 1 (v.aluLeaves o b (v.aluOf o b)))).finish o.p
      (opLen o (b + o.form))).keep s) := by
  have hbody (hb : b % 4 = 0) := aluBody_eq hb (form_lt_of_enters hs) (s.entered o (b + o.form))
  have hmov (hb : b % 4 = 0) : movBody o (b + o.form) (s.entered o (b + o.form)) = _ :=
    (if_pos (by simp [hwin])).trans (hbody hb)
  simp only [List.mem_cons, Prod.mk.injEq, List.not_mem_nil, or_false] at hrow
  obtain ⟨rfl, rfl⟩ | ⟨rfl, rfl⟩ | ⟨rfl, rfl⟩ | ⟨rfl, rfl⟩ | ⟨rfl, rfl⟩ | ⟨rfl, rfl⟩ | ⟨rfl, rfl⟩ | ⟨rfl, rfl⟩ | ⟨rfl, rfl⟩ |
    ⟨rfl, rfl⟩ | ⟨rfl, rfl⟩ | ⟨rfl, rfl⟩ | ⟨rfl, rfl⟩ | ⟨rfl, rfl⟩ | ⟨rfl, rfl⟩ | ⟨rfl, rfl⟩ := hrow
  · exact (exec_addOp o s).trans (rowOf_next hs (hbody rfl))
  · exact (exec_subOp o s).trans (rowOf_next hs (hbody rfl))
  · exact (exec_andOp o s).trans (rowOf_next hs (hbody rfl))
  · exact (exec_orOp o s).trans (rowOf_next hs (hbody rfl))
  · exact (exec_xorOp o s).trans (rowOf_next hs (hbody rfl))
  · exact (exec_shl o s).trans (rowOf_next hs (hbody rfl))
  · exact (exec_shr o s).trans (rowOf_next hs (hbody rfl))
  · exact (exec_sar o s).trans (rowOf_next hs (hbody rfl))
  · exact (exec_ror o s).trans (rowOf_next hs (hbody rfl))
  · exact (exec_cmp o s).trans (rowOf_next hs (hbody rfl))
  · exact (exec_tst o s).trans (rowOf_next hs (hbody rfl))
  · exact (exec_mov o s).trans (rowOf_next hs (hmov rfl))
  · exact (exec_adc o s).trans (rowOf_next hs (hbody rfl))
  · exact (exec_sbc o s).trans (rowOf_next hs (hbody rfl))
  · exact (exec_minOp o s).trans (rowOf_next hs (hbody rfl))
  · exact (exec_maxOp o s).trans (rowOf_next hs (hbody rfl))

/-- One MOV under WIN: the exception of its rights, or a long operation of the window port (R255, R260). -/
def winMov (o : PyOp) (c : Nat) (s : State) : PyRes :=
  if s.winCode o.p ≠ 0 then .exc (s.winCode o.p) 3 0 s
  else if c = 0x2F then s.window o (.g (s.get (BWIN.BANK o.p)) o.d) (s.gNow o.p o.s)
  else s.window o (.g (s.core o.p).bank o.d) (s.gReg o.p (s.get (BWIN.BANK o.p)) o.s)

theorem winMov_fault (hcode : u.winCode o.p ≠ 0) : winMov o c u = .exc (u.winCode o.p) 3 0 u := if_pos hcode

theorem winMov_write (hcode : u.winCode o.p = 0) :
    winMov o 0x2F u = u.window o (.g (u.get (BWIN.BANK o.p)) o.d) (u.gNow o.p o.s) :=
  (if_neg (not_not.mpr hcode)).trans (if_pos rfl)

theorem winMov_read (hcode : u.winCode o.p = 0) :
    winMov o 0x2C u = u.window o (.g (u.core o.p).bank o.d) (u.gReg o.p (u.get (BWIN.BANK o.p)) o.s) :=
  (if_neg (not_not.mpr hcode)).trans (if_neg (by decide))

/-- MOV under WIN (R260); under REP each repetition waits for the units it needs (R255, R256). -/
theorem exec_winMovRow (hs : s.enters o (0x2C + o.form) = true) (hwin : o.pfx.win = true) :
    exec (.mov o) s = .next ((((s.entered o (0x2C + o.form)).rep o 0 (fun v =>
      winMov o (0x2C + o.form) (if o.pfx.rep then v.waitUnits o (0x2C + o.form) else v))).finish o.p
        (opLen o (0x2C + o.form))).keep s) :=
  (exec_mov o s).trans (rowOf_next hs (if_neg (by simp [hwin])))

/-- The multiply, fixed-point and bit-field rows (R246). -/
theorem exec_mulRow (hs : s.enters o (c + o.form) = true) (hform : o.form < nf)
    (hrow : (i, nf, c, lat, f) ∈ [
      (.mul o, 3, 0x40, 3, fun g h => mulLow o.pfx.sat (if o.form = 0 then g else h) (if o.form = 0 then h else wordOf o.imm)),
      (.mulh o, 1, 0x43, 3, fun g h => { res := mulHigh g h }), (.mulhu o, 1, 0x44, 3, fun g h => { res := mulHighU g h }),
      (.qmul o, 1, 0x45, 3, qmul31 o.pfx.sat), (.qmul15 o, 1, 0x46, 3, qmul15Of o.pfx.sat),
      (.add15 o, 1, 0x48, 1, add15Of o.pfx.sat), (.sub15 o, 1, 0x49, 1, sub15Of o.pfx.sat),
      (.clz o, 1, 0x4A, 1, fun _ h => { res := clzOf h }), (.popc o, 1, 0x4B, 1, fun _ h => { res := popcOf h }),
      (.bfx o, 1, 0x4C, 1, fun _ h => { res := bfxOf h o.imm.toNat }), (.bfxs o, 1, 0x4D, 1, fun _ h => { res := bfxsOf h o.imm.toNat }),
      (.bfi o, 1, 0x4E, 1, fun g h => { res := bfiOf g h o.imm.toNat }), (.rev o, 1, 0x4F, 1, fun _ h => { res := revOf h })]) :
    exec i s = .next (((mulBody o lat f (s.entered o (c + o.form))).finish o.p (opLen o (c + o.form))).keep s) := by
  simp only [List.mem_cons, Prod.mk.injEq, List.not_mem_nil, or_false] at hrow
  obtain ⟨rfl, rfl, rfl, rfl, rfl⟩ | ⟨rfl, rfl, rfl, rfl, rfl⟩ | ⟨rfl, rfl, rfl, rfl, rfl⟩ | ⟨rfl, rfl, rfl, rfl, rfl⟩ |
    ⟨rfl, rfl, rfl, rfl, rfl⟩ | ⟨rfl, rfl, rfl, rfl, rfl⟩ | ⟨rfl, rfl, rfl, rfl, rfl⟩ | ⟨rfl, rfl, rfl, rfl, rfl⟩ |
    ⟨rfl, rfl, rfl, rfl, rfl⟩ | ⟨rfl, rfl, rfl, rfl, rfl⟩ | ⟨rfl, rfl, rfl, rfl, rfl⟩ | ⟨rfl, rfl, rfl, rfl, rfl⟩ |
    ⟨rfl, rfl, rfl, rfl, rfl⟩ := hrow
  · refine (exec_mul o s).trans ((pyRun_enters hform rfl hs _).trans ?_)
    have hcode : 0x40 + o.form = 0x40 ↔ o.form = 0 := by omega
    by_cases hzero : o.form = 0 <;> simp only [mulBody, hcode, hzero, if_true, if_false]
  · exact (exec_mulh o s).trans (pyRun_enters hform rfl hs _)
  · exact (exec_mulhu o s).trans (pyRun_enters hform rfl hs _)
  · exact (exec_qmul o s).trans (pyRun_enters hform rfl hs _)
  · exact (exec_qmul15 o s).trans (pyRun_enters hform rfl hs _)
  · exact (exec_add15 o s).trans (pyRun_enters hform rfl hs _)
  · exact (exec_sub15 o s).trans (pyRun_enters hform rfl hs _)
  · exact (exec_clz o s).trans (pyRun_enters hform rfl hs _)
  · exact (exec_popc o s).trans (pyRun_enters hform rfl hs _)
  · exact (exec_bfx o s).trans (pyRun_enters hform rfl hs _)
  · exact (exec_bfxs o s).trans (pyRun_enters hform rfl hs _)
  · exact (exec_bfi o s).trans (pyRun_enters hform rfl hs _)
  · exact (exec_rev o s).trans (pyRun_enters hform rfl hs _)

end

/-- Settles O27: an ALU instruction is its operation on its operands, and MOV under WIN a window access; REP runs either one as
`rep_seq` says. -/
theorem aluRowsComplete : Obligations.AluRowsComplete := by
  refine ⟨?_, ?_, ?_, ?_⟩
  · rintro s u o i b c x a hrow rfl hs rfl hwin
    have hexec := exec_aluRow hs hwin hrow
    refine ⟨fun hrep hcount => by rw [hexec, rep_none hrep hcount]; rfl, fun hrep hx ha => ?_⟩
    subst hx ha
    rw [hexec, rep_off hrep]
    rfl
  · rintro s u o _ w k rfl hs rfl hwin hrep rfl rfl
    have hexec := exec_winMovRow hs hwin
    rw [rep_off hrep, hrep] at hexec
    refine ⟨fun hcode => by rw [hexec, winMov_fault (by exact hcode)]; rfl, fun hcode hform => ?_, fun hcode hform => ?_⟩
    · rw [hexec, hform, winMov_read (by simpa [hform] using hcode)]
      rfl
    · rw [hexec, hform, winMov_write (by simpa [hform] using hcode)]
      rfl
  · rintro s u o i b c n v w x a hrow rfl hs rfl hwin hrep hseq hv hn hz hstop
    obtain ⟨hx, ha, hw, hnext⟩ := by simpa only [forall_and] using hseq
    have hleaves (k : Nat) : w k = (v k).aluLeaves o b ((v k).aluOf o b) := by
      rw [hw, ha, hx]
      rfl
    obtain ⟨hend, hleft, -⟩ := exec_repeated (exec_aluRow hs hwin hrow) hrep hv hn hstop
      (fun k _ => by rw [hleaves]) (fun k _ => hnext k) hz
    exact ⟨hend, hleft⟩
  · rintro s u o _ n v w rfl hform hs rfl hwin hrep hseq hcode hv hn hz hstop
    have hexec := exec_winMovRow (o := o) (s := s) (by rwa [hform]) hwin
    rw [hform, hrep] at hexec
    obtain ⟨hw, hnext⟩ := by simpa only [forall_and] using hseq
    have hone (k : Nat) (hk : k < n) : winMov o 0x2C ((v k).waitUnits o 0x2C) = .ok 1 (w k) := by
      rw [winMov_read (hcode k hk), hw]
      rfl
    obtain ⟨hend, hleft, hfault⟩ := exec_repeated hexec hrep hv hn hstop hone (fun k _ => hnext k) hz
    refine ⟨hend, hleft, ?_⟩
    rintro z rfl hmore hboundary hlt hstop' hbad
    exact hfault _ _ _ _ hmore hboundary hlt hstop' (winMov_fault hbad)

/-- Settles O28: every row is `mulBody` of its operation, whose repetitions `rep_seq` runs. -/
theorem multiplyRowsComplete : Obligations.MultiplyRowsComplete := by
  rintro s u o i c lat nf f a hs rfl hform hrow rfl
  have hexec := exec_mulRow hs hform hrow
  refine ⟨fun hrep hcount => by rw [hexec, mulBody, rep_none hrep hcount]; rfl,
    fun hrep => by rw [hexec, mulBody, rep_off hrep]; rfl, ?_⟩
  intro n v w b hrep hseq hv hn hz hstop
  obtain ⟨hb, hw, hnext⟩ := by simpa only [forall_and] using hseq
  have hleaves (k : Nat) : w k = (v k).aluWrite o lat true (f ((v k).gNow o.p o.d) ((v k).gNow o.p o.s)) := by
    rw [hw, hb]
    rfl
  obtain ⟨hend, hleft, -⟩ := exec_repeated hexec hrep hv hn hstop (fun k _ => by rw [hleaves]) (fun k _ => hnext k) hz
  exact ⟨hend, hleft⟩

end Sys2Proof.Machine

end

section
/-! PROOFS. The bit instructions (R235 to R237, R249, R260, R262, R264). -/

namespace Sys2Proof.Machine
open Sys2Proof

section
variable {s u : State} {o : PyOp} {i : Instr} {c : Nat}

/-- The bit address of an instruction whose codes start at an even code (R249). -/
theorem bitAddr_eq (hc : c % 2 = 0) (hform : o.form < 2) (u : State) : u.bitAddr o (c + o.form)
    = if o.form = 0 then o.imm.toNat else (u.gNow o.p o.s + wordOf o.imm).toNat % 2 ^ (if o.pfx.bitx then 16 else 14) := by
  have hcol : (c + o.form) % 2 = o.form := by omega
  simp only [State.bitAddr, hcol]
  split
  · rfl
  · split
    · rfl
    · exact Nat.mod_mod_of_dvd _ (by norm_num)

/-- What BTST (0xA0) and BLD do with the bit (R249). -/
def bitTaken (o : PyOp) (c : Nat) (b : Bool) (x : State) : State :=
  if c = 0xA0 then x.resultFlags o.p 3 (stZ ||| stC) (flagIf (!b) stZ ||| flagIf b stC)
  else x.resultG o.p 3 o.d (if b then 1 else 0)

/-- What a bit write leaves in flight: with ATOM, the old bit for C (R249). -/
def bitGiven (o : PyOp) (b : Bool) (x : State) : State :=
  if o.pfx.atom then x.resultFlags o.p 3 stC (flagIf b stC) else x

/-- How BTST and BLD end, once (R249). -/
def bitReadOnce (o : PyOp) (c : Nat) (v : State) : PyRes :=
  match v.bitRead o.p (v.bitAddr o (c + o.form)) with
  | .got b x => .ok 1 (bitTaken o c b x)
  | .fault code w x => .exc code 0 w x

/-- How BSET, BCLR, BNOT and BST end, once, where `f` gives the new bit (R249). -/
def bitWriteOnce (o : PyOp) (c : Nat) (f : State → Bool → Bool) (v : State) : PyRes :=
  match v.bitWrite o.p (v.bitAddr o (c + o.form)) (f v) with
  | .got b x => .ok 1 (bitGiven o b x)
  | .fault code w x => .exc code (if code = 10 then 0 else 1) w x

section
variable (hs : s.enters o (c + o.form) = true) (hform : o.form < 2)
include hs hform

/-- The rows that read a bit (R249). -/
theorem exec_bitReadRow (hrow : (i, c) ∈ [(.btst o, 0xA0), (.bld o, 0xA8)]) : exec i s
    = .next ((((s.entered o (c + o.form)).rep o 1 (bitReadOnce o c)).finish o.p (opLen o (c + o.form))).keep s) := by
  simp only [List.mem_cons, Prod.mk.injEq, List.not_mem_nil, or_false] at hrow
  obtain ⟨rfl, rfl⟩ | ⟨rfl, rfl⟩ := hrow
  · exact (exec_btst o s).trans (pyRun_enters hform rfl hs _)
  · exact (exec_bld o s).trans (pyRun_enters hform rfl hs _)

/-- The rows that write a bit (R249). -/
theorem exec_bitWriteRow {f : State → Bool → Bool} (hrow : (i, c, f) ∈ [(.bset o, 0xA2, fun _ _ => true),
      (.bclr o, 0xA4, fun _ _ => false), (.bnot o, 0xA6, fun _ e => !e), (.bst o, 0xAA, fun q _ => wbit (q.gNow o.p o.d) 0)]) :
    exec i s
    = .next ((((s.entered o (c + o.form)).rep o 1 (bitWriteOnce o c f)).finish o.p (opLen o (c + o.form))).keep s) := by
  simp only [List.mem_cons, Prod.mk.injEq, List.not_mem_nil, or_false] at hrow
  obtain ⟨rfl, rfl, rfl⟩ | ⟨rfl, rfl, rfl⟩ | ⟨rfl, rfl, rfl⟩ | ⟨rfl, rfl, rfl⟩ := hrow
  · exact (exec_bset o s).trans (pyRun_enters hform rfl hs _)
  · exact (exec_bclr o s).trans (pyRun_enters hform rfl hs _)
  · exact (exec_bnot o s).trans (pyRun_enters hform rfl hs _)
  · exact (exec_bst o s).trans (pyRun_enters hform rfl hs _)

/-- Every bit row may carry REP (R260). -/
theorem exec_bitRow (hrow : (i, c) ∈ [(.btst o, 0xA0), (.bset o, 0xA2), (.bclr o, 0xA4), (.bnot o, 0xA6), (.bld o, 0xA8),
      (.bst o, 0xAA)]) :
    ∃ body, exec i s
      = .next ((((s.entered o (c + o.form)).rep o 1 body).finish o.p (opLen o (c + o.form))).keep s) := by
  simp only [List.mem_cons, Prod.mk.injEq, List.not_mem_nil, or_false] at hrow
  obtain ⟨rfl, rfl⟩ | ⟨rfl, rfl⟩ | ⟨rfl, rfl⟩ | ⟨rfl, rfl⟩ | ⟨rfl, rfl⟩ | ⟨rfl, rfl⟩ := hrow
  · exact ⟨_, exec_bitReadRow hs hform (by simp)⟩
  · exact ⟨_, exec_bitWriteRow hs hform (f := fun _ _ => true) (by simp)⟩
  · exact ⟨_, exec_bitWriteRow hs hform (f := fun _ _ => false) (by simp)⟩
  · exact ⟨_, exec_bitWriteRow hs hform (f := fun _ e => !e) (by simp)⟩
  · exact ⟨_, exec_bitReadRow hs hform (by simp)⟩
  · exact ⟨_, exec_bitWriteRow hs hform (f := fun q _ => wbit (q.gNow o.p o.d) 0) (by simp)⟩

end

/-- The new bit of a row, as a function of the state that the row executes in. -/
theorem bitWriteRow_of {f : Bool → Bool} (hrow : (i, c, f) ∈ [(.bset o, 0xA2, fun _ => true), (.bclr o, 0xA4, fun _ => false),
      (.bnot o, 0xA6, not), (.bst o, 0xAA, fun _ => wbit (u.gNow o.p o.d) 0)]) :
    ∃ g : State → Bool → Bool, g u = f ∧ (i, c, g) ∈ [(.bset o, 0xA2, fun _ _ => true), (.bclr o, 0xA4, fun _ _ => false),
      (.bnot o, 0xA6, fun _ e => !e), (.bst o, 0xAA, fun q _ => wbit (q.gNow o.p o.d) 0)] := by
  simp only [List.mem_cons, Prod.mk.injEq, List.not_mem_nil, or_false] at hrow
  obtain ⟨rfl, rfl, rfl⟩ | ⟨rfl, rfl, rfl⟩ | ⟨rfl, rfl, rfl⟩ | ⟨rfl, rfl, rfl⟩ := hrow
  · exact ⟨fun _ _ => true, rfl, by simp⟩
  · exact ⟨fun _ _ => false, rfl, by simp⟩
  · exact ⟨fun _ e => !e, rfl, by simp⟩
  · exact ⟨fun q _ => wbit (q.gNow o.p o.d) 0, rfl, by simp⟩

/-- A bit row starts at an even code. -/
theorem even_of_bitReadRow (hrow : (i, c) ∈ [(.btst o, 0xA0), (.bld o, 0xA8)]) : c % 2 = 0 := by
  simp only [List.mem_cons, Prod.mk.injEq, List.not_mem_nil, or_false] at hrow
  omega

theorem even_of_bitWriteRow {f : State → Bool → Bool} (hrow : (i, c, f) ∈ [(.bset o, 0xA2, fun _ _ => true),
      (.bclr o, 0xA4, fun _ _ => false), (.bnot o, 0xA6, fun _ e => !e), (.bst o, 0xAA, fun q _ => wbit (q.gNow o.p o.d) 0)]) :
    c % 2 = 0 := by
  simp only [List.mem_cons, Prod.mk.injEq, List.not_mem_nil, or_false] at hrow
  omega

section
variable {x : State} {a k : Nat} {b : Bool} {w : Word} {f : State → Bool → Bool} (ha : u.bitAddr o (c + o.form) = a)
include ha

theorem bitReadOnce_got (hr : u.bitRead o.p a = .got b x) : bitReadOnce o c u = .ok 1 (bitTaken o c b x) := by
  rw [bitReadOnce, ha, hr]

theorem bitReadOnce_fault (hr : u.bitRead o.p a = .fault k w x) : bitReadOnce o c u = .exc k 0 w x := by
  rw [bitReadOnce, ha, hr]

theorem bitWriteOnce_got (hr : u.bitWrite o.p a (f u) = .got b x) : bitWriteOnce o c f u = .ok 1 (bitGiven o b x) := by
  rw [bitWriteOnce, ha, hr]

theorem bitWriteOnce_fault (hr : u.bitWrite o.p a (f u) = .fault k w x) :
    bitWriteOnce o c f u = .exc k (if k = 10 then 0 else 1) w x := by
  rw [bitWriteOnce, ha, hr]

end
end

/-- Settles O31: a bit row reads or writes the bit of its address, once or under REP, where each repetition moves the address on
by one. -/
theorem bitRowsComplete : Obligations.BitRowsComplete := by
  refine ⟨?_, ?_, ?_, ?_⟩
  · rintro s u x o i c a b hs rfl hform hrep ha
    refine ⟨fun hrow hr => ?_, fun k w hrow hr => ?_, fun f hrow => ?_⟩
    · rw [exec_bitReadRow hs hform hrow, rep_off hrep,
        bitReadOnce_got ((bitAddr_eq (even_of_bitReadRow hrow) hform _).trans ha.symm) hr]
      rfl
    · rw [exec_bitReadRow hs hform hrow, rep_off hrep,
        bitReadOnce_fault ((bitAddr_eq (even_of_bitReadRow hrow) hform _).trans ha.symm) hr]
      rfl
    · obtain ⟨g, rfl, hrow'⟩ := bitWriteRow_of hrow
      have haddr := (bitAddr_eq (even_of_bitWriteRow hrow') hform (s.entered o (c + o.form))).trans ha.symm
      refine ⟨fun hr => ?_, fun k w hr => ?_⟩
      · rw [exec_bitWriteRow hs hform hrow', rep_off hrep, bitWriteOnce_got haddr hr]
        rfl
      · rw [exec_bitWriteRow hs hform hrow', rep_off hrep, bitWriteOnce_fault haddr hr]
        rfl
  · rintro s u o i c hs rfl hform hrep hcount hrow
    obtain ⟨body, hexec⟩ := exec_bitRow hs hform hrow
    rw [hexec, rep_none hrep hcount]
    rfl
  · rintro s u o i c n v w x y a b hrow hone hs rfl hrep hseq hr hv hn hz hstop
    obtain ⟨ha, hw, hy, hnext⟩ := by simpa only [forall_and] using hseq
    have haddr (k : Nat) : (v k).bitAddr o (c + o.form) = a k := by
      rw [bitAddr_eq (even_of_bitReadRow hrow) (by omega), if_neg (by omega), ha]
    have hexec := exec_bitReadRow (by rwa [hone]) (by omega) hrow
    rw [hone] at hexec
    have hbody (k : Nat) (hk : k < n) : bitReadOnce o c (v k) = .ok 1 (w k) := by
      rw [bitReadOnce_got (haddr k) (hr k hk), hw]
      rfl
    obtain ⟨hend, hleft, hfault⟩ := exec_repeated hexec hrep hv hn hstop hbody
      (fun k _ => by rw [hnext, hy]; rfl) hz
    refine ⟨hend, hleft, fun k r z hbad hmore hboundary hlt hstop' => ?_⟩
    exact hfault _ _ _ _ hmore hboundary hlt hstop' (bitReadOnce_fault (haddr n) hbad)
  · rintro s u o i c n f v w x y a b hrow hone hs rfl hrep hseq hr hv hn hz hstop
    obtain ⟨ha, hw, hy, hnext⟩ := by simpa only [forall_and] using hseq
    have haddr (k : Nat) : (v k).bitAddr o (c + o.form) = a k := by
      rw [bitAddr_eq (even_of_bitWriteRow hrow) (by omega), if_neg (by omega), ha]
    have hexec := exec_bitWriteRow (by rwa [hone]) (by omega) hrow
    rw [hone] at hexec
    have hbody (k : Nat) (hk : k < n) : bitWriteOnce o c f (v k) = .ok 1 (w k) := by
      rw [bitWriteOnce_got (haddr k) (hr k hk), hw]
      rfl
    obtain ⟨hend, hleft, hfault⟩ := exec_repeated hexec hrep hv hn hstop hbody
      (fun k _ => by rw [hnext, hy]; rfl) hz
    refine ⟨hend, hleft, fun k r z hbad hmore hboundary hlt hstop' => ?_⟩
    exact hfault _ _ _ _ hmore hboundary hlt hstop' (bitWriteOnce_fault (haddr n) hbad)

end Sys2Proof.Machine

end

section
/-! PROOFS. The floating-point instructions (R227, R250, R255, R264). -/

namespace Sys2Proof.Machine
open Sys2Proof

section
variable {s u : State} {o : PyOp} {i : Instr} {c lat : Nat} {a b g : Word} {r : Word × Word}

/-- The rows that give Fd a result (R250). -/
theorem exec_floatRow (hform : o.form = 0) (hs : s.enters o c = true) (hu : u = s.entered o c)
    (ha : a = u.fNow o.p o.d) (hb : b = u.fNow o.p o.s) (hg : g = u.gNow o.p o.s)
    (hrow : (i, c, lat, r) ∈ [
      (.fadd o, 0xB0, 4, faddOf (u.rm o.p) a b), (.fsub o, 0xB1, 4, fsubOf (u.rm o.p) a b),
      (.fmul o, 0xB2, 4, fmulOf (u.rm o.p) a b), (.fmin o, 0xB3, 1, fminmaxOf false a b), (.fmax o, 0xB4, 1, fminmaxOf true a b),
      (.fmov o, 0xB6, 1, (b, 0)), (.fneg o, 0xB7, 1, (b ^^^ 0x80000000, 0)), (.fabs o, 0xB8, 1, (b &&& 0x7FFFFFFF, 0)),
      (.fmfg o, 0xBA, 1, (g, 0)), (.fcvtf o, 0xBC, 4, fcvtfOf (u.rm o.p) g)]) :
    exec i s = .next (((PyRes.ok 1 (u.resultF o lat r)).finish o.p (opLen o c)).keep s) := by
  subst hu ha hb hg
  simp only [List.mem_cons, Prod.mk.injEq, List.not_mem_nil, or_false] at hrow
  obtain ⟨rfl, rfl, rfl, rfl⟩ | ⟨rfl, rfl, rfl, rfl⟩ | ⟨rfl, rfl, rfl, rfl⟩ | ⟨rfl, rfl, rfl, rfl⟩ | ⟨rfl, rfl, rfl, rfl⟩ |
    ⟨rfl, rfl, rfl, rfl⟩ | ⟨rfl, rfl, rfl, rfl⟩ | ⟨rfl, rfl, rfl, rfl⟩ | ⟨rfl, rfl, rfl, rfl⟩ | ⟨rfl, rfl, rfl, rfl⟩ := hrow
  · exact (exec_fadd o s).trans (row_next hform hs rfl)
  · exact (exec_fsub o s).trans (row_next hform hs rfl)
  · exact (exec_fmul o s).trans (row_next hform hs rfl)
  · exact (exec_fmin o s).trans (row_next hform hs rfl)
  · exact (exec_fmax o s).trans (row_next hform hs rfl)
  · exact (exec_fmov o s).trans (row_next hform hs rfl)
  · exact (exec_fneg o s).trans (row_next hform hs rfl)
  · exact (exec_fabs o s).trans (row_next hform hs rfl)
  · exact (exec_fmfg o s).trans (row_next hform hs rfl)
  · exact (exec_fcvtf o s).trans (row_next hform hs rfl)

/-- The rows of the floating-point divider (R255). -/
theorem exec_fpLongRow (hform : o.form = 0) (hs : s.enters o c = true) (hu : u = s.entered o c)
    (hrow : (i, c, r) ∈ [(.fdiv o, 0xC6, fdivOf (u.rm o.p) (u.fNow o.p o.d) (u.fNow o.p o.s)),
      (.fsqrt o, 0xC7, fsqrtOf (u.rm o.p) (u.fNow o.p o.s))]) :
    exec i s = .next (((fpLong o r u).finish o.p (opLen o c)).keep s) := by
  subst hu
  simp only [List.mem_cons, Prod.mk.injEq, List.not_mem_nil, or_false] at hrow
  obtain ⟨rfl, rfl, rfl⟩ | ⟨rfl, rfl, rfl⟩ := hrow
  · exact (exec_fdiv o s).trans (row_next hform hs rfl)
  · exact (exec_fsqrt o s).trans (row_next hform hs rfl)

end

/-- Settles O32: each row ends as the result that its body computes from its operands. -/
theorem floatRowsComplete : Obligations.FloatRowsComplete := by
  rintro s u o c _ a b g hform hs hu rfl ha hb hg
  refine ⟨fun i lat r hrow => exec_floatRow hform hs hu ha hb hg hrow, ?_, ?_, ?_, ?_⟩
  all_goals subst hu ha hb
  · rintro rfl
    exact (exec_fcmp o s).trans (row_next hform hs rfl)
  · rintro rfl
    exact (exec_fmtg o s).trans (row_next hform hs rfl)
  · rintro rfl
    exact (exec_fcvti o s).trans (row_next hform hs rfl)
  · exact fun i r hrow => exec_fpLongRow hform hs rfl hrow

end Sys2Proof.Machine

end

section
/-! PROOFS. The branch and system instructions (R222 to R224, R251 to R254, R260, R269, R306, R320, R321). -/

namespace Sys2Proof.Machine
open Sys2Proof

section
variable {s u x : State} {o : PyOp} {i : Instr} {c nf b : Nat} {t : Option Word}

/-- The branches: two delay slots, then the target if it is taken (R251, R252). -/
theorem exec_branchRow (hs : s.enters o (c + o.form) = true) (hu : u = s.entered o (c + o.form)) (hform : o.form < nf)
    (hrow : (i, nf, c, t, x) ∈ [
      (.bcc o, 3, 0x80, if condHolds (u.status o.p) o.s then some (u.nextPc o.p (opLen o (c + o.form)) + wordOf o.disp) else none, u),
      (.call o, 1, 0x84, some (u.nextPc o.p (opLen o c) + wordOf o.disp), u.resultG o.p 1 14 (u.linkAddr o.p (opLen o c))),
      (.jmp o, 1, 0x85, some (u.gNow o.p o.s), u),
      (.callr o, 1, 0x86, some (u.gNow o.p o.s), u.resultG o.p 1 14 (u.linkAddr o.p (opLen o c))),
      (.ret o, 1, 0x87, some (u.gNow o.p 14), u),
      (.dbnz o, 2, 0x88, if u.gNow o.p o.d - 1 = 0 then none else some (u.nextPc o.p (opLen o (c + o.form)) + wordOf o.disp),
        u.resultG o.p 1 o.d (u.gNow o.p o.d - 1))]) :
    exec i s = .next (((PyRes.jump t x).finish o.p (opLen o (c + o.form))).keep s) := by
  subst hu
  simp only [List.mem_cons, Prod.mk.injEq, List.not_mem_nil, or_false] at hrow
  obtain ⟨rfl, rfl, rfl, rfl, rfl⟩ | ⟨rfl, rfl, rfl, rfl, rfl⟩ | ⟨rfl, rfl, rfl, rfl, rfl⟩ | ⟨rfl, rfl, rfl, rfl, rfl⟩ |
    ⟨rfl, rfl, rfl, rfl, rfl⟩ | ⟨rfl, rfl, rfl, rfl, rfl⟩ := hrow
  · exact (exec_bcc o s).trans (pyRun_enters hform rfl hs _)
  · rw [Nat.lt_one_iff.mp hform] at hs ⊢
    exact (exec_call o s).trans (row_next (Nat.lt_one_iff.mp hform) hs rfl)
  · exact (exec_jmp o s).trans (pyRun_enters hform rfl hs _)
  · rw [Nat.lt_one_iff.mp hform] at hs ⊢
    exact (exec_callr o s).trans (row_next (Nat.lt_one_iff.mp hform) hs rfl)
  · exact (exec_ret o s).trans (pyRun_enters hform rfl hs _)
  · exact (exec_dbnz o s).trans (pyRun_enters hform rfl hs _)

section
variable (hform : o.form = 0)
include hform

theorem exec_mfsrRow (hs : s.enters o 0x90 = true) : exec (.mfsr o) s
    = .next (((mfsrBody o (s.entered o 0x90)).finish o.p (opLen o 0x90)).keep s) :=
  (exec_mfsr o s).trans (row_next hform hs rfl)

theorem exec_mtsrRow (hs : s.enters o 0x91 = true) : exec (.mtsr o) s
    = .next (((mtsrBody o (s.entered o 0x91)).finish o.p (opLen o 0x91)).keep s) :=
  (exec_mtsr o s).trans (row_next hform hs rfl)

end

section
variable (hwin : o.pfx.win = false)
include hwin

/-- A system register that the level may read (R222, R224). -/
theorem mfsrBody_ok (hmay : u.userCore o.p = false ∨ sysNo o ∈ [0, 1, 3, 4]) :
    mfsrBody o u = .ok 1 (u.resultG o.p 3 o.d (u.sysRead o.p (sysNo o))) := by
  have hlevel : ¬ (u.userCore o.p && !([0x000, 0x001, 0x003, 0x004].contains (sysNo o))) = true := by
    rcases hmay with h | h
    · simp [h]
    · rw [List.contains_iff_mem.mpr h]
      simp
  exact (if_neg (by simp [hwin])).trans (if_neg hlevel)

theorem mfsrBody_refused (huser : u.userCore o.p = true) (hno : sysNo o ∉ [0, 1, 3, 4]) : mfsrBody o u = .exc 2 3 0 u :=
  (if_neg (by simp [hwin])).trans (if_pos (by simpa [huser] using hno))

/-- An MTSR that its code turns away, or lets through (R222, R224). -/
theorem mtsrBody_code : mtsrBody o u = if u.mtsrCode o.p (sysNo o) (u.gNow o.p o.d) ≠ 0
    then .exc (u.mtsrCode o.p (sysNo o) (u.gNow o.p o.d)) 3 0 u else .ok 1 (u.mtsr o.p (sysNo o) (u.gNow o.p o.d)) :=
  if_neg (by simp [hwin])

end

section
variable (hwin : o.pfx.win = true)
include hwin

theorem mfsrBody_win : mfsrBody o u = if u.winCode o.p ≠ 0 then .exc (u.winCode o.p) 3 0 u
    else u.window o (.g (u.core o.p).bank o.d) (if sysNo o = 0 then (u.bankOf o.p (u.get (BWIN.BANK o.p))).status
      else (u.bankOf o.p (u.get (BWIN.BANK o.p))).prog) := if_pos hwin

theorem mtsrBody_win : mtsrBody o u = if u.winCode o.p ≠ 0 then .exc (u.winCode o.p) 3 0 u
    else if sysNo o = 0 then u.window o (.status (u.get (BWIN.BANK o.p)) (u.statusWrite o.p (u.gNow o.p o.d)).1)
      (u.statusWrite o.p (u.gNow o.p o.d)).2
    else u.window o (.prog (u.get (BWIN.BANK o.p))) (u.gNow o.p o.d) := if_pos hwin

end

/-- The Tenant world may not write the register: a Keeper register, or BWIN with a bank that is not its own (R222). -/
def State.mtsrBarred (u : State) (o : PyOp) : Prop :=
  u.tenantCore o.p = true ∧ (sysKeeper (sysNo o) = true ∨ (sysNo o = 2 ∧ u.bit (BANK_OWN o.p) (getBits (u.gNow o.p o.d) 3 0) = false))

theorem mtsrCode_barred (hbar : u.mtsrBarred o) : u.mtsrCode o.p (sysNo o) (u.gNow o.p o.d) = 3 :=
  if_pos (by simpa [State.mtsrBarred] using hbar)

section
variable (hbar : ¬ u.mtsrBarred o)
include hbar

/-- Else the level decides (R224). -/
theorem mtsrCode_level : u.mtsrCode o.p (sysNo o) (u.gNow o.p o.d)
    = if u.userCore o.p && !(sysNo o == 0 || sysNo o == 3) then 2 else 0 :=
  if_neg (by simpa [State.mtsrBarred] using hbar)

variable (hwin : o.pfx.win = false)
include hwin

theorem mtsrBody_ok (hlevel : u.userCore o.p = false ∨ sysNo o ∈ [0, 3]) :
    mtsrBody o u = .ok 1 (u.mtsr o.p (sysNo o) (u.gNow o.p o.d)) := by
  have hcode : u.mtsrCode o.p (sysNo o) (u.gNow o.p o.d) = 0 := by
    rw [mtsrCode_level hbar]
    simp only [List.mem_cons, List.not_mem_nil, or_false] at hlevel
    rcases hlevel with h | h | h <;> simp [h]
  rw [mtsrBody_code hwin, hcode]
  rfl

theorem mtsrBody_refused (huser : u.userCore o.p = true) (hno : sysNo o ∉ [0, 3]) : mtsrBody o u = .exc 2 3 0 u := by
  have hcode : u.mtsrCode o.p (sysNo o) (u.gNow o.p o.d) = 2 := by
    rw [mtsrCode_level hbar]
    simp only [List.mem_cons, List.not_mem_nil, or_false, not_or] at hno
    simp [huser, hno]
  rw [mtsrBody_code hwin, hcode]
  rfl

end

/-- A permitted MTSR of a register that is none of STATUS, PROG and FPSR (R223). -/
theorem mtsr_sys {p n : Nat} (hn : n ∉ [0, 1, 3]) (u : State) (v : Word) : u.mtsr p n v = u.result p 3 (.sys n) v := by
  simp only [List.mem_cons, List.not_mem_nil, or_false, not_or] at hn
  obtain ⟨h0, h1, h3⟩ := hn
  simp only [State.mtsr, if_neg h0, if_neg h1, if_neg h3]

/-- An exit sequence that ends an activation and need not wait for the flash (R320, R325, R380). -/
theorem endActivation_ok {p len off : Nat} {f : State → State} (hflash : u.frameWaits p = false)
    (hx : x = (u.setPc p (u.nextPc p len)).slots p 1) (hok : x.serviceOk p off = true) :
    u.endActivation p len off f = .left ((f x).leave p (u.pcNow p)) := by
  subst hx
  rw [State.endActivation, if_neg (Bool.eq_false_iff.mp hflash)]
  exact congrArg PyRes.left (service_ok hok _)

/-- The executing context has an activation that WAIT ends: a running task, or the base context of slot 1 (R320). -/
def State.activated (u : State) (p b : Nat) : Prop :=
  1 ≤ b ∧ (u.get (DRV_SLOT_STAT.STATE p b) = 4 ∨ (u.get (DRV_SLOT_STAT.STATE p b) = 1 ∧ b = 1 ∧ (u.core p).base = true))

theorem activated_iff (u : State) (p b : Nat) :
    ((if 1 ≤ b then u.get (DRV_SLOT_STAT.STATE p b) else 0) = 4
      ∨ ((if 1 ≤ b then u.get (DRV_SLOT_STAT.STATE p b) else 0) = 1 ∧ b = 1 ∧ (u.core p).base = true)) ↔ u.activated p b := by
  by_cases hb : 1 ≤ b <;> simp [State.activated, hb]

theorem not_activated {p : Nat} (hother : b = 0 ∨ (u.get (DRV_SLOT_STAT.STATE p b) ≠ 4
      ∧ (u.get (DRV_SLOT_STAT.STATE p b) ≠ 1 ∨ b ≠ 1 ∨ (u.core p).base = false))) : ¬ u.activated p b := by
  rintro ⟨hb, hrun⟩
  rcases hother with hzero | ⟨hfour, hbase⟩
  · omega
  · obtain ⟨hstate, rfl, hctx⟩ := hrun.resolve_left hfour
    simp [hstate, hctx] at hbase

section
variable (hform : o.form = 0)
include hform

/-- WAIT that ends an activation (R320). -/
theorem exec_waitOp_ends (hs : s.enters o 0x94 = true) (hu : u = s.entered o 0x94) (hact : u.activated o.p (u.core o.p).bank) :
    exec (.waitOp o) s = .next (((u.endActivation o.p (opLen o 0x94) 0x205 (fun s =>
      ((s.modCore o.p (fun k => { k with base := k.base && (u.core o.p).bank != 1 })).set
        (DRV_SLOT_STAT.STATE o.p (u.core o.p).bank) 2).slotReady o.p (u.core o.p).bank)).finish o.p (opLen o 0x94)).keep s) := by
  subst hu
  exact (exec_waitOp o s).trans (row_next hform hs (if_pos ((activated_iff _ _ _).mpr hact)))

/-- WAIT of any other context stops it (R320, R322). -/
theorem exec_waitOp_stops (hs : s.enters o 0x94 = true) (hu : u = s.entered o 0x94) (hact : ¬ u.activated o.p (u.core o.p).bank) :
    exec (.waitOp o) s = .next (((PyRes.left (((u.setPc o.p (u.nextPc o.p (opLen o 0x94))).slots o.p 1).service o.p 0x205 (fun s =>
      (s.modCore o.p (fun k => { k with waiting := true })).showCore o.p))).finish o.p (opLen o 0x94)).keep s) := by
  subst hu
  exact (exec_waitOp o s).trans (row_next hform hs (if_neg (mt (activated_iff _ _ _).mp hact)))

end

/-- A slot that a running task gives way to: enabled, READY and of the priority the task was entered with (R321). -/
def State.rival (u : State) (p b k : Nat) : Prop :=
  1 ≤ k ∧ k < 16 ∧ k ≠ b ∧ u.on (DRV_SLOT_CFG.EN p k) = true ∧ u.get (DRV_SLOT_STAT.STATE p k) = 3
    ∧ u.get (DRV_SLOT_CFG.PRI p k) = stPri (u.status p)

theorem rival_iff (u : State) (p b : Nat) : ((List.range 16).any (fun k => decide (1 ≤ k) && k != b && u.on (DRV_SLOT_CFG.EN p k)
      && u.get (DRV_SLOT_STAT.STATE p k) == 3 && u.get (DRV_SLOT_CFG.PRI p k) == stPri (u.status p))) = true
    ↔ ∃ k, u.rival p b k := by
  simp only [List.any_eq_true, List.mem_range, Bool.and_eq_true, decide_eq_true_eq, bne_iff_ne, beq_iff_eq, State.rival]
  exact exists_congr fun k => by tauto

section
variable (hform : o.form = 0) (hs : s.enters o 0x95 = true) (hu : u = s.entered o 0x95)
include hform hs hu

/-- YIELD that gives way (R321). -/
theorem exec_yield_gives (hbank : 1 ≤ (u.core o.p).bank) (hrun : u.get (DRV_SLOT_STAT.STATE o.p (u.core o.p).bank) = 4)
    (hrival : ∃ k, u.rival o.p (u.core o.p).bank k) :
    exec (.yield o) s = .next (((u.endActivation o.p (opLen o 0x95) 0x206 (fun s =>
      ((s.set (DRV_SLOT_STAT.STATE o.p (u.core o.p).bank) 3).set (DRV_SLOT_STAT.YLD o.p (u.core o.p).bank) 1).modCore o.p
        (fun c => { c with resumes := (u.core o.p).bank :: c.resumes }))).finish o.p (opLen o 0x95)).keep s) := by
  subst hu
  exact (exec_yield o s).trans (row_next hform hs (if_pos ⟨hbank, hrun, (rival_iff _ _ _).mpr hrival⟩))

/-- YIELD with nothing to give way to (R321; log entry 65). -/
theorem exec_yield_passes (hnone : (u.core o.p).bank = 0 ∨ u.get (DRV_SLOT_STAT.STATE o.p (u.core o.p).bank) ≠ 4
      ∨ ¬ ∃ k, u.rival o.p (u.core o.p).bank k) :
    exec (.yield o) s = .next (((PyRes.ok 1 u).finish o.p (opLen o 0x95)).keep s) := by
  subst hu
  refine (exec_yield o s).trans (row_next hform hs (if_neg ?_))
  rintro ⟨hbank, hrun, hrival⟩
  rcases hnone with h | h | h
  · omega
  · exact h hrun
  · exact h ((rival_iff _ _ _).mp hrival)

end

section
variable (hform : o.form = 0) (hs : s.enters o 0x93 = true) (hu : u = s.entered o 0x93)
include hform hs hu

/-- RETE belongs to the supervisor level (R254). -/
theorem exec_rete_user (huser : u.userCore o.p = true) :
    exec (.rete o) s = .next (((PyRes.exc 2 3 0 u).finish o.p (opLen o 0x93)).keep s) := by
  subst hu
  exact (exec_rete o s).trans (row_next hform hs (if_pos huser))

variable (huser : u.userCore o.p = false)
include huser

/-- A frame in the flash window may have to wait (R380). -/
theorem exec_rete_waits (hbank : (u.core o.p).bank ≠ 0) (hflash : u.frameWaits o.p = true) :
    exec (.rete o) s = .next (((PyRes.stay u).finish o.p (opLen o 0x93)).keep s) := by
  subst hu
  exact (exec_rete o s).trans (row_next hform hs ((if_neg (Bool.eq_false_iff.mp huser)).trans (if_pos (by simp [hbank, hflash]))))

/-- Else RETE runs the exit sequence, or returns from escalation (R306, R325, R331). -/
theorem exec_rete_leaves (hflash : (u.core o.p).bank = 0 ∨ u.frameWaits o.p = false) (hx : x = u.slots o.p 1)
    (hok : x.serviceOk o.p 0x204 = true) :
    exec (.rete o) s = .next (((PyRes.left (if (x.core o.p).bank = 0 then x.leaveEscalation o.p else x.leave o.p (u.pcNow o.p))).finish
      o.p (opLen o 0x93)).keep s) := by
  subst hu hx
  have hgo : ¬ (((s.entered o 0x93).core o.p).bank ≠ 0 && (s.entered o 0x93).frameWaits o.p) = true := by
    rcases hflash with h | h <;> simp [h]
  exact (exec_rete o s).trans (row_next hform hs ((if_neg (Bool.eq_false_iff.mp huser)).trans
    ((if_neg hgo).trans (congrArg PyRes.left (service_ok hok _)))))

end

/-- SYNC where no write that it performs resets the core (R254, R283). -/
theorem exec_sync_done (hform : o.form = 0) (hs : s.enters o 0x97 = true) (hu : u = s.entered o 0x97)
    (hx : ((u.drain o.p).deliverMem o.p).deliverRegs o.p = (true, x)) :
    exec (.sync o) s = .next (((PyRes.ok 1 x).finish o.p (opLen o 0x97)).keep s) := by
  subst hu
  exact (exec_sync o s).trans (row_next hform hs (by rw [hx]))

end

/-- Settles O33: a branch is a jump, a system register is reached as its code allows, and each system instruction takes the branch
of its body that its clause names. -/
theorem branchSystemRowsComplete : Obligations.BranchSystemRowsComplete := by
  refine ⟨?_, ?_, ?_, ?_, ?_, ?_⟩
  · exact fun s u o i nf c t x hs hu hform hrow => exec_branchRow hs hu hform hrow
  · rintro s u o hform hs rfl hwin
    refine ⟨fun hmay => ?_, fun huser hno => ?_⟩
    · rw [exec_mfsrRow hform hs, mfsrBody_ok hwin hmay]
      rfl
    · rw [exec_mfsrRow hform hs, mfsrBody_refused hwin huser hno]
      rfl
  · rintro s u o k w v hform hwin rfl rfl rfl
    refine ⟨?_, ?_⟩
    · rintro hs rfl
      rw [exec_mfsrRow hform hs, mfsrBody_win hwin]
      exact ⟨fun hbad => by rw [if_pos hbad]; rfl, fun hok => by rw [if_neg (not_not.mpr hok)]; rfl⟩
    · rintro hs rfl
      rw [exec_mtsrRow hform hs, mtsrBody_win hwin]
      refine ⟨fun hbad => by rw [if_pos hbad]; rfl, fun hok => ?_⟩
      rw [if_neg (not_not.mpr hok)]
      split <;> rfl
  · rintro s u o hform hs rfl hwin htenant hbar
    rw [exec_mtsrRow hform hs, mtsrBody_code hwin, mtsrCode_barred ⟨htenant, hbar⟩]
    rfl
  · rintro s u o _ hform hs rfl hwin hmay rfl
    have hbar : ¬ (s.entered o 0x91).mtsrBarred o := by
      rintro ⟨htenant, hkeeper | ⟨hno, hown⟩⟩
      · simp [(hmay htenant).1] at hkeeper
      · simp [(hmay htenant).2 hno] at hown
    rw [exec_mtsrRow hform hs]
    refine ⟨fun hno => ?_, fun huser hno => ?_, fun hno => ?_, fun huser hno => ?_, fun huser hno => ?_⟩
    · rw [mtsrBody_ok hbar hwin (.inr (by simp [hno])), hno]
      rfl
    · rw [mtsrBody_ok hbar hwin (.inl huser), hno]
      rfl
    · rw [mtsrBody_ok hbar hwin (.inr (by simp [hno])), hno]
      rfl
    · rw [mtsrBody_ok hbar hwin (.inl huser), mtsr_sys hno]
      rfl
    · rw [mtsrBody_refused hbar hwin huser hno]
      rfl
  · rintro s u x o c hform hs rfl
    refine ⟨?_, ?_, ?_, ?_, ?_, ?_, ?_, ?_, ?_, ?_, ?_, ?_⟩
    · rintro rfl
      exact (exec_syscall o s).trans (row_next hform hs rfl)
    · rintro rfl
      exact (exec_brk o s).trans (row_next hform hs rfl)
    · rintro rfl huser
      exact exec_rete_user hform hs rfl huser
    · rintro rfl huser hbank hflash
      exact exec_rete_waits hform hs rfl huser hbank hflash
    · rintro rfl huser hflash hx hok
      rw [exec_rete_leaves hform hs rfl huser hflash hx hok]
      exact ⟨fun hbank => by rw [if_pos hbank]; rfl, fun hbank => by rw [if_neg hbank]; rfl⟩
    · rintro _ rfl rfl hother rfl hok
      rw [exec_waitOp_stops hform hs rfl (not_activated hother), service_ok hok]
      rfl
    · rintro _ rfl rfl hbank hact hflash hx hok
      rw [exec_waitOp_ends hform hs rfl ⟨hbank, hact⟩, endActivation_ok hflash hx hok]
      rfl
    · rintro _ rfl rfl hnone
      refine exec_yield_passes hform hs rfl (hnone.imp_right (Or.imp_right ?_))
      rintro hno ⟨k, hk1, hk16, hkb, hen, hready, hpri⟩
      exact hno k hk1 hk16 hkb hen hready hpri
    · rintro _ k rfl rfl hbank hrun hk1 hk16 hkb hen hready hpri hflash hx hok
      rw [exec_yield_gives hform hs rfl hbank hrun ⟨k, hk1, hk16, hkb, hen, hready, hpri⟩, endActivation_ok hflash hx hok]
      rfl
    · rintro rfl
      exact (exec_fetchsync o s).trans (row_next hform hs rfl)
    · rintro rfl hx
      exact exec_sync_done hform hs rfl hx
    · rintro rfl
      exact (exec_nopOp o s).trans (row_next hform hs rfl)

end Sys2Proof.Machine

end

section
/-! PROOFS. The long operations and the resumable block instructions (R255 to R259, R261). -/

namespace Sys2Proof.Machine
open Sys2Proof

section
variable {s u y z : State} {o : PyOp} {i : Instr} {c k n : Nat} {prog : Word}

/-- The rows of the divider (R255, R257). -/
theorem exec_divRow {r : Word} (hform : o.form = 0) (hs : s.enters o c = true) (hu : u = s.entered o c)
    (hrow : (i, c, r) ∈ [(.divOp o, 0xC0, divOf (u.gNow o.p o.d) (u.gNow o.p o.s)),
      (.divu o, 0xC1, divuOf (u.gNow o.p o.d) (u.gNow o.p o.s)), (.rem o, 0xC2, remOf (u.gNow o.p o.d) (u.gNow o.p o.s)),
      (.remu o, 0xC3, remuOf (u.gNow o.p o.d) (u.gNow o.p o.s)), (.sqrt o, 0xC4, sqrtOf (u.gNow o.p o.s))]) :
    exec i s = .next (((longG o .divider [(o.d, r)] u).finish o.p (opLen o c)).keep s) := by
  subst hu
  simp only [List.mem_cons, Prod.mk.injEq, List.not_mem_nil, or_false] at hrow
  obtain ⟨rfl, rfl, rfl⟩ | ⟨rfl, rfl, rfl⟩ | ⟨rfl, rfl, rfl⟩ | ⟨rfl, rfl, rfl⟩ | ⟨rfl, rfl, rfl⟩ := hrow
  · exact (exec_divOp o s).trans (row_next hform hs rfl)
  · exact (exec_divu o s).trans (row_next hform hs rfl)
  · exact (exec_rem o s).trans (row_next hform hs rfl)
  · exact (exec_remu o s).trans (row_next hform hs rfl)
  · exact (exec_sqrt o s).trans (row_next hform hs rfl)

/-- The element that PROG names, where the instruction was interrupted (R259). -/
def progElem (prog : Word) : Nat := if wbit prog 31 then getBits prog 23 0 else 0

section
variable {p a len : Nat} {fwd : Bool} {f : Word → State → ElemRes}

/-- An element whose read its rights let through and whose word reads (R258). -/
theorem elemRead_val {w : Word} (hcheck : y.dataCheck p (y.tenantCore p) (y.userCore p) a len .load = 0)
    (hread : y.readNow p a len fwd = (.val w, z)) : y.elemRead p a len fwd f = f w z :=
  (if_neg (not_not.mpr hcheck)).trans (by rw [hread])

/-- One whose read its rights refuse (R230, R259). -/
theorem elemRead_fault (hcheck : y.dataCheck p (y.tenantCore p) (y.userCore p) a len .load ≠ 0) : y.elemRead p a len fwd f
    = .fault (y.dataCheck p (y.tenantCore p) (y.userCore p) a len .load) 0
      (faultAddr (y.dataCheck p (y.tenantCore p) (y.userCore p) a len .load) a) y := if_pos hcheck

end

section
variable {blk : Block} {len total : Nat} {v : Nat → State} {acc : Nat → Int} {ended saved : State}

/-- A block instruction of no element left closes at once (R258). -/
theorem exec_blockDone {acc : Int} (hexec : exec i s = .next (((blockBody o acc blk u).finish o.p len).keep s))
    (hprog : prog = (u.bankOf o.p (u.core o.p).bank).prog) (hdone : (u.gNow o.p o.n).toNat % 2 ^ 24 ≤ progElem prog)
    (hended : blk.close acc u = ended) : exec i s = .next (((ended.setProg o.p 0).advance o.p len 1).keep s) := by
  subst hprog hended
  rw [hexec, blockBody]
  simp only [progElem] at hdone
  simp only [if_pos hdone]
  rfl

section
variable (hexec : exec i s = .next (((blockBody o (acc 0) blk u).finish o.p len).keep s))
  (hprog : prog = (u.bankOf o.p (u.core o.p).bank).prog) (hk : k = progElem prog)
  (htotal : total = (u.gNow o.p o.n).toNat % 2 ^ 24) (hlt : k < total)
include hexec hprog hk htotal hlt

/-- What a block instruction does after `n` elements (R259): go on past it, leave at a request, or take the exception of the next
element, with the elements done in PROG. -/
theorem exec_blockSeq (hended : blk.close (acc n) (v n) = ended) (hsaved : blk.save (acc n) (v n) = saved) (hn : k + n ≤ total)
    (hv : v 0 = u)
    (helem : ∀ j, j < n → ∃ z, blk.elem (k + j) (acc j) (v j) = .next (acc (j + 1)) z ∧ v (j + 1) = z.slots o.p blk.slots)
    (hstop : ∀ m, o.stop = some m → n ≤ m) :
    (k + n = total → exec i s = .next (((ended.setProg o.p 0).advance o.p len 0).keep s))
    ∧ (k + n < total → o.stop = some n →
      exec i s = .next (((saved.setProg o.p (2 ^ 31 + (k + n))).takeBoundary o.p).keep s))
    ∧ (∀ code a z, k + n < total → o.stop ≠ some n → blk.elem (k + n) (acc n) (v n) = .fault code 0 a (v n) →
      z = saved.setProg o.p (2 ^ 31 + (k + n)) →
      exec i s = .next ((z.takeException o.p code 0 a (z.pcNow o.p)).keep s)) := by
  obtain ⟨hend, hleft, hfault⟩ := blockBody_seq blk o k total n u prog v acc hprog hk htotal hlt hn hv helem hstop
  subst hended hsaved
  rw [hexec]
  refine ⟨fun hall => by rw [hend hall]; rfl, fun hmore hreq => by rw [hleft hmore hreq]; rfl, ?_⟩
  rintro code a z hmore hreq hbad rfl
  rw [hfault code 0 a _ hmore hreq hbad]
  rfl

/-- One stopped by a request before its first element (R259; log entry 63). -/
theorem exec_blockStopped (hsaved : blk.save (acc 0) u = saved) (hstop : o.stop = some 0) :
    exec i s = .next (((saved.setProg o.p (2 ^ 31 + k)).takeBoundary o.p).keep s) :=
  (exec_blockSeq (v := fun _ => u) (n := 0) hexec hprog hk htotal hlt rfl hsaved hlt.le rfl (by simp) (by simp)).2.1 hlt hstop

/-- One whose one remaining element completes (R258, R259). -/
theorem exec_blockOne {acc' : Int} {z x : State} (hone : total = k + 1) (hstop : o.stop = none)
    (helem : blk.elem k (acc 0) u = .next acc' z) (hx : x = z.slots o.p blk.slots) (hended : blk.close acc' x = ended) :
    exec i s = .next (((ended.setProg o.p 0).advance o.p len 0).keep s) := by
  have hrun := exec_blockSeq (acc := fun j => if j = 0 then acc 0 else acc') (v := fun j => if j = 0 then u else x) (n := 1)
    hexec hprog hk htotal hlt hended rfl (by omega) rfl ?_ (by simp [hstop])
  · exact hrun.1 hone.symm
  · intro j hj
    rw [Nat.lt_one_iff.mp hj]
    exact ⟨z, helem, hx⟩

end
end

/-- The address of an element of `w` bytes in a block that starts at `base` (R258). -/
def elemAddr (base : Word) (w k : Nat) : Nat := (base + BitVec.ofNat 32 (w * k)).toNat

/-- BMOV in progress (R258). -/
def bmovBlock (o : PyOp) (u : State) : Block where
  slots := 2
  elem k _ y := y.elemRead o.p (elemAddr (u.gNow o.p o.s) 4 k) 4 true (fun w x =>
    match x.storeCheck o.p (elemAddr (u.gNow o.p o.d) 4 k) 4 w with
    | (0, x) => .next 0 (x.pushStoreAt o.p 1 ⟨elemAddr (u.gNow o.p o.d) 4 k, leBytes 4 w.toNat, x.tenantCore o.p⟩)
    | (code, x) => .fault code 1 (faultAddr code (elemAddr (u.gNow o.p o.d) 4 k)) x)
  save _ y := y
  close _ y := y

/-- BSCAN in progress (R258, R289). -/
def bscanBlock (o : PyOp) (u : State) : Block where
  slots := 1
  elem k _ y :=
    let a := elemAddr (u.gNow o.p o.s) 4 k
    let y := if y.dataCheck o.p (y.tenantCore o.p) (y.userCore o.p) a 4 .load = 0 then y.settled o.p a else y
    y.elemRead o.p a 4 false (fun _ x =>
      .next 0 (if y.correctable o.p a then x.setG o.p (u.core o.p).bank o.d (x.gNow o.p o.d + 1) else x))
  save _ y := y
  close _ y := y

/-- CRCB in progress (R258). -/
def crcbBlock (o : PyOp) (u : State) : Block where
  slots := 1
  elem k _ y := y.elemRead o.p (elemAddr (u.gNow o.p o.s) 1 k) 1 true (fun w x =>
    .next 0 (x.setG o.p (u.core o.p).bank o.d (crcStep o.t (x.gNow o.p o.d) (BitVec.ofNat 8 w.toNat))))
  save _ y := y
  close _ y := y

/-- The accumulator that VMAC starts from (R258). -/
def State.macAcc (u : State) (o : PyOp) : Int := sext 64 ((u.gNow o.p (o.d + 1)).toNat * 2 ^ 32 + (u.gNow o.p o.d).toNat)

/-- VMAC in progress (R258, R261). -/
def vmacBlock (o : PyOp) (u : State) : Block where
  slots := 2
  elem k acc y := y.elemRead o.p (elemAddr (u.gNow o.p o.s) 4 k) 4 true (fun p y =>
    y.elemRead o.p (elemAddr (u.gNow o.p o.t) 4 k) 4 true (fun q y =>
      .next (macStep o.pfx.sat acc p q).1 (if (macStep o.pfx.sat acc p q).2
        then y.modCore o.p (fun c => c.write (.status (u.core o.p).bank stQ) stQ) else y)))
  save acc y := (y.setG o.p (u.core o.p).bank o.d (BitVec.ofNat 32 (wrapN 64 acc))).setG o.p (u.core o.p).bank (o.d + 1)
    (BitVec.ofNat 32 (wrapN 64 acc / 2 ^ 32))
  close acc y := y.startLong o ⟨.mac, (u.core o.p).bank, [(.g (u.core o.p).bank o.d, BitVec.ofNat 32 (wrapN 64 acc)),
    (.g (u.core o.p).bank (o.d + 1), BitVec.ofNat 32 (wrapN 64 acc / 2 ^ 32))], 0⟩

section
variable (hform : o.form = 0)
include hform

theorem exec_bmovRow (hs : s.enters o 0xD0 = true) : exec (.bmov o) s
    = .next (((blockBody o 0 (bmovBlock o (s.entered o 0xD0)) (s.entered o 0xD0)).finish o.p (opLen o 0xD0)).keep s) :=
  (exec_bmov o s).trans (row_next hform hs rfl)

theorem exec_bscanRow (hs : s.enters o 0xD2 = true) : exec (.bscan o) s
    = .next (((blockBody o 0 (bscanBlock o (s.entered o 0xD2)) (s.entered o 0xD2)).finish o.p (opLen o 0xD2)).keep s) :=
  (exec_bscan o s).trans (row_next hform hs rfl)

theorem exec_crcbRow (hs : s.enters o 0xD3 = true) : exec (.crcb o) s
    = .next (((blockBody o 0 (crcbBlock o (s.entered o 0xD3)) (s.entered o 0xD3)).finish o.p (opLen o 0xD3)).keep s) := by
  refine (exec_crcb o s).trans (row_next hform hs ?_)
  simp only [crcbBlock, elemAddr, Nat.one_mul]

/-- The block instructions that carry nothing from element to element write nothing of their own where they stop or end. -/
theorem exec_plainRow (hs : s.enters o c = true) (hrow : (i, c) ∈ [(.bmov o, 0xD0), (.bscan o, 0xD2), (.crcb o, 0xD3)]) :
    ∃ blk : Block, (∀ y, blk.close 0 y = y) ∧ (∀ y, blk.save 0 y = y)
      ∧ exec i s = .next (((blockBody o 0 blk (s.entered o c)).finish o.p (opLen o c)).keep s) := by
  simp only [List.mem_cons, Prod.mk.injEq, List.not_mem_nil, or_false] at hrow
  obtain ⟨rfl, rfl⟩ | ⟨rfl, rfl⟩ | ⟨rfl, rfl⟩ := hrow
  · exact ⟨bmovBlock o _, fun _ => rfl, fun _ => rfl, exec_bmovRow hform hs⟩
  · exact ⟨bscanBlock o _, fun _ => rfl, fun _ => rfl, exec_bscanRow hform hs⟩
  · exact ⟨crcbBlock o _, fun _ => rfl, fun _ => rfl, exec_crcbRow hform hs⟩

theorem exec_vmacRow (hs : s.enters o 0xD1 = true) : exec (.vmac o) s
    = .next (((blockBody o ((s.entered o 0xD1).macAcc o) (vmacBlock o (s.entered o 0xD1)) (s.entered o 0xD1)).finish
      o.p (opLen o 0xD1)).keep s) :=
  (exec_vmac o s).trans (row_next hform hs rfl)

end

section
variable {x : State} {a : Nat} {w : Word} {acc : Int}

theorem bmovBlock_next (ha : a = elemAddr (u.gNow o.p o.s) 4 k)
    (hcheck : y.dataCheck o.p (y.tenantCore o.p) (y.userCore o.p) a 4 .load = 0) (hread : y.readNow o.p a 4 true = (.val w, x))
    (hstore : (x.storeCheck o.p (elemAddr (u.gNow o.p o.d) 4 k) 4 w).1 = 0) : (bmovBlock o u).elem k acc y
      = .next 0 (x.pushStoreAt o.p 1 ⟨elemAddr (u.gNow o.p o.d) 4 k, leBytes 4 w.toNat, x.tenantCore o.p⟩) := by
  subst ha
  refine (elemRead_val hcheck hread).trans ?_
  rw [show x.storeCheck o.p (elemAddr (u.gNow o.p o.d) 4 k) 4 w = (0, x) from Prod.ext hstore (storeCheck_ok hstore)]
  rfl

theorem bmovBlock_fault (ha : a = elemAddr (u.gNow o.p o.s) 4 k)
    (hcheck : y.dataCheck o.p (y.tenantCore o.p) (y.userCore o.p) a 4 .load ≠ 0) : (bmovBlock o u).elem k acc y
      = .fault (y.dataCheck o.p (y.tenantCore o.p) (y.userCore o.p) a 4 .load) 0
        (faultAddr (y.dataCheck o.p (y.tenantCore o.p) (y.userCore o.p) a 4 .load) a) y := by
  subst ha
  exact elemRead_fault hcheck

theorem bscanBlock_next (ha : a = elemAddr (u.gNow o.p o.s) 4 k)
    (hcheck : y.dataCheck o.p (y.tenantCore o.p) (y.userCore o.p) a 4 .load = 0) (hz : z = y.settled o.p a)
    (hcheck' : z.dataCheck o.p (z.tenantCore o.p) (z.userCore o.p) a 4 .load = 0) (hread : z.readNow o.p a 4 false = (.val w, x)) :
    (bscanBlock o u).elem k acc y
      = .next 0 (if z.correctable o.p a then x.setG o.p (u.core o.p).bank o.d (x.gNow o.p o.d + 1) else x) := by
  subst ha hz
  simp only [bscanBlock, if_pos hcheck]
  exact elemRead_val hcheck' hread

theorem bscanBlock_fault (ha : a = elemAddr (u.gNow o.p o.s) 4 k)
    (hcheck : y.dataCheck o.p (y.tenantCore o.p) (y.userCore o.p) a 4 .load ≠ 0) : (bscanBlock o u).elem k acc y
      = .fault (y.dataCheck o.p (y.tenantCore o.p) (y.userCore o.p) a 4 .load) 0
        (faultAddr (y.dataCheck o.p (y.tenantCore o.p) (y.userCore o.p) a 4 .load) a) y := by
  subst ha
  simp only [bscanBlock, if_neg hcheck]
  exact elemRead_fault hcheck

theorem crcbBlock_next (ha : a = elemAddr (u.gNow o.p o.s) 1 k)
    (hcheck : y.dataCheck o.p (y.tenantCore o.p) (y.userCore o.p) a 1 .load = 0) (hread : y.readNow o.p a 1 true = (.val w, x)) :
    (crcbBlock o u).elem k acc y
      = .next 0 (x.setG o.p (u.core o.p).bank o.d (crcStep o.t (x.gNow o.p o.d) (BitVec.ofNat 8 w.toNat))) := by
  subst ha
  exact elemRead_val hcheck hread

theorem crcbBlock_fault (ha : a = elemAddr (u.gNow o.p o.s) 1 k)
    (hcheck : y.dataCheck o.p (y.tenantCore o.p) (y.userCore o.p) a 1 .load ≠ 0) : (crcbBlock o u).elem k acc y
      = .fault (y.dataCheck o.p (y.tenantCore o.p) (y.userCore o.p) a 1 .load) 0
        (faultAddr (y.dataCheck o.p (y.tenantCore o.p) (y.userCore o.p) a 1 .load) a) y := by
  subst ha
  exact elemRead_fault hcheck

/-- The sum of a VMAC element wraps at 64 bits, or is clamped there under SAT (R258, R261). -/
theorem macStep_eq (sat : Bool) (acc : Int) (p q : Word) : macStep sat acc p q
    = (if sat then clampI (-9223372036854775808) 9223372036854775807 (acc + sword p * sword q)
        else sext 64 (wrapN 64 (acc + sword p * sword q)),
      decide (sat = true ∧ (acc + sword p * sword q < -9223372036854775808 ∨ 9223372036854775807 < acc + sword p * sword q))) := by
  cases sat <;> simp [macStep]

theorem vmacBlock_next {b : Nat} {p q : Word} {e : Int} (ha : a = elemAddr (u.gNow o.p o.s) 4 k)
    (hb : b = elemAddr (u.gNow o.p o.t) 4 k)
    (hcheck : y.dataCheck o.p (y.tenantCore o.p) (y.userCore o.p) a 4 .load = 0) (hread : y.readNow o.p a 4 true = (.val p, z))
    (hcheck' : z.dataCheck o.p (z.tenantCore o.p) (z.userCore o.p) b 4 .load = 0) (hread' : z.readNow o.p b 4 true = (.val q, x))
    (he : e = acc + sword p * sword q) : (vmacBlock o u).elem k acc y
      = .next (if o.pfx.sat then clampI (-9223372036854775808) 9223372036854775807 e else sext 64 (wrapN 64 e))
        (if o.pfx.sat = true ∧ (e < -9223372036854775808 ∨ 9223372036854775807 < e)
          then x.modCore o.p (fun c => c.write (.status (u.core o.p).bank stQ) stQ) else x) := by
  subst ha hb he
  refine (elemRead_val hcheck hread).trans ((elemRead_val hcheck' hread').trans ?_)
  simp only [macStep_eq, decide_eq_true_eq]

theorem vmacBlock_fault (ha : a = elemAddr (u.gNow o.p o.s) 4 k)
    (hcheck : y.dataCheck o.p (y.tenantCore o.p) (y.userCore o.p) a 4 .load ≠ 0) : (vmacBlock o u).elem k acc y
      = .fault (y.dataCheck o.p (y.tenantCore o.p) (y.userCore o.p) a 4 .load) 0
        (faultAddr (y.dataCheck o.p (y.tenantCore o.p) (y.userCore o.p) a 4 .load) a) y := by
  subst ha
  exact elemRead_fault hcheck

end
end

/-- Settles O34: a long row starts its unit; a block row is `blockBody` of its block, which `exec_blockSeq` runs element by
element. -/
theorem longBlockRowsComplete : Obligations.LongBlockRowsComplete := by
  refine ⟨?_, ?_, ?_, ?_, ?_, ?_, ?_⟩
  · rintro s u o i c r _ _ hform hs hu rfl rfl hrow
    exact exec_divRow hform hs hu hrow
  · rintro s u o r hform hs rfl rfl
    exact (exec_cordic o s).trans (row_next hform hs rfl)
  · rintro s u o i c prog hform hs rfl hrow hprog
    obtain ⟨blk, hclose, hsave, hexec⟩ := exec_plainRow hform hs hrow
    exact ⟨fun hdone => exec_blockDone hexec hprog hdone (hclose _),
      fun k hk hmore hstop => exec_blockStopped (acc := fun _ => 0) hexec hprog hk rfl hmore (hsave _) hstop⟩
  · rintro s u o prog k r lo hi hform hs rfl hprog hk rfl rfl rfl
    have hexec := exec_vmacRow hform hs
    exact ⟨fun hdone => exec_blockDone hexec hprog (hdone.trans_eq hk) rfl,
      fun hmore hstop => exec_blockStopped (acc := fun _ => _) hexec hprog hk rfl hmore rfl hstop⟩
  · rintro s u o k prog hform hstop hprog hk htotal
    have hlt : k < (u.gNow o.p o.n).toNat % 2 ^ 24 := by omega
    refine ⟨?_, ?_, ?_, ?_⟩
    · rintro a b v x hs rfl rfl rfl hcheck hread hstore
      exact exec_blockOne (acc := fun _ => 0) (exec_bmovRow hform hs) hprog hk rfl hlt htotal hstop
        (bmovBlock_next rfl hcheck hread hstore) rfl rfl
    · rintro a b v w x y z q acc r hs rfl rfl rfl hcheck hread hcheck' hread' rfl rfl rfl rfl
      exact exec_blockOne (acc := fun _ => _) (exec_vmacRow hform hs) hprog hk rfl hlt htotal hstop
        (vmacBlock_next rfl rfl hcheck hread hcheck' hread' rfl) rfl rfl
    · rintro a v x y hs rfl rfl hcheck rfl hcheck' hread
      exact exec_blockOne (acc := fun _ => 0) (exec_bscanRow hform hs) hprog hk rfl hlt htotal hstop
        (bscanBlock_next rfl hcheck rfl hcheck' hread) rfl rfl
    · rintro a v x hs rfl rfl hcheck hread
      exact exec_blockOne (acc := fun _ => 0) (exec_crcbRow hform hs) hprog hk rfl hlt htotal hstop
        (crcbBlock_next (by rw [elemAddr, Nat.one_mul]) hcheck hread) rfl rfl
  · rintro s u o i c k total n sz prog v a b elem hform hs rfl hprog hk htotal hlt hn haddr hrow hv hseq hstop
    simp only [List.mem_cons, Prod.mk.injEq, List.not_mem_nil, or_false] at hrow
    obtain ⟨ha, hb⟩ := by simpa only [forall_and] using haddr
    obtain ⟨rfl, rfl, rfl, rfl⟩ | ⟨rfl, rfl, rfl, rfl⟩ | ⟨rfl, rfl, rfl, rfl⟩ := hrow
    · obtain ⟨hend, hleft, hfault⟩ := exec_blockSeq (acc := fun _ => 0) (exec_bmovRow hform hs) hprog hk htotal hlt rfl rfl hn hv
        (fun j hj => by
          obtain ⟨hcheck, w, x, hread, hstore, hnext⟩ := hseq j hj
          rw [hb] at hstore hnext
          exact ⟨_, bmovBlock_next (ha j) hcheck hread hstore, hnext⟩) hstop
      refine ⟨hend, hleft, ?_⟩
      rintro _ z hmore hreq hz rfl hbad
      exact hfault _ _ z hmore hreq (bmovBlock_fault (ha n) hbad) hz
    · obtain ⟨hend, hleft, hfault⟩ := exec_blockSeq (acc := fun _ => 0) (exec_bscanRow hform hs) hprog hk htotal hlt rfl rfl hn hv
        (fun j hj => by
          obtain ⟨hcheck, q, w, x, hq, hcheck', hread, hnext⟩ := hseq j hj
          exact ⟨_, bscanBlock_next (ha j) hcheck hq hcheck' hread, hnext⟩) hstop
      refine ⟨hend, hleft, ?_⟩
      rintro _ z hmore hreq hz rfl hbad
      exact hfault _ _ z hmore hreq (bscanBlock_fault (ha n) hbad) hz
    · obtain ⟨hend, hleft, hfault⟩ := exec_blockSeq (acc := fun _ => 0) (exec_crcbRow hform hs) hprog hk htotal hlt rfl rfl hn hv
        (fun j hj => by
          obtain ⟨hcheck, w, x, hread, hnext⟩ := hseq j hj
          exact ⟨_, crcbBlock_next (ha j) hcheck hread, hnext⟩) hstop
      refine ⟨hend, hleft, ?_⟩
      rintro _ z hmore hreq hz rfl hbad
      exact hfault _ _ z hmore hreq (crcbBlock_fault (ha n) hbad) hz
  · rintro s u o k total n _ prog v a b r acc x _ hform hs rfl rfl hprog hk htotal hlt hn haddr hv hacc hseq hstop rfl
    obtain ⟨ha, hb, hr⟩ := by simpa only [forall_and] using haddr
    have hexec := exec_vmacRow hform hs
    rw [show (s.entered o 0xD1).macAcc o = acc 0 from hacc.symm] at hexec
    obtain ⟨hend, hleft, hfault⟩ := exec_blockSeq hexec hprog hk htotal hlt rfl rfl hn hv
      (fun j hj => by
        obtain ⟨hcheck, p, q, y, z, hread, hcheck', hread', hx, hstep, hnext⟩ := hseq j hj
        rw [hnext, hstep]
        exact ⟨_, vmacBlock_next (ha j) (hb j) hcheck hread hcheck' hread' hx, rfl⟩) hstop
    rw [hr]
    refine ⟨hend, hleft, ?_⟩
    rintro _ hmore hreq rfl hbad
    exact hfault _ _ _ hmore hreq (vmacBlock_fault (ha n) hbad) rfl

end Sys2Proof.Machine

end

section
/-! PROOFS. The results that land in an issue slot (R264 to R266, R271), and what an ALU instruction leaves alone (R245, R247). -/

namespace Sys2Proof.Machine
open Sys2Proof

/-- Results written one after another (R266). -/
def PyCore.writes (c : PyCore) (ls : List Landing) : PyCore := ls.foldl (fun c l => c.write l.dest l.val) c

/-- The core at the start of its next issue slot, before the results that are due in it land. -/
def PyCore.ticked (c : PyCore) : PyCore := { c with slot := c.slot + 1, land := c.land.filter (fun l => l.due ≠ c.slot + 1) }

section
variable {s : State} {p : Nat}

@[simp] theorem State.setOk_cores (s : State) (f : FRef) (v hi : Nat) : (s.setOk f v hi).cores = s.cores := by
  simp -implicitDefEqProofs [State.setOk]

@[simp] theorem State.espCheck_cores (s : State) (p : Nat) : (s.espCheck p).cores = s.cores := by
  simp -implicitDefEqProofs [State.espCheck]

/-- A system register is no part of a core's own state. -/
@[simp] theorem State.sysWrite_cores (s : State) (p n : Nat) (v : Word) : (s.sysWrite p n v).cores = s.cores := by
  simp -implicitDefEqProofs [State.sysWrite]

/-- A result lands in its core as `PyCore.write` says; one for a system register changes no core. -/
theorem core_landOne (hp : p < s.cores.length) (l : Landing) : (s.landOne p l).core p = (s.core p).write l.dest l.val := by
  unfold State.landOne
  split
  · rename_i n hsys
    rw [hsys, State.core, State.sysWrite_cores]
    rfl
  · exact core_modCore_same hp _

theorem length_landOne (s : State) (p : Nat) (l : Landing) : (s.landOne p l).cores.length = s.cores.length := by
  unfold State.landOne
  split <;> simp

theorem core_eachLand (hp : p < s.cores.length) (ls : List Landing) :
    (s.each ls (fun s l => s.landOne p l)).core p = (s.core p).writes ls := by
  induction ls generalizing s with
  | nil => rfl
  | cons l ls ih =>
    refine (ih (s := s.landOne p l) (by rwa [length_landOne])).trans ?_
    rw [core_landOne hp]
    rfl

/-- An issue slot of a core: the results due in it land, in issue order; what MTH and DETM were before is remembered for one more
slot (R223, R266). -/
theorem core_slot (hp : p < s.cores.length) : ∃ m d, (s.slots p 1).core p
    = { (s.core p).ticked.writes ((s.core p).land.filter (fun l => l.due = (s.core p).slot + 1)) with mthWas := m, detWas := d } := by
  obtain ⟨x, hx⟩ : ∃ x, x = s.modCore p (fun c => { c with slot := c.slot + 1 }) := ⟨_, rfl⟩
  obtain ⟨y, hy⟩ : ∃ y, y = x.modCore p (fun c => { c with land := c.land.filter (fun l => l.due ≠ (s.core p).slot + 1) }) := ⟨_, rfl⟩
  have hxcore : x.core p = { s.core p with slot := (s.core p).slot + 1 } := by rw [hx, core_modCore_same hp]
  have hxlen : p < x.cores.length := by simpa [hx] using hp
  have hylen : p < y.cores.length := by simpa [hy] using hxlen
  have hycore : y.core p = (s.core p).ticked := by
    rw [hy, core_modCore_same hxlen, hxcore]
    rfl
  have hland : x.landAt p (x.core p).slot
      = y.each ((s.core p).land.filter (fun l => l.due = (s.core p).slot + 1)) (fun s l => s.landOne p l) := by
    rw [hxcore, State.landAt, hxcore, hy]
  have hlen : p < (x.landAt p (x.core p).slot).cores.length := by
    rw [hland, each_keeps (fun s => s.cores.length) _ (fun s l => length_landOne s p l)]
    exact hylen
  have hslots : ∃ m d, s.slots p 1
      = (x.landAt p (x.core p).slot).modCore p (fun c => { c with mthWas := m, detWas := d }) := ⟨_, _, by rw [hx]; rfl⟩
  obtain ⟨m, d, hslots⟩ := hslots
  refine ⟨m, d, ?_⟩
  rw [hslots, core_modCore_same hlen, hland, core_eachLand hylen, hycore]

end

section
variable {c : PyCore} {b r : Nat}

/-- G register `r` of bank `b` of a core. -/
def PyCore.greg (c : PyCore) (b r : Nat) : Word := nth (nth c.banks b {}).g r 0

/-- F register `r` of a core. -/
def PyCore.freg (c : PyCore) (r : Nat) : Word := nth c.f r 0

theorem nth_mem {α : Type} {l : List α} {i : Nat} (hi : i < l.length) (d : α) : nth l i d ∈ l := by
  rw [nth, List.getD_eq_getElem _ _ hi]
  exact List.getElem_mem hi

theorem greg_write_same (hbanks : c.banks.length = 16) (hregs : ∀ k ∈ c.banks, k.g.length = 16) (hb : b < 16) (hr : r < 16)
    (v : Word) : (c.write (.g b r) v).greg b r = v := by
  have hlen : (nth c.banks b {}).g.length = 16 := hregs _ (nth_mem (by omega) _)
  unfold PyCore.greg PyCore.write
  rw [nth_modNth_same (by omega), nth_modNth_same (by omega)]

theorem greg_write_ne {d : Dest} (hd : d ≠ .g b r) (c : PyCore) (v : Word) : (c.write d v).greg b r = c.greg b r := by
  cases d with
  | g k q =>
    by_cases hk : k = b
    · subst hk
      refine nth_modNth_keeps (fun x : Bank => nth x.g r 0) (fun x => ?_) c.banks k k {}
      exact nth_modNth_ne _ (by rintro rfl; exact hd rfl) _ _
    · exact congrArg (fun x : Bank => nth x.g r 0) (nth_modNth_ne _ (Ne.symm hk) _ _)
  | status k m => exact nth_modNth_keeps (fun x : Bank => nth x.g r 0) (by exact fun _ => rfl) c.banks k b {}
  | prog k => exact nth_modNth_keeps (fun x : Bank => nth x.g r 0) (by exact fun _ => rfl) c.banks k b {}
  | f q => rfl
  | fpFlags => rfl
  | fpsr => rfl
  | sys n => rfl

theorem freg_write_same (hfregs : c.f.length = 16) (hr : r < 16) (v : Word) : (c.write (.f r) v).freg r = v :=
  nth_modNth_same (by omega) _ _

theorem freg_write_ne {d : Dest} (hd : d ≠ .f r) (c : PyCore) (v : Word) : (c.write d v).freg r = c.freg r := by
  cases d with
  | f q => exact nth_modNth_ne _ (by rintro rfl; exact hd rfl) _ _
  | g k q => rfl
  | status k m => rfl
  | prog k => rfl
  | fpFlags => rfl
  | fpsr => rfl
  | sys n => rfl

theorem land_write (c : PyCore) (d : Dest) (v : Word) : (c.write d v).land = c.land := by
  cases d <;> rfl

theorem land_writes (c : PyCore) (ls : List Landing) : (c.writes ls).land = c.land := by
  induction ls generalizing c with
  | nil => rfl
  | cons l ls ih => exact (ih _).trans (land_write c _ _)

/-- A register that its own write sets and every other write leaves reads, after a list of writes, as the last write to it
(R266). -/
theorem read_writes {read : PyCore → Word} {dest : Dest} (hsame : ∀ c, CoreShape c → ∀ v, read (c.write dest v) = v)
    (hother : ∀ d, d ≠ dest → ∀ c v, read (c.write d v) = read c) (hc : CoreShape c) (ls : List Landing) :
    read (c.writes ls) = (match (ls.filter (fun l => l.dest == dest)).getLast? with
      | some l => l.val
      | none => read c) := by
  have hshape (ls : List Landing) : CoreShape (c.writes ls) := by
    induction ls using List.reverseRecOn with
    | nil => exact hc
    | append_singleton ls l ih => simpa [PyCore.writes] using ih.write l.dest l.val
  induction ls using List.reverseRecOn with
  | nil => rfl
  | append_singleton ls l ih =>
    have hstep : c.writes (ls ++ [l]) = (c.writes ls).write l.dest l.val := by simp [PyCore.writes]
    rw [hstep, List.filter_append]
    by_cases hd : l.dest = dest
    · rw [hd, hsame _ (hshape ls)]
      simp [hd]
    · rw [hother _ hd, ih]
      simp [hd]

end

/-- Settles O46: in the slot that passes, the results due are written one after another, and each register reads as the last
write to it. -/
theorem resultsLandInTheirSlot : Obligations.ResultsLandInTheirSlot := by
  rintro s p b r _ hp hcores hb hr rfl hbanks hregs hfregs
  obtain ⟨m, d, hslot⟩ := core_slot (s := s) (p := p) (by omega)
  have hshape : CoreShape (s.core p).ticked := ⟨hbanks, hregs, hfregs⟩
  have hfilter (dest : Dest) : (s.core p).land.filter (fun l => l.due == (s.core p).slot + 1 && l.dest == dest)
      = ((s.core p).land.filter (fun l => l.due = (s.core p).slot + 1)).filter (fun l => l.dest == dest) := by
    rw [List.filter_filter]
    exact List.filter_congr fun l _ => Bool.and_comm _ _
  refine ⟨?_, ?_, ?_⟩
  · have hread := read_writes (read := fun c => c.greg b r) (fun c hc => greg_write_same hc.banks hc.g hb hr) (fun d hd => greg_write_ne hd) hshape
      ((s.core p).land.filter (fun l => l.due = (s.core p).slot + 1))
    rw [hfilter]
    exact (congrArg (fun c : PyCore => c.greg b r) hslot).trans hread
  · have hread := read_writes (read := fun c => c.freg r) (fun c hc => freg_write_same hc.f hr) (fun d hd => freg_write_ne hd) hshape
      ((s.core p).land.filter (fun l => l.due = (s.core p).slot + 1))
    rw [hfilter]
    exact (congrArg (fun c : PyCore => c.freg r) hslot).trans hread
  · rw [hslot]
    exact land_writes _ _

end Sys2Proof.Machine

end

section
/-! PROOFS. What an ALU instruction leaves alone (R245 to R247, R264, R265). -/

namespace Sys2Proof.Machine
open Sys2Proof

/-- `t` is `s` but for core `p`: every other core, and all that is no core, is as in `s`. -/
def OnlyCore (p : Nat) (s t : State) : Prop := ∃ cs, t = { s with cores := cs } ∧ ∀ q, q ≠ p → nth cs q {} = s.core q

namespace OnlyCore
variable {p : Nat} {s t : State}

theorem refl (p : Nat) (s : State) : OnlyCore p s s := ⟨s.cores, rfl, fun _ _ => rfl⟩

theorem modCore (h : OnlyCore p s t) (f : PyCore → PyCore) : OnlyCore p s (t.modCore p f) := by
  obtain ⟨cs, rfl, hcs⟩ := h
  exact ⟨modNth cs p f, rfl, fun q hq => (nth_modNth_ne cs hq f {}).trans (hcs q hq)⟩

theorem setPc (h : OnlyCore p s t) (v : Word) : OnlyCore p s (t.setPc p v) := h.modCore _

theorem resultG (h : OnlyCore p s t) (lat r : Nat) (v : Word) : OnlyCore p s (t.resultG p lat r v) := h.modCore _

theorem resultFlags (h : OnlyCore p s t) (lat : Nat) (mask v : Word) : OnlyCore p s (t.resultFlags p lat mask v) := by
  unfold State.resultFlags
  split
  · exact h
  · exact h.modCore _

/-- A result for no system register changes its core alone. -/
theorem landOne (h : OnlyCore p s t) {l : Landing} (hl : ∀ n, l.dest ≠ .sys n) : OnlyCore p s (t.landOne p l) := by
  unfold State.landOne
  split
  · exact absurd ‹_› (hl _)
  · exact h.modCore _

theorem eachLand (h : OnlyCore p s t) {ls : List Landing} (hls : ∀ l ∈ ls, ∀ n, l.dest ≠ .sys n) :
    OnlyCore p s (t.each ls (fun s l => s.landOne p l)) := by
  induction ls generalizing t with
  | nil => exact h
  | cons l ls ih =>
    obtain ⟨hl, hls⟩ := List.forall_mem_cons.mp hls
    exact ih (h.landOne hl) hls

/-- So does an issue slot in which none lands. -/
theorem slot (h : OnlyCore p s t) (hland : ∀ l ∈ (t.core p).land, ∀ n, l.dest ≠ .sys n) : OnlyCore p s (t.slots p 1) := by
  refine OnlyCore.modCore (OnlyCore.eachLand ((h.modCore _).modCore _) fun l hl => hland l ?_) _
  have hsame : ((t.modCore p (fun c => { c with slot := c.slot + 1 })).core p).land = (t.core p).land :=
    nth_modNth_keeps (fun c : PyCore => c.land) (by exact fun _ => rfl) t.cores p p {}
  exact hsame ▸ List.mem_of_mem_filter hl

end OnlyCore

section
variable {s u : State} {o : PyOp} {i : Instr} {b c : Nat} {a : Alu} {p : Nat}

/-- What an ALU instruction leaves in flight: its result and its flags, each one slot on (R264). -/
def aluResult (k : PyCore) (o : PyOp) (b : Nat) (a : Alu) : List Landing :=
  if b = 0x24 ∨ b = 0x28 then [] else [⟨k.slot + 1, .g k.bank o.d, a.res⟩]

def aluFlags (k : PyCore) (a : Alu) : List Landing :=
  if a.mask = 0 then [] else [⟨k.slot + 1, .status k.bank a.mask, a.flags⟩]

theorem core_aluLeaves (hp : o.p < u.cores.length) : (u.aluLeaves o b a).core o.p
    = { u.core o.p with land := (u.core o.p).land ++ aluResult (u.core o.p) o b a ++ aluFlags (u.core o.p) a } := by
  have hresult : ∀ t : State, o.p < t.cores.length → (t.resultFlags o.p 1 a.mask a.flags).core o.p
      = { t.core o.p with land := (t.core o.p).land ++ aluFlags (t.core o.p) a } := by
    intro t ht
    unfold State.resultFlags aluFlags
    split
    · simp
    · exact core_modCore_same ht _
  unfold State.aluLeaves aluResult
  split
  · simpa using hresult u hp
  · rw [hresult _ (by simpa [State.resultG, State.result] using hp),
      show (u.resultG o.p 1 o.d a.res).core o.p = _ from core_modCore_same hp _]
    rfl

theorem OnlyCore.aluLeaves {t : State} (h : OnlyCore o.p s t) (b : Nat) (a : Alu) : OnlyCore o.p s (t.aluLeaves o b a) := by
  unfold State.aluLeaves
  split
  · exact h.resultFlags _ _ _
  · exact (h.resultG _ _ _).resultFlags _ _ _

/-- Outside delay slots and with no machine check waiting the program counter moves on and the slots pass (R264). -/
theorem advance_plain (hbr : (u.core p).br = none) (len n : Nat)
    (hboundary : (((u.setPc p (u.nextPc p len)).slots p n).core p).boundary = []) :
    u.advance p len n = (u.setPc p (u.nextPc p len)).slots p n := by
  simp only [State.advance, hbr, State.takeBoundary, hboundary]

/-- The core past an ALU instruction, before its result and flags land in the slot that passes. -/
def PyCore.past (k : PyCore) (pc : Word) : PyCore :=
  { k with banks := modNth k.banks k.bank (fun x => { x with pc := pc }), slot := k.slot + 1, land := [] }

/-- The program counter of the executing bank is no part of what is in flight. -/
theorem nextPc_aluLeaves (hp : o.p < u.cores.length) (len : Nat) : (u.aluLeaves o b a).nextPc o.p len = u.nextPc o.p len := by
  simp only [State.nextPc, State.pcNow, State.bankOf, core_aluLeaves hp]

theorem mem_aluResult {k : PyCore} {l : Landing} (hl : l ∈ aluResult k o b a) : l = ⟨k.slot + 1, .g k.bank o.d, a.res⟩ := by
  unfold aluResult at hl
  split at hl
  · cases hl
  · exact List.mem_singleton.mp hl

theorem mem_aluFlags {k : PyCore} {l : Landing} (hl : l ∈ aluFlags k a) : l = ⟨k.slot + 1, .status k.bank a.mask, a.flags⟩ := by
  unfold aluFlags at hl
  split at hl
  · cases hl
  · exact List.mem_singleton.mp hl

/-- What an ALU instruction leaves in flight is due in the next slot, for Gd or STATUS of the executing bank. -/
theorem mem_aluLandings {k : PyCore} {l : Landing} (hl : l ∈ aluResult k o b a ++ aluFlags k a) :
    l.due = k.slot + 1 ∧ (l.dest = .g k.bank o.d ∨ l.dest = .status k.bank a.mask) := by
  rcases List.mem_append.mp hl with h | h
  · rw [mem_aluResult h]
    exact ⟨rfl, .inl rfl⟩
  · rw [mem_aluFlags h]
    exact ⟨rfl, .inr rfl⟩

/-- Where all that is in flight is due in the next slot, all of it lands in it. -/
theorem writes_ticked {k : PyCore} (hall : ∀ l ∈ k.land, l.due = k.slot + 1) :
    k.ticked.writes (k.land.filter (fun l => l.due = k.slot + 1)) = { k with slot := k.slot + 1, land := [] }.writes k.land := by
  have hlands : k.land.filter (fun l => l.due = k.slot + 1) = k.land :=
    List.filter_eq_self.mpr fun l hl => decide_eq_true (hall l hl)
  have hnone : k.land.filter (fun l => l.due ≠ k.slot + 1) = [] :=
    List.filter_eq_nil_iff.mpr fun l hl => by simp [hall l hl]
  rw [PyCore.ticked, hlands, hnone]

/-- The core after an ALU instruction with nothing else in flight (R264 to R266). -/
theorem core_aluDone (hp : o.p < u.cores.length) (hland : (u.core o.p).land = []) (pc : Word) :
    ∃ m d, (((u.aluLeaves o b a).setPc o.p pc).slots o.p 1).core o.p
      = { ((u.core o.p).past pc).writes (aluResult (u.core o.p) o b a ++ aluFlags (u.core o.p) a) with mthWas := m, detWas := d } := by
  have hcore := core_aluLeaves (b := b) (a := a) hp
  rw [hland, List.nil_append] at hcore
  have hlen : o.p < (u.aluLeaves o b a).cores.length := by
    unfold State.aluLeaves State.resultFlags
    split <;> split <;> simpa [State.resultG, State.result] using hp
  have hpc : ((u.aluLeaves o b a).setPc o.p pc).core o.p = { (u.aluLeaves o b a).core o.p with
      banks := modNth ((u.aluLeaves o b a).core o.p).banks ((u.aluLeaves o b a).core o.p).bank (fun x => { x with pc := pc }) } :=
    core_modCore_same hlen _
  obtain ⟨m, d, hslot⟩ := core_slot (s := (u.aluLeaves o b a).setPc o.p pc) (p := o.p)
    (by simpa [State.setPc, State.modBank] using hlen)
  refine ⟨m, d, hslot.trans ?_⟩
  rw [writes_ticked (by rw [hpc, hcore]; exact fun l hl => (mem_aluLandings hl).1), hpc, hcore]
  rfl

section
variable {k : PyCore} {ls : List Landing} {n r : Nat}

theorem writes_cons (k : PyCore) (l : Landing) (ls : List Landing) : k.writes (l :: ls) = (k.write l.dest l.val).writes ls := rfl

theorem writes_append (k : PyCore) (ls ms : List Landing) : k.writes (ls ++ ms) = (k.writes ls).writes ms := List.foldl_append

/-- Writes of G registers and of STATUS change the banks alone. -/
theorem writes_banks (hls : ∀ l ∈ ls, (∃ b r, l.dest = .g b r) ∨ ∃ b m, l.dest = .status b m) :
    ∃ ks, k.writes ls = { k with banks := ks } := by
  induction ls generalizing k with
  | nil => exact ⟨k.banks, rfl⟩
  | cons l ls ih =>
    obtain ⟨hl, hls⟩ := List.forall_mem_cons.mp hls
    obtain ⟨ks, hks⟩ := ih (k := k.write l.dest l.val) hls
    refine ⟨ks, (writes_cons k l ls).trans (hks.trans ?_)⟩
    obtain ⟨b, r, hd⟩ | ⟨b, m, hd⟩ := hl <;> rw [hd] <;> rfl

theorem greg_writes_ne (hls : ∀ l ∈ ls, l.dest ≠ .g n r) : (k.writes ls).greg n r = k.greg n r := by
  induction ls generalizing k with
  | nil => rfl
  | cons l ls ih =>
    obtain ⟨hl, hls⟩ := List.forall_mem_cons.mp hls
    exact (ih hls).trans (greg_write_ne hl _ _)

/-- The program counter of a bank is no destination of a result. -/
theorem pc_writes (k : PyCore) (ls : List Landing) (n : Nat) : (nth (k.writes ls).banks n {}).pc = (nth k.banks n {}).pc := by
  induction ls generalizing k with
  | nil => rfl
  | cons l ls ih =>
    rw [writes_cons, ih]
    cases l.dest with
    | g b r => exact nth_modNth_keeps (fun x : Bank => x.pc) (by exact fun _ => rfl) k.banks b n {}
    | status b m => exact nth_modNth_keeps (fun x : Bank => x.pc) (by exact fun _ => rfl) k.banks b n {}
    | prog b => exact nth_modNth_keeps (fun x : Bank => x.pc) (by exact fun _ => rfl) k.banks b n {}
    | f r => rfl
    | fpFlags => rfl
    | fpsr => rfl
    | sys n => rfl

end

section
variable {k : PyCore} {pc : Word}

/-- What the results of an ALU instruction make of the core past it. -/
def PyCore.aluDone (k : PyCore) (o : PyOp) (b : Nat) (a : Alu) (pc : Word) : PyCore :=
  (k.past pc).writes (aluResult k o b a ++ aluFlags k a)

theorem aluDone_banks : ∃ ks, k.aluDone o b a pc = { k.past pc with banks := ks } :=
  writes_banks fun _ hl => (mem_aluLandings hl).2.imp (fun h => ⟨_, _, h⟩) (fun h => ⟨_, _, h⟩)

theorem greg_past (n r : Nat) : (k.past pc).greg n r = k.greg n r :=
  nth_modNth_keeps (fun x : Bank => nth x.g r 0) (by exact fun _ => rfl) k.banks k.bank n {}

/-- Every G register but Gd of the executing bank keeps its value. -/
theorem greg_aluDone_ne {n r : Nat} (hne : n ≠ k.bank ∨ r ≠ o.d) : (k.aluDone o b a pc).greg n r = k.greg n r := by
  refine (greg_writes_ne fun l hl => ?_).trans (greg_past n r)
  rcases (mem_aluLandings hl).2 with h | h <;> rw [h]
  · rintro ⟨⟩
    simp at hne
  · rintro ⟨⟩

/-- Gd takes the result, except for CMP and TST. -/
theorem greg_aluDone (hbanks : k.banks.length = 16) (hg : ∀ x ∈ k.banks, x.g.length = 16) (hbank : k.bank < 16) (hd : o.d < 16) :
    (k.aluDone o b a pc).greg k.bank o.d = if b = 0x24 ∨ b = 0x28 then k.greg k.bank o.d else a.res := by
  have hflags : ∀ l ∈ aluFlags k a, l.dest ≠ .g k.bank o.d := fun l hl => by rw [mem_aluFlags hl]; rintro ⟨⟩
  rw [PyCore.aluDone, writes_append]
  refine (greg_writes_ne hflags).trans ?_
  unfold aluResult
  split
  · exact greg_past _ _
  · exact greg_write_same ((modNth_length _ _ _).trans hbanks) (forall_mem_modNth (by exact fun _ hx => hx) _ _ hg) hbank hd _

theorem flags_unmasked (w v : Word) : (w &&& ~~~(0 : Word)) ||| (v &&& 0) = w := by
  exact (congrArg₂ (· ||| ·) BitVec.and_allOnes BitVec.and_zero).trans BitVec.or_zero

/-- STATUS takes the flags and keeps its other bits. -/
theorem status_aluDone (hbank : k.bank < k.banks.length) : (nth (k.aluDone o b a pc).banks k.bank {}).status
    = ((nth k.banks k.bank {}).status &&& ~~~a.mask) ||| (a.flags &&& a.mask) := by
  have hpast : (nth (k.past pc).banks k.bank {}).status = (nth k.banks k.bank {}).status :=
    nth_modNth_keeps (fun x : Bank => x.status) (by exact fun _ => rfl) k.banks k.bank k.bank {}
  obtain ⟨x, hx⟩ : ∃ x, x = (k.past pc).writes (aluResult k o b a) := ⟨_, rfl⟩
  have hresult : (nth x.banks k.bank {}).status = (nth k.banks k.bank {}).status ∧ x.banks.length = k.banks.length := by
    rw [hx, ← hpast]
    unfold aluResult
    split
    · exact ⟨rfl, modNth_length _ _ _⟩
    · exact ⟨nth_modNth_keeps (fun x : Bank => x.status) (by exact fun _ => rfl) _ _ _ {},
        (modNth_length _ _ _).trans (modNth_length _ _ _)⟩
  obtain ⟨hstatus, hlen⟩ := hresult
  rw [PyCore.aluDone, writes_append, ← hx, ← hstatus]
  unfold aluFlags
  split
  · rename_i hmask
    rw [hmask, flags_unmasked]
    rfl
  · exact congrArg Bank.status (nth_modNth_same (by omega) _ _)

theorem pc_aluDone (hbank : k.bank < k.banks.length) : (nth (k.aluDone o b a pc).banks k.bank {}).pc = pc :=
  (pc_writes _ _ _).trans (congrArg Bank.pc (nth_modNth_same hbank _ _))

end
end

section
variable {s u : State} {o : PyOp} {i : Instr} {b c : Nat} {a : Alu}

/-- The core and Gd of an instruction that executes exist (R217, R241). -/
theorem p_d_lt_of_enters (hs : s.enters o c = true) : o.p < 6 ∧ o.d < 16 := by
  simp only [State.enters, State.reaches, PyOp.wf, Bool.and_eq_true, decide_eq_true_eq] at hs
  omega

/-- An ALU instruction goes on past itself and changes its own core alone, which becomes `PyCore.aluDone`. -/
theorem advance_aluLeaves (hp : o.p < u.cores.length) (hland : (u.core o.p).land = []) (hbr : (u.core o.p).br = none)
    (hboundary : (u.core o.p).boundary = []) (len : Nat) : OnlyCore o.p u ((u.aluLeaves o b a).advance o.p len 1)
      ∧ ∃ m d, ((u.aluLeaves o b a).advance o.p len 1).core o.p
        = { (u.core o.p).aluDone o b a (u.nextPc o.p len) with mthWas := m, detWas := d } := by
  have hleaves := core_aluLeaves (b := b) (a := a) hp
  obtain ⟨m, d, hcore⟩ := core_aluDone (b := b) (a := a) hp hland (u.nextPc o.p len)
  obtain ⟨ks, hks⟩ := aluDone_banks (k := u.core o.p) (o := o) (b := b) (a := a) (pc := u.nextPc o.p len)
  have hadvance : (u.aluLeaves o b a).advance o.p len 1 = ((u.aluLeaves o b a).setPc o.p (u.nextPc o.p len)).slots o.p 1 := by
    rw [advance_plain, nextPc_aluLeaves hp]
    · rw [hleaves]
      exact hbr
    · rw [nextPc_aluLeaves hp, hcore]
      exact (congrArg PyCore.boundary hks).trans hboundary
  rw [hadvance]
  refine ⟨(((OnlyCore.refl o.p u).aluLeaves b a).setPc _).slot fun l hl n hn => ?_, m, d, hcore⟩
  have hsame : (((u.aluLeaves o b a).setPc o.p (u.nextPc o.p len)).core o.p).land = ((u.aluLeaves o b a).core o.p).land :=
    nth_modNth_keeps (fun c : PyCore => c.land) (by exact fun _ => rfl) _ _ _ {}
  rw [hsame, hleaves, hland, List.nil_append] at hl
  rcases (mem_aluLandings hl).2 with h | h <;> rw [h] at hn <;> cases hn

end

/-- Settles O56: the instruction leaves its result and flags in flight and nothing else, so that in the slot that passes its core
becomes `PyCore.aluDone`. -/
theorem registerInstructionsTouchOnlyTheirDestination : Obligations.RegisterInstructionsTouchOnlyTheirDestination := by
  rintro s u o i b _ a x hrow rfl hs rfl hwin hrep hland hbr hboundary hcores hbanks hbank hg rfl rfl
  obtain ⟨hp, hd⟩ := p_d_lt_of_enters hs
  have hexec := exec_aluRow hs hwin hrow
  rw [rep_off hrep] at hexec
  generalize s.entered o (b + o.form) = u at *
  obtain ⟨y, hy⟩ : ∃ y, y = (u.aluLeaves o b (u.aluOf o b)).advance o.p (opLen o (b + o.form)) 1 := ⟨_, rfl⟩
  replace hexec : exec i s = .next (y.keep s) := by rw [hexec, hy]; rfl
  obtain ⟨honly, m, d, hcore⟩ := advance_aluLeaves (b := b) (a := u.aluOf o b) (hcores ▸ hp) hland hbr hboundary
    (opLen o (b + o.form))
  obtain ⟨ks, hks⟩ := aluDone_banks (k := u.core o.p) (o := o) (b := b) (a := u.aluOf o b)
    (pc := u.nextPc o.p (opLen o (b + o.form)))
  rw [← hy] at honly hcore
  obtain ⟨cs, hcs, helse⟩ := honly
  have hybanks : (y.core o.p).banks = ((u.core o.p).aluDone o b (u.aluOf o b) (u.nextPc o.p (opLen o (b + o.form)))).banks := by
    rw [hcore]
  rw [hks] at hcore
  have hybank : (y.core o.p).bank = (u.core o.p).bank := by rw [hcore]; rfl
  have hread (k r : Nat) : y.gReg o.p k r
      = ((u.core o.p).aluDone o b (u.aluOf o b) (u.nextPc o.p (opLen o (b + o.form)))).greg k r :=
    congrArg (fun ks : List Bank => nth (nth ks k {}).g r 0) hybanks
  refine ⟨y.keep s, hexec, by rw [hcs]; rfl, by rw [hcs]; rfl, by rw [hcs]; rfl, ?_, ?_, ?_, ?_, ?_, ?_, ?_, ?_, hybank⟩
  · intro q hq
    exact (congrArg (fun t : State => t.core q) hcs).trans (helse q hq)
  · exact fun k r hne => (hread k r).trans (greg_aluDone_ne hne)
  · exact (congrArg (fun n => y.gReg o.p n o.d) hybank).trans ((hread _ _).trans (greg_aluDone hbanks hg hbank hd))
  · exact (congrArg (fun n => (nth (y.core o.p).banks n {}).status) hybank).trans
      ((congrArg (fun ks : List Bank => (nth ks (u.core o.p).bank {}).status) hybanks).trans (status_aluDone (by omega)))
  · exact (congrArg (fun n => (nth (y.core o.p).banks n {}).pc) hybank).trans
      ((congrArg (fun ks : List Bank => (nth ks (u.core o.p).bank {}).pc) hybanks).trans (pc_aluDone (by omega)))
  · exact (congrArg PyCore.sb hcore).trans rfl
  · exact (congrArg PyCore.f hcore).trans rfl
  · exact (congrArg PyCore.fpsr hcore).trans rfl

end Sys2Proof.Machine

end

section
/-! PROOFS. Branches: the condition codes, the targets and the fields they leave 0 (R243, R251, R252). -/

namespace Sys2Proof.Machine
open Sys2Proof

section
variable {s u : State} {o : PyOp} {i : Instr} {base c nf : Nat}

/-- The condition codes below 15, code by code (R251). -/
theorem condHolds_eq (st : Word) {n z c v : Bool} (hn : n = wbit st 3) (hz : z = wbit st 2) (hc : c = wbit st 1)
    (hv : v = wbit st 0) {cc : Nat} (hcc : cc < 15) : condHolds st cc
      = nth [z, !z, c, !c, n, !n, v, !v, c && !z, !c || z, n == v, n != v, !z && n == v, z || n != v, true] cc false := by
  subst hn hz hc hv
  interval_cases cc <;> rfl

/-- What executes is legal where it stands (R243). -/
theorem fieldsOk_of_enters (hs : s.enters o c = true) : fieldsOk o c = true := by
  simp only [State.enters, State.reaches, legal, Bool.and_eq_true] at hs
  tauto

/-- The fields of a conditional branch: D is 0 and the condition code below 15 (R251). -/
theorem fieldsOk_bcc (hform : o.form < 3) : fieldsOk o (0x80 + o.form) = (o.d == 0 && decide (o.s < 15)) := by
  interval_cases o.form <;> rfl

/-- JMP and CALLR leave D 0 (R251). -/
theorem fieldsOk_jmp (hc : c = 0x85 ∨ c = 0x86) : fieldsOk o c = (o.d == 0) := by
  rcases hc with rfl | rfl <;> rfl

/-- An instruction that is fetched and whose fields are illegal raises the illegal-instruction exception (R243). -/
theorem pyRun_illegal {body : Nat → State → PyRes} (hform : o.form < nf) (hc : c = base + o.form) (ha : s.alive = true)
    (hw : o.wf = true) (hfits : opFits o c = true) (hissue : s.issuing o.p = true) (hload : (s.core o.p).pload = none)
    (hwaits : s.fetchWaits o.p (opLen o c) = false) (hfetch : (s.fetch o.p (opLen o c)).1 = 0)
    (hu : u = (s.fetch o.p (opLen o c)).2.2) (hbad : fieldsOk o c = false) :
    pyRun o.wf o base nf s body = .next ((u.takeException o.p 1 3 0 (u.pcNow o.p)).keep s) := by
  subst hc
  obtain ⟨a, hpair⟩ : ∃ a, s.fetch o.p (opLen o (base + o.form)) = (0, a, u) := ⟨_, by rw [hu, ← hfetch]⟩
  have hillegal : legal o (base + o.form) (u.core o.p).br.isSome = false := by simp [legal, hbad]
  rw [pyRun, runs_eq hw ha, if_pos (by simp [hform, hfits])]
  unfold State.issue
  simp only [hissue, finishLoad_none hload, hwaits, hpair, hillegal, Bool.not_true, Bool.not_false, Bool.false_eq_true, if_false,
    if_true]
  rfl

/-- The branches of one code that are always taken; CALL and CALLR write the link (R251; log entry 56). -/
theorem exec_branchOne {t : Word} (hform : o.form = 0) (hs : s.enters o c = true) (hu : u = s.entered o c)
    (hrow : (i, c, t) ∈ [(.call o, 0x84, u.nextPc o.p (opLen o c) + wordOf o.disp), (.jmp o, 0x85, u.gNow o.p o.s),
      (.callr o, 0x86, u.gNow o.p o.s), (.ret o, 0x87, u.gNow o.p 14)]) :
    exec i s = .next (((PyRes.jump (some t) (if c = 0x84 ∨ c = 0x86 then u.resultG o.p 1 14 (u.linkAddr o.p (opLen o c)) else u)).finish
      o.p (opLen o c)).keep s) := by
  subst hu
  simp only [List.mem_cons, Prod.mk.injEq, List.not_mem_nil, or_false] at hrow
  obtain ⟨rfl, rfl, rfl⟩ | ⟨rfl, rfl, rfl⟩ | ⟨rfl, rfl, rfl⟩ | ⟨rfl, rfl, rfl⟩ := hrow
  · exact (exec_call o s).trans (row_next hform hs rfl)
  · exact (exec_jmp o s).trans (row_next hform hs rfl)
  · exact (exec_callr o s).trans (row_next hform hs rfl)
  · exact (exec_ret o s).trans (row_next hform hs rfl)

end

/-- Settles O47: what executes has legal fields, and is then a row of `exec_branchRow` or `exec_branchOne`; with illegal fields it does not execute. -/
theorem branchesAndTheirTargets : Obligations.BranchesAndTheirTargets := by
  refine ⟨?_, ?_, ?_, ?_⟩
  · rintro s u o n z c v _ rfl hform hs rfl hn hz hc hv
    have hfields := fieldsOk_of_enters hs
    rw [fieldsOk_bcc hform, Bool.and_eq_true, beq_iff_eq, decide_eq_true_eq] at hfields
    obtain ⟨hd, hcode⟩ := hfields
    refine ⟨hd, hcode, ?_⟩
    rw [← condHolds_eq _ hn hz hc hv hcode]
    exact exec_branchRow hs rfl hform (by simp)
  · rintro s u o i c hrow hform hjmp ha hw hfits hissue hload hwaits hfetch hu hbad
    simp only [List.mem_cons, Prod.mk.injEq, List.not_mem_nil, or_false] at hrow
    obtain ⟨rfl, rfl⟩ | ⟨rfl, rfl⟩ | ⟨rfl, rfl⟩ := hrow
    · have hfields : fieldsOk o (0x80 + o.form) = false := by
        rw [fieldsOk_bcc hform, Bool.and_eq_false_iff, beq_eq_false_iff_ne, decide_eq_false_iff_not]
        omega
      exact (exec_bcc o s).trans (pyRun_illegal hform rfl ha hw hfits hissue hload hwaits hfetch hu hfields)
    · have hfields : fieldsOk o 0x85 = false := by
        rw [fieldsOk_jmp (.inl rfl), beq_eq_false_iff_ne]
        omega
      have hzero := hjmp (.inl rfl)
      exact (exec_jmp o s).trans (pyRun_illegal (by omega) (by omega) ha hw hfits hissue hload hwaits hfetch hu hfields)
    · have hfields : fieldsOk o 0x86 = false := by
        rw [fieldsOk_jmp (.inr rfl), beq_eq_false_iff_ne]
        omega
      have hzero := hjmp (.inr rfl)
      exact (exec_callr o s).trans (pyRun_illegal (by omega) (by omega) ha hw hfits hissue hload hwaits hfetch hu hfields)
  · rintro s u o i a b c bs t hform hs rfl rfl rfl rfl hrow
    exact ⟨_, exec_branchOne hform hs rfl hrow, rfl⟩
  · rintro s u x o c g rfl hform hs rfl rfl rfl
    exact exec_branchRow hs rfl hform (by simp)

end Sys2Proof.Machine

end

section
/-! PROOFS. The bytes of a Pyhorn instruction and back (R241, R242, R244, R247, R248). -/

namespace Sys2Proof.Machine
open Sys2Proof

section
variable {x y : Pfx} {bs rest : List Byte} {c n : Nat} {o : PyOp}

/-- The bytes that stand before an opcode (R242). -/
abbrev IsPfx (b : Byte) : Prop := 0xE0 ≤ b.toNat ∧ b.toNat ≤ 0xE5

theorem takePfx_plain {b : Byte} (hb : ¬ IsPfx b) : takePfx x (b :: bs) = some (x, b :: bs) := if_neg hb

theorem takePfx_cons {b : Byte} (hb : IsPfx b) (hadd : addPfx x b.toNat = some y) : takePfx x (b :: bs) = takePfx y bs := by
  rw [takePfx, if_pos hb, hadd]

/-- One that may be there is read into the flag it stands for. -/
theorem takePfx_opt {b : Byte} {f : Bool} (hb : IsPfx b) (hoff : f = false → x = y)
    (hon : f = true → addPfx x b.toNat = some y) : takePfx x ((if f then [b] else []) ++ bs) = takePfx y bs := by
  cases f with
  | false => rw [hoff rfl]; rfl
  | true => exact takePfx_cons hb (hon rfl)

/-- All of them together give the flags back (R242). -/
theorem takePfx_pfxBytes (x : Pfx) {b : Byte} (hb : ¬ IsPfx b) : takePfx {} (pfxBytes x ++ b :: bs) = some (x, b :: bs) := by
  obtain ⟨win, sat, rep, bitx, atom, det⟩ := x
  simp only [pfxBytes, List.append_assoc]
  rw [takePfx_opt (y := ⟨win, false, false, false, false, false⟩) (by decide) (by rintro rfl; rfl) (by rintro rfl; rfl),
    takePfx_opt (y := ⟨win, sat, false, false, false, false⟩) (by decide) (by rintro rfl; rfl) (by rintro rfl; rfl),
    takePfx_opt (y := ⟨win, sat, rep, false, false, false⟩) (by decide) (by rintro rfl; rfl) (by rintro rfl; rfl),
    takePfx_opt (y := ⟨win, sat, rep, bitx, false, false⟩) (by decide) (by rintro rfl; rfl) (by rintro rfl; rfl),
    takePfx_opt (y := ⟨win, sat, rep, bitx, atom, false⟩) (by decide) (by rintro rfl; rfl) (by rintro rfl; rfl),
    takePfx_opt (y := ⟨win, sat, rep, bitx, atom, det⟩) (by decide) (by rintro rfl; rfl) (by rintro rfl; rfl),
    takePfx_plain hb]

theorem pfxBytes_length (x : Pfx) : (pfxBytes x).length = pfxCount x := by
  have hopt (f : Bool) (b : Byte) : (if f then [b] else []).length = b2n f := by cases f <;> rfl
  simp only [pfxBytes, pfxCount, List.length_append, hopt]

/-- The bytes of a defined opcode (R244, R248). -/
def codeBytes (c : Nat) : List Byte := if 0x100 ≤ c then [0xF0, BitVec.ofNat 8 (c - 0x100)] else [BitVec.ofNat 8 c]

/-- The opcodes that are defined are no prefixes and not the page byte (R242, R244, R248). -/
theorem codeOk_range (hc : codeOk c = true) : c < 0x107 ∧ ¬ (0xE0 ≤ c ∧ c ≤ 0xE5) ∧ c ≠ 0xF0 := by
  simp only [codeOk, Bool.or_eq_true, Bool.and_eq_true, decide_eq_true_eq, List.contains_eq_mem, List.mem_cons,
    List.not_mem_nil, or_false] at hc
  omega

/-- The opcode bytes start with none of them, and give the opcode back. -/
theorem takeCode_codeBytes (hc : codeOk c = true) (bs : List Byte) :
    takeCode (codeBytes c ++ bs) = some (c, bs) ∧ ∃ b cs, codeBytes c = b :: cs ∧ ¬ IsPfx b := by
  obtain ⟨hlt, hpfx, hpage⟩ := codeOk_range hc
  unfold codeBytes
  split
  · have hbyte : (BitVec.ofNat 8 (c - 0x100)).toNat = c - 0x100 := by
      rw [BitVec.toNat_ofNat]
      omega
    refine ⟨?_, _, _, rfl, by decide⟩
    simp only [List.cons_append, List.nil_append, takeCode, hbyte]
    rw [if_pos (by decide), Nat.add_sub_cancel' (by omega)]
  · have hbyte : (BitVec.ofNat 8 c).toNat = c := by
      rw [BitVec.toNat_ofNat]
      omega
    refine ⟨?_, _, _, rfl, by rwa [IsPfx, hbyte]⟩
    simp only [List.cons_append, List.nil_append, takeCode, hbyte, if_neg hpage]

/-- The opcode ends the prefixes. -/
theorem takePfx_codeBytes (x : Pfx) (hc : codeOk c = true) (bs : List Byte) :
    takePfx {} (pfxBytes x ++ (codeBytes c ++ bs)) = some (x, codeBytes c ++ bs) := by
  obtain ⟨-, b, cs, hbytes, hb⟩ := takeCode_codeBytes hc bs
  rw [hbytes]
  exact takePfx_pfxBytes x hb

theorem codeBytes_length (c : Nat) : (codeBytes c).length = if 0x100 ≤ c then 2 else 1 := by
  unfold codeBytes
  split <;> rfl

theorem takeBytes_append (hn : bs.length = n) (rest : List Byte) : takeBytes n (bs ++ rest) = some (bs, rest) := by
  subst hn
  induction bs with
  | nil => rfl
  | cons b bs ih => simp [takeBytes, ih]

theorem ofLe_intBytes (n : Nat) (v : Int) : ofLe (intBytes n v) = wrapN (8 * n) v := by
  have hpos : (0 : Int) < ((2 ^ (8 * n) : Nat) : Int) := by positivity
  have hlt : wrapN (8 * n) v < 2 ^ (8 * n) := by
    have := Int.emod_lt_of_pos v hpos
    unfold wrapN
    omega
  rw [intBytes, ofLe_leBytes, show 256 ^ n = 2 ^ (8 * n) by rw [pow_mul]; rfl, Nat.mod_eq_of_lt hlt]

/-- A signed number that fits `n` bytes is read back from them (R241). -/
theorem intOf_signed {v : Int} (hv : fitsS n v = true) : intOf true n (intBytes n v) = v := by
  unfold fitsS at hv
  unfold intOf
  rw [if_pos rfl, ofLe_intBytes]
  split at hv
  next hn =>
    rw [if_pos hn]
    exact (beq_iff_eq.mp hv).symm
  next hn =>
    rw [if_neg hn]
    obtain ⟨hlo, hhi⟩ := (Bool.and_eq_true _ _).mp hv
    exact sext_wrapN (by omega) (of_decide_eq_true hlo) (of_decide_eq_true hhi)

/-- So is an unsigned one. -/
theorem intOf_unsigned {v : Int} (hv : fitsU n v = true) : intOf false n (intBytes n v) = v := by
  obtain ⟨hlo, hhi⟩ := (Bool.and_eq_true _ _).mp hv
  unfold intOf
  rw [if_neg Bool.false_ne_true, ofLe_intBytes, wrapN, Int.emod_eq_of_lt (of_decide_eq_true hlo)
    (by push_cast; exact of_decide_eq_true hhi), Int.toNat_of_nonneg (of_decide_eq_true hlo)]

/-- Two register fields in a byte (R241); 0 where the byte is not there. -/
def pairBytes (there : Bool) (hi lo : Nat) : List Byte := if there then [BitVec.ofNat 8 (hi * 16 + lo)] else []

theorem ofLe_pairBytes {there : Bool} {hi lo : Nat} (hhi : hi < 16) (hlo : lo < 16)
    (hzero : (there || (hi == 0 && lo == 0)) = true) : ofLe (pairBytes there hi lo) = hi * 16 + lo := by
  cases there with
  | true =>
    simp only [pairBytes, if_true, ofLe, BitVec.toNat_ofNat]
    omega
  | false =>
    simp only [Bool.false_or, Bool.and_eq_true, beq_iff_eq] at hzero
    rw [hzero.1, hzero.2]
    rfl

theorem pairBytes_length (there : Bool) (hi lo : Nat) : (pairBytes there hi lo).length = b2n there := by
  cases there <;> rfl

theorem intBytes_length (n : Nat) (v : Int) : (intBytes n v).length = n := leBytes_length _ _

/-- The bytes of an instruction, part by part (R241). -/
theorem encodePy_eq (c : Nat) (o : PyOp) : encodePy c o = pfxBytes o.pfx ++ (codeBytes c ++ (pairBytes (layoutOf c).m o.d o.s
    ++ (intBytes (layoutOf c).disp o.disp ++ (pairBytes (layoutOf c).t o.t o.n ++ intBytes (layoutOf c).imm o.imm)))) := by
  simp only [encodePy, codeBytes, pairBytes, List.append_assoc]

end

/-- Settles O41: the decoder takes the parts off one by one, as the encoder put them together. -/
theorem instructionCodecAgrees : Obligations.InstructionCodecAgrees := by
  rintro c o rest hc hfits hpfx hd hs ht hn hform hp hstop
  obtain ⟨hds, htn, hdisp, himm⟩ : ((layoutOf c).m || (o.d == 0 && o.s == 0)) = true ∧ ((layoutOf c).t || (o.t == 0 && o.n == 0)) = true
      ∧ fitsS (layoutOf c).disp o.disp = true
      ∧ (if immSigned c then fitsS (layoutOf c).imm o.imm else fitsU (layoutOf c).imm o.imm) = true := by
    simpa only [opFits, Bool.and_eq_true, and_assoc] using hfits
  refine ⟨?_, ?_⟩
  · have hfields : ofLe (pairBytes (layoutOf c).m o.d o.s) = o.d * 16 + o.s := ofLe_pairBytes hd hs hds
    have hcounts : ofLe (pairBytes (layoutOf c).t o.t o.n) = o.t * 16 + o.n := ofLe_pairBytes ht hn htn
    have himmOf : intOf (immSigned c) (layoutOf c).imm (intBytes (layoutOf c).imm o.imm) = o.imm := by
      cases hsg : immSigned c <;> rw [hsg] at himm
      · exact intOf_unsigned himm
      · exact intOf_signed himm
    rw [encodePy_eq]
    simp only [List.append_assoc]
    unfold decodePy
    simp only [takePfx_codeBytes o.pfx hc, if_neg (Nat.not_lt.mpr hpfx), (takeCode_codeBytes hc _).1, hc, Bool.not_true,
      Bool.false_eq_true, if_false, takeBytes_append (pairBytes_length _ _ _), takeBytes_append (intBytes_length _ _),
      hfields, hcounts, intOf_signed hdisp, himmOf, ← hform]
    rw [show (o.d * 16 + o.s) / 16 = o.d by omega, show (o.d * 16 + o.s) % 16 = o.s by omega,
      show (o.t * 16 + o.n) / 16 = o.t by omega, show (o.t * 16 + o.n) % 16 = o.n by omega]
    rw [← hp, ← hstop]
  · rw [encodePy_eq]
    simp only [List.length_append, pfxBytes_length, codeBytes_length, pairBytes_length, intBytes_length, opLen]
    omega

/-- Settles O42: each byte string is decoded by the model's own decoder. -/
theorem instructionWordsDecode : Obligations.InstructionWordsDecode := by
  unfold Obligations.InstructionWordsDecode
  refine ⟨?_, ?_, ?_, ?_, ?_, ?_, ?_, ?_, ?_, ?_, ?_, ?_, ?_, ?_, ?_, ?_, ?_⟩
  all_goals decide

end Sys2Proof.Machine

end

section
/-! PROOFS. Words as numbers, and the division instructions at their corners (R226, R255, R257). -/

namespace Sys2Proof.Machine
open Sys2Proof

section
variable {a b : Word}

/-- The signed reading of a pattern is its two's-complement value. -/
theorem sext_toNat {n : Nat} (hn : 0 < n) (x : BitVec n) : sext n x.toNat = x.toInt := by
  have hhalf : 2 ^ n = 2 * 2 ^ (n - 1) := by rw [← pow_succ', Nat.sub_add_cancel hn]
  unfold sext
  rw [Nat.mod_eq_of_lt x.isLt, BitVec.toInt_eq_toNat_cond]
  exact if_congr (by omega) rfl rfl

theorem sword_eq (a : Word) : sword a = a.toInt := sext_toNat (by decide) a

theorem ofNat_wrapN (n : Nat) (x : Int) : BitVec.ofNat n (wrapN n x) = BitVec.ofInt n x := by
  apply BitVec.eq_of_toNat_eq
  have hlt : wrapN n x < 2 ^ n := by
    have := Int.emod_lt_of_pos x (show (0 : Int) < ((2 ^ n : Nat) : Int) by positivity)
    unfold wrapN
    omega
  rw [BitVec.toNat_ofNat, Nat.mod_eq_of_lt hlt, BitVec.toNat_ofInt, wrapN]

theorem wordOf_eq (x : Int) : wordOf x = BitVec.ofInt 32 x := ofNat_wrapN 32 x

theorem floorDiv_eq (x : Int) (n : Nat) : floorDiv x ((2 ^ n : Nat) : Int) = x / 2 ^ n := by
  rw [floorDiv, Int.fdiv_eq_ediv_of_nonneg _ (by positivity)]
  push_cast
  rfl

/-- A bit of a number is its bit (R220). -/
theorem nbit_eq (v i : Nat) : nbit v i = v.testBit i := by
  rw [nbit, Nat.testBit_eq_decide_div_mod_eq]
  rfl

theorem wbit_top (w : Word) : wbit w 31 = w.msb := by
  rw [wbit_eq_getLsbD, BitVec.msb_eq_getLsbD_last]

/-- DIV by no zero is the truncating signed quotient (R257). -/
theorem divOf_eq (hb : b ≠ 0) : divOf a b = a.sdiv b := by
  rw [divOf, if_neg hb, wordOf_eq, sword_eq, sword_eq]
  apply BitVec.eq_of_toInt_eq
  rw [BitVec.toInt_ofInt, BitVec.toInt_sdiv]

/-- REM by no zero is the remainder with the sign of the dividend (R257). -/
theorem remOf_eq (hb : b ≠ 0) : remOf a b = a.srem b := by
  rw [remOf, if_neg hb, wordOf_eq, sword_eq, sword_eq, ← BitVec.toInt_srem, BitVec.ofInt_toInt]

end

/-- Settles O43: the division instructions are the quotients and remainders of the library where the divisor is not 0. -/
theorem divisionCorners : Obligations.DivisionCorners := by
  refine ⟨fun a => ⟨rfl, rfl, rfl, fun ha => ?_, fun ha => ?_⟩, by decide, by decide, fun a b hb => ⟨?_, ?_⟩, fun a b hb hcorner => ⟨?_, ?_⟩⟩
  · rw [divOf, if_pos rfl, ha]
    rfl
  · rw [divOf, if_pos rfl, ha]
    rfl
  · rw [divuOf, if_neg hb, BitVec.toNat_ofNat, Nat.mod_eq_of_lt (Nat.lt_of_le_of_lt (Nat.div_le_self _ _) a.isLt)]
  · rw [remuOf, if_neg hb, BitVec.toNat_ofNat, Nat.mod_eq_of_lt (Nat.lt_of_le_of_lt (Nat.mod_le _ _) a.isLt)]
  · rw [divOf_eq hb, BitVec.toInt_sdiv_of_ne_or_ne a b hcorner]
  · rw [remOf_eq hb, BitVec.toInt_srem]

end Sys2Proof.Machine

end

section
/-! PROOFS. What the ALU, multiply and bit-field operations compute (R226, R245, R246, R261). -/

namespace Sys2Proof.Machine
open Sys2Proof

section
variable {a b r w d : Word} {c : Option Bool} {v q sat : Bool} {n : Nat} {x : Int}

/-- The flags of a result, bit by bit (R220). -/
theorem aluOut_flags (r : Word) (c : Option Bool) (v q : Bool) : wbit (aluOut r c v q).flags 3 = wbit r 31
    ∧ wbit (aluOut r c v q).flags 2 = (r == 0) ∧ wbit (aluOut r c v q).flags 1 = c.getD false ∧ wbit (aluOut r c v q).flags 0 = v
    ∧ wbit (aluOut r c v q).flags 4 = q := by
  have hall : ∀ n z c v q : Bool, let w := flagIf n stN ||| flagIf z stZ ||| flagIf c stC ||| flagIf v stV ||| flagIf q stQ
      wbit w 3 = n ∧ wbit w 2 = z ∧ wbit w 1 = c ∧ wbit w 0 = v ∧ wbit w 4 = q := by decide
  exact hall _ _ _ _ _

@[simp] theorem aluOut_n : wbit (aluOut r c v q).flags 3 = wbit r 31 := (aluOut_flags r c v q).1

@[simp] theorem aluOut_z : wbit (aluOut r c v q).flags 2 = true ↔ r = 0 := by
  rw [(aluOut_flags r c v q).2.1, beq_iff_eq]

@[simp] theorem aluOut_c : wbit (aluOut r c v q).flags 1 = c.getD false := (aluOut_flags r c v q).2.2.1

@[simp] theorem aluOut_v : wbit (aluOut r c v q).flags 0 = v := (aluOut_flags r c v q).2.2.2.1

@[simp] theorem aluOut_q : wbit (aluOut r c v q).flags 4 = q := (aluOut_flags r c v q).2.2.2.2

/-- The bits a result writes: N, Z and V, C where it is given, Q where it sets (R220). -/
theorem aluOut_mask (r : Word) (c : Option Bool) (v q : Bool) :
    (aluOut r c v q).mask = (if c.isSome then 0xF else 0xD) + (if q then 0x10 else 0) := by
  have hall : ∀ c q : Bool, stN ||| stZ ||| stV ||| flagIf c stC ||| flagIf q stQ
      = (if c then 0xF else 0xD) + (if q then 0x10 else 0) := by decide
  exact hall _ _

/-- A sum or difference of value `x` with carry `c` (R245, R261). -/
def aluSum (sat : Bool) (x : Int) (c : Bool) : Alu := aluOut (satWord sat x) (some c) (!fits32 x) (sat && !fits32 x)

theorem aluAdd_eq (sat : Bool) (a b : Word) (cin : Bool) : aluAdd sat a b cin
    = aluSum sat (a.toInt + b.toInt + (if cin then 1 else 0)) (decide (2 ^ 32 ≤ a.toNat + b.toNat + (if cin then 1 else 0))) := by
  rw [aluAdd, sword_eq, sword_eq]
  cases cin <;> rfl

theorem aluSub_eq (sat : Bool) (a b : Word) (cin : Bool) : aluSub sat a b cin
    = aluSum sat (a.toInt - b.toInt - (if cin then 0 else 1)) (decide (b.toNat + (if cin then 0 else 1) ≤ a.toNat)) := by
  rw [aluSub, sword_eq, sword_eq]
  cases cin <;> rfl

theorem fits32_iff : fits32 x = true ↔ -2 ^ 31 ≤ x ∧ x < 2 ^ 31 := by
  simp only [fits32, Bool.and_eq_true, decide_eq_true_eq]
  omega

theorem fits32_false : fits32 x = false ↔ x < -2 ^ 31 ∨ 2 ^ 31 ≤ x := by
  rw [← Bool.not_eq_true, fits32_iff]
  omega

theorem satWord_wraps (x : Int) : satWord false x = BitVec.ofInt 32 x := wordOf_eq x

/-- SAT leaves a value that fits as it is (R261). -/
theorem satWord_fits (hx : fits32 x = true) (sat : Bool) : satWord sat x = BitVec.ofInt 32 x := by
  rw [fits32_iff] at hx
  rw [satWord, wordOf_eq]
  cases sat
  · rfl
  · rw [if_pos rfl, clampI, if_neg (by omega), if_neg (by omega)]

/-- SAT clamps a value above the range to the largest word (R261). -/
theorem satWord_high (hx : 2 ^ 31 ≤ x) : satWord true x = 0x7FFFFFFF := by
  rw [satWord, if_pos rfl, clampI, if_neg (by omega), if_pos (by omega)]
  decide

/-- And one below it to the smallest. -/
theorem satWord_low (hx : x < -2 ^ 31) : satWord true x = 0x80000000 := by
  rw [satWord, if_pos rfl, clampI, if_pos (by omega)]
  decide

/-- The flags of a sum or difference (R245). -/
theorem aluSum_flags (x : Int) (c : Bool) : (aluSum false x c).mask = 0xF
    ∧ wbit (aluSum false x c).flags 3 = wbit (aluSum false x c).res 31
    ∧ (wbit (aluSum false x c).flags 2 = true ↔ (aluSum false x c).res = 0) ∧ wbit (aluSum false x c).flags 1 = c
    ∧ (wbit (aluSum false x c).flags 0 = true ↔ (x < -2 ^ 31 ∨ 2 ^ 31 ≤ x)) := by
  refine ⟨aluOut_mask _ _ _ _, aluOut_n, aluOut_z, aluOut_c, ?_⟩
  rw [aluSum, aluOut_v, Bool.not_eq_true', fits32_false]

/-- SAT changes a sum or difference only where it overflows, and there it clamps it and sets Q (R261). -/
theorem aluSum_sat (x : Int) (c : Bool) : (-2 ^ 31 ≤ x → x < 2 ^ 31 → aluSum true x c = aluSum false x c)
    ∧ (2 ^ 31 ≤ x → (aluSum true x c).res = 0x7FFFFFFF) ∧ (x < -2 ^ 31 → (aluSum true x c).res = 0x80000000)
    ∧ (x < -2 ^ 31 ∨ 2 ^ 31 ≤ x → (aluSum true x c).mask = 0x1F ∧ wbit (aluSum true x c).flags 4 = true
      ∧ wbit (aluSum true x c).flags 0 = true ∧ wbit (aluSum true x c).flags 3 = wbit (aluSum true x c).res 31
      ∧ wbit (aluSum true x c).flags 2 = false ∧ wbit (aluSum true x c).flags 1 = wbit (aluSum false x c).flags 1) := by
  refine ⟨fun hlo hhi => ?_, fun hx => satWord_high hx, fun hx => satWord_low hx, fun hx => ?_⟩
  · have hfits : fits32 x = true := fits32_iff.mpr ⟨hlo, hhi⟩
    rw [aluSum, aluSum, satWord_fits hfits, satWord_fits hfits, hfits]
    rfl
  · have hover : fits32 x = false := fits32_false.mpr hx
    have hres : satWord true x ≠ 0 := by
      rcases hx with hx | hx
      · rw [satWord_low hx]
        decide
      · rw [satWord_high hx]
        decide
    have hz : wbit (aluSum true x c).flags 2 = false := by
      rw [← Bool.not_eq_true, aluSum, aluOut_z]
      exact hres
    refine ⟨?_, ?_, ?_, aluOut_n, hz, ?_⟩
    · rw [aluSum, aluOut_mask, hover]
      rfl
    · rw [aluSum, aluOut_q, hover]
      rfl
    · rw [aluSum, aluOut_v, hover]
      rfl
    · rw [aluSum, aluSum, aluOut_c, aluOut_c]

theorem ofInt_add_ite (a b : Word) (cin : Bool) :
    BitVec.ofInt 32 (a.toInt + b.toInt + (if cin then 1 else 0)) = a + b + (if cin then 1 else 0) := by
  rw [BitVec.ofInt_add, BitVec.ofInt_add, BitVec.ofInt_toInt, BitVec.ofInt_toInt]
  cases cin <;> rfl

theorem ofInt_sub_ite (a b : Word) (cin : Bool) :
    BitVec.ofInt 32 (a.toInt - b.toInt - (if cin then 0 else 1)) = a - b - (if cin then 0 else 1) := by
  rw [Int.sub_eq_add_neg, Int.sub_eq_add_neg, BitVec.ofInt_add, BitVec.ofInt_add, BitVec.ofInt_neg, BitVec.ofInt_toInt,
    BitVec.ofInt_toInt, BitVec.sub_eq_add_neg, BitVec.sub_eq_add_neg]
  cases cin <;> rfl

/-- The value of SHL is the shifted word, whatever the count (R245). -/
theorem ofInt_shl (a : Word) (n : Nat) : BitVec.ofInt 32 (a.toInt * (2 ^ n : Nat)) = a <<< n := by
  rw [BitVec.ofInt_mul, BitVec.ofInt_toInt, BitVec.shiftLeft_eq_mul_twoPow, BitVec.ofInt_natCast]
  congr 1
  apply BitVec.eq_of_toNat_eq
  rw [BitVec.toNat_ofNat, BitVec.toNat_twoPow]

theorem ofNat_shr (a : Word) (n : Nat) : BitVec.ofNat 32 (a.toNat / 2 ^ n) = a >>> n := by
  apply BitVec.eq_of_toNat_eq
  rw [BitVec.toNat_ofNat, Nat.mod_eq_of_lt (Nat.lt_of_le_of_lt (Nat.div_le_self _ _) a.isLt), BitVec.toNat_ushiftRight,
    Nat.shiftRight_eq_div_pow]

theorem wordOf_sar (a : Word) (n : Nat) : wordOf (floorDiv (sword a) (2 ^ n : Nat)) = a.sshiftRight n := by
  rw [wordOf_eq, floorDiv_eq, sword_eq, BitVec.sshiftRight, Int.shiftRight_eq_div_pow]
  push_cast
  rfl

/-- ROR is the rotation of the library (R245). -/
theorem ofNat_ror (a : Word) (n : Nat) :
    BitVec.ofNat 32 (a.toNat / 2 ^ (n % 32) + a.toNat % 2 ^ (n % 32) * 2 ^ (32 - n % 32)) = a.rotateRight n := by
  have hk : n % 32 < 32 := Nat.mod_lt _ (by decide)
  generalize hkn : n % 32 = k at *
  have hsplit : 2 ^ 32 = 2 ^ k * 2 ^ (32 - k) := by rw [← pow_add, Nat.add_sub_cancel' hk.le]
  have hlow : a.toNat / 2 ^ k < 2 ^ (32 - k) := Nat.div_lt_of_lt_mul (by rw [← hsplit]; exact a.isLt)
  have hshift : a.toNat <<< (32 - k) % 2 ^ 32 = a.toNat % 2 ^ k * 2 ^ (32 - k) := by
    rw [Nat.shiftLeft_eq, hsplit, Nat.mul_mod_mul_right]
  apply BitVec.eq_of_toNat_eq
  rw [BitVec.toNat_rotateRight, hkn, hshift, Nat.shiftRight_eq_div_pow, Nat.or_comm, Nat.mul_comm (a.toNat % 2 ^ k),
    ← Nat.two_pow_add_eq_or_of_lt hlow, BitVec.toNat_ofNat, Nat.add_comm, Nat.mod_eq_of_lt]
  calc 2 ^ (32 - k) * (a.toNat % 2 ^ k) + a.toNat / 2 ^ k
      < 2 ^ (32 - k) * (a.toNat % 2 ^ k) + 2 ^ (32 - k) := Nat.add_lt_add_left hlow _
    _ = 2 ^ (32 - k) * (a.toNat % 2 ^ k + 1) := rfl
    _ ≤ 2 ^ (32 - k) * 2 ^ k := Nat.mul_le_mul_left _ (Nat.mod_lt _ (Nat.two_pow_pos k))
    _ = 2 ^ 32 := by rw [Nat.mul_comm, ← hsplit]

/-- A shift by 32 or more leaves nothing of the word (R245). -/
theorem shl_large (hn : ¬ n < 32) (a : Word) : a <<< n = 0 := BitVec.shiftLeft_eq_zero (by omega)

theorem shr_large (hn : ¬ n < 32) (a : Word) : a >>> n = 0 := BitVec.ushiftRight_eq_zero (by omega)

/-- Of an arithmetic shift only the sign is left. -/
theorem sar_large (hn : ¬ n < 32) (a : Word) : a.sshiftRight n = if wbit a 31 then 0xFFFFFFFF else 0 := by
  rw [wbit_top]
  apply BitVec.eq_of_getLsbD_eq
  intro i hi
  rw [BitVec.getLsbD_sshiftRight, if_neg (by omega)]
  cases a.msb
  · simp
  · rw [if_pos rfl, show (0xFFFFFFFF : Word) = BitVec.allOnes 32 from rfl, BitVec.getLsbD_allOnes]
    simp [hi]

/-- A bit beyond a word is 0. -/
theorem wbit_beyond (a : Word) (hn : 32 ≤ n) : wbit a n = false := by
  rw [wbit_eq_getLsbD, BitVec.getLsbD_of_ge _ _ hn]

/-- The flags of a shift: C only where the count is not 0, V never (R245). -/
theorem aluOut_shift (r : Word) (n : Nat) (k : Bool) : (aluOut r (shiftC n k) false false).mask = (if n = 0 then 0xD else 0xF)
    ∧ wbit (aluOut r (shiftC n k) false false).flags 0 = false
    ∧ wbit (aluOut r (shiftC n k) false false).flags 3 = wbit (aluOut r (shiftC n k) false false).res 31
    ∧ (wbit (aluOut r (shiftC n k) false false).flags 2 = true ↔ (aluOut r (shiftC n k) false false).res = 0) := by
  refine ⟨?_, aluOut_v, aluOut_n, aluOut_z⟩
  rw [aluOut_mask, shiftC]
  split
  · rfl
  · rfl

theorem aluOut_shiftC (hn : 1 ≤ n) (k : Bool) : wbit (aluOut r (shiftC n k) v q).flags 1 = k := by
  rw [aluOut_c, shiftC, if_neg (by omega)]
  rfl

theorem aluShl_eq (sat : Bool) (hn : n = b.toNat % 256) : aluShl sat a b = aluOut (satWord sat (a.toInt * 2 ^ n))
    (shiftC n (decide (n ≤ 32) && wbit a (32 - n))) false (sat && !fits32 (a.toInt * 2 ^ n)) := by
  subst hn
  rw [aluShl, sword_eq, Nat.cast_pow]
  rfl

theorem aluShl_wraps (hn : n = b.toNat % 256) :
    aluShl false a b = aluOut (a <<< n) (shiftC n (decide (n ≤ 32) && wbit a (32 - n))) false false := by
  rw [aluShl_eq false hn, satWord_wraps, ← ofInt_shl, Nat.cast_pow]
  rfl

theorem aluShr_eq (hn : n = b.toNat % 256) : aluShr a b = aluOut (a >>> n) (shiftC n (wbit a (n - 1))) false false := by
  subst hn
  rw [← ofNat_shr]
  rfl

theorem aluSar_eq (hn : n = b.toNat % 256) :
    aluSar a b = aluOut (a.sshiftRight n) (shiftC n (wbit a (min (n - 1) 31))) false false := by
  subst hn
  rw [← wordOf_sar]
  rfl

theorem aluRor_eq (hn : n = b.toNat % 256) :
    aluRor a b = aluOut (a.rotateRight n) (shiftC n (wbit (a.rotateRight n) 31)) false false := by
  subst hn
  rw [← ofNat_ror]
  rfl

/-- SHL under SAT is SHL where the value fits (R261). -/
theorem aluShl_sat_fits (hn : n = b.toNat % 256) (hx : fits32 (a.toInt * 2 ^ n) = true) : aluShl true a b = aluShl false a b := by
  rw [aluShl_eq true hn, aluShl_eq false hn, satWord_fits hx, satWord_fits hx, hx]
  rfl

/-- Where it does not, the sign of the operand picks the limit. -/
theorem satWord_shl (hx : a.toInt * 2 ^ n < -2 ^ 31 ∨ 2 ^ 31 ≤ a.toInt * 2 ^ n) :
    satWord true (a.toInt * 2 ^ n) = if wbit a 31 then 0x80000000 else 0x7FFFFFFF := by
  have hpos : (0 : Int) < 2 ^ n := by positivity
  rw [wbit_top, BitVec.msb_eq_toInt]
  rcases hx with hx | hx
  · have hneg : a.toInt < 0 := by
      by_contra hge
      have := Int.mul_nonneg (Int.not_lt.mp hge) hpos.le
      omega
    rw [satWord_low hx, if_pos (by simpa using hneg)]
  · have hnonneg : ¬ a.toInt < 0 := by
      intro hneg
      have := Int.mul_neg_of_neg_of_pos hneg hpos
      omega
    rw [satWord_high hx, if_neg (by simpa using hnonneg)]

/-- The shifts without SAT give their words (R245). -/
theorem shifts_res (hn : n = b.toNat % 256) : (aluShl false a b).res = (if n < 32 then a <<< n else 0)
    ∧ (aluShr a b).res = (if n < 32 then a >>> n else 0)
    ∧ (aluSar a b).res = (if n < 32 then a.sshiftRight n else if wbit a 31 then 0xFFFFFFFF else 0)
    ∧ (aluRor a b).res = a.rotateRight n := by
  rw [aluShl_wraps hn, aluShr_eq hn, aluSar_eq hn, aluRor_eq hn]
  refine ⟨?_, ?_, ?_, rfl⟩
  · split
    · rfl
    next hlarge => exact shl_large hlarge a
  · split
    · rfl
    next hlarge => exact shr_large hlarge a
  · split
    · rfl
    next hlarge => exact sar_large hlarge a

/-- Their flags other than C (R245). -/
theorem shifts_flags (hn : n = b.toNat % 256) : ∀ x ∈ [aluShl false a b, aluShr a b, aluSar a b, aluRor a b],
    x.mask = (if n = 0 then 0xD else 0xF) ∧ wbit x.flags 0 = false ∧ wbit x.flags 3 = wbit x.res 31
      ∧ (wbit x.flags 2 = true ↔ x.res = 0) := by
  rw [aluShl_wraps hn, aluShr_eq hn, aluSar_eq hn, aluRor_eq hn]
  simp only [List.forall_mem_cons, aluOut_shift, List.not_mem_nil, false_implies, implies_true, and_self]

/-- C of the shifts is the last bit out (R245). -/
theorem shifts_carry (hn : n = b.toNat % 256) (hpos : 1 ≤ n) :
    wbit (aluShl false a b).flags 1 = (decide (n ≤ 32) && wbit a (32 - n)) ∧ wbit (aluShr a b).flags 1 = wbit a (n - 1)
    ∧ wbit (aluSar a b).flags 1 = wbit a (min (n - 1) 31) ∧ wbit (aluRor a b).flags 1 = wbit (aluRor a b).res 31 := by
  rw [aluShl_wraps hn, aluShr_eq hn, aluSar_eq hn, aluRor_eq hn]
  exact ⟨aluOut_shiftC hpos _, aluOut_shiftC hpos _, aluOut_shiftC hpos _, aluOut_shiftC hpos _⟩

/-- SHL under SAT where the value does not fit (R261). -/
theorem aluShl_sat_clamps (hn : n = b.toNat % 256) (hx : a.toInt * 2 ^ n < -2 ^ 31 ∨ 2 ^ 31 ≤ a.toInt * 2 ^ n) :
    (aluShl true a b).res = (if wbit a 31 then 0x80000000 else 0x7FFFFFFF) ∧ wbit (aluShl true a b).flags 4 = true
    ∧ wbit (aluShl true a b).mask 4 = true := by
  rw [aluShl_eq true hn, fits32_false.mpr hx]
  refine ⟨satWord_shl hx, aluOut_q, ?_⟩
  rw [aluOut_mask]
  split
  · rfl
  · rfl

/-- A logical operation, MIN or MAX: V 0, C not written (R245). -/
theorem aluOp_logic {op : Nat} {cin : Bool} (hop : (op, r) ∈ [(2, a &&& b), (3, a ||| b), (4, a ^^^ b), (10, a &&& b),
    (14, if a.toInt ≤ b.toInt then a else b), (15, if a.toInt ≤ b.toInt then b else a)]) :
    aluOp op sat a b cin = aluOut r none false false := by
  rw [← sword_eq a, ← sword_eq b] at hop
  simp only [List.mem_cons, Prod.mk.injEq, List.not_mem_nil, or_false] at hop
  rcases hop with ⟨rfl, rfl⟩ | ⟨rfl, rfl⟩ | ⟨rfl, rfl⟩ | ⟨rfl, rfl⟩ | ⟨rfl, rfl⟩ | ⟨rfl, rfl⟩ <;> rfl

end
end Sys2Proof.Machine
end

section
/-! PROOFS. What the multiply, fixed-point and halfword operations compute (R226, R246, R261). -/

namespace Sys2Proof.Machine
open Sys2Proof

section
variable {a b : Word} {sat q : Bool} {m : Int}

theorem floorDiv_pow (x : Int) (n : Nat) : floorDiv x (2 ^ n) = x / 2 ^ n := by
  rw [← floorDiv_eq, Nat.cast_pow]
  rfl

/-- A fixed-point value: wrapped, or clamped with Q where it does not fit (R226, R261). -/
def qWord (sat : Bool) (x : Int) : Alu := qOut (satWord sat x) (sat && !fits32 x)

theorem qWord_wraps (x : Int) : qWord false x = ⟨BitVec.ofInt 32 x, 0, 0⟩ := by
  rw [qWord, satWord_wraps]
  rfl

theorem qWord_fits (hlo : -2 ^ 31 ≤ m) (hhi : m < 2 ^ 31) : qWord true m = qWord false m := by
  have hfits : fits32 m = true := fits32_iff.mpr ⟨hlo, hhi⟩
  rw [qWord, qWord, satWord_fits hfits, satWord_fits hfits, hfits]
  rfl

theorem qWord_high (hm : 2 ^ 31 ≤ m) : qWord true m = ⟨0x7FFFFFFF, 16, 16⟩ := by
  rw [qWord, satWord_high hm, fits32_false.mpr (.inr hm)]
  rfl

theorem qWord_low (hm : m < -2 ^ 31) : qWord true m = ⟨0x80000000, 16, 16⟩ := by
  rw [qWord, satWord_low hm, fits32_false.mpr (.inl hm)]
  rfl

theorem mulLow_eq (sat : Bool) (a b : Word) : mulLow sat a b = qWord sat (a.toInt * b.toInt) := by
  rw [← sword_eq, ← sword_eq]
  rfl

theorem qmul31_eq (sat : Bool) (a b : Word) : qmul31 sat a b = qWord sat (a.toInt * b.toInt / 2 ^ 31) := by
  rw [← floorDiv_pow, ← sword_eq, ← sword_eq]
  rfl

theorem mulHigh_eq (a b : Word) : mulHigh a b = BitVec.ofInt 32 (a.toInt * b.toInt / 2 ^ 32) := by
  rw [mulHigh, wordOf_eq, floorDiv_pow, sword_eq, sword_eq]

theorem mulHighU_toNat (a b : Word) : (mulHighU a b).toNat = a.toNat * b.toNat / 2 ^ 32 := by
  rw [mulHighU, BitVec.toNat_ofNat, Nat.mod_eq_of_lt]
  exact Nat.div_lt_of_lt_mul (Nat.mul_lt_mul'' a.isLt b.isLt)

/-- The signed product lies above −2⁶². -/
theorem neg_two_pow_le_toInt_mul (a b : Word) : -2 ^ 62 ≤ a.toInt * b.toInt := by
  have ha := BitVec.le_toInt a
  have ha' := BitVec.toInt_lt (x := a)
  have hb := BitVec.le_toInt b
  have hb' := BitVec.toInt_lt (x := b)
  norm_num at ha ha' hb hb'
  nlinarith

/-- MUL, MULH, MULHU and QMUL give their words; SAT clamps MUL and QMUL and sets Q (R226, R246, R261). -/
theorem multiplies_res (hm : m = a.toInt * b.toInt) :
    mulLow false a b = ⟨a * b, 0, 0⟩ ∧ mulHigh a b = BitVec.ofInt 32 (m / 2 ^ 32)
    ∧ (mulHighU a b).toNat = a.toNat * b.toNat / 2 ^ 32 ∧ qmul31 false a b = ⟨BitVec.ofInt 32 (m / 2 ^ 31), 0, 0⟩
    ∧ (-2 ^ 31 ≤ m → m < 2 ^ 31 → mulLow true a b = mulLow false a b)
    ∧ (2 ^ 31 ≤ m → mulLow true a b = ⟨0x7FFFFFFF, 16, 16⟩) ∧ (m < -2 ^ 31 → mulLow true a b = ⟨0x80000000, 16, 16⟩)
    ∧ (m < 2 ^ 62 → qmul31 true a b = qmul31 false a b) ∧ (m = 2 ^ 62 → qmul31 true a b = ⟨0x7FFFFFFF, 16, 16⟩) := by
  have hlow := neg_two_pow_le_toInt_mul a b
  rw [mulLow_eq, mulLow_eq, qmul31_eq, qmul31_eq, mulHigh_eq, ← hm]
  rw [← hm] at hlow
  refine ⟨?_, rfl, mulHighU_toNat a b, qWord_wraps _, qWord_fits, qWord_high, qWord_low, fun hhi => ?_, fun htop => ?_⟩
  · rw [qWord_wraps, hm, BitVec.ofInt_mul, BitVec.ofInt_toInt, BitVec.ofInt_toInt]
  · exact qWord_fits (by omega) (by omega)
  · exact qWord_high (by omega)

theorem clampI_eq_max_min {lo hi : Int} (h : lo ≤ hi) (x : Int) : clampI lo hi x = max lo (min hi x) := by
  unfold clampI
  split
  · omega
  · split
    · omega
    · omega

theorem sext_mod (n v : Nat) : sext n (v % 2 ^ n) = sext n v := by
  simp only [sext, Nat.mod_mod]

theorem laneOf_eq (w : Word) (i : Nat) : laneOf w i = (w.extractLsb' (16 * i) 16).toInt := by
  rw [laneOf, ← sext_toNat (by decide), BitVec.extractLsb'_toNat, Nat.shiftRight_eq_div_pow, getBits,
    show 16 * i + 15 + 1 - 16 * i = 16 by omega, sext_mod]

/-- The value of a lane of a result (R226). -/
def laneVal (sat : Bool) (x : Int) : Nat := wrapN 16 (if sat then clampI (-32768) 32767 x else x)

theorem laneVal_lt (sat : Bool) (x : Int) : laneVal sat x < 65536 := by
  have := Int.emod_lt_of_pos (if sat then clampI (-32768) 32767 x else x) (show (0 : Int) < ((2 ^ 16 : Nat) : Int) by decide)
  unfold laneVal wrapN
  omega

theorem ofNat_laneVal (sat : Bool) (x : Int) :
    BitVec.ofNat 16 (laneVal sat x) = BitVec.ofInt 16 (if sat then max (-32768) (min 32767 x) else x) := by
  rw [laneVal, ofNat_wrapN, clampI_eq_max_min (by decide)]

/-- A word of two lanes holds each of them. -/
theorem extract_lanes {y : Nat → Nat} {i : Nat} (hy : ∀ i, y i < 65536) (hi : i < 2) :
    (BitVec.ofNat 32 (y 1 * 2 ^ 16 + y 0)).extractLsb' (16 * i) 16 = BitVec.ofNat 16 (y i) := by
  have hhigh := hy 1
  have hlow := hy 0
  apply BitVec.eq_of_toNat_eq
  rw [BitVec.extractLsb'_toNat, BitVec.toNat_ofNat, BitVec.toNat_ofNat, Nat.shiftRight_eq_div_pow]
  have hcase : i = 0 ∨ i = 1 := by omega
  rcases hcase with rfl | rfl
  · omega
  · omega

theorem fits16_iff {x : Int} : fits16 x = true ↔ -32768 ≤ x ∧ x ≤ 32767 := by
  simp only [fits16, Bool.and_eq_true, decide_eq_true_eq]

section
variable {f : Int → Int → Int} {v : Nat → Int}
  (hv : ∀ i, v i = f (a.extractLsb' (16 * i) 16).toInt (b.extractLsb' (16 * i) 16).toInt)
include hv

theorem lanes15_eq (sat : Bool) : lanes15 sat f a b
    = qOut (BitVec.ofNat 32 (laneVal sat (v 1) * 2 ^ 16 + laneVal sat (v 0))) (sat && !(fits16 (v 0) && fits16 (v 1))) := by
  rw [hv, hv, ← laneOf_eq, ← laneOf_eq, ← laneOf_eq, ← laneOf_eq]
  rfl

/-- Each lane of a halfword operation, wrapped or clamped (R226). -/
theorem lanes15_lane {i : Nat} (hi : i < 2) (sat : Bool) : (lanes15 sat f a b).res.extractLsb' (16 * i) 16
    = BitVec.ofInt 16 (if sat then max (-32768) (min 32767 (v i)) else v i) := by
  rw [lanes15_eq hv, ← ofNat_laneVal]
  exact extract_lanes (y := fun j => laneVal sat (v j)) (fun j => laneVal_lt sat (v j)) hi

/-- The halfword operations give their lanes; SAT clamps each and sets Q where one did not fit (R226, R246). -/
theorem lanes15_res :
    (∀ i, i < 2 → (lanes15 false f a b).res.extractLsb' (16 * i) 16 = BitVec.ofInt 16 (v i)
      ∧ (lanes15 true f a b).res.extractLsb' (16 * i) 16 = BitVec.ofInt 16 (max (-32768) (min 32767 (v i))))
    ∧ (lanes15 false f a b).mask = 0
    ∧ ((∀ i, i < 2 → -32768 ≤ v i ∧ v i ≤ 32767) → (lanes15 true f a b).mask = 0)
    ∧ (∀ i, i < 2 → (v i < -32768 ∨ 32767 < v i) → (lanes15 true f a b).mask = 16 ∧ (lanes15 true f a b).flags = 16) := by
  refine ⟨fun i hi => ⟨lanes15_lane hv hi false, lanes15_lane hv hi true⟩, ?_, fun hfit => ?_, fun i hi hover => ?_⟩
  · rw [lanes15_eq hv]
    rfl
  · rw [lanes15_eq hv, fits16_iff.mpr (hfit 0 (by decide)), fits16_iff.mpr (hfit 1 (by decide))]
    rfl
  · have hone : (fits16 (v 0) && fits16 (v 1)) = false := by
      rw [Bool.and_eq_false_iff, ← Bool.not_eq_true, ← Bool.not_eq_true, fits16_iff, fits16_iff]
      have hcase : i = 0 ∨ i = 1 := by omega
      rcases hcase with rfl | rfl
      · exact .inl (by omega)
      · exact .inr (by omega)
    rw [lanes15_eq hv, hone]
    exact ⟨rfl, rfl⟩

end

/-- The three halfword operations (R246). -/
theorem halfwords_lanes {f : Bool → Word → Word → Alu} {e : Int → Int → Int}
    (hf : (f, e) ∈ [(qmul15Of, fun x y : Int => x * y / 2 ^ 15), (add15Of, fun x y => x + y), (sub15Of, fun x y => x - y)]) :
    ∀ sat a b, f sat a b = lanes15 sat e a b := by
  simp only [List.mem_cons, Prod.mk.injEq, List.not_mem_nil, or_false] at hf
  rcases hf with ⟨rfl, rfl⟩ | ⟨rfl, rfl⟩ | ⟨rfl, rfl⟩
  · intro sat a b
    simp only [qmul15Of, floorDiv_pow]
  · exact fun sat a b => rfl
  · exact fun sat a b => rfl

end
end Sys2Proof.Machine
end

section
/-! PROOFS. What the bit-field and bit-count operations compute, and the results and flags of the arithmetic instructions
(R226, R245, R246, R261). -/

namespace Sys2Proof.Machine
open Sys2Proof

section
variable {w d : Word} {i p l j : Nat}

theorem clzOf_toNat (hw : w ≠ 0) : (clzOf w).toNat = 31 - Nat.log2 w.toNat := by
  rw [clzOf, if_neg hw, BitVec.toNat_ofNat, Nat.mod_eq_of_lt (by omega)]

/-- CLZ counts the zeros above the top one (R246). -/
theorem clzOf_bits (hw : w ≠ 0) : (clzOf w).toNat < 32 ∧ wbit w (31 - (clzOf w).toNat) = true
    ∧ ∀ j, j < (clzOf w).toNat → wbit w (31 - j) = false := by
  have hnat : w.toNat ≠ 0 := fun h => hw (BitVec.eq_of_toNat_eq h)
  have hlog : Nat.log2 w.toNat < 32 := (Nat.log2_lt hnat).mpr w.isLt
  rw [clzOf_toNat hw]
  refine ⟨by omega, ?_, fun j hj => ?_⟩
  · rw [show 31 - (31 - Nat.log2 w.toNat) = Nat.log2 w.toNat by omega, wbit, nbit_eq]
    exact Nat.testBit_log2 hnat
  · rw [wbit, nbit_eq]
    exact Nat.testBit_lt_two_pow ((Nat.log2_lt hnat).mp (by omega))

/-- The entries of a list with a bit set, counted as the sum of the bits. -/
theorem length_filter_nbit (v : Nat) (js : List Nat) :
    (js.filter (nbit v)).length = (js.map (fun j => v / 2 ^ j % 2)).sum := by
  induction js with
  | nil => rfl
  | cons j js ih =>
    have hbit : v / 2 ^ j % 2 = if nbit v j then 1 else 0 := by
      unfold nbit
      split
      next h => exact beq_iff_eq.mp h
      next h =>
        rw [beq_iff_eq] at h
        omega
    rw [List.filter_cons, List.map_cons, List.sum_cons, hbit, ← ih]
    split
    · rw [List.length_cons, Nat.add_comm]
    · rw [Nat.zero_add]

/-- POPC is the sum of the bits (R246). -/
theorem popcOf_toNat (w : Word) : (popcOf w).toNat = ((List.range 32).map (fun j => w.toNat / 2 ^ j % 2)).sum := by
  have hcount : ((List.range 32).filter (nbit w.toNat)).length ≤ 32 :=
    (List.length_filter_le _ _).trans (List.length_range).le
  rw [← length_filter_nbit]
  exact Nat.mod_eq_of_lt (Nat.lt_of_le_of_lt hcount (by decide))

/-- A bit of a spelt number is that bit of its byte (R233). -/
theorem ofLe_testBit (bs : List Byte) (j : Nat) : (ofLe bs).testBit j = (bs.getD (j / 8) 0).getLsbD (j % 8) := by
  induction bs generalizing j with
  | nil => simp [ofLe]
  | cons b bs ih =>
    rw [ofLe, Nat.add_comm, show 256 = 2 ^ 8 from rfl, Nat.testBit_two_pow_mul_add _ b.isLt]
    split
    next hj =>
      rw [Nat.div_eq_of_lt hj, Nat.mod_eq_of_lt hj]
      rfl
    next hj =>
      rw [ih, show j / 8 = (j - 8) / 8 + 1 by omega, show j % 8 = (j - 8) % 8 by omega]
      rfl

/-- A byte of a number (R233). -/
theorem leBytes_getD {n k : Nat} (hk : k < n) (v : Nat) : (leBytes n v).getD k 0 = BitVec.ofNat 8 (v / 256 ^ k) := by
  induction n generalizing k v with
  | zero => omega
  | succ n ih =>
    cases k with
    | zero => rw [pow_zero, Nat.div_one]; rfl
    | succ k =>
      rw [leBytes, List.getD_cons_succ, ih (by omega), Nat.div_div_eq_div_mul, ← pow_succ']

theorem getD_reverse {bs : List Byte} {k : Nat} (hk : k < bs.length) : bs.reverse.getD k 0 = bs.getD (bs.length - 1 - k) 0 := by
  rw [List.getD_eq_getElem _ _ (by rwa [List.length_reverse]), List.getElem_reverse, List.getD_eq_getElem]

/-- REV exchanges the bytes and keeps the bits of each (R246). -/
theorem revOf_bit (w : Word) (hj : j < 32) : wbit (revOf w) j = wbit w (24 - 8 * (j / 8) + j % 8) := by
  have hbyte : (leBytes 4 w.toNat).reverse.getD (j / 8) 0 = BitVec.ofNat 8 (w.toNat / 256 ^ (3 - j / 8)) := by
    rw [getD_reverse (by rw [leBytes_length]; omega), leBytes_length, leBytes_getD (by omega)]
  rw [wbit_eq_getLsbD, revOf, wordOfLe, BitVec.getLsbD_ofNat, decide_eq_true hj, Bool.true_and, ofLe_testBit, hbyte, BitVec.getLsbD_ofNat,
    decide_eq_true (Nat.mod_lt _ (by decide)), Bool.true_and, show 256 = 2 ^ 8 from rfl, ← pow_mul, Nat.testBit_div_two_pow, wbit, nbit_eq]
  congr 1
  omega

section
variable (hp : p = i % 32) (hl : l = i / 256 % 64) (hpos : 1 ≤ l) (hfit : p + l ≤ 32) (hj : j < 32)
include hp hl

theorem bfxOf_eq : bfxOf w i = BitVec.ofNat 32 (w.toNat / 2 ^ p % 2 ^ l) := by
  subst hp hl
  rfl

include hpos in
theorem bfxsOf_eq : bfxsOf w i = (BitVec.ofNat l (w.toNat / 2 ^ p)).signExtend 32 := by
  have hsext : bfxsOf w i = wordOf (sext l (w.toNat / 2 ^ p)) := by
    subst hp hl
    rfl
  rw [hsext, wordOf_eq, ← sext_mod, ← BitVec.toNat_ofNat, sext_toNat hpos]
  rfl

include hj in
/-- BFX takes the bits of the field (R246). -/
theorem bfxOf_bit : wbit (bfxOf w i) j = (decide (j < l) && wbit w (p + j)) := by
  rw [bfxOf_eq hp hl, wbit_eq_getLsbD, BitVec.getLsbD_ofNat, decide_eq_true hj, Bool.true_and, Nat.testBit_mod_two_pow, Nat.testBit_div_two_pow,
    Nat.add_comm j p, wbit, nbit_eq]

include hpos hj in
/-- BFXS takes them and repeats the top one (R246). -/
theorem bfxsOf_bit : wbit (bfxsOf w i) j = wbit w (p + min j (l - 1)) := by
  rw [bfxsOf_eq hp hl hpos, wbit_eq_getLsbD, BitVec.getLsbD_signExtend, decide_eq_true hj, Bool.true_and, wbit, nbit_eq]
  split
  next hlow =>
    rw [BitVec.getLsbD_ofNat, decide_eq_true hlow, Bool.true_and, Nat.testBit_div_two_pow, Nat.min_eq_left (by omega), Nat.add_comm j p]
  next hhigh =>
    rw [BitVec.msb_eq_getLsbD_last, BitVec.getLsbD_ofNat, decide_eq_true (by omega), Bool.true_and, Nat.testBit_div_two_pow,
      Nat.min_eq_right (by omega), Nat.add_comm p]

include hpos hfit in
/-- BFI puts the low bits of one word into the field of another (R246). -/
theorem bfiOf_bit : wbit (bfiOf d w i) j = (if p ≤ j ∧ j < p + l then wbit w (j - p) else wbit d j) := by
  have hput : bfiOf d w i = putBits d (p + l - 1) p w.toNat := by
    rw [putBits, putBits_split, show p + l - 1 + 1 - p = l by omega, Nat.div_div_eq_div_mul, ← pow_add]
    subst hp hl
    rw [bfiOf, bfPos, bfLen]
    congr 1
    ring
  rw [hput, wbit, nbit_eq, putBits_testBit d w.toNat j (by omega) (by omega), wbit, wbit, nbit_eq, nbit_eq]
  exact if_congr (by omega) rfl rfl

end
end

/-- Settles O44: sums, differences and shifts as integer values wrapped or clamped, the others bit by bit. -/
theorem aluResultsAndFlags : Obligations.AluResultsAndFlags := by
  refine ⟨fun a b cin x hx => ?_, fun a b cin x hx => ?_, fun a b cin x y e hxy => ?_, fun a b n hn => ?_, fun sat a b cin => ?_,
    fun a b m hm => multiplies_res hm, fun f e a b v hf hv => ?_, rfl, fun w d i p l => ?_⟩
  · obtain ⟨hmask, hneg, hzero, hcarry, hover⟩ := aluSum_flags (a.toInt + b.toInt + (if cin then 1 else 0))
      (decide (2 ^ 32 ≤ a.toNat + b.toNat + (if cin then 1 else 0)))
    rw [hx, aluAdd_eq]
    refine ⟨?_, hmask, hneg, hzero, ?_, hover⟩
    · rw [← ofInt_add_ite, ← satWord_wraps]
      rfl
    · rw [hcarry, decide_eq_true_eq]
  · obtain ⟨hmask, hneg, hzero, hcarry, hover⟩ := aluSum_flags (a.toInt - b.toInt - (if cin then 0 else 1))
      (decide (b.toNat + (if cin then 0 else 1) ≤ a.toNat))
    rw [hx, aluSub_eq]
    refine ⟨?_, hmask, hneg, hzero, ?_, hover⟩
    · rw [← ofInt_sub_ite, ← satWord_wraps]
      rfl
    · rw [hcarry, decide_eq_true_eq]
  · rcases hxy with ⟨rfl, rfl, rfl⟩ | ⟨rfl, rfl, rfl⟩
    · rw [aluAdd_eq, aluAdd_eq]
      exact aluSum_sat _ _
    · rw [aluSub_eq, aluSub_eq]
      exact aluSum_sat _ _
  · obtain ⟨hshl, hshr, hsar, hror⟩ := shifts_res (a := a) hn
    refine ⟨hshl, hshr, hsar, hror, shifts_flags hn, fun hlo hhi => ?_, fun hn' => ?_, fun hpos => (shifts_carry hn hpos).2.2.2,
      fun hlo hhi => aluShl_sat_fits hn (fits32_iff.mpr ⟨hlo, hhi⟩), aluShl_sat_clamps hn⟩
    · obtain ⟨hl, hr, ha, -⟩ := shifts_carry (a := a) hn hlo
      rw [decide_eq_true hhi, Bool.true_and] at hl
      rw [Nat.min_eq_left (by omega)] at ha
      exact ⟨hl, hr, ha⟩
    · obtain ⟨hl, hr, ha, -⟩ := shifts_carry (a := a) hn (by omega)
      rw [decide_eq_false (by omega), Bool.false_and] at hl
      rw [wbit_beyond a (by omega)] at hr
      rw [Nat.min_eq_right (by omega)] at ha
      exact ⟨hl, hr, ha⟩
  · refine ⟨rfl, rfl, rfl, rfl, rfl, rfl, rfl, rfl, rfl, rfl, fun op r x hx hop => ?_⟩
    rw [hx, aluOp_logic hop]
    exact ⟨rfl, aluOut_mask _ _ _ _, aluOut_v, aluOut_n, aluOut_z⟩
  · rw [halfwords_lanes hf, halfwords_lanes hf]
    exact lanes15_res hv
  · exact ⟨clzOf_bits, popcOf_toNat w, fun j hj => revOf_bit w hj, fun hp hl hpos hfit j hj =>
      ⟨bfxOf_bit hp hl hj, bfxsOf_bit hp hl hpos hj, bfiOf_bit hp hl hpos hfit⟩⟩

end Sys2Proof.Machine
end

section
/-! PROOFS. The rows of the control stores, the long units, the buffers and error injection (R256, R281, R284, R291, R302, R308). -/

namespace Sys2Proof.Machine
open Sys2Proof

section
variable {s : State} {w : Who} {p h op : Nat} {i : Instr}

/-- A command of a control store is a write of UC_CMD (R308). -/
theorem exec_ucRow (hrow : (op, i) ∈ [(1, .ucLoad w p h), (2, .ucVerify w p h), (3, .ucSwitch w p h), (4, .ucCopy w p h)])
    (ha : s.alive = true) (hw : w.wf = true) (hp : p < 6) (hh : h < 4) (hmay : s.may w (UC_CMD p) (ucCmdWord op h) = true) :
    exec i s = .next ((s.ucCommand p op h).keep s) := by
  have hwf : (w.wf && decide (p < 6) && decide (h < 4)) = true := by simp [hw, hp, hh]
  simp only [List.mem_cons, Prod.mk.injEq, List.not_mem_nil, or_false] at hrow
  rcases hrow with ⟨rfl, rfl⟩ | ⟨rfl, rfl⟩ | ⟨rfl, rfl⟩ | ⟨rfl, rfl⟩
  · exact (exec_ucLoad w p h s).trans (runs_write hwf ha hmay rfl)
  · exact (exec_ucVerify w p h s).trans (runs_write hwf ha hmay rfl)
  · exact (exec_ucSwitch w p h s).trans (runs_write hwf ha hmay rfl)
  · exact (exec_ucCopy w p h s).trans (runs_write hwf ha hmay rfl)

/-- A command while BUSY, of HALF 3, or of the ROM where it is no SWITCH, is ignored (R308). -/
theorem ucCommand_ignored (hop : op ≠ 0) (hbad : s.on (UC_STAT.BUSY p) = true ∨ h = 3 ∨ (h = 0 ∧ op ≠ 3)) :
    s.ucCommand p op h = s.set (UC_STAT.WIGN p) 1 := by
  cases hbusy : s.on (UC_STAT.BUSY p)
  · have hignored : (decide (5 ≤ op) || h == 3 || (h == 0 && op != 3)) = true := by
      rcases hbad with hon | rfl | ⟨rfl, hop'⟩
      · rw [hbusy] at hon
        contradiction
      · simp
      · simp [hop']
    rw [State.ucCommand, if_neg (by simp [hbusy]), if_neg hop, if_pos hignored]
  · rw [State.ucCommand, if_pos hbusy]

section
variable (hidle : s.on (UC_STAT.BUSY p) = false) (hh : h < 3)
include hidle hh

/-- LOAD of a half of the store: refused for the active one (R308). -/
theorem ucCommand_load (h0 : h ≠ 0) : s.ucCommand p 1 h
    = if h = s.get (UC_STAT.ACT p) then s.set (UC_STAT.RESULT p) 2 else (s.setUcValid p h false).ucBusy p 1 h := by
  simp [State.ucCommand, hidle, h0, hh.ne]

theorem ucCommand_verify (h0 : h ≠ 0) : s.ucCommand p 2 h = s.ucBusy p 2 h := by
  simp [State.ucCommand, hidle, h0, hh.ne]

/-- COPY into a half: refused for the active one (R308). -/
theorem ucCommand_copy (h0 : h ≠ 0) : s.ucCommand p 4 h
    = if h = s.get (UC_STAT.ACT p) then s.set (UC_STAT.RESULT p) 2 else s.ucBusy p 4 h := by
  simp [State.ucCommand, hidle, h0, hh.ne]

/-- SWITCH to the ROM, or in Hold or Kindle to a valid half, waits; else it gives its result (R308). -/
theorem ucCommand_switch : s.ucCommand p 3 h
    = if h ≠ 0 ∧ s.mode ≠ modeKindle ∧ s.mode ≠ modeHold then s.set (UC_STAT.RESULT p) 3
      else if h ≠ 0 ∧ s.ucValid p h = false then s.set (UC_STAT.RESULT p) 4
      else { s.set (UC_STAT.SWPEND p) 1 with uc := { s.uc with sw := modNth s.uc.sw p (fun _ => some h) } } := by
  simp [State.ucCommand, hidle, hh.ne]

end

/-- A fetch fault of a running core acts where the word it names can be met (R307). -/
theorem exec_ucFetchFault_acts {a : Nat} {ill : Bool} (ha : s.alive = true) (hp : p < 6) (haddr : a < 32768)
    (hlocked : s.on (DRV_STAT.LOCKED p) = false) (hheld : nth s.pmu.held p true = false) (hill : ill = true → s.ucIll p a = true) :
    exec (.ucFetchFault p a ill) s = .next ((s.ucFault p a (ill || s.ucFetch p a == .ill)).keep s) := by
  have hwf : (decide (p < 6) && decide (a < 32768)) = true := by simp [hp, haddr]
  have hacts : (ill && !s.ucIll p a) = false := by
    cases ill
    · rfl
    · simp [hill rfl]
  exact (exec_ucFetchFault p a ill s).trans (runs_next hwf ha (if_neg (by simp [hlocked, hheld, hacts])))

end

/-- Settles O17: each row runs; the store commands are writes of UC_CMD, and each clause names the branch its command takes. -/
theorem coreStoreRowsComplete : Obligations.CoreStoreRowsComplete := by
  refine ⟨?_, ?_, ?_, ?_, ?_, ?_, ?_, ?_⟩
  · intro s p u l ha hp hfind
    exact (exec_longOpComplete p u s).trans (runs_next (decide_eq_true hp) ha (by rw [hfind]))
  · intro s p ha hp
    exact ⟨(exec_storeBufferRetire p s).trans (runs_next (decide_eq_true hp) ha rfl), fun hload =>
      (exec_mergeBufferFlush p s).trans (runs_next (decide_eq_true hp) ha (if_neg (by simp [Option.isNone_eq_false_iff.mpr hload])))⟩
  · intro s p ha hp hload hheld
    exact (exec_mergeBufferFlush p s).trans (runs_next (decide_eq_true hp) ha (if_pos (by simp [hload, hheld])))
  · intro s p a ha hp haddr hlocked hheld
    refine ⟨fun hfetch => ?_, fun hill => ?_⟩
    · rw [exec_ucFetchFault_acts ha hp haddr hlocked hheld (by simp), Bool.false_or, beq_false_of_ne hfetch]
    · rw [exec_ucFetchFault_acts ha hp haddr hlocked hheld (fun _ => hill), Bool.true_or]
  · intro s w p h ha hw hp hh hidle
    refine ⟨fun hmay h0 => ?_, fun hmay h0 => ?_, fun hmay h0 => ?_, fun hmay => ?_⟩
    · rw [exec_ucRow (op := 1) (by simp) ha hw hp (by omega) hmay, ucCommand_load hidle hh h0]
      exact ⟨fun hne => by rw [if_neg hne], fun heq => by rw [if_pos heq]⟩
    · rw [exec_ucRow (op := 2) (by simp) ha hw hp (by omega) hmay, ucCommand_verify hidle hh h0]
    · rw [exec_ucRow (op := 4) (by simp) ha hw hp (by omega) hmay, ucCommand_copy hidle hh h0]
      exact ⟨fun hne => by rw [if_neg hne], fun heq => by rw [if_pos heq]⟩
    · rw [exec_ucRow (op := 3) (by simp) ha hw hp (by omega) hmay, ucCommand_switch hidle hh]
      refine ⟨fun hok => ?_, fun h0 hhold hkindle => ?_, fun h0 hmode hvalid => ?_⟩
      · have hvalid : ¬ (h ≠ 0 ∧ s.ucValid p h = false) := by
          rcases hok with hrom | ⟨-, hvalid⟩
          · exact fun hbad => hbad.1 hrom
          · exact fun hbad => Bool.eq_false_iff.mp hbad.2 hvalid
        rw [if_neg (by tauto), if_neg hvalid]
      · rw [if_pos ⟨h0, hkindle, hhold⟩]
      · rw [if_neg (by tauto), if_pos ⟨h0, hvalid⟩]
  · intro s w p h op i ha hw hp hh hrow hmay hbad
    have hop : op ≠ 0 := by
      rintro rfl
      simp at hrow
    rw [exec_ucRow hrow ha hw hp hh hmay, ucCommand_ignored hop hbad]
  · intro s p ha hp
    exact ⟨(exec_ucCommandDone p s).trans (runs_next (decide_eq_true hp) ha rfl),
      (exec_ucSwitchTake p s).trans (runs_next (decide_eq_true hp) ha rfl)⟩
  · intro s w p v ha hw hp
    exact ⟨fun hmay => (exec_patchWrite w p v s).trans (runs_write (wf_and_lt hw hp) ha hmay rfl),
      fun hmay => (exec_patchLock w p s).trans (runs_write (wf_and_lt hw hp) ha hmay rfl),
      fun hmay => (exec_memInject w p v s).trans (runs_write (wf_and_lt hw hp) ha hmay rfl)⟩

end Sys2Proof.Machine
end

section
/-! PROOFS. Every command answers (log entry 11), and so a step keeps the queue (R15); Waimond's own JTAG instruction in test mode is refused (R457). -/

namespace Sys2Proof.Machine
open Sys2Proof

/-- A command answers a next state, and leaves the queue to the step. -/
def KeepsQueue (i : Instr) (s : State) : Prop := ∃ t, exec i s = .next t ∧ t.pending = s.pending

/-- A JTAG instruction of Waimond's own that the port would carry out (R457): the spec does not say what it does. -/
structure PrivateRuns (code : Nat) (s : State) : Prop where
  isPrivate : waimondCode code = true
  isCode : code < 64
  testen : s.jtag.testen = true
  enabled : wbit (s.rd OTP_LOCKS) 5 = false
  power : s.pmu.ember = false

section
variable {s : State}

theorem exec_waimondInstruction_refused {code : Nat} (h : PrivateRuns code s) :
    exec (.waimondInstruction code) s = .refused .waimondPrivateJtag := by
  obtain ⟨hcode, hlt, htest, hdis, hember⟩ := h
  rw [exec_waimondInstruction, execWaimondInstruction, if_pos (by simp [wfWaimondInstruction, hcode, hlt, htest, hdis, hember])]

theorem exec_waimondInstruction_bypass {code : Nat} (h : ¬ PrivateRuns code s) : exec (.waimondInstruction code) s
    = runsEver (wfWaimondInstruction code && waimondCode code) s (fun s => s.jtagLoad 0x3F) := by
  rw [exec_waimondInstruction, execWaimondInstruction, if_neg]
  intro hruns
  simp only [wfWaimondInstruction, Bool.and_eq_true, decide_eq_true_eq, Bool.not_eq_true'] at hruns
  obtain ⟨⟨⟨⟨hlt, hcode⟩, htest⟩, hdis⟩, hember⟩ := hruns
  exact h ⟨hcode, hlt, htest, hdis, hember⟩

/-- Every row but the Waimond instruction of JTAG is a run, in a live device or in any. -/
theorem keepsQueue_of_ne {i : Instr} (hi : ∀ code, i ≠ .waimondInstruction code) : KeepsQueue i s := by
  unfold KeepsQueue exec
  cases i with
  | waimondInstruction code => exact absurd rfl (hi code)
  | coldReset | resetPin | brownOut | resetRelease | supplyDip | emberWake | etimerMatch | channelForward | delayElementFire
  | oneShotEnd | evioInputEdge | evioOutput | evioPulseEnd | idcode | samplePreload | extest | highz | clamp | bypass =>
    exact runsEver_pending _ _ _
  | _ => exact runs_pending _ _ _

theorem keepsQueue_or_private (i : Instr) (s : State) :
    KeepsQueue i s ∨ ∃ code, i = .waimondInstruction code ∧ PrivateRuns code s := by
  by_cases hi : ∃ code, i = .waimondInstruction code
  · obtain ⟨code, rfl⟩ := hi
    by_cases hruns : PrivateRuns code s
    · exact .inr ⟨code, rfl, hruns⟩
    · refine .inl ?_
      rw [KeepsQueue, exec_waimondInstruction_bypass hruns]
      exact runsEver_pending _ _ _
  · exact .inl (keepsQueue_of_ne fun code h => hi ⟨code, h⟩)

end

/-- Settles O38: a row is a run, which keeps the queue; only the Waimond instruction of JTAG has another branch. -/
theorem everyCommandAnswers : Obligations.EveryCommandAnswers := by
  intro c s
  refine (keepsQueue_or_private c s).imp_right ?_
  rintro ⟨code, rfl, hruns⟩
  exact ⟨code, rfl, hruns.isPrivate, hruns.isCode, hruns.testen, hruns.enabled, hruns.power, exec_waimondInstruction_refused hruns⟩

/-- Settles O39: the front of the queue answers in the state that has the queue's rest, and leaves that rest as it is. -/
theorem queueInvariant : Obligations.QueueInvariant := by
  intro s hwf
  cases hq : s.pending with
  | nil => exact .inl ⟨s, step_of_pending_nil hq, hwf, hq⟩
  | cons c cs =>
    rw [step_of_pending_cons hq]
    rcases keepsQueue_or_private c (s.withPending cs) with ⟨t, hexec, ht⟩ | ⟨code, rfl, hruns⟩
    · refine .inl ⟨t, hexec, fun d hd => hwf d ?_, ht⟩
      rw [ht] at hd
      rw [hq]
      exact List.mem_cons_of_mem c hd
    · exact .inr ⟨code, rfl, hruns.testen, exec_waimondInstruction_refused hruns⟩

end Sys2Proof.Machine
end

section
/-! PROOFS. The JTAG port: what its instructions do, and what they leave alone (R457, R458, R61). -/

namespace Sys2Proof.Machine
open Sys2Proof

/-- The first two bits of what a pin's cells tell it are the cells (R457). -/
theorem nbit_pair_zero (x y : Bool) : nbit (b2n x + 2 * b2n y) 0 = x := by cases x <;> cases y <;> rfl

theorem nbit_pair_one (x y : Bool) : nbit (b2n x + 2 * b2n y) 1 = y := by cases x <;> cases y <;> rfl

/-- The net change brings no level that was not selected (R73). -/
theorem netLevel_ne {lvl : Nat → Level} {x : Level} (h : ∀ u, lvl u ≠ x) (t : Nat) : netLevel lvl t ≠ x := by
  induction t with
  | zero => exact h 0
  | succ t ih =>
    rw [netLevel]
    split
    · exact h (t + 1)
    · exact ih

/-- Boundary cell `k` of a pin, as it was loaded. -/
def State.padBit (s : State) (pin k : Nat) : Bool := spGet (fun _ => 0) s.jtag.cells (Config.padCell pin k) != 0

/-- Every rail slot is OFF (R458). -/
def State.railsOff (s : State) : Bool := (List.range 32).all (fun r => s.railState r == railOff)

section
variable {s old : State}

theorem senHigh_senEdges (s old : State) (g : Nat) : (s.senEdges old).senHigh g = s.senHigh g :=
  each_keeps (fun x => x.senHigh g) _ (fun x j => by dsimp only; split <;> rfl) s _

theorem jtag_senEdges (s old : State) : (s.senEdges old).jtag = s.jtag :=
  each_keeps State.jtag _ (fun x j => by dsimp only; split <;> rfl) s _

/-- Where no SENg changes level, no delay is touched (R61). -/
theorem senEdges_of_same (h : ∀ g, g < 9 → old.senHigh g = s.senHigh g) : s.senEdges old = s := by
  have hrun : ∀ l : List Nat, (∀ g ∈ l, g < 9) → l.foldl (fun x g => if old.senHigh g = x.senHigh g then x
      else { x with pha := { x.pha with senDelay := modNth x.pha.senDelay g (fun _ => x.senHigh g && x.on PHA_SEN.DLY) } }) s = s := by
    intro l hl
    induction l with
    | nil => rfl
    | cons g l ih =>
      rw [List.foldl_cons, if_pos (h g (hl g List.mem_cons_self))]
      exact ih fun j hj => hl j (List.mem_cons_of_mem g hj)
  exact hrun _ fun g hg => List.mem_range.mp hg

section
variable (hpower : s.pmu.ember = false)
include hpower

theorem jtagLoad_eq (n : Nat) : s.jtagLoad n = ({ s with jtag := { s.jtag with ir := n } } : State).senEdges s := by
  simp [State.jtagLoad, hpower]

theorem ir_jtagLoad (n : Nat) : (s.jtagLoad n).jtag.ir = n := by rw [jtagLoad_eq hpower, jtag_senEdges]

end

theorem jtagGuarded_off (hoff : s.railsOff = true) (n : Nat) : s.jtagGuarded n = s.jtagLoad n :=
  congrArg s.jtagLoad (if_pos hoff)

theorem jtagGuarded_on (hon : s.railsOff = false) (n : Nat) : s.jtagGuarded n = s.jtagLoad 0x3F :=
  congrArg s.jtagLoad (if_neg (Bool.eq_false_iff.mp hon))

theorem exec_idcode_powered (hpower : s.pmu.ember = false) :
    exec .idcode s = .next (((s.jtagLoad 1).emit (.tdo 32 0x27144573)).keep s) :=
  (exec_idcode s).trans (runsEver_next rfl (if_neg (by simp [hpower])))

theorem exec_samplePreload_powered (hpower : s.pmu.ember = false) (cells : Bytes) :
    exec (.samplePreload cells) s = .next (((s.jtagLoad 2).boundaryScan cells).keep s) :=
  (exec_samplePreload cells s).trans (runsEver_next rfl (if_neg (by simp [hpower])))

theorem exec_extest_bare (s : State) : exec (.extest []) s = .next ((s.jtagGuarded 3).keep s) :=
  (exec_extest [] s).trans (runsEver_next rfl (if_pos (by simp)))

/-- A scan of data under EXTEST goes through the boundary register, or where BYPASS was loaded through its one bit (R458). -/
theorem exec_extest_scan (hpower : s.pmu.ember = false) {cells : Bytes} (hcells : cells ≠ []) :
    exec (.extest cells) s = .next ((if s.railsOff then (s.jtagLoad 3).boundaryScan cells
      else (s.jtagLoad 0x3F).emit (.tdo (8 * cells.length) (2 * ofLe cells % 2 ^ (8 * cells.length)))).keep s) := by
  refine (exec_extest cells s).trans (runsEver_next rfl ?_)
  have hlen : (s.pmu.ember || 8 * cells.length == 0) = false := by simp [hpower, hcells]
  cases hoff : s.railsOff
  · simp only [jtagGuarded_on hoff, hlen, ir_jtagLoad hpower, Bool.false_eq_true, if_false, show ¬ (63 = 3) by decide]
  · simp only [jtagGuarded_off hoff, hlen, ir_jtagLoad hpower, Bool.false_eq_true, if_false, if_true]

theorem jtagHolds_of_cells (h : s.jtag.ir = 3 ∨ s.jtag.ir = 5) : s.jtagHolds = true := by
  rcases h with h | h <;> simp [State.jtagHolds, h]

section
variable (hcells : s.jtag.ir = 3 ∨ s.jtag.ir = 5)
include hcells

theorem cellBits_eq (pin : Nat) : s.cellBits pin = b2n (s.padBit pin 0) + 2 * b2n (s.padBit pin 1) :=
  if_neg (by rcases hcells with h | h <;> simp [h])

/-- With EXTEST or CLAMP in force the pins follow their cells (R457, R458). -/
theorem level_of_cells (n t : Nat) : s.level n t
    = if s.padBit n 0 then .low else if s.jtag.testen && s.padBit n 1 then .high else .mid := by
  simp only [State.level, jtagHolds_of_cells hcells, if_true, cellBits_eq hcells, nbit_pair_zero, nbit_pair_one]

theorem senHigh_of_cells (g : Nat) : s.senHigh g = (s.jtag.testen && s.padBit (144 + g) 0) := by
  simp only [State.senHigh, jtagHolds_of_cells hcells, if_true, cellBits_eq hcells, nbit_pair_zero]

theorem drives_of_cells (x : OutPin) : s.drives x = if s.padBit x.number 1 then some (s.padBit x.number 0) else none := by
  simp only [State.drives, jtagHolds_of_cells hcells, if_true, cellBits_eq hcells, nbit_pair_zero, nbit_pair_one]

/-- Without TESTEN no cell drives a PWM pin high (R458). -/
theorem level_ne_high (htest : s.jtag.testen = false) (n t : Nat) : s.level n t ≠ .high := by
  rw [level_of_cells hcells, htest]
  cases s.padBit n 0 <;> simp

end

section
variable (hhighz : s.jtag.ir = 4)
include hhighz

theorem cellBits_of_highz (pin : Nat) : s.cellBits pin = 0 := if_pos hhighz

/-- With HIGHZ in force nothing is driven (R458). -/
theorem nothing_driven_of_highz (n t : Nat) (x : OutPin) (g : Nat) :
    s.level n t = .mid ∧ s.senHigh g = false ∧ s.drives x = none := by
  have hholds : s.jtagHolds = true := by simp [State.jtagHolds, hhighz]
  have hbit : ∀ k, nbit 0 k = false := fun k => by simp [nbit]
  refine ⟨?_, ?_, ?_⟩
  · simp [State.level, hholds, cellBits_of_highz hhighz, hbit]
  · simp [State.senHigh, hholds, cellBits_of_highz hhighz, hbit]
  · simp [State.drives, hholds, cellBits_of_highz hhighz, hbit]

end

end

/-- Settles O25: each row loads its instruction, and the pins follow what the cells of a boundary scan say. -/
theorem jtagRowsComplete : Obligations.JtagRowsComplete := by
  intro s hpower l hl
  have hload : ∀ n, s.jtagLoad n = l n := fun n => (jtagLoad_eq hpower n).trans (hl n).symm
  refine ⟨?_, ?_, fun scan hscan => ?_, fun (hoff : s.railsOff = true) => ?_,
    fun (hon : s.railsOff = false) => ?_, ?_, fun hhighz => nothing_driven_of_highz hhighz, ?_⟩
  · rw [exec_idcode_powered hpower, hload]
  · rw [← hload]
    exact (exec_bypass s).trans (runsEver_next rfl rfl)
  · have hscans : ∀ u cells, scan u cells = u.boundaryScan cells := fun u cells => hscan u cells _ _ _ rfl rfl
    refine ⟨fun cells => ?_, fun (hoff : s.railsOff = true) cells hcells => ?_⟩
    · rw [exec_samplePreload_powered hpower, hload, hscans]
    · rw [exec_extest_scan hpower hcells, if_pos hoff, hload, hscans]
  · refine ⟨?_, ?_, ?_⟩
    · rw [exec_extest_bare, jtagGuarded_off hoff, hload]
    · exact (exec_highz s).trans (runsEver_next rfl ((jtagGuarded_off hoff 4).trans (hload 4)))
    · exact (exec_clamp s).trans (runsEver_next rfl ((jtagGuarded_off hoff 5).trans (hload 5)))
  · have hbypass : ∀ n, s.jtagGuarded n = l 0x3F := fun n => (jtagGuarded_on hon n).trans (hload 0x3F)
    refine ⟨fun i hi => ?_, fun cells hcells => ?_⟩
    · simp only [List.mem_cons, List.not_mem_nil, or_false] at hi
      rcases hi with rfl | rfl | rfl
      · rw [exec_extest_bare, hbypass]
      · exact (exec_highz s).trans (runsEver_next rfl (hbypass 4))
      · exact (exec_clamp s).trans (runsEver_next rfl (hbypass 5))
    · rw [exec_extest_scan hpower hcells, if_neg (Bool.eq_false_iff.mp hon), hload]
  · intro bit n c t x g old hcells hbit
    have hpad : ∀ p k, bit p k = s.padBit p k := hbit
    simp only [hpad]
    refine ⟨level_of_cells hcells n t, senHigh_of_cells hcells g, drives_of_cells hcells x, fun htest hold => ?_⟩
    refine netLevel_ne (lvl := fun u => if u < c then old.level n u else s.level n u) (fun u => ?_) t
    split
    · exact hold u ‹_›
    · exact level_ne_high hcells htest n u
  · intro code hlt hcode
    refine ⟨fun hbars => ?_, fun htest hdis => exec_waimondInstruction_refused ⟨hcode, hlt, htest, hdis, hpower⟩⟩
    have hidle : ¬ PrivateRuns code s := by
      rintro ⟨-, -, htest, hdis, -⟩
      simp [htest, hdis] at hbars
    rw [exec_waimondInstruction_bypass hidle, ← hload]
    exact runsEver_next (by simp [wfWaimondInstruction, hlt, hcode]) rfl

end Sys2Proof.Machine
end
section
/-! PROOFS. What the instructions of the JTAG port leave alone (R457, R458, R61). -/

namespace Sys2Proof.Machine
open Sys2Proof

/-- `t` differs from `s` at most in the port, in what has been shifted out, in the free values drawn, and in the SEN delays. -/
def OnlyPort (s t : State) : Prop :=
  ∃ j o f d, t = { s with jtag := j, out := o, free := f, pha := { s.pha with senDelay := d } }

section
variable {s t u : State}

theorem OnlyPort.refl (s : State) : OnlyPort s s := ⟨_, _, _, _, rfl⟩

theorem OnlyPort.trans (hst : OnlyPort s t) (htu : OnlyPort t u) : OnlyPort s u := by
  obtain ⟨j, o, f, d, rfl⟩ := hst
  obtain ⟨j', o', f', d', rfl⟩ := htu
  exact ⟨j', o', f', d', rfl⟩

theorem OnlyPort.senEdges (s old : State) : OnlyPort s (s.senEdges old) :=
  each_inv (OnlyPort s) _ (fun x g hx => by
    dsimp only
    split
    · exact hx
    · exact hx.trans ⟨_, _, _, _, rfl⟩) s _ (.refl s)

theorem OnlyPort.eq (h : OnlyPort s t) :
    t = { s with jtag := t.jtag, out := t.out, free := t.free, pha := { s.pha with senDelay := t.pha.senDelay } } := by
  obtain ⟨j, o, f, d, rfl⟩ := h
  rfl

theorem OnlyPort.keep (h : OnlyPort s t) : t.keep s = t := by
  obtain ⟨j, o, f, d, rfl⟩ := h
  rfl

theorem OnlyPort.jtagLoad (s : State) (n : Nat) : OnlyPort s (s.jtagLoad n) := by
  unfold State.jtagLoad
  split
  · exact .refl s
  · exact .trans ⟨_, _, _, _, rfl⟩ (.senEdges _ s)

theorem OnlyPort.boundaryScan (s : State) (cells : Bytes) : OnlyPort s (s.boundaryScan cells) :=
  .trans ⟨_, _, _, _, rfl⟩ (.senEdges _ s)

/-- What a change of level leaves, beside the delays. -/
theorem out_senEdges (s old : State) : (s.senEdges old).out = s.out ∧ (s.senEdges old).free = s.free :=
  Prod.mk.inj (each_keeps (fun x => (x.out, x.free)) _ (fun x g => by dsimp only; split <;> rfl) s _)

theorem out_jtagLoad (s : State) (n : Nat) : (s.jtagLoad n).out = s.out ∧ (s.jtagLoad n).free = s.free := by
  unfold State.jtagLoad
  split
  · exact ⟨rfl, rfl⟩
  · exact out_senEdges _ s

/-- An instruction that is loaded changes no cell, and not the pin TESTEN. -/
theorem jtag_jtagLoad (s : State) (n : Nat) :
    (s.jtagLoad n).jtag.cells = s.jtag.cells ∧ (s.jtagLoad n).jtag.testen = s.jtag.testen := by
  unfold State.jtagLoad
  split
  · exact ⟨rfl, rfl⟩
  · rw [jtag_senEdges]
    exact ⟨rfl, rfl⟩

/-- A delay changes only with the level of its SEN (R61). -/
theorem pha_jtagLoad {n : Nat} (h : ∀ g, g < 9 → s.senHigh g = (s.jtagLoad n).senHigh g) : (s.jtagLoad n).pha = s.pha := by
  unfold State.jtagLoad at h ⊢
  split at h
  · rw [if_pos ‹_›]
  · rw [if_neg ‹_›, senEdges_of_same]
    exact fun g hg => (h g hg).trans (senHigh_senEdges _ s g)

theorem jtag_boundaryScan (s : State) (cells : Bytes) :
    (s.boundaryScan cells).jtag.ir = s.jtag.ir ∧ (s.boundaryScan cells).jtag.testen = s.jtag.testen := by
  unfold State.boundaryScan
  rw [jtag_senEdges]
  exact ⟨rfl, rfl⟩

/-- The cells move no SEN while no boundary scan is in force, so that SAMPLE/PRELOAD moves none. -/
theorem boundaryScan_sampled (hfree : s.jtagHolds = false) (cells : Bytes) :
    (s.boundaryScan cells).pha = s.pha ∧ ∀ g, (s.boundaryScan cells).senHigh g = s.senHigh g := by
  have hsame : ∀ (x : State) g, x = { s with jtag := { s.jtag with cells := x.jtag.cells }, out := x.out, free := x.free } →
      s.senHigh g = x.senHigh g := by
    intro x g hx
    rw [hx]
    have hfree' : State.jtagHolds { s with jtag := { s.jtag with cells := x.jtag.cells }, out := x.out, free := x.free } = false := hfree
    rw [State.senHigh, State.senHigh, hfree, hfree']
    rfl
  unfold State.boundaryScan
  refine ⟨?_, fun g => ?_⟩
  · rw [senEdges_of_same (fun g _ => hsame _ g rfl)]
    rfl
  · rw [senHigh_senEdges]
    exact (hsame _ g rfl).symm

variable {i : Instr} {cells : Bytes} {code : Nat}

/-- What an instruction of the port does: nothing, where the port has no power or has no such instruction; load an instruction; load
one and shift a value out; or load one and scan the boundary register (R457, R458). -/
theorem jtag_row (hi : i ∈ [.idcode, .samplePreload cells, .extest cells, .highz, .clamp, .bypass, .waimondInstruction code])
    (ht : exec i s = .next t) :
    t = s ∨ (∃ n, t = s.jtagLoad n)
    ∨ (∃ n o, s.pmu.ember = false ∧ (i = .idcode ∨ i = .extest cells ∧ cells ≠ [] ∧ n ≠ 3) ∧ t = (s.jtagLoad n).emit o)
    ∨ (∃ n, s.pmu.ember = false ∧ (i = .samplePreload cells ∧ n = 2 ∨ i = .extest cells ∧ cells ≠ [] ∧ n = 3)
      ∧ t = (s.jtagLoad n).boundaryScan cells) := by
  have hload : ∀ {n}, exec i s = .next ((s.jtagLoad n).keep s) → ∃ n, t = s.jtagLoad n := fun {n} h =>
    ⟨n, by rw [← (OnlyPort.jtagLoad s n).keep]; exact Host.Outcome.next.inj (ht.symm.trans h)⟩
  have hemit : ∀ {n o}, exec i s = .next (((s.jtagLoad n).emit o).keep s) → t = (s.jtagLoad n).emit o := fun {n o} h => by
    rw [← ((OnlyPort.jtagLoad s n).trans (u := (s.jtagLoad n).emit o) ⟨_, _, _, _, rfl⟩).keep]
    exact Host.Outcome.next.inj (ht.symm.trans h)
  have hscan : ∀ {n}, exec i s = .next (((s.jtagLoad n).boundaryScan cells).keep s) → t = (s.jtagLoad n).boundaryScan cells :=
    fun {n} h => by
      rw [← ((OnlyPort.jtagLoad s n).trans (.boundaryScan _ cells)).keep]
      exact Host.Outcome.next.inj (ht.symm.trans h)
  have hidle : exec i s = .next (s.keep s) → t = s := fun h => Host.Outcome.next.inj (ht.symm.trans h)
  simp only [List.mem_cons, List.not_mem_nil, or_false] at hi
  rcases hi with rfl | rfl | rfl | rfl | rfl | rfl | rfl
  · cases hpower : s.pmu.ember
    · exact .inr (.inr (.inl ⟨1, _, rfl, .inl rfl, hemit (exec_idcode_powered hpower)⟩))
    · exact .inl (hidle ((exec_idcode s).trans (runsEver_next rfl (if_pos hpower))))
  · cases hpower : s.pmu.ember
    · exact .inr (.inr (.inr ⟨2, rfl, .inl ⟨rfl, rfl⟩, hscan (exec_samplePreload_powered hpower cells)⟩))
    · exact .inl (hidle ((exec_samplePreload cells s).trans (runsEver_next rfl (if_pos hpower))))
  · by_cases hbare : (s.pmu.ember || 8 * cells.length == 0) = true
    · exact .inr (.inl (hload ((exec_extest cells s).trans (runsEver_next rfl (if_pos hbare)))))
    · obtain ⟨hpower, hcells⟩ : s.pmu.ember = false ∧ cells ≠ [] := by simpa using hbare
      have hexec := exec_extest_scan hpower hcells
      cases hoff : s.railsOff
      · rw [if_neg (Bool.eq_false_iff.mp hoff)] at hexec
        exact .inr (.inr (.inl ⟨0x3F, _, hpower, .inr ⟨rfl, hcells, by decide⟩, hemit hexec⟩))
      · rw [if_pos hoff] at hexec
        exact .inr (.inr (.inr ⟨3, hpower, .inr ⟨rfl, hcells, rfl⟩, hscan hexec⟩))
  · exact .inr (.inl (hload ((exec_highz s).trans (runsEver_next rfl rfl))))
  · exact .inr (.inl (hload ((exec_clamp s).trans (runsEver_next rfl rfl))))
  · exact .inr (.inl (hload ((exec_bypass s).trans (runsEver_next rfl rfl))))
  · have hbypass : ¬ PrivateRuns code s := fun hruns => by
      rw [exec_waimondInstruction_refused hruns] at ht
      cases ht
    rw [exec_waimondInstruction_bypass hbypass] at ht hload hidle
    cases hcode : (wfWaimondInstruction code && waimondCode code)
    · rw [hcode] at hidle
      exact .inl (hidle rfl)
    · exact .inr (.inl (hload (runsEver_next hcode rfl)))

end

/-- Settles O55: an instruction is loaded, and then at most a value is shifted out or the boundary register scanned. -/
theorem jtagTouchesOnlyThePort : Obligations.JtagTouchesOnlyThePort := by
  intro s t i cells code hi ht
  rcases jtag_row hi ht with rfl | ⟨n, rfl⟩ | ⟨n, o, hpower, hrow, rfl⟩ | ⟨n, hpower, hrow, rfl⟩
  · exact ⟨rfl, rfl, fun _ _ _ => ⟨rfl, rfl⟩, fun _ _ => rfl, fun _ _ => rfl⟩
  · exact ⟨(OnlyPort.jtagLoad s n).eq, (jtag_jtagLoad s n).2, fun _ _ _ => out_jtagLoad s n, fun _ _ => (jtag_jtagLoad s n).1,
      fun _ hsen => pha_jtagLoad hsen⟩
  · refine ⟨((OnlyPort.jtagLoad s n).trans (u := (s.jtagLoad n).emit o) ⟨_, _, _, _, rfl⟩).eq, (jtag_jtagLoad s n).2, ?_,
      fun _ _ => (jtag_jtagLoad s n).1, fun _ hsen => pha_jtagLoad hsen⟩
    rintro hid - hbare
    rcases hrow with rfl | ⟨rfl, hcells, -⟩
    · exact absurd rfl hid
    · exact absurd (hbare rfl) hcells
  · obtain ⟨hir, htesten⟩ := jtag_boundaryScan (s.jtagLoad n) cells
    refine ⟨((OnlyPort.jtagLoad s n).trans (.boundaryScan _ cells)).eq, htesten.trans (jtag_jtagLoad s n).2, ?_, ?_, ?_⟩
    · rintro - hsample hbare
      rcases hrow with ⟨rfl, -⟩ | ⟨rfl, hcells, -⟩
      · exact absurd rfl hsample
      · exact absurd (hbare rfl) hcells
    · rintro hsample hbare
      rcases hrow with ⟨rfl, -⟩ | ⟨rfl, hcells, rfl⟩
      · exact absurd rfl hsample
      · exact absurd (hbare rfl) (not_or.mpr ⟨hcells, not_not.mpr (hir.trans (ir_jtagLoad hpower 3))⟩)
    · rintro hbare hsen
      rcases hrow with ⟨rfl, rfl⟩ | ⟨rfl, hcells, rfl⟩
      · have hfree : (s.jtagLoad 2).jtagHolds = false := by simp [State.jtagHolds, ir_jtagLoad hpower]
        obtain ⟨hpha, hsame⟩ := boundaryScan_sampled hfree cells
        exact hpha.trans (pha_jtagLoad fun g hg => (hsen g hg).trans (hsame g))
      · exact absurd (hbare rfl) (not_or.mpr ⟨hcells, not_not.mpr (hir.trans (ir_jtagLoad hpower 3))⟩)

end Sys2Proof.Machine
end

section
/-! PROOFS. What passes between a core's port and the interconnect: responses, accepted writes, and bytes that are no instruction (R243, R279 to R281). -/

namespace Sys2Proof.Machine
open Sys2Proof

/-- A change of one entry of a list is what it makes of that entry. -/
theorem modNth_congr {α : Type} {l : List α} {i : Nat} {f g : α → α} {d : α} (h : f (nth l i d) = g (nth l i d)) :
    modNth l i f = modNth l i g := by
  by_cases hi : i < l.length
  · refine List.ext_getElem? fun j => ?_
    have hd : nth l i d = l[i] := by simp [nth, hi]
    rw [modNth, modNth, List.getElem?_modify, List.getElem?_modify]
    by_cases hj : i = j
    · subst hj
      rw [hd] at h
      simp [hi, h]
    · simp [hj]
  · rw [modNth_beyond (by omega), modNth_beyond (by omega)]

section
variable {s x u : State} {p q : Nat} {l : PLoad} {w : Word}

theorem modCore_congr {f g : PyCore → PyCore} (h : f (s.core p) = g (s.core p)) : s.modCore p f = s.modCore p g := by
  rw [State.modCore, State.modCore, modNth_congr h]

/-- A bad response: exception 14 at the load (R280, R326). -/
theorem finishLoad_bad (hload : (s.core p).pload = some l) : (s.finishLoad p false).2
    = (s.modCore p (fun c => { c with pload := none })).flashResume.takeException p 14 0 (BitVec.ofNat 32 l.addr) (s.pcNow p) := by
  simp [State.finishLoad, hload]

/-- A good response: the word lands, and the core moves past the load (R264, R280). -/
theorem finishLoad_good (hload : (s.core p).pload = some l) (hflash : s.flashWaits l.addr = false)
    (hword : (s.flashServe l.addr).farWord p l.addr = (.val w, x)) : (s.finishLoad p true).2
    = ((x.modCore p (fun c => { c with pload := none })).flashResume.result p 3 l.dest
        (extended (BitVec.ofNat 32 (pickBytes w l.addr l.width)) l.width l.signed)).advance p l.len 1 := by
  simp [State.finishLoad, hload, hflash, hword]

theorem exec_interconnectResponse_load (ha : s.alive = true) (hp : p < 6) (hload : (s.core p).pload = some l) (good : Bool) :
    exec (.interconnectResponse p good) s = .next ((s.finishLoad p good).2.keep s) :=
  (exec_interconnectResponse p good s).trans (runs_next (decide_eq_true hp) ha (if_pos (by simp [hload])))

theorem exec_interconnectResponse_write {e : StEntry} {es : List StEntry} (ha : s.alive = true) (hp : p < 6)
    (hload : (s.core p).pload = none) (hposted : (s.core p).posted = e :: es) (good : Bool) :
    exec (.interconnectResponse p good) s = .next ((s.deliverOne p e).keep s) :=
  (exec_interconnectResponse p good s).trans (runs_next (decide_eq_true hp) ha (by simp [hload, hposted]))

/-- The port of another core grants the load that is outstanding to it (R279). -/
theorem exec_remoteAccess_load {r : PortReq} (ha : s.alive = true) (hq : q < 6)
    (hr : r = { asker := p, addr := l.addr, width := l.width, store := none }) (harea : areaOf l.addr = .peer q)
    (hload : (s.core p).pload = some l) : exec (.remoteAccess q r) s = .next ((s.finishLoad p true).2.keep s) := by
  subst hr
  exact (exec_remoteAccess q _ s).trans (runs_next (decide_eq_true hq) ha (by simp [harea, hload]))

/-- It grants the oldest write on its way to it (R279). -/
theorem exec_remoteAccess_write {r : PortReq} {e : StEntry} {v : Word} (ha : s.alive = true) (hq : q < 6)
    (hr : r = { asker := p, addr := e.addr, width := r.width, store := some v }) (harea : areaOf e.addr = .peer q)
    (hfirst : (s.core p).posted.find? (fun e => areaOf e.addr = .peer q) = some e) (hbytes : e.bytes = leBytes r.width v.toNat) :
    exec (.remoteAccess q r) s = .next ((s.deliverOne p e).keep s) := by
  generalize r.width = n at hr hbytes
  subst hr
  refine (exec_remoteAccess q _ s).trans (runs_next (decide_eq_true hq) ha ?_)
  simp only [harea, hfirst, hbytes, ne_eq, not_true_eq_false, if_false, and_self, if_true]

/-- An accepted write leaves the interconnect and is performed at its target (R281). -/
theorem deliverOne_eq (s : State) (p : Nat) (e : StEntry) (hx : x = s.modCore p (fun c => { c with posted := c.posted.erase e })) :
    s.deliverOne p e = if areaOf e.addr = .periph then x.regEffect e.addr (wordOfLe e.bytes) else x.performFar p e := by
  rw [State.deliverOne, hx]

theorem exec_illegalInstruction_fetched {code : Nat} {a : Word} (ha : s.alive = true) (hp : p < 6) (hissue : s.issuing p = true)
    (hload : (s.core p).pload = none) (hflash : s.fetchWaits p 1 = false) (hfetch : s.fetch p 1 = (code, a, u)) :
    exec (.illegalInstruction p) s = .next ((if code = 0 then u.takeException p 1 3 0 (u.pcNow p)
      else u.takeException p code 2 a (u.pcNow p)).keep s) := by
  refine (exec_illegalInstruction p s).trans (runs_next (decide_eq_true hp) ha ?_)
  simp only [hissue, finishLoad_none hload, hflash, hfetch, Bool.not_true, Bool.false_eq_true, if_false]
  cases code <;> rfl

end

/-- Settles O35: a response finishes the load or performs the oldest write, a grant does so for the access it names, and illegal
bytes are fetched like an instruction. -/
theorem portRowsComplete : Obligations.PortRowsComplete := by
  refine ⟨?_, ?_, ?_, ?_⟩
  · intro s x p l w v ha hp hload
    refine ⟨?_, fun hflash hword hv => ⟨?_, fun q r hq hr harea => ?_⟩⟩
    · rw [exec_interconnectResponse_load ha hp hload, finishLoad_bad hload]
    · rw [exec_interconnectResponse_load ha hp hload, finishLoad_good hload hflash hword, hv]
    · rw [exec_remoteAccess_load ha hq hr harea hload, finishLoad_good hload hflash hword, hv]
  · intro s x p e es good ha hp hload hposted hx
    have hleft : x = s.modCore p (fun c => { c with posted := c.posted.erase e }) := by
      rw [hx]
      exact modCore_congr (by rw [hposted, List.erase_cons_head])
    rw [exec_interconnectResponse_write ha hp hload hposted, deliverOne_eq s p e hleft]
    exact ⟨fun harea => by rw [if_pos harea], fun harea => by rw [if_neg harea]⟩
  · intro s x p q e r v ha hq harea hfirst hr hbytes hx
    rw [exec_remoteAccess_write ha hq hr harea hfirst hbytes, deliverOne_eq s p e hx, if_neg (by simp [harea]), State.performFar, harea]
  · intro s p ha hp hissue hload hflash code a u hfetch
    rw [exec_illegalInstruction_fetched ha hp hissue hload hflash hfetch]
    exact ⟨fun hcode => by rw [if_pos hcode], fun hcode => by rw [if_neg hcode]⟩

end Sys2Proof.Machine
end

section
/-! PROOFS. Stores on their way: what a retirement and a flush of the merge buffer change in memory (R281, R284). -/

namespace Sys2Proof.Machine
open Sys2Proof

/-- The number that bytes spell is spelt by them. -/
theorem leBytes_ofLe (bs : Bytes) : leBytes bs.length (ofLe bs) = bs := by
  induction bs with
  | nil => rfl
  | cons b bs ih =>
    have hb := b.isLt
    have hlow : BitVec.ofNat 8 (b.toNat + 256 * ofLe bs) = b := by
      refine BitVec.eq_of_toNat_eq ?_
      rw [BitVec.toNat_ofNat]
      omega
    rw [List.length_cons, leBytes, ofLe, hlow, show (b.toNat + 256 * ofLe bs) / 256 = ofLe bs by omega, ih]

theorem leBytes_wordOfLe {bs : Bytes} (h : bs.length = 4) : leBytes 4 (wordOfLe bs).toNat = bs := by
  have hlt := ofLe_lt bs
  rw [h] at hlt
  rw [wordOfLe, BitVec.toNat_ofNat, Nat.mod_eq_of_lt (by omega), ← h, leBytes_ofLe]

section
variable {s : State} {p k i a : Nat} {bs : Bytes} {e : StEntry} {es : List StEntry}

/-- A word spelt by four bytes puts them into memory. -/
theorem setWord_wordOfLe (s : State) (k : Nat) (h : bs.length = 4) : s.setWord k (wordOfLe bs) = s.setBytes k bs := by
  rw [State.setWord, leBytes_wordOfLe h]

theorem byte_of_mem {t : State} (h : t.mem = s.mem) (a : Nat) : t.byte a = s.byte a := by rw [State.byte, State.byte, h]

/-- A checked write of a word puts its four bytes into memory, and nothing else. -/
theorem byte_writeEcc_inside (hmem : memWf s.mem = true) (hbs : bs.length = 4) (b : Bool) (hi : i < 4) :
    (s.writeEcc p k b (wordOfLe bs)).byte (k + i) = nth bs i 0 := by
  rw [byte_of_mem (writeEcc_mem s p k b _), setWord_wordOfLe s k hbs, byte_setBytes_inside hmem (by omega)]

theorem byte_writeEcc_outside (hmem : memWf s.mem = true) (hbs : bs.length = 4) (b : Bool) (ha : a < k ∨ k + 4 ≤ a) :
    (s.writeEcc p k b (wordOfLe bs)).byte a = s.byte a := by
  rw [byte_of_mem (writeEcc_mem s p k b _), setWord_wordOfLe s k hbs, byte_setBytes_outside hmem (by omega)]

theorem core_writeEcc (q : Nat) (b : Bool) (v : Word) : (s.writeEcc p k b v).core q = s.core q := by
  rw [State.core, State.core, writeEcc_cores]

/-- The oldest store has left the buffer. -/
def State.sbTaken (s : State) (p : Nat) (es : List StEntry) : State := s.modCore p (fun c => { c with sb := es })

section
variable (hsb : (s.core p).sb = e :: es)
include hsb

/-- A whole word for the core's own RAM is written there, and the merge buffer gives up that word where it holds it (R281, R284). -/
theorem retireStore_whole (harea : areaOf e.addr = .loc) (hlen : e.bytes.length = 4) (hk : k = physOf p (e.addr / 4 * 4)) :
    ∃ f : PyCore → PyCore, (∀ c, (f c).sb = c.sb) ∧ s.retireStore p = ((s.sbTaken p es).modCore p f).writeEcc p k false (wordOfLe e.bytes) := by
  have hid : (s.sbTaken p es).modCore p id = s.sbTaken p es := by
    rw [State.modCore, modNth, List.modify_id]
  unfold State.retireStore
  rw [hsb]
  simp only [harea, hlen, if_true, ← hk]
  rw [← State.sbTaken]
  split
  · split
    · exact ⟨fun c => { c with mb := none }, fun _ => rfl, rfl⟩
    · exact ⟨id, fun _ => rfl, by rw [hid]⟩
  · exact ⟨id, fun _ => rfl, by rw [hid]⟩

/-- A narrow one enters the empty merge buffer (R284). -/
theorem retireStore_narrow (harea : areaOf e.addr = .loc) (hlen : e.bytes.length < 4) (hmb : ((s.sbTaken p es).core p).mb = none) :
    ∃ x, s.retireStore p = (s.sbTaken p es).modCore p (fun c => { c with mb := some x }) := by
  unfold State.retireStore
  rw [hsb]
  simp only [harea, if_neg hlen.ne, if_true]
  rw [← State.sbTaken, hmb]
  exact ⟨_, rfl⟩

/-- One for another target is handed to the interconnect (R281). -/
theorem retireStore_posted (harea : areaOf e.addr ≠ .loc) :
    s.retireStore p = (s.sbTaken p es).modCore p (fun c => { c with posted := c.posted ++ [e] }) := by
  unfold State.retireStore
  rw [hsb]
  simp only [if_neg harea]
  rfl

end

/-- A merge buffer over a word without errors is merged into it (R284). -/
theorem flushMerge_clean {bs : List (Option Byte)} (hmb : (s.core p).mb = some (k, bs)) (hflips : s.flipsAt k = 0) :
    s.flushMerge p = (s.modCore p (fun c => { c with mb := none })).writeEcc p k false (mergeBytes (s.word k) bs) := by
  rw [State.flushMerge, State.flushWord, hmb]
  simp only [readEcc_clean hflips]

end

/-- The bytes of a merged word (R284): the held ones, and the word's own. -/
def mergedByte (s : State) (k : Nat) (bs : List (Option Byte)) (i : Nat) : Byte :=
  (nth bs i none).getD (s.byte (k + i))

theorem nth_leBytes_word (s : State) (k : Nat) {i : Nat} (hi : i < 4) : nth (leBytes 4 (s.word k).toNat) i 0 = s.byte (k + i) := by
  rw [State.word, leBytes_wordOfLe (by simp [State.bytes])]
  simp [nth, State.bytes, hi]

theorem mergeBytes_word (s : State) (k : Nat) (bs : List (Option Byte)) :
    mergeBytes (s.word k) bs = wordOfLe ((List.range 4).map (mergedByte s k bs)) := by
  unfold mergeBytes
  refine congrArg wordOfLe (List.map_congr_left fun i hi => ?_)
  rw [mergedByte, nth_leBytes_word s k (List.mem_range.mp hi)]
  cases nth bs i none <;> rfl

/-- Settles O50: each kind of retirement and the flush are one update of the core and at most one checked write of a word. -/
theorem storesRetireToTheirBytes : Obligations.StoresRetireToTheirBytes := by
  refine ⟨?_, ?_⟩
  · intro s p k e es ha hp hmem hcores hsb
    have hexec : exec (.storeBufferRetire p) s = .next ((s.retireStore p).keep s) :=
      (exec_storeBufferRetire p s).trans (runs_next (decide_eq_true hp) ha rfl)
    have hlt : p < s.cores.length := by omega
    have hlt' : p < (s.sbTaken p es).cores.length := by rwa [State.sbTaken, State.modCore_cores, modNth_length]
    have htaken : (s.sbTaken p es).core p = { s.core p with sb := es } := core_modCore_same hlt _
    refine ⟨fun harea hlen halign hk => ⟨_, hexec, ?_⟩, fun harea hlen hmb => ⟨_, hexec, ?_⟩, fun harea => ⟨_, hexec, ?_⟩⟩
    · obtain ⟨f, hf, hret⟩ := retireStore_whole hsb harea hlen
        (show k = physOf p (e.addr / 4 * 4) by rw [hk, Nat.div_mul_cancel (Nat.dvd_of_mod_eq_zero halign)])
      rw [hret]
      refine ⟨fun i hi => byte_writeEcc_inside (s := (s.sbTaken p es).modCore p f) hmem hlen false hi,
        fun a ha => byte_writeEcc_outside (s := (s.sbTaken p es).modCore p f) hmem hlen false ha, ?_⟩
      refine (congrArg PyCore.sb (core_writeEcc p false _)).trans ?_
      rw [core_modCore_same hlt', hf, htaken]
    · obtain ⟨x, hret⟩ := retireStore_narrow hsb harea hlen (by rw [htaken]; exact hmb)
      have hcore := core_modCore_same hlt' (fun c => { c with mb := some x })
      rw [← hret, htaken] at hcore
      refine ⟨by rw [hret]; rfl, (congrArg PyCore.sb hcore).trans rfl, ?_⟩
      exact (congrArg (fun c => c.mb.isSome) hcore).trans rfl
    · have hret := retireStore_posted hsb harea
      have hcore := core_modCore_same hlt' (fun c => { c with posted := c.posted ++ [e] })
      rw [← hret, htaken] at hcore
      exact ⟨by rw [hret]; rfl, (congrArg PyCore.sb hcore).trans rfl, (congrArg PyCore.posted hcore).trans rfl⟩
  · intro s p k bs hmem hp hcores hmb hflips
    rw [flushMerge_clean hmb hflips, mergeBytes_word]
    have hlen : ((List.range 4).map (mergedByte s k bs)).length = 4 := by simp
    refine ⟨fun i hi => ?_, fun a ha => byte_writeEcc_outside (s := s.modCore p _) hmem hlen false ha, ?_⟩
    · have hnth : nth ((List.range 4).map (mergedByte s k bs)) i 0 = mergedByte s k bs i := by
        simp only [nth, List.getD_eq_getElem _ _ (hlen.symm ▸ hi), List.getElem_map, List.getElem_range]
      rw [byte_writeEcc_inside (s := s.modCore p _) hmem hlen false hi, hnth, mergedByte]
      cases nth bs i none <;> rfl
    · rw [core_writeEcc, core_modCore_same (by omega)]

end Sys2Proof.Machine
end

section
/-! PROOFS. The microword: the encodings that are no word of any format, the words of the formats, and what a microword does (R293 to R301). -/

namespace Sys2Proof.Machine
open Sys2Proof

section
variable {v : Nat} (hv : v < 2 ^ 24)
include hv

theorem getBits_ofNat (hi lo : Nat) : getBits (BitVec.ofNat 32 v) hi lo = v / 2 ^ lo % 2 ^ (hi + 1 - lo) := by
  rw [getBits, BitVec.toNat_ofNat, Nat.mod_eq_of_lt (show v < 2 ^ 32 by omega)]

theorem wbit_ofNat (i : Nat) : wbit (BitVec.ofNat 32 v) i = (v / 2 ^ i % 2 == 1) := by
  rw [wbit, nbit, BitVec.toNat_ofNat, Nat.mod_eq_of_lt (show v < 2 ^ 32 by omega)]

/-- Bits [23:20] name the format (R293). -/
theorem microOp_eq : getBits (BitVec.ofNat 32 v) 23 20 = v / 2 ^ 20 := by
  rw [getBits_ofNat hv]
  omega

theorem microOf_reserved (h : v / 2 ^ 20 = 0 ∨ 9 ≤ v / 2 ^ 20) : microOf v = .ill := by
  unfold microOf
  dsimp only
  rw [microOp_eq hv]
  split
  any_goals omega
  rfl

theorem microOf_alu (h : v / 2 ^ 20 = 1) :
    microOf v = .alu (v / 2 ^ 16 % 16) (v / 2 ^ 11 % 32) (v / 2 ^ 6 % 32) (v / 2 % 32) (v % 2 == 1) := by
  simp only [microOf, microOp_eq hv, h, getBits_ofNat hv, wbit_ofNat hv]
  simp

theorem microOf_lit (h : v / 2 ^ 20 = 2) : microOf v = .lit (v / 2 ^ 15 % 32) (v % 2 ^ 15) := by
  simp only [microOf, microOp_eq hv, h, getBits_ofNat hv]
  simp

theorem microOf_mem (h : v / 2 ^ 20 = 3) : microOf v = memMicro (BitVec.ofNat 32 v) := by
  simp only [microOf, microOp_eq hv, h]

theorem microOf_br (h : v / 2 ^ 20 = 4) : microOf v
    = if v / 2 ^ 16 % 16 < 10 then .br (v / 2 ^ 16 % 16) (v / 2 ^ 15 % 2 == 1) (v % 2 ^ 15) else .ill := by
  simp only [microOf, microOp_eq hv, h, getBits_ofNat hv, wbit_ofNat hv]
  simp

theorem microOf_wait (h : v / 2 ^ 20 = 5) : microOf v = waitMicro (BitVec.ofNat 32 v) := by
  simp only [microOf, microOp_eq hv, h]

theorem microOf_seq (h : v / 2 ^ 20 = 6) : microOf v = seqMicro (BitVec.ofNat 32 v) := by
  simp only [microOf, microOp_eq hv, h]

theorem microOf_sys (h : v / 2 ^ 20 = 7) : microOf v = sysMicro (BitVec.ofNat 32 v) := by
  simp only [microOf, microOp_eq hv, h]

theorem microOf_long (h : v / 2 ^ 20 = 8) (hbit : v % 2 = 1) : microOf v = .ill := by
  simp only [microOf, microOp_eq hv, h, wbit_ofNat hv]
  simp [hbit]

/-- MEM of width 3, or with a reserved bit (R293). -/
theorem memMicro_ill (h : v / 2 ^ 16 % 4 = 3 ∨ v % 8 ≠ 0) : memMicro (BitVec.ofNat 32 v) = .ill := by
  refine if_pos ?_
  rw [getBits_ofNat hv, getBits_ofNat hv]
  simpa using h

/-- WAIT for a reserved condition, with a reserved bit, or with INT where it is not FABRIC and without it where it is (R298). -/
theorem waitMicro_ill (h : 6 ≤ v / 2 ^ 16 % 16 ∨ v / 2 ^ 10 % 32 ≠ 0 ∨ (v / 2 ^ 16 % 16 = 3 ∧ v / 2 ^ 15 % 2 = 0)
    ∨ (v / 2 ^ 16 % 16 ≠ 3 ∧ v / 2 ^ 15 % 2 = 1)) : waitMicro (BitVec.ofNat 32 v) = .ill := by
  refine if_neg fun hok => ?_
  simp only [getBits_ofNat hv, wbit_ofNat hv, Nat.reducePow, Nat.reduceAdd, Nat.reduceSub, Bool.and_eq_true, beq_iff_eq] at h hok
  obtain ⟨⟨harg, hres⟩, hint⟩ := hok
  rcases h with h | h | ⟨h, h'⟩ | ⟨h, h'⟩
  · split at harg
    any_goals omega
    contradiction
  · exact h hres
  · simp [h, h'] at hint
  · simp [h, h'] at hint

theorem seqMicro_ill (h : 4 ≤ v / 2 ^ 17 % 8) : seqMicro (BitVec.ofNat 32 v) = .ill := by
  simp only [seqMicro, getBits_ofNat hv]
  split
  · rfl
  · split
    any_goals omega
    rfl

theorem seqMicro_call (h : v / 2 ^ 15 % 32 = 4) : seqMicro (BitVec.ofNat 32 v) = .call (v % 2 ^ 15) := by
  have hop : v / 131072 % 8 = 1 := by omega
  have hfree : v / 32768 % 4 = 0 := by omega
  simp only [seqMicro, getBits_ofNat hv]
  simp [hop, hfree]

theorem sysMicro_ill (h : 9 ≤ v / 2 ^ 16 % 16) : sysMicro (BitVec.ofNat 32 v) = .ill := by
  refine if_neg fun hok => ?_
  simp only [getBits_ofNat hv] at hok
  split at hok
  any_goals omega
  contradiction

end

section
variable {m n : Mseq} {a dst : Nat} {w v : Word}

/-- No long operation in flight, nothing to wait for (R256). -/
theorem finishLongs_nil {s : State} {p : Nat} (h : (s.core p).long = []) (f : LongOp → Bool) : s.finishLongs p f = s := by
  rw [State.finishLongs, h]
  rfl

theorem exec_eq_act (h : (m.s.core m.o.p).long = []) (a : Nat) (w : Micro) : m.exec a w = m.act a w := by
  have hsettled : m.settled (m.sels w) = m := by rw [Mseq.settled, Mseq.map, finishLongs_nil h]
  rw [Mseq.exec, hsettled, Mseq.map, finishLongs_nil h]

/-- A temporary reads back what was written to it (R294). -/
theorem write_temp (hlo : 16 ≤ dst) (hhi : dst < 24) (ht : m.t.length = 8) :
    (m.write dst v).read dst = v ∧ (m.write dst v).s = m.s := by
  have hdest : m.dest dst = none := by simp [Mseq.dest, Mseq.destIn, hhi, show ¬ dst < 16 by omega]
  have hwrite : m.write dst v = { m with t := modNth m.t (dst - 16) (fun _ => v) } := by
    simp only [Mseq.write, hdest, if_pos hhi]
  rw [hwrite]
  refine ⟨?_, rfl⟩
  simp only [Mseq.read, Mseq.readIn, if_neg (show ¬ dst < 16 by omega), if_pos hhi]
  exact nth_modNth_same (by omega) _ _

/-- A G register of the operand bank reads back what was written to it (R294). -/
theorem write_greg (hdst : dst < 16) (hp : m.o.p < m.s.cores.length) (hbank : m.bank < (m.s.core m.o.p).banks.length)
    (hg : (m.s.bankOf m.o.p m.bank).g.length = 16) : (m.write dst v).read dst = v ∧ (m.write dst v).t = m.t := by
  have hdest : m.dest dst = some (.g m.bank dst) := by simp [Mseq.dest, Mseq.destIn, hdst]
  have hwrite : m.write dst v = m.map (fun s => s.modCore m.o.p (fun c => c.write (.g m.bank dst) v)) := by
    simp only [Mseq.write, hdest]
  have hcore : ((m.write dst v).s.core m.o.p) = (m.s.core m.o.p).write (.g m.bank dst) v := by
    rw [hwrite]
    exact core_modCore_same hp _
  have hop : (m.write dst v).o = m.o := by rw [hwrite]; rfl
  have hsame : (m.write dst v).bank = m.bank := by
    have hob : (m.write dst v).ob = m.ob := by rw [hwrite]; rfl
    rw [Mseq.bank, hob, hop, hcore]
    rfl
  refine ⟨?_, by rw [hwrite]; rfl⟩
  rw [Mseq.read, Mseq.readIn, if_pos hdst, hop, hsame, State.gReg, State.bankOf, hcore]
  change (nth (nth (modNth (m.s.core m.o.p).banks m.bank _) m.bank {}).g dst 0) = v
  rw [nth_modNth_same hbank]
  exact nth_modNth_same (by rw [State.bankOf] at hg; omega) _ _

end

/-- Settles O59: the formats one by one, and then what each microword does to the microsequencer. -/
theorem microwordsDoWhatTheirFormatSays : Obligations.MicrowordsDoWhatTheirFormatSays := by
  refine ⟨?_, ?_, ?_, ?_, ?_, ?_, ?_, ?_, ?_, ?_, ?_, ?_⟩
  · intro v hv
    refine ⟨microOf_reserved hv, fun hop h => ?_, fun hop h => ?_, fun hop h => ?_, fun hop h => ?_, fun hop h => ?_, microOf_long hv⟩
    · rw [microOf_mem hv hop, memMicro_ill hv h]
    · rw [microOf_br hv hop, if_neg (by omega)]
    · rw [microOf_wait hv hop, waitMicro_ill hv h]
    · rw [microOf_seq hv hop, seqMicro_ill hv h]
    · rw [microOf_sys hv hop, sysMicro_ill hv h]
  · intro fn dst sa sb fl hfn hdst hsa hsb hfl
    rw [microOf_alu (by omega) (by omega)]
    congr 1
    · omega
    · omega
    · omega
    · omega
    · rw [show (2 ^ 20 + fn * 2 ^ 16 + dst * 2 ^ 11 + sa * 2 ^ 6 + sb * 2 + fl) % 2 = fl by omega]
  · intro dst n hdst hn
    rw [microOf_lit (by omega) (by omega)]
    congr 1
    · omega
    · omega
  · intro k n hn
    refine ⟨fun hk => ?_, ?_⟩
    · rw [microOf_br (by omega) (by omega), if_pos (by omega)]
      congr 1
      · omega
      · rw [show (4 * 2 ^ 20 + k * 2 ^ 15 + n) / 2 ^ 15 % 2 = k % 2 by omega]
      · omega
    · rw [microOf_seq (by omega) (by omega), seqMicro_call (by omega) (by omega)]
      congr 1
      omega
  · intro m r
    refine ⟨fun hr => if_pos hr, fun hr => ?_, rfl, rfl, rfl, rfl, rfl, rfl, rfl⟩
    simp only [Mseq.read, Mseq.readIn, if_neg (show ¬ 16 + r < 16 by omega), if_pos (show 16 + r < 24 by omega),
      Nat.add_sub_cancel_left]
  · exact fun m a w => ⟨rfl, fun h => exec_eq_act h a w⟩
  · intro m n a dst v hact
    obtain rfl : m.write dst (BitVec.ofNat 32 v) = n := MicroStep.go.inj hact
    exact ⟨fun hlo hhi ht => write_temp hlo hhi ht, fun hdst hp hcores hbanks hbank hg =>
      write_greg hdst (by omega) (by omega) hg⟩
  · intro m n a fn dst sa sb hfn hcmp htst hlo hhi ht hact
    obtain rfl : m.write dst (aluOp fn false (m.read sa) (m.read sb) (wbit (m.s.status m.o.p) 1)).res = n := by
      refine Eq.trans ?_ (MicroStep.go.inj hact)
      simp [Mseq.alu, hcmp, htst]
    exact write_temp hlo hhi ht
  · intro m a c target neg
    refine congrArg MicroStep.go ?_
    cases m.cond c <;> cases neg <;> rfl
  · exact fun m => ⟨rfl, rfl, rfl, rfl, rfl, rfl, rfl, rfl⟩
  · intro m a target
    refine ⟨fun h => if_neg (by omega), fun h => if_pos h, fun h => ?_, fun r rs h => ?_, rfl, rfl, fun _ => rfl⟩
    · simp only [Mseq.act, h]
    · simp only [Mseq.act, h]
  · exact fun v => ⟨fun h => if_pos h, fun h => if_neg (by omega)⟩

end Sys2Proof.Machine
end

section
/-! PROOFS. An instruction or a service sequence under its microcode, and the fallback after a word that is not executed (R292, R299 to R301, R307, R325). -/

namespace Sys2Proof.Machine
open Sys2Proof

section
variable {s u t x : State} {p a n : Nat} {ill : Bool}

theorem rd_of_regs (h : t.regs = s.regs) (c : Nat) : t.rd c = s.rd c := by rw [State.rd, State.rd, h]

/-- A request of the interrupt controller writes its own two registers alone (R315). -/
theorem rd_icuRaise (h : spWf resetVal s.regs = true) {c : Nat} (hpend : c ≠ ICU_PEND (n / 32)) (hovr : c ≠ ICU_OVR (n / 32)) :
    (s.icuRaise n).rd c = s.rd c := by
  rcases icuRaise_cases s n with ⟨-, hraise⟩ | ⟨-, hraise⟩
  · rw [hraise, State.setBit, rd_wr_ne h _ hovr]
  · rw [hraise, State.setBit, rd_wr_ne h _ hpend]

theorem wf_icuRaise (h : spWf resetVal s.regs = true) : spWf resetVal (s.icuRaise n).regs = true := by
  rcases icuRaise_cases s n with ⟨-, hraise⟩ | ⟨-, hraise⟩ <;> rw [hraise] <;> exact regs_wf_wr h _ _

theorem icuRaise_uc (s : State) (n : Nat) : (s.icuRaise n).uc = s.uc := by
  obtain ⟨m, hraise⟩ := icuRaise_eq s n
  rw [hraise]

/-- It leaves the source pending (R315). -/
theorem bit_icuRaise (h : spWf resetVal s.regs = true) : (s.icuRaise n).bit (ICU_PEND (n / 32)) (n % 32) = true := by
  rcases icuRaise_cases s n with ⟨hset, hraise⟩ | ⟨-, hraise⟩
  · rw [hraise, bit_setBit_ne h _ _ _ (by simp only [ICU_PEND, ICU_OVR]; omega)]
    exact hset
  · rw [hraise, bit_setBit_same h _ (Nat.mod_lt _ (by decide))]

/-- A word that the fault names as failing holds its parity no more (R307). -/
def State.ucSpoilt (s : State) (p a : Nat) (ill : Bool) : State :=
  match (s.ucSource p a).2 with
  | some k => if !ill && parityOk (s.ucWord k) then s.setUcWord k (s.ucWord k ^^^ 0x1000000) else s
  | none => s

/-- The fault in UC_PAR and PARCNT (R307). -/
def State.ucNoted (s : State) (p a src : Nat) (ill : Bool) : State :=
  (((s.set (UC_PAR.SRC p) src).setb (UC_PAR.ILL p) ill).set (UC_PAR.ADDR p) a).bump (UC_STAT.PARCNT p)

/-- No SWITCH waits at core `p`. -/
def State.ucNoSwitch (s : State) (p : Nat) : State := { s with uc := { s.uc with sw := modNth s.uc.sw p (fun _ => none) } }

theorem ucNoSwitch_cores (s : State) (p : Nat) : (s.ucNoSwitch p).cores = s.cores := rfl

theorem ucNoSwitch_sw (s : State) (p : Nat) : (s.ucNoSwitch p).uc.sw = modNth s.uc.sw p (fun _ => none) := rfl

theorem ucNoSwitch_regs (s : State) (p : Nat) : (s.ucNoSwitch p).regs = s.regs := rfl

/-- A SWITCH that waits is cancelled (R307). -/
def State.ucSwitchOff (s : State) (p : Nat) : State :=
  if s.on (UC_STAT.SWPEND p) then
    { (s.set (UC_STAT.SWPEND p) 0).set (UC_STAT.RESULT p) 6 with
      uc := { s.uc with sw := modNth s.uc.sw p (fun _ => none) } }
  else s

theorem ucSwitchOff_eq (s : State) (p : Nat) : s.ucSwitchOff p
    = if s.on (UC_STAT.SWPEND p) then ((s.set (UC_STAT.SWPEND p) 0).set (UC_STAT.RESULT p) 6).ucNoSwitch p else s := by
  simp only [State.ucSwitchOff, State.ucNoSwitch, State.set_uc]

/-- The fault is recorded, and the store has not changed yet (R307). -/
def State.ucRecorded (s : State) (p a : Nat) (ill : Bool) : State :=
  (((s.ucSpoilt p a ill).ucNoted p a (s.ucSource p a).1 ill).ucSwitchOff p).icuRaise (14 + p)

/-- The fallback: lockup in the ROM's range and in patch memory, else another store and a machine check (R307). -/
theorem ucFault_eq (s : State) (p a : Nat) (ill : Bool) : s.ucFault p a ill
    = if s.get (UC_STAT.ACT p) = 0 ∨ (0x4000 ≤ a ∧ a < 0x5880) then (s.ucRecorded p a ill).lockUp p 5
      else ((s.ucRecorded p a ill).set (UC_STAT.ACT p) (if (s.ucRecorded p a ill).on (UC_STAT.SAME p)
        then 3 - s.get (UC_STAT.ACT p) else 0)).modCore p (fun c => { c with boundary := c.boundary ++ [12] }) := by
  unfold State.ucFault
  extract_lets act src spoilt recorded counted _ _ cancelled raised
  have hspoilt : spoilt = s.ucSpoilt p a ill := rfl
  have hcounted : counted = (s.ucSpoilt p a ill).ucNoted p a src.1 ill := by rw [← hspoilt]; rfl
  have hcancelled : cancelled = counted.ucSwitchOff p := rfl
  have hraised : raised = s.ucRecorded p a ill := by rw [State.ucRecorded, ← hcounted, ← hcancelled]
  rw [← hraised]

theorem ucSpoilt_frame (s : State) (p a : Nat) (ill : Bool) : (s.ucSpoilt p a ill).regs = s.regs
    ∧ (s.ucSpoilt p a ill).cores = s.cores ∧ (s.ucSpoilt p a ill).uc.sw = s.uc.sw := by
  unfold State.ucSpoilt
  split
  · split <;> exact ⟨rfl, rfl, rfl⟩
  · exact ⟨rfl, rfl, rfl⟩

theorem ucSwitchOff_cores (s : State) (p : Nat) : (s.ucSwitchOff p).cores = s.cores := by
  rw [ucSwitchOff_eq]
  split
  · rw [ucNoSwitch_cores, State.set_cores, State.set_cores]
  · rfl

theorem ucRecorded_cores (s : State) (p a : Nat) (ill : Bool) : (s.ucRecorded p a ill).cores = s.cores := by
  obtain ⟨-, hcores, -⟩ := ucSpoilt_frame s p a ill
  rw [State.ucRecorded, State.icuRaise_cores, ucSwitchOff_cores, State.ucNoted, State.bump_cores, State.set_cores, State.setb_cores,
    State.set_cores, hcores]

theorem UC_PAR_ne_STAT (p : Nat) : UC_PAR p ≠ UC_STAT p := by simp only [UC_PAR, UC_STAT]; omega

section
variable (h : spWf resetVal s.regs = true)
include h

theorem wf_ucNoted (src : Nat) : spWf resetVal (s.ucNoted p a src ill).regs = true :=
  regs_wf_set (regs_wf_set (regs_wf_set (regs_wf_set h _ _) _ _) _ _) _ _

theorem wf_ucSwitchOff : spWf resetVal (s.ucSwitchOff p).regs = true := by
  rw [ucSwitchOff_eq]
  split
  · rw [ucNoSwitch_regs]
    exact regs_wf_set (regs_wf_set h _ _) _ _
  · exact h

/-- UC_PAR with the fault in it (R307). -/
theorem rd_ucNoted_par (src : Nat) : (s.ucNoted p a src ill).rd (UC_PAR p)
    = putBits (putBits (putBits (s.rd (UC_PAR p)) 17 16 src) 15 15 (b2n ill)) 14 0 a := by
  have h1 := regs_wf_set h (UC_PAR.SRC p) src
  have h2 := regs_wf_set h1 (UC_PAR.ILL p) (b2n ill)
  rw [State.ucNoted, State.bump, State.setb, rd_set_ne (regs_wf_set h2 _ _) _ (UC_PAR_ne_STAT p)]
  exact (rd_set_same h2 (UC_PAR.ADDR p) a).trans (congrArg (putBits · 14 0 a) ((rd_set_same h1 (UC_PAR.ILL p) (b2n ill)).trans
    (congrArg (putBits · 15 15 (b2n ill)) (rd_set_same h (UC_PAR.SRC p) src))))

/-- UC_STAT with the count (R307). -/
theorem rd_ucNoted_stat (src : Nat) : (s.ucNoted p a src ill).rd (UC_STAT p)
    = putBits (s.rd (UC_STAT p)) 31 16 (satInc 65535 (s.get (UC_STAT.PARCNT p))) := by
  have h1 := regs_wf_set h (UC_PAR.SRC p) src
  have h2 := regs_wf_set h1 (UC_PAR.ILL p) (b2n ill)
  have hsame : (((s.set (UC_PAR.SRC p) src).set (UC_PAR.ILL p) (b2n ill)).set (UC_PAR.ADDR p) a).rd (UC_STAT p)
      = s.rd (UC_STAT p) := by
    rw [rd_set_ne h2 (f := UC_PAR.ADDR p) _ (UC_PAR_ne_STAT p).symm, rd_set_ne h1 (f := UC_PAR.ILL p) _ (UC_PAR_ne_STAT p).symm,
      rd_set_ne h (f := UC_PAR.SRC p) _ (UC_PAR_ne_STAT p).symm]
  rw [State.ucNoted, State.bump, State.setb]
  refine (rd_set_same (regs_wf_set h2 (UC_PAR.ADDR p) a) (UC_STAT.PARCNT p) _).trans ?_
  rw [State.get, State.get]
  change putBits (State.rd _ (UC_STAT p)) 31 16 (satInc 65535 (getBits (State.rd _ (UC_STAT p)) 31 16))
    = putBits (s.rd (UC_STAT p)) 31 16 (satInc 65535 (getBits (s.rd (UC_STAT p)) 31 16))
  rw [hsame]

theorem rd_ucSwitchOff_ne {c : Nat} (hc : c ≠ UC_STAT p) : (s.ucSwitchOff p).rd c = s.rd c := by
  rw [ucSwitchOff_eq]
  split
  · rw [rd_of_regs (ucNoSwitch_regs _ p)]
    exact (rd_set_ne (f := UC_STAT.RESULT p) (regs_wf_set h (UC_STAT.SWPEND p) 0) 6 hc).trans (rd_set_ne (f := UC_STAT.SWPEND p) h 0 hc)
  · rfl

theorem rd_ucSwitchOff_stat : (s.ucSwitchOff p).rd (UC_STAT p) = if s.on (UC_STAT.SWPEND p)
    then putBits (putBits (s.rd (UC_STAT p)) 6 6 0) 10 8 6 else s.rd (UC_STAT p) := by
  rw [ucSwitchOff_eq]
  split
  · rw [rd_of_regs (ucNoSwitch_regs _ p)]
    exact (rd_set_same (regs_wf_set h (UC_STAT.SWPEND p) 0) (UC_STAT.RESULT p) 6).trans
      (congrArg (putBits · 10 8 6) (rd_set_same h (UC_STAT.SWPEND p) 0))
  · rfl

end

theorem ucSource_lt (s : State) (p a : Nat) : (s.ucSource p a).1 < 4 := by
  have hact : s.get (UC_STAT.ACT p) < 4 := getBits_lt _ 1 0
  unfold State.ucSource
  dsimp only
  split
  · exact hact
  · split
    · cases s.ucMatch p a <;> simp
    · split
      · simp
      · exact hact

/-- What a fault leaves recorded (R307). -/
structure UcRecord (s x : State) (p a : Nat) (ill : Bool) : Prop where
  addr : x.get (UC_PAR.ADDR p) = a
  isIll : x.on (UC_PAR.ILL p) = ill
  src : x.get (UC_PAR.SRC p) = (s.ucSource p a).1
  pend : x.bit (ICU_PEND 0) (14 + p) = true
  parcnt : x.get (UC_STAT.PARCNT p) = min 65535 (s.get (UC_STAT.PARCNT p) + 1)
  cancelled : s.on (UC_STAT.SWPEND p) = true → x.on (UC_STAT.SWPEND p) = false ∧ x.get (UC_STAT.RESULT p) = 6

/-- UC_STAT after a fault, before the store changes: the count, and a SWITCH that waited cancelled (R307). -/
def ucStatAfter (w : Word) : Word :=
  if getBits w 6 6 ≠ 0 then putBits (putBits (putBits w 31 16 (satInc 65535 (getBits w 31 16))) 6 6 0) 10 8 6
  else putBits w 31 16 (satInc 65535 (getBits w 31 16))

theorem ucStatAfter_parcnt (w : Word) : getBits (ucStatAfter w) 31 16 = min 65535 (getBits w 31 16 + 1) := by
  have hlt : getBits w 31 16 < 65536 := getBits_lt w 31 16
  have hcount : getBits (putBits w 31 16 (satInc 65535 (getBits w 31 16))) 31 16 = min 65535 (getBits w 31 16 + 1) := by
    rw [getBits_putBits_same _ _ (by decide) (by decide), satInc]
    split <;> omega
  unfold ucStatAfter
  split
  · rw [getBits_putBits_apart _ _ (by decide) (by decide) (by decide), getBits_putBits_apart _ _ (by decide) (by decide) (by decide), hcount]
  · exact hcount

theorem ucStatAfter_cancelled {w : Word} (hw : getBits w 6 6 ≠ 0) :
    getBits (ucStatAfter w) 6 6 = 0 ∧ getBits (ucStatAfter w) 10 8 = 6 := by
  rw [ucStatAfter, if_pos hw]
  refine ⟨?_, getBits_putBits_same _ _ (by decide) (by decide)⟩
  rw [getBits_putBits_apart _ _ (by decide) (by decide) (by decide)]
  exact getBits_putBits_same _ _ (by decide) (by decide)

theorem ucStatAfter_same (w : Word) : getBits (ucStatAfter w) 4 4 = getBits w 4 4 := by
  unfold ucStatAfter
  split
  · rw [getBits_putBits_apart _ _ (by decide) (by decide) (by decide), getBits_putBits_apart _ _ (by decide) (by decide) (by decide),
      getBits_putBits_apart _ _ (by decide) (by decide) (by decide)]
  · rw [getBits_putBits_apart _ _ (by decide) (by decide) (by decide)]

section
variable (h : spWf resetVal s.regs = true)
include h

theorem wf_ucRecorded : spWf resetVal (s.ucRecorded p a ill).regs = true := by
  obtain ⟨hregs, -, -⟩ := ucSpoilt_frame s p a ill
  exact wf_icuRaise (wf_ucSwitchOff (wf_ucNoted (hregs.symm ▸ h) _))

theorem rd_ucRecorded_par : (s.ucRecorded p a ill).rd (UC_PAR p)
    = putBits (putBits (putBits (s.rd (UC_PAR p)) 17 16 (s.ucSource p a).1) 15 15 (b2n ill)) 14 0 a := by
  obtain ⟨hregs, -, -⟩ := ucSpoilt_frame s p a ill
  have hwf : spWf resetVal (s.ucSpoilt p a ill).regs = true := hregs.symm ▸ h
  rw [State.ucRecorded, rd_icuRaise (wf_ucSwitchOff (wf_ucNoted hwf _)) (by simp only [UC_PAR, ICU_PEND]; omega)
    (by simp only [UC_PAR, ICU_OVR]; omega), rd_ucSwitchOff_ne (wf_ucNoted hwf _) (UC_PAR_ne_STAT p), rd_ucNoted_par hwf,
    rd_of_regs hregs]

theorem rd_ucRecorded_stat : (s.ucRecorded p a ill).rd (UC_STAT p) = ucStatAfter (s.rd (UC_STAT p)) := by
  obtain ⟨hregs, -, -⟩ := ucSpoilt_frame s p a ill
  have hwf : spWf resetVal (s.ucSpoilt p a ill).regs = true := hregs.symm ▸ h
  have hget : ∀ f, (s.ucSpoilt p a ill).get f = s.get f := fun f => by rw [State.get, State.get, rd_of_regs hregs]
  rw [State.ucRecorded, rd_icuRaise (wf_ucSwitchOff (wf_ucNoted hwf _)) (by simp only [UC_STAT, ICU_PEND]; omega)
    (by simp only [UC_STAT, ICU_OVR]; omega), rd_ucSwitchOff_stat (wf_ucNoted hwf _)]
  have hstat := rd_ucNoted_stat hwf (p := p) (a := a) (ill := ill) (s.ucSource p a).1
  rw [rd_of_regs hregs, hget] at hstat
  have hon : ((s.ucSpoilt p a ill).ucNoted p a (s.ucSource p a).1 ill).on (UC_STAT.SWPEND p) = (getBits (s.rd (UC_STAT p)) 6 6 != 0) := by
    refine congrArg (· != 0) ?_
    change getBits (State.rd _ (UC_STAT p)) 6 6 = _
    rw [hstat, getBits_putBits_apart _ _ (by decide) (by decide) (by decide)]
  rw [hstat, hon, ucStatAfter]
  simp only [bne_iff_ne]
  rfl

theorem ucRecord_ucRecorded (hp : p < 6) (ha : a < 2 ^ 15) : UcRecord s (s.ucRecorded p a ill) p a ill := by
  have hpar := rd_ucRecorded_par h (p := p) (a := a) (ill := ill)
  have hstat := rd_ucRecorded_stat h (p := p) (a := a) (ill := ill)
  have hwf : spWf resetVal (((s.ucSpoilt p a ill).ucNoted p a (s.ucSource p a).1 ill).ucSwitchOff p).regs = true := by
    obtain ⟨hregs, -, -⟩ := ucSpoilt_frame s p a ill
    exact wf_ucSwitchOff (wf_ucNoted (hregs.symm ▸ h) _)
  refine ⟨?_, ?_, ?_, ?_, ?_, fun hpend => ?_⟩
  · change getBits (State.rd _ (UC_PAR p)) 14 0 = a
    rw [hpar, getBits_putBits_same _ _ (by decide) (by decide), Nat.mod_eq_of_lt ha]
  · change (getBits (State.rd _ (UC_PAR p)) 15 15 != 0) = ill
    rw [hpar, getBits_putBits_apart _ _ (by decide) (by decide) (by decide), getBits_putBits_same _ _ (by decide) (by decide)]
    cases ill <;> rfl
  · change getBits (State.rd _ (UC_PAR p)) 17 16 = _
    rw [hpar, getBits_putBits_apart _ _ (by decide) (by decide) (by decide), getBits_putBits_apart _ _ (by decide) (by decide) (by decide),
      getBits_putBits_same _ _ (by decide) (by decide), Nat.mod_eq_of_lt (show (s.ucSource p a).1 < 2 ^ (17 + 1 - 16) from ucSource_lt s p a)]
  · have hbit := bit_icuRaise (n := 14 + p) hwf
    rwa [show (14 + p) / 32 = 0 by omega, show (14 + p) % 32 = 14 + p by omega] at hbit
  · change getBits (State.rd _ (UC_STAT p)) 31 16 = _
    rw [hstat, ucStatAfter_parcnt]
    rfl
  · obtain ⟨hoff, hresult⟩ := ucStatAfter_cancelled (w := s.rd (UC_STAT p)) (by simpa [State.on, State.get, UC_STAT.SWPEND] using hpend)
    rw [← hstat] at hoff hresult
    exact ⟨bne_eq_false_iff_eq.mpr hoff, hresult⟩

/-- The SWITCH that waited is gone from the engine too (R307). -/
theorem ucRecorded_sw (hp : p < s.uc.sw.length) (hpend : s.on (UC_STAT.SWPEND p) = true) :
    nth (s.ucRecorded p a ill).uc.sw p none = none := by
  obtain ⟨hregs, -, hsw⟩ := ucSpoilt_frame s p a ill
  have hwf : spWf resetVal (s.ucSpoilt p a ill).regs = true := hregs.symm ▸ h
  have hon : ((s.ucSpoilt p a ill).ucNoted p a (s.ucSource p a).1 ill).on (UC_STAT.SWPEND p) = true := by
    refine (congrArg (· != 0) ?_).trans hpend
    change getBits (State.rd _ (UC_STAT p)) 6 6 = getBits (s.rd (UC_STAT p)) 6 6
    rw [rd_ucNoted_stat hwf, rd_of_regs hregs, getBits_putBits_apart _ _ (by decide) (by decide) (by decide)]
  have hnoted : ((s.ucSpoilt p a ill).ucNoted p a (s.ucSource p a).1 ill).uc = (s.ucSpoilt p a ill).uc := by
    rw [State.ucNoted, State.bump_uc, State.set_uc, State.setb_uc, State.set_uc]
  rw [State.ucRecorded, icuRaise_uc, ucSwitchOff_eq, if_pos hon, ucNoSwitch_sw, State.set_uc, State.set_uc, hnoted, hsw]
  exact nth_modNth_same hp _ _

/-- The store that takes over (R307): the other half where both hold the same, else the ROM. -/
theorem act_ucFault (hact : s.get (UC_STAT.ACT p) ≠ 0) (ha : a < 0x4000 ∨ 0x5880 ≤ a) :
    (s.ucFault p a ill).get (UC_STAT.ACT p) = if s.on (UC_STAT.SAME p) then 3 - s.get (UC_STAT.ACT p) else 0 := by
  have hsame : (s.ucRecorded p a ill).on (UC_STAT.SAME p) = s.on (UC_STAT.SAME p) := by
    refine congrArg (· != 0) ?_
    change getBits (State.rd _ (UC_STAT p)) 4 4 = getBits (s.rd (UC_STAT p)) 4 4
    rw [rd_ucRecorded_stat h, ucStatAfter_same]
  rw [ucFault_eq, if_neg (by omega), State.get, rd_of_regs (State.modCore_regs _ _ _), ← State.get,
    get_set_same (wf_ucRecorded h) _ (show 1 < 32 by decide) (show 0 ≤ 1 by decide), hsame]
  refine Nat.mod_eq_of_lt (show _ < 4 from ?_)
  split <;> omega

end

theorem UcRecord.of_regs {y z : State} (hy : UcRecord s y p a ill) (hz : z.regs = y.regs) : UcRecord s z p a ill := by
  have hget : ∀ f, z.get f = y.get f := fun f => by rw [State.get, State.get, rd_of_regs hz]
  have hon : ∀ f, z.on f = y.on f := fun f => by rw [State.on, State.on, hget]
  refine ⟨?_, ?_, ?_, ?_, ?_, fun hpend => ?_⟩
  · rw [hget, hy.addr]
  · rw [hon, hy.isIll]
  · rw [hget, hy.src]
  · rw [State.bit, rd_of_regs hz]
    exact hy.pend
  · rw [hget, hy.parcnt]
  · rw [hon, hget]
    exact hy.cancelled hpend

/-- A change of the store leaves what is recorded, in UC_STAT and elsewhere. -/
theorem UcRecord.setAct {y : State} (hy : UcRecord s y p a ill) (hwf : spWf resetVal y.regs = true) (hp : p < 6) (v : Nat) :
    UcRecord s (y.set (UC_STAT.ACT p) v) p a ill := by
  have hpar : ∀ hi lo, getBits ((y.set (UC_STAT.ACT p) v).rd (UC_PAR p)) hi lo = getBits (y.rd (UC_PAR p)) hi lo := fun hi lo => by
    rw [rd_set_ne hwf (f := UC_STAT.ACT p) v (UC_PAR_ne_STAT p)]
  have hstat : ∀ hi lo, 1 < lo → getBits ((y.set (UC_STAT.ACT p) v).rd (UC_STAT p)) hi lo = getBits (y.rd (UC_STAT p)) hi lo :=
    fun hi lo hlo => (congrArg (getBits · hi lo) (rd_set_same hwf (UC_STAT.ACT p) v)).trans
      (getBits_putBits_apart _ _ (show 1 < 32 by decide) (Nat.zero_le 1) (.inr hlo))
  refine ⟨(hpar 14 0).trans hy.addr, (congrArg (· != 0) (hpar 15 15)).trans hy.isIll, (hpar 17 16).trans hy.src, ?_,
    (hstat 31 16 (by decide)).trans hy.parcnt, fun hpend => ?_⟩
  · rw [State.bit, rd_set_ne hwf (f := UC_STAT.ACT p) v (by simp only [UC_STAT.ACT, UC_STAT, ICU_PEND]; omega)]
    exact hy.pend
  · obtain ⟨hoff, hresult⟩ := hy.cancelled hpend
    exact ⟨(congrArg (· != 0) (hstat 6 6 (by decide))).trans hoff, (hstat 10 8 (by decide)).trans hresult⟩

/-- The boundary after a fault outside the ROM and patch memory: machine check 12 waits there (R307). -/
theorem boundary_ucFault (hp : p < s.cores.length) (hact : s.get (UC_STAT.ACT p) ≠ 0) (ha : a < 0x4000 ∨ 0x5880 ≤ a) :
    ((s.ucFault p a ill).core p).boundary = (s.core p).boundary ++ [12] := by
  have hcores : ∀ v, ((s.ucRecorded p a ill).set (UC_STAT.ACT p) v).cores = s.cores := fun v => by
    rw [State.set_cores, ucRecorded_cores]
  rw [ucFault_eq, if_neg (by omega), core_modCore_same (by rwa [hcores]), State.core, hcores]
  rfl

end

section
variable {s u x : State} {o : PyOp}

/-- A microprogram that ends is no fault (R292). -/
theorem ucClean_of_ended {c : Nat} {m : Mseq} (hrun : u.microRun o c c = .ended m) : u.ucClean o c c = true := by
  rw [State.ucClean, hrun, Bool.or_true]

/-- NOP, where its core issues it, does what its microcode says (R301). -/
theorem exec_nopOp_performs (hform : o.form = 0) (hs : s.reaches o 0x99 = true) (hu : u = s.entered o 0x99) : exec (.nopOp o) s
    = .next (((State.perform o 0x99 (fun x => .ok 1 x) restarts u).finish o.p (opLen o 0x99)).keep s) := by
  subst hu
  exact (exec_nopOp o s).trans (pyRun_reaches (forms := 1) (base := 0x99) (by omega) (by omega) hs _)

/-- Under the meaning of the manual it only passes (R292). -/
theorem perform_manual {c n : Nat} {body : State → PyRes} (hmanual : u.asManual o c = true) :
    State.perform o c body (n + 1) u = body u := by
  rw [State.perform, if_pos hmanual]

/-- After a word that is not executed the instruction restarts, unless the core is locked (R307). -/
theorem perform_fault {c n a : Nat} {ill : Bool} {t : State} {body : State → PyRes} (hmanual : u.asManual o c = false)
    (hrun : u.microRun o c c = .fault a ill t) (hx : x = (if u.ucSigned o.p then u else t).ucFault o.p a ill) :
    State.perform o c body (n + 1) u = if x.on (DRV_STAT.LOCKED o.p) then .stay x else State.perform o c body n x := by
  rw [State.perform, if_neg (Bool.eq_false_iff.mp hmanual), hrun, hx]

/-- A microprogram that ends in its place leaves what it has written, in the slots of its accesses (R276, R301). -/
theorem perform_ended {c n : Nat} {m : Mseq} {body : State → PyRes} (hmanual : u.asManual o c = false)
    (hrun : u.microRun o c c = .ended m) (hfetch : m.refetched = false) (hjump : m.jumped = false)
    (hbank : (m.s.core o.p).bank = (u.core o.p).bank) : State.perform o c body (n + 1) u = .ok (max 1 m.acc) m.s := by
  rw [State.perform, if_neg (Bool.eq_false_iff.mp hmanual), hrun]
  simp only [MicroEnd.res, hfetch, hjump, hbank, bne_self_eq_false, Bool.or_self, Bool.false_eq_true, if_false]

variable {p a : Nat}

theorem ucFetch_outside (hact : s.get (UC_STAT.ACT p) = 0) (ha : a < 0x4000 ∨ 0x5880 ≤ a) : s.ucFetch p a = .ill := by
  have hsrc : (s.ucSource p a).2 = none := by
    unfold State.ucSource
    simp only [hact, if_true]
    rcases ha with ha | ha
    · rw [if_pos ha]
    · rw [if_neg (by omega), if_neg (by omega), if_neg (by omega)]
  simp only [State.ucFetch, hsrc, if_neg (show ¬ (0x4208 ≤ a ∧ a < 0x4240) by omega),
    if_neg (show ¬ (0x4000 ≤ a ∧ a < 0x5800) by omega)]

/-- The reserved service entries of the ROM are ILL (R325). -/
theorem ucIll_reserved (hlo : 0x4208 ≤ a) (hhi : a < 0x4240) (hmatch : s.ucMatch p a = none) : s.ucIll p a = true := by
  have hsrc : (s.ucSource p a).2 = none := by
    unfold State.ucSource
    simp only [hmatch, if_neg (show ¬ a < 0x4000 by omega), if_pos (show a < 0x5800 by omega)]
  simp only [State.ucIll, State.ucFetch, hsrc, if_pos (show 0x4208 ≤ a ∧ a < 0x4240 from ⟨hlo, hhi⟩)]
  decide

/-- A service sequence whose word is not executed restarts from the store that takes over, unless the core is locked (R307). -/
theorem service_fault {off : Nat} {ill : Bool} {f : State → State} (hfault : s.seqFault p off = some (a, ill))
    (hu : u = s.ucFault p a ill) : (u.on (DRV_STAT.LOCKED p) = true → s.service p off f = u)
    ∧ (u.on (DRV_STAT.LOCKED p) = false → u.seqFault p off = none → s.service p off f = f u) := by
  have hstep : s.service p off f = if u.on (DRV_STAT.LOCKED p) then u else State.sequence p off f 3 u := by
    rw [State.service, restarts, State.sequence, hfault, hu]
  rw [hstep]
  refine ⟨fun hlocked => if_pos hlocked, fun hlocked hclean => ?_⟩
  rw [if_neg (Bool.eq_false_iff.mp hlocked), State.sequence, hclean]

end

/-- Settles O60: the run of NOP by how its microprogram leaves; the fallback by what it records and which store it takes; and a
service sequence by its first word that fails. -/
theorem microcodeDecidesTheInstruction : Obligations.MicrocodeDecidesTheInstruction := by
  refine ⟨?_, ?_, fun s p a hact ha => ucFetch_outside hact (by omega), fun s p a => ucIll_reserved, ?_⟩
  · intro s u o hform hs hu
    have hexec := exec_nopOp_performs hform hs hu
    have hplain : ∀ x n, x.asManual o 0x99 = true →
        ((State.perform o 0x99 (fun x => .ok 1 x) (n + 1) x).finish o.p (opLen o 0x99)) = x.advance o.p (opLen o 0x99) 1 :=
      fun x n hx => by rw [perform_manual hx]; rfl
    refine ⟨fun hsigned hclean => ?_, fun m hact hrun hfetch hjump hbank => ?_, fun a ill t x hrun hclean hx => ?_⟩
    · rw [hexec, restarts, hplain u 3 (by rw [State.asManual, hsigned, hclean]; rfl)]
    · have hclean := ucClean_of_ended hrun
      cases hsigned : u.ucSigned o.p
      · rw [hexec, restarts, perform_ended (by rw [State.asManual, hsigned]; rfl) hrun hfetch hjump hbank]
        rfl
      · rw [hexec, restarts, hplain u 3 (by rw [State.asManual, hsigned, hclean]; rfl)]
        rfl
    · have hmanual : u.asManual o 0x99 = false := by rw [State.asManual, hclean, Bool.and_false]
      rw [hexec, restarts, perform_fault hmanual hrun hx]
      refine ⟨fun hlocked => ?_, fun hlocked hx' => ?_⟩
      · rw [if_pos hlocked]
        rfl
      · rw [if_neg (Bool.eq_false_iff.mp hlocked), hplain x 2 hx']
  · intro s p a ill t hp hwf hcores ha ht hsw
    subst ht
    have hrec : UcRecord s (s.ucRecorded p a ill) p a ill := ucRecord_ucRecorded hwf hp ha
    refine ⟨fun hact hout => ?_, fun hin => ⟨s.ucRecorded p a ill, by rw [ucFault_eq, if_pos hin], hrec.addr, hrec.isIll, hrec.src,
      hrec.pend, hrec.parcnt, hrec.cancelled⟩⟩
    have hstore := ucFault_eq s p a ill
    rw [if_neg (by omega)] at hstore
    have hset : UcRecord s (s.ucFault p a ill) p a ill := by
      have hset := hrec.setAct (wf_ucRecorded hwf) hp (if (s.ucRecorded p a ill).on (UC_STAT.SAME p)
        then 3 - s.get (UC_STAT.ACT p) else 0)
      rw [hstore]
      exact hset.of_regs (State.modCore_regs _ _ _)
    refine ⟨hset.addr, hset.isIll, hset.src, hset.pend, hset.parcnt, fun hpend => ?_, act_ucFault hwf hact hout,
      boundary_ucFault (by omega) hact hout⟩
    obtain ⟨hoff, hresult⟩ := hset.cancelled hpend
    refine ⟨hoff, hresult, ?_⟩
    rw [hstore, State.modCore_uc, State.set_uc]
    exact ucRecorded_sw hwf (by omega) hpend
  · exact fun s u p code info addr rpc => ⟨fun hclean => service_ok (by rw [State.serviceOk, hclean]; rfl) _,
      fun a ill hfault hu => service_fault hfault hu⟩

end Sys2Proof.Machine
end

section
/-! PROOFS. A fuse operation only sets bits of its word; a refused one changes nothing (R388, R389). -/

namespace Sys2Proof.Machine
open Sys2Proof

section
variable {s : State} {n : Nat} {d : Word} {ok : Bool}

/-- The state as the fuse operation in progress ends: BUSY is 0 and none is in progress. -/
def State.fusesFree (s : State) : State := { s.set OTP_STAT.BUSY 0 with nvc := { s.nvc with oop := none } }

theorem fusesFree_nvc : s.fusesFree.nvc = { s.nvc with oop := none } := by
  unfold State.fusesFree
  with_reducible rfl

theorem fusesFree_fuse : s.fusesFree.nvc.fuse = s.nvc.fuse := by
  rw [fusesFree_nvc]

/-- States with the same fuses have the same fuse words. -/
theorem otpWord_of_fuse {t : State} (h : t.nvc.fuse = s.nvc.fuse) (j : Nat) : t.otpWord j = s.otpWord j := by
  rw [State.otpWord, State.otpWord, h]

/-- The operation `op` on word `n` with the data `d`: its RESULT and what it leaves. -/
def State.otpRun (s : State) (op n : Nat) (d : Word) (ok : Bool) : Nat × State :=
  if op = 1 then s.otpProgram n d ok else s.otpAdvance

/-- A fuse operation takes effect at its end (R389, log entry 80). -/
theorem exec_otpOpDone_run {op : Nat} (ha : s.alive = true) (h : s.nvc.oop = some (op, n, d)) :
    exec (.otpOpDone ok) s = .next ((((s.fusesFree.otpRun op n d ok).2.set OTP_STAT.RESULT
      (s.fusesFree.otpRun op n d ok).1).icuRaise 68).keep s) :=
  (exec_otpOpDone ok s).trans (runs_next rfl ha (by rw [h]; rfl))

theorem otpWord_setFuse_same (hn : n < s.nvc.fuse.length) (v : Word) : (s.setFuse n v).otpWord n = v :=
  nth_modNth_same hn _ _

theorem otpWord_setFuse_ne {j : Nat} (hj : j ≠ n) (v : Word) : (s.setFuse n v).otpWord j = s.otpWord j :=
  nth_modNth_ne _ hj _ _

/-- PROG of a locked word is refused (R388, R389). -/
theorem otpProgram_locked (h : s.otpLocked n = true) : s.otpProgram n d ok = (1, s) := by
  rw [State.otpProgram, if_pos h]

/-- Word `n` cannot take the bits `d`, locked or not: it counts rollbacks, holds a value, or is the lock word and `d` has a
reserved bit (R389). -/
def State.otpUnfit (s : State) (n : Nat) (d : Word) : Prop :=
  (0x2C ≤ n ∧ n ≤ 0x2F) ∨ (n = 0x31 ∧ d &&& 0xFFFFFF80 ≠ 0) ∨ (n ≠ 0x31 ∧ s.otpWord n ≠ 0)

theorem otpUnfit_iff : (inRange 0x2C 0x2F n || (n == 0x31 && d &&& 0xFFFFFF80 != 0) || (n != 0x31 && s.otpWord n != 0)) = true
    ↔ s.otpUnfit n d := by
  simp [inRange, State.otpUnfit, or_assoc]

theorem otpProgram_unfit (hl : s.otpLocked n = false) (h : s.otpUnfit n d) : s.otpProgram n d ok = (2, s) := by
  rw [State.otpProgram, hl, if_neg Bool.false_ne_true, if_pos (otpUnfit_iff.mpr h)]

theorem otpProgram_right (hl : s.otpLocked n = false) (h : ¬ s.otpUnfit n d) :
    s.otpProgram n d true = (0, s.setFuse n (s.otpWord n ||| d)) := by
  rw [State.otpProgram, hl, if_neg Bool.false_ne_true, if_neg (mt otpUnfit_iff.mp h), if_pos rfl]

/-- The state after a PROG whose word reads back wrong: it gains some of the bits (log entry 78). -/
def State.fuseWrong (s : State) (n : Nat) (d : Word) : State :=
  let t := s.drawn.setFuse n (s.otpWord n ||| (d &&& s.freeVal))
  { t with nvc := { t.nvc with fuseBad := if n = 0x31 then t.nvc.fuseBad else n :: t.nvc.fuseBad } }

theorem otpProgram_wrong (hl : s.otpLocked n = false) (h : ¬ s.otpUnfit n d) :
    s.otpProgram n d false = (3, s.fuseWrong n d) := by
  rw [State.otpProgram, hl, if_neg Bool.false_ne_true, if_neg (mt otpUnfit_iff.mp h), if_neg Bool.false_ne_true]
  rfl

theorem fuseWrong_fuse : (s.fuseWrong n d).nvc.fuse = (s.setFuse n (s.otpWord n ||| (d &&& s.freeVal))).nvc.fuse := by
  unfold State.fuseWrong State.setFuse State.drawn
  with_reducible rfl

theorem otpWord_fuseWrong_same (hn : n < s.nvc.fuse.length) :
    (s.fuseWrong n d).otpWord n = s.otpWord n ||| (d &&& s.freeVal) :=
  (otpWord_of_fuse fuseWrong_fuse n).trans (otpWord_setFuse_same hn _)

theorem otpWord_fuseWrong_ne {j : Nat} (hj : j ≠ n) : (s.fuseWrong n d).otpWord j = s.otpWord j :=
  (otpWord_of_fuse fuseWrong_fuse j).trans (otpWord_setFuse_ne hj _)

/-- ADVANCE past the count or past the RBI of the image is refused (R389). -/
theorem otpAdvance_refused (h : 128 ≤ s.rollback ∨ s.get NVC_KSTAT.RBI < s.rollback + 1) : s.otpAdvance = (4, s) := by
  rw [State.otpAdvance, if_pos]
  exact h.imp_left Nat.lt_succ_of_le

theorem otpAdvance_counts (h : s.rollback < 128) (hr : s.rollback + 1 ≤ s.get NVC_KSTAT.RBI) :
    s.otpAdvance = (0, s.setFuse (0x2C + s.rollback / 32)
      (putBits (s.otpWord (0x2C + s.rollback / 32)) (s.rollback % 32) (s.rollback % 32) 1)) := by
  rw [State.otpAdvance, if_neg]
  omega

end

/-- Settles O58: the answer of each operation is the equation of its case, and an operation that answers 0 or 3 replaces one
fuse word. -/
theorem fusesOnlySet : Obligations.FusesOnlySet := by
  unfold Obligations.FusesOnlySet
  intro s u n d done ha hn hlen hu hdone
  replace hu : u = s.fusesFree := hu
  subst hu
  have hn' : n < s.fusesFree.nvc.fuse.length := by rw [fusesFree_fuse, hlen]; exact hn
  have hfree (j : Nat) : s.fusesFree.otpWord j = s.otpWord j := otpWord_of_fuse fusesFree_fuse j
  refine ⟨fun hop => ?_, fun hop => ?_⟩
  · have prog {ok : Bool} {r : Nat} {x : State} (h : s.fusesFree.otpProgram n d ok = (r, x)) : done ok r x := by
      rw [hdone, exec_otpOpDone_run ha hop, State.otpRun, if_pos rfl, h]
    refine ⟨fun ok hl => prog (otpProgram_locked hl), fun ok hl hun => prog (otpProgram_unfit hl hun), fun hl hcount hfit => ?_⟩
    have hun : ¬ s.fusesFree.otpUnfit n d := by
      rintro (hin | ⟨h31, hd⟩ | ⟨h31, hw⟩)
      · omega
      · exact hfit.elim (fun h => hd h.2) (fun h => h.1 h31)
      · exact hfit.elim (fun h => h31 h.1) (fun h => hw h.2)
    exact ⟨⟨_, prog (otpProgram_right hl hun), otpWord_setFuse_same hn' _, fun j hj => (otpWord_setFuse_ne hj _).trans (hfree j), rfl⟩,
      ⟨_, prog (otpProgram_wrong hl hun), otpWord_fuseWrong_same hn', fun j hj => (otpWord_fuseWrong_ne hj).trans (hfree j)⟩⟩
  · have advance {ok : Bool} {r : Nat} {x : State} (h : s.fusesFree.otpAdvance = (r, x)) : done ok r x := by
      rw [hdone, exec_otpOpDone_run ha hop, State.otpRun, if_neg (by decide), h]
    refine ⟨fun ok h => advance (otpAdvance_refused h), fun ok k hk h hr => ?_⟩
    subst hk
    have hk : 0x2C + s.fusesFree.rollback / 32 < s.fusesFree.nvc.fuse.length := by
      rw [fusesFree_fuse, hlen]
      omega
    exact ⟨_, advance (otpAdvance_counts h hr), otpWord_setFuse_same hk _, fun j hj => (otpWord_setFuse_ne hj _).trans (hfree j)⟩

end Sys2Proof.Machine
end

section
/-! PROOFS. The mode requests, Hold-on-dip, Ember and the watchdog, and the writes that resets and modes answer (R376, R402, R406 to R424). -/

namespace Sys2Proof.Machine
open Sys2Proof

section
variable {s : State} {w : Who} {a p key : Nat} {v : Word}

/-- A write of a register of the PMU acts by that block's rules (R234). -/
theorem regEffect_pmu (hc : commitAt a = none) (hb : a / 0x100000 = 0x40B) : s.regEffect a v = s.pmuWrite a v := by
  rw [State.regEffect, regEffectN_succ, regEffectBy, hc, hb]
  rfl

/-- Where the reset register of a core lies: in its window, in none of the parts with rules of their own (R234). -/
theorem DRV_RST_place (hp : p < 6) : commitAt (DRV_RST p) = none ∧ DRV_RST p / 0x100000 = 0x408
    ∧ (DRV_RST p - 0x40800000) / 0x10000 = p ∧ ¬ 0xF100 ≤ DRV_RST p % 0x10000 ∧ DRV_RST p ≠ MEM_INJ p
    ∧ ¬ 0xF000 ≤ DRV_RST p % 0x10000 := by
  revert p
  decide

theorem windowWrite_coreReset (f : State → Nat → Word → State) (hp : p < 6) :
    s.windowWrite f p (DRV_RST p) v = if getBits v 15 0 = 0x7144 then s.coreReset f p else s := by
  obtain ⟨hc, hb, hw, hstore, hinj, herr⟩ := DRV_RST_place hp
  rw [State.windowWrite, if_neg hstore, if_neg hinj, if_neg herr, if_pos rfl]

/-- A write at an address of the core windows that is no commit register goes to the window of its core (R234). -/
theorem regEffect_window (hc : commitAt a = none) (hb : a / 0x100000 = 0x408) (hw : (a - 0x40800000) / 0x10000 = p)
    (hp : p < 6) : s.regEffect a v = s.windowWrite (regEffectN 7) p a v := by
  rw [State.regEffect, regEffectN_succ, regEffectBy, hc, hb, hw, if_pos hp]
  rfl

/-- A write of the reset register of a core acts by its key (R333). -/
theorem regEffect_coreReset (hp : p < 6) :
    s.regEffect (DRV_RST p) v = if getBits v 15 0 = 0x7144 then s.coreReset (regEffectN 7) p else s := by
  obtain ⟨hc, hb, hw, hstore, hinj, herr⟩ := DRV_RST_place hp
  rw [regEffect_window hc hb hw hp, windowWrite_coreReset _ hp]

theorem regEffect_kctl : s.regEffect NVC_KCTL v = s.kctlWrite (regEffectN 7) v := by
  have hc : commitAt NVC_KCTL = none := by decide
  have hb : NVC_KCTL / 0x100000 = 0x40A := by decide
  rw [State.regEffect, regEffectN_succ, regEffectBy, hc, hb]
  exact if_pos rfl

theorem regEffect_ctl : s.regEffect PMU_CTL v = s.ctlWrite v :=
  (regEffect_pmu (by decide) (by decide)).trans (if_pos rfl)

/-- The host writes registers only where the function answers its requests (R341). -/
theorem memOn_of_may (h : s.may .host a v = true) : s.memOn = true := (Bool.and_eq_true_iff.mp h).1

/-- A write of PMU_CTL that the world rules let through reaches the mode logic. -/
theorem exec_registerWrite_ctl (ha : s.alive = true) (hw : w.wf = true) (hmay : s.may w PMU_CTL v = true) :
    exec (.registerWrite w PMU_CTL v 15 .sound) s = .next ((s.ctlWrite v).keep s) := by
  rw [exec_registerWrite_periph ha hw (by decide) (by decide) (by decide) (by decide) (by decide) (by decide)
    (fun h => ⟨rfl, memOn_of_may (h ▸ hmay)⟩), asWrite_may hmay, regEffect_ctl]

/-- The request rows are writes of PMU_CTL (R406, R408, R409, R411). -/
theorem exec_modeRequests (ha : s.alive = true) (hw : w.wf = true) (hmay : s.may w PMU_CTL v = true) :
    (v = 1 → exec (.holdRequest w) s = .next ((s.ctlWrite v).keep s))
    ∧ (v = 0 → exec (.holdExitRequest w) s = .next ((s.ctlWrite v).keep s))
    ∧ (v = putBits (s.rd PMU_CTL) 8 8 1 → exec (.qexit w) s = .next ((s.ctlWrite v).keep s))
    ∧ (v = putBits (s.rd PMU_CTL) 4 4 1 → exec (.emberReq w) s = .next ((s.ctlWrite v).keep s)) := by
  refine ⟨?_, ?_, ?_, ?_⟩ <;> rintro rfl
  · exact (exec_holdRequest w s).trans (runs_write hw ha hmay rfl)
  · exact (exec_holdExitRequest w s).trans (runs_write hw ha hmay rfl)
  · exact (exec_qexit w s).trans (runs_next hw ha (asWrite_may hmay _))
  · exact (exec_emberReq w s).trans (runs_next hw ha (asWrite_may hmay _))

/-- In Hold-on-dip the write is held (R415). -/
theorem ctlWrite_dip (h : s.dip = true) :
    s.ctlWrite v = { s.set PMU_STAT.DEFER 1 with pmu := { s.pmu with heldCtl := some v } } := by
  rw [State.ctlWrite, if_pos h]

theorem ctlWrite_noDip (h : s.dip = false) : s.ctlWrite v = s.ctlAct v := by
  rw [State.ctlWrite, h, if_neg Bool.false_ne_true]

/-- The lowest-numbered supply that keeps the dip (log entry 84). -/
def State.lowSupply (s : State) : Nat := ((List.range 6).find? (fun i => nth s.pmu.low i false)).getD 0

/-- The dip ends and its record names supply `i` (R357, R399, R416). -/
def State.dipRecorded (s : State) (i : Nat) : State :=
  (((s.set PMU_STAT.DIP 0).set PMU_STAT.DIPSUP 0).mrPost 6 (dipPayload true i s.pmu.dipMin)).evPost 6 (payloadOf [1, i])

/-- What waited for the end of Hold-on-dip goes on, but for the held write of PMU_CTL (R416). -/
def State.dipResumed (x : State) : State :=
  ({ x with pmu := { x.pmu with low := List.replicate 6 false, dipMin := 0xFFFF } }.pmuFire 1).dipOps

theorem exec_dipExit_eq (ha : s.alive = true) (hd : s.dip = true) :
    exec .dipExit s = .next (((s.dipRecorded s.lowSupply).dipResumed.heldAct).keep s) :=
  (exec_dipExit s).trans (runs_next rfl ha (if_neg (by simp [hd])))

theorem heldAct_some (h : s.pmu.heldCtl = some v) :
    s.heldAct = { s.set PMU_STAT.DEFER 0 with pmu := { s.pmu with heldCtl := none } }.ctlAct v := by
  rw [State.heldAct, h]

theorem heldAct_none (h : s.pmu.heldCtl = none) : s.heldAct = s := by
  rw [State.heldAct, h]

end

/-- Settles O48: a write of PMU_CTL is held in Hold-on-dip, and the exit is the equation of `heldAct`. -/
theorem heldModeRequests : Obligations.HeldModeRequests := by
  unfold Obligations.HeldModeRequests
  refine ⟨fun s t w v ha hw hd hmay ht => ?_, fun s ha hd => ?_, fun s w v ha hw hd hmay => ?_⟩
  · rw [ht, ← ctlWrite_dip hd]
    exact ⟨exec_registerWrite_ctl ha hw hmay, exec_modeRequests ha hw hmay⟩
  · refine ⟨s.lowSupply, s.dipRecorded s.lowSupply, (s.dipRecorded s.lowSupply).dipResumed, rfl, rfl, fun v hv => ?_, fun hn => ?_⟩
    · rw [exec_dipExit_eq ha hd, heldAct_some hv]
    · rw [exec_dipExit_eq ha hd, heldAct_none hn]
  · rw [exec_registerWrite_ctl ha hw hmay, ctlWrite_noDip hd]

section
variable {s : State} {w : Who} {key : Nat} {v : Word}

/-- The watchdog is loaded again only under its key (R422). -/
theorem exec_watchdogKick_eq (ha : s.alive = true) (hw : w.wf = true) (hk : key < 65536)
    (hmay : s.may w PMU_WDT_KICK (BitVec.ofNat 32 key) = true) :
    exec (.watchdogKick w key) s = .next ((s.wdtKick key).keep s) :=
  (exec_watchdogKick w key s).trans (runs_write (wf_and_lt hw hk) ha hmay rfl)

theorem exec_watchdogEnable_eq (ha : s.alive = true) (hw : w.wf = true) (hv : v = putBits (s.rd PMU_WDT_CTL) 31 31 1)
    (hmay : s.may w PMU_WDT_CTL v = true) : exec (.watchdogEnable w) s = .next ((s.wdtWrite v).keep s) := by
  subst hv
  exact (exec_watchdogEnable w s).trans (runs_next hw ha (asWrite_may hmay _))

theorem exec_kindleReset_eq (ha : s.alive = true) (hw : w.wf = true) (hk : key < 65536)
    (hv : v = putBits (s.rd NVC_KCTL) 31 16 key) (hmay : s.may w NVC_KCTL v = true) :
    exec (.kindleReset w key) s = .next ((s.kctlWrite (regEffectN 7) v).keep s) := by
  subst hv
  exact (exec_kindleReset w key s).trans (runs_next (wf_and_lt hw hk) ha ((asWrite_may hmay _).trans regEffect_kctl))

theorem exec_coreReset_eq {p : Nat} (ha : s.alive = true) (hok : wfCoreReset w p key = true)
    (hmay : s.may w (DRV_RST p) (BitVec.ofNat 32 key) = true) :
    exec (.coreReset w p key) s = .next ((s.regEffect (DRV_RST p) (BitVec.ofNat 32 key)).keep s) :=
  (exec_coreReset w p key s).trans (runs_write hok ha hmay rfl)

end

/-- Settles O57: every keyed write acts under an `if` on its key, and the watchdog rows under one on its enable. -/
theorem wrongKeysDoNothing : Obligations.WrongKeysDoNothing := by
  unfold Obligations.WrongKeysDoNothing
  refine fun s ha => ⟨fun w key hw hk hne hmay => ?_, fun w p key hw hp hk hne hmay => ?_,
    fun w key v hw hk hv hne hmay => ?_, fun hoff => ⟨?_, ?_⟩, fun w hw hon hmay => ?_⟩
  · rw [exec_watchdogKick_eq ha hw hk hmay, State.wdtKick, if_neg hne, keep_self]
  · have hok : wfCoreReset w p key = true := by simp [wfCoreReset, hw, hp, hk]
    have hkey : getBits (BitVec.ofNat 32 key) 15 0 = key := by
      rw [getBits_ofNat (by omega)]
      omega
    rw [exec_coreReset_eq ha hok hmay, regEffect_coreReset hp, hkey, if_neg hne, keep_self]
  · rw [exec_kindleReset_eq ha hw hk hv hmay, State.kctlWrite]
    exact congrArg (fun t : State => Host.Outcome.next (t.keep s)) (if_neg hne)
  · exact (exec_watchdogExpiry s).trans (runs_same rfl ha (by simp [hoff]))
  · exact (exec_watchdogWarn s).trans (runs_same rfl ha (by simp [hoff]))
  · rw [exec_watchdogEnable_eq ha hw rfl hmay, State.wdtWrite, if_pos hon, keep_self]

end Sys2Proof.Machine
end

section
/-! PROOFS. The rows of resets, modes, Ember and Hold-on-dip (R374 to R376, R406 to R418, R422). -/

namespace Sys2Proof.Machine
open Sys2Proof

/-- Settles O21: each row is the reset its source names. -/
theorem resetRowsComplete : Obligations.ResetRowsComplete := by
  unfold Obligations.ResetRowsComplete
  refine ⟨fun s => ⟨?_, ?_⟩, fun s sup mv hs hm hlow => ⟨fun h5 => ?_, fun h5 he hr => ?_⟩, fun s ha hon => ?_,
    fun s w v ha hw hv hkey hmay => ?_, fun s k hk => ?_, fun s x ha hr => ?_⟩
  · exact (exec_coldReset s).trans (runsEver_next rfl rfl)
  · exact (exec_resetPin s).trans (runsEver_next rfl rfl)
  · exact (exec_brownOut sup mv s).trans (runsEver_next (by simp [wfBrownOut, hs, hm])
      ((if_neg (Nat.not_le.mpr hlow)).trans (if_pos h5)))
  · have hemb : ¬ s.pmu.ember = true := by simp [he]
    refine (exec_brownOut sup mv s).trans (runsEver_next (by simp [wfBrownOut, hs, hm])
      ((if_neg (Nat.not_le.mpr hlow)).trans ((if_neg h5).trans ((if_neg hemb).trans ?_))))
    rw [if_neg hr]
  · exact (exec_watchdogExpiry s).trans (runs_next rfl ha (if_pos hon))
  · rw [exec_kindleReset_eq ha hw (by decide) hv hmay, State.kctlWrite]
    exact congrArg (fun t : State => Host.Outcome.next (t.keep s)) (if_pos hkey)
  · exact (exec_resetRelease s).trans (runsEver_next rfl (by rw [hk]))
  · exact (exec_kindle x s).trans (runs_next rfl ha (if_pos hr))

section
variable {s u : State} {sup mv k : Nat}

/-! What a reset of the pin's kind leaves of the power management (R412, R418). -/

@[simp] theorem State.flashCut_pmu : s.flashCut.pmu = s.pmu := by
  have hkeep {α : Type} (f : State → α → State) (hf : ∀ s x, (f s x).pmu = s.pmu) (l : List α) : (s.each l f).pmu = s.pmu :=
    each_keeps State.pmu f hf s l
  unfold State.flashCut
  cases s.nvc.fop with
  | none => rfl
  | some o =>
    dsimp only
    split
    · rfl
    split
    · cases s.progSource o (o.len - o.done) with
      | none => rfl
      | some bs =>
        dsimp only
        exact hkeep _ (by intro _ _; rfl) _
    split
    · exact hkeep _ (by intro _ _; rfl) _
    split
    · cases s.jrecord o.half o.sram with
      | error _ => rfl
      | ok r =>
        dsimp only
        exact hkeep _ (by intro _ _; rfl) _
    · rfl

@[simp] theorem State.otpAdvance_pmu : s.otpAdvance.2.pmu = s.pmu := by
  unfold State.otpAdvance
  dsimp only
  split <;> rfl

@[simp] theorem State.otpCut_pmu : s.otpCut.pmu = s.pmu := by
  unfold State.otpCut
  split
  · rfl
  · split_ifs <;> simp [State.setFuse]

@[simp] theorem State.evioReset_pmu (old : State) : (s.evioReset old).pmu = s.pmu :=
  each_keeps State.pmu _ (fun s k => by split <;> rfl) s _

@[simp] theorem State.rstInfo_pmu (k : Nat) : (s.rstInfo k).pmu = s.pmu := by
  simp -implicitDefEqProofs only [State.rstInfo, State.set_pmu]

@[simp] theorem State.noteReset_pmu (old : State) (k : Nat) : (s.noteReset old k).pmu = s.pmu := by
  unfold State.noteReset
  split <;> rfl

@[simp] theorem State.otpShadow_pmu : s.otpShadow.pmu = s.pmu :=
  otpShadow_keeps State.pmu (fun _ _ _ => rfl) (fun _ => rfl) s

@[simp] theorem resetK_pmu_saved : s.resetK.pmu.saved = s.pmu.saved := by
  have h : s.resetK.pmu.saved = s.flashCut.otpCut.pmu.saved := rfl
  rw [h, State.otpCut_pmu, State.flashCut_pmu]

/-- A reset of the pin's kind ends Ember and keeps the counters saved for it (R411, R412). -/
theorem resetPin_pmu : (s.resetPin k).pmu.ember = false ∧ (s.resetPin k).pmu.saved = s.pmu.saved := by
  unfold State.resetPin
  extract_lets old fresh kept bare locked shown
  have hbare : bare.pmu = { rst := some (kept.widerReset k), saved := fresh.pmu.saved } := rfl
  have hlocked : locked.pmu = bare.pmu := by
    simp only [locked, apply_ite State.pmu, State.set_pmu, ite_self]
  have hshown : shown.pmu = bare.pmu :=
    (State.rstInfo_pmu k).trans ((State.evioReset_pmu old).trans hlocked)
  dsimp only
  rw [hshown, hbare]
  exact ⟨rfl, resetK_pmu_saved⟩

/-- The state that a wake from Ember leaves its reset in: the counters are back and Kindle begins (R41, R412). -/
def State.awoken (x : State) : State :=
  { x with tbu := { x.tbu with
    tbc := x.pmu.saved.1
    bgc := x.pmu.saved.2.1
    fofs := x.pmu.saved.2.2 } }.release 6

theorem awoken_tbu (x : State) : x.awoken.tbu.tbc = x.pmu.saved.1 ∧ x.awoken.tbu.bgc = x.pmu.saved.2.1 := ⟨rfl, rfl⟩

theorem awoken_ember (x : State) : x.awoken.pmu.ember = x.pmu.ember := rfl

/-- The reset of a wake from Ember, with the registers `f` that tell its source. -/
theorem wakeReset_pmu : (s.resetOf 6).pmu.ember = false ∧ (s.resetOf 6).pmu.saved = s.pmu.saved := by
  unfold State.resetOf
  extract_lets x
  have hx : x.pmu = s.pmu := by
    unfold x
    split <;> rfl
  rw [State.otpShadow_pmu, State.noteReset_pmu, if_neg (by decide), if_neg (by decide), ← hx]
  exact resetPin_pmu

/-- The reset that a wake source starts, with the register that tells it (R423). -/
def State.wakeTold (s : State) : WakeSrc → State
  | .fabric k => (s.resetOf 6).set PMU_RSTINFO.WAKESRC (2 ^ k)
  | .perst => (s.resetOf 6).set PMU_RSTINFO.PERSTW 1

theorem wakeTold_pmu (src : WakeSrc) : (s.wakeTold src).pmu = (s.resetOf 6).pmu := by
  cases src with
  | fabric k => exact State.set_pmu _ _ _
  | perst => exact State.set_pmu _ _ _

theorem execEmberWake_eq (src : WakeSrc) : execEmberWake src s
    = runsEver (wfEmberWake src) s (fun s => if s.pmu.ember && s.wakes src then (s.wakeTold src).awoken else s) := by
  unfold execEmberWake
  refine congrArg (runsEver _ _) (funext fun s => ?_)
  refine if_congr Iff.rfl ?_ rfl
  extract_lets r x
  have hx : s.wakeTold src = x := by
    cases src with
    | fabric k => rfl
    | perst => rfl
  rw [hx]
  rfl

theorem keep_pmu (t : State) : (t.keep s).pmu = t.pmu := rfl

theorem keep_tbu (t : State) : (t.keep s).tbu = t.tbu := rfl

/-- An enabled source ends Ember (R412, R423). -/
theorem exec_emberWake_wakes {src : WakeSrc} (hok : wfEmberWake src = true) (he : s.pmu.ember = true)
    (hw : s.wakes src = true) : ∃ t, exec (.emberWake src) s = .next t ∧ t.pmu.ember = false ∧ t.tbu.tbc = s.pmu.saved.1
      ∧ t.tbu.bgc = s.pmu.saved.2.1 ∧ t.pending = s.pending := by
  obtain ⟨hemb, hsaved⟩ := wakeReset_pmu (s := s)
  obtain ⟨htbc, hbgc⟩ := awoken_tbu (s.wakeTold src)
  rw [wakeTold_pmu, hsaved] at htbc hbgc
  refine ⟨(s.wakeTold src).awoken.keep s, ?_, ?_, ?_, ?_, keep_pending _ _⟩
  · rw [exec_emberWake, execEmberWake_eq]
    exact runsEver_next hok (if_pos (by rw [he, hw]; rfl))
  · rw [keep_pmu, awoken_ember, wakeTold_pmu, hemb]
  · rw [keep_tbu, htbc]
  · rw [keep_tbu, hbgc]

/-! The supply monitors (R413, R414). -/

/-- Whether the device runs is not in what a supply level changes. -/
theorem vmin_alive : (s.vmin sup mv).alive = s.alive := rfl

theorem wfSupplyDip_of (hs : sup < 6) (hm : mv < 65536) : wfSupplyDip sup mv = true := by
  simp [wfSupplyDip, hs, hm]

/-- In Ember only the monitor of VEMB is heard (R411). -/
theorem exec_supplyDip_deaf (he : s.pmu.ember = true) (h5 : sup ≠ 5) : exec (.supplyDip sup mv) s = .next s := by
  rw [exec_supplyDip, execSupplyDip, he]
  simp [h5, runsEver]

/-- A monitor that is heard while no mode runs only lowers PMU_VMIN_s (R411, R413). -/
theorem exec_supplyDip_dead (hs : sup < 6) (hm : mv < 65536) (ha : s.alive = false) (hear : s.pmu.ember = true → sup = 5) :
    exec (.supplyDip sup mv) s = .next ((s.vmin sup mv).keep s) := by
  have hok : (wfSupplyDip sup mv && (!s.pmu.ember || sup == 5)) = true := by
    rw [wfSupplyDip_of hs hm]
    cases he : s.pmu.ember <;> simp [he] at hear ⊢
    exact hear
  refine (exec_supplyDip sup mv s).trans (runsEver_next hok (if_pos ?_))
  rw [vmin_alive, ha]
  rfl

/-- The device enters Hold-on-dip at the level `mv` of supply `sup` (R414). -/
def State.dipBegun (u : State) (sup mv : Nat) : State :=
  ((({ u.set PMU_STAT.DIPSUP (u.get PMU_STAT.DIPSUP ||| 2 ^ sup) with
    pmu := { u.pmu with low := modNth u.pmu.low sup (fun _ => true), dipMin := mv } }.set PMU_STAT.DIP 1).mramCount 7).mrPost 6
      (dipPayload false sup mv)).evPost 6 (payloadOf [0, sup])

theorem hears_of_alive (ha : s.alive = true) (hs : sup < 6) (hm : mv < 65536) :
    (wfSupplyDip sup mv && (!s.pmu.ember || sup == 5)) = true := by
  have he : s.pmu.ember = false := by
    unfold State.alive at ha
    cases h : s.pmu.ember
    · rfl
    · simp [h] at ha
  rw [wfSupplyDip_of hs hm, he]
  rfl

theorem exec_supplyDip_enters (ha : s.alive = true) (hs : sup < 6) (hm : mv < 65536) (hlow : mv < warnMv sup)
    (hd : (s.vmin sup mv).dip = false) :
    exec (.supplyDip sup mv) s = .next (((((s.vmin sup mv).dipBegun sup mv).setSusp true).pmuFire 0).keep s) := by
  have hrun : ¬ (!(s.vmin sup mv).alive) = true := by simp [vmin_alive, ha]
  refine (exec_supplyDip sup mv s).trans (runsEver_next (hears_of_alive ha hs hm)
    ((if_neg hrun).trans ((if_neg (Nat.not_le.mpr hlow)).trans ?_)))
  rw [hd, if_neg Bool.false_ne_true, if_neg Bool.false_ne_true]
  rfl

theorem exec_supplyDip_back (ha : s.alive = true) (hs : sup < 6) (hm : mv < 65536) (hback : warnMv sup ≤ mv) :
    exec (.supplyDip sup mv) s = .next (((s.vmin sup mv).supplyBack sup mv).keep s) := by
  have hrun : ¬ (!(s.vmin sup mv).alive) = true := by simp [vmin_alive, ha]
  exact (exec_supplyDip sup mv s).trans (runsEver_next (hears_of_alive ha hs hm) ((if_neg hrun).trans (if_pos hback)))

theorem supplyBack_exit (hw : 0 < warnMv sup) (hx : exitMv sup ≤ mv) : u.supplyBack sup mv
    = (let x := u.set PMU_STAT.DIPSUP (putBits (BitVec.ofNat 32 (u.get PMU_STAT.DIPSUP)) sup sup 0).toNat
      if (List.range 6).any (fun i => i != sup && nth x.pmu.low i false) then
        { x with pmu := { x.pmu with low := modNth x.pmu.low sup (fun _ => false) } }
      else x) := by
  rw [State.supplyBack, if_neg (Nat.ne_of_gt hw)]
  simp only [hx, true_and]

/-! The mode requests outside Hold-on-dip (R406 to R411). -/

theorem ctlAct_plain {v : Word} (h8 : wbit v 8 = false) (h4 : wbit v 4 = false) : s.ctlAct v = s.holdWrite (wbit v 0) := by
  rw [State.ctlAct, h8, h4]
  rfl

theorem ctlAct_qexit {v : Word} (h8 : wbit v 8 = true) (h4 : wbit v 4 = false) :
    s.ctlAct v = (s.holdWrite (wbit v 0)).qexitWrite := by
  rw [State.ctlAct, h8, h4]
  rfl

theorem ctlAct_ember {v : Word} (h8 : wbit v 8 = false) (h4 : wbit v 4 = true) :
    s.ctlAct v = (s.holdWrite (wbit v 0)).emberWrite := by
  rw [State.ctlAct, h8, h4]
  rfl

theorem holdWrite_enter (h : s.mode = modeRun ∨ s.mode = modeGraze ∨ s.mode = modeQuench) :
    s.holdWrite true = (s.set PMU_CTL.HOLD_REQ 1).putDue 1 := by
  rw [State.holdWrite, if_pos rfl, if_pos h]

theorem holdWrite_leave (h : s.mode = modeHold) (hc : s.holdExitCheck = 0) : s.holdWrite false = s.putDue 2 := by
  rw [State.holdWrite, if_neg Bool.false_ne_true, if_pos h, hc]
  rfl

theorem qexitWrite_leave (h : s.mode = modeQuench) (hd : s.on BLW_STAT.DQ = false) (hc : s.holdExitCheck = 0) :
    s.qexitWrite = s.putDue 4 := by
  rw [State.qexitWrite, if_neg (not_not.mpr h), hd, if_neg Bool.false_ne_true, hc]
  rfl

theorem emberWrite_enter (hc : s.emberCheck = 0) : s.emberWrite = s.emberEnter := by
  rw [State.emberWrite, hc]
  rfl

theorem lowSupply_of_find {i : Nat} (h : (List.range 6).find? (fun i => nth s.pmu.low i false) = some i) : s.lowSupply = i := by
  rw [State.lowSupply, h]
  rfl

end

/-- Settles O23: each row is the equation of its case in the mode logic. -/
theorem modeRowsComplete : Obligations.ModeRowsComplete := by
  unfold Obligations.ModeRowsComplete
  refine ⟨fun s w ha hw hd => ?_, fun s ha => ⟨fun hm hl => ?_, fun hon => ?_⟩, fun s hon => ?_, fun s k he hk hreq hp => ?_,
    fun s he hp => ?_, fun s u sup mv ha hs hlow hm _ hu hd => ?_, fun s sup mv hs hm => ?_,
    fun s u sup mv ha hs hm hw hx hu => ?_, fun s i ha hd hi => ?_, fun s w ha hw => ?_⟩
  · refine ⟨fun hmay hmode => ?_, fun hmay hmode hc => ?_, fun v u hv hmay h4 h8 hu hq hdq hc => ?_,
      fun v u hv hmay h8 h4 hu hc => ?_⟩
    · rw [(exec_modeRequests ha hw hmay).1 rfl, ctlWrite_noDip hd, ctlAct_plain (by decide) (by decide)]
      exact congrArg (fun t : State => Host.Outcome.next (t.keep s)) (holdWrite_enter hmode)
    · rw [(exec_modeRequests ha hw hmay).2.1 rfl, ctlWrite_noDip hd, ctlAct_plain (by decide) (by decide)]
      exact congrArg (fun t : State => Host.Outcome.next (t.keep s)) (holdWrite_leave hmode hc)
    · subst hu
      rw [(exec_modeRequests ha hw hmay).2.2.1 hv, ctlWrite_noDip hd, ctlAct_qexit h8 h4, qexitWrite_leave hq hdq hc]
    · subst hu
      rw [(exec_modeRequests ha hw hmay).2.2.2 hv, ctlWrite_noDip hd, ctlAct_ember h8 h4, emberWrite_enter hc]
  · exact (exec_holdLimit s).trans (runs_next rfl ha (if_pos ⟨hm, hl⟩))
  · exact (exec_watchdogWarn s).trans (runs_next rfl ha (if_pos hon))
  · exact (exec_etimerMatch s).trans (runsEver_next rfl (if_pos hon))
  · exact exec_emberWake_wakes (by simp [wfEmberWake, WakeSrc.wf, hk]) he (by simp [State.wakes, hreq, hp])
  · exact exec_emberWake_wakes rfl he (by simp [State.wakes, hp])
  · subst hu
    exact ⟨_, exec_supplyDip_enters ha hs hm hlow hd, rfl⟩
  · refine ⟨fun he h5 => exec_supplyDip_deaf he h5, fun he h5 => exec_supplyDip_dead hs hm (by simp [State.alive, he]) (fun _ => h5),
      fun k he hk hne => exec_supplyDip_dead hs hm (by simp [State.alive, he, hk, hne]) (by simp [he])⟩
  · subst hu
    have hback : warnMv sup ≤ mv := by
      unfold exitMv at hx
      omega
    exact ⟨_, exec_supplyDip_back ha hs hm hback, supplyBack_exit hw hx⟩
  · have hi' := lowSupply_of_find hi
    subst hi'
    exact ⟨s.dipRecorded s.lowSupply, exec_dipExit_eq ha hd, rfl⟩
  · refine ⟨fun v hv hmay _ => exec_watchdogEnable_eq ha hw hv hmay, fun hmay => ?_⟩
    rw [exec_watchdogKick_eq ha hw (by decide) hmay, State.wdtKick, if_pos rfl]

end Sys2Proof.Machine
end

section
/-! PROOFS. The rows of interrupts, tasks and the Drover, and of flash, journal, OTP and MRAM (R305, R315 to R319, R333, R337, R381, R389, R392, R399, R400). -/

namespace Sys2Proof.Machine
open Sys2Proof

section
variable {s : State} {p off : Nat} {f : Req → Bool} {rq : Req}

/-- A machine check that waits at the boundary is taken before the request (R312). -/
theorem enterIf_boundary (hc : s.canEnter p = true) (he : (s.eligible p).isSome = true) (hb : (s.core p).boundary ≠ []) :
    s.enterIf p off f = s.takeBoundary p := by
  have hopen : ¬ (!s.canEnter p || (s.eligible p).isNone) = true := by
    rw [hc, ← Option.not_isSome, he]
    decide
  have hwaits : (!(s.core p).boundary.isEmpty) = true := by
    rw [Bool.not_eq_true', List.isEmpty_eq_false_iff]
    exact hb
  rw [State.enterIf, if_neg hopen, if_pos hwaits]

/-- Without one, everything issued lands and the highest request then decides (R305). -/
theorem enterIf_landed (hc : s.canEnter p = true) (he : (s.eligible p).isSome = true) (hb : (s.core p).boundary = []) :
    s.enterIf p off f = match (s.landAll p).eligible p with
      | none => s.landAll p
      | some rq =>
        if f rq then
          (s.landAll p).service p off (fun t => match t.eligible p with
            | some rq => t.enterRequest p rq none
            | none => t)
        else s := by
  have hopen : ¬ (!s.canEnter p || (s.eligible p).isNone) = true := by
    rw [hc, ← Option.not_isSome, he]
    decide
  rw [State.enterIf, if_neg hopen, hb]
  rfl

theorem enterIf_none (hc : s.canEnter p = true) (he : (s.eligible p).isSome = true) (hb : (s.core p).boundary = [])
    (hn : (s.landAll p).eligible p = none) : s.enterIf p off f = s.landAll p := by
  rw [enterIf_landed hc he hb, hn]

theorem enterIf_enters (hc : s.canEnter p = true) (he : (s.eligible p).isSome = true) (hb : (s.core p).boundary = [])
    (hrq : (s.landAll p).eligible p = some rq) (hf : f rq = true) (hs : (s.landAll p).serviceOk p off = true) :
    s.enterIf p off f = (s.landAll p).enterRequest p rq none := by
  rw [enterIf_landed hc he hb, hrq]
  dsimp only
  rw [if_pos hf, service_ok hs, hrq]

end

/-- Settles O16: each row is the case of its rule that its hypotheses name. -/
theorem interruptRowsComplete : Obligations.InterruptRowsComplete := by
  unfold Obligations.InterruptRowsComplete
  refine ⟨fun s n ha => ⟨fun hn hok hk => ?_, fun k hn hk hp => ?_⟩, fun s w i v ha hw hi hmay => ?_,
    fun s p ha hp hc he hb => ⟨?_, ?_⟩, fun s t p ha hp hc he hb ht => ?_, fun s w p sl ha hok hmay => ?_,
    fun s p ha hp hidle => ?_, fun s w p key ha hok hmay => exec_coreReset_eq ha hok hmay, fun s w ha hw hmay => ?_⟩
  · refine (exec_icuSourceEdge n s).trans (runs_next (by simp [wfIcuSourceEdge]; omega) ha ?_)
    rw [State.sourceEdge, hk]
    exact if_pos ⟨hn, hok⟩
  · refine (exec_icuSourceEdge n s).trans (runs_next (by simp [wfIcuSourceEdge]; omega) ha ?_)
    rw [State.sourceEdge, hk]
    exact if_pos hp
  · exact (exec_icuSoftwareSet w i v s).trans (runs_write (wf_and_lt hw hi) ha hmay rfl)
  · exact (exec_interruptEntry p s).trans (runs_next (decide_eq_true hp) ha (enterIf_boundary hc he hb))
  · exact (exec_taskActivation p s).trans (runs_next (decide_eq_true hp) ha (enterIf_boundary hc he hb))
  · subst ht
    refine ⟨fun n hrq hs => ?_, fun sl hrq hs => ?_, fun hn => ⟨?_, ?_⟩⟩
    · exact (exec_interruptEntry p s).trans (runs_next (decide_eq_true hp) ha (enterIf_enters hc he hb hrq rfl hs))
    · exact (exec_taskActivation p s).trans (runs_next (decide_eq_true hp) ha (enterIf_enters hc he hb hrq rfl hs))
    · exact (exec_interruptEntry p s).trans (runs_next (decide_eq_true hp) ha (enterIf_none hc he hb hn))
    · exact (exec_taskActivation p s).trans (runs_next (decide_eq_true hp) ha (enterIf_none hc he hb hn))
  · exact (exec_slotEnable w p sl s).trans (runs_next hok ha (asWrite_may hmay _))
  · exact (exec_dozeWake p s).trans (runs_next (decide_eq_true hp) ha (if_pos (beq_iff_eq.mpr hidle)))
  · exact (exec_icuCommitLock w s).trans (runs_write hw ha hmay rfl)

section
variable {s : State} {w : Who} {op half n : Nat} {rbuf : Bool}

/-- The flash operation that a command with these fields asks for, at the registers as they stand (R381). -/
def State.flashOpOf (s : State) (op : Nat) (rbuf : Bool) (half : Nat) : FlashOp :=
  { op := op, rbuf := rbuf, half := half, addr := s.get NVC_FADDR.ADDR, sram := (s.rd NVC_FSRAM).toNat, len := s.get NVC_FLEN.LEN }

/-- A command of a known operation, accepted, starts it. -/
theorem flashCommand_starts (hb : s.on NVC_FSTAT.BUSY = false) (hd : s.on NVC_FSTAT.DEFER = false) (hlo : 0 < op) (hhi : op < 5) :
    s.flashCommand op rbuf half = s.flashStart (s.flashOpOf op rbuf half) := by
  have hok : ¬ (s.on NVC_FSTAT.BUSY || s.on NVC_FSTAT.DEFER || decide (5 ≤ op)) = true := by
    rw [hb, hd]
    simp [hhi]
  rw [State.flashCommand, if_neg hok, if_neg (Nat.ne_of_gt hlo)]
  rfl

theorem flashStart_free (o : FlashOp) (hd : s.dip = false) :
    s.flashStart o = { s.set NVC_FSTAT.BUSY 1 with nvc := { s.nvc with fop := some o } } := by
  rw [State.flashStart, hd, if_neg Bool.false_ne_true]

theorem flashStart_dip (o : FlashOp) (hd : s.dip = true) :
    s.flashStart o = { s.set NVC_FSTAT.DEFER 1 with nvc := { s.nvc with fdefer := some o } } := by
  rw [State.flashStart, if_pos hd]

/-- The flash commands are writes of NVC_FCMD (R381). -/
theorem exec_flashRows {i : Instr} (ha : s.alive = true) (hw : w.wf = true) (hh : half < 2)
    (hmay : s.may w NVC_FCMD (fcmdWord op rbuf half) = true)
    (hi : (op = 1 ∧ rbuf = false ∧ half = 0 ∧ i = .flashRead w) ∨ (op = 2 ∧ half = 0 ∧ i = .flashProgram w rbuf)
      ∨ (op = 3 ∧ rbuf = false ∧ half = 0 ∧ i = .flashErase w) ∨ (op = 4 ∧ rbuf = false ∧ i = .jappend w half)) :
    exec i s = .next ((s.flashCommand op rbuf half).keep s) := by
  rcases hi with ⟨rfl, rfl, rfl, rfl⟩ | ⟨rfl, rfl, rfl⟩ | ⟨rfl, rfl, rfl, rfl⟩ | ⟨rfl, rfl, rfl⟩
  · exact (exec_flashRead w s).trans (runs_write hw ha hmay rfl)
  · exact (exec_flashProgram w rbuf s).trans (runs_write hw ha hmay rfl)
  · exact (exec_flashErase w s).trans (runs_write hw ha hmay rfl)
  · exact (exec_jappend w half s).trans (runs_write (wf_and_lt hw hh) ha hmay rfl)

/-- The flash engine as its operation ends: BUSY is 0 and none is in progress. -/
def State.flashFree (s : State) : State := { s.set NVC_FSTAT.BUSY 0 with nvc := { s.nvc with fop := none } }

/-- RESULT and what is left when operation `o` ends with the report `err` (R381). -/
def State.flashEnds (s : State) (o : FlashOp) (err : Nat) : Nat × State :=
  if err = 0 ∨ s.flashRefuse o ≠ 0 then s.flashRun o else (if err = 7 then 7 else 3, s)

theorem exec_flashOpDone_eq {err : Nat} {o : FlashOp} (ha : s.alive = true) (he : err < 16) (ho : s.nvc.fop = some o)
    (hs : o.susp = false) : exec (.flashOpDone err) s = .next ((((s.flashFree.flashEnds o err).2.set NVC_FSTAT.RESULT
      (s.flashFree.flashEnds o err).1).icuRaise 64).keep s) := by
  refine (exec_flashOpDone err s).trans (runs_next (decide_eq_true he) ha ?_)
  rw [ho]
  dsimp only
  rw [hs, if_neg Bool.false_ne_true]
  rfl

theorem flashEnds_run {o : FlashOp} : s.flashEnds o 0 = s.flashRun o := if_pos (.inl rfl)

theorem flashEnds_error {o : FlashOp} {err : Nat} (h0 : err ≠ 0) (hr : s.flashRefuse o = 0) :
    s.flashEnds o err = (if err = 7 then 7 else 3, s) := if_neg (by simp [h0, hr])

/-- A fuse command with an operation makes the fuses busy, to begin at once or after Hold-on-dip (R389). -/
theorem otpCommand_starts (hb : s.on OTP_STAT.BUSY = false) (hlo : 0 < op) (hhi : op < 3) :
    s.otpCommand op n = { s.set OTP_STAT.BUSY 1 with
      nvc := if (s.set OTP_STAT.BUSY 1).dip then { (s.set OTP_STAT.BUSY 1).nvc with odefer := some (op, n, s.rd OTP_DATA) }
        else { (s.set OTP_STAT.BUSY 1).nvc with oop := some (op, n, s.rd OTP_DATA) } } := by
  have hok : ¬ (s.on OTP_STAT.BUSY || decide (3 ≤ op)) = true := by
    rw [hb]
    simp [hhi]
  rw [State.otpCommand, if_neg hok, if_neg (Nat.ne_of_gt hlo)]

end

/-- Settles O22: each command is accepted in the state given, and each end is the equation of its engine. -/
theorem storageRowsComplete : Obligations.StorageRowsComplete := by
  unfold Obligations.StorageRowsComplete
  refine ⟨fun s w op half rbuf i ha hw hh hmay hb hd hi => ?_, fun s u o ha ho hs hu => ?_, fun s u w n ha hw hn hb hu => ?_,
    fun s u n d ok ha hu => ⟨fun ho => ?_, fun ho => ?_⟩, fun s u x r rs ha he hr hl hq hu hx => ?_, fun s w ha hw hmay => ?_,
    fun s ha hm => ?_⟩
  · have hop : 0 < op ∧ op < 5 := by omega
    rw [exec_flashRows ha hw hh hmay hi, flashCommand_starts hb hd hop.1 hop.2]
    exact ⟨fun hdip => by rw [flashStart_free _ hdip]; rfl, fun hdip => by rw [flashStart_dip _ hdip]; rfl⟩
  · replace hu : u = s.flashFree := hu
    subst hu
    refine ⟨?_, fun hr => ⟨?_, ?_⟩⟩
    · rw [exec_flashOpDone_eq ha (by decide) ho hs, flashEnds_run]
    · rw [exec_flashOpDone_eq ha (by decide) ho hs, flashEnds_error (by decide) hr, if_neg (by decide)]
    · rw [exec_flashOpDone_eq ha (by decide) ho hs, flashEnds_error (by decide) hr, if_pos rfl]
  · subst hu
    refine ⟨fun hmay => ?_, fun hmay => ?_⟩
    · exact (exec_otpProg w n s).trans (runs_write (wf_and_lt hw hn) ha hmay (otpCommand_starts hb (by decide) (by decide)))
    · exact (exec_otpAdvance w s).trans (runs_write hw ha hmay (otpCommand_starts hb (by decide) (by decide)))
  · replace hu : u = s.fusesFree := hu
    rw [hu, exec_otpOpDone_run ha ho, State.otpRun, if_pos rfl]
  · replace hu : u = s.fusesFree := hu
    rw [hu, exec_otpOpDone_run ha ho, State.otpRun, if_neg (by decide)]
  · subst hu hx
    have hopen : ¬ (s.pmu.ember || s.pmu.rst.isSome || s.nvc.mrLost) = true := by
      rw [he, hr, hl]
      decide
    refine (exec_mramRecordWrite s).trans (runs_next rfl ha ((if_neg hopen).trans ?_))
    rw [State.mrWrite, hq]
  · exact (exec_mramPost w s).trans (runs_write hw ha hmay rfl)
  · refine (exec_runSecond s).trans (runs_next rfl ha (if_pos ?_))
    simpa using hm

end Sys2Proof.Machine
end

section
/-! PROOFS. The descriptor commands of the host (R349 to R354). -/

namespace Sys2Proof.Machine
open Sys2Proof

section
variable {s t u : State} {q n h op k st : Nat} {d : Desc} {ok : Bool} {r : Word}
  {act : Desc → State → (Nat × Word) × State} {i : DescErr → Instr}

/-- A descriptor that is served next executes and completes with what its effect answers (R351, R352). -/
theorem runs_served (hok : ok = true) (ha : s.alive = true) (hs : s.serves q d = true) (hop : d.b 0 = op) (hst : st ≠ 1)
    (hact : act d s.settle = ((st, r), t)) :
    runs ok s (fun s => s.engine q (· == op) act) = .next ((t.finished q d st r).keep s) := by
  refine runs_next hok ha ?_
  rw [engine_serves hs (· == op) (beq_iff_eq.mpr hop), hact]
  dsimp only
  rw [if_neg hst]
  rfl

/-- One whose buffered copy fails completes with status 1 and has executed nothing (R351; log entry 90). -/
theorem runs_bufferFails (hok : ok = true) (ha : s.alive = true) (hs : s.serves q d = true) (hop : d.b 0 = op)
    (hact : act d s.settle = ((1, 0), s.settle)) :
    runs ok s (fun s => s.engine q (· == op) act) = .next ((((s.settle.turn q).complete q 1 0).settle).keep s) := by
  refine runs_next hok ha ?_
  rw [engine_serves hs (· == op) (beq_iff_eq.mpr hop), hact]
  dsimp only
  rw [if_pos rfl]

/-- The queue that is served next is ready (R352). -/
theorem sqReady_of_sqNext (h : s.sqNext = some q) : s.sqReady q = true := by
  unfold State.sqNext at h
  split at h
  case isTrue h0 =>
    cases h
    exact h0
  case isFalse => exact List.find?_some h

/-- A descriptor that is served has passed its checks (R351). -/
theorem descStatus_of_serves (hs : s.serves q d = true) : s.settle.descStatus d = 0 := by
  obtain ⟨hnext, tl, htl⟩ := serves_cases hs
  have hready := sqReady_of_sqNext hnext
  rw [State.sqReady, htl] at hready
  simp only [Bool.and_eq_true, beq_iff_eq] at hready
  exact hready.1.1.2

theorem shape_of_serves (hs : s.serves q d = true) : d.shape = 0 := by
  have h := descStatus_of_serves hs
  unfold State.descStatus at h
  split_ifs at h with hcrc hshape
  · exact not_not.mp hshape
  · exact not_not.mp hshape

/-- A REGW that passes its checks writes at least one register (R350). -/
theorem regw_writes (hop : d.b 0 = 0x01) (hshape : d.shape = 0) : 0 < d.b 8 := by
  unfold Desc.shape at hshape
  rw [hop] at hshape
  simp at hshape
  omega

theorem descWrites_regw (hop : d.b 0 = 0x01) : s.descWrites d = regwWrites d := by
  rw [State.descWrites, if_pos hop]

theorem regwWrites_length : (regwWrites d).length = d.b 8 := by
  simp [regwWrites]

theorem descWrites_railVset (hop : d.b 0 = 0x10) :
    s.descWrites d = [(RLC_RAIL_HREF (d.b 8), putBits (BitVec.ofNat 32 (d.f 10 2)) 31 31 (d.b 9))] := by
  simp [State.descWrites, hop]

theorem descWrites_phaseCmd (hop : d.b 0 = 0x12) :
    s.descWrites d = [(PHA_PH_CMD, BitVec.ofNat 32 (d.b 9 * 2 ^ 16 + d.b 8))] := by
  simp [State.descWrites, hop]

theorem descWrites_quench (hop : d.b 0 = 0x13) :
    s.descWrites d = [(BLW_QCMD, BitVec.ofNat 32 (d.b 9 * 2 ^ 30 + d.b 8))] := by
  simp [State.descWrites, hop]

theorem descWrite_single {a : Nat} {v : Word} (h : s.descWrites d = [(a, v)]) :
    s.descWrite .sound d = ((0, 0), s.regEffect a v) := by
  rw [State.descWrite, h]
  rfl

theorem descWrite_parity (hk : k < (s.descWrites d).length) : s.descWrite (.parity k) d
    = ((5, 0), s.each ((s.descWrites d).take k) (fun s w => s.regEffect w.1 w.2)) := by
  rw [State.descWrite]
  exact if_pos hk

theorem descWrite_parity_first (hany : 0 < (s.descWrites d).length) : s.descWrite (.parity 0) d = ((5, 0), s) := by
  rw [descWrite_parity hany, List.take_zero, State.each, List.foldl_nil]

/-- Every opcode that writes through `descWrite` has a write to make. -/
theorem descWrites_some (hop : d.b 0 = 0x01 ∨ d.b 0 = 0x10 ∨ d.b 0 = 0x12 ∨ d.b 0 = 0x13) (hshape : d.shape = 0) :
    0 < (s.descWrites d).length := by
  rcases hop with h | h | h | h
  · rw [descWrites_regw h, regwWrites_length]
    exact regw_writes h hshape
  · rw [descWrites_railVset h]
    exact Nat.one_pos
  · rw [descWrites_phaseCmd h]
    exact Nat.one_pos
  · rw [descWrites_quench h]
    exact Nat.one_pos

/-- The row `i` of opcode `op` is refused where its buffered copy or its first access fails (R351). -/
def RefusesParity (s : State) (q : Nat) (d : Desc) (i : DescErr → Instr) : Prop :=
  exec (i .buffer) s = .next ((((s.settle.turn q).complete q 1 0).settle).keep s)
    ∧ exec (i (.parity 0)) s = .next ((s.settle.finished q d 5 0).keep s)

theorem refusesParity_access {act : Desc → State → (Nat × Word) × State} (ha : s.alive = true) (hq : q < 16)
    (hs : s.serves q d = true) (hop : d.b 0 = op)
    (hi : ∀ e, exec (i e) s = runs (decide (q < 16)) s (fun s => s.engine q (· == op) (accessGuard e act))) :
    RefusesParity s q d i :=
  ⟨(hi .buffer).trans (runs_bufferFails (decide_eq_true hq) ha hs hop rfl),
    (hi (.parity 0)).trans (runs_served (decide_eq_true hq) ha hs hop (by decide) rfl)⟩

theorem refusesParity_writes (ha : s.alive = true) (hq : q < 16) (hs : s.serves q d = true) (hop : d.b 0 = op)
    (hany : op = 0x01 ∨ op = 0x10 ∨ op = 0x12 ∨ op = 0x13)
    (hi : ∀ e, exec (i e) s = runs (decide (q < 16)) s (fun s => s.engine q (· == op) (fun d s => s.descWrite e d))) :
    RefusesParity s q d i := by
  have hw : 0 < (s.settle.descWrites d).length := descWrites_some (hop.symm ▸ hany) (shape_of_serves hs)
  exact ⟨(hi .buffer).trans (runs_bufferFails (decide_eq_true hq) ha hs hop rfl),
    (hi (.parity 0)).trans (runs_served (decide_eq_true hq) ha hs hop (by decide) (descWrite_parity_first hw))⟩

/-- Every opcode with an access is refused so. -/
theorem refusesParity_of_mem (ha : s.alive = true) (hq : q < 16) (hs : s.serves q d = true) (hop : d.b 0 = op)
    (hi : (op, i) ∈ [(0x01, Instr.regw q), (0x02, .regr q), (0x10, .railVset q), (0x11, .railOn q),
        (0x12, .phaseCmd q), (0x13, .quench q), (0x20, .capture q), (0x21, .capDump q), (0x22, .capRearm q)]) :
    RefusesParity s q d i := by
  simp only [List.mem_cons, Prod.mk.injEq, List.not_mem_nil, or_false] at hi
  rcases hi with ⟨ho, rfl⟩ | ⟨ho, rfl⟩ | ⟨ho, rfl⟩ | ⟨ho, rfl⟩ | ⟨ho, rfl⟩ | ⟨ho, rfl⟩ | ⟨ho, rfl⟩ | ⟨ho, rfl⟩ | ⟨ho, rfl⟩
  · exact refusesParity_writes ha hq hs (hop.trans ho) (by decide) (fun e => exec_regw q e s)
  · exact refusesParity_access ha hq hs (hop.trans ho) (fun e => exec_regr q e s)
  · exact refusesParity_writes ha hq hs (hop.trans ho) (by decide) (fun e => exec_railVset q e s)
  · exact refusesParity_access ha hq hs (hop.trans ho) (fun e => exec_railOn q e s)
  · exact refusesParity_writes ha hq hs (hop.trans ho) (by decide) (fun e => exec_phaseCmd q e s)
  · exact refusesParity_writes ha hq hs (hop.trans ho) (by decide) (fun e => exec_quench q e s)
  · exact refusesParity_access ha hq hs (hop.trans ho) (fun e => exec_capture q e s)
  · exact refusesParity_access ha hq hs (hop.trans ho) (fun e => exec_capDump q e s)
  · exact refusesParity_access ha hq hs (hop.trans ho) (fun e => exec_capRearm q e s)

/-- A firmware descriptor that is served next goes to the inbox (R354). -/
theorem exec_fwDescriptor_delivers (ha : s.alive = true) (hq : q < 16) (hs : s.serves q d = true) (hop : 0x80 ≤ d.b 0) :
    exec (.fwDescriptor q) s = .next ((s.settle.fwDeliver q d).keep s) := by
  obtain ⟨hnext, tl, htl⟩ := serves_cases hs
  have hserve : (s.settle.sqNext == some q && decide (0x80 ≤ d.b 0)) = true := by
    rw [hnext, decide_eq_true hop]
    simp
  refine (exec_fwDescriptor q s).trans (runs_next (decide_eq_true hq) ha ?_)
  dsimp only
  rw [htl]
  exact if_pos hserve

theorem fwComplete_delivered {v : Word} {ds : List Desc} (hf : (s.sqOf (getBits v 31 28)).fetched = d :: ds)
    (hfw : d.fw = true) (hst : getBits v 23 16 = 0 ∨ getBits v 23 16 = 6) :
    s.fwComplete v = ((s.executed (getBits v 31 28) d).complete (getBits v 31 28) (getBits v 23 16) (s.rd HIF_FWRES)).settle := by
  have hgo : (d.fw && (getBits v 23 16 == 0 || getBits v 23 16 == 6)) = true := by simp [hfw, hst]
  rw [State.fwComplete, hf]
  exact if_pos hgo

end

section
variable {s : State} {q n h : Nat}

theorem sqCount_emit (o : Out) : (s.emit o).sqCount q = s.sqCount q := rfl

/-- A read of a queue that runs, with a descriptor to bring, is made (R351, R352). -/
theorem fetch_made (hr : s.sqRuns q = true) (hn : 0 < n) : ¬ (!s.sqRuns q || decide (n = 0)) = true := by
  rw [hr]
  simp
  omega

end

/-- Settles O18: a descriptor that is served has the effect of its opcode, or of the check it fails. -/
theorem hostCommandRowsComplete : Obligations.HostCommandRowsComplete := by
  unfold Obligations.HostCommandRowsComplete
  refine ⟨fun s q n h ha hq hr hn hpos hh => ⟨?_, fun ds hlen => ?_⟩, fun s u q d ha hq hs hu => ?_,
    fun s w v d ds ha hw hmay hf hfw hst => ?_⟩
  · subst hn hh
    exact (exec_descriptorFetch q .error s).trans (runs_next (decide_eq_true hq) ha (if_neg (fetch_made hr hpos)))
  · have hmin : min n ds.length = n := by omega
    subst hn hh
    refine (exec_descriptorFetch q (.data ds) s).trans (runs_next (decide_eq_true hq) ha ((if_neg (fetch_made hr hpos)).trans ?_))
    dsimp only
    rw [hmin, sqCount_emit]
  · rw [hu]
    have hq' := decide_eq_true hq
    refine ⟨fun h => ?_, fun h => ?_, fun h => ?_, fun h => ?_, fun h => ?_, fun h => ?_, fun h => ?_, fun h => ?_, fun h => ?_,
      fun h => ?_, fun h => ?_, fun i op hop hi => ?_,
      fun k h hk => ?_⟩
    · exact (exec_hostNop q s).trans (runs_served hq' ha hs h (by decide) rfl)
    · refine (exec_regw q .sound s).trans (runs_served hq' ha hs h (by decide) ?_)
      rw [State.descWrite, descWrites_regw h]
    · exact (exec_regr q .sound s).trans (runs_served hq' ha hs h (by decide) rfl)
    · exact (exec_railVset q .sound s).trans (runs_served hq' ha hs h (by decide) (descWrite_single (descWrites_railVset h)))
    · exact (exec_railOn q .sound s).trans (runs_served hq' ha hs h (by decide) rfl)
    · exact (exec_phaseCmd q .sound s).trans (runs_served hq' ha hs h (by decide) (descWrite_single (descWrites_phaseCmd h)))
    · exact (exec_quench q .sound s).trans (runs_served hq' ha hs h (by decide) (descWrite_single (descWrites_quench h)))
    · exact (exec_capture q .sound s).trans (runs_served hq' ha hs h (by decide) rfl)
    · exact (exec_capDump q .sound s).trans (runs_served hq' ha hs h (by decide) rfl)
    · exact (exec_capRearm q .sound s).trans (runs_served hq' ha hs h (by decide) rfl)
    · exact exec_fwDescriptor_delivers ha hq hs h
    · exact refusesParity_of_mem ha hq hs hop hi
    · refine (exec_regw q (.parity k) s).trans (runs_served hq' ha hs h (by decide) ?_)
      rw [descWrite_parity (by rw [descWrites_regw h, regwWrites_length]; exact hk), descWrites_regw h]
  · exact (exec_fwCompletion w v s).trans (runs_write hw ha hmay (fwComplete_delivered hf hfw hst))

end Sys2Proof.Machine
end

section
/-! PROOFS. The rows of the rings, doorbells and posts, and of capture and link (R344 to R348, R353, R358 to R366, R369, R370, R373). -/

namespace Sys2Proof.Machine
open Sys2Proof

section
variable {s u : State} {q c t : Nat} {v : Word}

/-- A request of the host acts while the function answers memory requests (R341). -/
theorem runs_host {ok : Bool} {f : State → State} (hok : ok = true) (ha : s.alive = true) (hm : s.memOn = true) (hu : f s = u) :
    runs ok s (fun s => s.hostMem false f) = .next (u.keep s) :=
  runs_next hok ha ((if_pos hm).trans hu)

theorem sqDoorbell_in (hu : u = (s.setDb (8 * q) v).fire [hDb q]) (hv : v.toNat < u.sqCount q) :
    s.sqDoorbell q v = u.modSq q (fun x => { x with tail := v.toNat }) := by
  rw [hu] at hv ⊢
  exact if_pos hv

theorem sqDoorbell_out (hu : u = (s.setDb (8 * q) v).fire [hDb q]) (hv : u.sqCount q ≤ v.toNat) :
    s.sqDoorbell q v = u.sqStop q 1 := by
  rw [hu] at hv ⊢
  exact if_neg (Nat.not_lt.mpr hv)

theorem cqDoorbell_in (hu : u = s.setDb (0x80 + 8 * c) v) (hv : v.toNat < u.cqCount c) :
    s.cqDoorbell c v = u.modCq c (fun x => { x with head := v.toNat }) := by
  rw [hu] at hv ⊢
  exact if_pos hv

theorem cqDoorbell_out (hu : u = s.setDb (0x80 + 8 * c) v) (hv : u.cqCount c ≤ v.toNat) :
    s.cqDoorbell c v = (u.set (HIF_CQ_STAT.ERR c) 1).fireHif 6 := by
  rw [hu] at hv ⊢
  exact if_neg (Nat.not_lt.mpr hv)

theorem trDoorbell_in (hu : u = s.setDb (0x100 + 8 * t) v) (hv : v.toNat < u.slabs t) :
    s.trDoorbell t v = u.modTr t (fun x => { x with head := v.toNat }) := by
  rw [hu] at hv ⊢
  exact if_pos hv

theorem trDoorbell_out (hu : u = s.setDb (0x100 + 8 * t) v) (hv : u.slabs t ≤ v.toNat) :
    s.trDoorbell t v = (u.set HIF_STAT.TRERR (u.get HIF_STAT.TRERR ||| 2 ^ t)).fireHif 6 := by
  rw [hu] at hv ⊢
  exact if_neg (Nat.not_lt.mpr hv)

theorem evDoorbell_in (hu : u = s.setDb 0x140 v) (hv : v.toNat < u.evCount) :
    s.evDoorbell v = { u with hif := { u.hif with evHead := v.toNat } } := by
  rw [hu] at hv ⊢
  exact if_pos hv

theorem evDoorbell_out (hu : u = s.setDb 0x140 v) (hv : u.evCount ≤ v.toNat) :
    s.evDoorbell v = (u.set HIF_EVR_CTL.ERR 1).fireHif 6 := by
  rw [hu] at hv ⊢
  exact if_neg (Nat.not_lt.mpr hv)

/-- The event ring takes records while DMA is on, it is enabled and it is not stopped (R348, R358). -/
theorem evRing_open (hd : s.dmaOn = true) (hen : s.on HIF_EVR_CTL.EN = true) (herr : s.on HIF_EVR_CTL.ERR = false) :
    ¬ (!s.dmaOn || !s.on HIF_EVR_CTL.EN || s.on HIF_EVR_CTL.ERR) = true := by
  rw [hd, hen, herr]
  decide

end

/-- Settles O19: a doorbell is in range or not, and every other row acts under the conditions given. -/
theorem hostRingRowsComplete : Obligations.HostRingRowsComplete := by
  unfold Obligations.HostRingRowsComplete
  refine ⟨fun s u q v ha hm hq hu => ⟨fun hv => ?_, fun hv => ?_⟩,
    fun s u c v ha hm hc hu => ⟨fun hv => ?_, fun hv => ?_, ?_⟩,
    fun s u t v ha hm ht hu => ⟨fun hv => ?_, fun hv => ?_, fun hr => ?_⟩,
    fun s u v ha hm hu => ⟨fun hv => ?_, fun hv => ?_⟩, fun s w x ha hw hx hmay => ?_, fun s w q ha hw hq hmay => ?_,
    fun s w ha hw => ⟨fun hmay => ?_, fun hmay => ?_, fun hmay => ?_⟩,
    fun s ha hd hen herr => ⟨fun r hr => ?_, fun r rs hn hr => ?_⟩⟩
  · exact (exec_sqDoorbell q v s).trans (runs_host (decide_eq_true hq) ha hm (sqDoorbell_in hu hv))
  · exact (exec_sqDoorbell q v s).trans (runs_host (decide_eq_true hq) ha hm (sqDoorbell_out hu hv))
  · exact (exec_cqHeadDoorbell c v s).trans (runs_host (decide_eq_true hc) ha hm (congrArg State.settle (cqDoorbell_in hu hv)))
  · exact (exec_cqHeadDoorbell c v s).trans (runs_host (decide_eq_true hc) ha hm (congrArg State.settle (cqDoorbell_out hu hv)))
  · exact (exec_completionPost c s).trans (runs_next (decide_eq_true hc) ha rfl)
  · exact (exec_telemetryHeadDoorbell t v s).trans (runs_host (decide_eq_true ht) ha hm (trDoorbell_in hu hv))
  · exact (exec_telemetryHeadDoorbell t v s).trans (runs_host (decide_eq_true ht) ha hm (trDoorbell_out hu hv))
  · exact (exec_telemetryRecord t s).trans (runs_next (decide_eq_true ht) ha (if_pos hr))
  · exact (exec_eventHeadDoorbell v s).trans (runs_host rfl ha hm (evDoorbell_in hu hv))
  · exact (exec_eventHeadDoorbell v s).trans (runs_host rfl ha hm (evDoorbell_out hu hv))
  · exact (exec_ringRestart w x s).trans (runs_next (by rw [wfRingRestart, hw, hx]; rfl) ha (asWrite_may hmay _))
  · exact (exec_queueRestart w q s).trans (runs_next (wf_and_lt hw hq) ha (asWrite_may hmay _))
  · exact (exec_hostWorldLock w s).trans (runs_next hw ha (asWrite_may hmay _))
  · exact (exec_eventPost w s).trans (runs_write hw ha hmay rfl)
  · exact (exec_hifCommitLock w s).trans (runs_write hw ha hmay rfl)
  · refine (exec_eventRecordWrite s).trans (runs_next rfl ha ((if_neg (evRing_open hd hen herr)).trans ?_))
    rw [hr]
  · refine (exec_eventRecordWrite s).trans (runs_next rfl ha ((if_neg (evRing_open hd hen herr)).trans ?_))
    rw [hn, hr]

/-- Registers in a list that is not in canonical form: the entry of HIF_TR_STAT_0 stands before that of HIF_COMMIT, whose
address is lower, and hides it. The link is up and ring 1 is live. -/
def hiddenCommit : State :=
  { pmu := { rst := none }
    regs := [(HIF_STAT, 1), (HIF_TR_STAT 0, 0x80000000), (HIF_COMMIT, 1), (HIF_TR_CFG 1, 0x40000000)] }

/-- The same after a change of the link's rate. -/
def hiddenCommitRate : State := (hiddenCommit.set HIF_STAT.SPEED 4).set HIF_STAT.WIDTH 4

set_option maxRecDepth 100000 in
/-- Before any ring is judged the commit lock reads 0, so no ring counts as live. -/
theorem hiddenCommitRate_live : hiddenCommitRate.committedLive = [] := by decide

set_option maxRecDepth 100000 in
/-- The write that clears SUSP of ring 0 uncovers the lock, and ring 1 then counts as live and not as one that fits. -/
theorem hiddenCommitRate_refit : hiddenCommitRate.refit.on (HIF_TR_STAT.SUSP 1) = true := by decide

set_option maxRecDepth 100000 in
theorem hiddenCommitRate_cleared : (hiddenCommitRate.each (List.range 8) (fun x t => x.setb (HIF_TR_STAT.SUSP t) false)).on
    (HIF_TR_STAT.SUSP 1) = false := by decide

theorem keep_on (t s : State) (f : FRef) : (t.keep s).on f = t.on f := rfl

/-- Refutes O20: the clause of LINK_RATE_CHANGE speaks of every state, also of one whose register list is not in canonical form.
There the row, which asks for the live rings of the commit again at each write of SUSP, finds others than before the first one,
and suspends a ring that the clause leaves alone. -/
theorem not_captureLinkRowsComplete : ¬ Obligations.CaptureLinkRowsComplete := by
  unfold Obligations.CaptureLinkRowsComplete
  rintro ⟨_, _, _, _, _, hrate, _, _⟩
  have hclaim : exec (.linkRateChange 4 4) hiddenCommit = .next ((hiddenCommitRate.each (List.range 8) fun x t =>
      x.setb (HIF_TR_STAT.SUSP t) false).keep hiddenCommit) :=
    (hrate hiddenCommit hiddenCommitRate _ 4 4 [] [] (by decide) (by decide) (by decide) rfl
      (by rw [hiddenCommitRate_live]; rfl) (by rw [hiddenCommitRate_live]; rfl)
      (by rw [hiddenCommitRate_live]; rfl)).1 rfl
  have hrow : exec (.linkRateChange 4 4) hiddenCommit = .next (hiddenCommitRate.refit.keep hiddenCommit) :=
    (exec_linkRateChange 4 4 hiddenCommit).trans (runs_next rfl (by decide) (if_neg (by decide)))
  have hsame := congrArg (fun t : State => t.on (HIF_TR_STAT.SUSP 1)) (Host.Outcome.next.inj (hrow.symm.trans hclaim))
  simp only [keep_on, hiddenCommitRate_refit, hiddenCommitRate_cleared, Bool.true_eq_false] at hsame

end Sys2Proof.Machine
end

section
/-! PROOFS. The rows of the motion feedback unit (R426 to R438). -/

namespace Sys2Proof.Machine
open Sys2Proof

section
variable {s u x : State} {m sub : Nat} {f : State → State}

/-- A change of a channel raises its interrupt source where its flags rise (R438). -/
theorem mfuDo_eq (m : Nat) (hx : f s = x) :
    s.mfuDo m f = if s.mfuFlag m = false ∧ x.mfuFlag m = true then x.icuRaise (88 + m) else x := by
  rw [State.mfuDo, hx, State.when]
  cases s.mfuFlag m <;> cases x.mfuFlag m <;> rfl

/-- One that changes nothing raises nothing. -/
theorem mfuDo_same (m : Nat) (hx : f s = s) : s.mfuDo m f = s := by
  rw [mfuDo_eq m hx, if_neg]
  rintro ⟨hoff, hon⟩
  exact Bool.false_ne_true (hoff.symm.trans hon)

/-- An edge the latch does not select does nothing (R431). -/
theorem mfuLatch_other {lvl : Bool} (h : s.get (MFU_CH_CFG.LATEDGE m) = 0 ∧ lvl = false ∨ s.get (MFU_CH_CFG.LATEDGE m) = 1 ∧ lvl = true) :
    s.mfuLatch m lvl sub = s := by
  rw [State.mfuLatch]
  refine if_pos ?_
  rcases h with ⟨he, rfl⟩ | ⟨he, rfl⟩ <;> simp [he]

/-- An edge it selects meets a free latch or one in use (R431). -/
theorem mfuLatch_selected {lvl : Bool} (hen : s.on (MFU_CH_CFG.EN m) = true) (hf : s.on (MFU_CH_CFG.FUNC m) = false)
    (h : s.get (MFU_CH_CFG.LATEDGE m) = 2 ∨ s.get (MFU_CH_CFG.LATEDGE m) = 0 ∧ lvl = true
      ∨ s.get (MFU_CH_CFG.LATEDGE m) = 1 ∧ lvl = false) :
    (s.on (MFU_CH_STAT.LATV m) = true → s.mfuLatch m lvl sub = s.set (MFU_CH_STAT.LATOVR m) 1)
    ∧ (s.on (MFU_CH_STAT.LATV m) = false → x = s.wr (MFU_CH_LATPOS m) (s.rd (MFU_CH_POS m)) →
      s.mfuLatch m lvl sub = (((x.set (MFU_CH_LATTBC.TBC m) (x.tbu.tbc.toNat % 2 ^ 24)).set (MFU_CH_LATTBC.SUB m) (sub / 10 * 10)).set
        (MFU_CH_STAT.LATV m) 1).fire [hMfu m 1]) := by
  have hsel : ¬ (!s.on (MFU_CH_CFG.EN m) || s.on (MFU_CH_CFG.FUNC m)
      || !(s.get (MFU_CH_CFG.LATEDGE m) == 2 || (s.get (MFU_CH_CFG.LATEDGE m) == 0 && lvl)
        || (s.get (MFU_CH_CFG.LATEDGE m) == 1 && !lvl))) = true := by
    rw [hen, hf]
    rcases h with he | ⟨he, rfl⟩ | ⟨he, rfl⟩ <;> simp [he]
  refine ⟨fun hv => ?_, fun hv hx => ?_⟩
  · rw [State.mfuLatch, if_neg hsel, if_pos hv]
  · rw [hx, State.mfuLatch, if_neg hsel, hv, if_neg Bool.false_ne_true]

/-- The new levels are in force, and C/IDX has captured where it is the latch source (R431). -/
def State.edgeLatched (s : State) (m lv sub : Nat) : State :=
  let u := (s.modMf m (fun x => { x with lv := lv })).set (MFU_CH_STAT.HALL m) lv
  if u.on (MFU_CH_CFG.LATSRC m) && nbit (s.mf m).lv 2 != nbit lv 2 then u.mfuLatch m (nbit lv 2) sub else u

/-- Then the rule of the mode, `v`, is applied (R426 to R428). -/
def State.edgeRuled (w : State) (m mode : Nat) (v : Int × Bool) (clock : Nat) : State :=
  if !w.on (MFU_CH_CFG.EN m) then w
  else if v.2 then (w.set (if mode = 1 then MFU_CH_STAT.QERR m else MFU_CH_STAT.HALLERR m) 1).fire [hMfu m 2]
  else
    let c := if w.on (MFU_CH_CFG.DIRINV m) then - v.1 else v.1
    if c = 0 then w
    else if w.on (MFU_CH_CFG.HYST m) && (mode == 1 || mode == 4) && (w.on (MFU_CH_STAT.DIR m) != decide (0 < c)) then
      w.setb (MFU_CH_STAT.DIR m) (decide (0 < c))
    else w.mfuCount m c clock

theorem execMfuEdge_eq (m lv : Nat) (time : MfuTime) : execMfuEdge m lv time s
    = runs (wfMfuEdge m lv time) s (fun s => s.instant (fun s => s.mfuDo m (fun s =>
      (s.edgeLatched m lv time.sub).edgeRuled m (s.get (MFU_CH_CFG.MODE m)) (mfuRule (s.get (MFU_CH_CFG.MODE m)) (s.mf m).lv lv)
        time.clock))) := rfl

theorem edgeLatched_eq {lv : Nat} (hu : u = (s.modMf m (fun x => { x with lv := lv })).set (MFU_CH_STAT.HALL m) lv) :
    s.edgeLatched m lv sub = if u.on (MFU_CH_CFG.LATSRC m) = true ∧ nbit (s.mf m).lv 2 ≠ nbit lv 2 then u.mfuLatch m (nbit lv 2) sub
      else u := by
  rw [State.edgeLatched, ← hu]
  simp only [Bool.and_eq_true, bne_iff_ne]

/-- What the rule leaves, case by case: the channel is off, a sequence error, no count, a count that hysteresis absorbs, or a
count (R426 to R428; log entry 87). -/
theorem edgeRuled_cases {w : State} {mode clock : Nat} {v : Int × Bool} {c : Int}
    (hc : c = (if w.on (MFU_CH_CFG.DIRINV m) then - v.1 else v.1)) (hx : x = w.edgeRuled m mode v clock) :
    w.on (MFU_CH_CFG.EN m) = false ∧ x = w
    ∨ w.on (MFU_CH_CFG.EN m) = true ∧ v.2 = true
      ∧ x = (w.set (if mode = 1 then MFU_CH_STAT.QERR m else MFU_CH_STAT.HALLERR m) 1).fire [hMfu m 2]
    ∨ w.on (MFU_CH_CFG.EN m) = true ∧ v.2 = false ∧ v.1 = 0 ∧ x = w
    ∨ w.on (MFU_CH_CFG.EN m) = true ∧ v.2 = false ∧ v.1 ≠ 0 ∧ w.on (MFU_CH_CFG.HYST m) = true
      ∧ (mode = 1 ∨ mode = 4) ∧ w.on (MFU_CH_STAT.DIR m) ≠ decide (0 < c) ∧ x = w.setb (MFU_CH_STAT.DIR m) (decide (0 < c))
    ∨ w.on (MFU_CH_CFG.EN m) = true ∧ v.2 = false ∧ v.1 ≠ 0 ∧ (w.on (MFU_CH_CFG.HYST m) = false
      ∨ (mode ≠ 1 ∧ mode ≠ 4) ∨ w.on (MFU_CH_STAT.DIR m) = decide (0 < c)) ∧ x = w.mfuCount m c clock := by
  have hzero : c = 0 ↔ v.1 = 0 := by
    rw [hc]
    split
    · exact neg_eq_zero
    · exact Iff.rfl
  have habs : (w.on (MFU_CH_CFG.HYST m) && (mode == 1 || mode == 4) && (w.on (MFU_CH_STAT.DIR m) != decide (0 < c))) = true
      ↔ w.on (MFU_CH_CFG.HYST m) = true ∧ (mode = 1 ∨ mode = 4) ∧ w.on (MFU_CH_STAT.DIR m) ≠ decide (0 < c) := by
    simp only [Bool.and_eq_true, Bool.or_eq_true, beq_iff_eq, bne_iff_ne, and_assoc]
  rw [State.edgeRuled, ← hc] at hx
  cases hen : w.on (MFU_CH_CFG.EN m)
  case false =>
    rw [hen, if_pos (by rfl)] at hx
    exact .inl ⟨rfl, hx⟩
  refine .inr ?_
  rw [hen, if_neg (by decide)] at hx
  cases herr : v.2
  case true =>
    rw [herr, if_pos rfl] at hx
    exact .inl ⟨rfl, rfl, hx⟩
  refine .inr ?_
  rw [herr, if_neg Bool.false_ne_true] at hx
  by_cases h0 : v.1 = 0
  · exact .inl ⟨rfl, rfl, h0, hx.trans (if_pos (hzero.mpr h0))⟩
  refine .inr ?_
  replace hx := hx.trans (if_neg (mt hzero.mp h0))
  by_cases hh : w.on (MFU_CH_CFG.HYST m) = true ∧ (mode = 1 ∨ mode = 4) ∧ w.on (MFU_CH_STAT.DIR m) ≠ decide (0 < c)
  · exact .inl ⟨rfl, rfl, h0, hh.1, hh.2.1, hh.2.2, hx.trans (if_pos (habs.mpr hh))⟩
  · refine .inr ⟨rfl, rfl, h0, ?_, hx.trans (if_neg (mt habs.mp hh))⟩
    rcases not_and_or.mp hh with hoff | hh
    · exact .inl (Bool.eq_false_iff.mpr hoff)
    rcases not_and_or.mp hh with hmode | hdir
    · exact .inr (.inl (not_or.mp hmode))
    · exact .inr (.inr (not_not.mp hdir))

/-! The speed update (R433). -/

/-- SPD takes a speed, and the event of the update fires. -/
def State.putSpeed (s : State) (m : Nat) (v : Int) : State := (s.seti (MFU_CH_SPD.SPD m) v).fire [hMfu m 3]

/-- The update of a channel that counts, before its interrupt source is judged. -/
def State.speedTaken (s : State) (m time : Nat) : State :=
  let c := s.mf m
  let prev := s.geti (MFU_CH_SPD.SPD m)
  let u := s.modMf m (fun x => { x with e1 := x.e2, n := 0, upd := true })
  if c.n ≠ 0 then
    let u := u.set (MFU_CH_STAT.STALL m) 0
    if !c.upd then u.putSpeed m 0
    else match c.e1, c.e2 with
      | some a, some b => if a < b then u.putSpeed m (spdOf c.n (b - a)) else u.drawn.putSpeed m (sword u.freeVal)
      | _, _ => u.drawn.putSpeed m (sword u.freeVal)
  else match c.e2 with
    | none => ((u.drawn).setb (MFU_CH_STAT.STALL m) (wbit u.freeVal 0)).putSpeed m 0
    | some b =>
      if b + u.get (MFU_CH_SPDCFG.STALL_US m) * 100 < time then (u.set (MFU_CH_STAT.STALL m) 1).putSpeed m 0
      else if !c.upd then u.putSpeed m 0
      else if time ≤ b then u.drawn.putSpeed m (sword u.freeVal)
      else u.putSpeed m (prev.sign * ((min (absI prev) (1600000000 / (time - b)) : Nat) : Int))

theorem execSpeedUpdate_eq (m time : Nat) : execSpeedUpdate m time s
    = runs (wfSpeedUpdate m time) s (fun s => s.mfuDo m (fun s =>
      if !s.on (MFU_CH_CFG.EN m) || s.get (MFU_CH_CFG.MODE m) == 0 || s.tbu.tbc.toNat % s.get (MFU_CH_SPDCFG.UPDT m) != 0 then s
      else s.speedTaken m time)) := rfl

section
variable {b time : Nat} (hu : u = s.modMf m (fun x => { x with e1 := x.e2, n := 0, upd := true }))
include hu

/-- With no count since the last update and none ever, the speed is 0 and STALL is free. -/
theorem speedTaken_never (hn : (s.mf m).n = 0) (he : (s.mf m).e2 = none) :
    s.speedTaken m time = ((u.drawn).setb (MFU_CH_STAT.STALL m) (wbit u.freeVal 0)).putSpeed m 0 := by
  rw [State.speedTaken, ← hu, if_neg (not_not.mpr hn), he]

theorem speedTaken_stalled (hn : (s.mf m).n = 0) (he : (s.mf m).e2 = some b)
    (hb : b + u.get (MFU_CH_SPDCFG.STALL_US m) * 100 < time) :
    s.speedTaken m time = (u.set (MFU_CH_STAT.STALL m) 1).putSpeed m 0 := by
  rw [State.speedTaken, ← hu, if_neg (not_not.mpr hn), he]
  exact if_pos hb

theorem speedTaken_first_still (hup : (s.mf m).upd = false) (hn : (s.mf m).n = 0) (he : (s.mf m).e2 = some b)
    (hb : time ≤ b + u.get (MFU_CH_SPDCFG.STALL_US m) * 100) : s.speedTaken m time = u.putSpeed m 0 := by
  rw [State.speedTaken, ← hu, if_neg (not_not.mpr hn), he, hup]
  exact (if_neg (Nat.not_lt.mpr hb)).trans (if_pos rfl)

theorem speedTaken_early (hup : (s.mf m).upd = true) (hn : (s.mf m).n = 0) (he : (s.mf m).e2 = some b) (hb : time ≤ b) :
    s.speedTaken m time = u.drawn.putSpeed m (sword u.freeVal) := by
  have hnot : ¬ b + u.get (MFU_CH_SPDCFG.STALL_US m) * 100 < time := by omega
  rw [State.speedTaken, ← hu, if_neg (not_not.mpr hn), he, hup]
  exact (if_neg hnot).trans ((if_neg (by decide)).trans (if_pos hb))

theorem speedTaken_slowing (hup : (s.mf m).upd = true) (hn : (s.mf m).n = 0) (he : (s.mf m).e2 = some b) (hb : b < time)
    (hs : time ≤ b + u.get (MFU_CH_SPDCFG.STALL_US m) * 100) :
    s.speedTaken m time = u.putSpeed m ((s.geti (MFU_CH_SPD.SPD m)).sign
      * ((min (absI (s.geti (MFU_CH_SPD.SPD m))) (1600000000 / (time - b)) : Nat) : Int)) := by
  rw [State.speedTaken, ← hu, if_neg (not_not.mpr hn), he, hup]
  exact (if_neg (Nat.not_lt.mpr hs)).trans ((if_neg (by decide)).trans (if_neg (Nat.not_le.mpr hb)))

theorem speedTaken_first (hup : (s.mf m).upd = false) (hn : (s.mf m).n ≠ 0) :
    s.speedTaken m time = (u.set (MFU_CH_STAT.STALL m) 0).putSpeed m 0 := by
  rw [State.speedTaken, ← hu, if_pos hn, hup]
  exact if_pos rfl

theorem speedTaken_measured {a : Nat} (hup : (s.mf m).upd = true) (hn : (s.mf m).n ≠ 0) (h1 : (s.mf m).e1 = some a)
    (h2 : (s.mf m).e2 = some b) (hab : a < b) :
    s.speedTaken m time = (u.set (MFU_CH_STAT.STALL m) 0).putSpeed m (spdOf (s.mf m).n (b - a)) := by
  rw [State.speedTaken, ← hu, if_pos hn, hup, h1, h2]
  exact (if_neg (by decide)).trans (if_pos hab)

/-- Counts with no time between them give a free speed (log entry 87). -/
theorem speedTaken_free (hup : (s.mf m).upd = true) (hn : (s.mf m).n ≠ 0)
    (h : ∀ a b, (s.mf m).e1 = some a → (s.mf m).e2 = some b → b ≤ a) :
    s.speedTaken m time = (u.set (MFU_CH_STAT.STALL m) 0).drawn.putSpeed m (sword (u.set (MFU_CH_STAT.STALL m) 0).freeVal) := by
  rw [State.speedTaken, ← hu, if_pos hn, hup]
  refine (if_neg (by decide)).trans ?_
  split
  next a b h1 h2 => exact if_neg (Nat.not_lt.mpr (h a b h1 h2))
  next => rfl

end

/-! The drive (R435, R436). -/

/-- The command in force: of the register, of the fallback or of the lane (R435, R436). -/
def State.driveCommand (u : State) (m : Nat) : Int :=
  if !u.on (MFU_CH_DRV.OSRC m) then u.geti (MFU_CH_CMD.CMD m)
  else if u.on (MFU_CH_STAT.FBACT m) then u.geti (MFU_CH_FB.FBD m)
  else floorDiv (u.mf m).laneOut ((2 ^ u.get (MFU_CH_DRV.OSHIFT m) : Nat) : Int)

/-- The duty it gives: held at MAXD and PWMPER, and at or above 0 in unipolar drive. -/
def driveDuty (bipolar : Bool) (top c : Int) : Int :=
  if !bipolar && decide (clampI (-top) top c < 0) then 0 else clampI (-top) top c

/-- The period starts with command `c` and duty `d`. -/
def State.drivePut (u : State) (m : Nat) (c d : Int) : State :=
  (u.seti (MFU_CH_DUTY.D m) d).modMf m (fun x => { x with
    c := c
    high := absI d
    dir := if u.on (MFU_CH_DRV.BIPOLAR m) then (decide (d < 0) != u.on (MFU_CH_DRV.DIRPOL m)) else u.on (MFU_CH_DRV.DIRREG m) })

theorem execPwmPeriodStart_eq (m : Nat) : execPwmPeriodStart m s = runs (wfPwmPeriodStart m) s (fun s =>
    if s.pinsIdle then s.modMf m (fun x => { x with high := 0, dir := false })
    else (s.mfuFallback m).drivePut m ((s.mfuFallback m).driveCommand m) (driveDuty ((s.mfuFallback m).on (MFU_CH_DRV.BIPOLAR m))
      ((min ((s.mfuFallback m).get (MFU_CH_MAXD.MAXD m)) ((s.mfuFallback m).get (MFU_CH_DRV.PWMPER m)) : Nat) : Int)
      ((s.mfuFallback m).driveCommand m))) := rfl

theorem driveCommand_eq {c : Int} (hc : u.on (MFU_CH_DRV.OSRC m) = false ∧ c = u.geti (MFU_CH_CMD.CMD m)
    ∨ u.on (MFU_CH_DRV.OSRC m) = true ∧ u.on (MFU_CH_STAT.FBACT m) = true ∧ c = u.geti (MFU_CH_FB.FBD m)
    ∨ u.on (MFU_CH_DRV.OSRC m) = true ∧ u.on (MFU_CH_STAT.FBACT m) = false
      ∧ c = floorDiv (u.mf m).laneOut ((2 ^ u.get (MFU_CH_DRV.OSHIFT m) : Nat) : Int)) : u.driveCommand m = c := by
  unfold State.driveCommand
  rcases hc with ⟨ho, rfl⟩ | ⟨ho, hf, rfl⟩ | ⟨ho, hf, rfl⟩
  · rw [ho, if_pos (by rfl)]
  · rw [ho, hf, if_neg (by decide), if_pos rfl]
  · rw [ho, hf, if_neg (by decide), if_neg (by decide)]

theorem driveDuty_bipolar (top c : Int) : driveDuty true top c = clampI (-top) top c := rfl

theorem driveDuty_unipolar {top : Int} (ht : 0 ≤ top) (c : Int) : driveDuty false top c = max 0 (min top c) := by
  unfold driveDuty
  rw [clampI_eq_max_min (by omega)]
  by_cases hneg : max (-top) (min top c) < 0
  · rw [if_pos (by simpa using hneg)]
    omega
  · rw [if_neg (by simpa using hneg)]
    omega

end

/-- Settles O24: each row is its change of the channel, case by case, with the interrupt source judged once after it. -/
theorem motionRowsComplete : Obligations.MotionRowsComplete := by
  unfold Obligations.MotionRowsComplete
  refine ⟨fun m lv time g hm hlv hsub hg s ha => ?_, fun s x m sub lvl ha hm hsub => ⟨fun hl => ?_, fun hl hx => ?_⟩,
    fun s x m sub lvl hen hf => ⟨fun h => mfuLatch_other h, fun h => mfuLatch_selected hen hf h⟩,
    fun s w m v ha hw hm => ⟨fun hmay => ?_, fun hmay => ?_⟩,
    fun s u x m time ha hm => ⟨fun hoff => ?_, fun hen hmode hupd hu hx => ?_⟩,
    fun s u m ha hm => ⟨fun hi => ?_, fun c d top hi hu hc ht hd => ?_⟩, fun s m => ⟨fun h => ?_, fun ho hl => ?_⟩⟩
  · have hgs : (fun s : State => s.mfuDo m (fun s => (s.edgeLatched m lv time.sub).edgeRuled m (s.get (MFU_CH_CFG.MODE m))
        (mfuRule (s.get (MFU_CH_CFG.MODE m)) (s.mf m).lv lv) time.clock)) = g := by
      funext s
      rw [mfuDo_eq m rfl]
      exact (hg s _ _ rfl (edgeLatched_eq rfl) _ _ _ rfl rfl (edgeRuled_cases rfl rfl)).symm
    have hok : wfMfuEdge m lv time = true := by simp [wfMfuEdge, hm, hlv, hsub]
    rw [exec_mfuEdge, execMfuEdge_eq, hgs]
    exact runs_next hok ha rfl
  · have hok : wfProbeEdge m lvl sub = true := by simp [wfProbeEdge, hm, hsub]
    exact (exec_probeEdge m lvl sub s).trans (runs_next hok ha (mfuDo_same m (if_pos hl)))
  · have hok : wfProbeEdge m lvl sub = true := by simp [wfProbeEdge, hm, hsub]
    refine (exec_probeEdge m lvl sub s).trans (runs_next hok ha (mfuDo_eq m ?_))
    rw [hl, if_neg Bool.false_ne_true, hx]
  · exact (exec_posRead w m s).trans (runs_next (wf_and_lt hw hm) ha (asRead_may hmay _))
  · exact (exec_posWrite w m v s).trans (runs_write (wf_and_lt hw hm) ha hmay rfl)
  · rw [exec_speedUpdate, execSpeedUpdate_eq]
    refine runs_next (decide_eq_true hm) ha (mfuDo_same m (if_pos ?_))
    rcases hoff with h | h | h <;> simp [h]
  · have hdue : ¬ (!s.on (MFU_CH_CFG.EN m) || s.get (MFU_CH_CFG.MODE m) == 0
        || s.tbu.tbc.toNat % s.get (MFU_CH_SPDCFG.UPDT m) != 0) = true := by
      simp [hen, hmode, hupd]
    have htaken : s.speedTaken m time = x.fire [hMfu m 3] := by
      rcases hx with ⟨b, hup, hn, he, hb, rfl⟩ | ⟨hn, he, rfl⟩ | ⟨b, hup, hn, he, hb, rfl⟩ | ⟨hup, hn, rfl⟩
        | ⟨a, b, hup, hn, h1, h2, hab, rfl⟩ | ⟨hup, hn, h, rfl⟩ | ⟨b, hn, he, hb, rfl⟩ | ⟨b, hup, hn, he, hb, hs, rfl⟩
      · exact speedTaken_first_still hu hup hn he hb
      · exact speedTaken_never hu hn he
      · exact speedTaken_early hu hup hn he hb
      · exact speedTaken_first hu hup hn
      · exact speedTaken_measured hu hup hn h1 h2 hab
      · exact speedTaken_free hu hup hn h
      · exact speedTaken_stalled hu hn he hb
      · exact speedTaken_slowing hu hup hn he hb hs
    rw [exec_speedUpdate, execSpeedUpdate_eq]
    exact runs_next (decide_eq_true hm) ha (mfuDo_eq m ((if_neg hdue).trans htaken))
  · exact (exec_pwmPeriodStart m s).trans (runs_next (decide_eq_true hm) ha (if_pos hi))
  · have hrun : ¬ s.pinsIdle = true := Bool.eq_false_iff.mp hi
    have htop : 0 ≤ top := ht ▸ Int.natCast_nonneg _
    have hduty : driveDuty (u.on (MFU_CH_DRV.BIPOLAR m)) top c = d := by
      rcases hd with ⟨hb, rfl⟩ | ⟨hb, rfl⟩
      · rw [hb, driveDuty_bipolar]
      · rw [hb, driveDuty_unipolar htop]
    rw [exec_pwmPeriodStart, execPwmPeriodStart_eq]
    refine runs_next (decide_eq_true hm) ha ((if_neg hrun).trans ?_)
    rw [← hu, driveCommand_eq hc, ← ht, hduty]
    rfl
  · rw [State.mfuFallback]
    refine if_neg ?_
    rcases h with h | h
    · simp [h]
    · rw [← Option.not_isSome, h]
      simp
  · rw [State.mfuFallback, ho, hl]
    exact (if_pos rfl).trans (mfuDo_eq m rfl)

end Sys2Proof.Machine
end
